-- ==== Sys2Proof/Word.lean ====
section
/-! DEFINITION. The plain word types of the model: bytes, register words and instants of Whorl time. -/

namespace Sys2Proof

/-- A byte (00 R13, R14: bit 0 is the least significant). -/
abbrev Byte := BitVec 8

/-- A 32-bit register word (00 R14, R16; 01 R24). -/
abbrev Word := BitVec 32

/-- An instant of Whorl time, in whole nanoseconds of TAI counted from the PTP epoch (00 R22; 02 R808). -/
abbrev Time := Nat

end Sys2Proof
end

