-- ==== Sys2Proof/Vocab.lean ====
section
/-! DEFINITION. The vocabulary of the commands: the named kinds of the spec and the operands that the commands carry. An
operand holds what reaches the chip from outside: bytes of a message, the content of a received frame, a reading of a pin. -/

namespace Sys2Proof.Machine

/-- The routing levels (02 Table 2.6). -/
inductive Level where
  | video | audio | anc
deriving DecidableEq, Repr

/-- The timing modes (04 Table 4.1). -/
inductive TMode where
  | direct | synced | catching
deriving DecidableEq, Repr

/-- The roles of a chip (14 Table 14.2). -/
inductive Role where
  | off | joining | standby | active | solo | detached | yielded
deriving DecidableEq, Repr

/-- The readings of a tie line (14 Table 14.1). -/
inductive Tie where
  | none | follow | hold | invalid
deriving DecidableEq, Repr

/-- A SiCP message as it leaves the DTLS record layer (15 R567 to R569): the session it authenticated on, the address and
port it came from, the number of messages then waiting in the tenant's queue (16 R606), the header fields of Table 15.2
except TYPE, which the command names, and the body's bytes. -/
structure Req where
  sess : Nat
  peer : Nat × Nat
  backlog : Nat
  version : Nat
  flags : Nat
  id : Nat
  length : Nat
  body : List Byte
deriving DecidableEq, Repr

/-- A record of the configuration image: its type and the bytes of its value (18; 02 R84: little-endian, offsets from the
start of the value). -/
structure Rec where
  typ : Nat
  val : List Byte
deriving DecidableEq, Repr

/-- A TLV (15 R569): its type and the bytes of its value. -/
structure Tlv where
  typ : Nat
  val : List Byte
deriving DecidableEq, Repr

/-- A reply (15 R574 to R577): the session, the message type and request ID it answers, the RESULT fields of Table 15.3, the
TLVs after RESULT, and the FINAL and DUPLICATE flags of Table 15.2. -/
structure Reply where
  sess : Nat
  typ : Nat
  req : Nat
  code : Nat
  resource : Nat := 0
  rflags : Nat := 0
  chip : Nat := 0xFFFF
  retry : Nat := 0
  detail : Nat := 0
  tlvs : List Tlv := []
  final : Bool := true
  dup : Bool := false
deriving DecidableEq, Repr

/-- An event (20 R724, Table 15.3 EVENT): time, island, class (0 none, 1 to 4), code of Table 20.8, island sequence, flags
(bit 0 side B, bit 1 from the twin, bit 2 stamp invalid) and detail in network order. -/
structure Event where
  time : Time
  isl : Nat
  cls : Nat
  code : Nat
  iseq : Nat
  eflags : Nat
  detail : List Byte
deriving DecidableEq, Repr

/-- A salvo entry (04 Table 4.4): global destination, global source or none for a release, levels mask, mode code. -/
structure SEntry where
  dest : Nat
  src : Nat
  levels : Nat
  mode : Nat
  rsv : Nat
deriving DecidableEq, Repr

/-- An ancillary packet as received: DID, SDID, line, horizontal offset, C data stream, whether it lies on link A or
sub-image 1, its user data words of ten bits (DC of them) and whether its parity and checksum hold (05 R198, R199). -/
structure Anc where
  did : Nat
  sdid : Nat
  line : Nat
  hoff : Nat
  c : Bool
  link1 : Bool
  udw : List Nat
  good : Bool
deriving DecidableEq, Repr

/-- The ST 352 payload identifier of a received frame (05 R185, R190, R191): whether its checksum holds, its link number (0
where it gives none), whether it states segmented frame, and whether it contradicts the structure or changed in the frame. -/
structure Pid where
  good : Bool
  link : Nat
  psf : Bool
  contradicts : Bool
deriving DecidableEq, Repr

/-- A frame received on a C-lane, as the deserialiser sees it (05 R183, R190 to R197): its structure (lines, 10-bit
words of the lane in a line, fields, frame period in picoseconds), the 3G level its streams show (0 not 3G, 1 A, 2 B-DL, 3
B-DS), its payload identifier, whether the standard of its carriage requires one (R191), the lines that fail the CRC, LN and TRS checks, whether a field bit is wrong, the audio
samples corrected and uncorrectable, the audio groups whose control packet signals another rate or asynchronous audio, each with the number (10 R372) of the first sample after the packet that
changed it (0 where an earlier frame changed it; R211), the
channels with the non-audio bit, the CRC-32C of the active picture (for a lane of a group, of the picture of the group), the luma samples that a video probe
reads of it (21 R734), for a quad-link lane the same two of the picture that square division of the sub-images gives (R184), and
its ancillary packets in raster order. -/
structure SdiFrame where
  lines : Nat
  words : Nat
  fields : Nat
  period : Nat
  level : Nat
  pid : Option Pid
  pidDue : Bool
  crcLines : Nat
  lnLines : Nat
  trsLines : Nat
  fieldBad : Bool
  audCor : Nat
  audUnc : Nat
  badRate : List (Nat × Nat)
  nonAudio : List Nat
  picCrc : Nat
  luma : List Nat
  sqdCrc : Nat := picCrc
  sqdLuma : List Nat := luma
  anc : List Anc
deriving DecidableEq, Repr

/-- An ancillary packet as it leaves (05 R199, R203, R204; ST 2110-40): line, horizontal offset, C data stream, and its ten-bit words from the DID
to the checksum. -/
structure AncOut where
  line : Nat
  hoff : Nat
  c : Bool
  words : List Nat
deriving DecidableEq, Repr

/-- How a group of W-lanes or a management lane is set (07 R262, R270, R274): the rate of a lane in Mbit/s, the clauses of IEEE 802.3 of its PCS and its
FEC (0 none), and of each lane the taps of its transmitter with its inversions (transmit, receive). -/
structure LineOut where
  rate : Nat
  pcs : Nat
  fec : Nat
  lanes : List (List Int × Bool × Bool)
deriving DecidableEq, Repr

/-- What a lane of an SDI destination carries beside the picture (05 R180, R183, R184, R202; 07 R272, R274): the lane with the taps of its transmitter and
its inversion, its rate code, the 3G level coded as in Table 5.13, the link or sub-image it carries, square division, and the ST 352 payload identifier with
the lines that carry it. -/
structure LaneOut where
  lane : Nat
  taps : List Int
  inverted : Bool
  lrate : Nat
  level : Nat
  link : Nat
  sqd : Bool
  pid : List Nat
  pidLines : List Nat
deriving DecidableEq, Repr

/-- An audio group as an SDI destination embeds it (05 R200, R201): its number, whether each of its channels is active, and the bytes of each
channel's channel-status block; the audio control packet of a frame says the first two. -/
structure GroupOut where
  group : Nat
  active : List Bool
  status : List (List Byte)
deriving DecidableEq, Repr

/-- The headers of the packets of an egress leg (06 R251, R252; 04 R155): port, destination and source MAC, tag (the TCI), IPv6, DSCP, TTL, the
addresses and UDP ports, the RTP payload type and SSRC, of IPv4 the identification and don't-fragment, and whether the UDP checksum is computed. -/
structure LegHead where
  port : Nat
  dmac : Nat
  smac : Nat
  tci : Option Nat
  v6 : Bool
  dscp : Nat
  ttl : Nat
  saddr : Nat
  daddr : Nat
  sport : Nat
  dport : Nat
  pt : Nat
  ssrc : Nat
  v4 : Option (Nat × Bool)
  checksum : Bool
deriving DecidableEq, Repr

/-- What one RTP packet of an audio flow carries: the samples of each slot, or with ST 2110-31 its subframes, each with the 24-bit sample, the
channel-status bit and the block start of AM824 (06 R247, R248). -/
inductive AudLoad where
  | pcm (bits : Nat) (samples : List (List Int))
  | am824 (frames : List (List (Int × Nat × Bool)))
deriving DecidableEq, Repr

/-- The payload header of a packet of a JPEG XS codestream (RFC 9134; 06 R250): slice mode, whether the packet is the frame's last, and the packet
counter. -/
structure XsHead where
  slices : Bool
  last : Bool
  counter : Nat
deriving DecidableEq, Repr

/-- The headers of the `p` packets of a frame in codestream mode, their counter from 0 (06 R250). -/
def xsHeads (p : Nat) : List XsHead := (List.range p).map (fun i => ⟨false, decide (i + 1 = p), i⟩)

/-- The payload of the packets of a flow: the samples of a picture in packets of PKT_BYTES, those withheld taken out; a JPEG XS codestream with the header of each packet; audio; or
the ancillary packets of each packet. -/
inductive RtpLoad where
  | video (bpm : Bool) (withheld : Nat)
  | jpegXs (withheld : Nat) (heads : List XsHead)
  | audio (a : AudLoad)
  | anc (pkts : List (List AncOut))
deriving DecidableEq, Repr

/-- What the measurement of a media flow gives with the last packet of a frame (06 R237, R238; computed under ST 2110-21): the
narrowest type that the worse leg met (0 N, 1 NL, 2 W, 3 none), the largest CINST and VRX of the EXPECT type in packets, whether
they passed its limits, and the frame
period in picoseconds as far as a packet tells it (0 where it does not). -/
structure Meas where
  type : Nat
  cinst : Nat
  vrx : Nat
  cinstBad : Bool
  vrxBad : Bool
  period : Nat
deriving DecidableEq, Repr

/-- An RTP packet as the flow filter and the merge see it (06 R221 to R237): version, payload type, sequence number (32 bits for
ST 2110-20, else 16), time stamp, SSRC and marker; its payload bytes; whether its first sample row data header gives the first
line at offset 0; whether it carries a line or offset outside the raster; any other payload format error (a JPEG XS header of slice mode among them, R250); the highest line of
the frame and the bytes per line that it shows; its ancillary packets; and, with the last packet of a frame, the measurement and
the CRC and probe samples of the frame's picture. -/
structure Rtp where
  version : Nat
  pt : Nat
  seq : Nat
  ts : Nat
  ssrc : Nat
  marker : Bool
  bytes : Nat
  first : Bool
  outside : Bool
  malformed : Bool
  line : Nat
  lineBytes : Nat
  anc : List Anc
  meas : Meas
  crc : Nat
  luma : List Nat
deriving DecidableEq, Repr

/-- The body of a PTP message (12 R462 to R466; the fields are those of IEEE 1588-2019). Times are in nanoseconds. An Announce
carries the grandmaster's priority 1, class, accuracy, variance, priority 2 and identity, the steps removed, the UTC offset with
its valid flag, and the leap flags. -/
inductive PtpBody where
  | sync (twoStep : Bool) (origin : Int)
  | followUp (origin : Int)
  | delayReq
  | delayResp (receive : Int) (toUs : Bool)
  | announce (prio1 cls acc var prio2 gmId steps utc : Nat) (utcValid leap59 leap61 : Bool)
  | management
  | other
deriving DecidableEq, Repr

/-- A PTP message received: its version, domain, the sender's IP address and port identity, the sequence, the correction field in nanoseconds,
whether it is well formed, whether it came unicast, and its body. -/
structure Ptp where
  version : Nat
  addr : Nat := 0
  domain : Nat
  source : Nat
  seq : Nat
  corr : Int
  good : Bool
  unicast : Bool
  body : PtpBody
deriving DecidableEq, Repr

/-- What an Ethernet frame carries (07 R278 to R291, 06 Table 6.2). Addresses are numbers of 128 bits, an IPv4 address in its
mapped form. A UDP datagram tells whether it passes stage 3, and a membership query the sources that it asks about, where it asks about any. -/
inductive EthBody where
  | pause (quanta : Nat)
  | pfc (classes : List (Option Nat))
  | arp (target : Nat)
  | nd (target : Nat)
  | query (v6 : Bool) (version group : Nat) (sources : List Nat)
  | report (v6 : Bool)
  | ptp (m : Ptp)
  | udp (v6 ok : Bool) (src dst dport : Nat) (rtp : Option Rtp)
  | echo (v6 : Bool) (src dst : Nat)
  | ip (dst : Nat)
  | other
deriving DecidableEq, Repr

/-- A received Ethernet frame: its length from the destination MAC to the FCS, whether the FCS holds and no block is marked, a
second tag or a foreign outer TPID, its tag (the TCI), the codewords and blocks that the PCS counted since the frame before it,
and what it carries. -/
structure EthFrame where
  len : Nat
  good : Bool
  badTag : Bool
  tag : Option Nat
  fecCor : Nat
  fecUnc : Nat
  blockErr : Nat
  body : EthBody
deriving DecidableEq, Repr

/-- The UDP header and the common header of a PTP message sent (12 R462, R463): the IP version, the sender's own address, the multicast group or the
address answered, the UDP port (319 for event messages, 320 for general ones), the domain and the sequence. -/
structure PtpHead where
  v6 : Bool
  src : Nat
  dst : Nat
  dport : Nat
  domain : Nat
  seq : Nat
deriving DecidableEq, Repr

/-- The bodies of PTP messages sent (12 R462, R464, R466). -/
inductive PtpOut where
  | sync (oneStep : Bool) (origin : Int)
  | follow (origin : Int)
  | announce (prio1 cls acc var prio2 gmId steps utc : Nat) (utcValid leap59 leap61 : Bool)
  | delayReq
  | delayResp (receive corr : Int)
deriving DecidableEq, Repr

/-- A frame that the chip sends in the control class or as best effort (07 R286, 06 R241): an ARP or ND answer, an echo reply, a
membership report (with its sender's address, the group and the source it includes, none for EXCLUDE, and whether it is a leave), a gratuitous ARP
with its unsolicited neighbour advertisement for the pair address, a PTP message, or a forwarded frame with its length. -/
inductive EthOut where
  | arpReply (addr : Nat)
  | ndAdvert (addr : Nat)
  | echoReply (dest from_ : Nat)
  | member (v6 : Bool) (sender version group : Nat) (source : Option Nat) (leave : Bool)
  | gratuitous
  | ptp (head : PtpHead) (body : PtpOut)
  | bestEffort (len : Nat)
deriving DecidableEq, Repr

/-- A subscription (15 R584). -/
structure Sub where
  num : Nat
  minClass : Nat
  groups : Nat
  queue : List Event := []
  gap : Nat := 0
deriving DecidableEq, Repr

/-- A certificate of a session's chain: its validity period in UTC seconds and its serial number (15 R562, 16 R592). -/
structure Cert where
  notBefore : Int
  notAfter : Int
  serial : List Byte
deriving DecidableEq, Repr

/-- A session (15 R563 to R571). What the chip sends on it leaves by the port at which its handshake came (DEDUCED, log entry 105). -/
structure Session where
  id : Nat
  own : Bool
  mgmt : Bool
  princ : Nat
  tenant : Nat
  name : List Byte
  root : List Byte
  certs : List Cert
  peer : Nat × Nat
  port : Nat := 256
  lastRx : Nat
  high : Option Nat := none
  window : List (Nat × Option Reply) := []
  txSeq : Nat := 0
  rxKeys : Nat := 0
  txKeys : Nat := 0
  txRecords : Nat := 0
  subs : List Sub := []
deriving DecidableEq, Repr

/-- A token bucket (16 R605): whole tokens, and the nanoseconds of elapsed time already counted towards the next one. -/
structure Bucket where
  princ : Nat
  pair : Bool
  tokens : Nat
  at_ : Nat
deriving DecidableEq, Repr


/-- A ClientHello with what the handshake shows (15 R559 to R562, 16 R591, R592): the client's address and port, the port it arrives at, the
address and the UDP port it goes to, the cookie it carries, whether it offers the values of Table 15.1, the root
certificate that its chain reaches, its certificates besides the root, whether every issuer has cA, the end entity has its key
usage and every signature and other rule of RFC 5280 holds, whether a date field is impossible, and the principal's name. -/
structure Hello where
  peer : Nat × Nat
  port : Nat
  addr : Nat
  dport : Nat
  cookie : Option Nat
  offers : Bool
  root : Option (List Byte)
  certs : List Cert
  issuers : Bool
  usage : Bool
  verifies : Bool
  badDate : Bool
  name : List Byte
deriving DecidableEq, Repr

/-- A record that is no message of the catalogue (15 R567, R570): one that does not authenticate or names no session, one of a session whose content is
shorter than 16 or longer than 1400 bytes, or one whose TYPE is reserved or 0x80. -/
inductive OddRecord where
  | stray
  | size (sess : Nat)
  | typed (typ : Nat) (q : Req)
deriving DecidableEq, Repr

/-- The types of the requests of 15 Table 15.4. -/
def requestTypes : List Nat :=
  [0x01, 0x02, 0x03, 0x04, 0x05, 0x06, 0x07, 0x08, 0x09, 0x0A, 0x10, 0x11, 0x12, 0x13, 0x14, 0x15, 0x16, 0x17, 0x18, 0x20, 0x21, 0x22, 0x30, 0x31,
   0x32, 0x33, 0x34, 0x40, 0x41, 0x42] ++
  [0x50, 0x51, 0x52, 0x53, 0x54, 0x55, 0x56, 0x60, 0x61, 0x62, 0x70, 0x71, 0x72, 0x73, 0x74]

/-- What KEY finds in the DATA of a KEY_IMPORT that only its cryptography can tell (17 R628 to R630): whether the certificate has an
impossible date, whether it is within its validity period, chains to a root of the tenant, has its key usage and SIG holds, and
whether the tag of the ciphertext holds. -/
structure ImportFacts where
  badDate : Bool
  signerGood : Bool
  tagGood : Bool
deriving DecidableEq, Repr

/-- What a journal record restores (18 Table 18.9). -/
inductive JItem where
  | level (dest : Nat) (lv : Level) (mode : TMode) (src : Option Nat) (prio : Nat)
  | delay (dest frames lines : Nat)
  | achan (out inp gain : Nat)
  | bus (bus gain : Nat) (members : List (Nat × Nat))
  | aline (line samples : Nat)
  | window (w : List Byte)
  | windowClear (head index : Nat)
  | order (head order : Nat)
  | flow (flow : Nat) (legs : List (List Byte))
deriving DecidableEq, Repr

/-- The body of a journal record: a checkpoint's BEGIN or END, or an item (18 Table 18.9). -/
inductive JBody where
  | begin_ (chip format items : Nat)
  | end_ (items : Nat)
  | item (i : JItem)
deriving DecidableEq, Repr

/-- A record in the journal region (18 Table 18.10): its offset in the region, its count, its time, whether it belongs to a
checkpoint, the key under which it is sealed, by number, and whether its CRC and tag hold. -/
structure JRec where
  off : Nat
  seq : Nat
  time : Time
  ckpt : Bool
  sealed : Option Nat
  whole : Bool
  body : JBody
deriving DecidableEq, Repr

/-- A record of the event log with its index (20 Table 20.6). -/
structure LogRec where
  index : Nat
  ev : Event
deriving DecidableEq, Repr

/-- A log block in the region (20 Table 20.7), with the key under which it is sealed, by number. -/
structure LogBlock where
  bseq : Nat
  slot : Nat
  chip : Nat
  sealed : Option Nat
  recs : List LogRec
deriving DecidableEq, Repr

/-- What only cryptography, or the memory at that moment, tells about an image (18 R660 to R665): whether SIG_IHLUT verifies, CERT is
valid under R661, SIG_INTEGRATOR verifies and TAG verifies; the plaintext of RECORDS where they are encrypted; and whether every record's
CRC-32C holds on the second read too. -/
structure ImgFacts where
  ihlut : Bool
  cert : Bool
  integ : Bool
  tag : Bool
  plain : List Byte
  again : Bool
deriving DecidableEq, Repr

/-- What a start finds (18 R676, R678): SIDE_SEL; the density in Mbit that a valid SFDP table declares (0 where there is none or the
device does not answer); what service access has written into the device since the last start (R10): bytes at memory offsets, and the
journal and log regions where it rewrote them; the facts of the active and of the staged image; whether AON lost its supply since its last
valid check (17 R637); and whether the identity certificate matches (R614) and the random generator passes its tests (R618). -/
structure StartFacts where
  side : Bool
  density : Nat
  service : List (Nat × List Byte)
  journal : Option (List JRec)
  log : Option (List LogBlock)
  active : ImgFacts
  staged : ImgFacts
  aonLost : Bool
  idOk : Bool
  rngOk : Bool
deriving DecidableEq, Repr

/-- The start report (18 Table 18.13); `whole` says that its CRC holds. -/
structure StartReport where
  status : Nat
  detail : Nat
  offset : Nat
  count : Nat
  fw : Nat
  secver : Nat
  rb : Nat
  whole : Bool
deriving DecidableEq, Repr


/-- A transaction of a DMA channel that its target does not answer with OKAY (22 R763, R773): how many bytes of the descriptor moved before it,
whether it is the write of its burst, and its response (1 SLVERR, 4 ABORT, 5 TIMEOUT; 22 Table 22.3). -/
structure DmaFail where
  after : Nat
  write : Bool
  resp : Nat
deriving DecidableEq, Repr

/-- What a connection carries and from where (03 R88, R100, Table 3.6): an essence of a source from the cluster where it enters; a read of a
source's frame-sync bobbin at a delay; a read of a still at a frame rate; the slots of a source to the audio engine; the slots of a
destination from the audio engine; a window's picture written or read. `store` names a booking that is no connection. A source is named by
its index, or by 2^20 plus its global ID in the even form where it lies on another pair. `bestEffort` is the way of best-effort frames from one cluster
to another, which books nothing (R121). -/
inductive ConnKey where
  | media (cluster src : Nat) (lv : Level)
  | read (src : Nat) (lv : Level) (frames lines : Nat)
  | still (src rate : Nat)
  | audioIn (cluster src : Nat)
  | audioOut (dest : Nat)
  | winWrite (win : Nat)
  | winRead (win : Nat)
  | bestEffort (cluster target : Nat)
  | store (kind num : Nat)
deriving DecidableEq, Repr

/-- A take or release that the Shuttle of a destination's level awaits (04 R135, R150): the source (named as in ConnKey) or none for a release, the
mode, whether the path starts through the bobbin, the house frame boundary from which it is carried out, its place in the
single order, its priority and principal, the salvo it belongs to, whether the Shuttle is armed with it, and the Strand by which its source
arrives (its first lane; 0xFFFF for none). -/
structure PTake where
  src : Option Nat
  mode : TMode
  bobbin : Bool
  due : Time
  order : Nat
  prio : Nat
  princ : Nat
  salvo : Option Nat := none
  armed : Bool := false
  via : Nat := 0xFFFF
deriving DecidableEq, Repr

/-- One item of an ARM message (13 Table 13.8): an entry, and the Strands by which its route enters and leaves the receiving chip, each by
its first lane, 0xFFFF where the route starts or ends there. -/
structure SItem where
  e : SEntry
  inPort : Nat := 0xFFFF
  outPort : Nat := 0xFFFF
deriving DecidableEq, Repr

/-- The states of a salvo at its coordinator (04 Table 4.5). -/
inductive SalvoState where
  | arming | armed
deriving DecidableEq, Repr

/-- A salvo at its coordinator (04 R161 to R171): its number, place in the single order, T_c, AUTO, priority and principal; its session,
request and message type where it has one; the stored salvo it fires; the items of every pair, the coordinator's included; the pairs that
reported ARMED; the commit requests that await the decision; whether an abort was accepted; and whether the arm was answered. For a take
carried as a salvo (13 R506) `waits` is the times it may still be armed again, `delayed` whether DELAYED was sent, `unaligned` the flag of 04 R152;
`moves` marks a route that is moved (R519); `refused` is the first refusal of a share, by reply code, resource and chip; `fresh`
says that the coordinator's own share was not evaluated yet; `restored` marks a route of the journal (18 R675); `acc` is when its request was accepted and
`at_` when it was armed last; `answered` says that its request has its final reply, or is to have none. A salvo with no principal (R172) has the number
65 536, which no principal has. -/
structure Salvo where
  num : Nat
  order : Nat
  entries : List SEntry
  tc : Time
  auto : Bool
  prio : Nat
  princ : Nat
  sess : Option Nat
  req : Nat := 0
  typ : Nat := 0x13
  stored : Option Nat := none
  items : List (Nat × SItem)
  reports : List Nat := []
  state : SalvoState := .arming
  commits : List (Nat × Nat) := []
  aborted : Bool := false
  answered : Bool := false
  waits : Nat := 0
  delayed : Bool := false
  moves : Bool := false
  refused : Option (Nat × Nat × Nat) := none
  fresh : Bool := true
  restored : Bool := false
  unaligned : Bool := false
  acc : Time := 0
  at_ : Time := 0
deriving DecidableEq, Repr

/-- A salvo's share at a participant (04 Table 4.6): the coordinator's pair and the salvo's number, T_c, priority and principal, the items of
this pair, whether it is ARMED (admitted), and the decision once it is held. -/
structure Share where
  coord : Nat
  num : Nat
  tc : Time
  order : Nat
  prio : Nat
  princ : Nat := 0
  items : List SItem
  armed : Bool := false
  decided : Option Bool := none
deriving DecidableEq, Repr

/-- A Strand in a LINK_STATE message (13 Table 13.8): its first lane, the chip at its far end, λ in nanoseconds and its control rate in
Mbit/s. -/
structure Link where
  lane : Nat
  peer : Nat
  lambda : Nat
  rate : Nat
deriving DecidableEq, Repr

/-- A Skein message of types 2 to 5 (13 Table 13.8). A RELEASE names what its Strand connections carry: the levels of destinations. -/
inductive SkBody where
  | arm (tc : Time) (auto : Bool) (prio princ : Nat) (items : List SItem)
  | report (code resource chip : Nat)
  | decision (commit : Bool) (tc : Time)
  | release (routes : List (Nat × Nat))
deriving DecidableEq, Repr

/-- A Skein message (13 Tables 13.5 and 13.8): its MSG_ID, the pair it is for, the coordinator's pair and number of the salvo, its CLOSE in
full, and its body. -/
structure SkMsg where
  id : Nat
  target : Nat
  coord : Nat
  num : Nat
  close : Time
  body : SkBody
deriving DecidableEq, Repr

/-- A route across Strands of which this pair carries a share (13 R507, R508): its item, the coordinator and number of the salvo that set it
up, its principal and priority, the boundary from which it stands, and on the destination's pair its path: the chips that send and the first
lanes by which they send. -/
structure SRoute where
  item : SItem
  coord : Nat
  num : Nat
  princ : Nat
  prio : Nat
  from_ : Time
  path : List (Nat × Nat) := []
deriving DecidableEq, Repr

/-- A LINK_STATE message by its event (13 R496): due to be sent; received on a Strand, with its MSG_ID and the links of a chip; or the twin's
own plane by a chip of it. -/
inductive LinkOp where
  | send
  | rx (port id chip : Nat) (links : List Link)
  | twin (chip : Nat) (links : List Link)
deriving DecidableEq, Repr

/-- The fields of a HELLO body (13 Table 13.3). -/
structure SkHello where
  chip : Nat
  skein : Nat
  side : Nat
  house : Nat
  fw : Nat
deriving DecidableEq, Repr

/-- What the first unit of a frame of a source on another pair carries (13 R509, R510): the source, the level, ALIGNED, and the facts of the
frame: its measured format (0 where it has none), the rate code at which its frames come, and the bytes of its codestream where it has one. -/
structure FarFrame where
  src : Nat
  lv : Level
  aligned : Bool
  format : Nat := 0
  rate : Nat := 7
  crc : Nat
  luma : List Nat
  size : Nat := 0
  anc : List Anc
deriving DecidableEq, Repr

/-- A Strand unit as received (13 Table 13.1): its SCONN, TYPE, ALIGNED, USEQ, freed counts and HCRC, the units that the buffer of its
channel then holds, whether the cell of a MEDIA unit holds its own CRC, what the first cell of a frame carries, and of which source and level the
cell is, with its sequence number; the codewords and blocks that the PCS and FEC of the lanes counted since the unit before it (07 R265). -/
structure SkUnit where
  sconn : Nat
  typ : Nat
  aligned : Bool
  useq : Nat
  freedM : Nat
  freedC : Nat
  hcrc : Nat
  held : Nat
  cellOk : Bool
  frame : Option FarFrame
  cell : Option (Nat × Level × Nat) := none
  fecCor : Nat := 0
  fecUnc : Nat := 0
  blockErr : Nat := 0
deriving DecidableEq, Repr

/-- A take that waits for admission (03 R115): its place in the single order, acceptance time, session, request, principal and priority; its
destination, source, levels and mode as the request has them; and the closes left. -/
structure Waiting where
  order : Nat
  acc : Time
  sess : Nat
  req : Nat
  princ : Nat
  prio : Nat
  dest : Nat
  src : Nat
  levels : Nat
  mode : Nat
  left : Nat
deriving DecidableEq, Repr

/-- The lookup key of a flow-table entry (06 Table 6.2, R222): port, VLAN in the form of Table 6.8, destination address, UDP
destination port (0 in a best-effort entry that matches any frame to its address). -/
structure FKey where
  port : Nat
  vlan : Nat
  addr : Nat
  dport : Nat
deriving DecidableEq, Repr

/-- What a flow-table entry stands for: a leg of an ingress flow, or a BE_FWD record by its place in the image. -/
inductive FWhat where
  | leg (flow leg : Nat)
  | fwd (n : Nat)
deriving DecidableEq, Repr

/-- One item of a state copy or of a snapshot (14 Table 14.5): an outcome that the holder of control decided at a cycle close
and that both chips apply. -/
inductive Eff where
  | decision (coord num : Nat) (commit : Bool)
  | take (dest : Nat) (lv : Level) (p : PTake)
  | level (dest : Nat) (lv : Level) (src : Option Nat) (mode : TMode) (bobbin : Bool) (prio princ via : Nat)
  | wait (w : Waiting)
  | unwait (order : Nat)
  | share (x : Share)
  | shareHeld (x : Share)
  | route (r : SRoute)
  | unroute (dest levels : Nat)
  | send (m : SkMsg)
  | unshare (coord num : Nat)
  | orphan (coord num : Nat)
  | salvo (v : Salvo)
  | unsalvo (num : Nat)
  | path (dest : Nat) (lv : Level) (bobbin : Bool) (due : Time)
  | hyst (src frames lines : Nat) (h : Int)
  | delay (dest frames lines : Nat) (due : Time)
  | seqCtr (flow value : Nat)
  | sess (l : List Session) (b : List Bucket)
  | swap (at_ : Time)
  | restart (chip : Nat) (at_ : Time)
  | rejoin (chip : Nat)
  | evacClear (princ : Nat) (at_ : Time)
  | flowSet (flow : Nat) (legs : List (Nat × List Byte)) (at_ : Time)
  | flowRel (flow mask : Nat) (at_ : Time)
  | owner (flow leg : Nat) (o : Option (Nat × Nat)) (at_ : Time)
  | flowTable (key : Nat) (entries : List (FKey × FWhat × Bool)) (legs : List (Nat × List (FKey × Nat × Bool)))
  | achan (out : Nat) (sel gain : Option Nat) (due : Time) (order : Nat)
  | abus (bus gain : Nat) (members : List (Nat × Nat)) (due : Time)
  | aline (line samples : Nat) (due : Time)
  | window (w : List Byte) (engine : Option Nat) (due : Time)
  | windowClear (win : Nat) (due : Time)
  | order (head order : Nat) (due : Time)
  | fence (key : Nat) (at_ : Time)
  | bank (key n shown : Nat) (valid : Bool) (bytes : List (Nat × Byte))
  | whlRef (code : Option Nat) (at_ : Time)
  | whlHeld (phi : Int) (at_ : Time)
  | whlStep (x : Time) (delta : Int) (aon : Bool)
deriving DecidableEq, Repr

/-- The header of a frame of the doubling link (14 Table 14.4): whether its CRC holds, the sender's role as DBL.STAT.ROLE codes it, and whether
an F3 of the sender is uncleared. -/
structure DblHead where
  good : Bool
  role : Nat
  f3 : Bool
deriving DecidableEq, Repr

/-- The body of a doubling-link HELLO (14 R532, R533, R554): side, PAIR, SKEIN_ID, house rate, firmware and security versions; whether the
identity certificate of the twin verifies; and the configuration digest: of each source, destination, flow, head and bus record its type, number and
entry. -/
structure DblHello where
  side : Nat
  pair : Nat
  skein : Nat
  house : Nat
  fw : Nat
  secver : Nat
  certOk : Bool
  digest : List (Nat × Nat × Nat)
deriving DecidableEq, Repr

/-- A request accepted since the close, as SWAP carries it (14 R551): a SiCP request of a message type with its acceptance time, or a Skein
message. -/
inductive SwapReq where
  | sicp (typ acc : Nat) (q : Req)
  | skein (acc port : Nat) (m : SkMsg)
deriving DecidableEq, Repr

/-- What a HANDOFF frame carries (13 R514, R545; 15 R566): a SiCP datagram, which then arrives as the record it holds; a Skein message; or a
CLAIM with the Strand on which it arrived. -/
inductive HandOff where
  | datagram
  | skein (port : Nat) (m : SkMsg)
  | claim (port pair : Nat)
deriving DecidableEq, Repr

end Sys2Proof.Machine
end

