-- ==== Sys2Proof/Syntax.lean ====
section
/-! DEFINITION. The commands of the block: one constructor for each row of the opcode table, in the table's order. Every
command carries `t`, the Whorl time at which the island concerned sees it (01 R27). -/

namespace Sys2Proof

open Sys2Proof.Machine

/-- A command from outside, or an event that the chip itself brings about (95). Each constructor's docstring is its rule and
row of the table. -/
inductive Instr where
  /-- R676. The later of PWR_OK and RESET_N rising begins a start: BOOT runs from boot ROM, samples SIDE_SEL and holds the other islands in reset. -/
  | powerStart (t : Time) (w : StartFacts)
  /-- R676. PWR_OK or RESET_N falls; every island except AON is reset and every output goes quiet within 2 µs. -/
  | resetFall (t : Time) (torn report : Bool) (copy : Nat)
  /-- R692. A copy of the staged image into the active region completes, is read back and checked, and COPY_DONE is logged or the start stops with detail 12. -/
  | imageCopyDone (t : Time) (good : Bool) (w : ImgFacts)
  /-- R357. DRAM training of all points completes; the interleave keys are drawn, the start bookings are made and group G is applied, or a failed channel stops the start with F4. -/
  | dramTrainingDone (t : Time) (failed : Option (Fin 32))
  /-- R468. REF_WAIT after WHL's release ends; time and phase are stepped from the sources available and WHL is ready. -/
  | whlRefWaitEnd (t : Time)
  /-- R679. Replay is finished and WHL is ready, so the chip serves, writes the start report, may advance the rollback counter and takes a role under R531. -/
  | chipServes (t : Time)
  /-- R531. Side B has not read HOLD on TIE_IN for START_WAIT and takes control in SOLO. -/
  | startWaitExpiry (t : Time)
  /-- R543. A DETACHED or YIELDED chip whose rejoin conditions all hold re-enters JOINING. -/
  | rejoin (t : Time)
  /-- R561. A ClientHello is answered with a cookie retry or completes a handshake, subject to chain validation, principal checks and the session limits. -/
  | dtlsClientHello (t : Time) (h : Hello)
  /-- R561. A client KeyUpdate is accepted and changes the session's traffic keys. -/
  | keyUpdate (t : Time) (sess : Nat)
  /-- R564. A close_notify ends a session, its subscriptions, staged salvos, waiting takes and reply cache. -/
  | closeNotify (t : Time) (sess : Nat)
  /-- R564. No authenticated record has arrived for IDLE seconds and the session ends. -/
  | sessionIdleExpiry (t : Time) (sess : Nat)
  /-- R593. At each whole Whorl second the chip checks the validity periods of every session's chain and ends the sessions whose chain has expired. -/
  | certValidityCheck (t : Time)
  /-- R567. An unauthenticated record, a record with an unknown connection ID, or a record outside 16 to 1400 bytes is discarded and counted in RX_DISCARD. -/
  | sicpRecordUnparsable (t : Time) (sess : OddRecord)
  /-- R566. A datagram for the pair address reaching a chip that does not hold control is handed to the twin, or dropped when the chip is DETACHED or its link is down. -/
  | pairDatagramHandoff (t : Time)
  /-- R578. PING keeps a session alive and is answered in class I. -/
  | ping (t : Time) (q : Req)
  /-- R3. IDENTITY returns the grade, stepping, firmware, chip, pair and role in an IDENT TLV. -/
  | identity (t : Time) (q : Req)
  /-- R579. ROUTE_QUERY returns the current routes and delay of a destination of this pair. -/
  | routeQuery (t : Time) (q : Req)
  /-- R582. REG_READ returns register words of an allowed island window, with RC fields counted since the previous SiCP read. -/
  | regRead (t : Time) (q : Req)
  /-- R582. REG_WRITE writes one word to a register whose fields are all W1C or reserved. -/
  | regWrite (t : Time) (q : Req)
  /-- R582. COUNTERS returns the 64-bit totals of R294 for the port counters in a range. -/
  | counters (t : Time) (q : Req)
  /-- R727. LOG_READ returns up to 14 event log records from the ring or the region, in index order. -/
  | logRead (t : Time) (q : Req)
  /-- R584. SUBSCRIBE creates an event subscription with a class filter and groups, up to 8 per session. -/
  | subscribe (t : Time) (q : Req)
  /-- R584. UNSUBSCRIBE ends one subscription of the session. -/
  | unsubscribe (t : Time) (q : Req)
  /-- R712. FAULT_CLEAR clears the named latched fault-word bits, latching again at once those whose current bit is set. -/
  | faultClear (t : Time) (q : Req)
  /-- R579. TAKE asks to route a source to named levels of a destination, for admission at the next cycle close or as a salvo across Strands. -/
  | take (t : Time) (q : Req)
  /-- R580. SALVO_OPEN returns a new staging handle. -/
  | salvoOpen (t : Time) (q : Req)
  /-- R580. SALVO_ADD appends entries to a staged salvo. -/
  | salvoAdd (t : Time) (q : Req)
  /-- R164. SALVO_ARM arms a staged or stored salvo with its commit instant and forwards its entries to the participants. -/
  | salvoArm (t : Time) (q : Req)
  /-- R167. SALVO_COMMIT meets the commit condition of an armed salvo before its decision close. -/
  | salvoCommit (t : Time) (q : Req)
  /-- R167. SALVO_ABORT forces an armed salvo to abort at its decision close. -/
  | salvoAbort (t : Time) (q : Req)
  /-- R314. DELAY_SET changes a destination's delay, subject to admission of any longer ring. -/
  | delaySet (t : Time) (q : Req)
  /-- R226. FLOW_SET gives new leg keys for an ingress flow, inserted at the close and switched at the house boundary. -/
  | flowSet (t : Time) (q : Req)
  /-- R230. FLOW_RELEASE releases the ownership of the named legs of a flow at the house boundary. -/
  | flowRelease (t : Time) (q : Req)
  /-- R382. AUD_ROUTE sets the selection and gain of up to 86 output channels. -/
  | audRoute (t : Time) (q : Req)
  /-- R375. BUS_SET replaces the members and gains of a mix-minus bus. -/
  | busSet (t : Time) (q : Req)
  /-- R393. AUD_DELAY_SET changes the length of an engine delay line. -/
  | audDelaySet (t : Time) (q : Req)
  /-- R419. WINDOW_SET creates or changes a multiviewer window. -/
  | windowSet (t : Time) (q : Req)
  /-- R418. WINDOW_CLEAR removes a multiviewer window. -/
  | windowClear (t : Time) (q : Req)
  /-- R427. LAYER_ORDER sets the layer order of a head without FIXED_ORDER. -/
  | layerOrder (t : Time) (q : Req)
  /-- R581. BULK_WRITE writes data into the hidden bank of a still or graphics plane, optionally clearing it first. -/
  | bulkWrite (t : Time) (q : Req)
  /-- R317. FENCE asks for the hidden bank of a still or plane to be shown once every serving chip holds it whole. -/
  | fence (t : Time) (q : Req)
  /-- R454. TIME_REF forces one reference or returns to automatic selection from the house boundary. -/
  | timeRef (t : Time) (q : Req)
  /-- R476. TIME_REALIGN schedules a step of Whorl time at X that removes the held offset. -/
  | timeRealign (t : Time) (q : Req)
  /-- R480. TIME_SET schedules a step of Whorl time to a given UTC date, as a realign. -/
  | timeSet (t : Time) (q : Req)
  /-- R123. TILE_DRAIN schedules a planned drain of a tile at its drain instant when every other tile is IN_SERVICE. -/
  | tileDrain (t : Time) (q : Req)
  /-- R125. TILE_RESTORE schedules the return of an OUT tile to the rotation. -/
  | tileRestore (t : Time) (q : Req)
  /-- R583. ISLAND_RESET resets one tile, DRAM group, port cluster or AUD of the terminating chip. -/
  | islandReset (t : Time) (q : Req)
  /-- R550. PAIR_SWAP schedules an exchange of ACTIVE and STANDBY at the house boundary. -/
  | pairSwap (t : Time) (q : Req)
  /-- R552. PAIR_RESTART restarts one named chip of the pair, with a swap first when it names the holder. -/
  | pairRestart (t : Time) (q : Req)
  /-- R543. PAIR_REJOIN lets a chip held out by YIELD_MAX rejoin. -/
  | pairRejoin (t : Time) (q : Req)
  /-- R749. EVAC_CLEAR returns CLEARABLE override machines to NORMAL at the house boundary. -/
  | evacClear (t : Time) (q : Req)
  /-- R686. STAGE_OPEN opens staging for an image of TOTAL bytes and cancels any pending copy. -/
  | stageOpen (t : Time) (q : Req)
  /-- R687. STAGE_WRITE appends image bytes to the staging region, with checks run as the bytes arrive. -/
  | stageWrite (t : Time) (q : Req) (good : Bool) (plain : List Byte)
  /-- R689. STAGE_CLOSE completes the checks and writes the staged header, making a copy pending. -/
  | stageClose (t : Time) (q : Req) (good : Bool) (w : ImgFacts)
  /-- R627. KEY_GENERATE creates an internal P-256 wrap key pair in a slot. -/
  | keyGenerate (t : Time) (q : Req)
  /-- R628. KEY_IMPORT unwraps an AES-256 key under a wrap slot into a target slot. -/
  | keyImport (t : Time) (q : Req) (w : ImportFacts)
  /-- R631. KEY_DESTROY zeroes a slot's blobs and key and sets it EMPTY. -/
  | keyDestroy (t : Time) (q : Req)
  /-- R632. KEY_ATTEST returns a signed attestation statement of a LOADED slot. -/
  | keyAttest (t : Time) (q : Req)
  /-- R633. LIFECYCLE_SET makes one allowed life-cycle change, destroying what its row names. -/
  | lifecycleSet (t : Time) (q : Req)
  /-- R584. An EVENT message with up to 14 queued events is sent to a subscription within 10 ms of its first event. -/
  | event (t : Time) (sess sub : Nat)
  /-- R108. At each cycle close the holder runs admission of the cycle's requests and waiting takes and starts the state copy. -/
  | cycleClose (t : Time)
  /-- R79. At a house frame boundary the audio parameters of buses, free flows, TDM slots and delay lines flip, along with FLOW_SET, TIME_REF and EVAC_CLEAR effects. -/
  | houseFrameBoundary (t : Time)
  /-- R136. At a destination's alignment point the Shuttle cuts the pending levels to their incoming connections and the frame synchroniser selects the frame to show. -/
  | switchingPoint (t : Time) (dest : Fin 1024)
  /-- R673. BOOT writes a pending journal record to the journal ring and reads it back. -/
  | journalRecordWrite (t : Time) (outcome : Fin 3)
  /-- R89. A received cell failing its CRC is discarded, counted against its tile and treated as lost. -/
  | cellCrcFail (t : Time) (tile : Fin 8) (isl conn seq : Nat) (be : Bool)
  /-- R90. CRC failures of one tile exceed CRC_LIMIT in a Whorl second, causing a drain or an F3 yield. -/
  | crcLimitExceeded (t : Time) (tile : Fin 8)
  /-- R93. A cell still missing 28 µs after a later cell arrived is declared lost and release continues. -/
  | reorderTimeout (t : Time) (isl : Nat) (conn : ConnKey) (seq frame : Nat)
  /-- R124. At the drain instant every origin moves to the reduced rotation and the tile becomes DRAINING, unless the drain is void. -/
  | tileDrainInstant (t : Time) (tile : Fin 8)
  /-- R122. A DRAINING tile's queues empty and it becomes OUT, logging TILE_OUT. -/
  | tileQueuesEmpty (t : Time) (tile : Fin 8)
  /-- R127. A tile fails, is removed from the rotation within 2 µs and becomes LOST, with F2 or F3 and one reset started. -/
  | tileFailure (t : Time) (tile : Fin 8) (cause src conn : Nat)
  /-- R127. The automatic reset of a lost tile completes, leaving it OUT or LOST, and TILE_LOST is logged. -/
  | tileResetDone (t : Time) (tile : Fin 8) (good : Bool)
  /-- R125. At the restore instant the tile rejoins the rotation and is IN_SERVICE. -/
  | tileRestoreInstant (t : Time) (tile : Fin 8)
  /-- R188. Signal energy on a DARK C-lane for 100 µs moves it to HUNT. -/
  | sdiSignalPresent (t : Time) (lane : Fin 256)
  /-- R189. The dwell on one lane rate ends without recovery and the receiver tries the next rate, counting a failed sweep. -/
  | sdiHuntDwellEnd (t : Time) (lane : Fin 256)
  /-- R188. Clock is recovered at an allowed rate with three equally spaced EAVs, moving the lane to FRAMING. -/
  | sdiClockRecovered (t : Time) (lane : Fin 256) (rate : Fin 8)
  /-- R193. A frame received on a FRAMING or RUNNING lane is checked, de-embedded and moves the lane between FRAMING and RUNNING. -/
  | sdiFrameReceived (t : Time) (lane : Fin 256) (f : SdiFrame)
  /-- R188. Eight expected EAVs are missing or the recovered clock is lost, moving the lane to HUNT. -/
  | sdiEavLoss (t : Time) (lane : Fin 256)
  /-- R188. Signal energy absent for 10 µs moves the lane to DARK. -/
  | sdiSignalAbsent (t : Time) (lane : Fin 256)
  /-- R221. A received Ethernet frame passes the MAC checks and the flow filter stages. -/
  | ethFrameRx (t : Time) (p : Fin 258) (f : EthFrame)
  /-- R233. A missing sequence number not filled within 8 µs is declared a hole and the data behind it is released. -/
  | mergeHoleTimeout (t : Time) (flow : Fin 8192)
  /-- R233. A leg that delivers no packet for 10 ms is down. -/
  | legDown (t : Time) (flow : Fin 8192) (leg : Fin 2)
  /-- R230. No packet from a leg's owner for IDLE_RELEASE ms releases its ownership. -/
  | idleReleaseExpiry (t : Time) (flow : Fin 8192) (leg : Fin 2)
  /-- R241. A state-change report is repeated once 1 s after a join or leave. -/
  | reportRepeat (t : Time)
  /-- R275. Signal energy and recovered clock on every lane of a DOWN port move it to LOCK and start adaptation. -/
  | portSignalLock (t : Time) (p : Fin 258)
  /-- R275. Adaptation, lock and deskew complete and the port goes UP, logging LINK_UP. -/
  | portAligned (t : Time) (p : Fin 258)
  /-- R275. A port 500 ms in LOCK without reaching UP returns to DOWN. -/
  | portLockTimeout (t : Time) (p : Fin 258)
  /-- R275. Loss of block or alignment lock, or a high error ratio held for 1 ms, takes an UP port to LOCK. -/
  | portLockLost (t : Time) (p : Fin 258) (hi cut : Bool)
  /-- R275. Signal energy absent on any lane for 10 µs takes the port to DOWN. -/
  | portSignalLoss (t : Time) (p : Fin 258) (cut : Bool)
  /-- R295. An octet PLL loses lock, raising F2 and taking every port of the octet down. -/
  | octetPllUnlock (t : Time) (octet : Fin 32)
  /-- R290. A best-effort queue paused for WD resumes and later pause frames for it are ignored. -/
  | pauseWatchdog (t : Time) (p : Fin 256) (q : Fin 8)
  /-- R290. WD passes with no non-zero pause frame for the queue and pause is honoured again. -/
  | qignoreEnd (t : Time) (p : Fin 256) (q : Fin 8)
  /-- R285. A best-effort frame waiting 1 ms in an egress queue is dropped. -/
  | beFrameAged (t : Time) (p : Fin 256) (q : Fin 8)
  /-- R293. A 32-bit port counter passes half range, setting its HALF bit and interrupting the Spindle. -/
  | counterHalf (t : Time) (p : Fin 258) (k : Fin 16)
  /-- R294. The Spindle reads every port counter each Whorl second and adds it to its totals. -/
  | counterSweep (t : Time)
  /-- R462. An instance sends Sync, Announce or Delay_Req at its interval. -/
  | ptpMessageTx (t : Time) (d : Fin 2) (p : Fin 256) (kind : Fin 3)
  /-- R344. A read held beyond the write pointer reaches its pipeline need and is abandoned as a lost cell. -/
  | writePointerDeadline (t : Time) (lp : Fin 32) (dest : Fin 1024)
  /-- R334. A DRAM read finds a corrected or uncorrectable error and reacts by class. -/
  | dramReadEcc (t : Time) (lp : Fin 32) (unc : Bool) (addr : Nat) (slot : Option (Nat × Nat))
  /-- R335. The scrubber reads and corrects a row on its 16-hour round. -/
  | dramScrub (t : Time) (lp : Fin 32) (found : Fin 3) (addr : Nat)
  /-- R347. An activation count reaching 1024 refreshes the neighbouring rows. -/
  | neighbourRefresh (t : Time) (lp : Fin 32) (bank : Fin 16) (row : Nat)
  /-- R346. The end of a refresh window empties the activation tables. -/
  | refreshWindowEnd (t : Time) (lp : Fin 32)
  /-- R358. Every 16 ms each DRAM group reads the device's refresh rate and sets HOT beyond twice base. -/
  | refreshRateRead (t : Time) (dg : Fin 8) (rates : List (Fin 3))
  /-- R358. Every 64 ms each DRAM group recalibrates ZQ and data timing, resetting the group on failure. -/
  | zqRecalibrate (t : Time) (dg : Fin 8) (good : Bool)
  /-- R353. At the change instant all DRAM groups pause and move to the new frequency point. -/
  | pointChangeInstant (t : Time)
  /-- R359. A DRAM group is reset, retrained and its bobbins recover, with F2 or F3 on failure. -/
  | dgReset (t : Time) (dg : Fin 8) (cause : Fin 5)
  /-- R363. The audio engine processes six samples through its stages at Whorl time. -/
  | audioTick (t : Time) (sdi : List (Nat × Nat × List (List (Option Int)))) (far : List (Nat × List Int))
  /-- R370. An IP input sample is placed at its count or dropped as late or early. -/
  | audioSampleArrival (t : Time) (flow : Fin 8192) (slot count : Nat) (v : Int) (non : Bool)
  /-- R371. After 48 missing samples an input channel ramps to zero and counts a gap. -/
  | inputGap (t : Time) (ic : Fin 32768)
  /-- R372. The SDI audio margin leaves 8 to 40 samples and Δ is moved with a crossfade. -/
  | sdiAudioSlip (t : Time) (src : Fin 1024) (margin : Int)
  /-- R379. A bus whose members have carried only zero for 4800 samples becomes IDLE. -/
  | busIdleEntry (t : Time) (bus : Fin 1024)
  /-- R399. An FS edge starts or checks a TDM frame, moving the port to RUNNING or MUTING. -/
  | tdmFsEdge (t : Time) (p : Fin 8) (periods : Nat) (ins : List Int)
  /-- R399. No FS edge in time, BCLK absent for two frames or a FIFO fault moves a RUNNING port to MUTING. -/
  | tdmSyncLoss (t : Time) (p : Fin 8) (cause : Fin 3)
  /-- R399. min(RAMP, 48) samples after MUTING the port goes to WAIT_SYNC and TDM_SLIP is logged. -/
  | tdmMutingEnd (t : Time) (p : Fin 8)
  /-- R406. A reset of AUD silences outputs, stops TDM ports and raises F2. -/
  | audReset (t : Time)
  /-- R407. The Spindle reloads AUD's parameters within 2 ms and the engine resumes. -/
  | audReload (t : Time)
  /-- R420. A window engine crops, scales and writes a source frame into its window buffer. -/
  | windowEngineWrite (t : Time) (win : Fin 1024) (m : Time) (crc : Nat)
  /-- R422. At A_n − 100 µs each window selects its buffer frame and the head fixes banks and safety state. -/
  | headFrameSelect (t : Time) (h : Fin 16)
  /-- R423. A window with no new frame for WIN_HOLD head frames becomes transparent and sets NO_SIGNAL. -/
  | winHoldExpiry (t : Time) (win : Fin 1024)
  /-- R455. The servo measures every qualified reference and writes the NCO word. -/
  | servoSample (t : Time) (m : List (Fin 6 × Int × Int))
  /-- R451. A reference meets its qualification condition. -/
  | refQualify (t : Time) (ref : Fin 6)
  /-- R451. A reference meets a disqualification condition, such as a missing edge or Announce timeout. -/
  | refDisqualify (t : Time) (ref : Fin 6) (cause : Nat)
  /-- R453. An earlier reference stays qualified for WTR with REVERT set and is selected. -/
  | wtrExpiry (t : Time) (ref : Fin 6)
  /-- R460. The selected reference has been in lock for 4 s and the Whorl becomes LOCKED. -/
  | whlLockReached (t : Time)
  /-- R460. The selected reference has been out of lock for 2 s and the Whorl leaves LOCKED. -/
  | whlOutOfLock (t : Time)
  /-- R460. The holdover timer reaches HOLDOVER and the Whorl becomes LOST with F2. -/
  | holdoverExpiry (t : Time)
  /-- R461. With REQUIRE set, no reference by REF_WAIT + 60 s after start raises F2. -/
  | whlNoref (t : Time)
  /-- R477. At X both chips step Whorl time by δ and outputs restart at the new alignment points. -/
  | timeStep (t : Time)
  /-- R446. XO_IN absent for 10 µs sets XO and enters F4. -/
  | xoLoss (t : Time)
  /-- R470. The twins' Whorl times differ beyond TWIN_LIMIT for 1 s and F2 is raised. -/
  | twinTimeExcess (t : Time)
  /-- R447. A time-wire round-trip measurement recalibrates each island's copy every 1 ms. -/
  | wireCalibrate (t : Time) (isl : Fin 40)
  /-- R448. An island loses time-wire lock, raising F2 and resetting the island. -/
  | wireLoss (t : Time) (isl : Fin 40)
  /-- R471. A reset or uncorrectable error of WHL raises F3, quiets outputs and restarts WHL. -/
  | whlReset (t : Time)
  /-- R644. AON writes the real-time counter from Whorl time at each whole minute while locked or in holdover. -/
  | rtcMinuteWrite (t : Time)
  /-- R488. A Strand unit is received, checked by HCRC and USEQ, and passed to its channel. -/
  | strandUnitRx (t : Time) (p : Fin 256) (u : SkUnit)
  /-- R491. The group's port is UP and a LINKING Strand moves to HELLO. -/
  | strandPortUp (t : Time) (p : Fin 256)
  /-- R491. A received HELLO agreeing or disagreeing with Table 13.3 moves the Strand to MEASURE or MISMATCH. -/
  | strandHello (t : Time) (p : Fin 256) (h : SkHello)
  /-- R491. 64 ECHO round trips complete and λ is fixed, or λ is too large or the trips fail. -/
  | strandMeasureDone (t : Time) (p : Fin 256) (trips : List (Nat × Nat))
  /-- R491. A received ECHO is answered or measured for λ. -/
  | strandEcho (t : Time) (p : Fin 256) (reply : Bool)
  /-- R518. A SERVING Strand loses its port, units, HCRC or credit and goes to LINKING. -/
  | strandDown (t : Time) (p : Fin 256)
  /-- R490. A receiver with nothing else to send sends a CREDIT unit every 2 µs. -/
  | strandCreditSend (t : Time) (p : Fin 256) (heldM heldC : Nat)
  /-- R496. A LINK_STATE message is sent at a Strand change and every 100 ms, or received to update the plane map. -/
  | linkState (t : Time) (op : LinkOp)
  /-- R164. A received ARM share is accepted and admitted at the participant's next close. -/
  | skeinArm (t : Time) (port : Nat) (m : SkMsg)
  /-- R164. A received REPORT tells the coordinator ARMED or a refusal. -/
  | skeinReport (t : Time) (port : Nat) (m : SkMsg)
  /-- R168. A received DECISION is forwarded and placed first in the participant's next copy. -/
  | skeinDecision (t : Time) (port : Nat) (m : SkMsg)
  /-- R519. A received RELEASE frees the named Strand connections. -/
  | skeinRelease (t : Time) (port : Nat) (m : SkMsg)
  /-- R544. A CLAIM received over a Strand is handed on or makes a holding chip DETACHED. -/
  | claim (t : Time) (port pair : Nat)
  /-- R516. An unacknowledged REPORT, DECISION or RELEASE is sent again every 200 µs. -/
  | skeinMessageRepeat (t : Time)
  /-- R519. A Strand pair mirror stays down for MIRROR_HOLD and its routes are repathed or lost at the next close. -/
  | mirrorHoldExpiry (t : Time) (p : Fin 256)
  /-- R532. A doubling-link HELLO is received at link-up, checking wiring and starting the join. -/
  | dblHello (t : Time) (h : DblHead) (b : DblHello)
  /-- R747. A BEAT frame is received, carrying role and override machine reports. -/
  | dblBeat (t : Time) (h : DblHead) (evac : Option (Nat × Bool × Nat))
  /-- R532. DBL sends a BEAT whenever the link has been idle for 2 µs. -/
  | dblBeatSend (t : Time)
  /-- R535. The standby receives and applies a state copy and answers CONFIRM or NACK. -/
  | dblCopy (t : Time) (h : DblHead) (close : Time) (effs : List Eff) (whole agree : Bool)
  /-- R535. The holder receives CONFIRM, sends class C replies and arms its Shuttles. -/
  | dblConfirm (t : Time) (h : DblHead) (close : Time)
  /-- R535. The holder receives NACK and sends the copy once more. -/
  | dblNack (t : Time) (h : DblHead) (close : Time)
  /-- R553. A joining chip receives snapshot frames and applies them before queued copies. -/
  | dblSnap (t : Time) (h : DblHead) (part parts : Nat) (effs : List Eff)
  /-- R434. The twin receives bulk data for a still or plane bank. -/
  | dblBulk (t : Time) (h : DblHead) (key off : Nat) (clear : Bool) (data : List Byte)
  /-- R514. A handed-off SiCP datagram or Skein message is accepted by the holder. -/
  | dblHandoff (t : Time) (h : DblHead) (m : HandOff)
  /-- R719. A twin's F2 to F4 event is logged as TWIN_EVENT. -/
  | dblEvent (t : Time) (h : DblHead) (e : Event)
  /-- R470. A TIME frame gives the twin Whorl time difference every 1 ms. -/
  | dblTime (t : Time) (diff held : Int) (ref : Nat)
  /-- R539. A standby receives YIELD and takes control. -/
  | dblYield (t : Time) (h : DblHead)
  /-- R551. The new holder receives SWAP with sequence numbers and pending requests and takes control. -/
  | dblSwap (t : Time) (h : DblHead) (reqs : List SwapReq) (seqs : List (Nat × Nat))
  /-- R544. No valid doubling frame for 20 µs; the chip acts on its TIE_IN reading to keep, take or give up control. -/
  | dblLinkLoss (t : Time) (tie : Tie) (since : Nat)
  /-- R534. One doubling lane goes down and the link runs on the other with F2. -/
  | dblLaneDown (t : Time) (lane : Fin 2)
  /-- R527. The TIE_IN classification changes after two windows agree, which may move the standby to SOLO. -/
  | tieInChange (t : Time) (edges : Nat × Nat)
  /-- R528. TIE_IN disagrees with the twin's reported role or reads INVALID for 1 ms and F2 is raised. -/
  | tieFault (t : Time)
  /-- R546. The 2.0 ms after a doubling-link loss end and the holder arms deferred takes. -/
  | settleEnd (t : Time)
  /-- R539. One second after a yield or swap the old holder stops handing datagrams to the twin. -/
  | handoffPeriodEnd (t : Time)
  /-- R705. An island's error line carries an F2 to F4 occurrence that FLT latches, captures or merges. -/
  | errorLineOccurrence (t : Time) (isl : Fin 40) (cls : Fin 3) (cond code typ master addr : Nat)
  /-- R707. The 1 ms current bit of a one-shot condition with no reaction clears. -/
  | currentBitExpiry (t : Time) (isl : Fin 40)
  /-- R708. The fault word copies disagree and FLT raises F4. -/
  | fltCheck (t : Time)
  /-- R717. A block interrupts the Spindle at an ERR condition and the Spindle logs it, rate-limited. -/
  | islandError (t : Time) (isl : Fin 40) (off : Nat) (bit : Fin 32) (cls : Fin 4) (dropped : Nat)
  /-- R725. BOOT writes 42 waiting records, or those waiting FLUSH seconds, as a log block and reads it back. -/
  | logBlockWrite (t : Time) (outcome : Fin 3)
  /-- R798. FLT reads the eight temperature sensors every 1 ms and sets TEMP_HIGH, TRIP or SENSOR. -/
  | tempSample (t : Time) (readings : List (Option Int))
  /-- R754. A core pair mismatch stops the pair and raises F3. -/
  | lockstep (t : Time) (pair : Fin 4) (addr : Nat)
  /-- R755. A Spindle SRAM read finds a corrected or double-bit error. -/
  | sramEcc (t : Time) (unc : Bool) (addr : Nat)
  /-- R764. A matrix transaction with no response in 20 µs completes with TIMEOUT. -/
  | transactionTimeout (t : Time) (isl : Fin 40) (off : Nat) (master typ : Nat)
  /-- R776. An island reset raises its fence and completes outstanding requests with ABORT. -/
  | islandFence (t : Time) (isl : Fin 40)
  /-- R780. A reset island is released, calibrated and re-armed by the Spindle, and serves again. -/
  | islandRearmed (t : Time) (isl : Fin 40) (good : Bool)
  /-- R756. A reset of SPN clears SRAM, reloads firmware and takes the chip to OFF. -/
  | spnReset (t : Time) (good : Bool)
  /-- R651. A reset of KEY clears keys and reloads them within 10 ms. -/
  | keyReset (t : Time)
  /-- R682. A reset of BOOT loses pending journal records and forces a checkpoint. -/
  | bootReset (t : Time)
  /-- R773. A write of GO to a DMA channel starts it from DESC. -/
  | dmaCmdGo (t : Time) (c : Fin 16) (fail : Option DmaFail)
  /-- R767. A write of STOP halts a DMA channel at the next element boundary. -/
  | dmaCmdStop (t : Time) (c : Fin 16)
  /-- R770. A TIMER instant moves BLOCK bytes of a waiting descriptor. -/
  | dmaTimerEvent (t : Time) (c : Fin 16) (fail : Option DmaFail)
  /-- R770. A NOTIFY completion of another channel moves a block of a CHAIN descriptor. -/
  | dmaChainEvent (t : Time) (c : Fin 16) (fail : Option DmaFail)
  /-- R772. A descriptor completes after its last write or barrier, raising IRQ or NOTIFY and fetching the next. -/
  | dmaDescriptorDone (t : Time) (c : Fin 16) (fail : Option DmaFail)
  /-- R773. A non-OKAY response or a bad descriptor halts the channel. -/
  | dmaHalt (t : Time) (c : Fin 16) (resp : Fin 6) (addr : Nat) (write : Bool)
  /-- R684. A write of XRD.LEN opens or closes a read range of the xSPI memory. -/
  | xrdLenWrite (t : Time) (len : Nat)
  /-- R684. A read of XRD.DATA takes the next word of the open range. -/
  | xrdDataRead (t : Time)
  /-- R16. A read of an RC field returns its value and resets it. -/
  | rcFieldRead (t : Time) (addr : Nat)
  /-- R293. A read of the low word of a 64-bit counter latches its high word. -/
  | counterLowRead (t : Time) (addr : Nat)
  /-- R16. A write to a register without behaviour of its own sets RW fields and clears W1C bits. -/
  | registerWrite (t : Time) (addr value : Nat)
  /-- R690. Staging with no accepted write for 60 s is discarded. -/
  | stageIdleExpiry (t : Time)
  /-- R580. A staging handle with no SALVO_ADD for 10 s is discarded. -/
  | salvoHandleExpiry (t : Time)
  /-- R618. A random generator health test fails, raising F3 and refusing every consumer. -/
  | rngFail (t : Time)
  /-- R641. An armed tamper input low for 10 µs zeroes the battery half and makes every slot UNUSABLE. -/
  | tamper (t : Time) (input : Fin 2)
  /-- R642. Every enabled tamper input high for 1 s lets KEY draw a new battery half. -/
  | tamperRelease (t : Time)
  /-- R738. Every 100 µs each GPI pin is sampled and a debounced edge is accepted. -/
  | gpiSample (t : Time) (levels : Nat)
  /-- R743. FLT samples EVAC_A and EVAC_B each millisecond and steps the override machine. -/
  | evacSample (t : Time) (a b : Bool)
  /-- R534. A doubling lane that was down comes up again, so the link returns to 50 Gbit/s and the LANE condition ends. -/
  | dblLaneUp (t : Time) (lane : Fin 2)
  /-- R491. A Strand in HELLO sends a HELLO unit every 10 µs, and in MEASURE sends its ECHO units. -/
  | strandHelloSend (t : Time) (p : Fin 256)
  /-- R466. At the end of a UTC day marked by leap59 or leap61, the TAI − UTC offset in use changes. -/
  | leapSecond (t : Time)
  /-- R276. An UP port starts or stops receiving Remote Fault or Local Fault ordered sets, so it sends idle only or resumes frames while staying UP. -/
  | remoteFault (t : Time) (p : Fin 258) (rf lf : Bool)
  /-- R539. A chip that has claimed the pair address repeats its gratuitous ARP and unsolicited NA 1 ms and 10 ms after the claim. -/
  | gratuitousArpRepeat (t : Time)
  /-- R97. At one Whorl instant, 10 µs before a switching point or after the last cell of the old frame, every tile adds or removes a target of a connection. -/
  | targetSetChange (t : Time) (key : ConnKey) (target : Fin 25) (add : Bool)
deriving DecidableEq, Repr

end Sys2Proof
end

