-- ==== Sys2Proof/Decode.lean ====
section
/-! DEFINITION. The decoder of table words. No row of spec/opcode_table.json gives a command any bits (log entry 1): a command
of this block is an event or a message and not a word. -/

namespace Sys2Proof

/-- The command that a word spells by the table's bits: the table gives no bits, so no word spells a command. -/
def decodeTableWord (_nbits _w : Nat) : Option Instr := none

end Sys2Proof
end

