-- ==== Sys2Proof/Config.lean ====
section
/-! DEFINITION. What the spec leaves to the chip or to an outside standard: free values, which nothing in Lean can evaluate.
Every use is named in the assumption log. -/

namespace Sys2Proof

/-- The free value number `n` of the run (log entry 2): a number that the chip draws or chooses itself and that the spec does
not fix, such as a random number, a handle or an analogue reading. The state's counter `free` selects it. -/
opaque Config.freeNat : Nat → Nat

/-- The unstated part of the servo law (12 R455; log entry 16): the NCO word that the proportional and integral loop writes,
as a function of the phase and frequency it measured and of the word it wrote before. -/
opaque Config.servoWord : Int → Int → Int → Int

/-- The path-delay filter of a PTP instance, which the spec names and does not state (12 R455; log entry 24): the filtered value
from the one before and the newest measurement. -/
opaque Config.ptpFilter : Int → Int → Int

/-- The chip's clockIdentity under IEEE 1588, and its clockAccuracy and offsetScaledLogVariance as one number (log entry 24). -/
opaque Config.clockId : Nat
opaque Config.clockQuality : Nat

/-- The first of the 256 MAC addresses that Ihlut programs into the chip's OTP (06 after Table 6.12; log entry 85). -/
opaque Config.macBase : Nat

/-- TROdefault of ST 2110-21 for a format code, in nanoseconds (04 R137; log entry 22). -/
opaque Config.tro : Nat → Nat

/-- Is the chip of grade AE (00 Table; log entry 30)? Otherwise it is of grade AC. -/
opaque Config.gradeAE : Bool

/-- The chip's 64-bit serial number, held in OTP (17 R615; log entry 31). -/
opaque Config.serial : Nat

/-- KEYINFO of a key by its number, 65 bytes (17 Table 17.5; log entry 31). -/
opaque Config.keyInfo : Nat → Nat

/-- The identity key's signature over a statement, 64 bytes (17 Table 17.5; log entry 31). -/
opaque Config.identitySign : List Byte → Nat

/-- The bytes of ciphertext and tag that sealing gives (18 R670, 20 R726; log entry 32): the key by its number, the count that is the
nonce, the plaintext, and the place of the byte. -/
opaque Config.sealedByte : Nat → Nat → List Byte → Nat → Byte

/-- What composing a head leaves to the firmware or to the standards it cites (11 R420, R428; log entry 38): the pixel of a scaled frame by its content and
place, as Y', Cb and Cr at 12 bits with chroma at every pixel; R'G'B' at 12 bits of Y'CbCr and back at a bit depth, by the matrix; the rounding of a quarter,
and the chroma that the filter takes beyond the end of a line. -/
opaque Config.windowPixel : Nat → Nat → Nat → Nat × Nat × Nat
opaque Config.toRgb : Nat → Nat → Nat → Nat → Nat × Nat × Nat
opaque Config.fromRgb : Nat → Nat → Nat → Nat → Nat → Nat × Nat × Nat
opaque Config.quarter : Nat → Nat
opaque Config.edgeChroma : Nat → Nat

/-- A fact of a source on another pair, by its global ID (log entry 40): how a chip learns it is not stated. 0 its KIND, 1 its FORMAT, 2 its
SLOTS, 3 the MAXRATE of its ST 2110-22 flow, 4 whether it has an ancillary essence (not 0), 5 the meter depth of its audio, 6 whether its policy is LOCKED (not 0), 7
the PARAM of its ST 2110-22 flow. -/
opaque Config.farSource : Nat → Nat → Nat

/-- W of the chips of a destination's pair in nanoseconds, by the destination's global ID (log entry 44): how a coordinator learns it is not
stated. -/
opaque Config.farWindow : Nat → Nat

/-- The ancillary space of a line of an SDI destination that the chip's own packets leave free (05 R203; log entry 55), by the destination's format and
slots, the line and the data stream (C): runs of words by their first word and length. It depends on ST 299 and ST 291, which the spec cites. -/
opaque Config.ancSpace : Nat → Nat → Nat → Bool → List (Nat × Nat)

/-- The four user data words of the ST 352 payload identifier of a lane of an SDI destination (05 R202; log entry 72): by the destination's format, the
lane rate code, the 3G level, square division and the link number. -/
opaque Config.payloadId : Nat → Nat → Nat → Bool → Nat → List Nat

/-- The bytes of the fill codestream that the firmware builds for an ST 2110-22 destination (06 R250; log entry 81), by its format and PARAM. -/
opaque Config.fillStream : Nat → Nat → Nat

/-- What the receiver of a lane has adapted to at an instant of its own clock (07 R271, R273; log entry 2): bits [7:0] the eye opening, [15:8] the CTLE code, and
[16] whether adaptation at a rate that was just tried is complete. -/
opaque Config.laneEye : Nat → Nat → Nat

/-- The keyed interleave of external memory (09 R332, R336; log entry 84), whose construction is internal: the numbers that draw σ_g and φ_c under the
interleave key, the 11-bit code over a burst's data, and the 5-bit check of its channel and device row. -/
opaque Config.sigmaDraw : Nat → Nat → Nat → Nat
opaque Config.phiDraw : Nat → Nat → Nat → Nat
opaque Config.secDed : List Byte → Nat
opaque Config.rowCheck : Nat → Nat → Nat → Nat

/-- The entry of a record in the configuration digest (14 R554; log entry 89). -/
opaque Config.recordDigest : List Byte → Nat

end Sys2Proof
end

