-- ==== Sys2Proof/Machine/Bytes.lean ====
section
/-! DEFINITION. Byte orders, finite maps as sorted lists, bit masks and the CRC-32C: the plain operations that the meanings
share. -/

namespace Sys2Proof.Machine

/-! ### Sorted maps by number -/

/-- The value at a key of a sorted map. -/
def look {α : Type} (k : Nat) : List (Nat × α) → Option α
  | [] => none
  | (j, v) :: m => if k = j then some v else look k m

/-- A sorted map with the key bound to the value. -/
def put {α : Type} (k : Nat) (v : α) : List (Nat × α) → List (Nat × α)
  | [] => [(k, v)]
  | (j, w) :: m => if k < j then (k, v) :: (j, w) :: m else if k = j then (k, v) :: m else (j, w) :: put k v m

/-- A sorted map without the key. -/
def drop {α : Type} (k : Nat) : List (Nat × α) → List (Nat × α)
  | [] => []
  | (j, w) :: m => if k = j then m else (j, w) :: drop k m

/-- The value at a key, or a default. -/
def lookD {α : Type} (k : Nat) (m : List (Nat × α)) (d : α) : α := (look k m).getD d

/-- Are the keys strictly rising? -/
def rising {α : Type} : List (Nat × α) → Bool
  | [] => true
  | [_] => true
  | a :: b :: m => a.1 < b.1 && rising (b :: m)

/-! ### Bits and bytes -/

/-- Bit `n` of a number (00 R14). -/
def bit (w n : Nat) : Bool := w / 2 ^ n % 2 = 1

/-- The field [hi:lo] of a number (00 R14). -/
def bits (w hi lo : Nat) : Nat := w / 2 ^ lo % 2 ^ (hi + 1 - lo)

/-- A number as 0 or 1. -/
def b2n (b : Bool) : Nat := if b then 1 else 0

/-- The byte at an offset; 0 beyond the end. -/
def byteAt (v : List Byte) (o : Nat) : Nat := (v.getD o 0).toNat

/-- The little-endian number of `n` bytes at an offset (02 R84). -/
def leAt (v : List Byte) : Nat → Nat → Nat
  | _, 0 => 0
  | o, n + 1 => byteAt v o + 256 * leAt v (o + 1) n

/-- The number of `n` bytes at an offset in network order (15 R568, R569). -/
def beAt (v : List Byte) (o n : Nat) : Nat := (List.range n).foldl (fun a i => a * 256 + byteAt v (o + i)) 0

/-- `n` bytes of a number, least significant first. -/
def leBytes : Nat → Nat → List Byte
  | 0, _ => []
  | n + 1, w => BitVec.ofNat 8 w :: leBytes n (w / 256)

/-- `n` bytes of a number in network order. -/
def beBytes (n w : Nat) : List Byte := (leBytes n w).reverse

/-- A number read as two's complement of `n` bits. -/
def signed (n w : Nat) : Int := if w % 2 ^ n < 2 ^ (n - 1) then (w % 2 ^ n : Nat) else (w % 2 ^ n : Nat) - (2 ^ n : Nat)

/-- The two's complement of `n` bits of an integer. -/
def unsigned (n : Nat) (z : Int) : Nat := (z % (2 ^ n : Nat)).toNat

/-- The quotient rounded up. -/
def ceilDiv (a b : Nat) : Nat := (a + b - 1) / b

/-- Put an element before the first that it does not exceed. -/
def insertBy {α : Type} (le : α → α → Bool) (a : α) : List α → List α
  | [] => [a]
  | b :: t => if le a b then a :: b :: t else b :: insertBy le a t

/-- A list in order; elements that are alike keep their places. -/
def sortBy {α : Type} (le : α → α → Bool) (l : List α) : List α := l.foldr (insertBy le) []

/-- One bit of the CRC-32C (Castagnoli polynomial, reflected 0x82F6_3B78). -/
def crcStep (c : Nat) : Nat := if c % 2 = 1 then (c / 2) ^^^ 0x82F63B78 else c / 2

/-- One byte of the CRC-32C. -/
def crcByte (c : Nat) (b : Byte) : Nat :=
  crcStep (crcStep (crcStep (crcStep (crcStep (crcStep (crcStep (crcStep (c ^^^ b.toNat))))))))

/-- The CRC-32C of a string of bytes. -/
def crc32c (v : List Byte) : Nat := (v.foldl crcByte 0xFFFFFFFF) ^^^ 0xFFFFFFFF

/-- One bit of the CRC-16 with polynomial 0x1021, most significant first (13 Table 13.1). -/
def crc16Step (c : Nat) : Nat := if c / 2 ^ 15 % 2 = 1 then (c * 2 % 2 ^ 16) ^^^ 0x1021 else c * 2 % 2 ^ 16

/-- The CRC-16 of a string of bytes, with initial value 0xFFFF (13 Table 13.1). -/
def crc16 (v : List Byte) : Nat := v.foldl (fun c b => (List.range 8).foldl (fun c _ => crc16Step c) (c ^^^ (b.toNat * 256))) 0xFFFF

/-- The sum of a list. -/
def total (l : List Nat) : Nat := l.foldl (· + ·) 0

/-- Replace the first element that a test accepts. -/
def updFirst {α : Type} (p : α → Bool) (f : α → α) : List α → List α
  | [] => []
  | a :: l => if p a then f a :: l else a :: updFirst p f l

/-- The first number from `n` on that is not in the list, tried `k` times. -/
def firstFree (used : List Nat) : Nat → Nat → Nat
  | n, 0 => n
  | n, k + 1 => if used.contains n then firstFree used (n + 1) k else n

end Sys2Proof.Machine
end

