-- ==== Sys2Proof/Machine/RegMap.lean ====
section
/-! DEFINITION. The register map: every field of every register table of the spec, its place in its island window (01 R24,
Table 1.1), its access code (00 R16, Table 0.4) and its reset value. Reserved bits have no row: they read 0 and writes do not
reach them (00 R17). -/

namespace Sys2Proof.Machine

/-- The access codes of Table 0.4 (00 R16). -/
inductive Access where
  | ro | rw | w1c | rc
deriving DecidableEq, Repr

/-- One row of a register table. It stands for the field at offset `off + stride × i` of islands `isl` to `isl + islands − 1`,
with i below `count`. -/
structure RegRow where
  isl : Nat
  islands : Nat
  off : Nat
  stride : Nat
  count : Nat
  hi : Nat
  lo : Nat
  acc : Access
  rst : Nat
deriving DecidableEq, Repr

/-- A field of one register: its island, the offset of its word in the island window, and its bits. -/
structure Fld where
  isl : Nat
  off : Nat
  hi : Nat
  lo : Nat
deriving DecidableEq, Repr

/-- The control-plane address of a field's word (01 R24). -/
def Fld.addr (f : Fld) : Nat := 0x4000000000 + f.isl * 0x100000 + f.off

/-- The number of bits of a field. -/
def Fld.width (f : Fld) : Nat := f.hi + 1 - f.lo

/-- The place of a port block (07 R297): port p is the port or Strand group whose first lane is Wp; ports 256 and 257 are the
management ports MA and MB in the SPN window. -/
def portPlace (p : Nat) : Nat × Nat :=
  if p < 256 then (p / 16, 0x31000 + 0x100 * (p % 16)) else (34, 0x70000 + 0x100 * (p - 256))

/-! Fields of Table 3.14. -/
def R.XT_ERR_CREDIT (n : Nat) : Fld := ⟨16 + n, 0x4, 4, 4⟩
def R.XT_ERR_HS_TIMEOUT (n : Nat) : Fld := ⟨16 + n, 0x4, 3, 3⟩
def R.XT_ERR_ECC_UNC (n : Nat) : Fld := ⟨16 + n, 0x4, 2, 2⟩
def R.XT_ERR_ECC_COR (n : Nat) : Fld := ⟨16 + n, 0x4, 1, 1⟩
def R.XT_ERR_CRC (n : Nat) : Fld := ⟨16 + n, 0x4, 0, 0⟩

/-! Fields of Table 3.15. -/
def R.XT_CRC_CNT (n : Nat) : Fld := ⟨16 + n, 0x8, 31, 0⟩
def R.XT_ECC_COR_CNT (n : Nat) : Fld := ⟨16 + n, 0xc, 31, 0⟩
def R.XT_CELLS_LO (n : Nat) : Fld := ⟨16 + n, 0x10, 31, 0⟩
def R.XT_CELLS_HI (n : Nat) : Fld := ⟨16 + n, 0x14, 31, 0⟩
def R.XT_BE_CELLS_LO (n : Nat) : Fld := ⟨16 + n, 0x18, 31, 0⟩
def R.XT_BE_CELLS_HI (n : Nat) : Fld := ⟨16 + n, 0x1c, 31, 0⟩
def R.XT_BE_DROP (n : Nat) : Fld := ⟨16 + n, 0x20, 31, 0⟩
def R.XT_QPEAK (n : Nat) : Fld := ⟨16 + n, 0x24, 7, 0⟩

/-! Fields of Table 3.16. -/
def R.PC_XPR_LOST (n : Nat) : Fld := ⟨n, 0x4000, 31, 0⟩
def R.PC_XPR_CRC (n : Nat) : Fld := ⟨n, 0x4004, 31, 0⟩
def R.PC_XPR_POLICED (n : Nat) : Fld := ⟨n, 0x4008, 31, 0⟩
def R.PC_XPR_BE_DROP (n : Nat) : Fld := ⟨n, 0x400c, 31, 0⟩
def R.PC_XPR_VOQ_PEAK (n : Nat) : Fld := ⟨n, 0x4010, 15, 0⟩
def R.PC_XPR_REORD_PEAK (n : Nat) : Fld := ⟨n, 0x4014, 15, 0⟩

/-! Fields of Table 3.17. -/
def R.ADM_IN_BOOKED (i : Nat) : Fld := ⟨34, 0x60000 + 0x4 * i, 20, 0⟩
def R.ADM_OUT_BOOKED (i : Nat) : Fld := ⟨34, 0x60040 + 0x4 * i, 20, 0⟩

/-! Fields of Table 3.18. -/
def R.ADM_BOBBIN : Fld := ⟨34, 0x60080, 21, 0⟩
def R.ADM_WAIT_PEAK : Fld := ⟨34, 0x60084, 28, 16⟩
def R.ADM_WAITING : Fld := ⟨34, 0x60084, 12, 0⟩
def R.ADM_CONNS : Fld := ⟨34, 0x60088, 15, 0⟩
def R.ADM_REFUSED (i : Nat) : Fld := ⟨34, 0x60100 + 0x4 * i, 31, 0⟩
def R.ADM_DELAYED : Fld := ⟨34, 0x60140, 31, 0⟩

/-! Fields of Table 3.19. -/
def R.XP_TSTATE_T7 : Fld := ⟨34, 0x60180, 30, 28⟩
def R.XP_TSTATE_T6 : Fld := ⟨34, 0x60180, 26, 24⟩
def R.XP_TSTATE_T5 : Fld := ⟨34, 0x60180, 22, 20⟩
def R.XP_TSTATE_T4 : Fld := ⟨34, 0x60180, 18, 16⟩
def R.XP_TSTATE_T3 : Fld := ⟨34, 0x60180, 14, 12⟩
def R.XP_TSTATE_T2 : Fld := ⟨34, 0x60180, 10, 8⟩
def R.XP_TSTATE_T1 : Fld := ⟨34, 0x60180, 6, 4⟩
def R.XP_TSTATE_T0 : Fld := ⟨34, 0x60180, 2, 0⟩

/-! Fields of Table 4.16. -/
def R.SHT_TAKE_HELD (n : Nat) : Fld := ⟨n, 0x8000, 27, 16⟩
def R.SHT_TAKE_PEND (n : Nat) : Fld := ⟨n, 0x8000, 11, 0⟩

/-! Fields of Table 4.17. -/
def R.SHT_ERR_LATE (n : Nat) : Fld := ⟨n, 0x8004, 3, 3⟩
def R.SHT_ERR_HS_TIMEOUT (n : Nat) : Fld := ⟨n, 0x8004, 2, 2⟩
def R.SHT_ERR_ECC_UNC (n : Nat) : Fld := ⟨n, 0x8004, 1, 1⟩
def R.SHT_ERR_ECC_COR (n : Nat) : Fld := ⟨n, 0x8004, 0, 0⟩

/-! Fields of Table 4.18. -/
def R.SHT_SWITCHES (n : Nat) : Fld := ⟨n, 0x8008, 31, 0⟩
def R.SHT_SUPERSEDED (n : Nat) : Fld := ⟨n, 0x800c, 31, 0⟩
def R.SHT_UNDERRUN (n : Nat) : Fld := ⟨n, 0x8010, 31, 0⟩
def R.SHT_CATCH_TO_BOBBIN (n : Nat) : Fld := ⟨n, 0x8014, 31, 0⟩
def R.SHT_CATCH_TO_DIRECT (n : Nat) : Fld := ⟨n, 0x8018, 31, 0⟩

/-! Fields of Table 4.19. -/
def R.SHT_DST_VALID (n i : Nat) : Fld := ⟨n, 0x9000 + 0x4 * i, 31, 31⟩
def R.SHT_DST_MODE (n i : Nat) : Fld := ⟨n, 0x9000 + 0x4 * i, 30, 29⟩
def R.SHT_DST_PATH (n i : Nat) : Fld := ⟨n, 0x9000 + 0x4 * i, 28, 28⟩
def R.SHT_DST_PEND_V (n i : Nat) : Fld := ⟨n, 0x9000 + 0x4 * i, 27, 27⟩
def R.SHT_DST_PEND_A (n i : Nat) : Fld := ⟨n, 0x9000 + 0x4 * i, 26, 26⟩
def R.SHT_DST_PEND_X (n i : Nat) : Fld := ⟨n, 0x9000 + 0x4 * i, 25, 25⟩
def R.SHT_DST_HELD (n i : Nat) : Fld := ⟨n, 0x9000 + 0x4 * i, 24, 24⟩
def R.SHT_DST_UNDERRUN (n i : Nat) : Fld := ⟨n, 0x9000 + 0x4 * i, 23, 23⟩
def R.SHT_DST_UNALIGNED (n i : Nat) : Fld := ⟨n, 0x9000 + 0x4 * i, 22, 22⟩
def R.SHT_DST_VSRC_VALID (n i : Nat) : Fld := ⟨n, 0x9000 + 0x4 * i, 21, 21⟩
def R.SHT_DST_VSRC (n i : Nat) : Fld := ⟨n, 0x9000 + 0x4 * i, 19, 0⟩

/-! Fields of Table 4.20. -/
def R.SALVO_ENTRIES : Fld := ⟨34, 0x60200, 25, 8⟩
def R.SALVO_ARMED : Fld := ⟨34, 0x60200, 7, 0⟩
def R.SALVO_COMMITS : Fld := ⟨34, 0x60204, 31, 0⟩
def R.SALVO_ABORTS : Fld := ⟨34, 0x60208, 31, 0⟩
def R.SALVO_ORPHANS : Fld := ⟨34, 0x6020c, 31, 0⟩
def R.SALVO_GPI_IGNORED : Fld := ⟨34, 0x60210, 31, 0⟩

/-! Fields of Table 5.13. -/
def R.RX_STAT_FORMAT (x : Nat) : Fld := ⟨x / 16, 0x10000 + 0x80 * (x % 16), 31, 16⟩
def R.RX_STAT_LEVEL (x : Nat) : Fld := ⟨x / 16, 0x10000 + 0x80 * (x % 16), 15, 14⟩
def R.RX_STAT_LINK (x : Nat) : Fld := ⟨x / 16, 0x10000 + 0x80 * (x % 16), 13, 11⟩
def R.RX_STAT_IN_WINDOW (x : Nat) : Fld := ⟨x / 16, 0x10000 + 0x80 * (x % 16), 10, 10⟩
def R.RX_STAT_PID_PRESENT (x : Nat) : Fld := ⟨x / 16, 0x10000 + 0x80 * (x % 16), 9, 9⟩
def R.RX_STAT_LRATE (x : Nat) : Fld := ⟨x / 16, 0x10000 + 0x80 * (x % 16), 7, 4⟩
def R.RX_STAT_STATE (x : Nat) : Fld := ⟨x / 16, 0x10000 + 0x80 * (x % 16), 2, 0⟩

/-! Fields of Table 5.14. -/
def R.RX_CHK_LATCHED (x : Nat) : Fld := ⟨x / 16, 0x10004 + 0x80 * (x % 16), 15, 8⟩
def R.RX_CHK_CUR (x : Nat) : Fld := ⟨x / 16, 0x10004 + 0x80 * (x % 16), 7, 0⟩

/-! Fields of Table 5.15. -/
def R.RX_CRC_LINES (x : Nat) : Fld := ⟨x / 16, 0x10008 + 0x80 * (x % 16), 31, 0⟩
def R.RX_LN_LINES (x : Nat) : Fld := ⟨x / 16, 0x1000c + 0x80 * (x % 16), 31, 0⟩
def R.RX_TRS_LINES (x : Nat) : Fld := ⟨x / 16, 0x10010 + 0x80 * (x % 16), 31, 0⟩
def R.RX_FIELD_FRAMES (x : Nat) : Fld := ⟨x / 16, 0x10014 + 0x80 * (x % 16), 31, 0⟩
def R.RX_PID_FRAMES (x : Nat) : Fld := ⟨x / 16, 0x10018 + 0x80 * (x % 16), 31, 0⟩
def R.RX_ANC_DROP (x : Nat) : Fld := ⟨x / 16, 0x1001c + 0x80 * (x % 16), 31, 0⟩
def R.RX_AUD_COR (x : Nat) : Fld := ⟨x / 16, 0x10020 + 0x80 * (x % 16), 31, 0⟩
def R.RX_AUD_UNC (x : Nat) : Fld := ⟨x / 16, 0x10024 + 0x80 * (x % 16), 31, 0⟩
def R.RX_AUD_RATE (x : Nat) : Fld := ⟨x / 16, 0x10028 + 0x80 * (x % 16), 31, 0⟩
def R.RX_ANC_OVER (x : Nat) : Fld := ⟨x / 16, 0x1002c + 0x80 * (x % 16), 31, 0⟩
def R.RX_SKEW_FRAMES (x : Nat) : Fld := ⟨x / 16, 0x10030 + 0x80 * (x % 16), 31, 0⟩
def R.RX_FMT_CHG (x : Nat) : Fld := ⟨x / 16, 0x10034 + 0x80 * (x % 16), 31, 0⟩
def R.RX_HUNT_SWEEPS (x : Nat) : Fld := ⟨x / 16, 0x10038 + 0x80 * (x % 16), 31, 0⟩
def R.RX_FRAMES (x : Nat) : Fld := ⟨x / 16, 0x1003c + 0x80 * (x % 16), 31, 0⟩

/-! Fields of Table 5.16. -/
def R.TX_STAT_FORMAT (x : Nat) : Fld := ⟨x / 16, 0x11000 + 0x40 * (x % 16), 31, 16⟩
def R.TX_STAT_LEVEL (x : Nat) : Fld := ⟨x / 16, 0x11000 + 0x40 * (x % 16), 15, 14⟩
def R.TX_STAT_LINK (x : Nat) : Fld := ⟨x / 16, 0x11000 + 0x40 * (x % 16), 13, 11⟩
def R.TX_STAT_FILL (x : Nat) : Fld := ⟨x / 16, 0x11000 + 0x40 * (x % 16), 10, 10⟩
def R.TX_STAT_REPEAT (x : Nat) : Fld := ⟨x / 16, 0x11000 + 0x40 * (x % 16), 9, 9⟩
def R.TX_STAT_QUIET (x : Nat) : Fld := ⟨x / 16, 0x11000 + 0x40 * (x % 16), 8, 8⟩
def R.TX_STAT_LRATE (x : Nat) : Fld := ⟨x / 16, 0x11000 + 0x40 * (x % 16), 7, 4⟩

/-! Fields of Table 5.17. -/
def R.TX_FRAMES (x : Nat) : Fld := ⟨x / 16, 0x11004 + 0x40 * (x % 16), 31, 0⟩
def R.TX_ANC_PLACE (x : Nat) : Fld := ⟨x / 16, 0x11008 + 0x40 * (x % 16), 31, 0⟩
def R.TX_FSEQ_LO (x : Nat) : Fld := ⟨x / 16, 0x1100c + 0x40 * (x % 16), 31, 0⟩
def R.TX_FSEQ_HI (x : Nat) : Fld := ⟨x / 16, 0x11010 + 0x40 * (x % 16), 15, 0⟩

/-! Fields of Table 5.18. -/
def R.SDI_ERR_HS_TIMEOUT (n : Nat) : Fld := ⟨n, 0x12000, 2, 2⟩
def R.SDI_ERR_ECC_UNC (n : Nat) : Fld := ⟨n, 0x12000, 1, 1⟩
def R.SDI_ERR_ECC_COR (n : Nat) : Fld := ⟨n, 0x12000, 0, 0⟩

/-! Fields of Table 6.13. -/
def R.FLOW_TBL_STASH (n : Nat) : Fld := ⟨n, 0x20000, 21, 16⟩
def R.FLOW_TBL_ENTRIES (n : Nat) : Fld := ⟨n, 0x20000, 13, 0⟩

/-! Fields of Table 6.14. -/
def R.FLOW_NO_MATCH (n : Nat) : Fld := ⟨n, 0x20004, 31, 0⟩
def R.FLOW_CONFLICT (n : Nat) : Fld := ⟨n, 0x20008, 31, 0⟩
def R.FLOW_REPORTS (n : Nat) : Fld := ⟨n, 0x2000c, 31, 0⟩
def R.FLOW_QUERIES (n : Nat) : Fld := ⟨n, 0x20010, 31, 0⟩
def R.FLOW_HS_TIMEOUT (n : Nat) : Fld := ⟨n, 0x20014, 2, 2⟩
def R.FLOW_ECC_UNC (n : Nat) : Fld := ⟨n, 0x20014, 1, 1⟩
def R.FLOW_ECC_COR (n : Nat) : Fld := ⟨n, 0x20014, 0, 0⟩

/-! Fields of Table 6.15. -/
def R.IF_STAT_JOINED (n i : Nat) : Fld := ⟨n, 0x40000 + 0x40 * i, 31, 31⟩
def R.IF_STAT_OWNED_A (n i : Nat) : Fld := ⟨n, 0x40000 + 0x40 * i, 30, 30⟩
def R.IF_STAT_OWNED_B (n i : Nat) : Fld := ⟨n, 0x40000 + 0x40 * i, 29, 29⟩
def R.IF_STAT_TYPE (n i : Nat) : Fld := ⟨n, 0x40000 + 0x40 * i, 28, 27⟩
def R.IF_STAT_ALIGNED (n i : Nat) : Fld := ⟨n, 0x40000 + 0x40 * i, 26, 26⟩
def R.IF_STAT_WHOLE (n i : Nat) : Fld := ⟨n, 0x40000 + 0x40 * i, 25, 25⟩
def R.IF_STAT_FORMAT (n i : Nat) : Fld := ⟨n, 0x40000 + 0x40 * i, 15, 0⟩

/-! Fields of Table 6.16. -/
def R.IF_CHK_LATCHED (n i : Nat) : Fld := ⟨n, 0x40004 + 0x40 * i, 15, 8⟩
def R.IF_CHK_LEG_B_DOWN (n i : Nat) : Fld := ⟨n, 0x40004 + 0x40 * i, 7, 7⟩
def R.IF_CHK_LEG_A_DOWN (n i : Nat) : Fld := ⟨n, 0x40004 + 0x40 * i, 6, 6⟩
def R.IF_CHK_VRX (n i : Nat) : Fld := ⟨n, 0x40004 + 0x40 * i, 5, 5⟩
def R.IF_CHK_CINST (n i : Nat) : Fld := ⟨n, 0x40004 + 0x40 * i, 4, 4⟩
def R.IF_CHK_TS (n i : Nat) : Fld := ⟨n, 0x40004 + 0x40 * i, 3, 3⟩
def R.IF_CHK_BAD_PT (n i : Nat) : Fld := ⟨n, 0x40004 + 0x40 * i, 2, 2⟩
def R.IF_CHK_FOREIGN (n i : Nat) : Fld := ⟨n, 0x40004 + 0x40 * i, 1, 1⟩
def R.IF_CHK_HOLE (n i : Nat) : Fld := ⟨n, 0x40004 + 0x40 * i, 0, 0⟩

/-! Fields of Table 6.17. -/
def R.IF_PKTS_A (n i : Nat) : Fld := ⟨n, 0x40008 + 0x40 * i, 31, 0⟩
def R.IF_PKTS_B (n i : Nat) : Fld := ⟨n, 0x4000c + 0x40 * i, 31, 0⟩
def R.IF_HOLE (n i : Nat) : Fld := ⟨n, 0x40010 + 0x40 * i, 31, 0⟩
def R.IF_FOREIGN (n i : Nat) : Fld := ⟨n, 0x40014 + 0x40 * i, 31, 0⟩
def R.IF_BAD_PT (n i : Nat) : Fld := ⟨n, 0x40018 + 0x40 * i, 31, 16⟩
def R.IF_MALFORMED (n i : Nat) : Fld := ⟨n, 0x40018 + 0x40 * i, 15, 0⟩
def R.IF_LATE (n i : Nat) : Fld := ⟨n, 0x4001c + 0x40 * i, 31, 16⟩
def R.IF_OWNER_ADOPT (n i : Nat) : Fld := ⟨n, 0x4001c + 0x40 * i, 15, 0⟩
def R.IF_POLICED (n i : Nat) : Fld := ⟨n, 0x40020 + 0x40 * i, 31, 0⟩
def R.IF_DIFF_PEAK (n i : Nat) : Fld := ⟨n, 0x40024 + 0x40 * i, 31, 0⟩
def R.IF_VRX_PEAK (n i : Nat) : Fld := ⟨n, 0x40028 + 0x40 * i, 31, 16⟩
def R.IF_CINST_PEAK (n i : Nat) : Fld := ⟨n, 0x40028 + 0x40 * i, 15, 0⟩
def R.IF_OFFSET_MAX (n i : Nat) : Fld := ⟨n, 0x4002c + 0x40 * i, 31, 0⟩
def R.IF_OFFSET_MIN (n i : Nat) : Fld := ⟨n, 0x40030 + 0x40 * i, 31, 0⟩
def R.IF_OWNER_SSRC_A (n i : Nat) : Fld := ⟨n, 0x40034 + 0x40 * i, 31, 0⟩
def R.IF_OWNER_SSRC_B (n i : Nat) : Fld := ⟨n, 0x40038 + 0x40 * i, 31, 0⟩
def R.IF_OWNER_ADDR (n i : Nat) : Fld := ⟨n, 0x4003c + 0x40 * i, 31, 0⟩

/-! Fields of Table 6.18. -/
def R.EF_QUIET (n i : Nat) : Fld := ⟨n, 0xc0000 + 0x20 * i, 31, 31⟩
def R.EF_EMIT_A (n i : Nat) : Fld := ⟨n, 0xc0000 + 0x20 * i, 30, 30⟩
def R.EF_EMIT_B (n i : Nat) : Fld := ⟨n, 0xc0000 + 0x20 * i, 29, 29⟩
def R.EF_TYPE (n i : Nat) : Fld := ⟨n, 0xc0000 + 0x20 * i, 28, 27⟩
def R.EF_FORMAT (n i : Nat) : Fld := ⟨n, 0xc0000 + 0x20 * i, 15, 0⟩
def R.EF_PKTS (n i : Nat) : Fld := ⟨n, 0xc0004 + 0x20 * i, 31, 0⟩
def R.EF_SKIPPED (n i : Nat) : Fld := ⟨n, 0xc0008 + 0x20 * i, 31, 0⟩
def R.EF_FILL_FRAMES (n i : Nat) : Fld := ⟨n, 0xc000c + 0x20 * i, 31, 0⟩
def R.EF_LAST_ESN (n i : Nat) : Fld := ⟨n, 0xc0010 + 0x20 * i, 31, 0⟩

/-! Fields of Table 7.10. -/
def R.PORT_KIND (p : Nat) : Fld := ⟨(portPlace p).1, (portPlace p).2 + 0x0, 31, 30⟩
def R.PORT_STATE (p : Nat) : Fld := ⟨(portPlace p).1, (portPlace p).2 + 0x0, 29, 28⟩
def R.PORT_RF_RX (p : Nat) : Fld := ⟨(portPlace p).1, (portPlace p).2 + 0x0, 27, 27⟩
def R.PORT_LF_RX (p : Nat) : Fld := ⟨(portPlace p).1, (portPlace p).2 + 0x0, 26, 26⟩
def R.PORT_HI_ERR (p : Nat) : Fld := ⟨(portPlace p).1, (portPlace p).2 + 0x0, 25, 25⟩
def R.PORT_QPAUSED (p : Nat) : Fld := ⟨(portPlace p).1, (portPlace p).2 + 0x0, 15, 8⟩
def R.PORT_QIGNORE (p : Nat) : Fld := ⟨(portPlace p).1, (portPlace p).2 + 0x0, 7, 0⟩
def R.PORT_HALF (p : Nat) : Fld := ⟨(portPlace p).1, (portPlace p).2 + 0x4, 15, 0⟩
def R.PORT_ERR_PLL (p : Nat) : Fld := ⟨(portPlace p).1, (portPlace p).2 + 0x8, 3, 3⟩
def R.PORT_ERR_HS_TIMEOUT (p : Nat) : Fld := ⟨(portPlace p).1, (portPlace p).2 + 0x8, 2, 2⟩
def R.PORT_ERR_ECC_UNC (p : Nat) : Fld := ⟨(portPlace p).1, (portPlace p).2 + 0x8, 1, 1⟩
def R.PORT_ERR_ECC_COR (p : Nat) : Fld := ⟨(portPlace p).1, (portPlace p).2 + 0x8, 0, 0⟩
def R.PORT_RX_OCTETS_LO (p : Nat) : Fld := ⟨(portPlace p).1, (portPlace p).2 + 0x10, 31, 0⟩
def R.PORT_RX_OCTETS_HI (p : Nat) : Fld := ⟨(portPlace p).1, (portPlace p).2 + 0x14, 31, 0⟩
def R.PORT_TX_OCTETS_LO (p : Nat) : Fld := ⟨(portPlace p).1, (portPlace p).2 + 0x18, 31, 0⟩
def R.PORT_TX_OCTETS_HI (p : Nat) : Fld := ⟨(portPlace p).1, (portPlace p).2 + 0x1c, 31, 0⟩
def R.PORT_RX_FRAMES (p : Nat) : Fld := ⟨(portPlace p).1, (portPlace p).2 + 0x20, 31, 0⟩
def R.PORT_RX_FCS_ERR (p : Nat) : Fld := ⟨(portPlace p).1, (portPlace p).2 + 0x24, 31, 0⟩
def R.PORT_RX_RUNT (p : Nat) : Fld := ⟨(portPlace p).1, (portPlace p).2 + 0x28, 31, 0⟩
def R.PORT_RX_OVERSIZE (p : Nat) : Fld := ⟨(portPlace p).1, (portPlace p).2 + 0x2c, 31, 0⟩
def R.PORT_RX_TAG_DROP (p : Nat) : Fld := ⟨(portPlace p).1, (portPlace p).2 + 0x30, 31, 0⟩
def R.PORT_RX_PAUSE (p : Nat) : Fld := ⟨(portPlace p).1, (portPlace p).2 + 0x34, 31, 0⟩
def R.PORT_CTRL_DROP (p : Nat) : Fld := ⟨(portPlace p).1, (portPlace p).2 + 0x38, 31, 0⟩
def R.PORT_RX_OTHER (p : Nat) : Fld := ⟨(portPlace p).1, (portPlace p).2 + 0x3c, 31, 0⟩
def R.PORT_TX_FRAMES (p : Nat) : Fld := ⟨(portPlace p).1, (portPlace p).2 + 0x40, 31, 0⟩
def R.PORT_TX_DISCARD (p : Nat) : Fld := ⟨(portPlace p).1, (portPlace p).2 + 0x44, 31, 0⟩
def R.PORT_TX_CUT (p : Nat) : Fld := ⟨(portPlace p).1, (portPlace p).2 + 0x48, 31, 0⟩
def R.PORT_BE_TX_DROP (p : Nat) : Fld := ⟨(portPlace p).1, (portPlace p).2 + 0x4c, 31, 0⟩
def R.PORT_PAUSE_WD (p : Nat) : Fld := ⟨(portPlace p).1, (portPlace p).2 + 0x50, 31, 0⟩
def R.PORT_FEC_COR (p : Nat) : Fld := ⟨(portPlace p).1, (portPlace p).2 + 0x54, 31, 0⟩
def R.PORT_FEC_UNC (p : Nat) : Fld := ⟨(portPlace p).1, (portPlace p).2 + 0x58, 31, 0⟩
def R.PORT_BLOCK_ERR (p : Nat) : Fld := ⟨(portPlace p).1, (portPlace p).2 + 0x5c, 31, 0⟩
def R.PORT_LINK_DOWN (p : Nat) : Fld := ⟨(portPlace p).1, (portPlace p).2 + 0x60, 31, 0⟩

/-! Fields of Table 7.11. -/
def R.WL_STAT_EYE (x : Nat) : Fld := ⟨x / 16, 0x30000 + 0x40 * (x % 16), 31, 24⟩
def R.WL_STAT_CTLE (x : Nat) : Fld := ⟨x / 16, 0x30000 + 0x40 * (x % 16), 23, 16⟩
def R.WL_STAT_RATE (x : Nat) : Fld := ⟨x / 16, 0x30000 + 0x40 * (x % 16), 7, 5⟩
def R.WL_STAT_POL_RX (x : Nat) : Fld := ⟨x / 16, 0x30000 + 0x40 * (x % 16), 4, 4⟩
def R.WL_STAT_POL_TX (x : Nat) : Fld := ⟨x / 16, 0x30000 + 0x40 * (x % 16), 3, 3⟩
def R.WL_STAT_LOCK (x : Nat) : Fld := ⟨x / 16, 0x30000 + 0x40 * (x % 16), 2, 2⟩
def R.WL_STAT_CDR (x : Nat) : Fld := ⟨x / 16, 0x30000 + 0x40 * (x % 16), 1, 1⟩
def R.WL_STAT_SIG (x : Nat) : Fld := ⟨x / 16, 0x30000 + 0x40 * (x % 16), 0, 0⟩
def R.WL_SYM_FEC_SYM (x : Nat) : Fld := ⟨x / 16, 0x30004 + 0x40 * (x % 16), 31, 0⟩

/-! Fields of Table 7.12. -/
def R.CL_EQ_EYE (x : Nat) : Fld := ⟨x / 16, 0x13000 + 0x10 * (x % 16), 31, 24⟩
def R.CL_EQ_CTLE (x : Nat) : Fld := ⟨x / 16, 0x13000 + 0x10 * (x % 16), 23, 16⟩
def R.CL_EQ_POL_RX (x : Nat) : Fld := ⟨x / 16, 0x13000 + 0x10 * (x % 16), 10, 10⟩
def R.CL_EQ_POL_TX (x : Nat) : Fld := ⟨x / 16, 0x13000 + 0x10 * (x % 16), 9, 9⟩
def R.CL_EQ_ADAPT (x : Nat) : Fld := ⟨x / 16, 0x13000 + 0x10 * (x % 16), 8, 8⟩

/-! Fields of Table 8.8. -/
def R.BOB_EXTENTS : Fld := ⟨34, 0x80000, 16, 0⟩
def R.BOB_PEAK : Fld := ⟨34, 0x80004, 16, 0⟩
def R.BOB_COUNT : Fld := ⟨34, 0x80008, 13, 0⟩
def R.BOB_ERR_GFX_LOST : Fld := ⟨34, 0x8000c, 3, 3⟩
def R.BOB_ERR_STILL_LOST : Fld := ⟨34, 0x8000c, 2, 2⟩
def R.BOB_ERR_WRITE_SKIP : Fld := ⟨34, 0x8000c, 1, 1⟩
def R.BOB_ERR_LOST_CELL : Fld := ⟨34, 0x8000c, 0, 0⟩
def R.BOB_LOST_CELLS : Fld := ⟨34, 0x80010, 31, 0⟩

/-! Fields of Table 8.9. -/
def R.BOB_DESC_VALID (i : Nat) : Fld := ⟨34, 0x88000 + 0x8 * i, 31, 31⟩
def R.BOB_DESC_KIND (i : Nat) : Fld := ⟨34, 0x88000 + 0x8 * i, 30, 28⟩
def R.BOB_DESC_STATE (i : Nat) : Fld := ⟨34, 0x88000 + 0x8 * i, 27, 26⟩
def R.BOB_DESC_EXTENTS (i : Nat) : Fld := ⟨34, 0x88000 + 0x8 * i, 16, 0⟩
def R.BOB_DESC_SLOTS (i : Nat) : Fld := ⟨34, 0x88004 + 0x8 * i, 31, 24⟩
def R.BOB_DESC_PACK (i : Nat) : Fld := ⟨34, 0x88004 + 0x8 * i, 21, 21⟩
def R.BOB_DESC_READS (i : Nat) : Fld := ⟨34, 0x88004 + 0x8 * i, 20, 16⟩
def R.BOB_DESC_OWNER (i : Nat) : Fld := ⟨34, 0x88004 + 0x8 * i, 15, 0⟩

/-! Fields of Table 8.10. -/
def R.BOB_FS_ACTIVE (i : Nat) : Fld := ⟨34, 0xa0000 + 0x10 * i, 31, 31⟩
def R.BOB_FS_READS (i : Nat) : Fld := ⟨34, 0xa0000 + 0x10 * i, 20, 16⟩
def R.BOB_FS_SLOTS (i : Nat) : Fld := ⟨34, 0xa0000 + 0x10 * i, 15, 8⟩
def R.BOB_FS_REPEATS (i : Nat) : Fld := ⟨34, 0xa0004 + 0x10 * i, 31, 0⟩
def R.BOB_FS_DROPS (i : Nat) : Fld := ⟨34, 0xa0008 + 0x10 * i, 31, 0⟩
def R.BOB_FS_WRITE_SKIP (i : Nat) : Fld := ⟨34, 0xa000c + 0x10 * i, 31, 0⟩

/-! Fields of Table 8.11. -/
def R.BOB_DLY_APPLIED (i : Nat) : Fld := ⟨34, 0xa8000 + 0x4 * i, 31, 31⟩
def R.BOB_DLY_HYST (i : Nat) : Fld := ⟨34, 0xa8000 + 0x4 * i, 30, 29⟩
def R.BOB_DLY_FRAMES (i : Nat) : Fld := ⟨34, 0xa8000 + 0x4 * i, 23, 17⟩
def R.BOB_DLY_LINES (i : Nat) : Fld := ⟨34, 0xa8000 + 0x4 * i, 10, 0⟩
def R.BOB_STILL_DEFINED (i : Nat) : Fld := ⟨34, 0xac000 + 0x4 * i, 31, 31⟩
def R.BOB_STILL_SHOWN (i : Nat) : Fld := ⟨34, 0xac000 + 0x4 * i, 30, 30⟩
def R.BOB_STILL_FLIP_PEND (i : Nat) : Fld := ⟨34, 0xac000 + 0x4 * i, 29, 29⟩
def R.BOB_STILL_SHOWN_FILL (i : Nat) : Fld := ⟨34, 0xac000 + 0x4 * i, 28, 28⟩
def R.BOB_STILL_FORMAT (i : Nat) : Fld := ⟨34, 0xac000 + 0x4 * i, 15, 0⟩

/-! Fields of Table 9.9. -/
def R.DG_STAT_PASR_MASK (n : Nat) : Fld := ⟨24 + n, 0x0, 31, 24⟩
def R.DG_STAT_HOT (n : Nat) : Fld := ⟨24 + n, 0x0, 23, 20⟩
def R.DG_STAT_TRAINED (n : Nat) : Fld := ⟨24 + n, 0x0, 19, 16⟩
def R.DG_STAT_POINT (n : Nat) : Fld := ⟨24 + n, 0x0, 9, 8⟩
def R.DG_STAT_STATE (n : Nat) : Fld := ⟨24 + n, 0x0, 2, 0⟩

/-! Fields of Table 9.10. -/
def R.DG_ERR_DEADLINE (n : Nat) : Fld := ⟨24 + n, 0x4, 6, 6⟩
def R.DG_ERR_HOT (n : Nat) : Fld := ⟨24 + n, 0x4, 5, 5⟩
def R.DG_ERR_TRAIN_FAIL (n : Nat) : Fld := ⟨24 + n, 0x4, 4, 4⟩
def R.DG_ERR_QUEUE_UNC (n : Nat) : Fld := ⟨24 + n, 0x4, 3, 3⟩
def R.DG_ERR_HS_TIMEOUT (n : Nat) : Fld := ⟨24 + n, 0x4, 2, 2⟩
def R.DG_ERR_ECC_UNC (n : Nat) : Fld := ⟨24 + n, 0x4, 1, 1⟩
def R.DG_ERR_ECC_COR (n : Nat) : Fld := ⟨24 + n, 0x4, 0, 0⟩

/-! Fields of Table 9.11. -/
def R.DG_UNC_ADDR_LO (n : Nat) : Fld := ⟨24 + n, 0x8, 31, 0⟩
def R.DG_UNC_ADDR_HI (n : Nat) : Fld := ⟨24 + n, 0xc, 7, 0⟩

/-! Fields of Table 9.12. -/
def R.LP_ECC_COR (x : Nat) : Fld := ⟨24 + x / 4, 0x100 + 0x40 * (x % 4), 31, 0⟩
def R.LP_ECC_UNC (x : Nat) : Fld := ⟨24 + x / 4, 0x104 + 0x40 * (x % 4), 31, 0⟩
def R.LP_NREF (x : Nat) : Fld := ⟨24 + x / 4, 0x108 + 0x40 * (x % 4), 31, 0⟩
def R.LP_ACT_PEAK (x : Nat) : Fld := ⟨24 + x / 4, 0x10c + 0x40 * (x % 4), 10, 0⟩
def R.LP_RAW_WAITS (x : Nat) : Fld := ⟨24 + x / 4, 0x110 + 0x40 * (x % 4), 31, 0⟩
def R.LP_DEADLINE (x : Nat) : Fld := ⟨24 + x / 4, 0x114 + 0x40 * (x % 4), 31, 0⟩
def R.LP_PRED_HIT (x : Nat) : Fld := ⟨24 + x / 4, 0x118 + 0x40 * (x % 4), 31, 0⟩
def R.LP_PRED_MISS (x : Nat) : Fld := ⟨24 + x / 4, 0x11c + 0x40 * (x % 4), 31, 0⟩
def R.LP_RD_RUNS (x : Nat) : Fld := ⟨24 + x / 4, 0x120 + 0x40 * (x % 4), 31, 0⟩
def R.LP_WR_RUNS (x : Nat) : Fld := ⟨24 + x / 4, 0x124 + 0x40 * (x % 4), 31, 0⟩
def R.LP_SCRUB_ROWS (x : Nat) : Fld := ⟨24 + x / 4, 0x128 + 0x40 * (x % 4), 31, 0⟩
def R.LP_REFRATE (x : Nat) : Fld := ⟨24 + x / 4, 0x12c + 0x40 * (x % 4), 2, 0⟩

/-! Fields of Table 9.13. -/
def R.MEM_TARGET : Fld := ⟨34, 0xb0000, 9, 8⟩
def R.MEM_CUR : Fld := ⟨34, 0xb0000, 1, 0⟩
def R.MEM_CHANGES : Fld := ⟨34, 0xb0004, 31, 0⟩
def R.MEM_LAST_NS : Fld := ⟨34, 0xb0008, 31, 0⟩
def R.MEM_PASR : Fld := ⟨34, 0xb000c, 7, 0⟩
def R.MEM_DEFERRED : Fld := ⟨34, 0xb0010, 31, 0⟩

/-! Fields of Table 10.12. -/
def R.AUD_STAT_EVAC : Fld := ⟨32, 0x0, 31, 31⟩
def R.AUD_STAT_BUSES_IDLE : Fld := ⟨32, 0x0, 26, 16⟩
def R.AUD_STAT_BUSES_DEFINED : Fld := ⟨32, 0x0, 10, 0⟩

/-! Fields of Table 10.13. -/
def R.AUD_ERR_FLIP_LATE : Fld := ⟨32, 0x4, 3, 3⟩
def R.AUD_ERR_HS_TIMEOUT : Fld := ⟨32, 0x4, 2, 2⟩
def R.AUD_ERR_ECC_UNC : Fld := ⟨32, 0x4, 1, 1⟩
def R.AUD_ERR_ECC_COR : Fld := ⟨32, 0x4, 0, 0⟩

/-! Fields of Table 10.14. -/
def R.AUD_CLIPS : Fld := ⟨32, 0x8, 31, 0⟩
def R.AUD_SLIPS : Fld := ⟨32, 0xc, 31, 0⟩
def R.AUD_GAPS : Fld := ⟨32, 0x10, 31, 0⟩
def R.AUD_LATE_SMP : Fld := ⟨32, 0x14, 31, 0⟩
def R.AUD_EARLY_SMP : Fld := ⟨32, 0x18, 31, 0⟩
def R.AUD_NONAUDIO_MIX : Fld := ⟨32, 0x1c, 31, 0⟩
def R.AUD_FLIPS : Fld := ⟨32, 0x20, 31, 0⟩
def R.AUD_SUPERSEDED : Fld := ⟨32, 0x24, 31, 0⟩
def R.AUD_OUT_CH : Fld := ⟨32, 0x28, 31, 16⟩
def R.AUD_IN_CH : Fld := ⟨32, 0x28, 15, 0⟩

/-! Fields of Table 10.15. -/
def R.TDM_SLOTS (i : Nat) : Fld := ⟨32, 0x100 + 0x20 * i, 21, 16⟩
def R.TDM_FIFO_OUT (i : Nat) : Fld := ⟨32, 0x100 + 0x20 * i, 15, 12⟩
def R.TDM_FIFO_IN (i : Nat) : Fld := ⟨32, 0x100 + 0x20 * i, 11, 8⟩
def R.TDM_STATE (i : Nat) : Fld := ⟨32, 0x100 + 0x20 * i, 2, 0⟩
def R.TDM_SLIPS (i : Nat) : Fld := ⟨32, 0x104 + 0x20 * i, 31, 0⟩
def R.TDM_FRAME_ERR (i : Nat) : Fld := ⟨32, 0x108 + 0x20 * i, 31, 0⟩
def R.TDM_FRAMES (i : Nat) : Fld := ⟨32, 0x10c + 0x20 * i, 31, 0⟩

/-! Fields of Table 10.16. -/
def R.BUS_LOW_DELAY (i : Nat) : Fld := ⟨32, 0x10000 + 0x8 * i, 31, 31⟩
def R.BUS_IDLE (i : Nat) : Fld := ⟨32, 0x10000 + 0x8 * i, 30, 30⟩
def R.BUS_MEMBERS (i : Nat) : Fld := ⟨32, 0x10000 + 0x8 * i, 22, 16⟩
def R.BUS_GAIN (i : Nat) : Fld := ⟨32, 0x10000 + 0x8 * i, 15, 0⟩
def R.BUS_WAKES (i : Nat) : Fld := ⟨32, 0x10004 + 0x8 * i, 31, 0⟩

/-! Fields of Table 10.17. -/
def R.AUD_IN_SILENT (i : Nat) : Fld := ⟨32, 0x20000 + 0x4 * i, 31, 31⟩
def R.AUD_OUT_SILENT (i : Nat) : Fld := ⟨32, 0x40000 + 0x4 * i, 31, 31⟩
def R.AUD_IN_ZERO (i : Nat) : Fld := ⟨32, 0x20000 + 0x4 * i, 30, 30⟩
def R.AUD_OUT_ZERO (i : Nat) : Fld := ⟨32, 0x40000 + 0x4 * i, 30, 30⟩
def R.AUD_IN_NONAUDIO (i : Nat) : Fld := ⟨32, 0x20000 + 0x4 * i, 29, 29⟩
def R.AUD_OUT_NONAUDIO (i : Nat) : Fld := ⟨32, 0x40000 + 0x4 * i, 29, 29⟩
def R.AUD_IN_PRESENT (i : Nat) : Fld := ⟨32, 0x20000 + 0x4 * i, 28, 28⟩
def R.AUD_OUT_OVERRIDE (i : Nat) : Fld := ⟨32, 0x40000 + 0x4 * i, 28, 28⟩
def R.AUD_IN_PEAK (i : Nat) : Fld := ⟨32, 0x20000 + 0x4 * i, 23, 0⟩
def R.AUD_OUT_PEAK (i : Nat) : Fld := ⟨32, 0x40000 + 0x4 * i, 23, 0⟩

/-! Fields of Table 10.18. -/
def R.SEL_INPUT (i : Nat) : Fld := ⟨32, 0x60000 + 0x8 * i, 31, 0⟩
def R.SEL_GAIN (i : Nat) : Fld := ⟨32, 0x60004 + 0x8 * i, 31, 16⟩
def R.SEL_PENDING (i : Nat) : Fld := ⟨32, 0x60004 + 0x8 * i, 15, 15⟩
def R.SEL_MATCHED (i : Nat) : Fld := ⟨32, 0x60004 + 0x8 * i, 14, 14⟩
def R.SEL_DELAYED (i : Nat) : Fld := ⟨32, 0x60004 + 0x8 * i, 13, 13⟩

/-! Fields of Table 11.11. -/
def R.HD_STAT_STATE (n : Nat) : Fld := ⟨n, 0x38000, 31, 30⟩
def R.HD_STAT_SAFETY_UP (n : Nat) : Fld := ⟨n, 0x38000, 29, 29⟩
def R.HD_STAT_SAFETY_READY (n : Nat) : Fld := ⟨n, 0x38000, 28, 28⟩
def R.HD_STAT_GP1_SHOWN (n : Nat) : Fld := ⟨n, 0x38000, 27, 27⟩
def R.HD_STAT_GP0_SHOWN (n : Nat) : Fld := ⟨n, 0x38000, 26, 26⟩
def R.HD_STAT_GP1_FLIP_PEND (n : Nat) : Fld := ⟨n, 0x38000, 25, 25⟩
def R.HD_STAT_GP0_FLIP_PEND (n : Nat) : Fld := ⟨n, 0x38000, 24, 24⟩
def R.HD_STAT_FIXED_ORDER (n : Nat) : Fld := ⟨n, 0x38000, 23, 23⟩
def R.HD_STAT_ORDER (n : Nat) : Fld := ⟨n, 0x38000, 22, 15⟩
def R.HD_STAT_WINDOWS (n : Nat) : Fld := ⟨n, 0x38000, 6, 0⟩

/-! Fields of Table 11.12. -/
def R.HD_HS_TIMEOUT (n : Nat) : Fld := ⟨n, 0x38004, 2, 2⟩
def R.HD_ECC_UNC (n : Nat) : Fld := ⟨n, 0x38004, 1, 1⟩
def R.HD_ECC_COR (n : Nat) : Fld := ⟨n, 0x38004, 0, 0⟩
def R.HD_FRAMES (n : Nat) : Fld := ⟨n, 0x38008, 31, 0⟩
def R.HD_UNDERFLOW_LINES (n : Nat) : Fld := ⟨n, 0x3800c, 31, 0⟩
def R.HD_FLIPS (n : Nat) : Fld := ⟨n, 0x38010, 31, 0⟩

/-! Fields of Table 11.13. -/
def R.WIN_VALID (n i : Nat) : Fld := ⟨n, 0x39000 + 0x10 * i, 31, 31⟩
def R.WIN_NO_SIGNAL (n i : Nat) : Fld := ⟨n, 0x39000 + 0x10 * i, 30, 30⟩
def R.WIN_SHOWING (n i : Nat) : Fld := ⟨n, 0x39000 + 0x10 * i, 29, 29⟩
def R.WIN_CHANGE_PEND (n i : Nat) : Fld := ⟨n, 0x39000 + 0x10 * i, 28, 28⟩
def R.WIN_ENGINE (n i : Nat) : Fld := ⟨n, 0x39000 + 0x10 * i, 27, 19⟩
def R.WIN_Z (n i : Nat) : Fld := ⟨n, 0x39000 + 0x10 * i, 18, 13⟩
def R.WIN_SRC (n i : Nat) : Fld := ⟨n, 0x39004 + 0x10 * i, 19, 0⟩
def R.WIN_REPEATS (n i : Nat) : Fld := ⟨n, 0x39008 + 0x10 * i, 31, 0⟩
def R.WIN_DROPS (n i : Nat) : Fld := ⟨n, 0x3900c + 0x10 * i, 31, 0⟩

/-! Fields of Table 11.14. -/
def R.MV_ENG_USED (n : Nat) : Fld := ⟨n, 0x3a000, 31, 0⟩
def R.MV_PIXELS_BOOKED : Fld := ⟨34, 0xb1000, 15, 0⟩
def R.MV_ENGINES_BOOKED : Fld := ⟨34, 0xb1004, 9, 0⟩

/-! Fields of Table 12.15. -/
def R.WHL_STATE_REF : Fld := ⟨33, 0x0, 27, 24⟩
def R.WHL_STATE_HELD : Fld := ⟨33, 0x0, 19, 19⟩
def R.WHL_STATE_FORCED : Fld := ⟨33, 0x0, 18, 18⟩
def R.WHL_STATE_REALIGN_PEND : Fld := ⟨33, 0x0, 17, 17⟩
def R.WHL_STATE_PREV : Fld := ⟨33, 0x0, 10, 8⟩
def R.WHL_STATE_CUR : Fld := ⟨33, 0x0, 2, 0⟩

/-! Fields of Table 12.16. -/
def R.WHL_TIME_NS : Fld := ⟨33, 0x4, 31, 0⟩
def R.WHL_NCO_W : Fld := ⟨33, 0x8, 29, 0⟩
def R.WHL_PHASE : Fld := ⟨33, 0xc, 31, 0⟩
def R.WHL_HELD_LO : Fld := ⟨33, 0x10, 31, 0⟩
def R.WHL_HELD_HI : Fld := ⟨33, 0x14, 31, 0⟩
def R.WHL_ERR_TWIN_TIME : Fld := ⟨33, 0x18, 5, 5⟩
def R.WHL_ERR_NCO_LIMIT : Fld := ⟨33, 0x18, 4, 4⟩
def R.WHL_ERR_XO : Fld := ⟨33, 0x18, 3, 3⟩
def R.WHL_ERR_HS_TIMEOUT : Fld := ⟨33, 0x18, 2, 2⟩
def R.WHL_ERR_ECC_UNC : Fld := ⟨33, 0x18, 1, 1⟩
def R.WHL_ERR_ECC_COR : Fld := ⟨33, 0x18, 0, 0⟩
def R.WHL_TWIN_VALID : Fld := ⟨33, 0x1c, 31, 31⟩
def R.WHL_TWIN_OFFSET : Fld := ⟨33, 0x1c, 30, 0⟩
def R.WHL_WIRE_LO : Fld := ⟨33, 0x20, 31, 0⟩
def R.WHL_WIRE_HI : Fld := ⟨33, 0x24, 7, 0⟩
def R.WHL_STEPS : Fld := ⟨33, 0x28, 31, 16⟩
def R.WHL_SWITCHES : Fld := ⟨33, 0x28, 15, 0⟩
def R.WHL_UTC_VALID : Fld := ⟨33, 0x2c, 31, 31⟩
def R.WHL_UTC_LEAP61 : Fld := ⟨33, 0x2c, 9, 9⟩
def R.WHL_UTC_LEAP59 : Fld := ⟨33, 0x2c, 8, 8⟩
def R.WHL_UTC_OFFSET : Fld := ⟨33, 0x2c, 7, 0⟩

/-! Fields of Table 12.17. -/
def R.REF_SELECTED (i : Nat) : Fld := ⟨33, 0x100 + 0x20 * i, 3, 3⟩
def R.REF_QUALIFIED (i : Nat) : Fld := ⟨33, 0x100 + 0x20 * i, 2, 2⟩
def R.REF_PRESENT (i : Nat) : Fld := ⟨33, 0x100 + 0x20 * i, 1, 1⟩
def R.REF_ENABLED (i : Nat) : Fld := ⟨33, 0x100 + 0x20 * i, 0, 0⟩
def R.REF_PHASE (i : Nat) : Fld := ⟨33, 0x104 + 0x20 * i, 31, 0⟩
def R.REF_FREQ (i : Nat) : Fld := ⟨33, 0x108 + 0x20 * i, 29, 0⟩
def R.REF_DISQUAL (i : Nat) : Fld := ⟨33, 0x10c + 0x20 * i, 31, 0⟩
def R.REF_SAMPLES (i : Nat) : Fld := ⟨33, 0x110 + 0x20 * i, 31, 0⟩

/-! Fields of Table 12.18. -/
def R.PTP_STEPS_REMOVED (i : Nat) : Fld := ⟨33, 0x200 + 0x40 * i, 31, 24⟩
def R.PTP_GM_CLASS (i : Nat) : Fld := ⟨33, 0x200 + 0x40 * i, 23, 16⟩
def R.PTP_SLAVE (i : Nat) : Fld := ⟨33, 0x200 + 0x40 * i, 15, 15⟩
def R.PTP_GM_SELF (i : Nat) : Fld := ⟨33, 0x200 + 0x40 * i, 14, 14⟩
def R.PTP_SLAVE_PORT (i : Nat) : Fld := ⟨33, 0x200 + 0x40 * i, 7, 0⟩
def R.PTP_GM_ID_LO (i : Nat) : Fld := ⟨33, 0x204 + 0x40 * i, 31, 0⟩
def R.PTP_GM_ID_HI (i : Nat) : Fld := ⟨33, 0x208 + 0x40 * i, 31, 0⟩
def R.PTP_OFFSET (i : Nat) : Fld := ⟨33, 0x20c + 0x40 * i, 31, 0⟩
def R.PTP_PATH_DELAY (i : Nat) : Fld := ⟨33, 0x210 + 0x40 * i, 31, 0⟩
def R.PTP_SYNC_RX (i : Nat) : Fld := ⟨33, 0x214 + 0x40 * i, 31, 0⟩
def R.PTP_SYNC_TX (i : Nat) : Fld := ⟨33, 0x218 + 0x40 * i, 31, 0⟩
def R.PTP_DELAY_REQ_RX (i : Nat) : Fld := ⟨33, 0x21c + 0x40 * i, 31, 0⟩
def R.PTP_ANN_TIMEOUT (i : Nat) : Fld := ⟨33, 0x220 + 0x40 * i, 31, 0⟩
def R.PTP_BAD_MSG (i : Nat) : Fld := ⟨33, 0x224 + 0x40 * i, 31, 0⟩

/-! Fields of Table 12.19. -/
def R.OUT_QUIET (i : Nat) : Fld := ⟨33, 0x300 + 0x10 * i, 4, 4⟩
def R.OUT_MODE (i : Nat) : Fld := ⟨33, 0x300 + 0x10 * i, 2, 0⟩
def R.OUT_PULSES (i : Nat) : Fld := ⟨33, 0x304 + 0x10 * i, 31, 0⟩

/-! Fields of Table 13.12. -/
def R.PORT_STR_PEER (p : Nat) : Fld := ⟨(portPlace p).1, (portPlace p).2 + 0x80, 25, 16⟩
def R.PORT_STR_MIRROR_UP (p : Nat) : Fld := ⟨(portPlace p).1, (portPlace p).2 + 0x80, 7, 7⟩
def R.PORT_STR_CTRL_PATH (p : Nat) : Fld := ⟨(portPlace p).1, (portPlace p).2 + 0x80, 6, 6⟩
def R.PORT_STR_STATE (p : Nat) : Fld := ⟨(portPlace p).1, (portPlace p).2 + 0x80, 2, 0⟩
def R.PORT_STR_LAMBDA (p : Nat) : Fld := ⟨(portPlace p).1, (portPlace p).2 + 0x84, 14, 0⟩
def R.PORT_STR_BOOKED_TX (p : Nat) : Fld := ⟨(portPlace p).1, (portPlace p).2 + 0x88, 19, 0⟩
def R.PORT_STR_BOOKED_RX (p : Nat) : Fld := ⟨(portPlace p).1, (portPlace p).2 + 0x8c, 19, 0⟩
def R.PORT_STR_CONNS_RX (p : Nat) : Fld := ⟨(portPlace p).1, (portPlace p).2 + 0x90, 31, 16⟩
def R.PORT_STR_CONNS_TX (p : Nat) : Fld := ⟨(portPlace p).1, (portPlace p).2 + 0x90, 15, 0⟩
def R.PORT_STR_HCRC_ERR (p : Nat) : Fld := ⟨(portPlace p).1, (portPlace p).2 + 0x94, 31, 0⟩
def R.PORT_STR_UNITS_LOST (p : Nat) : Fld := ⟨(portPlace p).1, (portPlace p).2 + 0x98, 31, 0⟩
def R.PORT_STR_MISMATCH_WHY (p : Nat) : Fld := ⟨(portPlace p).1, (portPlace p).2 + 0x9c, 5, 0⟩
def R.PORT_STR_CTRL_TX (p : Nat) : Fld := ⟨(portPlace p).1, (portPlace p).2 + 0xa0, 31, 0⟩
def R.PORT_STR_CTRL_RX (p : Nat) : Fld := ⟨(portPlace p).1, (portPlace p).2 + 0xa4, 31, 0⟩
def R.PORT_STR_ERR_CREDIT (p : Nat) : Fld := ⟨(portPlace p).1, (portPlace p).2 + 0xa8, 0, 0⟩

/-! Fields of Table 13.13. -/
def R.SKN_SKEIN_ID : Fld := ⟨34, 0xb2000, 31, 16⟩
def R.SKN_CHIP : Fld := ⟨34, 0xb2000, 9, 0⟩
def R.SKN_MAP_REACHED : Fld := ⟨34, 0xb2004, 25, 16⟩
def R.SKN_MAP_FAR : Fld := ⟨34, 0xb2004, 9, 0⟩
def R.SKN_ROUTES : Fld := ⟨34, 0xb2008, 15, 0⟩
def R.SKN_HALF : Fld := ⟨34, 0xb200c, 15, 0⟩
def R.SKN_REPATHED : Fld := ⟨34, 0xb2010, 31, 0⟩
def R.SKN_LOST : Fld := ⟨34, 0xb2014, 31, 0⟩
def R.SKN_MSG_FWD : Fld := ⟨34, 0xb2018, 31, 0⟩
def R.SKN_MSG_DUP : Fld := ⟨34, 0xb201c, 31, 0⟩

/-! Fields of Table 14.12. -/
def R.DBL_STAT_ROLE : Fld := ⟨37, 0x0, 31, 29⟩
def R.DBL_STAT_TWIN_ROLE : Fld := ⟨37, 0x0, 28, 26⟩
def R.DBL_STAT_TIE_IN : Fld := ⟨37, 0x0, 25, 24⟩
def R.DBL_STAT_TIE_OUT : Fld := ⟨37, 0x0, 23, 22⟩
def R.DBL_STAT_SIDE : Fld := ⟨37, 0x0, 21, 21⟩
def R.DBL_STAT_SETTLING : Fld := ⟨37, 0x0, 20, 20⟩
def R.DBL_STAT_SWAP_PEND : Fld := ⟨37, 0x0, 19, 19⟩
def R.DBL_STAT_YIELD_PEND : Fld := ⟨37, 0x0, 18, 18⟩
def R.DBL_STAT_LANES : Fld := ⟨37, 0x0, 17, 16⟩
def R.DBL_STAT_TWIN_READY : Fld := ⟨37, 0x0, 8, 8⟩
def R.DBL_STAT_CATCHUP : Fld := ⟨37, 0x0, 7, 0⟩

/-! Fields of Table 14.13. -/
def R.DBL_ERR_WIRING : Fld := ⟨37, 0x4, 8, 8⟩
def R.DBL_ERR_DUAL : Fld := ⟨37, 0x4, 7, 7⟩
def R.DBL_ERR_COPY_CHECK : Fld := ⟨37, 0x4, 6, 6⟩
def R.DBL_ERR_TIE_FAULT : Fld := ⟨37, 0x4, 5, 5⟩
def R.DBL_ERR_DOWN : Fld := ⟨37, 0x4, 4, 4⟩
def R.DBL_ERR_LANE : Fld := ⟨37, 0x4, 3, 3⟩
def R.DBL_ERR_HS_TIMEOUT : Fld := ⟨37, 0x4, 2, 2⟩
def R.DBL_ERR_ECC_UNC : Fld := ⟨37, 0x4, 1, 1⟩
def R.DBL_ERR_ECC_COR : Fld := ⟨37, 0x4, 0, 0⟩

/-! Fields of Table 14.14. -/
def R.DBL_COPIES : Fld := ⟨37, 0x8, 31, 0⟩
def R.DBL_COPY_RETRY : Fld := ⟨37, 0xc, 31, 0⟩
def R.DBL_COPY_PEAK : Fld := ⟨37, 0x10, 12, 0⟩
def R.DBL_COPY_TIME : Fld := ⟨37, 0x14, 10, 0⟩
def R.DBL_DEFERRED : Fld := ⟨37, 0x18, 31, 0⟩
def R.DBL_YIELDS : Fld := ⟨37, 0x1c, 31, 16⟩
def R.DBL_TAKEOVERS : Fld := ⟨37, 0x1c, 15, 0⟩
def R.DBL_SWAPS : Fld := ⟨37, 0x20, 31, 16⟩
def R.DBL_CLAIMS : Fld := ⟨37, 0x20, 15, 0⟩
def R.DBL_DUAL : Fld := ⟨37, 0x24, 31, 0⟩
def R.DBL_FRAME_ERR : Fld := ⟨37, 0x28, 31, 0⟩
def R.DBL_HANDOFFS : Fld := ⟨37, 0x2c, 31, 0⟩
def R.DBL_TWIN_FW : Fld := ⟨37, 0x30, 31, 0⟩

/-! Fields of Table 15.13. -/
def R.SCP_SESSIONS : Fld := ⟨34, 0xc0000, 28, 16⟩
def R.SCP_OWN : Fld := ⟨34, 0xc0000, 6, 0⟩
def R.SCP_ERR_HS_TIMEOUT : Fld := ⟨34, 0xc0004, 2, 2⟩
def R.SCP_ERR_ECC_UNC : Fld := ⟨34, 0xc0004, 1, 1⟩
def R.SCP_ERR_ECC_COR : Fld := ⟨34, 0xc0004, 0, 0⟩
def R.SCP_REQUESTS : Fld := ⟨34, 0xc0008, 31, 0⟩
def R.SCP_DUPLICATES : Fld := ⟨34, 0xc000c, 31, 0⟩
def R.SCP_STALE : Fld := ⟨34, 0xc0010, 31, 0⟩
def R.SCP_BAD_MESSAGE : Fld := ⟨34, 0xc0014, 31, 0⟩
def R.SCP_RIGHTS : Fld := ⟨34, 0xc0018, 31, 0⟩
def R.SCP_RATE_BUSY : Fld := ⟨34, 0xc001c, 31, 0⟩
def R.SCP_HS_DONE : Fld := ⟨34, 0xc0020, 31, 0⟩
def R.SCP_HS_FAIL : Fld := ⟨34, 0xc0024, 31, 0⟩
def R.SCP_HS_DROPPED : Fld := ⟨34, 0xc0028, 31, 0⟩
def R.SCP_RX_DISCARD : Fld := ⟨34, 0xc002c, 31, 0⟩
def R.SCP_EV_SENT : Fld := ⟨34, 0xc0030, 31, 0⟩
def R.SCP_EV_DROPPED : Fld := ⟨34, 0xc0034, 31, 0⟩

/-! Fields of Table 16.10. -/
def R.TEN_SESSIONS (i : Nat) : Fld := ⟨34, 0xc1000 + 0x10 * i, 28, 16⟩
def R.TEN_QUEUE (i : Nat) : Fld := ⟨34, 0xc1000 + 0x10 * i, 8, 0⟩
def R.TEN_SERVED (i : Nat) : Fld := ⟨34, 0xc1004 + 0x10 * i, 31, 0⟩
def R.TEN_BUSY (i : Nat) : Fld := ⟨34, 0xc1008 + 0x10 * i, 31, 0⟩
def R.TEN_RIGHTS (i : Nat) : Fld := ⟨34, 0xc100c + 0x10 * i, 31, 0⟩

/-! Fields of Table 17.12. -/
def R.KEY_STAT_LIFECYCLE : Fld := ⟨35, 0x0, 31, 29⟩
def R.KEY_STAT_LC_LEFT : Fld := ⟨35, 0x0, 28, 22⟩
def R.KEY_STAT_RB_STEPS : Fld := ⟨35, 0x0, 21, 14⟩
def R.KEY_STAT_KEK_VALID : Fld := ⟨35, 0x0, 13, 13⟩
def R.KEY_STAT_ID_VALID : Fld := ⟨35, 0x0, 12, 12⟩
def R.KEY_STAT_RNG_OK : Fld := ⟨35, 0x0, 11, 11⟩
def R.KEY_STAT_LOADED : Fld := ⟨35, 0x0, 8, 0⟩

/-! Fields of Table 17.13. -/
def R.KEY_ERR_RNG_FAIL : Fld := ⟨35, 0x4, 4, 4⟩
def R.KEY_ERR_ID_MISMATCH : Fld := ⟨35, 0x4, 3, 3⟩
def R.KEY_ERR_HS_TIMEOUT : Fld := ⟨35, 0x4, 2, 2⟩
def R.KEY_ERR_ECC_UNC : Fld := ⟨35, 0x4, 1, 1⟩
def R.KEY_ERR_ECC_COR : Fld := ⟨35, 0x4, 0, 0⟩
def R.KEY_GENERATES : Fld := ⟨35, 0x8, 31, 0⟩
def R.KEY_IMPORTS : Fld := ⟨35, 0xc, 31, 0⟩
def R.KEY_DESTROYS : Fld := ⟨35, 0x10, 31, 0⟩
def R.KEY_UNWRAP_FAIL : Fld := ⟨35, 0x14, 31, 0⟩

/-! Fields of Table 17.14. -/
def R.KEY_SLOT_STATE (i : Nat) : Fld := ⟨35, 0x10000 + 0x4 * i, 31, 30⟩
def R.KEY_SLOT_USE (i : Nat) : Fld := ⟨35, 0x10000 + 0x4 * i, 29, 28⟩
def R.KEY_SLOT_ORIGIN (i : Nat) : Fld := ⟨35, 0x10000 + 0x4 * i, 27, 27⟩
def R.KEY_SLOT_KIND (i : Nat) : Fld := ⟨35, 0x10000 + 0x4 * i, 26, 26⟩
def R.KEY_SLOT_GEN (i : Nat) : Fld := ⟨35, 0x10000 + 0x4 * i, 15, 0⟩

/-! Fields of Table 17.15. -/
def R.AON_STAT_CHECK : Fld := ⟨36, 0x0, 31, 30⟩
def R.AON_STAT_ARMED : Fld := ⟨36, 0x0, 29, 29⟩
def R.AON_STAT_ZEROED : Fld := ⟨36, 0x0, 28, 28⟩
def R.AON_STAT_LATCH : Fld := ⟨36, 0x0, 27, 26⟩
def R.AON_STAT_TAMPER_EN : Fld := ⟨36, 0x0, 25, 24⟩
def R.AON_STAT_PIN : Fld := ⟨36, 0x0, 1, 0⟩
def R.AON_TTIME_LO : Fld := ⟨36, 0x4, 31, 0⟩
def R.AON_TTIME_HI : Fld := ⟨36, 0x8, 15, 0⟩
def R.AON_RTC_LO : Fld := ⟨36, 0xc, 31, 0⟩
def R.AON_RTC_HI : Fld := ⟨36, 0x10, 31, 16⟩
def R.AON_RTC_FRAC : Fld := ⟨36, 0x10, 15, 0⟩

/-! Fields of Table 18.16. -/
def R.BOOT_STAT_STATUS : Fld := ⟨39, 0x0, 31, 28⟩
def R.BOOT_STAT_DETAIL : Fld := ⟨39, 0x0, 27, 24⟩
def R.BOOT_STAT_NOR : Fld := ⟨39, 0x0, 23, 23⟩
def R.BOOT_STAT_LAYOUT : Fld := ⟨39, 0x0, 22, 22⟩
def R.BOOT_STAT_JOURNAL : Fld := ⟨39, 0x0, 21, 21⟩
def R.BOOT_STAT_SEALED : Fld := ⟨39, 0x0, 20, 20⟩
def R.BOOT_STAT_CKPT_BUSY : Fld := ⟨39, 0x0, 19, 19⟩
def R.BOOT_STAT_COPY_PEND : Fld := ⟨39, 0x0, 18, 18⟩
def R.BOOT_STAT_JQUEUE : Fld := ⟨39, 0x0, 15, 0⟩

/-! Fields of Table 18.17. -/
def R.BOOT_ERR_JWRITE : Fld := ⟨39, 0x4, 4, 4⟩
def R.BOOT_ERR_XSPI_TIMEOUT : Fld := ⟨39, 0x4, 3, 3⟩
def R.BOOT_ERR_HS_TIMEOUT : Fld := ⟨39, 0x4, 2, 2⟩
def R.BOOT_ERR_ECC_UNC : Fld := ⟨39, 0x4, 1, 1⟩
def R.BOOT_ERR_ECC_COR : Fld := ⟨39, 0x4, 0, 0⟩
def R.BOOT_JRECORDS : Fld := ⟨39, 0x8, 31, 0⟩
def R.BOOT_JCOALESCED : Fld := ⟨39, 0xc, 31, 0⟩
def R.BOOT_CHECKPOINTS : Fld := ⟨39, 0x10, 31, 0⟩
def R.BOOT_START_COUNT : Fld := ⟨39, 0x14, 31, 0⟩
def R.BOOT_REPLAYED : Fld := ⟨39, 0x18, 31, 0⟩
def R.BOOT_NOT_RESTORED : Fld := ⟨39, 0x1c, 31, 0⟩

/-! Fields of Table 18.18. -/
def R.BOOT_XRD_ADDR : Fld := ⟨39, 0x100, 31, 0⟩
def R.BOOT_XRD_LEN : Fld := ⟨39, 0x104, 27, 0⟩
def R.BOOT_XRD_STAT_ERR : Fld := ⟨39, 0x108, 1, 1⟩
def R.BOOT_XRD_STAT_OPEN : Fld := ⟨39, 0x108, 0, 0⟩
def R.BOOT_XRD_DATA : Fld := ⟨39, 0x10c, 31, 0⟩

/-! Fields of Table 19.5. -/
def R.STAGE_STATE : Fld := ⟨39, 0x20, 31, 30⟩
def R.STAGE_LAST_DETAIL : Fld := ⟨39, 0x20, 29, 26⟩
def R.STAGE_BYTES : Fld := ⟨39, 0x20, 25, 0⟩
def R.STAGE_STAGED_FW : Fld := ⟨39, 0x24, 31, 0⟩

/-! Fields of Table 20.9. -/
def R.FLT_WORD_LO_ISL : Fld := ⟨38, 0x0, 31, 0⟩
def R.FLT_WORD_HI_AON_LOST : Fld := ⟨38, 0x4, 13, 13⟩
def R.FLT_WORD_HI_LOG_LOST : Fld := ⟨38, 0x4, 12, 12⟩
def R.FLT_WORD_HI_MULTIPLE : Fld := ⟨38, 0x4, 11, 11⟩
def R.FLT_WORD_HI_CLASS : Fld := ⟨38, 0x4, 10, 8⟩
def R.FLT_WORD_HI_ISL_HI : Fld := ⟨38, 0x4, 7, 0⟩

/-! Fields of Table 20.11. -/
def R.FLT_CUR_LO : Fld := ⟨38, 0x8, 31, 0⟩
def R.FLT_CUR_HI : Fld := ⟨38, 0xc, 7, 0⟩
def R.FLT_ICLASS0 : Fld := ⟨38, 0x10, 31, 0⟩
def R.FLT_ICLASS1 : Fld := ⟨38, 0x14, 31, 0⟩
def R.FLT_ICLASS2 : Fld := ⟨38, 0x18, 15, 0⟩
def R.FLT_CAP_VALID : Fld := ⟨38, 0x20, 31, 31⟩
def R.FLT_CAP_MULTIPLE : Fld := ⟨38, 0x20, 30, 30⟩
def R.FLT_CAP_CLASS : Fld := ⟨38, 0x20, 29, 27⟩
def R.FLT_CAP_TYPE : Fld := ⟨38, 0x20, 26, 24⟩
def R.FLT_CAP_MERGES : Fld := ⟨38, 0x20, 23, 16⟩
def R.FLT_CAP_MASTER : Fld := ⟨38, 0x20, 15, 8⟩
def R.FLT_CAP_ISLAND : Fld := ⟨38, 0x20, 5, 0⟩
def R.FLT_CAP_ADDR_LO : Fld := ⟨38, 0x24, 31, 0⟩
def R.FLT_CAP_CODE : Fld := ⟨38, 0x28, 31, 16⟩
def R.FLT_CAP_ADDR_HI : Fld := ⟨38, 0x28, 7, 0⟩
def R.FLT_CAP_STAMP : Fld := ⟨38, 0x2c, 31, 0⟩
def R.FLT_CAP_ISEQ : Fld := ⟨38, 0x30, 31, 0⟩
def R.FLT_STAT_FAULT_N : Fld := ⟨38, 0x40, 31, 31⟩
def R.FLT_STAT_COPY_OK : Fld := ⟨38, 0x40, 30, 30⟩
def R.FLT_EVQ_DROP (i : Nat) : Fld := ⟨38, 0x100 + 0x4 * i, 31, 0⟩

/-! Fields of Table 20.13. -/
def R.LOG_NEXT : Fld := ⟨34, 0xd0000, 31, 0⟩
def R.LOG_RING : Fld := ⟨34, 0xd0004, 13, 0⟩
def R.LOG_BLOCKS : Fld := ⟨34, 0xd0008, 31, 0⟩
def R.LOG_WRITE_FAIL : Fld := ⟨34, 0xd000c, 31, 0⟩
def R.LOG_DROPPED : Fld := ⟨34, 0xd0010, 31, 0⟩

/-! Fields of Table 21.8. -/
def R.GPIO_MODE (x : Nat) : Fld := ⟨0 + x / 4, 0x3b000 + 0x10 * (x % 4), 31, 30⟩
def R.GPIO_LEVEL (x : Nat) : Fld := ⟨0 + x / 4, 0x3b000 + 0x10 * (x % 4), 29, 29⟩
def R.GPIO_ACCEPTED (x : Nat) : Fld := ⟨0 + x / 4, 0x3b000 + 0x10 * (x % 4), 28, 28⟩
def R.GPIO_DRIVEN (x : Nat) : Fld := ⟨0 + x / 4, 0x3b000 + 0x10 * (x % 4), 27, 27⟩
def R.GPIO_ACTIVE (x : Nat) : Fld := ⟨0 + x / 4, 0x3b000 + 0x10 * (x % 4), 26, 26⟩
def R.GPIO_FUNC (x : Nat) : Fld := ⟨0 + x / 4, 0x3b000 + 0x10 * (x % 4), 19, 16⟩
def R.GPIO_EDGES (x : Nat) : Fld := ⟨0 + x / 4, 0x3b004 + 0x10 * (x % 4), 31, 0⟩
def R.GPIO_FIRED (x : Nat) : Fld := ⟨0 + x / 4, 0x3b008 + 0x10 * (x % 4), 31, 0⟩

/-! Fields of Table 21.9. -/
def R.VPROBE_VALID (i : Nat) : Fld := ⟨34, 0xd1000 + 0x8 * i, 31, 31⟩
def R.VPROBE_BLACK (i : Nat) : Fld := ⟨34, 0xd1000 + 0x8 * i, 30, 30⟩
def R.VPROBE_FREEZE (i : Nat) : Fld := ⟨34, 0xd1000 + 0x8 * i, 29, 29⟩
def R.VPROBE_DEST (i : Nat) : Fld := ⟨34, 0xd1000 + 0x8 * i, 28, 28⟩
def R.VPROBE_MOTION (i : Nat) : Fld := ⟨34, 0xd1000 + 0x8 * i, 15, 0⟩
def R.VPROBE_INDEX (i : Nat) : Fld := ⟨34, 0xd1004 + 0x8 * i, 9, 0⟩

/-! Fields of Table 21.10. -/
def R.EVAC_STATE : Fld := ⟨38, 0x10000, 31, 29⟩
def R.EVAC_DISC : Fld := ⟨38, 0x10000, 28, 28⟩
def R.EVAC_APPLIED : Fld := ⟨38, 0x10000, 27, 27⟩
def R.EVAC_TWIN : Fld := ⟨38, 0x10000, 26, 26⟩
def R.EVAC_A_ACT : Fld := ⟨38, 0x10000, 25, 25⟩
def R.EVAC_B_ACT : Fld := ⟨38, 0x10000, 24, 24⟩
def R.EVAC_COUNT : Fld := ⟨38, 0x10000, 19, 10⟩
def R.EVAC_TD : Fld := ⟨38, 0x10000, 9, 0⟩
def R.EVAC_ASSERTS : Fld := ⟨38, 0x10004, 31, 0⟩
def R.EVAC_DISCS : Fld := ⟨38, 0x10008, 31, 0⟩
def R.EVAC_LAST_S : Fld := ⟨38, 0x1000c, 31, 0⟩

/-! Fields of Table 22.8. -/
def R.CORE_STOPPED : Fld := ⟨34, 0x0, 7, 4⟩
def R.CORE_RUN : Fld := ⟨34, 0x0, 3, 0⟩
def R.CORE_ERR_LOCKSTEP : Fld := ⟨34, 0x4, 2, 2⟩
def R.CORE_ERR_SRAM_UNC : Fld := ⟨34, 0x4, 1, 1⟩
def R.CORE_ERR_SRAM_COR : Fld := ⟨34, 0x4, 0, 0⟩
def R.CORE_SRAM_COR : Fld := ⟨34, 0x8, 31, 0⟩
def R.CORE_LS_ADDR_LO : Fld := ⟨34, 0xc, 31, 0⟩
def R.CORE_LS_PAIR : Fld := ⟨34, 0x10, 9, 8⟩
def R.CORE_LS_ADDR_HI : Fld := ⟨34, 0x10, 7, 0⟩
def R.MX_ERR_TIMEOUT : Fld := ⟨34, 0x100, 3, 3⟩
def R.MX_ERR_DENIED : Fld := ⟨34, 0x100, 2, 2⟩
def R.MX_ERR_DECERR : Fld := ⟨34, 0x100, 1, 1⟩
def R.MX_ERR_ABORT : Fld := ⟨34, 0x100, 0, 0⟩
def R.MX_CAP_VALID : Fld := ⟨34, 0x104, 31, 31⟩
def R.MX_CAP_RESP : Fld := ⟨34, 0x104, 18, 16⟩
def R.MX_CAP_TYPE : Fld := ⟨34, 0x104, 12, 10⟩
def R.MX_CAP_MASTER : Fld := ⟨34, 0x104, 7, 0⟩
def R.MX_CAP_ADDR_LO : Fld := ⟨34, 0x108, 31, 0⟩
def R.MX_CAP_ADDR_HI : Fld := ⟨34, 0x10c, 7, 0⟩
def R.MX_ABORTS : Fld := ⟨34, 0x110, 31, 0⟩

/-! Fields of Table 22.9. -/
def R.DMA_DESC (i : Nat) : Fld := ⟨34, 0x10000 + 0x40 * i, 21, 0⟩
def R.DMA_CMD (i : Nat) : Fld := ⟨34, 0x10004 + 0x40 * i, 1, 0⟩
def R.DMA_STATE (i : Nat) : Fld := ⟨34, 0x10008 + 0x40 * i, 31, 30⟩
def R.DMA_PENDING (i : Nat) : Fld := ⟨34, 0x10008 + 0x40 * i, 29, 29⟩
def R.DMA_BARRIER (i : Nat) : Fld := ⟨34, 0x10008 + 0x40 * i, 28, 28⟩
def R.DMA_CUR (i : Nat) : Fld := ⟨34, 0x10008 + 0x40 * i, 21, 0⟩
def R.DMA_DONE (i : Nat) : Fld := ⟨34, 0x1000c + 0x40 * i, 31, 0⟩
def R.DMA_ERR_ADDR_LO (i : Nat) : Fld := ⟨34, 0x10010 + 0x40 * i, 31, 0⟩
def R.DMA_ERR_RESP (i : Nat) : Fld := ⟨34, 0x10014 + 0x40 * i, 11, 9⟩
def R.DMA_ERR_DIR (i : Nat) : Fld := ⟨34, 0x10014 + 0x40 * i, 8, 8⟩
def R.DMA_ERR_ADDR_HI (i : Nat) : Fld := ⟨34, 0x10014 + 0x40 * i, 7, 0⟩
def R.DMA_ERR_DESC (i : Nat) : Fld := ⟨34, 0x10018 + 0x40 * i, 21, 0⟩
def R.DMA_DESCS (i : Nat) : Fld := ⟨34, 0x1001c + 0x40 * i, 31, 0⟩
def R.DMA_MISSED (i : Nat) : Fld := ⟨34, 0x10020 + 0x40 * i, 31, 0⟩
def R.DMA_HALTS (i : Nat) : Fld := ⟨34, 0x10024 + 0x40 * i, 31, 0⟩

/-! Fields of Table 22.10. -/
def R.RST_NOW_LO : Fld := ⟨34, 0x20000, 31, 0⟩
def R.RST_NOW_HI : Fld := ⟨34, 0x20004, 7, 0⟩
def R.RST_RESETS (i : Nat) : Fld := ⟨34, 0x20100 + 0x4 * i, 31, 0⟩

/-! Fields of Table 23.11. -/
def R.TEMP_NOW : Fld := ⟨38, 0x20000, 7, 0⟩
def R.TEMP_PEAK : Fld := ⟨38, 0x20004, 7, 0⟩
def R.TEMP_ERR_TRIP : Fld := ⟨38, 0x20008, 2, 2⟩
def R.TEMP_ERR_HIGH : Fld := ⟨38, 0x20008, 1, 1⟩
def R.TEMP_ERR_SENSOR : Fld := ⟨38, 0x20008, 0, 0⟩
def R.TEMP_SENS_VALID (i : Nat) : Fld := ⟨38, 0x20010 + 0x4 * i, 31, 31⟩
def R.TEMP_SENS_READ (i : Nat) : Fld := ⟨38, 0x20010 + 0x4 * i, 7, 0⟩

/-- The rows of Table 3.14. -/
def rows3_14 : List RegRow := [
  ⟨16, 8, 0x4, 0x0, 1, 4, 4, .w1c, 0x0⟩,
  ⟨16, 8, 0x4, 0x0, 1, 3, 3, .w1c, 0x0⟩,
  ⟨16, 8, 0x4, 0x0, 1, 2, 2, .w1c, 0x0⟩,
  ⟨16, 8, 0x4, 0x0, 1, 1, 1, .w1c, 0x0⟩,
  ⟨16, 8, 0x4, 0x0, 1, 0, 0, .w1c, 0x0⟩]

/-- The rows of Table 3.15. -/
def rows3_15 : List RegRow := [
  ⟨16, 8, 0x8, 0x0, 1, 31, 0, .rc, 0x0⟩,
  ⟨16, 8, 0xc, 0x0, 1, 31, 0, .rc, 0x0⟩,
  ⟨16, 8, 0x10, 0x0, 1, 31, 0, .ro, 0x0⟩,
  ⟨16, 8, 0x14, 0x0, 1, 31, 0, .ro, 0x0⟩,
  ⟨16, 8, 0x18, 0x0, 1, 31, 0, .ro, 0x0⟩,
  ⟨16, 8, 0x1c, 0x0, 1, 31, 0, .ro, 0x0⟩,
  ⟨16, 8, 0x20, 0x0, 1, 31, 0, .rc, 0x0⟩,
  ⟨16, 8, 0x24, 0x0, 1, 7, 0, .rc, 0x0⟩]

/-- The rows of Table 3.16. -/
def rows3_16 : List RegRow := [
  ⟨0, 16, 0x4000, 0x0, 1, 31, 0, .rc, 0x0⟩,
  ⟨0, 16, 0x4004, 0x0, 1, 31, 0, .rc, 0x0⟩,
  ⟨0, 16, 0x4008, 0x0, 1, 31, 0, .rc, 0x0⟩,
  ⟨0, 16, 0x400c, 0x0, 1, 31, 0, .rc, 0x0⟩,
  ⟨0, 16, 0x4010, 0x0, 1, 15, 0, .rc, 0x0⟩,
  ⟨0, 16, 0x4014, 0x0, 1, 15, 0, .rc, 0x0⟩]

/-- The rows of Table 3.17. -/
def rows3_17 : List RegRow := [
  ⟨34, 1, 0x60000, 0x4, 16, 20, 0, .ro, 0x0⟩,
  ⟨34, 1, 0x60040, 0x4, 16, 20, 0, .ro, 0x0⟩]

/-- The rows of Table 3.18. -/
def rows3_18 : List RegRow := [
  ⟨34, 1, 0x60080, 0x0, 1, 21, 0, .ro, 0x0⟩,
  ⟨34, 1, 0x60084, 0x0, 1, 28, 16, .rc, 0x0⟩,
  ⟨34, 1, 0x60084, 0x0, 1, 12, 0, .ro, 0x0⟩,
  ⟨34, 1, 0x60088, 0x0, 1, 15, 0, .ro, 0x0⟩,
  ⟨34, 1, 0x60100, 0x4, 12, 31, 0, .rc, 0x0⟩,
  ⟨34, 1, 0x60140, 0x0, 1, 31, 0, .rc, 0x0⟩]

/-- The rows of Table 3.19. -/
def rows3_19 : List RegRow := [
  ⟨34, 1, 0x60180, 0x0, 1, 30, 28, .ro, 0x2⟩,
  ⟨34, 1, 0x60180, 0x0, 1, 26, 24, .ro, 0x2⟩,
  ⟨34, 1, 0x60180, 0x0, 1, 22, 20, .ro, 0x2⟩,
  ⟨34, 1, 0x60180, 0x0, 1, 18, 16, .ro, 0x2⟩,
  ⟨34, 1, 0x60180, 0x0, 1, 14, 12, .ro, 0x2⟩,
  ⟨34, 1, 0x60180, 0x0, 1, 10, 8, .ro, 0x2⟩,
  ⟨34, 1, 0x60180, 0x0, 1, 6, 4, .ro, 0x2⟩,
  ⟨34, 1, 0x60180, 0x0, 1, 2, 0, .ro, 0x2⟩]

/-- The rows of Table 4.16. -/
def rows4_16 : List RegRow := [
  ⟨0, 16, 0x8000, 0x0, 1, 27, 16, .ro, 0x0⟩,
  ⟨0, 16, 0x8000, 0x0, 1, 11, 0, .ro, 0x0⟩]

/-- The rows of Table 4.17. -/
def rows4_17 : List RegRow := [
  ⟨0, 16, 0x8004, 0x0, 1, 3, 3, .w1c, 0x0⟩,
  ⟨0, 16, 0x8004, 0x0, 1, 2, 2, .w1c, 0x0⟩,
  ⟨0, 16, 0x8004, 0x0, 1, 1, 1, .w1c, 0x0⟩,
  ⟨0, 16, 0x8004, 0x0, 1, 0, 0, .w1c, 0x0⟩]

/-- The rows of Table 4.18. -/
def rows4_18 : List RegRow := [
  ⟨0, 16, 0x8008, 0x0, 1, 31, 0, .rc, 0x0⟩,
  ⟨0, 16, 0x800c, 0x0, 1, 31, 0, .rc, 0x0⟩,
  ⟨0, 16, 0x8010, 0x0, 1, 31, 0, .rc, 0x0⟩,
  ⟨0, 16, 0x8014, 0x0, 1, 31, 0, .rc, 0x0⟩,
  ⟨0, 16, 0x8018, 0x0, 1, 31, 0, .rc, 0x0⟩]

/-- The rows of Table 4.19. -/
def rows4_19 : List RegRow := [
  ⟨0, 16, 0x9000, 0x4, 1024, 31, 31, .ro, 0x0⟩,
  ⟨0, 16, 0x9000, 0x4, 1024, 30, 29, .ro, 0x0⟩,
  ⟨0, 16, 0x9000, 0x4, 1024, 28, 28, .ro, 0x0⟩,
  ⟨0, 16, 0x9000, 0x4, 1024, 27, 27, .ro, 0x0⟩,
  ⟨0, 16, 0x9000, 0x4, 1024, 26, 26, .ro, 0x0⟩,
  ⟨0, 16, 0x9000, 0x4, 1024, 25, 25, .ro, 0x0⟩,
  ⟨0, 16, 0x9000, 0x4, 1024, 24, 24, .ro, 0x0⟩,
  ⟨0, 16, 0x9000, 0x4, 1024, 23, 23, .ro, 0x0⟩,
  ⟨0, 16, 0x9000, 0x4, 1024, 22, 22, .ro, 0x0⟩,
  ⟨0, 16, 0x9000, 0x4, 1024, 21, 21, .ro, 0x0⟩,
  ⟨0, 16, 0x9000, 0x4, 1024, 19, 0, .ro, 0x0⟩]

/-- The rows of Table 4.20. -/
def rows4_20 : List RegRow := [
  ⟨34, 1, 0x60200, 0x0, 1, 25, 8, .ro, 0x0⟩,
  ⟨34, 1, 0x60200, 0x0, 1, 7, 0, .ro, 0x0⟩,
  ⟨34, 1, 0x60204, 0x0, 1, 31, 0, .rc, 0x0⟩,
  ⟨34, 1, 0x60208, 0x0, 1, 31, 0, .rc, 0x0⟩,
  ⟨34, 1, 0x6020c, 0x0, 1, 31, 0, .rc, 0x0⟩,
  ⟨34, 1, 0x60210, 0x0, 1, 31, 0, .rc, 0x0⟩]

/-- The rows of Table 5.13. -/
def rows5_13 : List RegRow := [
  ⟨0, 16, 0x10000, 0x80, 16, 31, 16, .ro, 0x0⟩,
  ⟨0, 16, 0x10000, 0x80, 16, 15, 14, .ro, 0x0⟩,
  ⟨0, 16, 0x10000, 0x80, 16, 13, 11, .ro, 0x0⟩,
  ⟨0, 16, 0x10000, 0x80, 16, 10, 10, .ro, 0x0⟩,
  ⟨0, 16, 0x10000, 0x80, 16, 9, 9, .ro, 0x0⟩,
  ⟨0, 16, 0x10000, 0x80, 16, 7, 4, .ro, 0x0⟩,
  ⟨0, 16, 0x10000, 0x80, 16, 2, 0, .ro, 0x0⟩]

/-- The rows of Table 5.14. -/
def rows5_14 : List RegRow := [
  ⟨0, 16, 0x10004, 0x80, 16, 15, 8, .w1c, 0x0⟩,
  ⟨0, 16, 0x10004, 0x80, 16, 7, 0, .ro, 0x0⟩]

/-- The rows of Table 5.15. -/
def rows5_15 : List RegRow := [
  ⟨0, 16, 0x10008, 0x80, 16, 31, 0, .rc, 0x0⟩,
  ⟨0, 16, 0x1000c, 0x80, 16, 31, 0, .rc, 0x0⟩,
  ⟨0, 16, 0x10010, 0x80, 16, 31, 0, .rc, 0x0⟩,
  ⟨0, 16, 0x10014, 0x80, 16, 31, 0, .rc, 0x0⟩,
  ⟨0, 16, 0x10018, 0x80, 16, 31, 0, .rc, 0x0⟩,
  ⟨0, 16, 0x1001c, 0x80, 16, 31, 0, .rc, 0x0⟩,
  ⟨0, 16, 0x10020, 0x80, 16, 31, 0, .rc, 0x0⟩,
  ⟨0, 16, 0x10024, 0x80, 16, 31, 0, .rc, 0x0⟩,
  ⟨0, 16, 0x10028, 0x80, 16, 31, 0, .rc, 0x0⟩,
  ⟨0, 16, 0x1002c, 0x80, 16, 31, 0, .rc, 0x0⟩,
  ⟨0, 16, 0x10030, 0x80, 16, 31, 0, .rc, 0x0⟩,
  ⟨0, 16, 0x10034, 0x80, 16, 31, 0, .rc, 0x0⟩,
  ⟨0, 16, 0x10038, 0x80, 16, 31, 0, .rc, 0x0⟩,
  ⟨0, 16, 0x1003c, 0x80, 16, 31, 0, .rc, 0x0⟩]

/-- The rows of Table 5.16. -/
def rows5_16 : List RegRow := [
  ⟨0, 16, 0x11000, 0x40, 16, 31, 16, .ro, 0x0⟩,
  ⟨0, 16, 0x11000, 0x40, 16, 15, 14, .ro, 0x0⟩,
  ⟨0, 16, 0x11000, 0x40, 16, 13, 11, .ro, 0x0⟩,
  ⟨0, 16, 0x11000, 0x40, 16, 10, 10, .ro, 0x0⟩,
  ⟨0, 16, 0x11000, 0x40, 16, 9, 9, .ro, 0x0⟩,
  ⟨0, 16, 0x11000, 0x40, 16, 8, 8, .ro, 0x1⟩,
  ⟨0, 16, 0x11000, 0x40, 16, 7, 4, .ro, 0x0⟩]

/-- The rows of Table 5.17. -/
def rows5_17 : List RegRow := [
  ⟨0, 16, 0x11004, 0x40, 16, 31, 0, .rc, 0x0⟩,
  ⟨0, 16, 0x11008, 0x40, 16, 31, 0, .rc, 0x0⟩,
  ⟨0, 16, 0x1100c, 0x40, 16, 31, 0, .ro, 0x0⟩,
  ⟨0, 16, 0x11010, 0x40, 16, 15, 0, .ro, 0x0⟩]

/-- The rows of Table 5.18. -/
def rows5_18 : List RegRow := [
  ⟨0, 16, 0x12000, 0x0, 1, 2, 2, .w1c, 0x0⟩,
  ⟨0, 16, 0x12000, 0x0, 1, 1, 1, .w1c, 0x0⟩,
  ⟨0, 16, 0x12000, 0x0, 1, 0, 0, .w1c, 0x0⟩]

/-- The rows of Table 6.13. -/
def rows6_13 : List RegRow := [
  ⟨0, 16, 0x20000, 0x0, 1, 21, 16, .ro, 0x0⟩,
  ⟨0, 16, 0x20000, 0x0, 1, 13, 0, .ro, 0x0⟩]

/-- The rows of Table 6.14. -/
def rows6_14 : List RegRow := [
  ⟨0, 16, 0x20004, 0x0, 1, 31, 0, .rc, 0x0⟩,
  ⟨0, 16, 0x20008, 0x0, 1, 31, 0, .rc, 0x0⟩,
  ⟨0, 16, 0x2000c, 0x0, 1, 31, 0, .rc, 0x0⟩,
  ⟨0, 16, 0x20010, 0x0, 1, 31, 0, .rc, 0x0⟩,
  ⟨0, 16, 0x20014, 0x0, 1, 2, 2, .w1c, 0x0⟩,
  ⟨0, 16, 0x20014, 0x0, 1, 1, 1, .w1c, 0x0⟩,
  ⟨0, 16, 0x20014, 0x0, 1, 0, 0, .w1c, 0x0⟩]

/-- The rows of Table 6.15. -/
def rows6_15 : List RegRow := [
  ⟨0, 16, 0x40000, 0x40, 8192, 31, 31, .ro, 0x0⟩,
  ⟨0, 16, 0x40000, 0x40, 8192, 30, 30, .ro, 0x0⟩,
  ⟨0, 16, 0x40000, 0x40, 8192, 29, 29, .ro, 0x0⟩,
  ⟨0, 16, 0x40000, 0x40, 8192, 28, 27, .ro, 0x3⟩,
  ⟨0, 16, 0x40000, 0x40, 8192, 26, 26, .ro, 0x0⟩,
  ⟨0, 16, 0x40000, 0x40, 8192, 25, 25, .ro, 0x0⟩,
  ⟨0, 16, 0x40000, 0x40, 8192, 15, 0, .ro, 0x0⟩]

/-- The rows of Table 6.16. -/
def rows6_16 : List RegRow := [
  ⟨0, 16, 0x40004, 0x40, 8192, 15, 8, .w1c, 0x0⟩,
  ⟨0, 16, 0x40004, 0x40, 8192, 7, 7, .ro, 0x0⟩,
  ⟨0, 16, 0x40004, 0x40, 8192, 6, 6, .ro, 0x0⟩,
  ⟨0, 16, 0x40004, 0x40, 8192, 5, 5, .ro, 0x0⟩,
  ⟨0, 16, 0x40004, 0x40, 8192, 4, 4, .ro, 0x0⟩,
  ⟨0, 16, 0x40004, 0x40, 8192, 3, 3, .ro, 0x0⟩,
  ⟨0, 16, 0x40004, 0x40, 8192, 2, 2, .ro, 0x0⟩,
  ⟨0, 16, 0x40004, 0x40, 8192, 1, 1, .ro, 0x0⟩,
  ⟨0, 16, 0x40004, 0x40, 8192, 0, 0, .ro, 0x0⟩]

/-- The rows of Table 6.17. -/
def rows6_17 : List RegRow := [
  ⟨0, 16, 0x40008, 0x40, 8192, 31, 0, .rc, 0x0⟩,
  ⟨0, 16, 0x4000c, 0x40, 8192, 31, 0, .rc, 0x0⟩,
  ⟨0, 16, 0x40010, 0x40, 8192, 31, 0, .rc, 0x0⟩,
  ⟨0, 16, 0x40014, 0x40, 8192, 31, 0, .rc, 0x0⟩,
  ⟨0, 16, 0x40018, 0x40, 8192, 31, 16, .rc, 0x0⟩,
  ⟨0, 16, 0x40018, 0x40, 8192, 15, 0, .rc, 0x0⟩,
  ⟨0, 16, 0x4001c, 0x40, 8192, 31, 16, .rc, 0x0⟩,
  ⟨0, 16, 0x4001c, 0x40, 8192, 15, 0, .rc, 0x0⟩,
  ⟨0, 16, 0x40020, 0x40, 8192, 31, 0, .rc, 0x0⟩,
  ⟨0, 16, 0x40024, 0x40, 8192, 31, 0, .rc, 0x0⟩,
  ⟨0, 16, 0x40028, 0x40, 8192, 31, 16, .rc, 0x0⟩,
  ⟨0, 16, 0x40028, 0x40, 8192, 15, 0, .rc, 0x0⟩,
  ⟨0, 16, 0x4002c, 0x40, 8192, 31, 0, .rc, 0x80000000⟩,
  ⟨0, 16, 0x40030, 0x40, 8192, 31, 0, .rc, 0x7fffffff⟩,
  ⟨0, 16, 0x40034, 0x40, 8192, 31, 0, .ro, 0x0⟩,
  ⟨0, 16, 0x40038, 0x40, 8192, 31, 0, .ro, 0x0⟩,
  ⟨0, 16, 0x4003c, 0x40, 8192, 31, 0, .ro, 0x0⟩]

/-- The rows of Table 6.18. -/
def rows6_18 : List RegRow := [
  ⟨0, 16, 0xc0000, 0x20, 8192, 31, 31, .ro, 0x1⟩,
  ⟨0, 16, 0xc0000, 0x20, 8192, 30, 30, .ro, 0x0⟩,
  ⟨0, 16, 0xc0000, 0x20, 8192, 29, 29, .ro, 0x0⟩,
  ⟨0, 16, 0xc0000, 0x20, 8192, 28, 27, .ro, 0x3⟩,
  ⟨0, 16, 0xc0000, 0x20, 8192, 15, 0, .ro, 0x0⟩,
  ⟨0, 16, 0xc0004, 0x20, 8192, 31, 0, .rc, 0x0⟩,
  ⟨0, 16, 0xc0008, 0x20, 8192, 31, 0, .rc, 0x0⟩,
  ⟨0, 16, 0xc000c, 0x20, 8192, 31, 0, .rc, 0x0⟩,
  ⟨0, 16, 0xc0010, 0x20, 8192, 31, 0, .ro, 0x0⟩]

/-- The rows of Table 7.10. -/
def rows7_10 : List RegRow := [
  ⟨0, 16, 0x31000, 0x100, 16, 31, 30, .ro, 0x0⟩,
  ⟨34, 1, 0x70000, 0x100, 2, 31, 30, .ro, 0x0⟩,
  ⟨0, 16, 0x31000, 0x100, 16, 29, 28, .ro, 0x0⟩,
  ⟨34, 1, 0x70000, 0x100, 2, 29, 28, .ro, 0x0⟩,
  ⟨0, 16, 0x31000, 0x100, 16, 27, 27, .ro, 0x0⟩,
  ⟨34, 1, 0x70000, 0x100, 2, 27, 27, .ro, 0x0⟩,
  ⟨0, 16, 0x31000, 0x100, 16, 26, 26, .ro, 0x0⟩,
  ⟨34, 1, 0x70000, 0x100, 2, 26, 26, .ro, 0x0⟩,
  ⟨0, 16, 0x31000, 0x100, 16, 25, 25, .ro, 0x0⟩,
  ⟨34, 1, 0x70000, 0x100, 2, 25, 25, .ro, 0x0⟩,
  ⟨0, 16, 0x31000, 0x100, 16, 15, 8, .ro, 0x0⟩,
  ⟨34, 1, 0x70000, 0x100, 2, 15, 8, .ro, 0x0⟩,
  ⟨0, 16, 0x31000, 0x100, 16, 7, 0, .ro, 0x0⟩,
  ⟨34, 1, 0x70000, 0x100, 2, 7, 0, .ro, 0x0⟩,
  ⟨0, 16, 0x31004, 0x100, 16, 15, 0, .w1c, 0x0⟩,
  ⟨34, 1, 0x70004, 0x100, 2, 15, 0, .w1c, 0x0⟩,
  ⟨0, 16, 0x31008, 0x100, 16, 3, 3, .w1c, 0x0⟩,
  ⟨34, 1, 0x70008, 0x100, 2, 3, 3, .w1c, 0x0⟩,
  ⟨0, 16, 0x31008, 0x100, 16, 2, 2, .w1c, 0x0⟩,
  ⟨34, 1, 0x70008, 0x100, 2, 2, 2, .w1c, 0x0⟩,
  ⟨0, 16, 0x31008, 0x100, 16, 1, 1, .w1c, 0x0⟩,
  ⟨34, 1, 0x70008, 0x100, 2, 1, 1, .w1c, 0x0⟩,
  ⟨0, 16, 0x31008, 0x100, 16, 0, 0, .w1c, 0x0⟩,
  ⟨34, 1, 0x70008, 0x100, 2, 0, 0, .w1c, 0x0⟩,
  ⟨0, 16, 0x31010, 0x100, 16, 31, 0, .ro, 0x0⟩,
  ⟨34, 1, 0x70010, 0x100, 2, 31, 0, .ro, 0x0⟩,
  ⟨0, 16, 0x31014, 0x100, 16, 31, 0, .ro, 0x0⟩,
  ⟨34, 1, 0x70014, 0x100, 2, 31, 0, .ro, 0x0⟩,
  ⟨0, 16, 0x31018, 0x100, 16, 31, 0, .ro, 0x0⟩,
  ⟨34, 1, 0x70018, 0x100, 2, 31, 0, .ro, 0x0⟩,
  ⟨0, 16, 0x3101c, 0x100, 16, 31, 0, .ro, 0x0⟩,
  ⟨34, 1, 0x7001c, 0x100, 2, 31, 0, .ro, 0x0⟩,
  ⟨0, 16, 0x31020, 0x100, 16, 31, 0, .rc, 0x0⟩,
  ⟨34, 1, 0x70020, 0x100, 2, 31, 0, .rc, 0x0⟩,
  ⟨0, 16, 0x31024, 0x100, 16, 31, 0, .rc, 0x0⟩,
  ⟨34, 1, 0x70024, 0x100, 2, 31, 0, .rc, 0x0⟩,
  ⟨0, 16, 0x31028, 0x100, 16, 31, 0, .rc, 0x0⟩,
  ⟨34, 1, 0x70028, 0x100, 2, 31, 0, .rc, 0x0⟩,
  ⟨0, 16, 0x3102c, 0x100, 16, 31, 0, .rc, 0x0⟩,
  ⟨34, 1, 0x7002c, 0x100, 2, 31, 0, .rc, 0x0⟩,
  ⟨0, 16, 0x31030, 0x100, 16, 31, 0, .rc, 0x0⟩,
  ⟨34, 1, 0x70030, 0x100, 2, 31, 0, .rc, 0x0⟩,
  ⟨0, 16, 0x31034, 0x100, 16, 31, 0, .rc, 0x0⟩,
  ⟨34, 1, 0x70034, 0x100, 2, 31, 0, .rc, 0x0⟩,
  ⟨0, 16, 0x31038, 0x100, 16, 31, 0, .rc, 0x0⟩,
  ⟨34, 1, 0x70038, 0x100, 2, 31, 0, .rc, 0x0⟩,
  ⟨0, 16, 0x3103c, 0x100, 16, 31, 0, .rc, 0x0⟩,
  ⟨34, 1, 0x7003c, 0x100, 2, 31, 0, .rc, 0x0⟩,
  ⟨0, 16, 0x31040, 0x100, 16, 31, 0, .rc, 0x0⟩,
  ⟨34, 1, 0x70040, 0x100, 2, 31, 0, .rc, 0x0⟩,
  ⟨0, 16, 0x31044, 0x100, 16, 31, 0, .rc, 0x0⟩,
  ⟨34, 1, 0x70044, 0x100, 2, 31, 0, .rc, 0x0⟩,
  ⟨0, 16, 0x31048, 0x100, 16, 31, 0, .rc, 0x0⟩,
  ⟨34, 1, 0x70048, 0x100, 2, 31, 0, .rc, 0x0⟩,
  ⟨0, 16, 0x3104c, 0x100, 16, 31, 0, .rc, 0x0⟩,
  ⟨34, 1, 0x7004c, 0x100, 2, 31, 0, .rc, 0x0⟩,
  ⟨0, 16, 0x31050, 0x100, 16, 31, 0, .rc, 0x0⟩,
  ⟨34, 1, 0x70050, 0x100, 2, 31, 0, .rc, 0x0⟩,
  ⟨0, 16, 0x31054, 0x100, 16, 31, 0, .rc, 0x0⟩,
  ⟨34, 1, 0x70054, 0x100, 2, 31, 0, .rc, 0x0⟩,
  ⟨0, 16, 0x31058, 0x100, 16, 31, 0, .rc, 0x0⟩,
  ⟨34, 1, 0x70058, 0x100, 2, 31, 0, .rc, 0x0⟩,
  ⟨0, 16, 0x3105c, 0x100, 16, 31, 0, .rc, 0x0⟩,
  ⟨34, 1, 0x7005c, 0x100, 2, 31, 0, .rc, 0x0⟩,
  ⟨0, 16, 0x31060, 0x100, 16, 31, 0, .rc, 0x0⟩,
  ⟨34, 1, 0x70060, 0x100, 2, 31, 0, .rc, 0x0⟩]

/-- The rows of Table 7.11. -/
def rows7_11 : List RegRow := [
  ⟨0, 16, 0x30000, 0x40, 16, 31, 24, .ro, 0x0⟩,
  ⟨0, 16, 0x30000, 0x40, 16, 23, 16, .ro, 0x0⟩,
  ⟨0, 16, 0x30000, 0x40, 16, 7, 5, .ro, 0x0⟩,
  ⟨0, 16, 0x30000, 0x40, 16, 4, 4, .ro, 0x0⟩,
  ⟨0, 16, 0x30000, 0x40, 16, 3, 3, .ro, 0x0⟩,
  ⟨0, 16, 0x30000, 0x40, 16, 2, 2, .ro, 0x0⟩,
  ⟨0, 16, 0x30000, 0x40, 16, 1, 1, .ro, 0x0⟩,
  ⟨0, 16, 0x30000, 0x40, 16, 0, 0, .ro, 0x0⟩,
  ⟨0, 16, 0x30004, 0x40, 16, 31, 0, .rc, 0x0⟩]

/-- The rows of Table 7.12. -/
def rows7_12 : List RegRow := [
  ⟨0, 16, 0x13000, 0x10, 16, 31, 24, .ro, 0x0⟩,
  ⟨0, 16, 0x13000, 0x10, 16, 23, 16, .ro, 0x0⟩,
  ⟨0, 16, 0x13000, 0x10, 16, 10, 10, .ro, 0x0⟩,
  ⟨0, 16, 0x13000, 0x10, 16, 9, 9, .ro, 0x0⟩,
  ⟨0, 16, 0x13000, 0x10, 16, 8, 8, .ro, 0x0⟩]

/-- The rows of Table 8.8. -/
def rows8_8 : List RegRow := [
  ⟨34, 1, 0x80000, 0x0, 1, 16, 0, .ro, 0x0⟩,
  ⟨34, 1, 0x80004, 0x0, 1, 16, 0, .rc, 0x0⟩,
  ⟨34, 1, 0x80008, 0x0, 1, 13, 0, .ro, 0x0⟩,
  ⟨34, 1, 0x8000c, 0x0, 1, 3, 3, .w1c, 0x0⟩,
  ⟨34, 1, 0x8000c, 0x0, 1, 2, 2, .w1c, 0x0⟩,
  ⟨34, 1, 0x8000c, 0x0, 1, 1, 1, .w1c, 0x0⟩,
  ⟨34, 1, 0x8000c, 0x0, 1, 0, 0, .w1c, 0x0⟩,
  ⟨34, 1, 0x80010, 0x0, 1, 31, 0, .rc, 0x0⟩]

/-- The rows of Table 8.9. -/
def rows8_9 : List RegRow := [
  ⟨34, 1, 0x88000, 0x8, 8192, 31, 31, .ro, 0x0⟩,
  ⟨34, 1, 0x88000, 0x8, 8192, 30, 28, .ro, 0x0⟩,
  ⟨34, 1, 0x88000, 0x8, 8192, 27, 26, .ro, 0x0⟩,
  ⟨34, 1, 0x88000, 0x8, 8192, 16, 0, .ro, 0x0⟩,
  ⟨34, 1, 0x88004, 0x8, 8192, 31, 24, .ro, 0x0⟩,
  ⟨34, 1, 0x88004, 0x8, 8192, 21, 21, .ro, 0x0⟩,
  ⟨34, 1, 0x88004, 0x8, 8192, 20, 16, .ro, 0x0⟩,
  ⟨34, 1, 0x88004, 0x8, 8192, 15, 0, .ro, 0x0⟩]

/-- The rows of Table 8.10. -/
def rows8_10 : List RegRow := [
  ⟨34, 1, 0xa0000, 0x10, 1024, 31, 31, .ro, 0x0⟩,
  ⟨34, 1, 0xa0000, 0x10, 1024, 20, 16, .ro, 0x0⟩,
  ⟨34, 1, 0xa0000, 0x10, 1024, 15, 8, .ro, 0x0⟩,
  ⟨34, 1, 0xa0004, 0x10, 1024, 31, 0, .rc, 0x0⟩,
  ⟨34, 1, 0xa0008, 0x10, 1024, 31, 0, .rc, 0x0⟩,
  ⟨34, 1, 0xa000c, 0x10, 1024, 31, 0, .rc, 0x0⟩]

/-- The rows of Table 8.11. -/
def rows8_11 : List RegRow := [
  ⟨34, 1, 0xa8000, 0x4, 1024, 31, 31, .ro, 0x0⟩,
  ⟨34, 1, 0xa8000, 0x4, 1024, 30, 29, .ro, 0x0⟩,
  ⟨34, 1, 0xa8000, 0x4, 1024, 23, 17, .ro, 0x0⟩,
  ⟨34, 1, 0xa8000, 0x4, 1024, 10, 0, .ro, 0x0⟩,
  ⟨34, 1, 0xac000, 0x4, 256, 31, 31, .ro, 0x0⟩,
  ⟨34, 1, 0xac000, 0x4, 256, 30, 30, .ro, 0x0⟩,
  ⟨34, 1, 0xac000, 0x4, 256, 29, 29, .ro, 0x0⟩,
  ⟨34, 1, 0xac000, 0x4, 256, 28, 28, .ro, 0x0⟩,
  ⟨34, 1, 0xac000, 0x4, 256, 15, 0, .ro, 0x0⟩]

/-- The rows of Table 9.9. -/
def rows9_9 : List RegRow := [
  ⟨24, 8, 0x0, 0x0, 1, 31, 24, .ro, 0x0⟩,
  ⟨24, 8, 0x0, 0x0, 1, 23, 20, .ro, 0x0⟩,
  ⟨24, 8, 0x0, 0x0, 1, 19, 16, .ro, 0x0⟩,
  ⟨24, 8, 0x0, 0x0, 1, 9, 8, .ro, 0x0⟩,
  ⟨24, 8, 0x0, 0x0, 1, 2, 0, .ro, 0x0⟩]

/-- The rows of Table 9.10. -/
def rows9_10 : List RegRow := [
  ⟨24, 8, 0x4, 0x0, 1, 6, 6, .w1c, 0x0⟩,
  ⟨24, 8, 0x4, 0x0, 1, 5, 5, .w1c, 0x0⟩,
  ⟨24, 8, 0x4, 0x0, 1, 4, 4, .w1c, 0x0⟩,
  ⟨24, 8, 0x4, 0x0, 1, 3, 3, .w1c, 0x0⟩,
  ⟨24, 8, 0x4, 0x0, 1, 2, 2, .w1c, 0x0⟩,
  ⟨24, 8, 0x4, 0x0, 1, 1, 1, .w1c, 0x0⟩,
  ⟨24, 8, 0x4, 0x0, 1, 0, 0, .w1c, 0x0⟩]

/-- The rows of Table 9.11. -/
def rows9_11 : List RegRow := [
  ⟨24, 8, 0x8, 0x0, 1, 31, 0, .ro, 0x0⟩,
  ⟨24, 8, 0xc, 0x0, 1, 7, 0, .ro, 0x0⟩]

/-- The rows of Table 9.12. -/
def rows9_12 : List RegRow := [
  ⟨24, 8, 0x100, 0x40, 4, 31, 0, .rc, 0x0⟩,
  ⟨24, 8, 0x104, 0x40, 4, 31, 0, .rc, 0x0⟩,
  ⟨24, 8, 0x108, 0x40, 4, 31, 0, .rc, 0x0⟩,
  ⟨24, 8, 0x10c, 0x40, 4, 10, 0, .rc, 0x0⟩,
  ⟨24, 8, 0x110, 0x40, 4, 31, 0, .rc, 0x0⟩,
  ⟨24, 8, 0x114, 0x40, 4, 31, 0, .rc, 0x0⟩,
  ⟨24, 8, 0x118, 0x40, 4, 31, 0, .rc, 0x0⟩,
  ⟨24, 8, 0x11c, 0x40, 4, 31, 0, .rc, 0x0⟩,
  ⟨24, 8, 0x120, 0x40, 4, 31, 0, .rc, 0x0⟩,
  ⟨24, 8, 0x124, 0x40, 4, 31, 0, .rc, 0x0⟩,
  ⟨24, 8, 0x128, 0x40, 4, 31, 0, .rc, 0x0⟩,
  ⟨24, 8, 0x12c, 0x40, 4, 2, 0, .ro, 0x0⟩]

/-- The rows of Table 9.13. -/
def rows9_13 : List RegRow := [
  ⟨34, 1, 0xb0000, 0x0, 1, 9, 8, .ro, 0x0⟩,
  ⟨34, 1, 0xb0000, 0x0, 1, 1, 0, .ro, 0x0⟩,
  ⟨34, 1, 0xb0004, 0x0, 1, 31, 0, .rc, 0x0⟩,
  ⟨34, 1, 0xb0008, 0x0, 1, 31, 0, .ro, 0x0⟩,
  ⟨34, 1, 0xb000c, 0x0, 1, 7, 0, .ro, 0x0⟩,
  ⟨34, 1, 0xb0010, 0x0, 1, 31, 0, .rc, 0x0⟩]

/-- The rows of Table 10.12. -/
def rows10_12 : List RegRow := [
  ⟨32, 1, 0x0, 0x0, 1, 31, 31, .ro, 0x0⟩,
  ⟨32, 1, 0x0, 0x0, 1, 26, 16, .ro, 0x0⟩,
  ⟨32, 1, 0x0, 0x0, 1, 10, 0, .ro, 0x0⟩]

/-- The rows of Table 10.13. -/
def rows10_13 : List RegRow := [
  ⟨32, 1, 0x4, 0x0, 1, 3, 3, .w1c, 0x0⟩,
  ⟨32, 1, 0x4, 0x0, 1, 2, 2, .w1c, 0x0⟩,
  ⟨32, 1, 0x4, 0x0, 1, 1, 1, .w1c, 0x0⟩,
  ⟨32, 1, 0x4, 0x0, 1, 0, 0, .w1c, 0x0⟩]

/-- The rows of Table 10.14. -/
def rows10_14 : List RegRow := [
  ⟨32, 1, 0x8, 0x0, 1, 31, 0, .rc, 0x0⟩,
  ⟨32, 1, 0xc, 0x0, 1, 31, 0, .rc, 0x0⟩,
  ⟨32, 1, 0x10, 0x0, 1, 31, 0, .rc, 0x0⟩,
  ⟨32, 1, 0x14, 0x0, 1, 31, 0, .rc, 0x0⟩,
  ⟨32, 1, 0x18, 0x0, 1, 31, 0, .rc, 0x0⟩,
  ⟨32, 1, 0x1c, 0x0, 1, 31, 0, .rc, 0x0⟩,
  ⟨32, 1, 0x20, 0x0, 1, 31, 0, .rc, 0x0⟩,
  ⟨32, 1, 0x24, 0x0, 1, 31, 0, .rc, 0x0⟩,
  ⟨32, 1, 0x28, 0x0, 1, 31, 16, .ro, 0x0⟩,
  ⟨32, 1, 0x28, 0x0, 1, 15, 0, .ro, 0x0⟩]

/-- The rows of Table 10.15. -/
def rows10_15 : List RegRow := [
  ⟨32, 1, 0x100, 0x20, 8, 21, 16, .ro, 0x0⟩,
  ⟨32, 1, 0x100, 0x20, 8, 15, 12, .ro, 0x0⟩,
  ⟨32, 1, 0x100, 0x20, 8, 11, 8, .ro, 0x0⟩,
  ⟨32, 1, 0x100, 0x20, 8, 2, 0, .ro, 0x0⟩,
  ⟨32, 1, 0x104, 0x20, 8, 31, 0, .rc, 0x0⟩,
  ⟨32, 1, 0x108, 0x20, 8, 31, 0, .rc, 0x0⟩,
  ⟨32, 1, 0x10c, 0x20, 8, 31, 0, .rc, 0x0⟩]

/-- The rows of Table 10.16. -/
def rows10_16 : List RegRow := [
  ⟨32, 1, 0x10000, 0x8, 1024, 31, 31, .ro, 0x0⟩,
  ⟨32, 1, 0x10000, 0x8, 1024, 30, 30, .ro, 0x0⟩,
  ⟨32, 1, 0x10000, 0x8, 1024, 22, 16, .ro, 0x0⟩,
  ⟨32, 1, 0x10000, 0x8, 1024, 15, 0, .ro, 0x0⟩,
  ⟨32, 1, 0x10004, 0x8, 1024, 31, 0, .rc, 0x0⟩]

/-- The rows of Table 10.17. -/
def rows10_17 : List RegRow := [
  ⟨32, 1, 0x20000, 0x4, 32768, 31, 31, .ro, 0x0⟩,
  ⟨32, 1, 0x40000, 0x4, 32768, 31, 31, .ro, 0x0⟩,
  ⟨32, 1, 0x20000, 0x4, 32768, 30, 30, .ro, 0x0⟩,
  ⟨32, 1, 0x40000, 0x4, 32768, 30, 30, .ro, 0x0⟩,
  ⟨32, 1, 0x20000, 0x4, 32768, 29, 29, .ro, 0x0⟩,
  ⟨32, 1, 0x40000, 0x4, 32768, 29, 29, .ro, 0x0⟩,
  ⟨32, 1, 0x20000, 0x4, 32768, 28, 28, .ro, 0x0⟩,
  ⟨32, 1, 0x40000, 0x4, 32768, 28, 28, .ro, 0x0⟩,
  ⟨32, 1, 0x20000, 0x4, 32768, 23, 0, .rc, 0x0⟩,
  ⟨32, 1, 0x40000, 0x4, 32768, 23, 0, .rc, 0x0⟩]

/-- The rows of Table 10.18. -/
def rows10_18 : List RegRow := [
  ⟨32, 1, 0x60000, 0x8, 32768, 31, 0, .ro, 0xf0000000⟩,
  ⟨32, 1, 0x60004, 0x8, 32768, 31, 16, .ro, 0x0⟩,
  ⟨32, 1, 0x60004, 0x8, 32768, 15, 15, .ro, 0x0⟩,
  ⟨32, 1, 0x60004, 0x8, 32768, 14, 14, .ro, 0x0⟩,
  ⟨32, 1, 0x60004, 0x8, 32768, 13, 13, .ro, 0x0⟩]

/-- The rows of Table 11.11. -/
def rows11_11 : List RegRow := [
  ⟨0, 16, 0x38000, 0x0, 1, 31, 30, .ro, 0x0⟩,
  ⟨0, 16, 0x38000, 0x0, 1, 29, 29, .ro, 0x0⟩,
  ⟨0, 16, 0x38000, 0x0, 1, 28, 28, .ro, 0x0⟩,
  ⟨0, 16, 0x38000, 0x0, 1, 27, 27, .ro, 0x0⟩,
  ⟨0, 16, 0x38000, 0x0, 1, 26, 26, .ro, 0x0⟩,
  ⟨0, 16, 0x38000, 0x0, 1, 25, 25, .ro, 0x0⟩,
  ⟨0, 16, 0x38000, 0x0, 1, 24, 24, .ro, 0x0⟩,
  ⟨0, 16, 0x38000, 0x0, 1, 23, 23, .ro, 0x0⟩,
  ⟨0, 16, 0x38000, 0x0, 1, 22, 15, .ro, 0x0⟩,
  ⟨0, 16, 0x38000, 0x0, 1, 6, 0, .ro, 0x0⟩]

/-- The rows of Table 11.12. -/
def rows11_12 : List RegRow := [
  ⟨0, 16, 0x38004, 0x0, 1, 2, 2, .w1c, 0x0⟩,
  ⟨0, 16, 0x38004, 0x0, 1, 1, 1, .w1c, 0x0⟩,
  ⟨0, 16, 0x38004, 0x0, 1, 0, 0, .w1c, 0x0⟩,
  ⟨0, 16, 0x38008, 0x0, 1, 31, 0, .rc, 0x0⟩,
  ⟨0, 16, 0x3800c, 0x0, 1, 31, 0, .rc, 0x0⟩,
  ⟨0, 16, 0x38010, 0x0, 1, 31, 0, .rc, 0x0⟩]

/-- The rows of Table 11.13. -/
def rows11_13 : List RegRow := [
  ⟨0, 16, 0x39000, 0x10, 64, 31, 31, .ro, 0x0⟩,
  ⟨0, 16, 0x39000, 0x10, 64, 30, 30, .ro, 0x0⟩,
  ⟨0, 16, 0x39000, 0x10, 64, 29, 29, .ro, 0x0⟩,
  ⟨0, 16, 0x39000, 0x10, 64, 28, 28, .ro, 0x0⟩,
  ⟨0, 16, 0x39000, 0x10, 64, 27, 19, .ro, 0x0⟩,
  ⟨0, 16, 0x39000, 0x10, 64, 18, 13, .ro, 0x0⟩,
  ⟨0, 16, 0x39004, 0x10, 64, 19, 0, .ro, 0x0⟩,
  ⟨0, 16, 0x39008, 0x10, 64, 31, 0, .rc, 0x0⟩,
  ⟨0, 16, 0x3900c, 0x10, 64, 31, 0, .rc, 0x0⟩]

/-- The rows of Table 11.14. -/
def rows11_14 : List RegRow := [
  ⟨0, 16, 0x3a000, 0x0, 1, 31, 0, .ro, 0x0⟩,
  ⟨34, 1, 0xb1000, 0x0, 1, 15, 0, .ro, 0x0⟩,
  ⟨34, 1, 0xb1004, 0x0, 1, 9, 0, .ro, 0x0⟩]

/-- The rows of Table 12.15. -/
def rows12_15 : List RegRow := [
  ⟨33, 1, 0x0, 0x0, 1, 27, 24, .ro, 0xf⟩,
  ⟨33, 1, 0x0, 0x0, 1, 19, 19, .ro, 0x0⟩,
  ⟨33, 1, 0x0, 0x0, 1, 18, 18, .ro, 0x0⟩,
  ⟨33, 1, 0x0, 0x0, 1, 17, 17, .ro, 0x0⟩,
  ⟨33, 1, 0x0, 0x0, 1, 10, 8, .ro, 0x0⟩,
  ⟨33, 1, 0x0, 0x0, 1, 2, 0, .ro, 0x0⟩]

/-- The rows of Table 12.16. -/
def rows12_16 : List RegRow := [
  ⟨33, 1, 0x4, 0x0, 1, 31, 0, .ro, 0x0⟩,
  ⟨33, 1, 0x8, 0x0, 1, 29, 0, .ro, 0x0⟩,
  ⟨33, 1, 0xc, 0x0, 1, 31, 0, .ro, 0x0⟩,
  ⟨33, 1, 0x10, 0x0, 1, 31, 0, .ro, 0x0⟩,
  ⟨33, 1, 0x14, 0x0, 1, 31, 0, .ro, 0x0⟩,
  ⟨33, 1, 0x18, 0x0, 1, 5, 5, .w1c, 0x0⟩,
  ⟨33, 1, 0x18, 0x0, 1, 4, 4, .w1c, 0x0⟩,
  ⟨33, 1, 0x18, 0x0, 1, 3, 3, .w1c, 0x0⟩,
  ⟨33, 1, 0x18, 0x0, 1, 2, 2, .w1c, 0x0⟩,
  ⟨33, 1, 0x18, 0x0, 1, 1, 1, .w1c, 0x0⟩,
  ⟨33, 1, 0x18, 0x0, 1, 0, 0, .w1c, 0x0⟩,
  ⟨33, 1, 0x1c, 0x0, 1, 31, 31, .ro, 0x0⟩,
  ⟨33, 1, 0x1c, 0x0, 1, 30, 0, .ro, 0x0⟩,
  ⟨33, 1, 0x20, 0x0, 1, 31, 0, .ro, 0x0⟩,
  ⟨33, 1, 0x24, 0x0, 1, 7, 0, .ro, 0x0⟩,
  ⟨33, 1, 0x28, 0x0, 1, 31, 16, .rc, 0x0⟩,
  ⟨33, 1, 0x28, 0x0, 1, 15, 0, .rc, 0x0⟩,
  ⟨33, 1, 0x2c, 0x0, 1, 31, 31, .ro, 0x0⟩,
  ⟨33, 1, 0x2c, 0x0, 1, 9, 9, .ro, 0x0⟩,
  ⟨33, 1, 0x2c, 0x0, 1, 8, 8, .ro, 0x0⟩,
  ⟨33, 1, 0x2c, 0x0, 1, 7, 0, .ro, 0x0⟩]

/-- The rows of Table 12.17. -/
def rows12_17 : List RegRow := [
  ⟨33, 1, 0x100, 0x20, 6, 3, 3, .ro, 0x0⟩,
  ⟨33, 1, 0x100, 0x20, 6, 2, 2, .ro, 0x0⟩,
  ⟨33, 1, 0x100, 0x20, 6, 1, 1, .ro, 0x0⟩,
  ⟨33, 1, 0x100, 0x20, 6, 0, 0, .ro, 0x0⟩,
  ⟨33, 1, 0x104, 0x20, 6, 31, 0, .ro, 0x0⟩,
  ⟨33, 1, 0x108, 0x20, 6, 29, 0, .ro, 0x0⟩,
  ⟨33, 1, 0x10c, 0x20, 6, 31, 0, .rc, 0x0⟩,
  ⟨33, 1, 0x110, 0x20, 6, 31, 0, .rc, 0x0⟩]

/-- The rows of Table 12.18. -/
def rows12_18 : List RegRow := [
  ⟨33, 1, 0x200, 0x40, 2, 31, 24, .ro, 0x0⟩,
  ⟨33, 1, 0x200, 0x40, 2, 23, 16, .ro, 0x0⟩,
  ⟨33, 1, 0x200, 0x40, 2, 15, 15, .ro, 0x0⟩,
  ⟨33, 1, 0x200, 0x40, 2, 14, 14, .ro, 0x0⟩,
  ⟨33, 1, 0x200, 0x40, 2, 7, 0, .ro, 0x0⟩,
  ⟨33, 1, 0x204, 0x40, 2, 31, 0, .ro, 0x0⟩,
  ⟨33, 1, 0x208, 0x40, 2, 31, 0, .ro, 0x0⟩,
  ⟨33, 1, 0x20c, 0x40, 2, 31, 0, .ro, 0x0⟩,
  ⟨33, 1, 0x210, 0x40, 2, 31, 0, .ro, 0x0⟩,
  ⟨33, 1, 0x214, 0x40, 2, 31, 0, .rc, 0x0⟩,
  ⟨33, 1, 0x218, 0x40, 2, 31, 0, .rc, 0x0⟩,
  ⟨33, 1, 0x21c, 0x40, 2, 31, 0, .rc, 0x0⟩,
  ⟨33, 1, 0x220, 0x40, 2, 31, 0, .rc, 0x0⟩,
  ⟨33, 1, 0x224, 0x40, 2, 31, 0, .rc, 0x0⟩]

/-- The rows of Table 12.19. -/
def rows12_19 : List RegRow := [
  ⟨33, 1, 0x300, 0x10, 9, 4, 4, .ro, 0x1⟩,
  ⟨33, 1, 0x300, 0x10, 9, 2, 0, .ro, 0x0⟩,
  ⟨33, 1, 0x304, 0x10, 9, 31, 0, .rc, 0x0⟩]

/-- The rows of Table 13.12. -/
def rows13_12 : List RegRow := [
  ⟨0, 16, 0x31080, 0x100, 16, 25, 16, .ro, 0x0⟩,
  ⟨34, 1, 0x70080, 0x100, 2, 25, 16, .ro, 0x0⟩,
  ⟨0, 16, 0x31080, 0x100, 16, 7, 7, .ro, 0x0⟩,
  ⟨34, 1, 0x70080, 0x100, 2, 7, 7, .ro, 0x0⟩,
  ⟨0, 16, 0x31080, 0x100, 16, 6, 6, .ro, 0x0⟩,
  ⟨34, 1, 0x70080, 0x100, 2, 6, 6, .ro, 0x0⟩,
  ⟨0, 16, 0x31080, 0x100, 16, 2, 0, .ro, 0x0⟩,
  ⟨34, 1, 0x70080, 0x100, 2, 2, 0, .ro, 0x0⟩,
  ⟨0, 16, 0x31084, 0x100, 16, 14, 0, .ro, 0x0⟩,
  ⟨34, 1, 0x70084, 0x100, 2, 14, 0, .ro, 0x0⟩,
  ⟨0, 16, 0x31088, 0x100, 16, 19, 0, .ro, 0x0⟩,
  ⟨34, 1, 0x70088, 0x100, 2, 19, 0, .ro, 0x0⟩,
  ⟨0, 16, 0x3108c, 0x100, 16, 19, 0, .ro, 0x0⟩,
  ⟨34, 1, 0x7008c, 0x100, 2, 19, 0, .ro, 0x0⟩,
  ⟨0, 16, 0x31090, 0x100, 16, 31, 16, .ro, 0x0⟩,
  ⟨34, 1, 0x70090, 0x100, 2, 31, 16, .ro, 0x0⟩,
  ⟨0, 16, 0x31090, 0x100, 16, 15, 0, .ro, 0x0⟩,
  ⟨34, 1, 0x70090, 0x100, 2, 15, 0, .ro, 0x0⟩,
  ⟨0, 16, 0x31094, 0x100, 16, 31, 0, .rc, 0x0⟩,
  ⟨34, 1, 0x70094, 0x100, 2, 31, 0, .rc, 0x0⟩,
  ⟨0, 16, 0x31098, 0x100, 16, 31, 0, .rc, 0x0⟩,
  ⟨34, 1, 0x70098, 0x100, 2, 31, 0, .rc, 0x0⟩,
  ⟨0, 16, 0x3109c, 0x100, 16, 5, 0, .ro, 0x0⟩,
  ⟨34, 1, 0x7009c, 0x100, 2, 5, 0, .ro, 0x0⟩,
  ⟨0, 16, 0x310a0, 0x100, 16, 31, 0, .rc, 0x0⟩,
  ⟨34, 1, 0x700a0, 0x100, 2, 31, 0, .rc, 0x0⟩,
  ⟨0, 16, 0x310a4, 0x100, 16, 31, 0, .rc, 0x0⟩,
  ⟨34, 1, 0x700a4, 0x100, 2, 31, 0, .rc, 0x0⟩,
  ⟨0, 16, 0x310a8, 0x100, 16, 0, 0, .w1c, 0x0⟩,
  ⟨34, 1, 0x700a8, 0x100, 2, 0, 0, .w1c, 0x0⟩]

/-- The rows of Table 13.13. -/
def rows13_13 : List RegRow := [
  ⟨34, 1, 0xb2000, 0x0, 1, 31, 16, .ro, 0x0⟩,
  ⟨34, 1, 0xb2000, 0x0, 1, 9, 0, .ro, 0x0⟩,
  ⟨34, 1, 0xb2004, 0x0, 1, 25, 16, .ro, 0x0⟩,
  ⟨34, 1, 0xb2004, 0x0, 1, 9, 0, .ro, 0x0⟩,
  ⟨34, 1, 0xb2008, 0x0, 1, 15, 0, .ro, 0x0⟩,
  ⟨34, 1, 0xb200c, 0x0, 1, 15, 0, .ro, 0x0⟩,
  ⟨34, 1, 0xb2010, 0x0, 1, 31, 0, .rc, 0x0⟩,
  ⟨34, 1, 0xb2014, 0x0, 1, 31, 0, .rc, 0x0⟩,
  ⟨34, 1, 0xb2018, 0x0, 1, 31, 0, .rc, 0x0⟩,
  ⟨34, 1, 0xb201c, 0x0, 1, 31, 0, .rc, 0x0⟩]

/-- The rows of Table 14.12. -/
def rows14_12 : List RegRow := [
  ⟨37, 1, 0x0, 0x0, 1, 31, 29, .ro, 0x0⟩,
  ⟨37, 1, 0x0, 0x0, 1, 28, 26, .ro, 0x7⟩,
  ⟨37, 1, 0x0, 0x0, 1, 25, 24, .ro, 0x0⟩,
  ⟨37, 1, 0x0, 0x0, 1, 23, 22, .ro, 0x0⟩,
  ⟨37, 1, 0x0, 0x0, 1, 21, 21, .ro, 0x0⟩,
  ⟨37, 1, 0x0, 0x0, 1, 20, 20, .ro, 0x0⟩,
  ⟨37, 1, 0x0, 0x0, 1, 19, 19, .ro, 0x0⟩,
  ⟨37, 1, 0x0, 0x0, 1, 18, 18, .ro, 0x0⟩,
  ⟨37, 1, 0x0, 0x0, 1, 17, 16, .ro, 0x0⟩,
  ⟨37, 1, 0x0, 0x0, 1, 8, 8, .ro, 0x0⟩,
  ⟨37, 1, 0x0, 0x0, 1, 7, 0, .ro, 0x0⟩]

/-- The rows of Table 14.13. -/
def rows14_13 : List RegRow := [
  ⟨37, 1, 0x4, 0x0, 1, 8, 8, .w1c, 0x0⟩,
  ⟨37, 1, 0x4, 0x0, 1, 7, 7, .w1c, 0x0⟩,
  ⟨37, 1, 0x4, 0x0, 1, 6, 6, .w1c, 0x0⟩,
  ⟨37, 1, 0x4, 0x0, 1, 5, 5, .w1c, 0x0⟩,
  ⟨37, 1, 0x4, 0x0, 1, 4, 4, .w1c, 0x0⟩,
  ⟨37, 1, 0x4, 0x0, 1, 3, 3, .w1c, 0x0⟩,
  ⟨37, 1, 0x4, 0x0, 1, 2, 2, .w1c, 0x0⟩,
  ⟨37, 1, 0x4, 0x0, 1, 1, 1, .w1c, 0x0⟩,
  ⟨37, 1, 0x4, 0x0, 1, 0, 0, .w1c, 0x0⟩]

/-- The rows of Table 14.14. -/
def rows14_14 : List RegRow := [
  ⟨37, 1, 0x8, 0x0, 1, 31, 0, .rc, 0x0⟩,
  ⟨37, 1, 0xc, 0x0, 1, 31, 0, .rc, 0x0⟩,
  ⟨37, 1, 0x10, 0x0, 1, 12, 0, .rc, 0x0⟩,
  ⟨37, 1, 0x14, 0x0, 1, 10, 0, .rc, 0x0⟩,
  ⟨37, 1, 0x18, 0x0, 1, 31, 0, .rc, 0x0⟩,
  ⟨37, 1, 0x1c, 0x0, 1, 31, 16, .rc, 0x0⟩,
  ⟨37, 1, 0x1c, 0x0, 1, 15, 0, .rc, 0x0⟩,
  ⟨37, 1, 0x20, 0x0, 1, 31, 16, .rc, 0x0⟩,
  ⟨37, 1, 0x20, 0x0, 1, 15, 0, .rc, 0x0⟩,
  ⟨37, 1, 0x24, 0x0, 1, 31, 0, .rc, 0x0⟩,
  ⟨37, 1, 0x28, 0x0, 1, 31, 0, .rc, 0x0⟩,
  ⟨37, 1, 0x2c, 0x0, 1, 31, 0, .rc, 0x0⟩,
  ⟨37, 1, 0x30, 0x0, 1, 31, 0, .ro, 0x0⟩]

/-- The rows of Table 15.13. -/
def rows15_13 : List RegRow := [
  ⟨34, 1, 0xc0000, 0x0, 1, 28, 16, .ro, 0x0⟩,
  ⟨34, 1, 0xc0000, 0x0, 1, 6, 0, .ro, 0x0⟩,
  ⟨34, 1, 0xc0004, 0x0, 1, 2, 2, .w1c, 0x0⟩,
  ⟨34, 1, 0xc0004, 0x0, 1, 1, 1, .w1c, 0x0⟩,
  ⟨34, 1, 0xc0004, 0x0, 1, 0, 0, .w1c, 0x0⟩,
  ⟨34, 1, 0xc0008, 0x0, 1, 31, 0, .rc, 0x0⟩,
  ⟨34, 1, 0xc000c, 0x0, 1, 31, 0, .rc, 0x0⟩,
  ⟨34, 1, 0xc0010, 0x0, 1, 31, 0, .rc, 0x0⟩,
  ⟨34, 1, 0xc0014, 0x0, 1, 31, 0, .rc, 0x0⟩,
  ⟨34, 1, 0xc0018, 0x0, 1, 31, 0, .rc, 0x0⟩,
  ⟨34, 1, 0xc001c, 0x0, 1, 31, 0, .rc, 0x0⟩,
  ⟨34, 1, 0xc0020, 0x0, 1, 31, 0, .rc, 0x0⟩,
  ⟨34, 1, 0xc0024, 0x0, 1, 31, 0, .rc, 0x0⟩,
  ⟨34, 1, 0xc0028, 0x0, 1, 31, 0, .rc, 0x0⟩,
  ⟨34, 1, 0xc002c, 0x0, 1, 31, 0, .rc, 0x0⟩,
  ⟨34, 1, 0xc0030, 0x0, 1, 31, 0, .rc, 0x0⟩,
  ⟨34, 1, 0xc0034, 0x0, 1, 31, 0, .rc, 0x0⟩]

/-- The rows of Table 16.10. -/
def rows16_10 : List RegRow := [
  ⟨34, 1, 0xc1000, 0x10, 1024, 28, 16, .ro, 0x0⟩,
  ⟨34, 1, 0xc1000, 0x10, 1024, 8, 0, .ro, 0x0⟩,
  ⟨34, 1, 0xc1004, 0x10, 1024, 31, 0, .rc, 0x0⟩,
  ⟨34, 1, 0xc1008, 0x10, 1024, 31, 0, .rc, 0x0⟩,
  ⟨34, 1, 0xc100c, 0x10, 1024, 31, 0, .rc, 0x0⟩]

/-- The rows of Table 17.12. -/
def rows17_12 : List RegRow := [
  ⟨35, 1, 0x0, 0x0, 1, 31, 29, .ro, 0x0⟩,
  ⟨35, 1, 0x0, 0x0, 1, 28, 22, .ro, 0x0⟩,
  ⟨35, 1, 0x0, 0x0, 1, 21, 14, .ro, 0x0⟩,
  ⟨35, 1, 0x0, 0x0, 1, 13, 13, .ro, 0x0⟩,
  ⟨35, 1, 0x0, 0x0, 1, 12, 12, .ro, 0x0⟩,
  ⟨35, 1, 0x0, 0x0, 1, 11, 11, .ro, 0x0⟩,
  ⟨35, 1, 0x0, 0x0, 1, 8, 0, .ro, 0x0⟩]

/-- The rows of Table 17.13. -/
def rows17_13 : List RegRow := [
  ⟨35, 1, 0x4, 0x0, 1, 4, 4, .w1c, 0x0⟩,
  ⟨35, 1, 0x4, 0x0, 1, 3, 3, .w1c, 0x0⟩,
  ⟨35, 1, 0x4, 0x0, 1, 2, 2, .w1c, 0x0⟩,
  ⟨35, 1, 0x4, 0x0, 1, 1, 1, .w1c, 0x0⟩,
  ⟨35, 1, 0x4, 0x0, 1, 0, 0, .w1c, 0x0⟩,
  ⟨35, 1, 0x8, 0x0, 1, 31, 0, .rc, 0x0⟩,
  ⟨35, 1, 0xc, 0x0, 1, 31, 0, .rc, 0x0⟩,
  ⟨35, 1, 0x10, 0x0, 1, 31, 0, .rc, 0x0⟩,
  ⟨35, 1, 0x14, 0x0, 1, 31, 0, .rc, 0x0⟩]

/-- The rows of Table 17.14. -/
def rows17_14 : List RegRow := [
  ⟨35, 1, 0x10000, 0x4, 256, 31, 30, .ro, 0x0⟩,
  ⟨35, 1, 0x10000, 0x4, 256, 29, 28, .ro, 0x0⟩,
  ⟨35, 1, 0x10000, 0x4, 256, 27, 27, .ro, 0x0⟩,
  ⟨35, 1, 0x10000, 0x4, 256, 26, 26, .ro, 0x0⟩,
  ⟨35, 1, 0x10000, 0x4, 256, 15, 0, .ro, 0x0⟩]

/-- The rows of Table 17.15. -/
def rows17_15 : List RegRow := [
  ⟨36, 1, 0x0, 0x0, 1, 31, 30, .ro, 0x0⟩,
  ⟨36, 1, 0x0, 0x0, 1, 29, 29, .ro, 0x0⟩,
  ⟨36, 1, 0x0, 0x0, 1, 28, 28, .ro, 0x0⟩,
  ⟨36, 1, 0x0, 0x0, 1, 27, 26, .ro, 0x0⟩,
  ⟨36, 1, 0x0, 0x0, 1, 25, 24, .ro, 0x0⟩,
  ⟨36, 1, 0x0, 0x0, 1, 1, 0, .ro, 0x0⟩,
  ⟨36, 1, 0x4, 0x0, 1, 31, 0, .ro, 0x0⟩,
  ⟨36, 1, 0x8, 0x0, 1, 15, 0, .ro, 0x0⟩,
  ⟨36, 1, 0xc, 0x0, 1, 31, 0, .ro, 0x0⟩,
  ⟨36, 1, 0x10, 0x0, 1, 31, 16, .ro, 0x0⟩,
  ⟨36, 1, 0x10, 0x0, 1, 15, 0, .ro, 0x0⟩]

/-- The rows of Table 18.16. -/
def rows18_16 : List RegRow := [
  ⟨39, 1, 0x0, 0x0, 1, 31, 28, .ro, 0x0⟩,
  ⟨39, 1, 0x0, 0x0, 1, 27, 24, .ro, 0x0⟩,
  ⟨39, 1, 0x0, 0x0, 1, 23, 23, .ro, 0x0⟩,
  ⟨39, 1, 0x0, 0x0, 1, 22, 22, .ro, 0x0⟩,
  ⟨39, 1, 0x0, 0x0, 1, 21, 21, .ro, 0x0⟩,
  ⟨39, 1, 0x0, 0x0, 1, 20, 20, .ro, 0x0⟩,
  ⟨39, 1, 0x0, 0x0, 1, 19, 19, .ro, 0x0⟩,
  ⟨39, 1, 0x0, 0x0, 1, 18, 18, .ro, 0x0⟩,
  ⟨39, 1, 0x0, 0x0, 1, 15, 0, .ro, 0x0⟩]

/-- The rows of Table 18.17. -/
def rows18_17 : List RegRow := [
  ⟨39, 1, 0x4, 0x0, 1, 4, 4, .w1c, 0x0⟩,
  ⟨39, 1, 0x4, 0x0, 1, 3, 3, .w1c, 0x0⟩,
  ⟨39, 1, 0x4, 0x0, 1, 2, 2, .w1c, 0x0⟩,
  ⟨39, 1, 0x4, 0x0, 1, 1, 1, .w1c, 0x0⟩,
  ⟨39, 1, 0x4, 0x0, 1, 0, 0, .w1c, 0x0⟩,
  ⟨39, 1, 0x8, 0x0, 1, 31, 0, .rc, 0x0⟩,
  ⟨39, 1, 0xc, 0x0, 1, 31, 0, .rc, 0x0⟩,
  ⟨39, 1, 0x10, 0x0, 1, 31, 0, .rc, 0x0⟩,
  ⟨39, 1, 0x14, 0x0, 1, 31, 0, .ro, 0x0⟩,
  ⟨39, 1, 0x18, 0x0, 1, 31, 0, .ro, 0x0⟩,
  ⟨39, 1, 0x1c, 0x0, 1, 31, 0, .ro, 0x0⟩]

/-- The rows of Table 18.18. -/
def rows18_18 : List RegRow := [
  ⟨39, 1, 0x100, 0x0, 1, 31, 0, .rw, 0x0⟩,
  ⟨39, 1, 0x104, 0x0, 1, 27, 0, .rw, 0x0⟩,
  ⟨39, 1, 0x108, 0x0, 1, 1, 1, .ro, 0x0⟩,
  ⟨39, 1, 0x108, 0x0, 1, 0, 0, .ro, 0x0⟩,
  ⟨39, 1, 0x10c, 0x0, 1, 31, 0, .ro, 0x0⟩]

/-- The rows of Table 19.5. -/
def rows19_5 : List RegRow := [
  ⟨39, 1, 0x20, 0x0, 1, 31, 30, .ro, 0x0⟩,
  ⟨39, 1, 0x20, 0x0, 1, 29, 26, .ro, 0x0⟩,
  ⟨39, 1, 0x20, 0x0, 1, 25, 0, .ro, 0x0⟩,
  ⟨39, 1, 0x24, 0x0, 1, 31, 0, .ro, 0x0⟩]

/-- The rows of Table 20.9. -/
def rows20_9 : List RegRow := [
  ⟨38, 1, 0x0, 0x0, 1, 31, 0, .ro, 0x0⟩,
  ⟨38, 1, 0x4, 0x0, 1, 13, 13, .ro, 0x0⟩,
  ⟨38, 1, 0x4, 0x0, 1, 12, 12, .ro, 0x0⟩,
  ⟨38, 1, 0x4, 0x0, 1, 11, 11, .ro, 0x0⟩,
  ⟨38, 1, 0x4, 0x0, 1, 10, 8, .ro, 0x0⟩,
  ⟨38, 1, 0x4, 0x0, 1, 7, 0, .ro, 0x0⟩]

/-- The rows of Table 20.11. -/
def rows20_11 : List RegRow := [
  ⟨38, 1, 0x8, 0x0, 1, 31, 0, .ro, 0x0⟩,
  ⟨38, 1, 0xc, 0x0, 1, 7, 0, .ro, 0x0⟩,
  ⟨38, 1, 0x10, 0x0, 1, 31, 0, .ro, 0x0⟩,
  ⟨38, 1, 0x14, 0x0, 1, 31, 0, .ro, 0x0⟩,
  ⟨38, 1, 0x18, 0x0, 1, 15, 0, .ro, 0x0⟩,
  ⟨38, 1, 0x20, 0x0, 1, 31, 31, .ro, 0x0⟩,
  ⟨38, 1, 0x20, 0x0, 1, 30, 30, .ro, 0x0⟩,
  ⟨38, 1, 0x20, 0x0, 1, 29, 27, .ro, 0x0⟩,
  ⟨38, 1, 0x20, 0x0, 1, 26, 24, .ro, 0x0⟩,
  ⟨38, 1, 0x20, 0x0, 1, 23, 16, .ro, 0x0⟩,
  ⟨38, 1, 0x20, 0x0, 1, 15, 8, .ro, 0x0⟩,
  ⟨38, 1, 0x20, 0x0, 1, 5, 0, .ro, 0x0⟩,
  ⟨38, 1, 0x24, 0x0, 1, 31, 0, .ro, 0x0⟩,
  ⟨38, 1, 0x28, 0x0, 1, 31, 16, .ro, 0x0⟩,
  ⟨38, 1, 0x28, 0x0, 1, 7, 0, .ro, 0x0⟩,
  ⟨38, 1, 0x2c, 0x0, 1, 31, 0, .ro, 0x0⟩,
  ⟨38, 1, 0x30, 0x0, 1, 31, 0, .ro, 0x0⟩,
  ⟨38, 1, 0x40, 0x0, 1, 31, 31, .ro, 0x0⟩,
  ⟨38, 1, 0x40, 0x0, 1, 30, 30, .ro, 0x1⟩,
  ⟨38, 1, 0x100, 0x4, 40, 31, 0, .rc, 0x0⟩]

/-- The rows of Table 20.13. -/
def rows20_13 : List RegRow := [
  ⟨34, 1, 0xd0000, 0x0, 1, 31, 0, .ro, 0x0⟩,
  ⟨34, 1, 0xd0004, 0x0, 1, 13, 0, .ro, 0x0⟩,
  ⟨34, 1, 0xd0008, 0x0, 1, 31, 0, .rc, 0x0⟩,
  ⟨34, 1, 0xd000c, 0x0, 1, 31, 0, .rc, 0x0⟩,
  ⟨34, 1, 0xd0010, 0x0, 1, 31, 0, .rc, 0x0⟩]

/-- The rows of Table 21.8. -/
def rows21_8 : List RegRow := [
  ⟨0, 16, 0x3b000, 0x10, 4, 31, 30, .ro, 0x0⟩,
  ⟨0, 16, 0x3b000, 0x10, 4, 29, 29, .ro, 0x0⟩,
  ⟨0, 16, 0x3b000, 0x10, 4, 28, 28, .ro, 0x0⟩,
  ⟨0, 16, 0x3b000, 0x10, 4, 27, 27, .ro, 0x0⟩,
  ⟨0, 16, 0x3b000, 0x10, 4, 26, 26, .ro, 0x0⟩,
  ⟨0, 16, 0x3b000, 0x10, 4, 19, 16, .ro, 0x0⟩,
  ⟨0, 16, 0x3b004, 0x10, 4, 31, 0, .rc, 0x0⟩,
  ⟨0, 16, 0x3b008, 0x10, 4, 31, 0, .rc, 0x0⟩]

/-- The rows of Table 21.9. -/
def rows21_9 : List RegRow := [
  ⟨34, 1, 0xd1000, 0x8, 1024, 31, 31, .ro, 0x0⟩,
  ⟨34, 1, 0xd1000, 0x8, 1024, 30, 30, .ro, 0x0⟩,
  ⟨34, 1, 0xd1000, 0x8, 1024, 29, 29, .ro, 0x0⟩,
  ⟨34, 1, 0xd1000, 0x8, 1024, 28, 28, .ro, 0x0⟩,
  ⟨34, 1, 0xd1000, 0x8, 1024, 15, 0, .ro, 0x0⟩,
  ⟨34, 1, 0xd1004, 0x8, 1024, 9, 0, .ro, 0x0⟩]

/-- The rows of Table 21.10. -/
def rows21_10 : List RegRow := [
  ⟨38, 1, 0x10000, 0x0, 1, 31, 29, .ro, 0x0⟩,
  ⟨38, 1, 0x10000, 0x0, 1, 28, 28, .ro, 0x0⟩,
  ⟨38, 1, 0x10000, 0x0, 1, 27, 27, .ro, 0x0⟩,
  ⟨38, 1, 0x10000, 0x0, 1, 26, 26, .ro, 0x0⟩,
  ⟨38, 1, 0x10000, 0x0, 1, 25, 25, .ro, 0x0⟩,
  ⟨38, 1, 0x10000, 0x0, 1, 24, 24, .ro, 0x0⟩,
  ⟨38, 1, 0x10000, 0x0, 1, 19, 10, .ro, 0x0⟩,
  ⟨38, 1, 0x10000, 0x0, 1, 9, 0, .ro, 0x0⟩,
  ⟨38, 1, 0x10004, 0x0, 1, 31, 0, .rc, 0x0⟩,
  ⟨38, 1, 0x10008, 0x0, 1, 31, 0, .rc, 0x0⟩,
  ⟨38, 1, 0x1000c, 0x0, 1, 31, 0, .ro, 0x0⟩]

/-- The rows of Table 22.8. -/
def rows22_8 : List RegRow := [
  ⟨34, 1, 0x0, 0x0, 1, 7, 4, .ro, 0x0⟩,
  ⟨34, 1, 0x0, 0x0, 1, 3, 0, .ro, 0x0⟩,
  ⟨34, 1, 0x4, 0x0, 1, 2, 2, .w1c, 0x0⟩,
  ⟨34, 1, 0x4, 0x0, 1, 1, 1, .w1c, 0x0⟩,
  ⟨34, 1, 0x4, 0x0, 1, 0, 0, .w1c, 0x0⟩,
  ⟨34, 1, 0x8, 0x0, 1, 31, 0, .rc, 0x0⟩,
  ⟨34, 1, 0xc, 0x0, 1, 31, 0, .ro, 0x0⟩,
  ⟨34, 1, 0x10, 0x0, 1, 9, 8, .ro, 0x0⟩,
  ⟨34, 1, 0x10, 0x0, 1, 7, 0, .ro, 0x0⟩,
  ⟨34, 1, 0x100, 0x0, 1, 3, 3, .w1c, 0x0⟩,
  ⟨34, 1, 0x100, 0x0, 1, 2, 2, .w1c, 0x0⟩,
  ⟨34, 1, 0x100, 0x0, 1, 1, 1, .w1c, 0x0⟩,
  ⟨34, 1, 0x100, 0x0, 1, 0, 0, .w1c, 0x0⟩,
  ⟨34, 1, 0x104, 0x0, 1, 31, 31, .ro, 0x0⟩,
  ⟨34, 1, 0x104, 0x0, 1, 18, 16, .ro, 0x0⟩,
  ⟨34, 1, 0x104, 0x0, 1, 12, 10, .ro, 0x0⟩,
  ⟨34, 1, 0x104, 0x0, 1, 7, 0, .ro, 0x0⟩,
  ⟨34, 1, 0x108, 0x0, 1, 31, 0, .ro, 0x0⟩,
  ⟨34, 1, 0x10c, 0x0, 1, 7, 0, .ro, 0x0⟩,
  ⟨34, 1, 0x110, 0x0, 1, 31, 0, .rc, 0x0⟩]

/-- The rows of Table 22.9. -/
def rows22_9 : List RegRow := [
  ⟨34, 1, 0x10000, 0x40, 16, 21, 0, .rw, 0x0⟩,
  ⟨34, 1, 0x10004, 0x40, 16, 1, 0, .rw, 0x0⟩,
  ⟨34, 1, 0x10008, 0x40, 16, 31, 30, .ro, 0x0⟩,
  ⟨34, 1, 0x10008, 0x40, 16, 29, 29, .ro, 0x0⟩,
  ⟨34, 1, 0x10008, 0x40, 16, 28, 28, .ro, 0x0⟩,
  ⟨34, 1, 0x10008, 0x40, 16, 21, 0, .ro, 0x0⟩,
  ⟨34, 1, 0x1000c, 0x40, 16, 31, 0, .ro, 0x0⟩,
  ⟨34, 1, 0x10010, 0x40, 16, 31, 0, .ro, 0x0⟩,
  ⟨34, 1, 0x10014, 0x40, 16, 11, 9, .ro, 0x0⟩,
  ⟨34, 1, 0x10014, 0x40, 16, 8, 8, .ro, 0x0⟩,
  ⟨34, 1, 0x10014, 0x40, 16, 7, 0, .ro, 0x0⟩,
  ⟨34, 1, 0x10018, 0x40, 16, 21, 0, .ro, 0x0⟩,
  ⟨34, 1, 0x1001c, 0x40, 16, 31, 0, .rc, 0x0⟩,
  ⟨34, 1, 0x10020, 0x40, 16, 31, 0, .rc, 0x0⟩,
  ⟨34, 1, 0x10024, 0x40, 16, 31, 0, .rc, 0x0⟩]

/-- The rows of Table 22.10. -/
def rows22_10 : List RegRow := [
  ⟨34, 1, 0x20000, 0x0, 1, 31, 0, .ro, 0x0⟩,
  ⟨34, 1, 0x20004, 0x0, 1, 7, 0, .ro, 0x0⟩,
  ⟨34, 1, 0x20100, 0x4, 40, 31, 0, .rc, 0x0⟩]

/-- The rows of Table 23.11. -/
def rows23_11 : List RegRow := [
  ⟨38, 1, 0x20000, 0x0, 1, 7, 0, .ro, 0x0⟩,
  ⟨38, 1, 0x20004, 0x0, 1, 7, 0, .rc, 0x80⟩,
  ⟨38, 1, 0x20008, 0x0, 1, 2, 2, .w1c, 0x0⟩,
  ⟨38, 1, 0x20008, 0x0, 1, 1, 1, .w1c, 0x0⟩,
  ⟨38, 1, 0x20008, 0x0, 1, 0, 0, .w1c, 0x0⟩,
  ⟨38, 1, 0x20010, 0x4, 8, 31, 31, .ro, 0x0⟩,
  ⟨38, 1, 0x20010, 0x4, 8, 7, 0, .ro, 0x0⟩]

/-- Every row of every register table of the spec. -/
def regRows : List RegRow :=
  rows3_14 ++ rows3_15 ++ rows3_16 ++ rows3_17 ++ rows3_18 ++ rows3_19 ++
  rows4_16 ++ rows4_17 ++ rows4_18 ++ rows4_19 ++ rows4_20 ++ rows5_13 ++
  rows5_14 ++ rows5_15 ++ rows5_16 ++ rows5_17 ++ rows5_18 ++ rows6_13 ++
  rows6_14 ++ rows6_15 ++ rows6_16 ++ rows6_17 ++ rows6_18 ++ rows7_10 ++
  rows7_11 ++ rows7_12 ++ rows8_8 ++ rows8_9 ++ rows8_10 ++ rows8_11 ++
  rows9_9 ++ rows9_10 ++ rows9_11 ++ rows9_12 ++ rows9_13 ++ rows10_12 ++
  rows10_13 ++ rows10_14 ++ rows10_15 ++ rows10_16 ++ rows10_17 ++ rows10_18 ++
  rows11_11 ++ rows11_12 ++ rows11_13 ++ rows11_14 ++ rows12_15 ++ rows12_16 ++
  rows12_17 ++ rows12_18 ++ rows12_19 ++ rows13_12 ++ rows13_13 ++ rows14_12 ++
  rows14_13 ++ rows14_14 ++ rows15_13 ++ rows16_10 ++ rows17_12 ++ rows17_13 ++
  rows17_14 ++ rows17_15 ++ rows18_16 ++ rows18_17 ++ rows18_18 ++ rows19_5 ++
  rows20_9 ++ rows20_11 ++ rows20_13 ++ rows21_8 ++ rows21_9 ++ rows21_10 ++
  rows22_8 ++ rows22_9 ++ rows22_10 ++ rows23_11

/-- Does a row stand at the word of address `a`? -/
def RegRow.at (r : RegRow) (a : Nat) : Bool :=
  let isl := (a - 0x4000000000) / 0x100000
  let off := (a - 0x4000000000) % 0x100000
  0x4000000000 ≤ a && r.isl ≤ isl && isl < r.isl + r.islands && r.off ≤ off &&
    (if r.stride = 0 then off = r.off
     else (off - r.off) % r.stride = 0 && (off - r.off) / r.stride < r.count)

/-- The rows that stand at the word of address `a`. -/
def rowsAt (a : Nat) : List RegRow := regRows.filter (·.at a)

/-- Put the number `v` into bits `lo` and up of a word, `n` bits wide (00 R14). -/
def placeBits (w : Nat) (lo n v : Nat) : Nat :=
  w % 2 ^ lo + (v % 2 ^ n) * 2 ^ lo + (w / 2 ^ (lo + n)) * 2 ^ (lo + n)

/-- The rows of `regRows` whose Reset column is not 0, listed once more so that a reset value is found at once
(Laws/RegMap.lean shows that they are those rows and no others). -/
def resetRows : List RegRow := [
  ⟨34, 1, 0x60180, 0x0, 1, 30, 28, .ro, 0x2⟩,
  ⟨34, 1, 0x60180, 0x0, 1, 26, 24, .ro, 0x2⟩,
  ⟨34, 1, 0x60180, 0x0, 1, 22, 20, .ro, 0x2⟩,
  ⟨34, 1, 0x60180, 0x0, 1, 18, 16, .ro, 0x2⟩,
  ⟨34, 1, 0x60180, 0x0, 1, 14, 12, .ro, 0x2⟩,
  ⟨34, 1, 0x60180, 0x0, 1, 10, 8, .ro, 0x2⟩,
  ⟨34, 1, 0x60180, 0x0, 1, 6, 4, .ro, 0x2⟩,
  ⟨34, 1, 0x60180, 0x0, 1, 2, 0, .ro, 0x2⟩,
  ⟨0, 16, 0x11000, 0x40, 16, 8, 8, .ro, 0x1⟩,
  ⟨0, 16, 0x40000, 0x40, 8192, 28, 27, .ro, 0x3⟩,
  ⟨0, 16, 0x4002c, 0x40, 8192, 31, 0, .rc, 0x80000000⟩,
  ⟨0, 16, 0x40030, 0x40, 8192, 31, 0, .rc, 0x7fffffff⟩,
  ⟨0, 16, 0xc0000, 0x20, 8192, 31, 31, .ro, 0x1⟩,
  ⟨0, 16, 0xc0000, 0x20, 8192, 28, 27, .ro, 0x3⟩,
  ⟨32, 1, 0x60000, 0x8, 32768, 31, 0, .ro, 0xf0000000⟩,
  ⟨33, 1, 0x0, 0x0, 1, 27, 24, .ro, 0xf⟩,
  ⟨33, 1, 0x300, 0x10, 9, 4, 4, .ro, 0x1⟩,
  ⟨37, 1, 0x0, 0x0, 1, 28, 26, .ro, 0x7⟩,
  ⟨38, 1, 0x40, 0x0, 1, 30, 30, .ro, 0x1⟩,
  ⟨38, 1, 0x20004, 0x0, 1, 7, 0, .rc, 0x80⟩]

/-- The word that a register holds after the reset of its island: each field at the value of its Reset column (00 R16). -/
def resetWord (a : Nat) : Nat := (resetRows.filter (·.at a)).foldl (fun w r => placeBits w r.lo (r.hi + 1 - r.lo) r.rst) 0

/-- The bits of the word at `a` whose fields have access code `c`. -/
def maskOf (c : Access) (a : Nat) : Nat :=
  (rowsAt a).foldl (fun w r => if r.acc = c then placeBits w r.lo (r.hi + 1 - r.lo) (2 ^ (r.hi + 1 - r.lo) - 1) else w) 0

end Sys2Proof.Machine
end

