-- ==== Sys2Proof/Machine/State.lean ====
section
/-! DEFINITION. The state of the block: everything the spec gives the machine, as plain data, and its value after reset. A
fact that a register shows and that nothing else needs lives in the register file `regs`; every other fact lives in the
part of the state named after its chapter, and the register that shows it is computed when it is read. -/

namespace Sys2Proof.Machine

/-- The reasons for which a step stops. -/
inductive Fault where
  /-- Raised by POWER_START and by the commands that load an image: the image breaks a rule that the chip does not check, and
  the spec calls the result unpredictable (00 R6, R7). Safe: the hardware goes on in some way that the model does not show. -/
  | unpredictable
deriving DecidableEq, Repr

/-- The reasons for which a step has no meaning. -/
inductive Refusal where
  /-- A command whose meaning is not written: raised by the arm of that command in Dispatch.lean. Safe. -/
  | notModelled (mnemonic : String)
deriving DecidableEq, Repr

/-! ### Start, image, journal and staging (18, 19) -/

/-- Staging held open by a session (19 R686, R687). -/
structure Staging where
  sess : Nat
  total : Nat
  bytes : List Byte
  lastWrite : Nat
deriving DecidableEq, Repr

/-- What BOOT holds: the xSPI memory's bytes by offset outside the journal and log regions; the running image's records and header
facts; the journal: its records, write position, the BEGIN of its last complete checkpoint, next count, pending items with the time of
their change, the checkpoint being written with its close and the place of its BEGIN, whether one is due, and whether the last write
failed; staging; what a copy and the replay will report; the read range; whether PWR_OK and RESET_N are high; the elapsed time since which
the chip serves; the start report; and the levels of the journal whose source lies on another pair, with their priorities (R675). -/
structure Boot where
  xspi : List Host.Cell := []
  recs : List Rec := []
  fw : Nat := 0
  secver : Nat := 0
  flags : Nat := 0
  decryptSlot : Nat := 0
  jrecs : List JRec := []
  jpos : Nat := 0
  jbegin : Option Nat := none
  jseq : Nat := 0
  jpend : List (JItem × Time) := []
  ckptQueue : Option (List JBody) := none
  ckptTime : Time := 0
  ckptOff : Nat := 0
  ckptDue : Bool := true
  jfailed : Bool := false
  staging : Option Staging := none
  copySkipped : Option Nat := none
  copyDone : Option (Nat × Nat × Nat × Nat) := none
  skipped : List (Nat × Nat) := []
  notRestored : List (JItem × Nat × Nat) := []
  xrd : Option (Nat × Nat) := none
  pins : Bool := false
  served : Option Nat := none
  startReport : Option StartReport := none
  farLevels : List SEntry := []
  farPrio : List Nat := []
deriving DecidableEq, Repr

/-! ### Faults and the log (20) -/

/-- A condition of class F2 or above that still holds (20 R707): its island, a number that names it, its class, the elapsed time it was raised at, and the
event that logs an occurrence of it. -/
structure Cond where
  isl : Nat
  tag : Nat
  cls : Nat
  at_ : Nat
  code : Nat
  detail : List Byte
deriving DecidableEq, Repr

/-- What FLT and the Spindle hold of faults: the conditions that still hold (20 R707); an island that has lost the time wire until its reset (12 R448); the ring, the elapsed times at which the records not
yet in a block were logged, and the blocks of the log, with the elapsed time of the last attempt at one while the log's memory fails, and the cause and offset of that failure; the limits on
repeated events, and the ERR bits logged since their fault-word bit was cleared (20 R717); and by island (64 more for a head) the uncorrectable errors whose
effect on the data is still to come, each with a free value that tells what it hit. -/
structure Flt where
  lostWire : Option Nat := none
  conds : List Cond := []
  ring : List LogRec := []
  waits : List Nat := []
  next : Nat := 0
  blocks : List LogBlock := []
  bseq : Nat := 0
  bslot : Nat := 0
  blockFails : Nat := 0
  logFailed : Bool := false
  logWhy : Nat × Nat := (0, 0)
  tried : Nat := 0
  iseq : List (Nat × Nat) := []
  dropped : List (Nat × Nat) := []
  rate : List ((Nat × Nat × Nat) × (Nat × Nat × Nat)) := []
  logged : List (Nat × Nat × Nat) := []
  f3 : Bool := false
  stopped : Bool := false
  hurt : List (Nat × Nat) := []
deriving DecidableEq, Repr

/-! ### Sessions, requests and principals (15, 16) -/

/-- A request accepted for the next cycle close (15 R573, class C): its place in the single order of R77, its acceptance
time, its principal and effective priority, and the command. -/
structure CycReq where
  order : Nat
  acc : Time
  sess : Nat
  princ : Nat
  prio : Nat
  cmd : Instr
deriving DecidableEq, Repr

/-- A staged salvo (15 R580). -/
structure Staged where
  handle : Nat
  sess : Nat
  princ : Nat
  entries : List SEntry := []
  lastAdd : Nat
  armed : Bool := false
deriving DecidableEq, Repr

/-- What the SiCP engine holds. -/
structure Sicp where
  sessions : List Session := []
  cookies : List ((Nat × Nat) × Nat × Nat) := []
  hsSecond : Nat × Nat := (0, 0)
  order : Nat := 0
  cyc : List CycReq := []
  staged : List Staged := []
  buckets : List Bucket := []
  rcTotal : List (Nat × Nat) := []
  totals : List (Nat × Nat) := []
deriving DecidableEq, Repr

/-! ### Crosspoint, admission, takes and salvos (03, 04) -/

/-- One level of a destination (04 R135): its source, mode, CATCH path, the priority and principal that set it, its pending
takes in the order they fall due, and a change of CATCH path with the instant from which it holds (R147). -/
structure LevelSt where
  src : Option Nat := none
  mode : TMode := .direct
  bobbin : Bool := false
  prio : Nat := 0
  princ : Nat := 0
  via : Nat := 0xFFFF
  pend : List PTake := []
  pathDue : Option (Bool × Time) := none
deriving DecidableEq, Repr

/-- A picture by what fixes it (05 R205, 21 R734): video fill, or the CRC-32C and the probe samples of a picture. -/
inductive Pic where
  | fill
  | pic (crc : Nat) (luma : List Nat)
deriving DecidableEq, Repr

/-- What a level of a destination reads in a frame (04 Table 4.8): nothing, the frame of a source on the direct path, frame `k`
of a source's ring, or a bank of a still. -/
inductive Carry where
  | fill
  | direct (src : Nat)
  | ring (src k : Nat)
  | still (num bank : Nat)
deriving DecidableEq, Repr

/-- What a level of a destination shows: what it reads in the running frame, whether that repeats the frame before, the ring frame that it
showed last, and what is kept to be repeated until the first whole frame of a new source (04 R146). `mixed` says that a member of the frame read repeats beside
others that do not (02 R68), and `floor` is the instant before which no frame of the source is shown again, since its format had stopped matching (08 Table
8.5). -/
structure Shown where
  car : Carry := .fill
  again : Bool := false
  mixed : Bool := false
  floor : Time := 0
  last : Option (Nat × Nat) := none
  kept : Option Carry := none
deriving DecidableEq, Repr

/-- A destination: its levels, its delay and the delay that awaits its instant (08 R312 to R314), the count of its running
frame, what its VIDEO and ANC levels show in it, the head of the override, the picture fixed at the frame's start where it is known then (a
still's, a head's), whether the frame is a switching frame of the ANC level (R142), whether the frame before was fill, its picture (none where
no whole frame was emitted, 05 R211), the members in underrun in it and whether its source lay outside the window, whether the destination
emits and whether it emitted the frame before, whether a read of it was abandoned (09 R344), and the audio flows of its AUDIO source that lacked samples in the frame before (02 R66). -/
structure DstSt where
  video : LevelSt := {}
  audio : LevelSt := {}
  anc : LevelSt := {}
  frames : Nat := 0
  lines : Nat := 0
  pendDelay : Option (Nat × Nat × Time) := none
  frame : Nat := 0
  v : Shown := {}
  x : Shown := {}
  ovr : Option Nat := none
  cap : Option Pic := none
  cut : Bool := false
  filled : Bool := false
  prevPic : Option Pic := none
  under : List Nat := []
  unaligned : Bool := false
  live : Bool := false
  wasLive : Bool := false
  abandoned : Bool := false
  audBad : List Nat := []
deriving DecidableEq, Repr

/-- The states of a tile (03 R122), coded as SPN.XP.TSTATE shows them. -/
inductive TileSt where
  | inService | draining | out | lost
deriving DecidableEq, Repr

/-- A member of a source in a frame (02 R66): its number (a lane of a group by position, or a flow by its place in FLOWS),
whether it lay within the switching window and the inner window (04 R137, R147), whether its data were whole when a destination's frame began
to leave, and whether data were missing after that (06 R236). -/
structure Member where
  num : Nat
  inWin : Bool
  inInner : Bool
  whole : Bool
  hole : Bool := false
deriving DecidableEq, Repr

/-- A frame of a source: its frame count at the source's rate (that of the nearest alignment point), its arrival
(R307), its members so far, its picture, its passing ancillary packets with the member that brought each, the bytes of its codestream where it has one (06
R250), and the measured format that comes with a frame of a source on another pair (13 R510). -/
structure SrcFrame where
  frame : Nat
  arrival : Time
  members : List Member
  pic : Pic
  anc : List (Nat × Anc)
  size : Nat := 0
  fmt : Nat := 0
deriving DecidableEq, Repr

/-- The consecutive frames of a source inside and outside the inner window (04 R147): the last frame counted, the two runs with
it, and the two runs before it. -/
structure InCount where
  last : Nat
  ins : Nat
  outs : Nat
  pins : Nat
  pouts : Nat
deriving DecidableEq, Repr

/-- A connection (03 R88, Table 3.1): what it carries and from where, its next cell sequence number, its frame count, the samples of an audio
connection that do not fill a cell yet, the sequence number with which its frame began, and the count and first number of the frame before. -/
structure Conn where
  key : ConnKey
  seq : Nat := 0
  frame : Nat := 0
  part : Nat := 0
  start : Nat := 0
  was : Nat × Nat := (0, 0)
deriving DecidableEq, Repr

/-- A frame of which cells were declared lost on their way to an island (03 R93, R94): its connection, its count modulo 65 536, the instant, the number of
cells, and the places in the frame of those whose sequence numbers tell it. -/
structure LostMark where
  isl : Nat
  key : ConnKey
  frame : Nat
  at_ : Time
  cells : Nat := 1
  idx : List Nat := []
deriving DecidableEq, Repr

/-- A best-effort frame on its way through the crosspoint (03 R120): from and to which cluster, the sequence number of its first cell, how many they are, the ports it
goes to there, the frame, and the instant of its reception. -/
structure BeFly where
  cluster : Nat
  target : Nat
  first : Nat
  cells : Nat
  ports : List Nat
  frame : EthFrame
  at_ : Time
deriving DecidableEq, Repr

/-- What admission and the crosspoint hold: the tiles, the rotation list before its last change with the instant of that, and the tiles out by loss; a drain
and restores that await their instant; CRC failures of a Whorl second by tile, and the tiles past CRC_LIMIT that wait to be drained; the connections
by number; what each cluster books on its two sides; the best-effort and overloaded queues by their number, in thousandths of bits with the instant counted
(R120, R128); the best-effort frames under way and the next cell number of each best-effort connection by 16 times its cluster plus its target; and the frames that
destinations still owe, since data of them are yet to come on the direct path (01 R44; 06 R256). `srcFrames` is the latest frame of each source and
`prevFrames` the one before it; `seqCtr` holds the next sequence number of an egress flow that counts, `seqAt` what it was at the last house frame boundary
(04 R158), `seqCopy` what the last state copy holds (06 Table 6.6); `metered` is the rate and depth of the ingress connections as the last close left them (03 R102,
R105). -/
structure Xp where
  tiles : List TileSt := List.replicate 8 .out
  byLoss : List Nat := []
  drainAt : Option (Nat × Time) := none
  restoreAt : List (Nat × Time) := []
  crcSecond : List (Nat × Nat × Nat) := []
  crcPending : List Nat := []
  rotWas : List Nat × Time := ([], 0)
  conns : List (Nat × Conn) := []
  bookIn : List Nat := []
  bookOut : List Nat := []
  voq : List (Nat × (Nat × Time)) := []
  be : List (Nat × (Nat × Time)) := []
  beFly : List BeFly := []
  beSeq : List (Nat × Nat) := []
  owed : List (Nat × DstSt) := []
  metered : List (ConnKey × Nat × Nat) := []
  waiting : List Waiting := []
  salvoNum : Nat := 1
  salvos : List Salvo := []
  shares : List Share := []
  dst : List (Nat × DstSt) := []
  srcFrames : List (Nat × SrcFrame) := []
  prevFrames : List (Nat × SrcFrame) := []
  counts : List (Nat × InCount) := []
  targets : List (ConnKey × Nat) := []
  lostMarks : List LostMark := []
  seqCtr : List (Nat × Nat) := []
  seqAt : List (Nat × Nat) := []
  seqCopy : List (Nat × Nat) := []
deriving DecidableEq, Repr

/-! ### Serial digital video (05) -/

/-- The structure of a received SDI frame: lines, words per line, fields, frame period in picoseconds. -/
structure SdiStruct where
  lines : Nat
  words : Nat
  fields : Nat
  period : Nat
deriving DecidableEq, Repr

/-- The receive side of a C-lane beside its registers (05 R188 to R191): the rate being tried in HUNT and those still to
try, the rate at which it last ran, the structure of its last frame, the matching frames so far, the payload identifier's
link number, its measured format, the groups silenced, each from a sample on, and the channels with the non-audio bit, and whether its structure changed while it ran and it has not run
since (02 R62); when the lane began to try its present rate. -/
structure RxLane where
  trying : Option Nat := none
  toTry : List Nat := []
  lastRate : Option Nat := none
  last : Option SdiStruct := none
  matches_ : Nat := 0
  link : Nat := 0
  fmt : Nat := 0
  badRate : List (Nat × Nat) := []
  nonAudio : List Nat := []
  changed : Bool := false
  tryAt : Time := 0
deriving DecidableEq, Repr

/-- What the SDI framers hold: the lanes, the assignment of the lanes of received groups, and the lanes of a group, by place, whose assignment
changed in the frame that arrived at an instant (05 R185). -/
structure Sdi where
  rx : List (Nat × RxLane) := []
  assign : List (Nat × List Nat) := []
  moved : List (Nat × Time × List Nat) := []
deriving DecidableEq, Repr

/-! ### Ethernet (07) -/

/-- A port beside its registers (07 R275 to R290): the instant it entered LOCK, for each best-effort queue the end of its pause
and since when it has been paused without a break, when a non-zero pause frame last named it, the frames waiting in it with
their arrival, the bits of the control bucket in hundredths with the instant they were counted, and the counters whose HALF bit was cleared since they passed half
range (R293). -/
structure EthPort where
  lockAt : Time := 0
  pauseEnd : List (Nat × Time) := []
  pauseFrom : List (Nat × Time) := []
  lastPause : List (Nat × Time) := []
  queues : List (Nat × List (Time × Nat)) := []
  tokens : Nat := 52428800
  tokensAt : Time := 0
  halfSeen : List Nat := []
deriving DecidableEq, Repr

/-! ### IP media flows (06) -/

/-- A flow-table entry (06 R222, R223, R226): its key, what it stands for, its sub-table (2 the stash) and bucket, the order of its
placement, and whether it matches yet. -/
structure FEntry where
  key : FKey
  what : FWhat
  sub : Nat
  bucket : Nat
  age : Nat
  on : Bool
deriving DecidableEq, Repr

/-- An ingress leg (06 R218, R226 to R233): its key, sender address and SSM, its owner (source address and SSRC), the elapsed times
of its owner's last packet and of its last packet delivered, whether it is down, and the values that a FLOW_SET gives it. -/
structure InLeg where
  key : FKey
  saddr : Nat
  ssm : Bool
  owner : Option (Nat × Nat) := none
  ownerAt : Nat := 0
  lastRx : Nat := 0
  down : Bool := false
  next : Option (FKey × Nat × Bool) := none
deriving DecidableEq, Repr

/-- A frame of a flow in assembly (06 R235, R237): its first and last sequence number, whether it began with its first packet,
whether it has a hole or a format error, its highest line and bytes per line, the checks that failed in it, its place in the ring and its
frame count by source, the payload bytes of its packets, and what its last packet brought. `start` says that it began with its first packet, `marked` that its
packet with the marker bit has come. -/
structure FlowFrame where
  first : Nat
  start : Bool := true
  marked : Bool := false
  last : Option Nat := none
  ts : Nat
  whole : Bool
  malformed : Bool := false
  line : Nat := 0
  lineBytes : Nat := 0
  checks : Nat := 0
  inWin : Bool := false
  slots : List (Nat × Nat) := []
  nums : List (Nat × Nat) := []
  bytes : Nat := 0
  meas : Option Meas := none
  period : Nat := 0
  crc : Nat := 0
  luma : List Nat := []
deriving DecidableEq, Repr

/-- An ingress flow (06): its legs, whether every leg is placed, whether it is joined, the merge (the highest number seen, the
numbers awaited as runs with their deadline, the holes among the last 1024, and the arrivals of the last 1024 with their leg), its
frames, the checks seen in the running frame, the FLOW_CHECK event last sent, and the changes that await a house frame boundary. -/
structure InFlow where
  legs : List InLeg := []
  bound : Bool := true
  joined : Bool := false
  high : Option Nat := none
  awaited : List (Nat × Nat × Option Time) := []
  holes : List (Nat × Nat) := []
  arr : List (Nat × Nat × Time) := []
  frames : List FlowFrame := []
  lastEnd : Option Nat := none
  checks : Nat := 0
  shown : Nat := 0
  shownAt : Option Nat := none
  setAt : Option Time := none
  relAt : Option (Nat × Time) := none
  adopt : List (Nat × Option (Nat × Nat) × Time) := []
deriving DecidableEq, Repr

/-- What the port clusters hold of IP flows: the pair's flow-table key by number, the tables by cluster, the number of placements,
the ingress flows, the membership reports to repeat (port, elapsed time, report), the elapsed time and version of the last older
querier of a port (key 2 × port, plus 1 for MLD), and the meters of connections in hundredths of bits with the instant counted. -/
structure Ip where
  hashKey : Nat := 0
  tables : List (Nat × List FEntry) := []
  placed : Nat := 0
  flows : List (Nat × InFlow) := []
  repeats : List (Nat × Nat × EthOut) := []
  older : List (Nat × Nat × Nat) := []
  meters : List (ConnKey × Nat × Time) := []
deriving DecidableEq, Repr

/-! ### The Whorl (12) -/

/-- The data of an Announce message that a port holds (12 R464): the grandmaster's priority 1, class, accuracy, variance, priority
2 and identity, the steps removed, the sender, the UTC offset and the leap flags. -/
structure Ann where
  prio1 : Nat
  cls : Nat
  acc : Nat
  var : Nat
  prio2 : Nat
  gmId : Nat
  steps : Nat
  source : Nat
  utc : Nat
  utcValid : Bool
  leap59 : Bool
  leap61 : Bool
deriving DecidableEq, Repr

/-- The states of a PTP port that the model keeps apart (12 R464). -/
inductive PtpState where
  | listening | master | slave | passive
deriving DecidableEq, Repr

/-- A port of a PTP instance: its state, the Announce data it holds and the elapsed time of its last Announce, the last Sync (its sequence and corrected stamp) that awaits
its Follow_Up, the last master-to-slave difference, and the last Delay_Req sent (its sequence and stamp); then the sequences of its next Sync and Announce. -/
structure PtpPort where
  port : Nat
  state : PtpState := .listening
  best : Option Ann := none
  heard : Nat := 0
  sync : Option (Nat × Int) := none
  ms : Option Int := none
  req : Option (Nat × Int) := none
  reqSeq : Nat := 0
  syncSeq : Nat := 0
  annSeq : Nat := 0
deriving DecidableEq, Repr

/-- A PTP instance: its ports, its filtered offset from the master, its path delay, and its last four offsets. -/
structure PtpInst where
  ports : List PtpPort := []
  offset : Int := 0
  delay : Int := 0
  last : List Int := []
deriving DecidableEq, Repr

/-- What the Whorl holds (12). Phases and offsets are in nanoseconds, frequencies and the NCO word in parts per trillion, spans in
elapsed nanoseconds. `hist` is the NCO words written in LOCKED with the elapsed time of each, `floor` the instant before which no
cycle ends after a step (R477), `pulseBase` for each running pulse output the instant its run began and the first instant whose edges are uncounted,
`seen` the elapsed time of the last edge or message of each reference. -/
structure Whl where
  ready : Bool := false
  selected : Option Nat := none
  forced : Option Nat := none
  phi : List (Nat × Int) := []
  freq : List (Nat × Int) := []
  held : Int := 0
  w : Int := 0
  everLocked : Bool := false
  holdSince : Nat := 0
  lockFrom : Option Nat := none
  outFrom : Option Nat := none
  hist : List (Nat × Int) := []
  lockedAt : Nat := 0
  qualSince : List (Nat × Nat) := []
  inst0 : PtpInst := {}
  inst1 : PtpInst := {}
  pendRef : Option (Option Nat × Time) := none
  pendHeld : Option (Int × Time) := none
  step : Option (Time × Int × Bool) := none
  floor : Time := 0
  quietUntil : Time := 0
  utc : Option Nat := none
  leap59 : Bool := false
  leap61 : Bool := false
  twinOffset : Option Int := none
  twinOver : Option Nat := none
  twinHeld : Int := 0
  twinRef : Option Nat := none
  startAt : Nat := 0
  pulseBase : List (Nat × Time × Time) := []
  seen : List (Nat × Nat) := []
deriving DecidableEq, Repr

/-- What the always-on domain holds of time (17 R644): the count of its real-time counter in nanoseconds of TAI and the elapsed
time at which it had that count; none where its check fails. -/
structure Rtc where
  count : Time
  at_ : Nat
deriving DecidableEq, Repr

/-! ### The Spindle's processor side and the temperature sensors (22, 23) -/

/-- A DMA channel beside its registers (22 R767 to R773): the descriptor it runs (its 32 bytes), its holding register of at most 256 bytes, the
bytes that its events have let it move, the chain events that wait for it, and the interrupts that it raised. -/
structure Dma where
  cur : List Byte := []
  hold : List Byte := []
  till : Nat := 0
  chainDue : Nat := 0
  irq : Nat := 0
deriving DecidableEq, Repr

/-- What the Spindle holds besides: its SRAM by offset, the DMA
channels, the spans above 105 °C and at 120 °C or more, the sensors that failed, and the islands whose reset was running when SPN was reset, which RST.NOW
no longer shows (22 R782). -/
structure Spn where
  sram : List Host.Cell := []
  dma : List (Nat × Dma) := []
  hot : Option Nat := none
  trip : Option Nat := none
  failed : List Nat := []
  blind : List Nat := []
deriving DecidableEq, Repr

/-! ### Identity, keys and the always-on domain (17) -/

/-- A key slot (17 R620 to R622, R630): its state (0 EMPTY, 1 LOADED, 2 UNUSABLE), USE, ORIGIN, KIND and generation count; the number
of the key-encryption key under which its blob is wrapped; its key by number; and as a wrapper the consecutive imports whose tag
failed and the elapsed time until which imports under it are refused. -/
structure KSlot where
  state : Nat := 0
  use : Nat := 0
  origin : Nat := 0
  kind : Nat := 0
  gen : Nat := 0
  blob : Nat := 0
  key : Nat := 0
  fails : Nat := 0
  until_ : Nat := 0
deriving DecidableEq, Repr

/-- What KEY, its OTP and AON hold (17): the life-cycle state with the OTP records left, the steps of the rollback counter, the battery
half by number (none while it is zeroed), the key-encryption key by the number of the battery half it comes from, how many battery
halves were drawn, whether the random generator passes its tests and the identity certificate matched, the slots, whether KEY
is being reset, and the tamper time in seconds. -/
structure Keys where
  life : Nat := 1
  left : Nat := 63
  rbSteps : Nat := 0
  battery : Option Nat := none
  kek : Option Nat := none
  drawn : Nat := 0
  rngOk : Bool := false
  idValid : Bool := false
  slots : List (Nat × KSlot) := []
  resetting : Bool := false
  ttime : Nat := 0
deriving DecidableEq, Repr

/-! ### The doubled pair (14) -/

/-- A copy that awaits its twin's confirmation (14 R535, R150): its close, its items, the replies of class C it holds back and
how often it was sent. -/
structure HeldCopy where
  close : Time
  effs : List Eff
  replies : List Reply
  tries : Nat := 1
deriving DecidableEq, Repr

/-- What DBL and the Spindle hold of the pair. -/
structure Dbl where
  role : Role := .off
  twinRole : Nat := 7
  twinF3 : Bool := false
  tieIn : Tie := .none
  tieOut : Tie := .none
  side : Bool := false
  lanes : Nat := 0
  linkUp : Bool := false
  swapPend : Option Time := none
  restart : Option (Nat × Time) := none
  yieldPend : Bool := false
  settleEnd : Option Time := none
  deferred : Option HeldCopy := none
  held : Option HeldCopy := none
  replies : List Reply := []
  catchup : Nat := 0
  snapped : Bool := false
  queued : List (List Eff × Bool) := []
  copyFails : Nat := 0
  snapDue : Bool := false
  yields : List Nat := []
  heldOut : Bool := false
  handoffUntil : Option Nat := none
  arpsSent : Nat := 0
  quietAfter : Option Time := none
  dualFrom : Option Nat := none
  startWait : Option Nat := none
  twinImage : List (Nat × Nat) := []
  stepBase : Nat := 0
  lastClose : Time := 0
  caughtUp : Bool := false
  twinHeldOut : Bool := false
  claimAt : Nat := 0
  rejoinAsked : Bool := false
  seq : Nat := 0
  linkKey : Option Nat := none
  bulks : List (Nat × Reply) := []
  newHolder : Bool := false
  building : List Eff := []
deriving DecidableEq, Repr

/-! ### Bobbins (08) -/

/-- A slot of a FRAME_SYNC ring (08 R305 to R308): the number of the source frame written into it, its arrival instant, its
members that are not whole, whether a cell of it read as lost, its picture, its ancillary packets with the member that brought each, and the count of the frame
in its connections. A slot listed has its valid mark. -/
structure Slot where
  frame : Nat
  arrival : Time
  under : List Nat
  lost : Bool
  pic : Pic
  anc : List (Nat × Anc)
  size : Nat := 0
  count : Nat := 0
deriving DecidableEq, Repr

/-- A read connection of a ring (08 R308, R309): its delay in frames and lines, its hysteresis offset in units of H (−1, 0 or 1),
the frame it selected for the previous destination frame, the destination frame for which it selected last, and whether that
selection repeated a frame. -/
structure ReadConn where
  frames : Nat
  lines : Nat
  h : Int := 0
  prev : Option Nat := none
  at_ : Option Nat := none
  again : Bool := false
deriving DecidableEq, Repr

/-- A FRAME_SYNC bobbin (08 R305): its slots, newest last, and its read connections. -/
structure Ring where
  count : Nat
  next : Nat := 1
  slots : List Slot := []
  reads : List ReadConn := []
  written : Bool := true
deriving DecidableEq, Repr

/-- The two banks of a still or a graphics plane (08 R315 to R317): the shown bank, whether each bank carries the valid mark,
whether the hidden bank was written since the last flip, a fence with the instant at which it flips, once known, and the banks of which a cell was lost
(R324). -/
structure Banks where
  shown : Nat := 0
  valid0 : Bool := false
  valid1 : Bool := false
  dirty : Bool := false
  fence : Bool := false
  flipAt : Option Time := none
  fromImage : Bool := false
  readAt : List (Nat × Nat) := []
  spoilt : List Nat := []
deriving DecidableEq, Repr

/-- A bobbin (08 R299 to R301): its kind as SPN.BOB.DESC shows it (0 FRAME_SYNC, 1 STILL, 2 WINDOW, 3 GRAPHICS, 4 SAFETY, 5
AUDIO_LINE, 6 CONTROL), its owner, which of its owner's it is (1 for a matched AUDIO_LINE, a window's second buffer and plane 1), its extents as runs (the first and how
many; R299), and its
packing. -/
structure Bobbin where
  kind : Nat
  owner : Nat
  ext : List (Nat × Nat)
  sub : Nat := 0
  pack : Bool := false
deriving DecidableEq, Repr

/-- What the chip holds of its bobbins, by descriptor number. Banks of stills have the key of the still number, banks of planes 256 + 2h + p; the
bytes of bank b of key k are under key 2k + b, and those of the safety layer of head h under 1024 + h. `hyst` holds the twin's h by the boundary from which they
hold, the source and the delay (R311). -/
structure Bob where
  bobs : List (Nat × Bobbin) := []
  rings : List (Nat × Ring) := []
  hyst : List (Time × Nat × Nat × Nat × Int) := []
  banks : List (Nat × Banks) := []
  bytes : List (Nat × List Host.Cell) := []
  gone : List Nat := []
deriving DecidableEq, Repr

/-! ### Probes, GPIO and the evacuation override (21) -/

/-- A video probe beside its registers (21 R734): the samples of the last measured frame, the consecutive dark frames and the
consecutive still frames. -/
structure VProbe where
  last : List Nat := []
  dark : Nat := 0
  still : Nat := 0
deriving DecidableEq, Repr

/-- The states of the override machine (21 R743). -/
inductive EvacSt where
  | normal | discrepant | asserted | holding | clearable
deriving DecidableEq, Repr

/-- What the probes, pins and the override hold: probes; GPI pins with the candidate level and the consecutive samples that
show it; the override machine with its count, its DISC latch and its s; the twin's last report (state code, DISC, s), whether
it is only held since the link was lost; and the boundary at which an admitted EVAC_CLEAR takes effect. -/
structure Probe where
  vp : List (Nat × VProbe) := []
  gpi : List (Nat × (Bool × Nat)) := []
  evac : EvacSt := .normal
  count : Nat := 0
  disc : Bool := false
  s : Option Time := none
  twin : Option (Nat × Bool × Time) := none
  twinHeld : Bool := false
  clearAt : Option (Time × Nat) := none
deriving DecidableEq, Repr

/-! ### External memory (09) -/

/-- A bank of a device (09 R341): its predictor of row hits, the row of its last row-run, whether that was kept open, and the elapsed time of its last
request. -/
structure RowBank where
  ctr : Nat := 1
  row : Option Nat := none
  kept : Bool := false
  at_ : Nat := 0
deriving DecidableEq, Repr

/-- Bytes of one data row, by bobbin address from the start of the space, that a stream gathers or that wait to be written (09 R339, R343). -/
structure Gather where
  row : Nat
  cells : List (Nat × Byte)
deriving DecidableEq, Repr

/-- What the DRAM groups and the Spindle hold of the memory: the activation tables (channel, bank, row, count; 09 R346), the change of
frequency point that awaits its instant (the point, the instant, and for a change up the boundary by which it must be done; R351, R352),
the elapsed time since which the bookings have stayed low enough for FP1 and for FP2, the number of the interleave key (R337), the bytes that the
control plane wrote by bobbin address and the code of each burst written (31 times its data row plus its burst; R331 to R333), the banks (16 times the
channel plus the bank; R341), the gather buffers by stream, the writes that wait in order (R342, R343), the elapsed time until which a change of point
pauses the devices (R353), the data row that each stream fetched last (R339), and what the channels counted (8 times the channel plus the count) since their registers were read; `deferred` tells that
the change of point that waits was counted as deferred (Table 9.7). -/
structure Dram where
  act : List (Nat × Nat × Nat × Nat) := []
  change : Option (Nat × Time × Option Time) := none
  low1 : Option Nat := none
  low2 : Option Nat := none
  key : Nat := 0
  data : List Host.Cell := []
  ecc : List (Nat × Nat) := []
  banks : List (Nat × RowBank) := []
  gather : List (Nat × Gather) := []
  fetched : List (Nat × Nat) := []
  queue : List Gather := []
  pause : Nat := 0
  counts : List (Nat × Nat) := []
  deferred : Bool := false
deriving DecidableEq, Repr

/-! ### The audio engine (10) -/

/-- An input channel (10 R370 to R374): its samples placed at counts, each with its non-audio bit; the samples by count while a slip crosses (R372), with
those that the new alignment drops; its last good sample, the consecutive missing samples and whether a gap of 48 is still to be counted (R371), a ramp to zero
(`false`) or from zero (`true`) with the samples done, whether it is down at zero, its non-audio bit, its runs of zero samples and of samples
below the silence level, its last 64 samples and their non-audio bits, newest first, and the last count at which it had no sample (02 R66). -/
structure InCh where
  placed : List (Nat × Int × Bool) := []
  trail : List (Nat × Int) := []
  gap : Bool := false
  last : Int := 0
  miss : Nat := 0
  ramp : Option (Bool × Nat) := none
  down : Bool := true
  non : Bool := false
  zeros : Nat := 0
  quiet : Nat := 0
  hist : List Int := []
  nons : List Bool := []
  missAt : Option Nat := none
deriving DecidableEq, Repr

/-- A pending copy of an output channel (10 R389): selection, gain, the instant from which it may flip, the place in the single order of the
request that wrote it last (02 R76), and whether it was loaded after its instant (R391). -/
structure APend where
  sel : Option Nat
  gain : Option Nat
  due : Time
  order : Nat
  late : Bool := false
deriving DecidableEq, Repr

/-- An output channel (10 R381 to R388, R401 to R403): its selection and gain, the place in the single order of a channel route that set the selection (0
where a take did, 02 R76), its pending copy, a crossfade from an outgoing input with its read offset and the count at which it began, a gain ramp from an old
gain with the count at which it began, a ramp to fill (`false`) or back (`true`) with the count at which it began (R388), the read offset of a matched slot (R383) and whether the slot repeats for its own
underrun (02 R68), its override crossing (`true` in, `false` out) with the samples done, whether the announcement holds it, its runs as for inputs, its
last 256 samples by count, newest first, and its non-audio bit. -/
structure OutCh where
  sel : Nat := 0xF0000000
  gain : Nat := 0
  order : Nat := 0
  pend : Option APend := none
  fade : Option (Nat × Option Int × Nat) := none
  gfade : Option (Nat × Nat) := none
  fill : Option (Bool × Nat) := none
  matched : Option Int := none
  held : Bool := false
  slip : Option (Int × Nat) := none
  cross : Option (Bool × Nat) := none
  evac : Bool := false
  zeros : Nat := 0
  quiet : Nat := 0
  last : Int := 0
  hist : List Int := []
  non : Bool := false
deriving DecidableEq, Repr

/-- A mix-minus bus (10 R375 to R380): `runs` holds, for each position, the consecutive samples, to 4800, at which its member carried 0 or was muted
(R379). -/
structure ABus where
  low : Bool := false
  gain : Nat := 0
  members : List (Nat × Nat) := []
  runs : List Nat := []
  pend : Option (Nat × List (Nat × Nat) × Time) := none
  idle : Bool := false
deriving DecidableEq, Repr

/-- An engine delay line (10 R392, R393): its length, a change with its instant, the samples of each of its channels, newest first, and a
ramp: an increase carries zeros (the samples still to come), a decrease crosses from the old length. `full` tells that it has been written through once (08
R302), `non` the changes of each channel's non-audio bit at the line's input, newest first (08 R320). -/
structure ALine where
  len : Nat
  pend : Option (Nat × Time) := none
  hist : List (Nat × List Int) := []
  full : Bool := false
  non : List (Nat × List (Nat × Bool)) := []
  zeros : Nat := 0
  rampIn : Option Nat := none
  cross : Option (Nat × Nat) := none
deriving DecidableEq, Repr

/-- The matched line of a source (08 R321): its length and the samples of its slots, newest first; `full` and `non` as in `ALine`. -/
structure MLine where
  len : Nat
  hist : List (Nat × List Int) := []
  full : Bool := false
  non : List (Nat × List (Nat × Bool)) := []
deriving DecidableEq, Repr

/-- A TDM port (10 Table 10.6): its state, the elapsed time it entered that, the frames sent in it, and the instant of its last FS edge, which began the
running frame (R373). -/
structure Tdm where
  state : Nat := 0
  since : Nat := 0
  up : Nat := 0
  edge : Time := 0
deriving DecidableEq, Repr

/-- What the audio engine holds: whether it serves; the count of the next tick; its channels by number, buses, delay lines, matched lines
by source and TDM ports; the offset Δ of each SDI source (R372) with a slip's crossfade; the samples of sources on other chips by address;
and the largest magnitudes for the meters since the last head frame, by head and meter. -/
structure Aud where
  on : Bool := false
  count : Nat := 0
  ins : List (Nat × InCh) := []
  outs : List (Nat × OutCh) := []
  buses : List (Nat × ABus) := []
  lines : List (Nat × ALine) := []
  matched : List (Nat × MLine) := []
  tdm : List (Nat × Tdm) := []
  delta : List (Nat × Int) := []
  slipped : List (Nat × Int × Nat) := []
  far : List (Nat × InCh) := []
  meters : List (Nat × Nat) := []
  fadeUp : Option Nat := none
deriving DecidableEq, Repr

/-! ### The multiviewer (11) -/

/-- The buffer of a window (11 R419, R420): its source, crop (X, Y, W, H) and size, its engine, the frames written into it with their
nominal instants and a CRC of their content, oldest first, the number of its next frame, and which of the window's two places for buffers it takes. -/
structure WinBuf where
  src : Nat
  crop : Nat × Nat × Nat × Nat
  w : Nat
  h : Nat
  engine : Option Nat
  frames : List (Nat × Time × Nat) := []
  next : Nat := 1
  slot : Nat := 0
deriving DecidableEq, Repr

/-- A window (11 R413 to R423): its depth and place, its buffer, the instant from which it is there, the frame it selected last, the head
frames without a new one, NO_SIGNAL, a change of place with its instant, a new buffer with place, depth, instant and head frames waited, and
the instant of its removal. -/
structure Win where
  z : Nat
  x : Nat
  y : Nat
  buf : WinBuf
  from_ : Time
  shown : Option Nat := none
  gap : Nat := 0
  noSignal : Bool := false
  move : Option (Nat × Nat × Nat × Time) := none
  change : Option (WinBuf × (Nat × Nat × Nat) × Time × Nat) := none
  ends : Option Time := none
deriving DecidableEq, Repr

/-- A head (11 R408 to R410, R427, R430): whether it composes and from when, its ORDER with a new one and its instant, whether the
override's safety layer is raised, its last frame with its picture, and the levels of each meter in the last HOLD seconds, newest first: a
magnitude and the head frames since it governs the bar. -/
structure Head where
  on : Bool := false
  from_ : Time := 0
  order : Nat := 0xE4
  orderPend : Option (Nat × Time) := none
  safety : Bool := false
  lastFrame : Option Nat := none
  pic : Pic := .fill
  bars : List (Nat × List (Nat × Nat)) := []
deriving DecidableEq, Repr

/-- What the multiviewer holds: windows by number 64h + k, and heads. -/
structure Mv where
  wins : List (Nat × Win) := []
  heads : List (Nat × Head) := []
deriving DecidableEq, Repr


/-! ### Strands (13) -/

/-- A Strand beside its registers (13 R488 to R493): the units sent in each channel and the freed counts last received, the units received in
each channel, the elapsed time of the last unit, the elapsed times of the HCRC failures of the last millisecond,
the elapsed times since which it and its mirror have been out of SERVING, the units of each channel that wait, the units sent since a CONTROL unit last
went ahead of a MEDIA unit, to nine (R495), and the elapsed time up to which its unit times are used. `sentC` counts what was handed to the channel. -/
structure Strand where
  sentM : Nat := 0
  sentC : Nat := 0
  freedM : Nat := 0
  freedC : Nat := 0
  nextM : Nat := 0
  nextC : Nat := 0
  lastRx : Nat := 0
  bad : List Nat := []
  downAt : Option Nat := none
  mirrorDownAt : Option Nat := none
  waitM : Nat := 0
  waitC : Nat := 0
  turn : Nat := 9
  runAt : Nat := 0
deriving DecidableEq, Repr

/-- A message that is sent again until it is acknowledged or its close has passed (13 R516), with the count of the CONTROL units sent on its
Strand up to its last fragment. -/
structure SkSend where
  port : Nat
  msg : SkMsg
  last : Nat
deriving DecidableEq, Repr

/-- What the Spindle and the port clusters hold of the Skein: the Strands by first lane; the maps of the own plane and of the twin's, by chip;
the MSG_IDs of the last 2 s with their elapsed time; the message count; the routes; the messages being repeated; the decisions received
since the last close; the Strands of which a mirror has been down for MIRROR_HOLD; and the last frame sent of a source's level by a Strand. -/
structure Skn where
  strands : List (Nat × Strand) := []
  map : List (Nat × List Link) := []
  twinMap : List (Nat × List Link) := []
  seen : List (Nat × Nat) := []
  count : Nat := 0
  routes : List SRoute := []
  sends : List SkSend := []
  decisions : List (Nat × Nat × Bool) := []
  expired : List Nat := []
  farCond : Bool := false
  halfAt : List ((Nat × Nat) × Nat) := []
  sent : List ((Nat × Nat × Level × Nat) × Nat) := []
deriving DecidableEq, Repr

/-! ### The whole state -/

/-- A message, frame or signal that leaves the chip. A SiCP message or DTLS record leaves inside `msg`, which names its port (07 R286). The list `out` of the state is the record of them, oldest first. -/
inductive Out where
  | msg (port : Nat) (m : Out)
  | reply (r : Reply) (seq : Nat) (peer : Nat × Nat) (bytes : List Byte)
  | event (sess sub gap : Nat) (evs : List Event) (bytes : List Byte)
  | dtlsAlert (peer : Nat × Nat) (alert : Nat)
  | dtlsRetry (peer : Nat × Nat) (cookie : Nat)
  | dtlsDone (peer : Nat × Nat) (sess : Nat)
  | dtlsClose (sess : Nat)
  | dbl (typ role seq : Nat) (close : Nat) (body : List Nat)
  | dblCopy (close : Nat) (copy : List Eff)
  | dblEvent (e : Event)
  | dblSnap (close : Nat) (snap : List Eff)
  | dblSwap (reqs : List SwapReq) (seqs : List (Nat × Nat))
  | eth (port mac : Nat) (vid : Option Nat) (f : EthOut)
  | line (port : Nat) (l : LineOut)
  | frame (dest n : Nat) (pic : Pic) (lanes : List LaneOut) (groups : List GroupOut) (quiet : List Nat) (anc : List AncOut)
  | embed (dest frame count : Nat) (slots : List (List Int))
  | rtp (flow leg : Nat) (head : LegHead) (first packets stamp : Nat) (marker : Bool) (load : RtpLoad)
      (leaves : Option Time)
  | word (addr value : Nat)
  | tdm (port : Nat) (samples : List Int)
  | hello (port : Nat) (body : List Byte)
  | echo (port : Nat) (body : List Byte)
  | credit (port : Nat) (header : List Byte)
  | linkState (port id chip : Nat) (links : List Link)
  | planeMap (chip : Nat) (links : List Link)
  | skein (port : Nat) (m : SkMsg)
  | media (port cells : Nat) (f : FarFrame)
  | mediaSlots (port src slot : Nat) (samples : List Int)
  | handOver (m : SkMsg)
  | claim (port pair : Nat)
  | handClaim (port pair : Nat)
deriving DecidableEq, Repr

/-- The whole state of the block. -/
structure State where
  now : Time := 0
  up : Nat := 0
  free : Nat := 0
  pending : List Instr := []
  regs : List (Nat × Word) := []
  wide : List (Nat × Nat) := []
  out : List Out := []
  boot : Boot := {}
  flt : Flt := {}
  sicp : Sicp := {}
  xp : Xp := {}
  sdi : Sdi := {}
  dbl : Dbl := {}
  bob : Bob := {}
  dram : Dram := {}
  aud : Aud := {}
  mv : Mv := {}
  probe : Probe := {}
  eth : List (Nat × EthPort) := []
  ip : Ip := {}
  whl : Whl := {}
  keys : Keys := {}
  spn : Spn := {}
  skn : Skn := {}
  rtc : Option Rtc := none
deriving DecidableEq, Repr

/-- The block right after reset. -/
def State.reset : State := {}

end Sys2Proof.Machine
end

