-- ==== Sys2Proof/Machine/Ops.lean ====
section
/-! DEFINITION. The named operations that the meanings share: the clock, the register file, byte memory, the image's records,
instants of the frame rates, numbers the chip chooses, and the messages it sends. -/

namespace Sys2Proof.Machine

/-! ### Time -/

/-- The command's time stamp becomes the present (01 R27); elapsed time grows by the same span. -/
def State.at_ (s : State) (t : Time) : State := { s with now := t, up := s.up + (t - s.now) }

/-- Nanoseconds in a millisecond. -/
def ms : Nat := 1000000

/-- Nanoseconds in a second. -/
def sec : Nat := 1000000000

/-- The Whorl second of an instant. -/
def State.second (s : State) : Nat := s.now / sec

/-- The exact frame rate of a rate code, in frames per `den` seconds (02 Table 2.3); reserved codes give 0. -/
def rateNum : Nat → Nat
  | 0 => 24000 | 1 => 24 | 2 => 25 | 3 => 30000 | 4 => 30 | 5 => 48000 | 6 => 48 | 7 => 50 | 8 => 60000 | 9 => 60
  | 10 => 100 | 11 => 120000 | 12 => 120 | _ => 0

/-- The denominator of the exact frame rate of a rate code (02 Table 2.3). -/
def rateDen : Nat → Nat
  | 0 => 1001 | 3 => 1001 | 5 => 1001 | 8 => 1001 | 11 => 1001 | _ => 1

/-- The alignment point of frame `n` at a rate, at the first whole nanosecond at or after its exact instant (02 R63, R808). -/
def alignPoint (rate n : Nat) : Time := ceilDiv (n * rateDen rate * sec) (rateNum rate)

/-- The least frame count whose alignment point is at or after `t` (02 R82). -/
def frameFrom (rate : Nat) (t : Time) : Nat :=
  if t = 0 then 0 else (t - 1) * rateNum rate / (rateDen rate * sec) + 1

/-- The first frame boundary of a rate at or after `t`. -/
def boundaryFrom (rate : Nat) (t : Time) : Time := alignPoint rate (frameFrom rate t)

/-! ### The register file -/

/-- The word that the register file holds at an address; a word not listed holds its reset value (00 R16). -/
def State.word (s : State) (a : Nat) : Nat :=
  match look a s.regs with
  | some w => w.toNat
  | none => resetWord a

/-- The one form of the register file: its addresses rise, and no word listed is at its reset value. -/
def canonical (l : List (Nat × Word)) : Bool := rising l && l.all (fun r => r.2.toNat ≠ resetWord r.1)

/-- Set the word at an address, keeping the register file in its one form: no word equal to its reset value is listed. -/
def State.setWord (s : State) (a v : Nat) : State :=
  { s with regs := if v % 2 ^ 32 = resetWord a then drop a s.regs else put a (BitVec.ofNat 32 v) s.regs }

/-- The value of a field. -/
def State.get (s : State) (f : Fld) : Nat := bits (s.word f.addr) f.hi f.lo

/-- The access code of the bits of a field; none for reserved bits (00 R16, R17). -/
def accessOf (f : Fld) : Option Access := ((rowsAt f.addr).find? (fun r => r.lo ≤ f.lo && f.hi ≤ r.hi)).map (·.acc)

/-- Set a field. -/
def State.set (s : State) (f : Fld) (v : Nat) : State := s.setWord f.addr (placeBits (s.word f.addr) f.lo f.width v)

/-- Is a one-bit field set? -/
def State.has (s : State) (f : Fld) : Bool := s.get f = 1

/-- Count `n` in a counter field, modulo its width (log entry 4). -/
def State.bump (s : State) (f : Fld) (n : Nat) : State := if n = 0 then s else s.set f (s.get f + n)

/-- Raise a peak field to `v` when `v` is higher, held at the field's largest value. -/
def State.peak (s : State) (f : Fld) (v : Nat) : State := if s.get f < v then s.set f (min v (2 ^ f.width - 1)) else s

/-- The value of a 64-bit counter, by the field of its low word (03, 07 R293). -/
def State.ctr (s : State) (f : Fld) : Nat := lookD f.addr s.wide 0

/-- Count in a 64-bit counter. -/
def State.bump64 (s : State) (f : Fld) (n : Nat) : State :=
  if n = 0 then s else { s with wide := put f.addr ((s.ctr f + n) % 2 ^ 64) s.wide }

/-- The registers of an island take their reset values (22 R780). -/
def State.clearWindow (s : State) (isl : Nat) : State :=
  let lo := 0x4000000000 + isl * 0x100000
  let out (a : Nat) : Bool := a < lo || lo + 0x100000 ≤ a
  { s with regs := s.regs.filter (fun r => out r.1), wide := s.wide.filter (fun r => out r.1) }

/-! ### Byte memory -/

/-- What a byte that nothing has written reads as (log entry 3). -/
def blank : Byte := 0

/-- The byte at an address of a memory. -/
def memByte (m : List Host.Cell) (a : Nat) : Byte := lookD a m blank

/-- Write one byte, keeping the memory in its one form: no byte equal to `blank` is listed. -/
def memPut (m : List Host.Cell) (a : Nat) (b : Byte) : List Host.Cell := if b = blank then drop a m else put a b m

/-- Write bytes at rising addresses. -/
def memWrite (m : List Host.Cell) (a : Nat) : List Byte → List Host.Cell
  | [] => m
  | b :: v => memWrite (memPut m a b) (a + 1) v

/-- Read `n` bytes at rising addresses. -/
def memRead (m : List Host.Cell) (a n : Nat) : List Byte := (List.range n).map (fun i => memByte m (a + i))

/-- The one form of a memory: addresses strictly rising, no byte equal to `blank` listed. -/
def Memory.wf (m : List Host.Cell) : Bool := rising m && m.all (fun c => c.2 ≠ blank)

/-! ### Numbers that the chip chooses -/

/-- A free value: a number that the spec does not fix (log entry 2). -/
def State.fresh (s : State) : Nat × State := (Config.freeNat s.free, { s with free := s.free + 1 })

/-- A number below `2 ^ n`, at least 1, that is not among `used`: a free value where that is possible, otherwise the first
unused number after it (log entry 2). -/
def State.freshNot (s : State) (n : Nat) (used : List Nat) : Nat × State :=
  let v := Config.freeNat s.free % 2 ^ n
  (firstFree used (max v 1) (used.length + 1), { s with free := s.free + 1 })

/-! ### Messages -/

/-- Send something: it joins the record of what left the chip. -/
def State.emit (s : State) (o : Out) : State := { s with out := s.out ++ [o] }

/-! ### The running image -/

/-- The records of a type, in image order (18 R666). -/
def State.recs (s : State) (typ : Nat) : List Rec := s.boot.recs.filter (fun r => r.typ = typ)

/-- The value of the first record of a type; empty where there is none, so that every field of it reads 0. -/
def State.rec1 (s : State) (typ : Nat) : List Byte := (((s.recs typ).head?).map (·.val)).getD []

/-- The value of the record of a type whose `n`-byte key at offset `o` is `k`. -/
def State.recOf (s : State) (typ o n k : Nat) : Option (List Byte) :=
  ((s.recs typ).find? (fun r => leAt r.val o n = k)).map (·.val)

/-- A field's value, or the default that 0 selects. -/
def orDef (v d : Nat) : Nat := if v = 0 then d else v

/-- HOUSE.RATE (02 Table 2.9; R85: without a record, 50 Hz). -/
def State.houseRate (s : State) : Nat := match s.recs 0x0100 with
  | [] => 7
  | r :: _ => byteAt r.val 0

/-- HOUSE.LEAD in milliseconds (02 R80, Table 2.9). -/
def State.lead (s : State) : Nat := orDef (byteAt (s.rec1 0x0100) 1) 2

/-- The first house frame boundary at or after `t` (02 R79). -/
def State.houseFrom (s : State) (t : Time) : Time := boundaryFrom s.houseRate t

/-- The house frame boundary that ends the cycle to which an instant belongs: the first whose close, LEAD before it, is later
than the instant (02 R80, R81). After a step of Whorl time the first cycle ends no earlier than R477 gives (12). -/
def State.cycleEnd (s : State) (t : Time) : Time := s.houseFrom (max (t + s.lead * ms + 1) s.whl.floor)

/-- The house frame boundary `n` cycles after the boundary `b`. -/
def State.houseAfter (s : State) (b : Time) (n : Nat) : Time := alignPoint s.houseRate (frameFrom s.houseRate b + n)

/-- The close of the cycle that ends at boundary `b` (02 R80). -/
def State.closeOf (s : State) (b : Time) : Time := b - s.lead * ms

/-- The whole cycles from now to an instant, at least 1 (15 R585: RETRY). -/
def State.cyclesTo (s : State) (t : Time) : Nat :=
  max 1 (frameFrom s.houseRate t - frameFrom s.houseRate s.now)

end Sys2Proof.Machine
end

