-- ==== Sys2Proof/Machine/Layout.lean ====
section
/-! DEFINITION. The layout of the image memory, the header of an image, the blocks of the event log and what shows of staging (18 R656, Tables 18.1, 18.3,
18.4; 19 R686, R690, R691, R702; 20 R725, R726). -/

namespace Sys2Proof.Machine

/-! ### The memory's layout (18 Table 18.1) -/

/-- Is the 1 Gbit layout in use? -/
def State.bigLayout (s : State) : Bool := s.has R.BOOT_STAT_LAYOUT

/-- The offsets of the key area, the staging region, the journal, the event log and the layout's end. -/
def State.keyBase (s : State) : Nat := if s.bigLayout then 0x2C00000 else 0x1000000
def State.stageBase (s : State) : Nat := if s.bigLayout then 0x3000000 else 0x1400000
def State.journalBase (s : State) : Nat := if s.bigLayout then 0x6000000 else 0x2800000
def State.logBase (s : State) : Nat := if s.bigLayout then 0x7000000 else 0x3800000
def State.memEnd (s : State) : Nat := if s.bigLayout then 0x8000000 else 0x4000000

/-- The largest image (18 R656). -/
def State.imageLimit (s : State) : Nat := if s.bigLayout then 46137344 else 16777216

/-- The bytes of the journal region (18 Table 18.1). -/
def journalSize : Nat := 0x1000000

/-- The blocks of the event log (20 R726). -/
def State.logBlocks (s : State) : Nat := if s.bigLayout then 4095 else 2047

/-! ### The header (18 Table 18.3) -/

/-- MAGIC of an image header (18 Table 18.3). -/
def imageMagic : Nat := 0x50595248

/-- Does a header hold MAGIC (19 R691)? -/
def headerValid (h : List Byte) : Bool := leAt h 0 4 = imageMagic

def hdrSecver (h : List Byte) : Nat := leAt h 6 2
def hdrFlags (h : List Byte) : Nat := byteAt h 8
def hdrCfg (h : List Byte) : Nat := leAt h 20 4
def hdrCfgLen (h : List Byte) : Nat := leAt h 24 4
def hdrTotal (h : List Byte) : Nat := leAt h 28 4

/-- FW_VERSION of an image (18 Table 18.4). -/
def imageFw (v : List Byte) : Nat := leAt v 64 4

/-! ### The chip's number, and the slots of the journal and the log (13 R484; 17 Table 17.3, R624, R625, R635) -/

/-- The chip's number: PAIR of the SKEIN record, and 1 more on side B (13 R484). -/
def State.chip (s : State) : Nat := leAt (s.rec1 0x01B0) 0 2 + b2n s.dbl.side

/-- A slot. -/
def State.kslot (s : State) (k : Nat) : KSlot := lookD k s.keys.slots {}

/-- A slot named by the KEYS record: 0 and 0xFF name none, and in PERSONALISED none is named (17 R635, Table 17.11). -/
def State.consumer (s : State) (o : Nat) : Option Nat :=
  let k := byteAt (s.rec1 0x01F0) o
  if s.keys.life = 1 || k = 0 || k = 0xFF then none else some k

/-- JOURNAL_SLOT and LOG_SLOT. -/
def State.journalSlot (s : State) : Option Nat := s.consumer 0
def State.logSlot (s : State) : Option Nat := s.consumer 1

/-- May a consumer write: it names no slot, or its slot is LOADED? -/
def State.mayWrite (s : State) (k : Option Nat) : Bool := k.all (fun k => (s.kslot k).state = 1)

/-- Does a consumer of a slot wait for KEY, which is in its reset (17 R651)? -/
def State.keyWaits (s : State) (k : Option Nat) : Bool := k.isSome && s.keys.resetting

/-! ### The blocks of the event log (20 R725, R726) -/

/-- The records of the ring that are in no block yet. -/
def State.waitingRecs (s : State) : List LogRec := s.flt.ring.drop (s.flt.ring.length - s.flt.waits.length)

/-- The next `n` blocks of the waiting records, 42 in each, as they lie in the region (20 R725, R726). -/
def State.nextBlocks (s : State) (n : Nat) : List LogBlock :=
  (List.range n).map (fun i => {
    bseq := s.flt.bseq + i, slot := (s.flt.bslot + i) % s.logBlocks, chip := s.chip, sealed := s.logSlot.map (fun k => (s.kslot k).key)
    recs := (s.waitingRecs.drop (42 * i)).take 42 })

/-- The next `n` blocks are in the region: they replace what lay in their places, and their records wait no longer. -/
def State.putBlocks (s : State) (n : Nat) : State :=
  let l := s.nextBlocks n
  { s with
    flt.blocks := s.flt.blocks.filter (fun x => !l.any (fun b => b.slot = x.slot)) ++ l
    flt.bseq := s.flt.bseq + n, flt.bslot := (s.flt.bslot + n) % s.logBlocks, flt.waits := s.flt.waits.drop (42 * n) }

/-! ### What shows of staging -/

/-- The facts of Table 19.5: STATE, BYTES and STAGED_FW (19 R702). A copy is pending while the staging header holds MAGIC. -/
def State.stageShow (s : State) : State :=
  let v := memRead s.boot.xspi s.stageBase 68
  let pending := headerValid v
  let (st, n) := match s.boot.staging with
    | some g => (1, g.bytes.length)
    | none => if pending then (2, hdrTotal v) else (0, 0)
  let s := ((s.set R.STAGE_STATE st).set R.STAGE_BYTES n).set R.STAGE_STAGED_FW (if st = 2 then imageFw v else 0)
  s.set R.BOOT_STAT_COPY_PEND (b2n pending)

/-- The first 64 bytes of the staging region are zeroed (19 R686, R690). -/
def State.zeroStage (s : State) : State := { s with boot.xspi := memWrite s.boot.xspi s.stageBase (List.replicate 64 0) }

end Sys2Proof.Machine
end

