-- ==== Sys2Proof/Machine/Flags.lean ====
section
/-! DEFINITION. Status and fault flags: the ERR bits, the fault word, its capture and its classes, the event log and the
subscriptions, the roles and the reactions of class F3 and F4 (20, 14). -/

namespace Sys2Proof.Machine

/-! ### The role of the chip -/

/-- Does the chip hold control (14 Table 14.2)? -/
def Role.holds : Role → Bool
  | .active => true | .solo => true | _ => false

/-- The code of a role in DBL.STAT.ROLE (14 Table 14.12). -/
def Role.code : Role → Nat
  | .off => 0 | .joining => 1 | .standby => 2 | .active => 3 | .solo => 4 | .detached => 5 | .yielded => 6

/-- The tie code driven in a role (14 Table 14.1). -/
def Role.tie : Role → Tie
  | .joining => .follow | .standby => .follow | .active => .hold | .solo => .hold | _ => .none

/-- The STATUS code of a serving chip's role (18 Table 18.11). -/
def Role.status : Role → Nat
  | .active => 9 | .solo => 9 | .yielded => 10 | .detached => 10 | _ => 8

/-- Does the chip serve: STATUS shows 0x8 to 0xA (18 Table 18.11)? -/
def State.serving (s : State) : Bool := let c := s.get R.BOOT_STAT_STATUS; 8 ≤ c && c ≤ 10

/-- Does the chip hold control and serve? -/
def State.holder (s : State) : Bool := s.dbl.role.holds && s.serving

/-- TWIN_READY: the doubling link is up and the twin reports STANDBY with no uncleared F3 (14 R528). -/
def State.twinReady (s : State) : Bool := s.dbl.linkUp && s.dbl.twinRole = 2 && !s.dbl.twinF3

/-! ### What a port sends -/

/-- The state of a port: 0 OFF, 1 DOWN, 2 LOCK, 3 UP. -/
def State.portState (s : State) (p : Nat) : Nat := s.get (R.PORT_STATE p)

/-- What the transmitter of a port sends (07 R276). -/
inductive LineTx where
  | quiet | remoteFault | idle | frames
deriving DecidableEq, Repr

/-- What the transmitter of a port sends now (07 R276): nothing in OFF, Remote Fault in DOWN and LOCK, and in UP frames, or idle only while it receives
Remote or Local Fault. -/
def State.lineTx (s : State) (p : Nat) : LineTx :=
  match s.portState p with
  | 0 => .quiet
  | 3 => if s.has (R.PORT_RF_RX p) || s.has (R.PORT_LF_RX p) then .idle else .frames
  | _ => .remoteFault

/-- Does a port send frames (07 R276)? -/
def State.canSend (s : State) (p : Nat) : Bool := s.lineTx p = .frames

/-- Send a SiCP message or a DTLS record of its session's port in the control class, or discard it where the port cannot send (07 R276, R286, R293). Its octets
on the wire, from 64 to 1522, are a free value: the record layer is not the spec's (log entry 2). -/
def State.sendVia (s : State) (p : Nat) (m : Out) : State :=
  if s.canSend p then
    let (x, s) := s.fresh
    ((s.bump (R.PORT_TX_FRAMES p) 1).bump64 (R.PORT_TX_OCTETS_LO p) (64 + x % 1459)).emit (.msg p m)
  else s.bump (R.PORT_TX_DISCARD p) 1

/-- A message of the doubling link whose body of at most `n` bytes is given as data: SEQ counts each of its frames of up to 8192 bytes (14 R532,
Table 14.4). -/
def State.dblData (s : State) (n : Nat) (m : Out) : State := { s with dbl.seq := (s.dbl.seq + max 1 (ceilDiv n 8192)) % 2 ^ 32 }.emit m

/-! ### Events and the log -/

/-- The group of an event code, the Group column of Table 20.8; 0x0600 to 0x06FF by 21. -/
def eventGroup (code : Nat) : Nat :=
  if code = 0x0100 then 1
  else if 0x0103 ≤ code && code ≤ 0x0108 then 1
  else if 0x0301 ≤ code && code ≤ 0x0308 then 3
  else if code = 0x0405 then 0
  else if 0x0400 ≤ code && code ≤ 0x0406 then 4
  else if 0x0500 ≤ code && code ≤ 0x0504 then 5
  else if 0x0680 ≤ code && code ≤ 0x0683 then 6
  else if 0x0600 ≤ code && code ≤ 0x06FF then 2
  else if code = 0x0700 || code = 0x0701 then 7
  else 0

/-- Does a subscription take an event (15 R584): its group is among GROUPS and its class at least MIN_CLASS; every F3, F4 and
LOG_LOST event is taken. An event that sets a fault-word bit also belongs to group FAULT (Table 15.7). -/
def Sub.takes (u : Sub) (e : Event) : Bool :=
  3 ≤ e.cls || e.code = 0x0004 ||
    ((bit u.groups (eventGroup e.code) || (2 ≤ e.cls && bit u.groups 0)) && u.minClass ≤ e.cls)

/-- Does an event stand before another by the triple (time stamp, island, island sequence) (12 R449)? -/
def Event.before (e x : Event) : Bool :=
  e.time < x.time || (e.time = x.time && (e.isl < x.isl || (e.isl = x.isl && e.iseq < x.iseq)))

/-- Place an event in a list of them, at Whorl time `now`: it passes those at the end that its triple stands before. One stamped after `now` was
stamped before a backward step of Whorl time, and keeps its place (12 R449, R479). -/
def placeEvent (now : Time) (e : Event) (l : List Event) : List Event :=
  let after := l.reverse.takeWhile (fun x => e.before x && x.time ≤ now)
  (l.reverse.drop after.length).reverse ++ e :: after.reverse

/-- Queue an event on a subscription; a full queue of 256 drops it and counts it in the next GAP (15 R584). -/
def Sub.push (u : Sub) (now : Time) (e : Event) : Sub :=
  if !u.takes e then u
  else if 256 ≤ u.queue.length then { u with gap := u.gap + 1 } else { u with queue := placeEvent now e u.queue }

/-- How many subscriptions drop the event. -/
def dropsOf (l : List Session) (e : Event) : Nat :=
  ((l.flatMap (·.subs)).filter (fun u => u.takes e && 256 ≤ u.queue.length)).length

/-- Give an event to every subscription (15 R584). -/
def State.publish (s : State) (e : Event) : State :=
  let s := s.bump R.SCP_EV_DROPPED (dropsOf s.sicp.sessions e)
  { s with sicp.sessions := s.sicp.sessions.map (fun c => { c with subs := c.subs.map (·.push s.now e) }) }

/-- The next island sequence of an island, and the state that has used it (12 R449). -/
def State.nextSeq (s : State) (isl : Nat) : Nat × State :=
  let n := lookD isl s.flt.iseq 0
  (n, { s with flt.iseq := put isl ((n + 1) % 2 ^ 32) s.flt.iseq })

/-- Put an event in the ring (20 R724, R727): the next index; a full ring of 8192 overwrites its oldest record, counted in
LOG.DROPPED when it is in no block yet. The records that are in no block yet keep the order of R449. -/
def State.logRec (s : State) (e : Event) : State :=
  let full := 8192 ≤ s.flt.ring.length
  let lost := full && 8192 ≤ s.flt.waits.length
  let ring := if full then s.flt.ring.drop 1 else s.flt.ring
  let waits := if lost then s.flt.waits.drop 1 else s.flt.waits
  let s := s.bump R.LOG_DROPPED (b2n lost)
  let last := ring.drop (ring.length - waits.length)
  let evs := placeEvent s.now e (last.map (·.ev))
  { s with
    flt.ring := ring.take (ring.length - waits.length) ++ ((last.map (·.index) ++ [s.flt.next]).zip evs).map (fun p => ⟨p.1, p.2⟩)
    flt.next := (s.flt.next + 1) % 2 ^ 32
    flt.waits := waits ++ [s.up] }

/-- The flags of an event raised here: bit 0 is side B (15 Table 15.3). -/
def State.eflags (s : State) : Nat := b2n s.dbl.side

/-- Log one event without looking at dropped ones. A stamp of an island that has lost the time wire is invalid, bit 2 (12 R448). -/
def State.logOne (s : State) (isl cls code : Nat) (detail : List Byte) (extra : Nat) : State :=
  let (n, s) := s.nextSeq isl
  let e : Event := {
    time := s.now, isl := isl, cls := cls, code := code, iseq := n, detail := detail
    eflags := s.eflags + extra + 4 * b2n (s.flt.lostWire = some isl) }
  let s := if code = 0x0100 || (0x0600 ≤ code && code < 0x0680) then s else s.logRec e
  let s := s.publish e
  if 2 ≤ cls && s.dbl.linkUp then s.dblData 64 (.dblEvent e) else s

/-- Log an event of an island (20 R717, R718): EVENTS_DROPPED goes before it when the island's queue had lost events; it goes
to every subscription that takes it, and to the twin when its class is F2 or above (R719). SWITCH and the probe events are
sent to subscriptions and never logged (Table 20.8, 21 R735). -/
def State.event (s : State) (isl cls code : Nat) (detail : List Byte) : State :=
  let d := lookD isl s.flt.dropped 0
  let s := if d = 0 then s
    else { s.logOne isl 1 0x0005 (beBytes 1 isl ++ beBytes 4 d) 0 with flt.dropped := drop isl s.flt.dropped }
  s.logOne isl cls code detail 0

/-! ### The fault word -/

/-- The latched bit of an island (20 Table 20.9). -/
def fltBit (n : Nat) : Fld := if n < 32 then ⟨38, 0, n, n⟩ else ⟨38, 4, n - 32, n - 32⟩

/-- The class field of an island in FLT.ICLASS (20 Table 20.11): 0 none, 1 F2, 2 F3, 3 F4. -/
def iclassFld (n : Nat) : Fld := ⟨38, 0x10 + 4 * (n / 16), 2 * (n % 16) + 1, 2 * (n % 16)⟩

/-- The class (2 to 4) latched for an island; 0 where its bit is clear. -/
def State.latchedClass (s : State) (n : Nat) : Nat := let c := s.get (iclassFld n); if c = 0 then 0 else c + 1

/-- The highest class among the latched bits, LOG_LOST and AON_LOST counting as F2 (20 R706). -/
def State.wordClass (s : State) : Nat :=
  (List.range 40).foldl (fun m n => max m (s.latchedClass n))
    (if s.has R.FLT_WORD_HI_LOG_LOST || s.has R.FLT_WORD_HI_AON_LOST then 2 else 0)

/-- CLASS and FAULT_N follow the latched bits (20 R706, R716). During a start FAULT_N is at high impedance until FLT is released. -/
def State.fltSync (s : State) : State :=
  let s := s.set R.FLT_WORD_HI_CLASS s.wordClass
  let st := s.get R.BOOT_STAT_STATUS
  s.set R.FLT_STAT_FAULT_N (b2n ((2 ≤ s.get R.FLT_WORD_HI_CLASS && 5 ≤ st) || 11 ≤ st))

/-- Is an F3 uncleared (14 R528): some island's latched class is F3 or above? -/
def State.hasF3 (s : State) : Bool := (List.range 40).any (fun n => 3 ≤ s.latchedClass n)

/-- What an occurrence concerns (20 Table 20.3): access type, master code and address. -/
structure Acc where
  typ : Nat := 0
  master : Nat := 0
  addr : Nat := 0
deriving DecidableEq, Repr

/-- A new capture, or the merge into the capture held (20 R710, R711). -/
def State.capture (s : State) (isl cls code : Nat) (a : Acc) : State :=
  if s.has R.FLT_CAP_VALID then
    let s := s.set R.FLT_CAP_MERGES (min 255 (s.get R.FLT_CAP_MERGES + 1))
    let s := (s.set R.FLT_CAP_MULTIPLE 1).set R.FLT_WORD_HI_MULTIPLE 1
    s.set R.FLT_CAP_CLASS (max cls (s.get R.FLT_CAP_CLASS))
  else
    let addr := if 3 ≤ a.typ then a.addr % 2 ^ 15 else a.addr
    let s := (((s.set R.FLT_CAP_VALID 1).set R.FLT_CAP_CLASS cls).set R.FLT_CAP_TYPE a.typ).set R.FLT_CAP_MERGES 0
    let s := ((s.set R.FLT_CAP_MASTER a.master).set R.FLT_CAP_ISLAND isl).set R.FLT_CAP_CODE code
    let s := (s.set R.FLT_CAP_ADDR_LO addr).set R.FLT_CAP_ADDR_HI (addr / 2 ^ 32)
    (s.set R.FLT_CAP_STAMP s.now).set R.FLT_CAP_ISEQ (lookD isl s.flt.iseq 0)

/-- Latch an occurrence of class F2 to F4 of an island (20 R705, R706, R709): its bit, its class when higher, the capture, CLASS
and FAULT_N. -/
def State.latch (s : State) (isl cls code : Nat) (a : Acc) : State :=
  let s := s.capture isl cls code a
  let s := s.set (fltBit isl) 1
  (s.set (iclassFld isl) (max (cls - 1) (s.get (iclassFld isl)))).fltSync

/-- The detail of ISLAND_ERROR: the ERR register's offset, the bits newly set, and how many occurrences were suppressed (20 Table 20.8). -/
def errDetail (off bit sup : Nat) : List Byte := beBytes 4 off ++ beBytes 4 (2 ^ bit) ++ beBytes 4 sup

/-- An unresolved condition of an island begins or lasts (20 R707): `tag` names it, and `code` and `detail` are its event. A tag from 0x100000 on that is
even is a one-shot condition. -/
def State.hold (s : State) (isl tag cls : Nat) (code : Nat := 2) (detail : List Byte := errDetail 0 0 0) : State :=
  { s with flt.conds := (s.flt.conds.filter (fun c => !(c.isl = isl && c.tag = tag))) ++ [⟨isl, tag, cls, s.up, code, detail⟩] }

/-- A condition of an island is resolved (20 R707). -/
def State.resolve (s : State) (isl tag : Nat) : State :=
  { s with flt.conds := s.flt.conds.filter (fun c => !(c.isl = isl && c.tag = tag)) }

/-- The bit of SPN.RST.NOW of an island (22 Table 22.10). -/
def rstNow (n : Nat) : Fld := if n < 32 then ⟨34, 0x20000, n, n⟩ else ⟨34, 0x20004, n - 32, n - 32⟩

/-- The current bit of an island: it holds an unresolved condition, or is in reset (20 R707; 22 Table 22.6). -/
def State.current (s : State) (isl : Nat) : Bool := s.flt.conds.any (fun c => c.isl = isl) || s.has (rstNow isl)

/-! ### Roles and the reactions of F3 and F4 -/

/-- Every SDI transmitter, egress flow and pulse output goes quiet: the QUIET bits of Tables 5.16, 6.18 and 12.19 set. -/
def quietWord (a : Nat) (w : Nat) : Nat :=
  let isl := (a - 0x4000000000) / 0x100000
  let off := (a - 0x4000000000) % 0x100000
  if isl < 16 && 0x11000 ≤ off && off < 0x11400 && off % 0x40 = 0 then placeBits w 8 1 1
  else if isl < 16 && 0xC0000 ≤ off && off % 0x20 = 0 then placeBits w 29 3 4
  else if isl = 33 && 0x300 ≤ off && off < 0x390 && off % 0x10 = 0 then placeBits w 4 1 1
  else w

/-- Every output goes quiet (20 Table 20.2, 18 R676). -/
def State.quietAll (s : State) : State :=
  let s := (s.regs.map (·.1)).foldl (fun s a => s.setWord a (quietWord a (s.word a))) s
  { s with xp.dst := s.xp.dst.map (fun d => (d.1, { d.2 with live := false, wasLive := false, prevPic := none })) }

/-- Staging is discarded, with the cause of R690 (19 R690). -/
def State.stageDiscard (s : State) (cause : Nat) : State :=
  match s.boot.staging with
  | none => s
  | some _ => ({ s.zeroStage with boot.staging := none }.stageShow).event 39 1 0x0707 (beBytes 1 cause)

/-- SESSIONS and OWN, and the tenant's SESSIONS (15 Table 15.13, 16 Table 16.10). A session at the pair address is open on the chip that holds
control. -/
def State.sessShow (s : State) (tenant : Nat) : State :=
  let l := s.sicp.sessions.filter (fun c => c.own || s.dbl.role.holds)
  let s := (s.set R.SCP_SESSIONS l.length).set R.SCP_OWN (l.filter (·.own)).length
  s.set (R.TEN_SESSIONS tenant) (l.filter (fun c => c.tenant = tenant)).length

/-- The session of a connection ID. -/
def State.sess (s : State) (id : Nat) : Option Session := s.sicp.sessions.find? (fun c => c.id = id)

/-- A session ends (15 R564): its subscriptions, staged salvos, waiting takes and cache go with it, and its waiting takes get no
reply (03 R117). Staging that it holds open is discarded (19 R690). -/
def State.endSession (s : State) (id : Nat) : State :=
  match s.sess id with
  | none => s
  | some c =>
    let s := { s with sicp.sessions := s.sicp.sessions.filter (fun x => x.id ≠ id) }
    let s := { s with sicp.staged := s.sicp.staged.filter (fun x => x.sess ≠ id) }
    let s := { s with
      xp.waiting := s.xp.waiting.filter (fun w => w.sess ≠ id)
      xp.salvos := s.xp.salvos.map (fun (v : Salvo) => if v.typ = 0x10 && v.delayed && v.sess = some id then { v with aborted := true, answered := true } else v) }
    let s := if s.boot.staging.any (fun g => g.sess = id) then s.stageDiscard 2 else s
    s.sessShow c.tenant

/-- The sessions at own addresses end when the chip leaves its role: when it becomes OFF, YIELDED or DETACHED (15 R560; log entry 90). Such a session
holds nothing of the pair, but staging may be its own. -/
def State.ownSessionsEnd (s : State) : State :=
  let gone := s.sicp.sessions.filter (·.own)
  if gone = [] then s
  else
    let s := if s.boot.staging.any (fun g => gone.any (fun c => c.id = g.sess)) then s.stageDiscard 2 else s
    let s := { s with sicp.sessions := s.sicp.sessions.filter (fun c => !c.own) }
    gone.foldl (fun (s : State) (c : Session) => (s.sessShow c.tenant).sendVia c.port (.dtlsClose c.id)) s

/-- Take a role (14 Table 14.3): TIE_OUT follows it (Table 14.1), STATUS shows it (18 Table 18.11) and ROLE_CHANGE is logged. -/
def State.setRole (s : State) (r : Role) : State :=
  if s.dbl.role = r then s
  else
    let old := s.dbl.role
    let s := { s with dbl.role := r, dbl.tieOut := r.tie, dbl.bulks := if r.holds then s.dbl.bulks else [] }
    let s := if r = .off || r = .yielded || r = .detached then s.ownSessionsEnd else s
    let s := ((s.sicp.sessions.map (·.tenant)).eraseDups).foldl (fun (s : State) (t : Nat) => s.sessShow t) s
    let s := if s.serving then s.set R.BOOT_STAT_STATUS r.status else s
    s.event 37 0 0x0500 (beBytes 1 old.code ++ beBytes 1 r.code)

/-- A yield or a detachment is counted (14 R543, Table 14.14). -/
def State.countYield (s : State) : State :=
  { s.bump R.DBL_YIELDS 1 with
    dbl.yields := (s.dbl.yields.filter (fun u => s.up < u + 3600 * sec)) ++ [s.up] }

/-- The outputs of a chip that gave up control go quiet at the house frame boundary that ends the first cycle whose close
follows (14 R540). -/
def State.quietLater (s : State) : State := { s with dbl.quietAfter := some (s.cycleEnd s.now) }

/-- The ROLE byte of a frame of the doubling link: the role, and whether an F3 of the sender is uncleared (14 Table 14.4). -/
def State.roleByte (s : State) : Nat := s.dbl.role.code + 8 * b2n s.hasF3

/-- A frame of the doubling link as it leaves: its TYPE, ROLE, SEQ and CLOSE, and its body (14 Table 14.4). -/
def State.dblOut (s : State) (typ close : Nat) (body : List Nat) : Out := .dbl typ s.roleByte s.dbl.seq close body

/-- A frame leaves on the doubling link; SEQ counts the sender's frames modulo 2^32 (14 Table 14.4). -/
def State.dblSend (s : State) (typ close : Nat) (body : List Nat) : State :=
  { s with dbl.seq := (s.dbl.seq + 1) % 2 ^ 32 }.emit (s.dblOut typ close body)

/-- The yield of a holder whose twin is ready (14 R539). -/
def State.yield (s : State) : State :=
  let s := (s.setRole .yielded).countYield.quietLater
  let s := { s with
    dbl.yieldPend := false, dbl.swapPend := none, dbl.held := none, dbl.replies := []
    dbl.handoffUntil := some (s.up + sec), sicp.cyc := [] }
  s.dblSend 11 0 []

/-- The reaction to an F3 (20 Table 20.1; 14 R528, R539, R542): a holder yields to a ready twin and otherwise keeps control in
SOLO with YIELD_PEND; a standby becomes YIELDED; on any other chip TIE_OUT is forced to NONE. -/
def State.f3 (s : State) : State :=
  match s.dbl.role with
  | .active | .solo =>
    if s.twinReady then s.yield
    else { s.setRole .solo with dbl.yieldPend := true, dbl.tieOut := .hold, dbl.swapPend := none }
  | .standby => { (s.setRole .yielded).countYield.quietLater with dbl.swapPend := none }
  | _ => { s with dbl.tieOut := .none }

/-- STATUS and its detail (18 Table 18.16). -/
def State.status (s : State) (code detail : Nat) : State :=
  ((s.set R.BOOT_STAT_STATUS code).set R.BOOT_STAT_DETAIL detail).fltSync

/-- The start report is written (18 R680): STATUS, DETAIL, OFFSET and START_COUNT. -/
def State.report (s : State) (offset : Nat) : State :=
  let rep : StartReport := {
    status := s.get R.BOOT_STAT_STATUS, detail := s.get R.BOOT_STAT_DETAIL, offset := offset
    count := s.get R.BOOT_START_COUNT, fw := s.boot.fw, secver := s.boot.secver, rb := s.keys.rbSteps, whole := true }
  { s with boot.startReport := some rep }

/-- What an F4 while serving attempts in its last 10 ms (20 Table 20.2): some of the ring's records, freely chosen, are in log blocks, and the start report
is written or not. -/
def State.lastWrites (s : State) (before : Option StartReport) : State :=
  let (k, s) := s.fresh
  let (w, s) := s.fresh
  let may := !s.has R.BOOT_STAT_NOR && s.mayWrite s.logSlot && !s.has (rstNow 39)
  let s := s.putBlocks (if may then k % (ceilDiv s.flt.waits.length 42 + 1) else 0)
  { s with boot.startReport := if w % 2 = 0 then before else s.boot.startReport }

/-- The steps of an F4 (20 R704, Table 20.2): TIE_OUT NONE, every output quiet, role OFF, STATUS 0xF with its detail or 0xD
for a security stop, the start report; then the chip does nothing further. -/
def State.f4 (s : State) (status detail : Nat) : State :=
  let on := s.serving
  let before := s.boot.startReport
  let s := { s.quietAll with dbl.role := .off, dbl.tieOut := .none, flt.stopped := true }
  let s := (s.status status detail).report 0
  if on then s.lastWrites before else s

/-- The reaction of a class (20 Table 20.1). -/
def State.react (s : State) (cls status detail : Nat) : State :=
  if cls = 3 then s.f3 else if cls = 4 then s.f4 status detail else s

/-- The tag of the condition of an ERR bit (20 R707): one that lasts until it is resolved, or a one-shot condition. -/
def errTag (f : Fld) (lasts : Bool) : Nat := 0x100000 + 2 * (f.off * 32 + f.lo) + b2n lasts

/-- Raise a condition of class F2 to F4 on an island: it is latched, its event is logged and the class reacts. The condition
`tag` holds the current bit; `stop` is the STATUS and detail of an F4. -/
def State.raise (s : State) (isl cls code tag : Nat) (detail : List Byte) (a : Acc := {}) (stop : Nat × Nat := (15, 4)) : State :=
  let s := (s.hold isl tag cls code detail).latch isl cls code a
  let s := s.event isl cls code detail
  s.react cls stop.1 stop.2

/-! ### ERR registers -/

/-- FAULTS.RATE: ISLAND_ERROR events of one ERR bit in a Whorl second (20 Table 20.12). -/
def State.errRate (s : State) : Nat := orDef (byteAt (s.rec1 0x0210) 1) 1

/-- The entry of a bit in the table of repeated occurrences: the Whorl second, how many were logged in it, how many were
suppressed since the last. -/
def State.rateOf (s : State) (k : Nat × Nat × Nat) : Nat × Nat × Nat :=
  (((s.flt.rate.find? (fun r => r.1 = k)).map (·.2)).getD (s.second, 0, 0))

/-- Log ISLAND_ERROR for an occurrence of an ERR bit, at most RATE in a Whorl second, and always for the first of an F2 to F4 bit after its fault-word bit
was cleared (20 R717). -/
def State.islandError (s : State) (f : Fld) (cls : Nat) : State :=
  let k := (f.isl, f.off, f.lo)
  let always := 2 ≤ cls && !s.flt.logged.contains k
  let (sc, n, sup) := s.rateOf k
  let n := if sc = s.second then n else 0
  let rest := s.flt.rate.filter (fun r => !(r.1 = k))
  if always || n < s.errRate then
    let s := { s with flt.rate := rest ++ [(k, (s.second, n + 1, 0))], flt.logged := s.flt.logged.filter (· ≠ k) ++ [k] }
    s.event f.isl cls 0x0002 (errDetail f.off f.lo sup)
  else { s with flt.rate := rest ++ [(k, (s.second, n, sup + 1))] }

/-- An ERR condition occurs: its bit sets, the Spindle logs it, and a class of F2 or above goes down the island's error line
(20 R705, R717). A condition that `lasts` holds the current bit until it is resolved. -/
def State.err (s : State) (f : Fld) (cls : Nat) (a : Acc := {}) (lasts : Bool := false) (stop : Nat × Nat := (15, 4)) : State :=
  let s := s.set f 1
  let s := if 2 ≤ cls then (s.hold f.isl (errTag f lasts) cls 2 (errDetail f.off f.lo 0)).latch f.isl cls 0x0002 a else s
  (s.islandError f cls).react cls stop.1 stop.2

/-- An ERR condition with an event of its own (20 R717: the named event where a chapter names one). -/
def State.errNamed (s : State) (f : Fld) (cls code : Nat) (detail : List Byte) (a : Acc := {}) (lasts : Bool := false) : State :=
  let s := s.set f 1
  if 2 ≤ cls then s.raise f.isl cls code (errTag f lasts) detail a else s.event f.isl cls code detail

/-- The condition of an ERR bit is resolved (20 R707). -/
def State.errDone (s : State) (f : Fld) : State := (s.resolve f.isl (errTag f false)).resolve f.isl (errTag f true)

/-! ### Running a meaning -/

/-- A command of a block that is not stopped: the time stamp becomes the present and the effect takes place. In F4, or with
STATUS 0xB to 0xE, the chip does nothing further until PWR_OK or RESET_N falls (20 R704; 18 R677). -/
def live (t : Time) (s : State) (f : State → State) : Host.Outcome State Fault Refusal :=
  if s.flt.stopped then .next (s.at_ t) else .next (f (s.at_ t))

/-- A command that concerns an island that BOOT has released (18 Table 18.12): STATUS shows CONFIGURE or later. Before that every island but
BOOT, KEY and AON is held in reset, and nothing happens. -/
def released (t : Time) (s : State) (f : State → State) : Host.Outcome State Fault Refusal :=
  live t s (fun s => if 5 ≤ s.get R.BOOT_STAT_STATUS then f s else s)

/-- A command that concerns only a chip that serves (18 R679); before that nothing happens. -/
def served (t : Time) (s : State) (f : State → State) : Host.Outcome State Fault Refusal :=
  live t s (fun s => if s.serving then f s else s)

end Sys2Proof.Machine
end

