-- ==== Sys2Proof/Machine/Cells.lean ====
section
/-! DEFINITION. Cells: their layout and kinds, the rotation over the tiles, the connections and the cells they send, best-effort frames on their way
through the crosspoint, and what an overloaded crosspoint drops (03 R87 to R94, R119, R120, R128). -/

namespace Sys2Proof.Machine

/-! ### The layout of a cell (03 Tables 3.1, 3.2) -/

/-- The kinds of cells (03 Table 3.2). -/
inductive CellKind where
  | video | compressed | audio | anc | window | bestEffort | link
deriving DecidableEq, Repr

/-- The code of a kind (03 Table 3.2). -/
def CellKind.code : CellKind → Nat
  | .video => 0 | .compressed => 1 | .audio => 2 | .anc => 3 | .window => 4 | .bestEffort => 5 | .link => 6

/-- A cell (03 Table 3.1). -/
structure Cell where
  conn : Nat
  kind : CellKind
  first : Bool
  last : Bool
  seq : Nat
  frame : Nat
  payload : List Byte
deriving DecidableEq, Repr

/-- Bytes 0 to 251 of a cell, little-endian; reserved bits and the bytes beyond LEN are 0 (03 Table 3.1). -/
def Cell.body (x : Cell) : List Byte :=
  leBytes 2 (x.conn % 2 ^ 15) ++ leBytes 1 (x.kind.code + 16 * b2n x.first + 32 * b2n x.last) ++ leBytes 1 x.payload.length
    ++ leBytes 4 x.seq ++ leBytes 2 x.frame ++ leBytes 2 0 ++ x.payload ++ List.replicate (240 - x.payload.length) 0

/-- The 256 bytes of a cell: its CRC is the CRC-32C over bytes 0 to 251 (03 Table 3.1). -/
def Cell.bytes (x : Cell) : List Byte := x.body ++ leBytes 4 (crc32c x.body)

/-- Does the CRC of the bytes received as a cell hold (03 R87, R89)? -/
def cellGood (v : List Byte) : Bool := crc32c (v.take 252) = leAt v 252 4

/-- The kind of the cells of a connection; `compressed` says that its source is an ST 2110-22 source. -/
def ConnKey.kind (k : ConnKey) (compressed : Bool) : CellKind :=
  let pic : CellKind := if compressed then .compressed else .video
  match k with
  | .media _ _ .video => pic
  | .media _ _ _ => .anc
  | .read _ .video _ _ => pic
  | .read _ _ _ _ => .anc
  | .still _ _ => .video
  | .audioIn _ _ => .audio
  | .audioOut _ => .audio
  | .winWrite _ => .window
  | .winRead _ => .window
  | .bestEffort _ _ => .bestEffort
  | .store _ _ => .link

/-! ### Tiles and the rotation (03 R91, R92, R122) -/

/-- The state of a tile. -/
def State.tile (s : State) (n : Nat) : TileSt := s.xp.tiles.getD n .out

/-- The code of a tile state in SPN.XP.TSTATE (03 Table 3.19). -/
def TileSt.code : TileSt → Nat
  | .inService => 0 | .draining => 1 | .out => 2 | .lost => 3

/-- The field of a tile in SPN.XP.TSTATE (03 Table 3.19). -/
def tstateFld (n : Nat) : Fld := ⟨34, 0x60180, 4 * n + 2, 4 * n⟩

/-- The rotation list: the in-service tiles in ascending number (03 R91). -/
def State.rotation (s : State) : List Nat := (List.range 8).filter (fun n => s.tile n = .inService)

/-- A tile takes a state, which SPN.XP.TSTATE shows (03 R122); the rotation list that stood before is kept for the cells still under way. -/
def State.setTile (s : State) (n : Nat) (x : TileSt) : State :=
  { s with xp.tiles := s.xp.tiles.set n x, xp.rotWas := (s.rotation, s.now) }.set (tstateFld n) x.code

/-- The tile at the position of cell `seq` of connection `conn` in a rotation list (03 R91). -/
def tileIn (rot : List Nat) (conn seq : Nat) : Option Nat := rot[(conn + seq) % rot.length]?

/-- The tile through which cell `seq` of connection `conn` passes (03 R91). -/
def State.tileOf (s : State) (conn seq : Nat) : Option Nat := tileIn s.rotation conn seq

/-- Can a cell under way have passed through a tile: by the rotation list, or by the one before it while cells formed on that may still arrive (28 µs,
03 R93)? -/
def State.passed (s : State) (conn seq tile : Nat) : Bool :=
  s.tileOf conn seq = some tile || (s.now ≤ s.xp.rotWas.2 + 28000 && tileIn s.xp.rotWas.1 conn seq = some tile)

/-- Is every tile but this one IN_SERVICE (03 R123)? -/
def State.othersServe (s : State) (n : Nat) : Bool := (List.range 8).all (fun m => m = n || s.tile m = .inService)

/-! ### Connections (03 R88) -/

/-- The connection that carries something, with its number. -/
def State.connOf (s : State) (k : ConnKey) : Option (Nat × Conn) := s.xp.conns.find? (fun c => c.2.key = k)

/-- The first number from `n` on, modulo 32 768, that is not in use, tried `k` times (03 R88). -/
def freeConn (used : List Nat) : Nat → Nat → Nat
  | n, 0 => n % 32768
  | n, k + 1 => if used.contains (n % 32768) then freeConn used (n + 1) k else n % 32768

/-- The connections follow the keys that are booked: what is no longer there loses its number, what is new gets one that no connection has, which the
chip chooses (03 R88; log entry 2). -/
def State.syncConns (s : State) (keys : List ConnKey) : State :=
  let s := { s with xp.conns := s.xp.conns.filter (fun c => keys.contains c.2.key) }
  (keys.filter (fun k => (s.connOf k).isNone)).foldl (fun (s : State) k =>
    let used := s.xp.conns.map (·.1)
    let n := freeConn used (Config.freeNat s.free) used.length
    { s with xp.conns := put n { key := k } s.xp.conns, free := s.free + 1 }) s

/-! ### Ancillary packets in cells -/

/-- The bytes of a packet in its connection (05 R199): its position word and its ten-bit words, in whole bytes. -/
def ancBytes (a : Anc) : Nat := 4 + ceilDiv (10 * (a.udw.length + 4)) 8

/-! ### Cells sent -/

/-- Has a connection, among those of a kind, a target (03 R96)? Its cells reach no other place. -/
def State.hasTarget (s : State) (k : ConnKey → Bool) (target : Nat) : Bool := s.xp.targets.any (fun x => k x.1 && x.2 = target)

/-- Does a connection bring a level of a source from the port or Strand where it enters? A still of another pair comes at the rates of its readers (13 R510). -/
def ConnKey.carries (k : ConnKey) (src : Nat) (lv : Level) : Bool := match k with
  | .media _ j l => j = src && l = lv
  | .still j _ => j = src && 2 ^ 20 ≤ j && lv = .video
  | _ => false

/-- Do the cells of the connections of a source's level reach a target (03 R96)? -/
def State.mediaReaches (s : State) (src : Nat) (lv : Level) (target : Nat) : Bool :=
  s.hasTarget (·.carries src lv) target

/-- Do they reach every DRAM group, over which a bobbin is spread (09 R337)? -/
def State.mediaStored (s : State) (src : Nat) (lv : Level) : Bool := (List.range 8).all (fun g => s.mediaReaches src lv (16 + g))

/-- Of `n` cells in turn from position `from_` of a rotation of `len` tiles, those that fall on position `i` (03 R91). -/
def shareOf (n from_ len i : Nat) : Nat := n / len + b2n ((i + len - from_ % len) % len < n % len)

/-- `n` admitted cells from a position of the rotation are counted at their tiles (03 Table 3.15). -/
def State.countCells (s : State) (from_ n : Nat) : State :=
  let rot := s.rotation
  rot.zipIdx.foldl (fun (s : State) x => s.bump64 (R.XT_CELLS_LO x.1) (shareOf n from_ rot.length x.2)) s

/-- Mbit/s that the links between one cluster and the tiles of the rotation carry (03 R107: 256 Gbit/s a tile). -/
def State.linkRate (s : State) : Nat := 256000 * s.rotation.length

/-- The fill of the admitted virtual output queues of a cluster at its limit, in thousandths of bits: 49 152 cells (03 Table 3.16). -/
def voqFull : Nat := 49152 * 2048 * 1000

/-- Mbit/s booked on a side of a cluster: the ingress of cluster `q`, or the egress of cluster `q` − 16. -/
def State.sideBooked (s : State) (q : Nat) : Nat := if q < 16 then s.xp.bookIn.getD q 0 else s.xp.bookOut.getD (q - 16) 0

/-- The virtual output queues that wait for a side of a cluster now (03 R128; log entry 67): they fill at the rate by which its bookings exceed its links, and empty at the
rate by which its links exceed its bookings. -/
def State.voqNow (s : State) (q : Nat) : Nat :=
  let (l, at_) := lookD q s.xp.voq (0, s.now)
  let (book, link) := (s.sideBooked q, s.linkRate)
  if link < book then min voqFull (l + (s.now - at_) * (book - link)) else l - (s.now - at_) * (link - book)

/-- Is a side of a cluster booked beyond its links, or do cells still wait that were? -/
def State.pressed (s : State) (q : Nat) : Bool := s.linkRate < s.sideBooked q || (look q s.xp.voq).isSome

/-- Are the virtual output queues that wait for a side full, so that its admitted cells are dropped (03 R128)? -/
def State.choked (s : State) (q : Nat) : Bool := s.linkRate < s.sideBooked q && voqFull ≤ s.voqNow q

/-- Best-effort frames that wait at the ingress of a cluster are dropped before any admitted cell is (03 R128). -/
def State.beClear (s : State) (c : Nat) : State :=
  let gone := s.xp.beFly.filter (fun x => x.cluster = c)
  if gone = [] then s
  else ({ s with xp.beFly := s.xp.beFly.filter (fun x => x.cluster ≠ c), xp.be := drop c s.xp.be }).bump (R.PC_XPR_BE_DROP c) gone.length

/-- Of `n` admitted cells that enter at cluster `e` and want a side of a cluster, those dropped at ingress because the virtual output queues for it are full (03 R128):
the share of its bookings that its links cannot carry, after every best-effort cell. Cells of a DRAM group or of the audio engine wait in no counted queue. -/
def State.overload (s : State) (q : Nat) (e : Option Nat) (n : Nat) : Nat × State :=
  let (book, link) := (s.sideBooked q, s.linkRate)
  let (l, full) := (s.voqNow q, s.choked q)
  let lost := if full then ceilDiv (n * (book - link)) book else 0
  let s := { s with xp.voq := put q (l, s.now) s.xp.voq }
  (lost, match e with
    | some c =>
      let s := s.peak (R.PC_XPR_VOQ_PEAK c) (ceilDiv l 2048000)
      (if full then s.beClear c else s).bump (R.PC_XPR_POLICED c) lost
    | none => s)

/-- Does a mark stand on a frame of a connection on its way to an island? -/
def LostMark.on (m : LostMark) (isl : Nat) (k : ConnKey) (frame : Nat) : Bool := m.isl = isl && m.key = k && m.frame = frame % 65536

/-- A mark on a frame of a connection of which `n` more cells were lost on the way to an island, at the places `idx` of the frame as far as they are known (03 R93, R94). -/
def State.markLost (s : State) (isl : Nat) (k : ConnKey) (frame n : Nat) (idx : List Nat := []) : State :=
  if s.xp.lostMarks.any (·.on isl k frame) then
    { s with xp.lostMarks := updFirst (·.on isl k frame) (fun m => { m with cells := m.cells + n, idx := m.idx ++ idx }) s.xp.lostMarks }
  else { s with xp.lostMarks := s.xp.lostMarks ++ [⟨isl, k, frame % 65536, s.now, n, idx⟩] }

/-- The place in its frame of the cell of a connection with a sequence number, where the frame is the one under way or the one before (03 Table 3.1). -/
def State.cellPlace (s : State) (k : ConnKey) (seq frame : Nat) : List Nat :=
  match s.connOf k with
  | none => []
  | some (_, c) =>
    let at_ (first : Nat) : List Nat := [(seq + 2 ^ 32 - first % 2 ^ 32) % 2 ^ 32]
    if frame % 65536 = c.frame then at_ c.start else if frame % 65536 = c.was.1 then at_ c.was.2 else []

/-- The cells of a frame of some connections that were lost on their way into the bobbins. -/
def State.markedCells (s : State) (k : ConnKey → Bool) (frame : Nat) : Nat :=
  total ((s.xp.lostMarks.filter (fun m => 24 ≤ m.isl && m.isl < 32 && k m.key && m.frame = frame % 65536)).map (·.cells))

/-- A reader of a bobbin reaches marked cells, which are lost cells to it (08 R324). -/
def State.lostCells (s : State) (n : Nat) : State :=
  if n = 0 then s else (s.bump R.BOB_LOST_CELLS n).err R.BOB_ERR_LOST_CELL 1

/-- Marks older than the oldest frame that a bobbin can hold: 131 frames at 24/1.001 Hz lie within 6 s (08 R305). -/
def State.dropMarks (s : State) : State := { s with xp.lostMarks := s.xp.lostMarks.filter (fun m => s.now ≤ m.at_ + 6 * sec) }

/-- The island of a target: an egress cluster below 16, then the eight DRAM groups, then the audio engine (03 R96; 22 R775). -/
def targetIsl (n : Nat) : Nat := if n < 16 then n else n + 8

/-- The cluster at which a connection enters; none where it comes from a DRAM group or from the audio engine. -/
def ConnKey.entry : ConnKey → Option Nat
  | .media c _ _ => some c
  | .audioIn c _ => some c
  | .bestEffort c _ => some c
  | _ => none

/-- A peak field is raised by a free value below a bound (log entry 2). -/
def State.freePeak (s : State) (f : Fld) (bound : Nat) : State :=
  let (x, s) := s.fresh
  s.peak f (x % bound)

/-- The fills that cells of a connection bring about on their way: of the queues of its ingress cluster and of the tiles, and the wait in the reorder
buffers of the clusters that it goes to. They are free values within the bounds of 03 Tables 3.3 and 3.4. -/
def State.queuePeaks (s : State) (k : ConnKey) : State :=
  let s := s.rotation.foldl (fun (s : State) n => s.freePeak (R.XT_QPEAK n) 251) s
  let s := match k.entry with
    | some c => s.freePeak (R.PC_XPR_VOQ_PEAK c) 49153
    | none => s
  (s.xp.targets.filter (fun x => x.1 = k && x.2 < 16)).foldl (fun (s : State) x => s.freePeak (R.PC_XPR_REORD_PEAK x.2) 24001) s

/-- The connection after `n` cells of frame `frame` took the next sequence numbers (03 Table 3.1). -/
def Conn.sent (c : Conn) (frame n : Nat) : Conn :=
  let new := decide (frame % 65536 ≠ c.frame)
  { c with seq := (c.seq + n) % 2 ^ 32, frame := frame % 65536, start := if new then c.seq else c.start, was := if new then (c.frame, c.start) else c.was }

/-- Cells of a connection leave its origin in frame `frame` (03 R88, R91): they take the next sequence numbers and are counted at their tiles. While the links
of its cluster, or of one that it goes to, cannot carry what is booked, some are dropped at ingress (R128), and the frame loses data where they do not
come. -/
def State.sendCells (s : State) (k : ConnKey) (frame n : Nat) : State :=
  match s.connOf k with
  | none => s
  | some (num, c) =>
    if n = 0 then s
    else
      let to_ := s.xp.targets.filter (fun x => x.1 = k)
      let (lost, s) := match k.entry with
        | some e => if s.pressed e then s.overload e k.entry n else (0, s)
        | none => (0, s)
      let s := if lost = 0 then s else to_.foldl (fun (s : State) x => s.markLost (targetIsl x.2) k frame lost) s
      let s := to_.foldl (fun (s : State) x =>
        if x.2 < 16 && s.pressed (16 + x.2) then
          let (l, s) := s.overload (16 + x.2) k.entry (n - lost)
          if l = 0 then s else s.markLost x.2 k frame l
        else s) s
      let s := { s with xp.conns := put num (c.sent frame n) s.xp.conns }
      (s.queuePeaks k).countCells (num + c.seq) (n - lost)

/-- Samples of an audio connection fill cells: 60 samples in 32-bit slots make one (03 Table 3.2), and what does not fill one waits for the next. Answers the cells
filled, and their frame count. -/
def State.fillCells (s : State) (k : ConnKey) (samples : Nat) : (Nat × Nat) × State :=
  match s.connOf k with
  | none => ((0, 0), s)
  | some (num, c) =>
    let all := c.part + samples
    (((all / 60), c.frame), { s with xp.conns := put num { c with part := all % 60 } s.xp.conns })

/-- `samples` of an audio connection leave. -/
def State.sendSlots (s : State) (k : ConnKey) (samples : Nat) : State :=
  let ((n, frame), s) := s.fillCells k samples
  s.sendCells k frame n

/-! ### The ingress meters (03 R102) -/

/-- The cells of a connection beyond its meter: tokens in thousandths of bits at the booked rate, to the booked depth; the cells arrive over `spread`
nanoseconds from now on. A connection that is not booked is not metered. -/
def State.meter (s : State) (k : ConnKey) (cells spread : Nat) : Nat × State :=
  match s.xp.metered.find? (fun b => b.1 = k) with
  | none => (0, s)
  | some (_, rate, depth) =>
    let full := depth * 2048000
    let (t, at_) := ((s.ip.meters.find? (fun m => m.1 = k)).map (·.2)).getD (full, s.now)
    let have_ := min full (t + (s.now - at_) * rate) + spread * rate
    let pass := min cells (have_ / 2048000)
    let rest := s.ip.meters.filter (fun m => m.1 ≠ k)
    (cells - pass, { s with ip.meters := rest ++ [(k, min full (have_ - pass * 2048000), s.now + spread)] })

/-- Cells of a frame reach the ingress of a connection over a span: those beyond the meter are dropped and counted, and the frame loses them wherever it
goes; the others cross (03 R94, R102). -/
def State.enterCells (s : State) (k : ConnKey) (c frame cells spread : Nat) : State :=
  let (over_, s) := s.meter k cells spread
  let s := if over_ = 0 then s
    else (s.xp.targets.filter (fun x => x.1 = k)).foldl (fun (s : State) x => s.markLost (targetIsl x.2) k frame over_) (s.bump (R.PC_XPR_POLICED c) over_)
  s.sendCells k frame (cells - over_)

/-- Samples of an audio connection reach its ingress at a cluster over a span, and the cells that they fill pass its meter (03 R102). -/
def State.enterSlots (s : State) (k : ConnKey) (c samples spread : Nat) : State :=
  let ((n, frame), s) := s.fillCells k samples
  if n = 0 then s else s.enterCells k c frame n spread

/-! ### Best effort (03 R119, R120) -/

/-- A best-effort queue now, in thousandths of bits: it empties at the rate that admitted cells leave of its link (03 R119; log entry 67). Queue `c` below
16 is the ingress queue of cluster `c`, queue 16 + 16 t + c that of tile `t` towards cluster `c`. -/
def State.beNow (s : State) (q : Nat) : Nat :=
  let (l, at_) := lookD q s.xp.be (0, s.now)
  let free := if q < 16 then s.linkRate - s.xp.bookIn.getD q 0
    else 256000 - ceilDiv (s.xp.bookOut.getD (q % 16) 0) (max 1 s.rotation.length)
  l - (s.now - at_) * free

/-- Of some cells, those for which a best-effort queue has room, and the queue with them (03 Table 3.3). -/
def State.bePut (s : State) (q size cells : Nat) : Nat × State :=
  let l := s.beNow q
  let fit := min cells ((size * 8000 - l) / 2048000)
  (fit, { s with xp.be := put q (l + fit * 2048000, s.now) s.xp.be })

/-- A best-effort frame enters the 2 MiB queue of its cluster, or is dropped whole where that lacks room for all its cells (03 R120), or where the cluster drops
admitted cells (R128). -/
def State.beEnter (s : State) (c cells : Nat) : Bool × State :=
  if s.choked c || 2097152 * 8000 < s.beNow c + cells * 2048000 then (false, s.bump (R.PC_XPR_BE_DROP c) 1)
  else (true, (s.bePut c 2097152 cells).2)

/-- The cells of a best-effort frame cross to a cluster from a place of the rotation on (03 R119, R120): each tile drops those for which its 16 KiB queue
has no room, and a frame with a dropped cell is discarded at egress. Answers whether it arrives whole. -/
def State.beCross (s : State) (target from_ cells : Nat) : Bool × State :=
  let rot := s.rotation
  let (whole, s) := rot.zipIdx.foldl (fun (acc : Bool × State) x =>
    let k := shareOf cells from_ rot.length x.2
    let (fit, s) := acc.2.bePut (16 + 16 * x.1 + target) 16384 k
    (acc.1 && fit = k, (s.bump64 (R.XT_BE_CELLS_LO x.1) fit).bump (R.XT_BE_DROP x.1) (k - fit))) (true, s)
  (whole, if whole then s else s.bump (R.PC_XPR_BE_DROP target) 1)

/-- A best-effort frame is on its way to a cluster: it takes the next cell numbers of its connection (03 R120). -/
def State.beSend (s : State) (c target cells : Nat) (ports : List Nat) (f : EthFrame) : State :=
  let n := lookD (16 * c + target) s.xp.beSeq 0
  { s with
    xp.beSeq := put (16 * c + target) ((n + cells) % 2 ^ 32) s.xp.beSeq
    xp.beFly := s.xp.beFly ++ [⟨c, target, n, cells, ports, f, s.now⟩] }

/-- Does a best-effort frame under way hold a cell of a connection? -/
def BeFly.has (x : BeFly) (c target seq : Nat) : Bool := x.cluster = c && x.target = target && (seq + 2 ^ 32 - x.first) % 2 ^ 32 < x.cells

/-- A best-effort frame with a lost cell is discarded at egress (03 R120). -/
def State.beLost (s : State) (c target seq : Nat) : State := { s with xp.beFly := s.xp.beFly.filter (fun x => !x.has c target seq) }

end Sys2Proof.Machine
end

