-- ==== Sys2Proof/Machine/Operands.lean ====
section
/-! DEFINITION. Operand forms: the TLVs of a SiCP message and their checks (15 R569, R570, R577), salvo entries (04 Table 4.4),
levels and modes, video format codes (02 Table 2.8), signal numbers (01 R46, 13 R485). -/

namespace Sys2Proof.Machine

/-! ### TLVs -/

/-- The lengths that Table 15.3 allows for a TLV type. -/
def tlvLenOk (typ len : Nat) : Bool :=
  match typ with
  | 0x0001 | 0x0002 | 0x0003 | 0x0010 | 0x0026 => len = 12
  | 0x0004 | 0x0005 | 0x0006 | 0x0007 | 0x0009 | 0x000A | 0x000D | 0x000E | 0x0015 | 0x0016 | 0x0017 | 0x0018 | 0x001F
  | 0x0022 | 0x0023 | 0x0024 | 0x0025 | 0x002A | 0x002B => len = 4
  | 0x0008 | 0x0011 | 0x0012 | 0x0013 | 0x001A | 0x001D | 0x0027 | 0x0028 | 0x0029 | 0x002C => len = 8
  | 0x000B => len % 12 = 0 && 1 ≤ len / 12 && len / 12 ≤ 114
  | 0x000C => len % 2 = 0 && len / 2 ≤ 512
  | 0x000F => len = 40
  | 0x0014 => len = 24
  | 0x0019 => 1 ≤ len && len ≤ 1360
  | 0x001B => len % 4 = 0 && 1 ≤ len / 4 && len / 4 ≤ 64
  | 0x001C => len % 8 = 0 && 1 ≤ len / 8 && len / 8 ≤ 64
  | 0x001E => 24 ≤ len && len ≤ 88
  | 0x0020 => len = 32
  | 0x0021 => len = 16
  | _ => true

/-- One place of a message's catalogue entry (15 Table 15.4): the types that may stand there, and how often at least and at
most. -/
structure Place where
  types : List Nat
  least : Nat
  most : Nat
deriving DecidableEq, Repr

/-- The catalogue places that are left once a TLV of type `typ` has been taken; none where the type may not stand here. -/
def takeSlot (typ : Nat) : List Place → Nat → Option (List Place × Nat)
  | [], _ => none
  | p :: ps, n =>
    if p.types.contains typ && n < p.most then some (p :: ps, n + 1)
    else if p.least ≤ n then takeSlot typ ps 0
    else none

/-- Is every place that is left satisfied? -/
def slotsDone : List Place → Nat → Bool
  | [], _ => true
  | p :: ps, n => p.least ≤ n && ps.all (fun q => q.least = 0)

/-- Read the TLVs of a body in order (15 R569, R570): the TLVs, or the offset of the first byte found wrong. `off` is the
offset of the next TLV from the start of the message; `fuel` bounds their number. A type from 0x8000 on is ignored. -/
def readTlvs : Nat → List Place → Nat → Nat → List Byte → List Tlv → Nat ⊕ List Tlv
  | 0, _, _, off, _, _ => .inl off
  | fuel + 1, ps, n, off, v, acc =>
    if v = [] then (if slotsDone ps n then .inr acc else .inl off)
    else if v.length < 4 then .inl off
    else
      let typ := beAt v 0 2
      let len := beAt v 2 2
      if 0x8000 ≤ typ then
        if v.length < 4 + len then .inl (off + 2) else readTlvs fuel ps n (off + 4 + len) (v.drop (4 + len)) acc
      else match takeSlot typ ps n with
        | none => .inl off
        | some (ps', n') =>
          if v.length < 4 + len || !tlvLenOk typ len then .inl (off + 2)
          else readTlvs fuel ps' n' (off + 4 + len) (v.drop (4 + len)) (acc ++ [⟨typ, (v.drop 4).take len⟩])

/-- The check of R570: the TLVs of a message, or DETAIL, the offset of the first byte found wrong. -/
def checkMsg (typ : Nat) (q : Req) (slots : List Place) : Nat ⊕ List Tlv :=
  if q.version ≠ 1 then .inl 0
  else if !requestTypes.contains typ then .inl 1
  else if q.length ≠ q.body.length then .inl 12
  else readTlvs (q.body.length + 1) slots 0 16 q.body []

/-- The value of the first TLV of a type. -/
def tlv (ts : List Tlv) (typ : Nat) : List Byte := (((ts.find? (fun x => x.typ = typ))).map (·.val)).getD []

/-- Does a TLV of a type occur? -/
def hasTlv (ts : List Tlv) (typ : Nat) : Bool := ts.any (fun x => x.typ = typ)

/-- A field of the first TLV of a type, in network order. -/
def fld (ts : List Tlv) (typ o n : Nat) : Nat := beAt (tlv ts typ) o n

/-- Are the reserved fields of a TLV 0 and its values in the ranges that Table 15.3 states by themselves (15 R577)? Values
whose range depends on the image or on the state are judged by the message's own rules. -/
def tlvValOk (x : Tlv) : Bool :=
  let z (o n : Nat) : Bool := beAt x.val o n = 0
  let f (o n : Nat) : Nat := beAt x.val o n
  match x.typ with
  | 0x0002 => z 10 2 && f 6 4 < sec
  | 0x0004 => f 0 4 < 2 ^ 20
  | 0x0005 => f 0 4 < 2 ^ 20 || f 0 4 = 0xFFFFFFFF
  | 0x0006 => f 0 1 < 8 && f 1 1 < 4 && z 2 2
  | 0x0007 => z 1 3
  | 0x0009 => f 0 2 < 256 && z 2 2
  | 0x000A => f 0 4 < 2
  | 0x000D => z 1 1
  | 0x000E => f 0 2 < 8192 && f 2 1 < 4 && z 3 1
  | 0x000F => (f 0 1 = 1 || f 0 1 = 2) && f 1 1 < 2 && z 6 2
  | 0x0010 => z 10 2
  | 0x0011 => f 0 2 < 1024 && z 2 2 && z 6 2
  | 0x0012 => z 6 2
  | 0x0013 => z 2 2 && f 4 4 ≤ 480000
  | 0x0015 => f 0 1 < 16 && f 1 1 < 64 && z 2 2
  | 0x0016 => f 0 1 < 16 && z 2 2
  | 0x0017 => 1 ≤ f 0 1 && f 0 1 ≤ 3 && (f 0 1 = 1 || f 1 1 < 16) && (if f 0 1 = 2 then f 2 1 < 2 else z 2 1) && f 3 1 < 2
  | 0x001A => 1 ≤ f 5 1 && f 5 1 ≤ 64 && z 6 2
  | 0x001D => f 2 1 ≤ 4 && z 3 1 && f 4 4 < 256
  | 0x0022 => f 0 1 < 8 && z 1 3
  | 0x0023 => f 0 1 < 40 && z 1 3
  | 0x0024 => f 0 2 < 1024 && z 2 2
  | 0x0025 => z 1 3
  | 0x0026 => z 7 1
  | 0x0028 => true
  | 0x0029 => z 4 4
  | 0x002A => f 1 1 < 4 && z 3 1
  | 0x002B => z 1 3
  | 0x002C => 1 ≤ f 4 2 && f 4 2 ≤ 14 && z 6 2
  | _ => true

/-- An instant in the form of the INSTANT and EFFECTIVE TLVs (15 Table 15.3). -/
def instantBytes (t : Time) : List Byte := beBytes 6 (t / sec) ++ beBytes 4 (t % sec) ++ beBytes 2 0

/-- The instant of an INSTANT TLV. -/
def instantOf (v : List Byte) : Time := beAt v 0 6 * sec + beAt v 6 4

/-- The EFFECTIVE TLV of an instant. -/
def effective (t : Time) : Tlv := ⟨0x0003, instantBytes t⟩

/-- The EVENT TLV value of an event (15 Table 15.3). -/
def Event.bytes (e : Event) : List Byte :=
  beBytes 6 (e.time / sec) ++ beBytes 4 (e.time % sec) ++ beBytes 1 e.isl ++ beBytes 1 e.cls ++ beBytes 2 e.code ++ beBytes 4 e.iseq
    ++ beBytes 1 e.eflags ++ beBytes 1 0 ++ beBytes 2 e.detail.length ++ beBytes 2 0 ++ e.detail

/-! ### Levels, modes and salvo entries -/

/-- The levels of a mask; 0 names all three (02 R71, 04 Table 4.4). -/
def levelsOf (m : Nat) : List Level :=
  if m % 8 = 0 then [.video, .audio, .anc]
  else (if bit m 0 then [.video] else []) ++ (if bit m 1 then [.audio] else []) ++ (if bit m 2 then [.anc] else [])

/-- The bit of a level in a mask (04 Table 4.4). -/
def Level.mask : Level → Nat
  | .video => 1 | .audio => 2 | .anc => 4

/-- A timing mode's code in DESTINATION records and SHTn.DST (02 Table 2.11, 04 Table 4.19). -/
def TMode.code : TMode → Nat
  | .direct => 0 | .synced => 1 | .catching => 2

/-- The mode that a MODE field names; 0 keeps the current mode (04 Table 4.4). -/
def modeOf (m : Nat) (cur : TMode) : TMode :=
  if m = 1 then .direct else if m = 2 then .synced else if m = 3 then .catching else cur

/-- A salvo entry from its 12 bytes (04 Table 4.4). -/
def entryOf (v : List Byte) : SEntry :=
  { dest := leAt v 0 4, src := leAt v 4 4, levels := byteAt v 8, mode := byteAt v 9, rsv := leAt v 10 2 }

/-- The entries of a run of bytes, `n` of them. -/
def entriesOf (v : List Byte) (n : Nat) : List SEntry := (List.range n).map (fun i => entryOf (v.drop (12 * i)))

/-- Does an entry hold a reserved value (04 R162)? -/
def SEntry.reserved (e : SEntry) : Bool :=
  2 ^ 20 ≤ e.dest || (2 ^ 20 ≤ e.src && e.src ≠ 0xFFFFFFFF) || 8 ≤ e.levels || 4 ≤ e.mode || e.rsv ≠ 0

/-- A source number, or none for a release. -/
def srcOpt (n : Nat) : Option Nat := if n = 0xFFFFFFFF then none else some n

/-- A source as a 32-bit field: 0xFFFF_FFFF for fill. -/
def srcField (o : Option Nat) : Nat := o.getD 0xFFFFFFFF

/-! ### Signal numbers -/

/-- The pair number of a global signal ID: half its chip number (13 R484, R485). -/
def pairOfId (id : Nat) : Nat := id / 2048

/-- The index of a global signal ID (01 R46). -/
def indexOfId (id : Nat) : Nat := id % 1024

/-- The pair number of this chip. -/
def State.pair (s : State) : Nat := s.chip / 2

/-- Does a global ID name a signal of this pair, in either form of R485? -/
def State.ours (s : State) (id : Nat) : Bool := pairOfId id = s.pair

/-- The global ID of an index of this pair, in the form of this chip (01 R46). -/
def State.gid (s : State) (i : Nat) : Nat := s.chip * 1024 + i

/-- The one form of a global ID that stands for both of R485: that of the even chip. -/
def evenForm (id : Nat) : Nat := id / 2048 * 2048 + id % 1024

/-! ### Sources, destinations and formats -/

/-- The SOURCE record of an index (02 Table 2.10). -/
def State.srcRec (s : State) (i : Nat) : Option (List Byte) := s.recOf 0x0101 0 2 i

/-- The DESTINATION record of an index (02 Table 2.11). -/
def State.dstRec (s : State) (i : Nat) : Option (List Byte) := s.recOf 0x0102 0 2 i

/-- KIND of a SOURCE or DESTINATION record. -/
def recKind (v : List Byte) : Nat := byteAt v 2

/-- The grouping of a record: 0 none, 1 dual-link, 2 quad-link. -/
def recGroup (v : List Byte) : Nat := byteAt v 3 % 4

/-- FORMAT, BIND and SLOTS of a record. -/
def recFormat (v : List Byte) : Nat := leAt v 4 2
def recBind (v : List Byte) : Nat := leAt v 6 2
def recSlots (v : List Byte) : Nat := leAt v 8 2

/-- The flow numbers of a record, in slot order (02 R54). -/
def recFlows (v : List Byte) : List Nat :=
  if recKind v = 1 || recKind v = 2 then (List.range (recBind v)).map (fun i => leAt v (12 + 2 * i) 2) else []

/-- The number of C-lanes of a grouping (02 R64). -/
def groupLanes (g : Nat) : Nat := if g = 1 then 2 else if g = 2 then 4 else 1

/-- The C-lanes of an SDI record. -/
def recLanes (v : List Byte) : List Nat :=
  if recKind v = 0 then (List.range (groupLanes (recGroup v))).map (fun i => recBind v + i) else []

/-- The fields of a video format code (02 Table 2.8). -/
def fmtRaster (f : Nat) : Nat := bits f 15 12
def fmtScan (f : Nat) : Nat := bits f 11 10
def fmtSampling (f : Nat) : Nat := bits f 9 8
def fmtRate (f : Nat) : Nat := bits f 3 0

/-- Width and height of a raster (02 Table 2.8). -/
def rasterW (r : Nat) : Nat := if r = 1 then 1280 else if r = 2 then 1920 else if r = 3 then 3840 else 0
def rasterH (r : Nat) : Nat := if r = 1 then 720 else if r = 2 then 1080 else if r = 3 then 2160 else 0

/-- Bits per pixel of a sampling (03 Table 3.5). -/
def samplingBits (x : Nat) : Nat := if x = 0 then 20 else if x = 1 then 24 else if x = 2 then 30 else 36

/-- Two formats match when raster, scan, sampling and rate code are equal (02 R61). -/
def fmtMatch (a b : Nat) : Bool :=
  fmtRaster a = fmtRaster b && fmtScan a = fmtScan b && fmtSampling a = fmtSampling b && fmtRate a = fmtRate b

/-- The frame rate code of a destination: its record's RATE, which with RASTER 0 still gives its timing (02 R63). -/
def State.dstRate (s : State) (i : Nat) : Nat := ((s.dstRec i).map (fun v => fmtRate (recFormat v))).getD 7

/-- The state of a destination. -/
def State.dst (s : State) (i : Nat) : DstSt := lookD i s.xp.dst {}

/-- Change the state of a destination. -/
def State.setDst (s : State) (i : Nat) (d : DstSt) : State := { s with xp.dst := put i d s.xp.dst }

/-- A level of a destination. -/
def DstSt.level (d : DstSt) : Level → LevelSt
  | .video => d.video | .audio => d.audio | .anc => d.anc

/-- Change a level of a destination. -/
def DstSt.setLevel (d : DstSt) (lv : Level) (x : LevelSt) : DstSt :=
  match lv with
  | .video => { d with video := x }
  | .audio => { d with audio := x }
  | .anc => { d with anc := x }

end Sys2Proof.Machine
end

