-- ==== Sys2Proof/Machine/Memory.lean ====
section
/-! DEFINITION. The memory controllers: rows with their ECC bursts, the keyed interleave, and the row-runs by which bobbin data move, with their
predictors, gather buffers and queues (09 R331 to R343, R346). -/

namespace Sys2Proof.Machine

/-! ### Data rows (09 R331, Table 9.1) -/

/-- The first address of the bobbin space (01 Table 1.5). -/
def spaceBase : Nat := 0x1000000000

/-- The data bytes of a row. -/
def rowBytes : Nat := 1984

/-- Where a bobbin address lies (09 Table 9.1): its data row, and the byte in it. `a` counts from the start of the bobbin space. -/
def rowOf (a : Nat) : Nat := a / rowBytes % 2 ^ 26
def byteInRow (a : Nat) : Nat := a % rowBytes

/-- The burst of a byte of a data row. -/
def burstOf (b : Nat) : Nat := b / 64

/-- Tier, group and position of a data row. -/
def rowTier (r : Nat) : Nat := bits r 25 23
def rowGroup (r : Nat) : Nat := bits r 22 5
def rowPos (r : Nat) : Nat := bits r 4 0

/-- The `n` members of a list in an order that numbers draw: the i-th drawn is the one at place `draw i` of those that are left. Every permutation has
such numbers. -/
def drawn (draw : Nat → Nat) : Nat → List Nat → List Nat
  | 0, _ => []
  | n + 1, l =>
    let x := l.getD (draw n % l.length) 0
    x :: drawn draw n (l.erase x)

/-- σ_g, a permutation of 0 to 31 (09 Table 9.1; log entry 84). -/
def sigma (key g : Nat) : List Nat := drawn (Config.sigmaDraw key g) 32 (List.range 32)

/-- φ_c, a bijection of 18-bit numbers for a channel (09 Table 9.1; log entry 84). -/
def phi (key c : Nat) : List Nat := drawn (Config.phiDraw key c) (2 ^ 18) (List.range (2 ^ 18))

/-- The place of a data row in the devices. -/
structure RowPlace where
  lp : Nat
  bank : Nat
  row : Nat
deriving DecidableEq, Repr

/-- The channel of a data row: Table 9.1 step 6. -/
def rowChannel (key r : Nat) : Nat := (sigma key (rowGroup r)).getD (rowPos r) 0

/-- The place of a data row: Table 9.1 steps 6 to 8. -/
def rowPlace (key r : Nat) : RowPlace :=
  let c := rowChannel key r
  let x := (phi key c).getD (rowGroup r) 0
  ⟨c, bits x 17 14, rowTier r * 16384 + bits x 13 0⟩

/-! ### What a row holds (09 R331 to R333) -/

/-- The data bytes of burst `b` of data row `r`. -/
def Dram.burst (d : Dram) (r b : Nat) : List Byte := memRead d.data (r * rowBytes + 64 * b) 64

/-- The 16-bit code of a burst's data at a place (09 R332): the SEC-DED code over the data, and the check of the channel and the device row under the
interleave key. The spec does not state the bits of either (log entry 84). -/
def Dram.codeOf (d : Dram) (r b : Nat) : Nat :=
  let p := rowPlace d.key r
  Config.secDed (d.burst r b) % 2 ^ 11 + 2 ^ 11 * (Config.rowCheck d.key p.lp (p.bank * 131072 + p.row) % 2 ^ 5)

/-- The ECC burst of a row: the code of data burst `b` at bytes 2b and 2b + 1; bytes 62 and 63 are 0 (09 R331). -/
def Dram.eccBurst (d : Dram) (r : Nat) : List Byte := (List.range 31).flatMap (fun b => leBytes 2 (lookD (31 * r + b) d.ecc 0)) ++ [0, 0]

/-- The 2048 bytes of a row: 31 data bursts and the ECC burst (09 R331). -/
def Dram.rowData (d : Dram) (r : Nat) : List Byte := memRead d.data (r * rowBytes) rowBytes ++ d.eccBurst r

/-- Bytes of a data row are written under byte masks: no other byte changes, and only the codes of the bursts that they lie in (09 R333). -/
def Dram.rowWrite (d : Dram) (r : Nat) (cells : List Host.Cell) : Dram :=
  let d := { d with data := cells.foldl (fun (m : List Host.Cell) (x : Host.Cell) => memPut m x.1 x.2) d.data }
  let bursts := (cells.map (fun x => burstOf (byteInRow x.1))).eraseDups
  { d with ecc := bursts.foldl (fun (m : List (Nat × Nat)) (b : Nat) => put (31 * r + b) (d.codeOf r b) m) d.ecc }

/-! ### Row-runs (09 R339, R341, R346) -/

/-- What a channel counts of the accesses to its rows, before a read of the register takes it (09 Table 9.12). -/
inductive LpCount where
  | rawWaits | predHit | predMiss | rdRuns | wrRuns | actPeak
deriving DecidableEq, Repr

/-- The place of a count among those of its channel. -/
def LpCount.num : LpCount → Nat
  | .rawWaits => 0 | .predHit => 1 | .predMiss => 2 | .rdRuns => 3 | .wrRuns => 4 | .actPeak => 5

/-- The register that shows a count of a channel. -/
def LpCount.fld (x : LpCount) (lp : Nat) : Fld := match x with
  | .rawWaits => R.LP_RAW_WAITS lp
  | .predHit => R.LP_PRED_HIT lp
  | .predMiss => R.LP_PRED_MISS lp
  | .rdRuns => R.LP_RD_RUNS lp
  | .wrRuns => R.LP_WR_RUNS lp
  | .actPeak => R.LP_ACT_PEAK lp

/-- A count of a channel. -/
def Dram.count (d : Dram) (lp : Nat) (x : LpCount) : Nat := lookD (8 * lp + x.num) d.counts 0

/-- Change a count of a channel. -/
def Dram.setCount (d : Dram) (lp : Nat) (x : LpCount) (n : Nat) : Dram := { d with counts := put (8 * lp + x.num) n d.counts }

/-- Count one. -/
def Dram.tally (d : Dram) (lp : Nat) (x : LpCount) : Dram := d.setCount lp x (d.count lp x + 1)

/-- The state of a bank. -/
def Dram.bank (d : Dram) (p : RowPlace) : RowBank := lookD (16 * p.lp + p.bank) d.banks {}

/-- An activation of a row in the table of its bank, which has 32 entries (09 R346). DESIGN CHOICE (log entry 106): of several entries with the lowest count the first
in the list is replaced. A count stays at 1024 until its neighbour refresh (R347). -/
def Dram.activate (d : Dram) (p : RowPlace) : Dram :=
  let mine := d.act.filter (fun a => a.1 = p.lp && a.2.1 = p.bank)
  let least := mine.foldl (fun (m : Option (Nat × Nat × Nat × Nat)) a => match m with
    | none => some a
    | some b => if a.2.2.2 < b.2.2.2 then some a else some b) none
  let (gone, n) : Option Nat × Nat := match mine.find? (fun a => a.2.2.1 = p.row) with
    | some a => (some p.row, min 1024 (a.2.2.2 + 1))
    | none => if mine.length < 32 then (none, 1) else (least.map (·.2.2.1), ((least.map (·.2.2.2)).getD 0) + 1)
  let rest := d.act.filter (fun a => !(a.1 = p.lp && a.2.1 = p.bank && some a.2.2.1 = gone))
  { d with act := rest ++ [(p.lp, p.bank, p.row, n)] }.setCount p.lp .actPeak (max (d.count p.lp .actPeak) n)

/-- The requests of a row-run, its `n` bursts, meet their bank (09 R341; DEDUCED, log entry 84): the first finds the row open, another row or none, each of the rest the
row open. A bank kept open for 1 µs without a request is precharged, which is no outcome of its prediction. Answers whether the row is open at the first. -/
def Dram.request (d : Dram) (up : Nat) (p : RowPlace) (n : Nat) : Bool × Dram :=
  let b := d.bank p
  let idle := b.kept && b.at_ + 1000 ≤ up
  let same := b.row = some p.row
  let open_ := b.kept && !idle
  let first := if !open_ then b.ctr else if same then min 3 (b.ctr + 1) else b.ctr - 1
  let ctr := min 3 (first + (n - 1))
  let d := if b.row.isNone || idle then d else if same = b.kept then d.tally p.lp .predHit else d.tally p.lp .predMiss
  (open_ && same, { d with banks := put (16 * p.lp + p.bank) { ctr := ctr, row := some p.row, kept := decide (2 ≤ ctr), at_ := up } d.banks })

/-- A row is opened for some bursts (09 R339): activated where it is not open. While a change of point pauses the devices it waits for the end of the pause (R353). -/
def Dram.opened (d : Dram) (up : Nat) (p : RowPlace) (n : Nat := 32) : Dram :=
  let (open_, d) := d.request (max up d.pause) p n
  if open_ then d else d.activate p

/-- A row-run of `n` bursts, the ECC burst among them (09 R339). -/
def Dram.rowRun (d : Dram) (up r : Nat) (write : Bool) (n : Nat := 32) : Dram :=
  let p := rowPlace d.key r
  (d.opened up p n).tally p.lp (if write then .wrRuns else .rdRuns)

/-! ### Gather buffers and queues (09 R339, R342, R343, R353) -/

/-- A gathered write reaches the device; what a stream had fetched of the row is fetched anew. -/
def Dram.commit (d : Dram) (up : Nat) (g : Gather) : Dram :=
  ({ d.rowWrite g.row g.cells with fetched := d.fetched.filter (fun x => x.2 ≠ g.row) } : Dram).rowRun up g.row true
    (1 + ((g.cells.map (fun (x : Nat × Byte) => burstOf (byteInRow x.1))).eraseDups).length)

/-- What waits in the write queues goes to the devices in the order in which it came, unless a change of point pauses them (09 R342, R353). -/
def Dram.drain (d : Dram) (up : Nat) : Dram :=
  if up < d.pause then d else d.queue.foldl (fun (d : Dram) g => d.commit up g) { d with queue := [] }

/-- A gather buffer is written: at once, or through the write queue while a change of point pauses the devices. -/
def Dram.flush (d : Dram) (up stream : Nat) : Dram :=
  match look stream d.gather with
  | none => d
  | some g =>
    let d := { d with gather := drop stream d.gather }
    if up < d.pause then { d with queue := d.queue ++ [g] } else (d.drain up).commit up g

/-- Bytes of one data row enter the gather buffer of their stream: a row in it that is another is written first, what another
stream gathered of the row too, since it came earlier (R342), and one that is full at once (09 R339). -/
def Dram.gatherRow (d : Dram) (up stream r : Nat) (cells : List Host.Cell) : Dram :=
  let d := if (look stream d.gather).any (fun g => g.row ≠ r) then d.flush up stream else d
  let d := (d.gather.filter (fun g => g.1 ≠ stream && g.2.row = r)).foldl (fun (d : Dram) g => d.flush up g.1) d
  let old := ((look stream d.gather).map (·.cells)).getD []
  let all := cells.foldl (fun (m : List Host.Cell) (x : Host.Cell) => put x.1 x.2 m) old
  let d := { d with gather := put stream ⟨r, all⟩ d.gather }
  if rowBytes ≤ all.length then d.flush up stream else d

/-- The data rows that `n` bytes from `a` on lie in. -/
def rowsOver (a n : Nat) : List Nat := if n = 0 then [] else (List.range ((a + n - 1) / rowBytes - a / rowBytes + 1)).map (· + a / rowBytes)

/-- A stream writes bytes at rising addresses. `down` tells which channels belong to a group in reset, where writes are discarded (09 R359). -/
def Dram.streamWrite (d : Dram) (down : Nat → Bool) (up stream a : Nat) (v : List Byte) : Dram :=
  let cells := v.zipIdx.map (fun x => (a + x.2, x.1))
  (rowsOver a v.length).foldl (fun (d : Dram) r =>
    if down (rowChannel d.key r) then d else d.gatherRow up stream r (cells.filter (fun x => x.1 / rowBytes = r))) (d.drain up)

/-- A read of a data row (09 R343): it waits until every gathered or queued write of the row has reached the device, which is counted once. -/
def Dram.readRow (d : Dram) (up r : Nat) : Dram :=
  let held := d.gather.filter (fun g => g.2.row = r)
  let waits := !held.isEmpty || d.queue.any (fun g => g.row = r)
  let d := d.queue.foldl (fun (d : Dram) g => d.commit up g) { d with queue := [] }
  let d := held.foldl (fun (d : Dram) g => d.commit up g.2) { d with gather := d.gather.filter (fun g => g.2.row ≠ r) }
  let d := if waits then d.tally (rowPlace d.key r).lp .rawWaits else d
  d.rowRun up r false

/-- A stream reads bytes at rising addresses. It fetches whole data rows, each once (09 R339). -/
def Dram.streamRead (d : Dram) (up stream a n : Nat) : List Byte × Dram :=
  let d := (rowsOver a n).foldl (fun (d : Dram) r =>
    if look stream d.fetched = some r && !d.queue.any (fun g => g.row = r) && !d.gather.any (fun g => g.2.row = r) then d
    else { d.readRow up r with fetched := put stream r (d.readRow up r).fetched }) d
  (memRead d.data a n, d)

/-! ### The groups in the machine -/

/-- Is the DRAM group of a channel in reset? -/
def State.lpDown (s : State) (lp : Nat) : Bool := s.get (R.DG_STAT_STATE (lp / 4)) = 4

/-- Is some DRAM group being reset? -/
def State.groupDown (s : State) : Bool := (List.range 8).any (fun g => s.get (R.DG_STAT_STATE g) = 4)

/-- The whole data rows of a stream's frame of so many bytes are written or read (09 R339, R340). Where in the bobbin space they lie is the chip's own
choice (08 R304): the first row is a free value. -/
def State.rowsMoved (s : State) (write : Bool) (bytes : Nat) : State :=
  let (r, s) := s.fresh
  { s with dram := (List.range (ceilDiv bytes rowBytes)).foldl (fun (d : Dram) i =>
      let k := (r + i) % 2 ^ 26
      if s.lpDown (rowChannel d.key k) then d else d.rowRun s.up k write) (s.dram.drain s.up) }

/-- The count that a register of a channel shows (09 Table 9.12). -/
def lpCountAt (a : Nat) : Option (Nat × LpCount) :=
  let isl := (a - 0x4000000000) / 0x100000
  let off := (a - 0x4000000000) % 0x100000
  if a < 0x4000000000 || isl < 24 || 32 ≤ isl || off < 0x100 || 0x200 ≤ off then none
  else
    let lp := 4 * (isl - 24) + (off - 0x100) / 0x40
    ([LpCount.rawWaits, .predHit, .predMiss, .rdRuns, .wrRuns, .actPeak].find? (fun x => (x.fld lp).addr = a)).map (fun x => (lp, x))

/-- A count goes into its register, where a read finds it. -/
def State.foldCount (s : State) (a : Nat) : State :=
  match lpCountAt a with
  | none => s
  | some (lp, x) =>
    let n := s.dram.count lp x
    let s' := { s with dram.counts := drop (8 * lp + x.num) s.dram.counts }
    match x with
    | .actPeak => s'.peak (x.fld lp) n
    | _ => s'.bump (x.fld lp) n

end Sys2Proof.Machine
end

