-- ==== Sys2Proof/Machine/Probe.lean ====
section
/-! DEFINITION. The video probes (21 R733 to R735). -/

namespace Sys2Proof.Machine

/-- The sum of the differences of two lists of samples. -/
def diffSum : List Nat → List Nat → Nat
  | a :: l, b :: m => (max a b - min a b) + diffSum l m
  | _, _ => 0

/-- The samples a probe reads of a picture (21 R734): every eighth sample of every eighth line. Fill has Y = 0x040 in every
active sample (05 R209). -/
def Pic.samples (p : Pic) (format : Nat) : List Nat :=
  match p with
  | .fill => List.replicate (ceilDiv (rasterW (fmtRaster format)) 8 * ceilDiv (rasterH (fmtRaster format)) 8) 0x40
  | .pic _ l => l

/-- One measurement of a probe (21 R734), with its VPROBE record: DARK and STILL counts, MOTION, BLACK and FREEZE, and the event
VIDEO_PROBE when a flag changes. The first measured frame has no frame before it and is not still (log entry 20). -/
def State.probeOne (s : State) (v : List Byte) (ys : List Nat) : State :=
  let k := leAt v 0 2
  let g := ys.length
  let old := lookD k s.probe.vp {}
  let dark := decide ((ys.filter (fun y => orDef (leAt v 6 2) 0x50 < y)).length ≤ g / 256)
  let first := old.last.length ≠ g
  let motion := if first then 0 else 16 * diffSum ys old.last / g
  let still := !first && motion ≤ orDef (byteAt v 5) 4
  let nd := if dark then old.dark + 1 else 0
  let ns := if still then old.still + 1 else 0
  let black := dark && orDef (leAt v 8 2) 50 ≤ nd
  let freeze := still && orDef (leAt v 10 2) 100 ≤ ns
  let was := (s.has (R.VPROBE_BLACK k), s.has (R.VPROBE_FREEZE k))
  let s := { s with probe.vp := put k ⟨ys, nd, ns⟩ s.probe.vp }
  let s := ((s.set (R.VPROBE_BLACK k) (b2n black)).set (R.VPROBE_FREEZE k) (b2n freeze)).set (R.VPROBE_MOTION k) motion
  if was = (black, freeze) then s
  else s.event 34 0 0x0602 (beBytes 2 k ++ beBytes 1 (b2n black + 2 * b2n freeze) ++ beBytes 2 motion)

/-- Every probe bound to a source (`dest` false) or destination measures a frame; a target without video is not measured
(21 R734). -/
def State.measure (s : State) (dest : Bool) (idx : Nat) (ys : List Nat) : State :=
  if ys = [] then s
  else (s.recs 0x0228).foldl (fun s r =>
    if leAt r.val 2 2 = idx && bit (byteAt r.val 4) 0 = dest then s.probeOne r.val ys else s) s

end Sys2Proof.Machine
end

