-- ==== Sys2Proof/Machine/Bobbin.lean ====
section
/-! DEFINITION. Frame synchronisers, delays and the frames of sources: the switching window, the inner window and its counts
(04 R137, R147), the write of a source frame into its ring (08 R305 to R307), the frame a read connection selects (08 R308, R309)
and the banks of stills (08 R315, R316). -/

namespace Sys2Proof.Machine

/-! ### Windows -/

/-- W in nanoseconds (04 R137, Table 4.14). -/
def State.window (s : State) : Nat := orDef (byteAt (s.rec1 0x0120) 0) 32 * 1000

/-- CATCH_HOLD (04 Table 4.14). -/
def State.catchHold (s : State) : Nat := orDef (byteAt (s.rec1 0x0120) 1) 2

/-- The frame count of the alignment point at or before an instant. -/
def frameAt (rate : Nat) (t : Time) : Nat := frameFrom rate (t + 1) - 1

/-- The rate at which a source runs: its record's (02 Table 2.8), or that of a source on another pair (log entry 40), which is named by
2^20 plus its global ID. -/
def State.srcRate (s : State) (i : Nat) : Nat :=
  if 2 ^ 20 ≤ i then fmtRate (Config.farSource (i - 2 ^ 20) 1) else ((s.srcRec i).map (fun v => fmtRate (recFormat v))).getD 7

/-- Count a source frame inside or outside the inner window; the frames since the last one counted had no arrival and lay
outside (04 R147). -/
def State.countInner (s : State) (key n : Nat) (inside : Bool) : State :=
  let c := lookD key s.xp.counts ⟨n - 1, 0, 0, 0, 0⟩
  let (i, o) := if c.last = n then (c.pins, c.pouts) else if n ≤ c.last + 1 then (c.ins, c.outs)
    else (0, c.outs + (n - c.last - 1))
  let c : InCount := { last := n, ins := if inside then i + 1 else 0, outs := if inside then 0 else o + 1, pins := i, pouts := o }
  { s with xp.counts := put key c s.xp.counts }

/-- The counts of a source at a destination's rate are named by the source, or by 2^40 times the rate code and one besides where that is not the source's (04 R147). -/
def State.countKey (s : State) (src rate : Nat) : Nat := if rate = s.srcRate src then src else src + 2 ^ 40 * (rate + 1)

/-- The frames of a destination's rate counted at an instant: those whose inner window had ended before it (04 R147). `tro` is the offset of the window
of the source's kind. -/
def State.innerCounts (s : State) (src rate tro : Nat) : Nat × Nat :=
  let done := frameAt rate (s.now - tro - 3 * s.window / 4 - 1)
  match look (s.countKey src rate) s.xp.counts with
  | none => (0, 0)
  | some c =>
    if done < c.last then (c.pins, c.pouts)
    else if done = c.last then (c.ins, c.outs)
    else (0, c.outs + (done - c.last))

/-! ### Source frames -/

/-- The frame count of the alignment point nearest to an instant. -/
def nearestFrame (rate : Nat) (t : Time) : Nat :=
  let n := frameAt rate t
  if t - alignPoint rate n ≤ alignPoint rate (n + 1) - t then n else n + 1

/-- The members by which a source is classed (02 R55; 04 R137): every lane of an SDI source; the video flow, or the first flow where the source has
no video; of a source on another pair, whose members are its levels, VIDEO, or ANC where it has no video. -/
def State.classNums (s : State) (k : Nat) : List Nat :=
  if 2 ^ 20 ≤ k then [if fmtRaster (Config.farSource (k - 2 ^ 20) 1) = 0 then 2 else 0]
  else match s.srcRec k with
    | none => []
    | some v => match recKind v with
      | 0 => List.range (recLanes v).length
      | 1 => if fmtRaster (recFormat v) = 0 then [0] else place v
      | 2 => if fmtRaster (recFormat v) = 0 then [0] else place v
      | _ => [0]
where
  /-- The place of the video flow in FLOWS. -/
  place (v : List Byte) : List Nat :=
    ((recFlows v).findIdx? (fun f => (s.recOf 0x0141 0 2 f).any (fun w => byteAt w 2 ≤ 1))).toList

/-- Does every one of some members lie in a window, by the test of one? -/
def SrcFrame.all_ (f : SrcFrame) (nums : List Nat) (p : Member → Bool) : Bool := nums.all (fun j => f.members.any (fun m => m.num = j && p m))

/-- The frame of a source with a count: its latest or the one before. -/
def State.frameOf (s : State) (src n : Nat) : Option SrcFrame :=
  ((look src s.xp.srcFrames).filter (fun f => f.frame = n)).orElse (fun _ => (look src s.xp.prevFrames).filter (fun f => f.frame = n))

/-- A picture that holds samples the spec does not fix or the model does not know, as after lost cells (03 R94) or before its last packet has come: free
values. -/
def State.freePic (s : State) (format : Nat) : Pic × State :=
  let g := ceilDiv (rasterW (fmtRaster format)) 8 * ceilDiv (rasterH (fmtRaster format)) 8
  (.pic (Config.freeNat s.free % 2 ^ 32) ((List.range g).map (fun i => Config.freeNat (s.free + 1 + i) % 1024)), { s with free := s.free + 1 + g })

/-- Does a new arrival belong to the source's running frame: less than half a frame period after its arrival? -/
def State.sameFrame (s : State) (src : Nat) (t : Time) : Bool :=
  match look src s.xp.srcFrames with
  | none => false
  | some f => t < f.arrival + rateDen (s.srcRate src) * sec / (2 * max 1 (rateNum (s.srcRate src)))

/-- The rates of the destinations that take a source in CATCH, where they differ from the source's own. -/
def State.catchRates (s : State) (src : Nat) : List Nat :=
  ((s.xp.dst.filter (fun d => [d.2.video, d.2.audio, d.2.anc].any (fun x => x.src = some src && x.mode = .catching))).map
    (fun d => ((s.recOf 0x0102 0 2 d.1).map (fun v => fmtRate (recFormat v))).getD 7)).eraseDups.filter (· ≠ s.srcRate src)

/-- The running frame of a source is counted inside or outside the inner window of the destination frame in which it lies, at its own rate and at every other one
at which a destination catches it (04 R147). -/
def State.countFrame (s : State) (src : Nat) (f : SrcFrame) : State :=
  let s' := s.countInner src f.frame (f.all_ (s.classNums src) (·.inInner))
  (s.catchRates src).foldl (fun (x : State) r =>
    let n := nearestFrame r f.arrival
    let a := alignPoint r n
    x.countInner (s.countKey src r) n (decide (a ≤ f.arrival) && decide (f.arrival ≤ a + 3 * s.window / 4))) s'

/-- A member of a source starts a frame with count `n` whose arrival instant is `a`: the running frame of the source gains it where it is the `same`
frame, or a new frame begins (04 R137, R147; 08 R307). `first` says that it brings the picture. -/
def State.joinFrame (s : State) (src n : Nat) (a : Time) (same : Bool) (m : Member) (first : Bool) (pic : Pic) (anc : List (Nat × Anc)) : State :=
  let s := match look src s.xp.srcFrames, same with
    | some f, true => { s with xp.srcFrames := put src { f with
        members := f.members.filter (fun x => x.num ≠ m.num) ++ [m]
        arrival := if first then min a f.arrival else f.arrival
        pic := if first then pic else f.pic
        anc := if first then anc else f.anc } s.xp.srcFrames }
    | old, _ => { s with
        xp.srcFrames := put src ({ frame := n, arrival := a, members := [m], pic := pic, anc := anc } : SrcFrame) s.xp.srcFrames
        xp.prevFrames := match old with
          | some f => put src f s.xp.prevFrames
          | none => s.xp.prevFrames }
  match look src s.xp.srcFrames with
  | some f => s.countFrame src f
  | none => s

/-- Change the latest frame of a source. -/
def State.amendFrame (s : State) (src : Nat) (f : SrcFrame → SrcFrame) : State :=
  match look src s.xp.srcFrames with
  | some x => { s with xp.srcFrames := put src (f x) s.xp.srcFrames }
  | none => s

/-- Change the frame of a source with a count. -/
def State.amendAt (s : State) (src n : Nat) (f : SrcFrame → SrcFrame) : State :=
  match (look src s.xp.srcFrames).filter (fun x => x.frame = n), (look src s.xp.prevFrames).filter (fun x => x.frame = n) with
  | some x, _ => { s with xp.srcFrames := put src (f x) s.xp.srcFrames }
  | none, some x => { s with xp.prevFrames := put src (f x) s.xp.prevFrames }
  | none, none => s

/-- Change a member of a frame. -/
def SrcFrame.member (f : SrcFrame) (num : Nat) (g : Member → Member) : SrcFrame :=
  { f with members := f.members.map (fun m => if m.num = num then g m else m) }

/-! ### Cells of a frame (03 Table 3.5) -/

/-- C of a picture of `w × h` pixels of `b` bits. -/
def cellsOf (w h b : Nat) : Nat := ceilDiv (w * h * b) 1920

/-- C of a video format. -/
def formatCells (f : Nat) : Nat :=
  cellsOf (rasterW (fmtRaster f)) (rasterH (fmtRaster f)) (samplingBits (fmtSampling f))

/-- The bytes that a frame of a source takes in a bobbin: 256 for each cell of its picture, or of its codestream of `size` bytes. -/
def State.frameBytes (s : State) (k size : Nat) : Nat :=
  256 * (if size ≠ 0 then ceilDiv size 240
    else formatCells (if 2 ^ 20 ≤ k then Config.farSource (k - 2 ^ 20) 1 else ((s.srcRec k).map recFormat).getD 0))

/-! ### Rings -/

/-- The ring of a source. -/
def State.ring (s : State) (src : Nat) : Option Ring := look src s.bob.rings

/-- Change the ring of a source. -/
def State.setRing (s : State) (src : Nat) (r : Ring) : State := { s with bob.rings := put src r s.bob.rings }

/-- Is a slot read by a read connection or held for a repeat (08 R306; 04 R146)? -/
def State.slotHeld (s : State) (src : Nat) (r : Ring) (k : Nat) : Bool :=
  r.reads.any (fun x => x.prev = some k) ||
    s.xp.dst.any (fun d => [d.2.v, d.2.x].any (fun (y : Shown) => y.kept = some (.ring src k) || y.last = some (src, k) || y.car = .ring src k))

/-- The oldest slot that is free, taken out of the ring; none when every slot is read or held (08 R306). -/
def State.freeSlot (s : State) (src : Nat) (r : Ring) : Option Ring :=
  if r.slots.length < r.count then some r
  else match r.slots.find? (fun x => !s.slotHeld src r x.frame) with
    | some x => some { r with slots := r.slots.filter (fun y => y.frame ≠ x.frame) }
    | none => none

/-- A frame goes into a free slot of its ring; what does not reach every DRAM group, over which a bobbin is spread, is lost to its readers (03 R96; 09
R337). While a group is being reset the frame is not stored (R359; R325). -/
def State.ringStore (s : State) (src : Nat) (r : Ring) (sl : Slot) : State :=
  let reads (x : LevelSt) : Bool := x.src = some src && x.mode ≠ .direct
  let brought := (!s.xp.dst.any (fun d => reads d.2.video) || s.mediaStored src .video) && (!s.xp.dst.any (fun d => reads d.2.anc) || s.mediaStored src .anc)
  if s.groupDown then s
  else (s.setRing src { r with slots := r.slots ++ [{ sl with lost := sl.lost || !brought }], next := r.next + 1 }).rowsMoved true (s.frameBytes src sl.size)

/-- 08 R306: a source frame begins to be written into its ring, or WRITE_SKIP is counted. A frame whose measured format is not
the record's is not written. -/
def State.ringWrite (s : State) (src measured : Nat) (sl : Nat → Slot) : State :=
  match s.ring src, s.srcRec src with
  | some r, some v =>
    if !r.written || !fmtMatch measured (recFormat v) then s
    else match s.freeSlot src r with
      | none => (s.bump (R.BOB_FS_WRITE_SKIP src) 1).err R.BOB_ERR_WRITE_SKIP 1
      | some r => s.ringStore src r (sl r.next)
  | _, _ => s

/-- A frame of a source on another pair begins to be written into its ring (13 R510). -/
def State.farWrite (s : State) (src : Nat) (sl : Nat → Slot) : State :=
  match s.ring src with
  | some r =>
    if !r.written then s
    else match s.freeSlot src r with
      | none => s.err R.BOB_ERR_WRITE_SKIP 1
      | some r => s.ringStore src r (sl r.next)
  | none => s

/-- The slot that was opened in a ring between two states: none where the frame was not written (08 R306). -/
def State.ringOpened (s t : State) (src : Nat) : Option Nat :=
  match s.ring src, t.ring src with
  | some a, some b => if a.next < b.next then some a.next else none
  | _, _ => none

/-- Change the newest slot of a ring, where it holds the source's running frame: a later member of the frame being written. A frame that was not written gains
nothing (08 R306). -/
def State.ringAmend (s : State) (src : Nat) (f : Slot → Slot) : State :=
  match s.ring src, look src s.xp.srcFrames with
  | some r, some x =>
    match r.slots.getLast? with
    | some sl => if sl.count = x.frame && sl.arrival = x.arrival then s.setRing src { r with slots := r.slots.dropLast ++ [f sl] } else s
    | none => s
  | _, _ => s

/-- Change the slot of frame `k` of a ring. -/
def State.ringAmendAt (s : State) (src k : Nat) (f : Slot → Slot) : State :=
  match s.ring src with
  | none => s
  | some r => s.setRing src { r with slots := updFirst (fun x => x.frame = k) f r.slots }

/-! ### Selection -/

/-- The number of lines of the interface structure of a format (05 R182). -/
def structLines (format : Nat) : Nat := if fmtRaster format = 1 then 750 else 1125

/-- Θ_n of 08 R308 for destination frame `n`, at the first whole nanosecond at or after it (02 R808): A_n − P/2 − D + h, with D the
delay in frames and lines and h in units of P/8. -/
def threshold (rate lines n f l : Nat) (h : Int) : Int :=
  let eighths : Int := 8 * lines * n - 4 * lines - 8 * lines * f - 8 * l + h * lines
  let num : Int := eighths * (rateDen rate * sec)
  let den : Int := 8 * lines * rateNum rate
  Int.neg ((-num) / den)

/-- The newest eligible frame of a ring (08 R308). -/
def newest (slots : List Slot) (limit : Int) : Option Slot :=
  slots.foldl (fun b x => if (x.arrival : Int) ≤ limit then some x else b) none

/-- 08 R309: one selection of a read connection for destination frame `n`: the connection after it, the repeats and the drops
counted. A first selection counts neither. -/
def ReadConn.select (c : ReadConn) (slots : List Slot) (rate lines n : Nat) : ReadConn × Nat × Nat :=
  match newest slots (threshold rate lines n c.frames c.lines c.h), c.prev with
  | none, some _ => ({ c with at_ := some n, again := true, h := -1 }, 1, 0)
  | none, none => ({ c with at_ := some n, again := false }, 0, 0)
  | some x, none => ({ c with at_ := some n, again := false, prev := some x.frame }, 0, 0)
  | some x, some p =>
    if x.frame ≤ p then ({ c with at_ := some n, again := true, h := -1 }, 1, 0)
    else
      let skipped := (slots.filter (fun y => p < y.frame && y.frame < x.frame)).length
      ({ c with at_ := some n, again := false, prev := some x.frame, h := if skipped = 0 then c.h else 1 }, 0, skipped)

/-- The read connection of a delay value. -/
def Ring.read (r : Ring) (f l : Nat) : Option ReadConn := r.reads.find? (fun c => c.frames = f && c.lines = l)

/-- The frame of a slot is read for destination frame `n` (09 R339): its cells leave on the connections of the read (03 R88), and those of them that are
marked are counted (08 R324). -/
def State.readSlot (s : State) (src n f l : Nat) (sl : Slot) : State :=
  let bytes := s.frameBytes src sl.size
  let s := s.rowsMoved false bytes
  let s := (s.sendCells (.read src .video f l) n (bytes / 256)).sendCells (.read src .anc f l) n (ceilDiv (total (sl.anc.map (fun a => ancBytes a.2))) 240)
  s.lostCells (s.markedCells (fun k => k.carries src .video || k.carries src .anc) sl.count)

/-- 08 R308, R309, R311: the read connection of a delay selects for destination frame `n` once for all its destinations; REPEATS
and DROPS are counted, and the rows of the frame are read (09 R339). -/
def State.selectFrame (s : State) (src rate lines n f l : Nat) : State :=
  match s.ring src with
  | none => s
  | some r =>
    match r.read f l with
    | none => s
    | some c =>
      if c.at_ = some n then s
      else
        let (c', rep, drops) := c.select r.slots rate lines n
        let s := s.setRing src { r with reads := updFirst (fun x => x.frames = f && x.lines = l) (fun _ => c') r.reads }
        let s := match c'.prev.bind (fun p => r.slots.find? (fun x => x.frame = p)) with
          | some sl => s.readSlot src n f l sl
          | none => s
        if 2 ^ 20 ≤ src then s else (s.bump (R.BOB_FS_REPEATS src) rep).bump (R.BOB_FS_DROPS src) drops

/-- The slot of a frame. -/
def State.slotOf (s : State) (src k : Nat) : Option Slot :=
  (s.ring src).bind (fun r => r.slots.find? (fun x => x.frame = k))

/-! ### Banks of stills and planes -/

/-- The banks of a still (key the still number) or a plane (key 256 + 2h + p). -/
def State.banks (s : State) (k : Nat) : Banks := lookD k s.bob.banks {}

/-- Change the banks of a key. -/
def State.setBanks (s : State) (k : Nat) (b : Banks) : State := { s with bob.banks := put k b s.bob.banks }

/-- The valid mark of a bank. -/
def Banks.valid (b : Banks) (n : Nat) : Bool := if n = 0 then b.valid0 else b.valid1

/-- Set or clear the valid mark of a bank; a cleared bank has lost no cell. -/
def Banks.mark (b : Banks) (n : Nat) (v : Bool) : Banks :=
  let b := if v then b else { b with spoilt := b.spoilt.filter (· ≠ n) }
  if n = 0 then { b with valid0 := v } else { b with valid1 := v }

/-- The bytes of bank `n` of key `k`, by offset; what is not listed is fill, or transparent for a plane. -/
def State.bankBytes (s : State) (k n : Nat) : List (Nat × Byte) := lookD (2 * k + n) s.bob.bytes []

/-- Bytes laid over a sorted map of bytes. Every written byte is listed, since a byte not listed is fill and not 0. -/
def overlay (m : List (Nat × Byte)) (a : Nat) : List Byte → List (Nat × Byte)
  | [] => m
  | b :: v => overlay (put a b m) (a + 1) v

/-- Write bytes into bank `n` of key `k`, which gains its valid mark (08 R302). While a group is being reset the write is discarded, and the bank holds
nothing whole (09 R359). -/
def State.bankWrite (s : State) (k n o : Nat) (v : List Byte) : State :=
  if s.groupDown then s.setBanks k ((s.banks k).mark n false)
  else
    let s := { s with bob.bytes := put (2 * k + n) (overlay (s.bankBytes k n) o v) s.bob.bytes }.rowsMoved true v.length
    s.setBanks k ((s.banks k).mark n true)

/-- A bank is filled with video fill, or made transparent: nothing of it is listed (08 R316). -/
def State.bankClear (s : State) (k n : Nat) : State :=
  let s := { s with bob.bytes := drop (2 * k + n) s.bob.bytes }
  s.setBanks k ((s.banks k).mark n false)

/-- The record of a still (08 Table 8.6). -/
def State.stillRec (s : State) (i : Nat) : Option (List Byte) := s.recOf 0x0161 0 2 i

/-- The bytes of a still's picture (08 R315): W × H × b / 8. -/
def pictureBytes (format : Nat) : Nat :=
  rasterW (fmtRaster format) * rasterH (fmtRaster format) * samplingBits (fmtSampling format) / 8

/-- A still is read for frame `n` of a rate, once for all destinations of that rate (08 R318). -/
def State.stillRead (s : State) (i rate n : Nat) : State :=
  let b := s.banks i
  if look rate b.readAt = some n then s
  else
    let cells := formatCells (((s.stillRec i).map (fun v => leAt v 2 2)).getD 0)
    let src := ((s.recs 0x0101).find? (fun r => recKind r.val = 3 && recBind r.val = i)).map (fun r => leAt r.val 0 2)
    let s := (s.setBanks i { b with readAt := put rate n b.readAt }).rowsMoved false (256 * cells)
    match src with
    | some k => s.sendCells (.still k rate) n cells
    | none => s

end Sys2Proof.Machine
end

