-- ==== Sys2Proof/Machine/Request.lean ====
section
/-! DEFINITION. How every SiCP request is received: duplicates, buckets and queues, the message check, the window, the
principal's rights, acceptance and replies (15 R566 to R577, 16 R597 to R607). -/

namespace Sys2Proof.Machine

/-! ### Principals and rights -/

/-- The PRINCIPAL record of a principal (16 Table 16.8). -/
def State.princRec (s : State) (p : Nat) : List Byte := (s.recOf 0x01E2 0 2 p).getD []

/-- The TENANT record of a tenant (16 Table 16.7). -/
def State.tenantRec (s : State) (t : Nat) : List Byte := (s.recOf 0x01E0 0 2 t).getD []

/-- The effective priority of a principal: the lower of its PRIORITY and its tenant's MAX_PRIORITY (16 R604). -/
def State.prio (s : State) (p : Nat) : Nat :=
  let v := s.princRec p
  min (byteAt v 5) (byteAt (s.tenantRec (leAt v 2 2)) 3)

/-- A right that a request needs over an object (16 R595, Table 16.3), at the levels of a mask (0 for other kinds). -/
structure Need where
  right : Nat
  kind : Nat
  num : Nat
  levels : Nat := 0
deriving DecidableEq, Repr

/-- Is an object number in a range, a signal counted in either form of R485? -/
def inRange (kind num first n : Nat) : Bool :=
  let inside (x : Nat) : Bool := first ≤ x && x < first + n
  if kind = 0 then true
  else if kind = 1 || kind = 2 then inside (evenForm num) || inside (evenForm num + 1024)
  else inside num

/-- Does a GRANT entry give a right over an object at one level (16 R596)? -/
def entryGives (v : List Byte) (i : Nat) (w : Need) (lvl : Nat) : Bool :=
  let o := 8 + 12 * i
  byteAt v o = w.right && byteAt v (o + 1) = w.kind &&
    (w.kind ≠ 1 || byteAt v (o + 2) % 8 = 0 || lvl = 0 || bit (byteAt v (o + 2)) (lvl - 1)) &&
    inRange w.kind w.num (leAt v (o + 4) 4) (leAt v (o + 8) 4)

/-- The GRANT records that name a principal or its tenant (16 R597). -/
def State.grants (s : State) (p : Nat) : List Rec :=
  let t := leAt (s.princRec p) 2 2
  (s.recs 0x01E3).filter (fun r => leAt r.val 0 2 = (if bit (byteAt r.val 2) 0 then t else p))

/-- Does a principal hold a right over an object at every level needed (16 R597)? -/
def State.holds (s : State) (p : Nat) (w : Need) : Bool :=
  let gives (lvl : Nat) : Bool :=
    (s.grants p).any (fun r => (List.range (leAt r.val 4 2)).any (fun i => entryGives r.val i w lvl))
  if w.levels = 0 then gives 0
  else (List.range 3).all (fun l => !bit w.levels l || gives (l + 1))

/-- Does a principal hold a right over any object at all (16 Table 16.4: SALVO_OPEN)? -/
def State.holdsAny (s : State) (p right : Nat) : Bool :=
  (s.grants p).any (fun r => (List.range (leAt r.val 4 2)).any (fun i => byteAt r.val (8 + 12 * i) = right))

/-! ### Buckets -/

/-- RATE and BURST of a principal (16 Table 16.8). -/
def State.rate (s : State) (p : Nat) : Nat := orDef (leAt (s.princRec p) 8 4) 1000
def State.burst (s : State) (p : Nat) : Nat := orDef (leAt (s.princRec p) 12 2) 1000

/-- A bucket filled up to the present (16 R605): RATE tokens a second of elapsed time, at most BURST. -/
def State.filled (s : State) (b : Bucket) : Bucket :=
  let r := s.rate b.princ
  let n := (s.up - b.at_) * r / sec
  if s.burst b.princ ≤ b.tokens + n then { b with tokens := s.burst b.princ, at_ := s.up }
  else { b with tokens := b.tokens + n, at_ := b.at_ + n * sec / r }

/-- A principal's bucket of one kind, full at start (16 R605). -/
def State.bucket (s : State) (p : Nat) (pair : Bool) : Bucket :=
  s.filled (((s.sicp.buckets.find? (fun b => b.princ = p && b.pair = pair))).getD ⟨p, pair, s.burst p, s.up⟩)

/-- Keep a bucket. -/
def State.setBucket (s : State) (b : Bucket) : State :=
  { s with sicp.buckets := (s.sicp.buckets.filter (fun x => !(x.princ = b.princ && x.pair = b.pair))) ++ [b] }

/-- Spend a token when one is present: whether one was, and the state. -/
def State.spend (s : State) (p : Nat) (pair : Bool) : Bool × State :=
  let b := s.bucket p pair
  if b.tokens = 0 then (false, s.setBucket b) else (true, s.setBucket { b with tokens := b.tokens - 1 })

/-- RETRY of a refusal for rate: house cycles until the next token, at least 1 (15 R585, 16 R605). -/
def State.retryOf (s : State) (p : Nat) (pair : Bool) : Nat :=
  let b := s.bucket p pair
  s.cyclesTo (s.now + (b.at_ + ceilDiv sec (s.rate p) - s.up))

/-! ### Sessions and replies -/

/-- Change one session. -/
def State.setSess (s : State) (id : Nat) (f : Session → Session) : State :=
  { s with sicp.sessions := updFirst (fun c => c.id = id) f s.sicp.sessions }

/-- Count one message sent on a session: its SEQ (15 Table 15.2; log entry 7), and after 2^24 records in one direction a
KeyUpdate of the chip (15 Table 15.1). -/
def Session.sent (c : Session) : Session :=
  let n := c.txRecords + 1
  { c with
    txSeq := (c.txSeq + 1) % 2 ^ 32
    txRecords := if 2 ^ 24 ≤ n then 0 else n
    txKeys := if 2 ^ 24 ≤ n then c.txKeys + 1 else c.txKeys }

/-- A message from the chip: the header of Table 15.2 and its TLVs, in network byte order (15 R568, R569). -/
def msgBytes (typ flags seq req : Nat) (ts : List Tlv) : List Byte :=
  let body := ts.flatMap (fun t => beBytes 2 t.typ ++ beBytes 2 t.val.length ++ t.val)
  [1, BitVec.ofNat 8 typ] ++ beBytes 2 flags ++ beBytes 4 seq ++ beBytes 4 req ++ beBytes 4 body.length ++ body

/-- The RESULT TLV with which every reply begins (15 R576, Table 15.3). -/
def Reply.result (r : Reply) : Tlv :=
  ⟨0x0001, beBytes 2 r.code ++ beBytes 1 r.resource ++ beBytes 1 r.rflags ++ beBytes 2 r.chip ++ beBytes 2 r.retry ++ beBytes 4 r.detail⟩

/-- A reply as it leaves: FLAGS holds REPLY, DUPLICATE on a copy of a cached one, and FINAL (15 Table 15.2, R575). -/
def Reply.bytes (r : Reply) (seq : Nat) : List Byte :=
  msgBytes r.typ (1 + 4 * b2n r.dup + 8 * b2n r.final) seq r.req (r.result :: r.tlvs)

/-- Put a reply in the 64-reply cache: it is the last reply of its request, if that request is in the window (15 R571). -/
def Session.cache (c : Session) (r : Reply) : Session :=
  { c with window := c.window.map (fun w => if w.1 = r.req then (w.1, some { r with dup := false }) else w) }

/-- Send a reply on its session, to the address and port of the last record authenticated on it (15 R565); a session that has
ended receives none (15 R564). -/
def State.reply (s : State) (r : Reply) : State :=
  match s.sess r.sess with
  | none => s
  | some c =>
    let s := s.setSess r.sess (fun c => (c.cache r).sent)
    let n := (c.txSeq + 1) % 2 ^ 32
    s.sendVia c.port (.reply r n c.peer (r.bytes n))

/-- A reply that goes out without entering the cache: the refusals of requests that are not accepted (15 R573, R587). -/
def State.refuse (s : State) (r : Reply) : State :=
  match s.sess r.sess with
  | none => s
  | some c =>
    let n := (c.txSeq + 1) % 2 ^ 32
    (s.setSess r.sess Session.sent).sendVia c.port (.reply r n c.peer (r.bytes n))

/-- A reply of class C or S: held back until the copy that holds its outcome is confirmed (15 Table 15.5). -/
def State.replyC (s : State) (r : Reply) : State := { s with dbl.replies := s.dbl.replies ++ [r] }

/-- Above `h` in the serial-number order of RFC 1982 modulo 2^32 (15 R571). -/
def serialAbove (i h : Nat) : Bool := let d := (i + 2 ^ 32 - h) % 2 ^ 32; 0 < d && d < 2 ^ 31

/-- In the window H − 63 to H (15 R571). -/
def inWindow (i h : Nat) : Bool := (h + 2 ^ 32 - i) % 2 ^ 32 < 64

/-- Was a request ID in the window accepted before? -/
def Session.known (c : Session) (i : Nat) : Bool :=
  match c.high with
  | none => false
  | some h => inWindow i h && c.window.any (fun w => w.1 = i)

/-- Is a request ID stale: below the window, or 2^31 or more above H (15 R571)? -/
def Session.stale (c : Session) (i : Nat) : Bool :=
  match c.high with
  | none => false
  | some h => !inWindow i h && !serialAbove i h

/-- Accept a request ID: an ID above H moves the window (15 R571). -/
def Session.accept (c : Session) (i : Nat) : Session :=
  let h := match c.high with
    | none => i
    | some h => if serialAbove i h then i else h
  { c with high := some h, window := (c.window.filter (fun w => inWindow w.1 h)) ++ [(i, none)] }

/-! ### The catalogue entry and the context of a request -/

/-- A row of the catalogue (15 Table 15.4): the message type, whether its scope is the pair, and its TLVs. -/
structure Msg where
  typ : Nat
  pair : Bool
  slots : List Place
deriving DecidableEq, Repr

/-- A required place for one TLV type. -/
def one (t : Nat) : Place := ⟨[t], 1, 1⟩

/-- An optional place for one TLV type. -/
def opt (t : Nat) : Place := ⟨[t], 0, 1⟩

/-- An accepted request: its session, message type, ID, place in the single order and TLVs. -/
structure Ctx where
  sess : Session
  typ : Nat
  id : Nat
  order : Nat
  ts : List Tlv
deriving DecidableEq, Repr

/-- The reply to a request with a code. -/
def Ctx.re (c : Ctx) (code : Nat) : Reply := { sess := c.sess.id, typ := c.typ, req := c.id, code := code }

/-- Refuse with BAD_VALUE naming a TLV type. -/
def State.badValue (s : State) (c : Ctx) (typ : Nat) : State := s.reply { c.re 0x0021 with detail := typ }

/-- Refuse with BAD_STATE. -/
def State.badState (s : State) (c : Ctx) : State := s.reply (c.re 0x0022)

/-- Refuse with BUSY and a RETRY. -/
def State.busy (s : State) (c : Ctx) (retry : Nat) : State := s.reply { c.re 0x0014 with retry := retry }

/-- Refuse with NO_SUCH_SIGNAL naming a TLV type. -/
def State.noSignal (s : State) (c : Ctx) (typ : Nat) : State := s.reply { c.re 0x0025 with detail := typ }

/-- Reply OK with TLVs. -/
def State.ok (s : State) (c : Ctx) (ts : List Tlv) : State := s.reply { c.re 0x0000 with tlvs := ts }

/-- Take an accepted request of class C into the cycle whose close follows (02 R81, 15 R573). -/
def State.enqueue (s : State) (c : Ctx) (cmd : Instr) : State :=
  { s with sicp.cyc := s.sicp.cyc ++
      [⟨c.order, s.now, c.sess.id, c.sess.princ, s.prio c.sess.princ, cmd⟩] }

/-! ### Reception -/

/-- A datagram for the pair address at a chip that does not hold control (15 R566, 14 R539): handed to the twin as HANDOFF while
the doubling link is up, by a YIELDED chip for 1 s only; otherwise dropped and counted in RX_DISCARD. -/
def State.handOff (s : State) : State :=
  let may := s.dbl.linkUp && s.dbl.role ≠ .detached && (s.dbl.role ≠ .yielded || s.dbl.handoffUntil.isSome)
  if may then (s.bump R.DBL_HANDOFFS 1).dblSend 8 0 [] else s.bump R.SCP_RX_DISCARD 1

/-- Count a refusal for rate in SCP.RATE_BUSY and in the tenant's BUSY counter (16 R606). -/
def State.rateBusy (s : State) (tenant : Nat) : State := (s.bump R.SCP_RATE_BUSY 1).bump (R.TEN_BUSY tenant) 1

/-- A refusal for rights: counted, and logged as an AUDIT event with the first object found lacking a right (16 R601). -/
def State.rightsRefused (s : State) (c : Session) (m : Msg) (id : Nat) (w : Need) : State :=
  let s := (s.bump R.SCP_RIGHTS 1).bump (R.TEN_RIGHTS c.tenant) 1
  let s := s.event 34 1 0x0701 (beBytes 2 c.princ ++ beBytes 1 m.typ ++ beBytes 1 w.kind ++ beBytes 4 w.num)
  s.refuse { sess := c.id, typ := m.typ, req := id, code := 0x0011 }

/-- A repeat of an accepted request (15 R571, R572): it spends a token when one is present, and the last reply is sent again
with DUPLICATE set; with no reply yet, nothing is sent. -/
def State.duplicate (s : State) (c : Session) (id : Nat) : State :=
  let s := (s.spend c.princ !c.own).2
  let s := s.bump R.SCP_DUPLICATES 1
  match (c.window.find? (fun w => w.1 = id)).bind (·.2) with
  | some r => s.refuse { r with dup := true }
  | none => s

/-- The checks that follow the message check: window, rights, values, scope; then the request is accepted and carried out
(15 R573; 16 R598, R599). -/
def State.judge (s : State) (m : Msg) (c : Session) (q : Req) (ts : List Tlv)
    (lacks : State → Session → List Tlv → Option Need) (body : State → Ctx → State) : State :=
  if c.stale q.id then
    (s.bump R.SCP_STALE 1).refuse { sess := c.id, typ := m.typ, req := q.id, code := 0x0012 }
  else match lacks s c ts with
    | some w => s.rightsRefused c m q.id w
    | none =>
      let s := (s.setSess c.id (fun c => c.accept q.id)).bump R.SCP_REQUESTS 1
      let order := s.sicp.order
      let s := { s with sicp.order := order + 1 }
      let x : Ctx := ⟨c, m.typ, q.id, order, ts⟩
      match ts.find? (fun v => !tlvValOk v) with
      | some v => s.badValue x v.typ
      | none => if m.pair && c.own then s.badState x else body s x

/-- A tenant's queue serves a message and holds `n` others (16 R607, Table 16.10). -/
def State.dequeued (s : State) (tenant n : Nat) : State := (s.bump (R.TEN_SERVED tenant) 1).set (R.TEN_QUEUE tenant) n

/-- A message leaves its tenant's queue, in which those behind it stay, and is checked (15 R570; 16 R607). -/
def State.fromQueue (s : State) (m : Msg) (c : Session) (q : Req)
    (lacks : State → Session → List Tlv → Option Need) (body : State → Ctx → State) : State :=
  let s := s.dequeued c.tenant q.backlog
  if bit q.flags 0 || bit q.flags 1 then s.bump R.SCP_BAD_MESSAGE 1
  else match checkMsg m.typ q m.slots with
    | .inl off =>
      (s.bump R.SCP_BAD_MESSAGE 1).refuse { sess := c.id, typ := m.typ, req := q.id, code := 0x0020, detail := off }
    | .inr ts => s.judge m c q ts lacks body

/-- The reception of a request (15 R566, R567, R571 to R573; 16 R605, R606). -/
def State.request (s : State) (m : Msg) (q : Req)
    (lacks : State → Session → List Tlv → Option Need) (body : State → Ctx → State) : State :=
  match s.sess q.sess with
  | none => s.bump R.SCP_RX_DISCARD 1
  | some c =>
    if !c.own && !s.dbl.role.holds then s.handOff
    else
      let s := s.setSess c.id (fun c => { c with lastRx := s.up, peer := q.peer })
      if 1400 < 16 + q.body.length then (s.spend c.princ !c.own).2.bump R.SCP_RX_DISCARD 1
      else if c.known q.id then s.duplicate c q.id
      else
        let (paid, s1) := s.spend c.princ !c.own
        let no (r : Nat) : Reply := { sess := c.id, typ := m.typ, req := q.id, code := 0x0014, retry := r }
        if !paid then (s1.rateBusy c.tenant).refuse (no (s1.retryOf c.princ !c.own))
        else if 256 ≤ q.backlog then ((s1.set (R.TEN_QUEUE c.tenant) 256).rateBusy c.tenant).refuse (no 1)
        else s1.fromQueue m c q lacks body

/-- The first of the needs that a principal does not meet (16 R598, R601). -/
def firstLack (needs : List Tlv → List Need) (s : State) (c : Session) (ts : List Tlv) : Option Need :=
  (needs ts).find? (fun w => !s.holds c.princ w)

/-- A message that needs no right. -/
def noNeeds : State → Session → List Tlv → Option Need := fun _ _ _ => none

/-- A message that needs one right over CHIP (16 Table 16.4). -/
def chipNeed (right : Nat) : State → Session → List Tlv → Option Need := firstLack (fun _ => [⟨right, 0, 0, 0⟩])

end Sys2Proof.Machine
end

