-- ==== Sys2Proof/Machine/Crosspoint.lean ====
section
/-! DEFINITION. The crosspoint: cells lost and discarded, and the drain, loss and restore of a tile (03 R89, R90, R93, R122 to R131). -/

namespace Sys2Proof.Machine

/-- XPOINT.CRC_LIMIT (03 Table 3.13). -/
def State.crcLimit (s : State) : Nat := orDef (leAt (s.rec1 0x0110) 0 2) 16

/-- CRC failures of a tile in the running Whorl second (03 R90). -/
def State.crcCount (s : State) (n : Nat) : Nat :=
  ((s.xp.crcSecond.find? (fun c => c.1 = n && c.2.1 = s.second)).map (·.2.2)).getD 0

/-- The drain or restore instant: the first whole 10 µs at least 50 µs from now (03 R124, R125). -/
def State.tileInstant (s : State) : Time := ceilDiv (s.now + 50000) 10000 * 10000

/-- The tag of the condition "more than one tile is not IN_SERVICE" of the tile that failed (03 R128). -/
def tagTwoOut : Nat := 1

/-- The tag of the condition "a tile past CRC_LIMIT cannot be drained" (03 R90). -/
def tagCrcHeld : Nat := 2

/-- The tag of the condition "a tile failed and its reset is not complete" (03 R127). -/
def tagTileLost : Nat := 3

/-- The tag of the condition "a tile past CRC_LIMIT is being drained" (03 R90). -/
def tagCrcDrain : Nat := 4

/-- A cell that fails its CRC is counted against a tile, at the cluster that received it where one did; it is an F1 notice (03 R89, R90). -/
def State.cellBad (s : State) (tile isl : Nat) : State :=
  let n := s.crcCount tile + 1
  let rest := s.xp.crcSecond.filter (fun c => c.1 ≠ tile)
  let s := { s with xp.crcSecond := rest ++ [(tile, s.second, n)] }
  let s := s.bump (R.XT_CRC_CNT tile) 1
  let s := if isl < 16 then s.bump (R.PC_XPR_CRC isl) 1 else s
  s.err (R.XT_ERR_CRC tile) 1

/-- 03 R89, R90: a cell that fails its CRC is discarded and counted against its tile, that through which the rotation sent it. `conn` and `seq` are those of
the cell as sent; an admitted cell is of a connection that exists. The loss itself shows at the reorder timeout (R93). -/
def execCellCrcFail (t : Time) (tile : Fin 8) (isl conn seq : Nat) (be : Bool) (s : State) : Host.Outcome State Fault Refusal :=
  released t s fun s =>
    if be || (s.xp.conns.any (fun c => c.1 = conn) && s.passed conn seq tile) then s.cellBad tile isl else s

/-- A tile past CRC_LIMIT is drained as for a planned drain; a drain of another tile not yet begun is void (03 R90, R124), and with it the condition of a
tile that waited for its own. Which instant stands where the tile's own TILE_DRAIN is accepted already the spec leaves open: the new one does (log
entry 66). -/
def State.drainFailing (s : State) (n : Nat) : State :=
  let s := match s.xp.drainAt with
    | some (m, _) => if m = n || s.xp.crcPending.contains m then s else s.resolve (16 + m) tagCrcDrain
    | none => s
  { s with xp.drainAt := some (n, s.tileInstant) }

/-- 03 R90: the failures of a tile exceed CRC_LIMIT in a Whorl second. -/
def execCrcLimitExceeded (t : Time) (tile : Fin 8) (s : State) : Host.Outcome State Fault Refusal :=
  released t s fun s =>
    if s.crcCount tile ≤ s.crcLimit || s.tile tile ≠ .inService then s
    else if s.othersServe tile then
      if s.flt.conds.any (fun c => c.isl = 16 + tile.val) && s.xp.drainAt.map (·.1) = some tile.val then s
      else (s.drainFailing tile).raise (16 + tile) 2 0x0002 tagCrcDrain
        (beBytes 4 4 ++ beBytes 4 1 ++ beBytes 4 0) { typ := 4, master := 0x40 + 16 + tile }
    else
      let s := { s with xp.crcPending := s.xp.crcPending.filter (· ≠ tile.val) ++ [tile.val] }
      s.raise (16 + tile) 3 0x0002 tagCrcHeld (beBytes 4 4 ++ beBytes 4 1 ++ beBytes 4 0)
        { typ := 4, master := 0x40 + 16 + tile }

/-- 03 R93, R120: a cell still missing 28 µs after a later cell of its connection is declared lost; its frame is marked (R94), and one on its way into a bobbin is counted when it is read (08 R324). A best-effort frame is
discarded, and counted once. The connection is given by what it carries, since the chip chooses its number; the sequence number tells which data of the frame are
missing. -/
def execReorderTimeout (t : Time) (isl : Nat) (conn : ConnKey) (seq frame : Nat) (s : State) : Host.Outcome State Fault Refusal :=
  released t s fun s =>
    let s := if isl < 16 then (s.bump (R.PC_XPR_LOST isl) 1).peak (R.PC_XPR_REORD_PEAK isl) 28000 else s
    let marked := s.xp.lostMarks.any (·.on isl conn frame)
    let s := match conn with
      | .bestEffort c n => if isl < 16 && !marked then (s.beLost c n seq).bump (R.PC_XPR_BE_DROP isl) 1 else s.beLost c n seq
      | _ => s
    s.markLost isl conn frame 1 (s.cellPlace conn seq frame)

/-- The refusal of a drain: REFUSED_CAPACITY with XP_SPARE and this chip's number (03 R112, R118, R123). -/
def State.noSpare (s : State) (c : Ctx) : State :=
  (s.bump (R.ADM_REFUSED 0x0B) 1).reply { c.re 0x0010 with resource := 0x0B, chip := s.chip }

/-- 03 R123, R124, Table 3.12: TILE_DRAIN is accepted while all eight tiles are IN_SERVICE. -/
def execTileDrain (t : Time) (q : Req) (s : State) : Host.Outcome State Fault Refusal :=
  served t s fun s => s.request ⟨0x50, false, [one 0x22]⟩ q (chipNeed 9) fun s c =>
    let n := fld c.ts 0x22 0 1
    if s.tile n ≠ .inService || !s.othersServe n || s.xp.drainAt.isSome then s.noSpare c
    else
      let td := s.tileInstant
      { s with xp.drainAt := some (n, td) }.ok c [effective td]

/-- 03 R125: TILE_RESTORE. -/
def execTileRestore (t : Time) (q : Req) (s : State) : Host.Outcome State Fault Refusal :=
  served t s fun s => s.request ⟨0x51, false, [one 0x22]⟩ q (chipNeed 9) fun s c =>
    let n := fld c.ts 0x22 0 1
    if s.tile n ≠ .out then s.badState c
    else
      let tr := s.tileInstant
      { s with xp.restoreAt := put n tr s.xp.restoreAt }.ok c [effective tr]

/-- 03 R92, R122, R124: at the drain instant every origin moves to the reduced rotation and the tile is DRAINING. -/
def execTileDrainInstant (t : Time) (tile : Fin 8) (s : State) : Host.Outcome State Fault Refusal :=
  released t s fun s =>
    match s.xp.drainAt with
    | some (n, td) =>
      if n = tile.val && td ≤ s.now then
        let s := { s with xp.drainAt := none }
        if s.tile tile = .inService && s.othersServe tile then s.setTile tile .draining else s
      else s
    | none => s

/-- The conditions of R90 of a tile end, since it is out of the rotation (03 R90, Table 3.12). -/
def State.crcEnded (s : State) (n : Nat) : State :=
  ({ s with xp.crcPending := s.xp.crcPending.filter (· ≠ n) }.resolve (16 + n) tagCrcDrain).resolve (16 + n) tagCrcHeld

/-- 03 R122, Table 3.10: the queues of a DRAINING tile are empty and it is OUT. -/
def execTileQueuesEmpty (t : Time) (tile : Fin 8) (s : State) : Host.Outcome State Fault Refusal :=
  released t s fun s =>
    if s.tile tile = .draining then ((s.setTile tile .out).event (16 + tile) 1 0x0101 (beBytes 1 tile)).crcEnded tile else s

/-- A reset of an island begins: RST.NOW and RST.RESETS (22 Table 22.10), its island sequence restarts at 0 (12 R449), and so does what SiCP
still has to add for its RC fields (06 R261; 09 R362; 15 R582); a reset decided
while one runs is merged (R781). -/
def State.beginReset (s : State) (isl : Nat) : State :=
  if s.has (rstNow isl) then s
  else ({ s with
    flt.iseq := drop isl s.flt.iseq, spn.blind := s.spn.blind.filter (· ≠ isl)
    sicp.rcTotal := s.sicp.rcTotal.filter (fun x => (x.1 - 0x4000000000) / 0x100000 ≠ isl) }.set (rstNow isl) 1).bump (R.RST_RESETS isl) 1

/-- The ERR bit of a tile failure's cause (03 Tables 3.9, 3.14): 0 handshake timeout, 1 uncorrectable error, 2 credit violation;
any other cause is the loss of the error-line handshake, which has no ERR bit. -/
def State.tileErr (s : State) (n cause : Nat) : State :=
  if cause = 0 then s.set (R.XT_ERR_HS_TIMEOUT n) 1
  else if cause = 1 then s.set (R.XT_ERR_ECC_UNC n) 1
  else if cause = 2 then s.set (R.XT_ERR_CREDIT n) 1
  else s

/-- A tile fails (03 R127, R128). It is LOST and out of the rotation, one reset starts, and the chip raises F2, or F3 while another tile is not
IN_SERVICE; a drain not yet begun is void (R124). -/
def State.tileFail (s : State) (n cause : Nat) (a : Acc) : State :=
  if s.tile n = .lost then s
  else
    let alone := s.othersServe n
    let cls := if alone then 2 else 3
    let s := match s.xp.drainAt with
      | some (m, _) => if s.xp.crcPending.contains m then s else s.resolve (16 + m) tagCrcDrain
      | none => s
    let s := { (s.crcEnded n).tileErr n cause with
      xp.drainAt := none, xp.restoreAt := drop n s.xp.restoreAt, xp.byLoss := s.xp.byLoss.filter (· ≠ n) ++ [n] }
    let s := ((s.setTile n .lost).hold (16 + n) tagTileLost cls 0x0102 (beBytes 1 n ++ beBytes 1 0)).latch (16 + n) cls 0x0102 a
    let s := if alone then s else s.hold (16 + n) tagTwoOut 3
    (s.beginReset (16 + n)).react cls 15 4

/-- The reset of a lost tile is complete; TILE_LOST says whether it succeeded (03 R127, Table 3.11). -/
def State.tileDone (s : State) (n : Nat) (good : Bool) : State :=
  let s := (s.clearWindow (16 + n)).set (rstNow (16 + n)) 0
  let s := if good then s.setTile n .out else s
  (s.event (16 + n) 2 0x0102 (beBytes 1 n ++ beBytes 1 (b2n good))).resolve (16 + n) tagTileLost

/-- 03 R127, R128: a tile fails. -/
def execTileFailure (t : Time) (tile : Fin 8) (cause src conn : Nat) (s : State) : Host.Outcome State Fault Refusal :=
  released t s fun s => s.tileFail tile cause { typ := if cause = 1 then 4 else 3, master := 0x40 + src, addr := conn }

/-- 03 R127, Table 3.11: the automatic reset of a lost tile is complete. -/
def execTileResetDone (t : Time) (tile : Fin 8) (good : Bool) (s : State) : Host.Outcome State Fault Refusal :=
  released t s fun s => if s.tile tile = .lost && s.has (rstNow (16 + tile)) then s.tileDone tile good else s

/-- Once at most one tile is out of service the F3 of R128 ends (03 R128; 20 R707). -/
def State.endTwoOut (s : State) : State :=
  if 7 ≤ s.rotation.length then (List.range 8).foldl (fun s n => s.resolve (16 + n) tagTwoOut) s else s

/-- A tile past CRC_LIMIT whose drain had to wait is drained once every other tile is IN_SERVICE (03 R90); its F3 lasts until it is drained (Table
3.12). -/
def State.drainHeld (s : State) : State :=
  match s.xp.crcPending.find? (fun n => s.othersServe n && s.tile n = .inService) with
  | some n => s.drainFailing n
  | none => s

/-- 03 R92, R125: at the restore instant the rotation includes the tile again. -/
def execTileRestoreInstant (t : Time) (tile : Fin 8) (s : State) : Host.Outcome State Fault Refusal :=
  released t s fun s =>
    match look tile.val s.xp.restoreAt with
    | some tr =>
      if tr ≤ s.now && s.tile tile = .out then
        let s := { s with
          xp.restoreAt := drop tile s.xp.restoreAt, xp.byLoss := s.xp.byLoss.filter (· ≠ tile.val) }
        ((s.setTile tile .inService).endTwoOut).drainHeld
      else s
    | none => s

end Sys2Proof.Machine
end

