-- ==== Sys2Proof/Machine/Faults.lean ====
section
/-! DEFINITION. Faults found by the chip: error lines, the fault collector, the failure of the log's memory, the Spindle's cores and
memory, the bus matrix and the temperature sensors (20, 22 R754, R755, R763, R764, 23 R798). -/

namespace Sys2Proof.Machine

/-- 20 R705, R707, R709 to R711: an occurrence of class F2 to F4 on an island's error line. `cond` names the condition, a one-shot one;
the event that logs it is ISLAND_ERROR's. -/
def execErrorLineOccurrence (t : Time) (isl : Fin 40) (cls : Fin 3) (cond code typ master addr : Nat) (s : State) :
    Host.Outcome State Fault Refusal :=
  released t s fun s =>
    let s := (s.hold isl (2 ^ 40 + 2 * cond) (cls + 2)).latch isl (cls + 2) code { typ := typ, master := master, addr := addr }
    s.react (cls + 2) 15 4

/-- Is a condition a one-shot one (20 R707)? -/
def oneShot (tag : Nat) : Bool := 0x100000 ≤ tag && tag % 2 = 0

/-- 20 R707: the current bit of a one-shot condition without a reaction clears after 1 ms; where the reaction is a reset, it stays while the reset runs. -/
def execCurrentBitExpiry (t : Time) (isl : Fin 40) (s : State) : Host.Outcome State Fault Refusal :=
  released t s fun s =>
    if s.has (rstNow isl) then s
    else { s with flt.conds := s.flt.conds.filter (fun c => !(c.isl = isl && oneShot c.tag && c.at_ + ms ≤ s.up)) }

/-- 20 R708: the two copies of the fault word disagree; F4. -/
def execFltCheck (t : Time) (s : State) : Host.Outcome State Fault Refusal :=
  released t s fun s =>
    (s.set R.FLT_STAT_COPY_OK 0).raise 38 4 0x0007 3 [] { typ := 3, master := 0x40 + 38 }

/-- What an error does beside its bit: a corrected error of a tile's queue memory is counted (03 Table 3.15); an uncorrectable one of the audio engine, of an
SDI framer or of a head spoils data at their next tick or frame, some of which, chosen freely, do not come through (05 Table 5.15; 10 Table 10.13; 11 Table
11.12); one of the session memory ends the session that it strikes, which is chosen freely (15 R564). -/
def State.errorEffect (s : State) (f : Fld) : State :=
  let spoil (k : Nat) : State := let (x, s) := s.fresh; { s with flt.hurt := put k x s.flt.hurt }
  if 16 ≤ f.isl ∧ f.isl < 24 ∧ f = R.XT_ERR_ECC_COR (f.isl - 16) then s.bump (R.XT_ECC_COR_CNT (f.isl - 16)) 1
  else if f = R.AUD_ERR_ECC_UNC ∨ (f.isl < 16 ∧ f = R.SDI_ERR_ECC_UNC f.isl) then spoil f.isl
  else if f.isl < 16 ∧ f = R.HD_ECC_UNC f.isl then spoil (64 + f.isl)
  else if f = R.SCP_ERR_ECC_UNC then
    let (x, s) := s.fresh
    match s.sicp.sessions[x % s.sicp.sessions.length]? with
    | some c => (s.endSession c.id).sendVia c.port (.dtlsClose c.id)
    | none => s
  else s

/-- 20 R717, R718: a block interrupts the Spindle at a condition that its ERR register names: the bit sets and the occurrence is
logged. `cls` is 0 for a condition without class and 1 to 3 for F1 to F3; `dropped` counts the events that the island's full queue
had lost. -/
def execIslandError (t : Time) (isl : Fin 40) (off : Nat) (bit : Fin 32) (cls : Fin 4) (dropped : Nat) (s : State) :
    Host.Outcome State Fault Refusal :=
  released t s fun s =>
    let f : Fld := ⟨isl, off, bit, bit⟩
    if accessOf f ≠ some .w1c then s
    else
      let s := s.bump (R.FLT_EVQ_DROP isl) dropped
      let s := if dropped = 0 then s
        else { s with flt.dropped := put isl (lookD isl.val s.flt.dropped 0 + dropped) s.flt.dropped }
      ((s.errorEffect f).set f 1).islandError f cls

/-! ### The log's memory (20 R728) -/

/-- LOG_LOST is latched and merges into a held capture or starts one; its event goes to the twin and to every subscription. -/
def State.logLost (s : State) (cause offset : Nat) : State :=
  let s := { s with flt.logFailed := true, flt.logWhy := (cause, offset) }.capture 34 2 0x0004 {}
  let s := (s.set R.FLT_WORD_HI_LOG_LOST 1).fltSync
  s.event 34 2 0x0004 (beBytes 1 cause ++ beBytes 4 offset)

/-- 22 R754: the cores of a pair disagree. The pair stops, its address is latched, and the chip raises F3. -/
def execLockstep (t : Time) (pair : Fin 4) (addr : Nat) (s : State) : Host.Outcome State Fault Refusal :=
  released t s fun s =>
    let s := s.set R.CORE_STOPPED (s.get R.CORE_STOPPED ||| 2 ^ pair.val)
    let s := s.set R.CORE_RUN (s.get R.CORE_RUN &&& (15 - 2 ^ pair.val))
    let s := (s.set R.CORE_LS_ADDR_LO addr).set R.CORE_LS_ADDR_HI (addr / 2 ^ 32)
    let s := s.set R.CORE_LS_PAIR pair
    s.errNamed R.CORE_ERR_LOCKSTEP 3 0x0006 (beBytes 1 pair ++ beBytes 5 addr) { typ := 1, master := 1 + pair, addr := addr } (lasts := true)

/-- An uncorrectable error that lies in a record of the ring, freely chosen, or in none: the record is dropped, and the log's memory has failed (20 R728).
Where the ring lies in Spindle SRAM is not given. -/
def State.ringHit (s : State) (addr : Nat) : State :=
  let (x, s) := s.fresh
  let n := s.flt.ring.length
  let i := x % (n + 1)
  if i = n then s
  else
    let w := s.flt.waits.length
    { s with flt.ring := s.flt.ring.eraseIdx i, flt.waits := if i + w < n then s.flt.waits else s.flt.waits.eraseIdx (i + w - n) }.logLost 0 (addr % 2 ^ 32)

/-- 22 R755: a single-bit error in Spindle SRAM is corrected and counted; a double-bit error is F3, and may have struck the event log's ring (20 R728). -/
def execSramEcc (t : Time) (unc : Bool) (addr : Nat) (s : State) : Host.Outcome State Fault Refusal :=
  released t s fun s =>
    if unc then (s.ringHit addr).err R.CORE_ERR_SRAM_UNC 3 { typ := 0, addr := addr }
    else (s.bump R.CORE_SRAM_COR 1).err R.CORE_ERR_SRAM_COR 1

/-! ### The bus matrix (22 R763, R764) -/

/-- A response other than OKAY: the first is captured, every one sets its ERR bit and is counted where it is an ABORT (22 R763, Table
22.3). A DECERR or DENIED of a core pair is F3. -/
def State.matrixResponse (s : State) (resp typ master addr : Nat) : State :=
  let s := if s.has R.MX_CAP_VALID then s
    else
      let s := ((s.set R.MX_CAP_VALID 1).set R.MX_CAP_RESP resp).set R.MX_CAP_TYPE typ
      ((s.set R.MX_CAP_MASTER master).set R.MX_CAP_ADDR_LO addr).set R.MX_CAP_ADDR_HI (addr / 2 ^ 32)
  let cls := if 1 ≤ master && master ≤ 4 then 3 else 2
  let a : Acc := { typ := typ, master := master, addr := addr }
  if resp = 2 then s.err R.MX_ERR_DECERR cls a
  else if resp = 3 then s.err R.MX_ERR_DENIED cls a
  else if resp = 4 then (s.bump R.MX_ABORTS 1).err R.MX_ERR_ABORT 1
  else if resp = 5 then s.err R.MX_ERR_TIMEOUT 2 a
  else s

/-! ### Temperature (23 R798) -/

/-- One sensor's reading: VALID and READ; a sensor that fails its self-check sets SENSOR and is left out until the next start. -/
def State.sensor (s : State) (i : Nat) (r : Option Int) : State :=
  match r with
  | some c =>
    if s.spn.failed.contains i then s
    else (s.set (R.TEMP_SENS_VALID i) 1).set (R.TEMP_SENS_READ i) (unsigned 8 c)
  | none =>
    if s.spn.failed.contains i then s
    else { s.set (R.TEMP_SENS_VALID i) 0 with spn.failed := s.spn.failed ++ [i] }.err R.TEMP_ERR_SENSOR 2 {} (lasts := true)

/-- Has the highest valid reading been at or above 120 °C for 1 ms (23 R798)? -/
def State.tripped (s : State) : Bool := s.spn.trip.any (fun u => u + ms ≤ s.up)

/-- How long the highest valid reading has been above 105 °C, and at or above 120 °C (23 R798). -/
def State.heat (s : State) (top : Int) : State :=
  { s with
    spn.hot := if 105 < top then some (s.spn.hot.getD s.up) else none
    spn.trip := if 120 ≤ top then some (s.spn.trip.getD s.up) else none }

/-- FLT acts on the readings of the eight sensors, by the highest valid one; TRIP governs TEMP_HIGH (23 R798, R806). -/
def State.temperature (s : State) (readings : List (Option Int)) : State :=
  let s := (List.range 8).foldl (fun s i => s.sensor i (readings.getD i none)) s
  let valid := ((List.range 8).filter (fun i => !s.spn.failed.contains i)).map (fun i => signed 8 (s.get (R.TEMP_SENS_READ i)))
  match valid with
  | [] => s
  | v :: l =>
    let top := l.foldl max v
    let s := s.set R.TEMP_NOW (unsigned 8 top)
    let s := (if signed 8 (s.get R.TEMP_PEAK) < top then s.set R.TEMP_PEAK (unsigned 8 top) else s).heat top
    let s := if (v :: l).all (· ≤ 100) then s.errDone R.TEMP_ERR_HIGH else s
    if s.tripped then s.err R.TEMP_ERR_TRIP 4 {}
    else if s.spn.hot.any (fun u => u + 10 * ms ≤ s.up) && !s.flt.conds.any (fun c => c.isl = 38 && c.tag = errTag R.TEMP_ERR_HIGH true) then
      s.err R.TEMP_ERR_HIGH 2 {} (lasts := true)
    else s

/-- 23 R798: the eight sensors are read every 1 ms. During a start only the span at 120 °C or more counts, for FLT's release (Table 23.10). -/
def execTempSample (t : Time) (readings : List (Option Int)) (s : State) : Host.Outcome State Fault Refusal :=
  live t s fun s =>
    if 5 ≤ s.get R.BOOT_STAT_STATUS then s.temperature readings
    else if !s.boot.pins then s
    else s.heat ((readings.filterMap id).foldl max (-128))

end Sys2Proof.Machine
end

