-- ==== Sys2Proof/Machine/Dram.lean ====
section
/-! DEFINITION. External memory: errors, scrubbing, refresh, frequency points, the masks of tiers, and the reset of a DRAM group with what
becomes of the bobbins (09, 08 R299, R324, R325). -/

namespace Sys2Proof.Machine

/-! ### The MEMORY record (09 Table 9.8) -/

/-- Is a frequency point allowed? -/
def State.pointAllowed (s : State) (p : Nat) : Bool :=
  let v := byteAt (s.rec1 0x0170) 1
  p = 0 || v % 8 / 2 = 0 || bit v p

/-- HOLD in elapsed nanoseconds. -/
def State.memHold (s : State) : Nat := orDef (byteAt (s.rec1 0x0170) 2) 10 * sec

/-- The guaranteed bobbin rate of a point (09 Table 9.5). -/
def pointRate (p : Nat) : Nat := if p = 0 then 3000000 else if p = 1 then 2250000 else 1125000

/-! ### Extents and tiers (08 R299; 09 R355, R356) -/

/-- The extents of a tier. -/
def tierSize : Nat := 15872

/-- The extents that a bobbin holds. -/
def Bobbin.extents (b : Bobbin) : Nat := (b.ext.map (·.2)).foldl (· + ·) 0

/-- The extents of the bobbin space (08 R299). -/
def spaceExtents : Nat := 126976

/-- Put a run of extents in its place. -/
def runIns (x : Nat × Nat) : List (Nat × Nat) → List (Nat × Nat)
  | [] => [x]
  | y :: l => if x.1 ≤ y.1 then x :: y :: l else y :: runIns x l

/-- The runs of extents that bobbins hold, rising. -/
def State.usedRuns (s : State) : List (Nat × Nat) := (s.bob.bobs.flatMap (fun b => b.2.ext)).foldr runIns []

/-- The runs that are free between rising runs, from extent `a` on. -/
def gapRuns : Nat → List (Nat × Nat) → List (Nat × Nat)
  | a, [] => if a < spaceExtents then [(a, spaceExtents - a)] else []
  | a, (x, n) :: l => (if a < x then [(a, x - a)] else []) ++ gapRuns (max a (x + n)) l

/-- The first `n` extents of some runs. -/
def firstRuns : Nat → List (Nat × Nat) → List (Nat × Nat)
  | _, [] => []
  | n, (x, k) :: l => if n = 0 then [] else if n ≤ k then [(x, n)] else (x, k) :: firstRuns (n - k) l

/-- The extents in use of a tier. -/
def State.tierUsed (s : State) (t : Nat) : Nat :=
  total (s.usedRuns.map (fun x => min (x.1 + x.2) ((t + 1) * tierSize) - max x.1 (t * tierSize)))

/-- Take `n` extents: the lowest that are free, and so of the lowest tiers (08 R299; 09 R355). Which of a tier's they are is the model's choice (log entry 19). -/
def State.takeExtents (s : State) (n : Nat) : List (Nat × Nat) := firstRuns n (gapRuns 0 s.usedRuns)

/-- Give extents back, the highest first: those that stay are the first of their number. -/
def giveExtents (e : List (Nat × Nat)) (n : Nat) : List (Nat × Nat) := firstRuns (total (e.map (·.2)) - n) (e.foldr runIns [])

/-- The tiers that hold no extent, as a mask; none with PASR_OFF (09 R355). -/
def State.tiersEmpty (s : State) : Nat :=
  if bit (byteAt (s.rec1 0x0170) 3) 0 then 0 else total ((List.range 8).map (fun t => if s.tierUsed t = 0 then 2 ^ t else 0))

/-- The tiers of a mask are masked, and what they held is lost (09 R355). -/
def State.setMask (s : State) (m : Nat) : State :=
  let s := s.set R.MEM_PASR m
  let kept (r : Nat) : Bool := !bit m (rowTier r)
  let s := { s with
    dram.data := s.dram.data.filter (fun x => kept (rowOf x.1))
    dram.ecc := s.dram.ecc.filter (fun x => kept (x.1 / 31)) }
  (List.range 8).foldl (fun s g => if s.get (R.DG_STAT_STATE g) = 2 then s.set (R.DG_STAT_PASR_MASK g) m else s) s

/-- At a close the tiers that hold no extent are masked (09 R356): what was freed at an earlier close. -/
def State.tierMask (s : State) : State := s.setMask s.tiersEmpty

/-- A tier whose first extent is admitted is unmasked at that close (09 R356). -/
def State.tierOpen (s : State) : State := s.setMask (s.get R.MEM_PASR &&& s.tiersEmpty)

/-! ### Errors (09 R334, R335, R344; 08 R324) -/

/-- An error found by a read or a scrub. The first uncorrectable one since ECC_UNC was last cleared keeps its address. -/
def State.dramError (s : State) (lp : Nat) (unc : Bool) (addr : Nat) : State :=
  let g := lp / 4
  if !unc then (s.bump (R.LP_ECC_COR lp) 1).errNamed (R.DG_ERR_ECC_COR g) 1 0x0200 (beBytes 1 lp ++ beBytes 5 addr)
  else
    let s := s.bump (R.LP_ECC_UNC lp) 1
    let s := if s.has (R.DG_ERR_ECC_UNC g) then s
      else (s.set (R.DG_UNC_ADDR_LO g) addr).set (R.DG_UNC_ADDR_HI g) (addr / 2 ^ 32)
    s.err (R.DG_ERR_ECC_UNC g) 2 { typ := 0, addr := addr }

/-- A row is opened beside the row-runs of the streams: by the scrubber, or to write a corrected burst back (09 R334, R335, R346). -/
def State.rowOpened (s : State) (lp addr : Nat) : State :=
  if s.lpDown lp then s else { s with dram := s.dram.opened s.up { rowPlace s.dram.key (rowOf (addr - spaceBase)) with lp := lp } }

/-- 09 R334: a read finds a corrected or an uncorrectable error. `slot` names the source and ring frame whose cell it was, where a frame
synchroniser read it, or 2^22 with the number of a still or plane and the bank (08 R324); the bus error of a control-plane read is the DMA's (DMA_HALT). A corrected burst is
written back. A group in reset serves no read (R359). -/
def execDramReadEcc (t : Time) (lp : Fin 32) (unc : Bool) (addr : Nat) (slot : Option (Nat × Nat)) (s : State) :
    Host.Outcome State Fault Refusal :=
  released t s fun s =>
    if s.lpDown lp then s
    else
      let s := s.dramError lp unc addr
      match unc, slot with
      | true, some (src, k) =>
        (if 2 ^ 22 ≤ src then s.setBanks (src - 2 ^ 22) { s.banks (src - 2 ^ 22) with spoilt := k :: (s.banks (src - 2 ^ 22)).spoilt.filter (· ≠ k) }
          else s.ringAmendAt src k (fun x => { x with lost := true })).lostCells 1
      | true, none => s
      | false, _ => s.rowOpened lp addr

/-- 09 R335: the scrubber reads and corrects a row: 0 clean, 1 corrected, 2 uncorrectable. A group in reset is not scrubbed (R362). -/
def execDramScrub (t : Time) (lp : Fin 32) (found : Fin 3) (addr : Nat) (s : State) : Host.Outcome State Fault Refusal :=
  released t s fun s =>
    if s.lpDown lp then s
    else
      let s := (s.bump (R.LP_SCRUB_ROWS lp) 1).rowOpened lp addr
      if found = 0 then s else s.dramError lp (found = 2) addr

/-- 09 R344: a read held at the write pointer reaches its pipeline need: it is abandoned, counted, and its destination's frame is an
underrun. -/
def execWritePointerDeadline (t : Time) (lp : Fin 32) (dest : Fin 1024) (s : State) : Host.Outcome State Fault Refusal :=
  released t s fun s =>
    let s := (s.bump (R.LP_RAW_WAITS lp) 1).bump (R.LP_DEADLINE lp) 1
    let f := R.DG_ERR_DEADLINE (lp / 4)
    let s := (s.set f 1).islandError f 0
    s.setDst dest { s.dst dest with abandoned := true }

/-! ### Refresh (09 R346, R347, R358) -/

/-- 09 R346, R347: the count of a row reaches 1024; its neighbours are refreshed and its count is 0. The command is the trigger, since the rows of media streams are free
values (log entry 19): a row that is not in the table enters it first. -/
def execNeighbourRefresh (t : Time) (lp : Fin 32) (bank : Fin 16) (row : Nat) (s : State) : Host.Outcome State Fault Refusal :=
  released t s fun s =>
    let is (a : Nat × Nat × Nat × Nat) : Bool := a.1 = lp.val && a.2.1 = bank.val && a.2.2.1 = row
    if s.lpDown lp then s
    else
      let s := if s.dram.act.any is then s else { s with dram := s.dram.activate ⟨lp, bank, row⟩ }
      ({ s with dram.act := s.dram.act.map (fun a => if is a then (a.1, a.2.1, a.2.2.1, 0) else a) }.bump (R.LP_NREF lp) 1).peak (R.LP_ACT_PEAK lp) 1024

/-- 09 R346: the end of a refresh window empties the activation tables of a channel. -/
def execRefreshWindowEnd (t : Time) (lp : Fin 32) (s : State) : Host.Outcome State Fault Refusal :=
  released t s fun s => { s with dram.act := s.dram.act.filter (fun a => a.1 ≠ lp.val) }

/-- 09 R358: a group reads the refresh rates that its four devices ask for: 0 base, 1 twice, 2 beyond twice. HOT raises F2 with the event
DRAM_HOT and clears with the rate. -/
def execRefreshRateRead (t : Time) (dg : Fin 8) (rates : List (Fin 3)) (s : State) : Host.Outcome State Fault Refusal :=
  released t s fun s =>
    if s.get (R.DG_STAT_STATE dg) ≠ 2 then s
    else
      let was := s.get (R.DG_STAT_HOT dg)
      let rate (c : Nat) : Nat := ((rates[c]?).map (·.val)).getD (s.get (R.LP_REFRATE (4 * dg + c)))
      let hot := ((List.range 4).map (fun c => if rate c = 2 then 2 ^ c else 0)).foldl (· + ·) 0
      let s := (List.range 4).foldl (fun s c => s.set (R.LP_REFRATE (4 * dg + c)) (rate c)) s
      let s := s.set (R.DG_STAT_HOT dg) hot
      let s := if hot = 0 then s.errDone (R.DG_ERR_HOT dg) else s
      (List.range 4).foldl (fun s c =>
        if bit hot c && !bit was c then
          s.errNamed (R.DG_ERR_HOT dg) 2 0x0201 (beBytes 1 (4 * dg + c)) { typ := 3, master := 0x40 + 24 + dg } (lasts := true)
        else s) s

/-! ### Frequency points (09 R351 to R353) -/

/-- The highest number of a point that is allowed and whose guarantee covers the bookings: the lowest point (09 R352). -/
def State.lowestPoint (s : State) (booked : Nat) : Nat :=
  if s.pointAllowed 2 && booked ≤ pointRate 2 then 2 else if s.pointAllowed 1 && booked ≤ pointRate 1 then 1 else 0

/-- The change instant of the close of the cycle that ends at boundary `b`: the first whole 10 µs at least 50 µs after it. -/
def State.changeInstant (s : State) (b : Time) : Time := ceilDiv (s.closeOf b + 50000) 10000 * 10000

/-- A change of point is selected. One that still waits for the reset of a group gives way to it, and of two by whose boundaries a change up must be done the
earlier stands (09 Table 9.7). -/
def State.changeTo (s : State) (p : Nat) (b : Time) (late : Option Time) : State :=
  let late := match s.dram.change with
    | some (_, _, some w) => some (min w (late.getD w))
    | _ => late
  { s.set R.MEM_TARGET p with dram.change := some (p, s.changeInstant b, late) }

/-- MEMORY_POINT_SELECT at a cycle close that ends at boundary `b`, with `booked` on BOBBIN_BW (09 R351, R352): up where the bookings exceed the guarantee of the
point in use, down where they have stayed low for HOLD. -/
def State.selectPoint (s : State) (booked : Nat) (b : Time) : State :=
  let cur := s.get R.MEM_TARGET
  let at_ := s.up - (s.now - s.closeOf b)
  let low (p : Nat) (o : Option Nat) : Option Nat := if 10 * booked ≤ 9 * pointRate p then some (o.getD at_) else none
  let s := { s with dram.low1 := low 1 s.dram.low1, dram.low2 := low 2 s.dram.low2 }
  let held (o : Option Nat) : Bool := o.any (fun u => u + s.memHold ≤ at_)
  if pointRate (s.get R.MEM_CUR) < booked then
    let p := s.lowestPoint booked
    if s.dram.change.any (fun c => c.1 = p) then s else s.changeTo p b (some b)
  else
    let p := if s.pointAllowed 2 && held s.dram.low2 then 2 else if s.pointAllowed 1 && held s.dram.low1 then 1 else cur
    if p ≤ cur then s else s.changeTo p b none

/-- All eight groups move to a point (09 R353, Table 9.6): open rows are precharged, the predictors return to 1 (R341), and the devices pause for 4 µs. -/
def State.movePoint (s : State) (p : Nat) : State :=
  let s := ((s.set R.MEM_CUR p).bump R.MEM_CHANGES 1).set R.MEM_LAST_NS (s.now % sec)
  { (List.range 8).foldl (fun s g => s.set (R.DG_STAT_POINT g) p) s with
    dram.change := none
    dram.deferred := false
    dram.banks := []
    dram.fetched := []
    dram.pause := s.up + 4000 }

/-- The tag of the condition "a change up was deferred past the switching points of its cycle" (09 Table 9.7). -/
def tagPointLate : Nat := 4

/-- A change up that waits for the reset of a group past the switching points of its cycle raises F2 (09 Table 9.7). -/
def State.pointLate (s : State) : State :=
  match s.dram.change with
  | some (p, at_, some b) =>
    if b ≤ s.now && s.groupDown then
      { s with dram.change := some (p, at_, none) }.raise 34 2 0x0002 (2 ^ 40 + 2 * tagPointLate) [] { typ := 3, master := 0x40 + 34 }
    else s
  | _ => s

/-- 09 R353, Table 9.7: the change instant. While a group is being reset the change waits and is counted once. -/
def execPointChangeInstant (t : Time) (s : State) : Host.Outcome State Fault Refusal :=
  released t s fun s =>
    match s.dram.change with
    | none => s
    | some (p, at_, _) =>
      if s.now < at_ then s
      else if !s.groupDown then s.movePoint p
      else if s.dram.deferred then s.pointLate
      else ({ s with dram.deferred := true }.bump R.MEM_DEFERRED 1).pointLate

/-! ### Stores from the image (08 R316, R327; 11 R435) -/

/-- The STILL_DATA of a still in image order, laid over video fill (08 R316). -/
def State.loadStill (s : State) (i : Nat) : State :=
  let s := s.bankClear i 0
  let s := (s.recs 0x0162).foldl (fun s r => if leAt r.val 0 2 = i then s.bankWrite i 0 (leAt r.val 4 4) (r.val.drop 8) else s) s
  s.setBanks i { s.banks i with shown := 0, fromImage := true }

/-- The SAFETY_DATA of a head in image order; pixels not written are transparent (11 R435). -/
def State.loadSafety (s : State) (h : Nat) : State :=
  let m := (s.recs 0x0194).foldl (fun m r => if byteAt r.val 0 = h then overlay m (leAt r.val 4 4) (r.val.drop 8) else m) []
  { s with bob.bytes := put (1024 + h) m s.bob.bytes }

/-- Does the image hold data of a still? -/
def State.stillData (s : State) (i : Nat) : Bool := (s.recs 0x0162).any (fun r => leAt r.val 0 2 = i)

/-- HEAD record of a head (11 Table 11.8), empty without one. -/
def State.headRec (s : State) (h : Nat) : List Byte := (s.recOf 0x0190 0 1 h).getD []

/-- Planes of a head, and whether it has a safety layer (11 Table 11.8). -/
def State.planes (s : State) (h : Nat) : Nat := bits (byteAt (s.headRec h) 1) 3 2
def State.hasSafety (s : State) (h : Nat) : Bool := bit (byteAt (s.headRec h) 1) 1

/-! ### A reset of a DRAM group (09 R359; 08 R325) -/

/-- Every bobbin's contents are lost (08 R325). -/
def State.loseBobbins (s : State) : State :=
  let rings := s.bob.rings.map (fun (r : Nat × Ring) => (r.1, { r.2 with slots := [], reads := r.2.reads.map (fun (c : ReadConn) => { c with prev := none }) }))
  let banks := s.bob.banks.map (fun (b : Nat × Banks) => (b.1, { b.2 with valid0 := false, valid1 := false, fromImage := false, spoilt := [] }))
  let wins := s.mv.wins.map (fun (w : Nat × Win) => (w.1, { w.2 with buf := { w.2.buf with frames := [] }, change := w.2.change.map (fun (c : WinBuf × (Nat × Nat × Nat) × Time × Nat) => ({ c.1 with frames := [] }, c.2)) }))
  let lines := s.aud.lines.map (fun (l : Nat × ALine) => (l.1, { l.2 with hist := [], full := false, non := [] }))
  let matched := s.aud.matched.map (fun (l : Nat × MLine) => (l.1, { l.2 with hist := [], full := false, non := [] }))
  { s with
    bob.rings := rings
    bob.banks := banks
    bob.bytes := []
    mv.wins := wins
    aud.lines := lines
    aud.matched := matched
    dram.data := []
    dram.ecc := []
    dram.fetched := [] }

/-- What bobbins recover at the end of the reset (08 R325). -/
def State.recoverBobbins (s : State) : State :=
  let s := (s.recs 0x0161).foldl (fun s r =>
    let i := leAt r.val 0 2
    if s.stillData i then s.loadStill i
    else (s.set R.BOB_ERR_STILL_LOST 1).event 34 1 0x0203 (beBytes 1 i)) s
  (List.range 16).foldl (fun s h =>
    let s := (List.range (s.planes h)).foldl (fun s p =>
      (s.set R.BOB_ERR_GFX_LOST 1).event 34 1 0x0204 (beBytes 1 h ++ beBytes 1 p)) s
    if s.hasSafety h then s.loadSafety h else s) s

/-- The tag of the condition "a DRAM group is reset". -/
def tagGroupReset : Nat := 15

/-- A reset of group `g` begins, with the ERR bit number of its cause (09 R359). -/
def State.dgDown (s : State) (g cause : Nat) : State :=
  if s.get (R.DG_STAT_STATE g) = 4 then s
  else
    let s := (s.beginReset (24 + g)).loseBobbins
    let s := (s.clearWindow (24 + g)).set (R.DG_STAT_STATE g) 4
    let mine (r : Nat) : Bool := rowChannel s.dram.key r / 4 = g
    let s := { s with
      dram.act := s.dram.act.filter (fun a => a.1 / 4 ≠ g)
      dram.banks := s.dram.banks.filter (fun b => b.1 / 64 ≠ g)
      dram.counts := s.dram.counts.filter (fun x => x.1 / 32 ≠ g)
      dram.gather := s.dram.gather.filter (fun x => !mine x.2.row)
      dram.queue := s.dram.queue.filter (fun x => !mine x.row) }
    let s := (s.resolve (24 + g) (errTag (R.DG_ERR_HOT g) true))
    s.raise (24 + g) 2 0x0202 tagGroupReset (beBytes 1 g ++ beBytes 1 cause) { typ := 3, master := 0x40 + 24 + g }

/-- A group serves again after its retraining, or stays in reset where that failed (09 R359; 08 R325). What was written during
the reset is lost too. A change of point that waited runs. -/
def State.dgUp (s : State) (g : Nat) (good : Bool) : State :=
  if s.get (R.DG_STAT_STATE g) ≠ 4 then s
  else if !good then
    s.err (R.DG_ERR_TRAIN_FAIL g) 3 { typ := 3, master := 0x40 + 24 + g } (lasts := true)
  else
    let s := (((s.set (R.DG_STAT_STATE g) 2).set (R.DG_STAT_TRAINED g) 15).set (R.DG_STAT_POINT g) (s.get R.MEM_CUR)).set
      (R.DG_STAT_PASR_MASK g) (s.get R.MEM_PASR)
    let s := ((s.set (rstNow (24 + g)) 0).resolve (24 + g) tagGroupReset).loseBobbins.recoverBobbins
    match s.dram.change with
    | some (p, at_, _) => if at_ ≤ s.now && !s.groupDown then s.movePoint p else s
    | none => s

/-- 09 R359: a DRAM group is reset for the ERR bit `cause`. -/
def execDgReset (t : Time) (dg : Fin 8) (cause : Fin 5) (s : State) : Host.Outcome State Fault Refusal :=
  released t s fun s => s.dgDown dg cause

/-- 09 R358, R359: ZQ and data timing are recalibrated; a group whose recalibration fails is reset. -/
def execZqRecalibrate (t : Time) (dg : Fin 8) (good : Bool) (s : State) : Host.Outcome State Fault Refusal :=
  released t s fun s => if good then s else s.dgDown dg 4

end Sys2Proof.Machine
end

