-- ==== Sys2Proof/Machine/Image.lean ====
section
/-! DEFINITION. The configuration image: its header, its checks and its records, and the records it holds (18 R656 to R667;
19 R695). -/

namespace Sys2Proof.Machine

/-! ### Records (18 R663, R666, R667) -/

/-- Is a record type one of Table 18.7 that the chip applies? Types 0x0211 to 0x021F are reserved (20 R731). -/
def knownRecord (t : Nat) : Bool :=
  [0x0100, 0x0101, 0x0102, 0x0110, 0x0120, 0x0121, 0x0130, 0x0131, 0x0132, 0x0141, 0x0142, 0x0143, 0x0144, 0x0150, 0x0151, 0x0152,
   0x0153, 0x0154, 0x0160, 0x0161, 0x0162, 0x0163, 0x0170, 0x0180, 0x0181, 0x0182, 0x0183, 0x0184, 0x0185, 0x0186, 0x0190, 0x0191,
   0x0192, 0x0193, 0x0194].contains t ||
  [0x01A0, 0x01A1, 0x01A2, 0x01A3, 0x01B0, 0x01B1, 0x01C0, 0x01D0, 0x01E0, 0x01E1, 0x01E2, 0x01E3, 0x01E4, 0x01F0, 0x0200, 0x0210,
   0x0220, 0x0221, 0x0228, 0x0229, 0x0230, 0x0231].contains t

/-- The records of RECORDS with their offsets, or the detail and offset of the first that fails check 9 or 10 (18 Table 18.6). `off` is the
offset of the next record; `fuel` bounds their number. -/
def parseRecords : Nat → Nat → List Byte → List (Nat × Rec) → (Nat × Nat) ⊕ List (Nat × Rec)
  | 0, off, v, acc => if v = [] then .inr acc else .inl (10, off)
  | fuel + 1, off, v, acc =>
    let n := leAt v 2 2
    if v = [] then .inr acc
    else if v.length < 8 + n then .inl (10, off)
    else if crc32c (v.take (4 + n)) ≠ leAt v (4 + n) 4 then .inl (9, off)
    else parseRecords fuel (off + 8 + n) (v.drop (8 + n)) (acc ++ [(off, ⟨leAt v 0 2, (v.drop 4).take n⟩)])

/-- The whole records at the beginning of a run of bytes, as far as it goes (19 R688): the detail of the first that is bad. -/
def partialRecords : Nat → List Byte → Nat → Option Nat
  | 0, _, _ => none
  | fuel + 1, v, left =>
    let n := leAt v 2 2
    if v.length < 4 then none
    else if left < 8 + n then some 10
    else if v.length < 8 + n then none
    else if crc32c (v.take (4 + n)) ≠ leAt v (4 + n) 4 then some 9
    else partialRecords fuel (v.drop (8 + n)) (left - (8 + n))

/-! ### The checks (18 Table 18.6) -/

/-- The header's part of check 3: the offset of the first field that breaks Table 18.3. -/
def headerBad (h : List Byte) (limit : Nat) : Option Nat :=
  let enc := bit (hdrFlags h) 0
  let slot := byteAt h 9
  if 128 < hdrSecver h then some 6
  else if 8 ≤ hdrFlags h then some 8
  else if (if enc then slot = 0 || 254 < slot else slot ≠ 0) then some 9
  else if leAt h 10 2 ≠ 0 then some 10
  else if leAt h 12 4 ≠ 64 then some 12
  else if leAt h 16 4 < 73 then some 16
  else if hdrCfg h ≠ 64 + leAt h 16 4 then some 20
  else if hdrCfgLen h < 97 then some 24
  else if hdrTotal h ≠ hdrCfg h + hdrCfgLen h || limit < hdrTotal h then some 28
  else if (h.drop 32).take 32 ≠ List.replicate 32 0 then some 32
  else none

/-- Checks 1 to 3 on the bytes of an image that have arrived: detail and offset. -/
def shapeBad (v : List Byte) (limit : Nat) : Option (Nat × Nat) :=
  if v.length < 64 then none
  else if !headerValid v then some (1, 0)
  else if leAt v 4 2 ≠ 2 then some (2, 4)
  else match headerBad v limit with
    | some o => some (3, o)
    | none =>
      let n := leAt v 68 4
      let c := hdrCfg v
      let m := leAt v c 2
      if 72 ≤ v.length && (n < 1 || 3145728 < n || leAt v 16 4 ≠ 72 + n) then some (3, 68)
      else if c + 2 ≤ v.length && (m < 1 || 4092 < m || hdrCfgLen v < 96 + m) then some (3, c)
      else none

/-- Where RECORDS begins, and its length. -/
def recordsAt (v : List Byte) : Nat := hdrCfg v + 32 + leAt v (hdrCfg v) 2
def recordsLen (v : List Byte) : Nat := hdrCfgLen v - 96 - leAt v (hdrCfg v) 2

/-- RECORDS in clear: as stored, or decrypted (18 R662). -/
def clearRecords (v : List Byte) (w : ImgFacts) : List Byte :=
  if bit (hdrFlags v) 0 then w.plain else (v.drop (recordsAt v)).take (recordsLen v)

/-- Is DECRYPT_SLOT of a header LOADED with USE DECRYPT (18 Table 18.6, check 7)? -/
def State.canDecrypt (s : State) (h : List Byte) : Bool :=
  !bit (hdrFlags h) 0 || (let k := lookD (byteAt h 9) s.keys.slots {}; k.state = 1 && k.use = 1)

/-- Checks 4 to 8, by which of them a whole image of good shape fails: detail and offset of the failed item. -/
def State.signedBad (s : State) (v : List Byte) (w : ImgFacts) : Option (Nat × Nat) :=
  if !w.ihlut then some (4, 72 + leAt v 68 4)
  else if !w.cert then some (5, hdrCfg v + 4)
  else if !w.integ then some (6, hdrTotal v - 64)
  else if bit (hdrFlags v) 0 && !(s.canDecrypt v && w.tag) then some (7, hdrCfg v + 16 + leAt v (hdrCfg v) 2)
  else if 0 < s.keys.rbSteps && hdrSecver v < s.keys.rbSteps then some (8, 6)
  else none

/-- The checks of Table 18.6 in order: the first that fails with its detail and offset, or the records (18 R665). -/
def State.imageCheck (s : State) (v : List Byte) (w : ImgFacts) : (Nat × Nat) ⊕ List (Nat × Rec) :=
  match shapeBad v s.imageLimit with
  | some e => .inl e
  | none => match s.signedBad v w with
    | some e => .inl e
    | none =>
      let r := clearRecords v w
      match parseRecords (r.length + 1) (recordsAt v) r [] with
      | .inl e => .inl e
      | .inr l => if w.again then .inr l else .inl (9, recordsAt v)

/-- The image that a header at an offset of the memory begins. -/
def State.imageAt (s : State) (base : Nat) : List Byte :=
  let h := memRead s.boot.xspi base 64
  h ++ memRead s.boot.xspi (base + 64) (min (hdrTotal h) s.imageLimit - 64)

/-- Firmware versions are compatible (19 R695). -/
def fwCompatible (a b : Nat) : Bool :=
  let minor (v : Nat) : Nat := bits v 23 16
  a / 2 ^ 24 = b / 2 ^ 24 && minor a ≤ minor b + 1 && minor b ≤ minor a + 1

end Sys2Proof.Machine
end

