-- ==== Sys2Proof/Machine/Ethernet.lean ====
section
/-! DEFINITION. Ports: octets and groups, the states of a port, the MAC's checks, the control class, pause, the best-effort queues
and the port counters (07). -/

namespace Sys2Proof.Machine

/-! ### Octets and groups -/

/-- The OCTET record of a lane's octet (07 Table 7.7); without one every lane is in no group (R264). -/
def State.octetRec (s : State) (lane : Nat) : List Byte := (s.recOf 0x0150 0 1 (lane / 8)).getD []

/-- Does a group start at lane `p` (07 R263)? -/
def State.groupAt (s : State) (p : Nat) : Bool :=
  let v := s.octetRec p
  p < 256 && v ≠ [] && bit (byteAt v 2) (p % 8) && bit (byteAt v 3) (p % 8)

/-- The lanes of the group that starts at `p`: to the next start or the end of the used lanes (07 Table 7.7). -/
def State.groupLen (s : State) (p : Nat) : Nat :=
  let v := s.octetRec p
  if s.groupAt p then
    1 + ((List.range 8).filter (fun j => p % 8 < j)).foldl (fun n j =>
      if n = j - p % 8 - 1 && bit (byteAt v 3) j && !bit (byteAt v 2) j then n + 1 else n) 0
  else 0

/-- KIND of a port block (07 Table 7.10): 1 Ethernet or management, 2 Strand, 0 none. -/
def State.portKind (s : State) (p : Nat) : Nat :=
  if p = 256 || p = 257 then 1
  else if !s.groupAt p then 0
  else if bit (byteAt (s.octetRec p) 4) (p % 8) then 2 else 1

/-- The rate of a group in Gbit/s (07 Table 7.1). -/
def State.portGbit (s : State) (p : Nat) : Nat :=
  if 256 ≤ p then 10
  else
    let v := s.octetRec p
    let w := s.groupLen p
    match byteAt v 1 with
    | 0 => if bit (byteAt v 5) (p % 8) then 10 else 25
    | 1 => 50 * w
    | 2 => 100 * w
    | _ => 0

/-- The island of a port. -/
def portIsland (p : Nat) : Nat := if p < 256 then p / 16 else 34

/-- What a port holds beside its registers. -/
def State.port (s : State) (p : Nat) : EthPort := lookD p s.eth {}

/-- Change what a port holds. -/
def State.setPort (s : State) (p : Nat) (x : EthPort) : State := { s with eth := put p x s.eth }

/-- The lanes of a port (07 R266). -/
def State.portLanes (s : State) (p : Nat) : List Nat := (List.range (s.groupLen p)).map (fun i => p + i)

/-! ### Lane settings -/

/-- The lane rate of a port in Mbit/s with the IEEE 802.3 clauses of its PCS and FEC (07 Tables 7.1, 7.7); clause 119 holds its own FEC. -/
def State.portPcs (s : State) (p : Nat) : Nat × Nat × Nat :=
  let v := s.octetRec p
  let w := s.groupLen p
  if 256 ≤ p then (10312, 49, 0)
  else match byteAt v 1 with
    | 0 =>
      if bit (byteAt v 5) (p % 8) then (10312, 49, if byteAt v 6 % 4 = 1 then 74 else 0)
      else (25781, 107, match byteAt v 6 / 4 % 4 with
        | 0 => 108
        | 1 => 74
        | _ => 0)
    | 1 => (53125, if w = 1 then (133, 134) else if w = 2 then (82, 91) else (119, 119))
    | _ => (106250, if w = 1 then (82, 161) else if w = 8 then (172, 172) else (119, 119))

/-- The taps of a lane's record, and those of its preset where it sets PRESET or is absent, with the inversions of transmitter and receiver (07 R270, R272,
R274, Tables 7.2, 7.8). -/
def lineTaps (v : List Byte) (n : Nat) (preset : List Int) : List Int × Bool × Bool :=
  let flags := byteAt v 2
  (if v = [] || bit flags 2 then preset else (List.range n).map (fun i => signed 8 (byteAt v (3 + i))), bit flags 0, bit flags 1)

/-- The preset of a W-lane or management lane by its rate in Mbit/s (07 Table 7.2). -/
def wPreset (rate : Nat) : List Int :=
  if rate = 106250 then [0, 0, -6, 52, -6] else if rate = 53125 then [0, 0, -4, 54, -6]
  else if rate = 25781 then [0, 0, -4, 52, -8] else [0, 0, 0, 56, -8]

/-- How a port's lanes are set (07 R262, R270, R274). -/
def State.lineOf (s : State) (p : Nat) : LineOut :=
  let (rate, pcs, fec) := s.portPcs p
  { rate := rate, pcs := pcs, fec := fec
    lanes := if 256 ≤ p then [(wPreset rate, false, false)]
      else (s.portLanes p).map (fun l => lineTaps ((s.recOf 0x0151 0 2 l).getD []) 5 (wPreset rate)) }

/-- The taps of a C-lane's transmitter and its inversion (07 R272, R274). -/
def State.cTaps (s : State) (lane : Nat) : List Int × Bool :=
  let x := lineTaps ((s.recOf 0x0152 0 2 lane).getD []) 3 [0, 28, -4]
  (x.1, x.2.1)

/-- A port leaves OFF: its transmitter starts, set as the image says (07 Table 7.3, R264). -/
def State.portOn (s : State) (p : Nat) : State := (s.set (R.PORT_STATE p) 1).emit (.line p (s.lineOf p))

/-! ### Addresses -/

/-- An IPv4 address in the mapped form (06 R260). -/
def mapped4 (a : Nat) : Nat := 0xFFFF00000000 + a

/-- The MGMT records of a management port on this side (07 Table 7.9). -/
def State.mgmtRecs (s : State) (p : Nat) : List (List Byte) :=
  ((s.recs 0x0154).filter (fun r => byteAt r.val 0 = p - 256 && byteAt r.val 1 = b2n s.dbl.side)).map (·.val)

/-- The pair addresses of a management port (07 R292, Table 7.9). -/
def State.pairAddrs (s : State) (p : Nat) : List Nat :=
  (s.mgmtRecs p).flatMap (fun v => (if byteAt v 4 = 0 then [] else [mapped4 (beAt v 12 4)]) ++ (if byteAt v 5 = 0 then [] else [beAt v 32 16]))

/-- The own addresses of a port on this side, and for the holder's management ports the pair addresses (06 Table 6.12, 07 R292,
Table 7.9). -/
def State.ownAddrs (s : State) (p : Nat) : List Nat :=
  if p < 256 then
    ((s.recs 0x0143).filter (fun r => leAt r.val 0 2 = p && byteAt r.val 2 = b2n s.dbl.side)).flatMap (fun r =>
      (if byteAt r.val 3 = 0 then [] else [mapped4 (beAt r.val 8 4)]) ++ (if byteAt r.val 6 = 0 then [] else [beAt r.val 12 16]))
  else
    (s.mgmtRecs p).flatMap (fun v => (if byteAt v 4 = 0 then [] else [mapped4 (beAt v 8 4)]) ++ (if byteAt v 5 = 0 then [] else [beAt v 16 16]))
      ++ (if s.dbl.role.holds then s.pairAddrs p else [])

/-- The VLAN of a port's own addresses as the keys of the flow table write it (06 Table 6.8): 0 for untagged frames, else TAGGED and the VID. -/
def vlanKey (w : Nat) : Nat := if bit w 15 then 0x8000 + w % 4096 else 0

/-- The VLAN key of a received frame. -/
def EthFrame.vlan (f : EthFrame) : Nat := match f.tag with
  | some tci => 0x8000 + tci % 4096
  | none => 0

/-- The VLAN of the own addresses of a port (06 Table 6.12; 07 Table 7.9). -/
def State.portVlan (s : State) (p : Nat) : Nat :=
  vlanKey (if p < 256 then leAt ((((s.recs 0x0143).find? (fun r => leAt r.val 0 2 = p && byteAt r.val 2 = b2n s.dbl.side)).map (·.val)).getD []) 4 2
    else leAt ((s.mgmtRecs p).headD []) 2 2)

/-- Does a frame reach an own address of a port, on the VLAN of its record? -/
def State.toOwn (s : State) (p : Nat) (f : EthFrame) (addr : Nat) : Bool := f.vlan = s.portVlan p && (s.ownAddrs p).contains addr

/-- The UDP port of SiCP (15 R559, Table 15.12). -/
def State.sicpPort (s : State) : Nat := orDef (leAt (s.rec1 0x01D0) 0 2) 47610

/-- The MAC of an own address, or of a pair address of a management port (06 after Table 6.12; 07 R292). -/
def State.macOf (s : State) (p addr : Nat) : Nat :=
  if p < 256 then Config.macBase + p
  else if (s.pairAddrs p).contains addr then 0x0249 * 2 ^ 32 + 2 * s.pair % 1024 * 2 ^ 16 + 0x0100 + (p - 256)
  else 0x0249 * 2 ^ 32 + s.chip % 1024 * 2 ^ 16 + 0x0200 + (p - 256)

/-- The MAC from which a frame leaves a port: that of the address it answers for, of the pair address, or the port's own (07 R292). -/
def State.frameMac (s : State) (p : Nat) : EthOut → Nat
  | .arpReply a => s.macOf p (mapped4 a)
  | .ndAdvert a => s.macOf p a
  | .echoReply _ a => s.macOf p a
  | .gratuitous => s.macOf p ((s.pairAddrs p).getD 0 (2 ^ 128))
  | _ => s.macOf p (2 ^ 128)

/-! ### Sending -/

/-- Send a frame in the control class, on the VLAN of the port's record, or discard it where the port cannot send (07 R276, R286). Its octets, from 64 to 1522, are a free value: the
formats of its protocols are not the spec's (log entry 2). -/
def State.sendEth (s : State) (p : Nat) (f : EthOut) : State :=
  if s.canSend p then
    let (x, s) := s.fresh
    ((s.bump (R.PORT_TX_FRAMES p) 1).bump64 (R.PORT_TX_OCTETS_LO p) (64 + x % 1459)).emit (.eth p (s.frameMac p f) (if s.portVlan p = 0 then none else some (s.portVlan p % 4096)) f)
  else s.bump (R.PORT_TX_DISCARD p) 1

/-- Best-effort frames leave a queue that is not paused, with the tag that they came with (07 R283; log entry 23). -/
def State.sendBe (s : State) (p : Nat) (lens : List Nat) : State :=
  lens.foldl (fun s n =>
    if s.canSend p then ((s.bump (R.PORT_TX_FRAMES p) 1).bump64 (R.PORT_TX_OCTETS_LO p) n).emit (.eth p 0 none (.bestEffort n))
    else s.bump (R.PORT_TX_DISCARD p) 1) s

/-- MAX_FRAME of a port (07 R279, R291). -/
def State.maxFrame (s : State) (p : Nat) : Nat :=
  if 256 ≤ p then 1522 else orDef (leAt ((s.recOf 0x0153 0 2 p).getD []) 2 2) 9216

/-- PAUSE of a port (07 R288): 0 none, 1 802.3x, 2 PFC; a management port ignores every pause frame. A missing record selects the default, which 0xFF
names (Table 7.9; DEDUCED, log entry 85). -/
def State.pauseMode (s : State) (p : Nat) : Nat :=
  if 256 ≤ p then 0
  else match s.recOf 0x0153 0 2 p with
    | none => 1
    | some v => if byteAt v 4 = 0xFF then 1 else byteAt v 4

/-- WD of a port in nanoseconds (07 R290, Table 7.9). -/
def State.watchdog (s : State) (p : Nat) : Nat := orDef (byteAt ((s.recOf 0x0153 0 2 p).getD []) 5) 20 * 100000

/-! ### Pause -/

/-- A queue resumes: its waiting frames leave (07 R288, R290). -/
def State.resume (s : State) (p q : Nat) : State :=
  let x := s.port p
  let lens := (lookD q x.queues []).map (·.2)
  let s := s.set (R.PORT_QPAUSED p) (s.get (R.PORT_QPAUSED p) &&& (255 - 2 ^ q))
  (s.setPort p { x with pauseEnd := drop q x.pauseEnd, pauseFrom := drop q x.pauseFrom, queues := drop q x.queues }).sendBe p lens

/-- Where a pause stands among others by its end; of those that end together the higher queue goes first (07 R283). -/
def pauseIns (e : Nat × Time) : List (Nat × Time) → List (Nat × Time)
  | [] => [e]
  | x :: l => if x.2 < e.2 || (x.2 = e.2 && e.1 < x.1) then x :: pauseIns e l else e :: x :: l

/-- The pauses whose quanta have run out end, in the order in which they do (07 R288). -/
def State.pausesEnd (s : State) (p : Nat) : State :=
  (((s.port p).pauseEnd.filter (fun e => e.2 ≤ s.now)).foldr pauseIns []).foldl (fun s e => s.resume p e.1) s

/-- A pause frame names a queue with its quanta (07 R288, R290): quanta 0 ends the pause; otherwise it starts or extends it,
unless QIGNORE holds the queue, when it only restarts the watchdog time (Table 7.6). -/
def State.pauseQueue (s : State) (p q quanta : Nat) : State :=
  if quanta = 0 then (if bit (s.get (R.PORT_QIGNORE p)) q then s else s.resume p q)
  else
    let x := s.port p
    let x := { x with lastPause := put q s.now x.lastPause }
    if bit (s.get (R.PORT_QIGNORE p)) q then s.setPort p x
    else
      let e := s.now + quanta * 512 / max 1 (s.portGbit p)
      let from_ := lookD q x.pauseFrom s.now
      (s.setPort p { x with pauseEnd := put q e x.pauseEnd, pauseFrom := put q from_ x.pauseFrom }).set
        (R.PORT_QPAUSED p) (s.get (R.PORT_QPAUSED p) ||| 2 ^ q)

/-- The best-effort queues, BE7 first (07 R283). -/
def beQueues : List Nat := [7, 6, 5, 4, 3, 2, 1, 0]

/-- PAUSE_FRAME_RX (07 R282, R288): counted, and acted on by the port's PAUSE setting. -/
def State.pauseFrame (s : State) (p : Nat) (body : EthBody) : State :=
  let s := s.bump (R.PORT_RX_PAUSE p) 1
  match body with
  | .pause quanta => if s.pauseMode p = 1 then beQueues.foldl (fun s q => s.pauseQueue p q quanta) s else s
  | .pfc classes =>
    if s.pauseMode p = 2 then
      beQueues.foldl (fun s q => match classes.getD q none with
        | some quanta => s.pauseQueue p q quanta
        | none => s) s
    else s
  | _ => s

/-- A best-effort frame enters the queue of its PCP on an output port (07 R281, R283). -/
def State.forwardBe (s : State) (p : Nat) (f : EthFrame) : State :=
  if s.maxFrame p < f.len then s.bump (R.PORT_BE_TX_DROP p) 1
  else
    let q := match f.tag with
      | some tci => tci / 8192 % 8
      | none => 0
    let s := s.pausesEnd p
    if bit (s.get (R.PORT_QPAUSED p)) q then
      let x := s.port p
      s.setPort p { x with queues := put q (lookD q x.queues [] ++ [(s.now, f.len)]) x.queues }
    else s.sendBe p [f.len]

/-! ### Reception by the MAC -/

/-- What the PCS and FEC counted on a port's lanes since the frame or Strand unit before (07 R265, Tables 7.10, 7.11). The symbols that a corrected codeword held on each lane, up
to 15, are free values (log entry 2). -/
def State.phyCounts (s : State) (p cor unc err : Nat) : State :=
  let s := ((s.bump (R.PORT_FEC_COR p) cor).bump (R.PORT_FEC_UNC p) unc).bump (R.PORT_BLOCK_ERR p) err
  if cor = 0 then s
  else (s.portLanes p).foldl (fun (s : State) l => let (x, s) := s.fresh; s.bump (R.WL_SYM_FEC_SYM l) (x % (15 * cor + 1))) s

/-- The MAC's checks (07 R278, R279): the counter of the first that fails; none where the frame passes. That a frame which fails several is counted once,
by the first in this order, is a DESIGN CHOICE (log entry 86). -/
def State.macFault (s : State) (p : Nat) (f : EthFrame) : Option Fld :=
  if f.len < 64 then some (R.PORT_RX_RUNT p)
  else if s.maxFrame p < f.len then some (R.PORT_RX_OVERSIZE p)
  else if !f.good then some (R.PORT_RX_FCS_ERR p)
  else if f.badTag then some (R.PORT_RX_TAG_DROP p)
  else none

/-- The meter of the control class (07 R287): 2% of the port's rate with a depth of 64 KiB; whether the frame passes. DESIGN CHOICE (log entry 86): it starts
full, and the bytes of the frame count without preamble and gap. -/
def State.ctrlMeter (s : State) (p len : Nat) : Bool × State :=
  let x := s.port p
  let have_ := min 52428800 (x.tokens + (s.now - x.tokensAt) * s.portGbit p * 2)
  if len * 800 ≤ have_ then (true, s.setPort p { x with tokens := have_ - len * 800, tokensAt := s.now })
  else (false, (s.setPort p { x with tokens := have_, tokensAt := s.now }).bump (R.PORT_CTRL_DROP p) 1)

/-- Does a frame belong to the control class by stage 2 of the flow filter (06 Table 6.2)? -/
def State.stage2 (s : State) (p : Nat) (f : EthFrame) : Bool :=
  match f.body with
  | .arp _ => true | .nd _ => true | .query _ _ _ _ => true | .report _ => true | .ptp _ => true
  | .udp _ _ _ dst _ _ => s.toOwn p f dst
  | .echo _ _ dst => s.toOwn p f dst
  | .ip dst => s.toOwn p f dst
  | _ => false

/-- The answers of the control class that need nothing but the port (06 R244, 07 R286): ARP and ND for own addresses, echo
requests of up to 1518 bytes. -/
def State.answer (s : State) (p : Nat) (f : EthFrame) : State :=
  match f.body with
  | .arp t => if s.toOwn p f (mapped4 t) then s.sendEth p (.arpReply t) else s
  | .nd t => if s.toOwn p f t then s.sendEth p (.ndAdvert t) else s
  | .echo _ src dst => if f.len ≤ 1518 then s.sendEth p (.echoReply src dst) else s
  | _ => s

/-! ### Port states -/

/-- A port takes a state; a change of an Ethernet or management port into or out of UP is logged (07 R277), and LINK_DOWN counted. The
pauses that have run out end first (R288). -/
def State.setPortState (s : State) (p st : Nat) : State :=
  let old := s.portState p
  let s := s.pausesEnd p
  let s := (s.set (R.PORT_STATE p) st).set (R.PORT_HI_ERR p) 0
  let ether := decide (s.portKind p = 1)
  if old = 3 && st ≠ 3 then
    let s := s.bump (R.PORT_LINK_DOWN p) 1
    let s := (s.set (R.PORT_RF_RX p) 0).set (R.PORT_LF_RX p) 0
    if ether then s.event (portIsland p) 1 0x0303 (beBytes 2 p) else s
  else if old ≠ 3 && st = 3 && ether then s.event (portIsland p) 1 0x0302 (beBytes 2 p) else s

/-- SIG, CDR and LOCK of the lanes of a port (07 Table 7.11). -/
def State.laneFlags (s : State) (p sig cdr lock : Nat) : State :=
  (s.portLanes p).foldl (fun s l =>
    ((s.set (R.WL_STAT_SIG l) sig).set (R.WL_STAT_CDR l) cdr).set (R.WL_STAT_LOCK l) lock) s

/-- 07 R275: signal energy and recovered clock on every lane of a DOWN port. -/
def execPortSignalLock (t : Time) (p : Fin 258) (s : State) : Host.Outcome State Fault Refusal :=
  released t s fun s =>
    if s.portKind p ≠ 0 && s.portState p = 1 then
      let s := (s.setPortState p 2).laneFlags p 1 1 0
      (s.setPort p { s.port p with lockAt := s.now }).errDone (R.PORT_ERR_PLL p)
    else s

/-- 07 R275: adaptation, lock and deskew are complete. -/
def execPortAligned (t : Time) (p : Fin 258) (s : State) : Host.Outcome State Fault Refusal :=
  released t s fun s =>
    if s.portState p = 2 then
      (s.setPortState p 3).laneFlags p 1 1 1
    else s

/-- 07 R275: 500 ms in LOCK without reaching UP. -/
def execPortLockTimeout (t : Time) (p : Fin 258) (s : State) : Host.Outcome State Fault Refusal :=
  released t s fun s =>
    if s.portState p = 2 && (s.port p).lockAt + 500 * ms ≤ s.now then s.setPortState p 1 else s

/-- A frame on the wire is cut as an Ethernet or management port leaves UP (07 R280); a Strand group has no MAC (R265). -/
def State.cut (s : State) (p : Nat) (cut : Bool) : State := s.bump (R.PORT_TX_CUT p) (b2n (cut && decide (s.portKind p = 1)))

/-- 07 R275: block or alignment lock is lost, or a high error ratio (`hi`) has held for 1 ms. -/
def execPortLockLost (t : Time) (p : Fin 258) (hi cut : Bool) (s : State) : Host.Outcome State Fault Refusal :=
  released t s fun s =>
    if s.portState p = 3 then
      let s := (((s.cut p cut).setPortState p 2).set (R.PORT_HI_ERR p) (b2n hi)).laneFlags p 1 1 0
      s.setPort p { s.port p with lockAt := s.now }
    else s

/-- Lanes of a port lose their signal: LOCK ends on every lane (07 R275), and on the lanes that lost it, at least one, of which the command names none (log
entry 2), SIG and CDR. -/
def State.lanesLost (s : State) (p : Nat) : State :=
  let (x, s) := s.fresh
  let l := s.portLanes p
  let hit := 1 + x % (2 ^ l.length - 1)
  (List.range l.length).foldl (fun (s : State) i =>
    let lane := l.getD i 0
    let s := s.set (R.WL_STAT_LOCK lane) 0
    if bit hit i then (s.set (R.WL_STAT_SIG lane) 0).set (R.WL_STAT_CDR lane) 0 else s) s

/-- 07 R275: signal energy is absent on a lane for 10 µs. -/
def execPortSignalLoss (t : Time) (p : Fin 258) (cut : Bool) (s : State) : Host.Outcome State Fault Refusal :=
  released t s fun s =>
    if 2 ≤ s.portState p then
      let s := if s.portState p = 3 then s.cut p cut else s
      (s.setPortState p 1).lanesLost p
    else s

/-- 07 R295: an octet's PLL loses lock; F2, and every port of the octet goes to DOWN. Whether a frame on the wire is cut is a free value (log entry 2). -/
def execOctetPllUnlock (t : Time) (octet : Fin 32) (s : State) : Host.Outcome State Fault Refusal :=
  released t s fun s =>
    ((List.range 8).map (fun j => 8 * octet.val + j)).foldl (fun s p =>
      if s.portKind p = 0 then s
      else
        let (x, s) := if s.portState p = 3 then s.fresh else (0, s)
        let s := if 2 ≤ s.portState p then ((s.cut p (x % 2 = 1)).setPortState p 1).laneFlags p 0 0 0 else s
        s.err (R.PORT_ERR_PLL p) 2 { typ := 3, master := 0x40 + p / 16 } (lasts := true)) s

/-- 07 R276: an UP port starts or stops receiving Remote or Local Fault. -/
def execRemoteFault (t : Time) (p : Fin 258) (rf lf : Bool) (s : State) : Host.Outcome State Fault Refusal :=
  released t s fun s =>
    if s.portState p = 3 then (s.set (R.PORT_RF_RX p) (b2n rf)).set (R.PORT_LF_RX p) (b2n lf) else s

/-! ### Watchdog, ageing and counters -/

/-- 07 R290: a queue paused without a break for WD resumes, and later pause frames for it are ignored, until WD has passed from now with none. -/
def execPauseWatchdog (t : Time) (p : Fin 256) (q : Fin 8) (s : State) : Host.Outcome State Fault Refusal :=
  released t s fun s =>
    let s := s.pausesEnd p
    match look q.val (s.port p).pauseFrom with
    | some from_ =>
      if bit (s.get (R.PORT_QPAUSED p)) q && from_ + s.watchdog p ≤ s.now then
        let s := (s.resume p q).bump (R.PORT_PAUSE_WD p) 1
        let s := s.setPort p { s.port p with lastPause := put q.val s.now (s.port p).lastPause }
        let s := s.set (R.PORT_QIGNORE p) (s.get (R.PORT_QIGNORE p) ||| 2 ^ q.val)
        s.event (portIsland p) 1 0x0304 (beBytes 2 p ++ beBytes 1 q)
      else s
    | none => s

/-- 07 R290: WD has passed with no non-zero pause frame for the queue. -/
def execQignoreEnd (t : Time) (p : Fin 256) (q : Fin 8) (s : State) : Host.Outcome State Fault Refusal :=
  released t s fun s =>
    if bit (s.get (R.PORT_QIGNORE p)) q && lookD q.val (s.port p).lastPause 0 + s.watchdog p ≤ s.now then
      s.set (R.PORT_QIGNORE p) (s.get (R.PORT_QIGNORE p) &&& (255 - 2 ^ q.val))
    else s

/-- 07 R285: best-effort frames that have waited 1 ms in an egress queue are dropped. -/
def execBeFrameAged (t : Time) (p : Fin 256) (q : Fin 8) (s : State) : Host.Outcome State Fault Refusal :=
  released t s fun s =>
    let s := s.pausesEnd p
    let x := s.port p
    let l := lookD q.val x.queues []
    let young := l.filter (fun f => s.now < f.1 + ms)
    (s.setPort p { x with queues := put q.val young x.queues }).bump (R.PORT_BE_TX_DROP p) (l.length - young.length)

/-- The field of 32-bit counter `i` of a port (07 Table 7.10). -/
def portCounter (p i : Nat) : Fld := ⟨(portPlace p).1, (portPlace p).2 + 0x20 + 4 * i, 31, 0⟩

/-- The Spindle reads one counter of a port, adds it to its 64-bit total and clears the HALF bit (07 R294). What it read still
counts for the next SiCP read of the field (15 R582). -/
def State.readCounter (s : State) (p i : Nat) : State :=
  let f := portCounter p i
  let v := s.get f
  if v = 0 then s
  else
    let s := (s.set f 0).setPort p { s.port p with halfSeen := (s.port p).halfSeen.filter (· ≠ i) }
    { s with
      sicp.totals := put f.addr ((lookD f.addr s.sicp.totals 0 + v) % 2 ^ 64) s.sicp.totals
      sicp.rcTotal := put f.addr ((lookD f.addr s.sicp.rcTotal 0 + v) % 2 ^ 32) s.sicp.rcTotal }

/-- 07 R293, R294: a counter passes half range, sets its HALF bit and interrupts the Spindle, which reads it. -/
def execCounterHalf (t : Time) (p : Fin 258) (i : Fin 16) (s : State) : Host.Outcome State Fault Refusal :=
  released t s fun s =>
    if 2 ^ 31 ≤ s.get (portCounter p i) then s.readCounter p i else s

/-- The port whose block holds an address. -/
def portAt (a : Nat) : Option Nat :=
  let isl := (a - 0x4000000000) / 0x100000
  let off := (a - 0x4000000000) % 0x100000
  if isl < 16 && 0x31000 ≤ off && off < 0x32000 then some (16 * isl + (off - 0x31000) / 0x100)
  else if isl = 34 && 0x70000 ≤ off && off < 0x70200 then some (256 + (off - 0x70000) / 0x100)
  else none

/-- The port and index of the counter at an address, if one stands there. -/
def counterAt (a : Nat) : Option (Nat × Nat) :=
  if 0x20 ≤ a % 0x100 && a % 0x100 < 0x64 then (portAt a).map (fun p => (p, (a % 0x100 - 0x20) / 4)) else none

/-- HALF bits written 1 clear, until their counters pass half range again (07 R293). -/
def State.halfClear (s : State) (p w : Nat) : State :=
  let x := s.port p
  s.setPort p { x with halfSeen := (List.range 16).filter (fun i => 2 ^ 31 ≤ s.get (portCounter p i) && (bit w i || x.halfSeen.contains i)) }

/-- 07 R294: in each Whorl second the Spindle reads every 32-bit port counter. Counters that are 0 add nothing. -/
def execCounterSweep (t : Time) (s : State) : Host.Outcome State Fault Refusal :=
  released t s fun s =>
    (s.regs.filterMap (fun r => counterAt r.1)).foldl (fun s c => s.readCounter c.1 c.2) s

end Sys2Proof.Machine
end

