-- ==== Sys2Proof/Machine/Whorl.lean ====
section
/-! DEFINITION. The Whorl: the calendar, references and their selection, the servo, the states, PTP, pulse outputs, the start of
time, realigns and the time wire (12; the calendar of 17 R645, R646). -/

namespace Sys2Proof.Machine

/-! ### The TIMING record (12 Table 12.11) -/

def State.timing (s : State) : List Byte := s.rec1 0x01A0
def State.autoStep (s : State) : Bool := bit (byteAt s.timing 4) 0
def State.revert (s : State) : Bool := bit (byteAt s.timing 4) 1
def State.refRequired (s : State) : Bool := bit (byteAt s.timing 4) 2
def State.slewPpt (s : State) : Nat := orDef (byteAt s.timing 6) 2 * 1000000
def State.refWait (s : State) : Nat := orDef (byteAt s.timing 7) 80 * 10 * ms
def State.slewLimit (s : State) : Nat := orDef (leAt s.timing 8 4) 100000
def State.holdover (s : State) : Nat := orDef (leAt s.timing 12 2) 3600
def State.wtr (s : State) : Nat := orDef (leAt s.timing 14 2) 60
def State.freePpt (s : State) : Int := signed 32 (leAt s.timing 16 4)
def State.twinLimit (s : State) : Nat := orDef (leAt s.timing 20 2) 1000
def State.utcDefault (s : State) : Nat := orDef (byteAt s.timing 22) 37

/-- The PRIO list: reference codes in order; 0xF is none. -/
def State.prioList (s : State) : List Nat :=
  let p := orDef (leAt s.timing 0 4 % 2 ^ 24) 0x543210
  ((List.range 6).map (fun i => p / 16 ^ i % 16)).filter (· < 6)

/-! ### The calendar (17 R645, R646) -/

/-- Leap years. -/
def isLeap (y : Nat) : Bool := (y % 4 = 0 && y % 100 ≠ 0) || y % 400 = 0

/-- The length of a month. -/
def monthDays (y m : Nat) : Nat :=
  if m = 2 then (if isLeap y then 29 else 28) else if m = 4 || m = 6 || m = 9 || m = 11 then 30 else 31

/-- Is a date impossible (17 R646)? -/
def dateBad (y mo d h mi sc ns : Nat) : Bool :=
  mo < 1 || 12 < mo || d < 1 || monthDays y mo < d || 24 ≤ h || 60 ≤ mi || 60 ≤ sc || sec ≤ ns

/-- Leap years before year `y`. -/
def leapsTo (y : Nat) : Nat := (y - 1) / 4 - (y - 1) / 100 + (y - 1) / 400

/-- Days from 1970-01-01 to a date (17 R645). -/
def daysTo (y mo d : Nat) : Nat :=
  (y - 1970) * 365 + (leapsTo y - leapsTo 1970)
    + ((List.range 12).filter (fun m => m + 1 < mo)).foldl (fun n m => n + monthDays y (m + 1)) 0 + (d - 1)

/-- Whorl time of a UTC date with a TAI − UTC offset (17 R645). -/
def dateToWhorl (y mo d h mi sc ns offset : Nat) : Time :=
  (daysTo y mo d * 86400 + h * 3600 + mi * 60 + sc + offset) * sec + ns

/-! ### References -/

/-- The REF_IN record of an input (12 Table 12.13). -/
def State.refIn (s : State) (input : Nat) : Option (List Byte) := s.recOf 0x01A2 0 1 input

/-- The PTP record of an instance (12 Table 12.12). -/
def State.ptpRec (s : State) (d : Nat) : Option (List Byte) := s.recOf 0x01A1 0 1 d

/-- Has a reference an enabling record (12 R451, R463, R482)? -/
def State.refEnabled (s : State) (r : Nat) : Bool :=
  if r < 2 then (s.ptpRec r).isSome
  else match s.refIn (r - 2) with
    | some v => bit (byteAt v 1) 0
    | none => false

/-- Does a reference give phase (12 Table 12.1)? -/
def hasPhase (r : Nat) : Bool := r ≠ 4

/-- The phase modulus of a reference, as a fraction of a second: frames per `den` seconds (12 Table 12.1); 0 for none. -/
def State.modulus (s : State) (r : Nat) : Nat × Nat :=
  if r = 5 then (1, 1)
  else if r = 2 || r = 3 then
    let c := byteAt ((s.refIn (r - 2)).getD []) 2
    (rateNum c, rateDen c)
  else (0, 1)

/-- The nearest integer to a fraction. -/
def roundDiv (a : Int) (b : Nat) : Int := if b = 0 then 0 else (2 * a + b) / (2 * b)

/-- Is a reference qualified? -/
def State.qualified (s : State) (r : Nat) : Bool := s.has (R.REF_QUALIFIED r)

/-- φ of a reference (12 R452). -/
def State.phi (s : State) (r : Nat) : Int := lookD r s.whl.phi 0

/-- The state of the Whorl: 0 FREE_RUN, 1 ACQUIRING, 2 LOCKED, 3 HOLDOVER, 4 LOST (12 R460). -/
def State.whlCur (s : State) : Nat := s.get R.WHL_STATE_CUR

/-- φ − φ_h of the selected reference; 0 where it gives no phase or none is selected (12 R457, R458). -/
def State.phaseErr (s : State) : Int :=
  match s.whl.selected with
  | some r => if hasPhase r then s.phi r - s.whl.held else 0
  | none => 0

/-- A signed number saturated to `n` bits of two's complement. -/
def satur (n : Nat) (z : Int) : Nat :=
  unsigned n (max (-((2 : Int) ^ (n - 1))) (min ((2 : Int) ^ (n - 1) - 1) z))

/-- The registers of Tables 12.15 to 12.17 follow the Whorl. -/
def State.whlShow (s : State) : State :=
  let s := (s.set R.WHL_STATE_REF (s.whl.selected.getD 15)).set R.WHL_STATE_HELD (b2n (s.whl.held ≠ 0))
  let s := (s.set R.WHL_STATE_FORCED (b2n s.whl.forced.isSome)).set R.WHL_STATE_REALIGN_PEND (b2n s.whl.step.isSome)
  let s := (s.set R.WHL_NCO_W (unsigned 30 s.whl.w)).set R.WHL_PHASE (satur 32 s.phaseErr)
  let s := s.set R.WHL_HELD_LO (unsigned 64 s.whl.held)
  (List.range 6).foldl (fun s r =>
    let s := (s.set (R.REF_SELECTED r) (b2n (s.whl.selected = some r))).set (R.REF_ENABLED r) (b2n (s.refEnabled r))
    (s.set (R.REF_PHASE r) (if hasPhase r then satur 32 (s.phi r) else 0)).set (R.REF_FREQ r) (satur 30 (lookD r s.whl.freq 0))) s

/-! ### Pulse outputs -/

/-- The PULSE_OUT record of an output; PPS_OUT without one runs PPS (12 R473). -/
def State.pulseRec (s : State) (k : Nat) : List Byte :=
  match s.recOf 0x01A3 0 1 k with
  | some v => v
  | none => if k = 8 then [8, 2] else []

/-- The unshifted instant of an output's clock at a Whorl time: every instant of Table 12.8 is shifted by OFFSET (12 R473). -/
def pulseAt (v : List Byte) (t : Time) : Time := ((t : Int) - signed 32 (leAt v 8 4)).toNat

/-- The active-going edges of an output before an instant (12 Table 12.8), in the modes that count them: FRAME, PPS and WORD. -/
def State.pulsesTo (s : State) (k : Nat) (t : Time) : Nat :=
  let v := s.pulseRec k
  let t := pulseAt v t
  match byteAt v 1 with
  | 1 => frameFrom (byteAt v 2) t
  | 2 => ceilDiv t sec
  | 4 => ceilDiv (t * 48000) sec
  | _ => 0

/-- The last active-going edge at or before an instant of an output's clock, and whether the output is active then (12 Table 12.8). -/
def pulseEdge (v : List Byte) (t : Time) : Time × Bool :=
  let (m, w) := (leAt v 4 2, orDef (leAt v 6 2) 100)
  match byteAt v 1 with
  | 1 =>
    let e := alignPoint (byteAt v 2) (frameFrom (byteAt v 2) (t + 1) - 1)
    (e, t < e + w * 1000)
  | 2 => (t / sec * sec, t % sec < w * 1000)
  | 3 =>
    let f := m * 48000
    (ceilDiv (t * f / sec * sec) f, 2 * t * f / sec % 2 = 0)
  | 4 => (ceilDiv (t * 48000 / sec * sec) 48000, t * 48000 % sec * m < w * sec)
  | _ => (0, false)

/-- Does the Whorl hold an output inactive, whatever the time after a step (12 R475, Table 12.3; R471)? -/
def State.pulseHeld (s : State) (k : Nat) : Bool :=
  let v := s.pulseRec k
  byteAt v 1 = 0 || !s.whl.ready || s.flt.stopped || (bit (byteAt v 3) 1 && (s.whlCur = 0 || s.whlCur = 1 || s.whlCur = 4))

/-- Is an output held inactive (12 R475, R477)? -/
def State.pulseQuiet (s : State) (k : Nat) : Bool := s.pulseHeld k || decide (s.now < s.whl.quietUntil)

/-- The level of an output's pin now (12 R473 to R475): a run begins with its first edge instant, and INVERT exchanges the levels. -/
def State.pulseLevel (s : State) (k : Nat) : Bool :=
  let v := s.pulseRec k
  let active := match look k s.whl.pulseBase with
    | some b =>
      let (e, on) := pulseEdge v (pulseAt v s.now)
      on && !s.pulseQuiet k && decide ((b.1 : Int) ≤ e + signed 32 (leAt v 8 4))
    | none => false
  active != bit (byteAt v 3) 0

/-- The edges of an output's run are counted before an instant (12 Table 12.19). -/
def State.foldPulse (s : State) (k : Nat) (t : Time) : State :=
  match look k s.whl.pulseBase with
  | some b => { s.bump (R.OUT_PULSES k) (s.pulsesTo k t - s.pulsesTo k b.2) with whl.pulseBase := put k (b.1, max b.2 t) s.whl.pulseBase }
  | none => s

/-- Each output's QUIET and MODE follow the Whorl; the pulses of a run that ends are counted (12 Table 12.19). -/
def State.pulseShow (s : State) : State :=
  (List.range 9).foldl (fun s k =>
    let q := s.pulseQuiet k
    let s := (s.set (R.OUT_QUIET k) (b2n q)).set (R.OUT_MODE k) (byteAt (s.pulseRec k) 1)
    let from_ := max s.now s.whl.quietUntil
    if s.pulseHeld k then { s.foldPulse k s.now with whl.pulseBase := drop k s.whl.pulseBase }
    else if (look k s.whl.pulseBase).isSome then s
    else { s with whl.pulseBase := put k (from_, from_) s.whl.pulseBase }) s

/-- Every run of a pulse output ends now (12 R477). -/
def State.pulseStop (s : State) : State :=
  let s := (List.range 9).foldl (fun (s : State) k => s.foldPulse k s.now) s
  { s with whl.pulseBase := [] }

/-! ### States and selection -/

/-- The mean of w for HOLDOVER and LOST (12 R459): over the 60 s of LOCKED that end 5 s before it was last left, or over all of it but
its last 5 s; FREE_PPT after 5 s of LOCKED or less. Each word counts for as long as it stood. -/
def State.holdMean (s : State) : Int :=
  let left := if s.whlCur = 2 then s.up else s.whl.holdSince
  let stop := left - 5 * sec
  let start := max s.whl.lockedAt (left - 65 * sec)
  if stop ≤ start || left < 5 * sec then s.freePpt
  else
    let pairs := s.whl.hist.zip ((s.whl.hist.drop 1).map (·.1) ++ [left])
    let sum : Int := pairs.foldl (fun (a : Int) p =>
      a + p.1.2 * (((min stop p.2 - max start p.1.1 : Nat) : Int))) 0
    roundDiv sum (stop - start)

/-- The Whorl takes a state (12 R460, Tables 12.2, 12.3): the NCO word, the timer, the events and the fault of LOST follow. -/
def State.setWhl (s : State) (new : Nat) : State :=
  let old := s.whlCur
  if old = new then s
  else
    let mean := s.holdMean
    let s := (s.set R.WHL_STATE_PREV old).set R.WHL_STATE_CUR new
    let s := if old = 2 then { s with whl.holdSince := s.up, whl.w := if new = 3 then mean else s.whl.w } else s
    let s := { s with whl.lockFrom := none, whl.outFrom := none }
    let s := if old = 1 && (new = 3 || new = 4) then { s with whl.w := mean } else s
    let s := if new = 0 then { s with whl.w := s.freePpt } else s
    let s := if new = 2 then
        let s := { s with whl.everLocked := true, whl.lockedAt := s.up, whl.hist := [(s.up, s.whl.w)] }
        s.event 33 1 0x0401 (beBytes 1 (s.whl.selected.getD 15))
      else if new = 3 then s.event 33 1 0x0402 []
      else if new = 4 then s.raise 33 2 0x0403 1 []
      else s
    let s := if old = 4 then s.resolve 33 1 else if old = 0 then s.resolve 33 2 else s
    s.whlShow.pulseShow

/-- The state after no reference is qualified (12 Table 12.2). -/
def State.whlNone (s : State) : State :=
  if s.whlCur = 2 then s.setWhl 3
  else if s.whlCur = 1 then
    if !s.whl.everLocked then s.setWhl 0
    else if s.up < s.whl.holdSince + s.holdover * sec then s.setWhl 3
    else s.setWhl 4
  else s

/-- The state after a new selection (12 Table 12.2, R457): LOCKED stays when the error, after what R457 will hold, is within 1 µs. -/
def State.whlNew (s : State) : State :=
  let e := s.phaseErr
  let after : Int := if s.slewLimit < e.natAbs && !s.autoStep then 0 else e
  if s.whlCur = 2 then (if after.natAbs ≤ 1000 then { s with whl.lockFrom := none, whl.outFrom := none } else s.setWhl 1)
  else s.setWhl 1

/-- The port of an instance that is in SLAVE, with its data. -/
def PtpInst.slave (x : PtpInst) : Option PtpPort := x.ports.find? (fun p => p.state = .slave)

/-- The UTC facts of the selected PTP instance (12 R466); none where another reference or none is selected. -/
def State.utcTake (s : State) : State :=
  match s.whl.selected with
  | some r =>
    if r < 2 then
      match (if r = 0 then s.whl.inst0 else s.whl.inst1).slave.bind (·.best) with
      | some a => { s with whl.utc := if a.utcValid then some a.utc else none, whl.leap59 := a.leap59, whl.leap61 := a.leap61 }
      | none => s
    else { s with whl.utc := none, whl.leap59 := false, whl.leap61 := false }
  | none => { s with whl.utc := none, whl.leap59 := false, whl.leap61 := false }

/-- REF_SWITCH (12 R453): the selected reference changes, is logged and counted; the state follows. -/
def State.switchRef (s : State) (r : Option Nat) : State :=
  if s.whl.selected = r then s
  else
    let old := s.whl.selected
    let s := { s with whl.selected := r }.bump R.WHL_SWITCHES 1
    let s := (s.event 33 1 0x0400 (beBytes 1 (old.getD 15) ++ beBytes 1 (r.getD 15))).utcTake
    match r with
    | none => s.whlNone.whlShow
    | some _ => s.whlNew.whlShow

/-- The first qualified reference in PRIO (12 R453). -/
def State.firstRef (s : State) : Option Nat := s.prioList.find? (fun r => s.qualified r)

/-- Selection after a change of qualification (12 R453, R454): a forced reference or none; else the selected one while it stays
qualified; else the first. -/
def State.reselect (s : State) : State :=
  match s.whl.forced with
  | some r => s.switchRef (if s.qualified r then some r else none)
  | none =>
    match s.whl.selected with
    | some r => if s.qualified r then s else s.switchRef s.firstRef
    | none => s.switchRef s.firstRef

/-- Four consecutive offsets within 1 µs of their median (12 Table 12.1). -/
def steady (l : List Int) : Bool :=
  match sortBy (fun a b => a ≤ b) l with
  | [a, b, c, d] => decide (b + c - 2 * a ≤ 2000) && decide (2 * d - b - c ≤ 2000)
  | _ => false

/-- The state of a PTP instance. -/
def State.inst (s : State) (d : Nat) : PtpInst := if d = 0 then s.whl.inst0 else s.whl.inst1

/-- Change a PTP instance. -/
def State.setInst (s : State) (d : Nat) (x : PtpInst) : State :=
  if d = 0 then { s with whl.inst0 := x } else { s with whl.inst1 := x }

/-- MAX_CLASS of an instance (12 Table 12.12). -/
def State.maxClass (s : State) (d : Nat) : Nat := orDef (byteAt ((s.ptpRec d).getD []) 8) 248

/-- May an instance qualify (12 Table 12.1)? -/
def State.ptpFit (s : State) (d : Nat) : Bool :=
  match (s.inst d).slave with
  | some p => (match p.best with
    | some a => decide (a.cls ≤ s.maxClass d)
    | none => false) && steady (s.inst d).last
  | none => false

/-- An edge or a message of a reference is seen (12 Table 12.17: PRESENT is what the last second brought). -/
def State.seeRef (s : State) (r : Nat) : State := { s with whl.seen := put r s.up s.whl.seen }

/-- May a reference qualify: it has an enabling record, and an instance's own records are checked (12 Table 12.1)? -/
def State.mayQualify (s : State) (r : Nat) : Bool := s.refEnabled r && !s.qualified r && (decide (2 ≤ r) || s.ptpFit r)

/-- A reference qualifies: QUALIFIED, and the selection where nothing is selected. -/
def State.qualify (s : State) (r : Nat) : State :=
  let s := (s.set (R.REF_QUALIFIED r) 1).seeRef r
  let s := { s with whl.qualSince := put r s.up s.whl.qualSince }
  s.reselect.whlShow

/-- 12 R451: a reference meets its qualification condition. The edges of a pulse or the 10 MHz input that this rests on are what
the command says; of a PTP instance the chip's own records are checked. -/
def execRefQualify (t : Time) (ref : Fin 6) (s : State) : Host.Outcome State Fault Refusal :=
  released t s fun s =>
    if s.mayQualify ref then s.qualify ref else s

/-- A reference loses its qualification (12 R451, R453). -/
def State.disqualify (s : State) (r : Nat) : State :=
  if s.qualified r then
    let s := ((s.set (R.REF_QUALIFIED r) 0).bump (R.REF_DISQUAL r) 1)
    ({ s with whl.qualSince := drop r s.whl.qualSince }.reselect).whlShow
  else s

/-- The ports of an instance forget the grandmaster whose Announce messages stopped (12 R451, R464). -/
def State.annTimeout (s : State) (d : Nat) : State :=
  let x := s.inst d
  let ports := x.ports.map (fun p => if p.state = .slave then { p with best := none, state := .listening } else p)
  (s.setInst d { x with ports := ports, last := [] }).bump (R.PTP_ANN_TIMEOUT d) 1

/-! ### PTP (12 R462 to R466) -/

/-- The ports of an instance from its record. -/
def State.ptpPorts (s : State) (d : Nat) : List (Nat × Int × Nat) :=
  match s.ptpRec d with
  | none => []
  | some v => (List.range (byteAt v 9)).map (fun i =>
      (leAt v (16 + 8 * i) 2, signed 16 (leAt v (18 + 8 * i) 2), byteAt v (20 + 8 * i)))

/-- The port of an instance. -/
def PtpInst.port (x : PtpInst) (p : Nat) : PtpPort := (x.ports.find? (fun y => y.port = p)).getD { port := p }

/-- Change a port of an instance. -/
def PtpInst.setPort (x : PtpInst) (y : PtpPort) : PtpInst :=
  { x with ports := x.ports.filter (fun z => z.port ≠ y.port) ++ [y] }

/-- The chip's own data as grandmaster (12 R464, Table 12.3). -/
def State.ownClock (s : State) (d : Nat) : Ann :=
  let v := (s.ptpRec d).getD []
  let cls := if s.whlCur = 2 then 13 else if s.whlCur = 3 then 14 else if s.whlCur = 4 then 58 else 248
  { prio1 := byteAt v 3, cls := cls, acc := Config.clockQuality / 65536, var := Config.clockQuality % 65536, prio2 := byteAt v 4
    gmId := Config.clockId, steps := 0, source := Config.clockId, utc := s.whl.utc.getD s.utcDefault
    utcValid := s.whl.utc.isSome, leap59 := s.whl.leap59, leap61 := s.whl.leap61 }

/-- The order of the default best master clock algorithm (12 R464; the comparison of IEEE 1588-2019, log entry 26). -/
def Ann.better (a b : Ann) : Bool :=
  if a.gmId = b.gmId then a.steps < b.steps || (a.steps = b.steps && a.source < b.source)
  else
    let k (x : Ann) : List Nat := [x.prio1, x.cls, x.acc, x.var, x.prio2, x.gmId]
    k a < k b

/-- The time after which Announce data that nothing renewed is forgotten (12 Table 12.12: ANN_TIMEOUT Announce intervals). -/
def State.annSpan (s : State) (d : Nat) : Nat :=
  let v := (s.ptpRec d).getD []
  orDef (byteAt v 7) 3 * (sec * 2 ^ orDef (byteAt v 6) 6 / 2 ^ 8)

/-- The state decision of an instance (12 R464): the port with the best data is SLAVE when it beats the chip's own, unless its role
forbids it; the others are MASTER, or PASSIVE where they hear the same grandmaster. -/
def State.bmca (s : State) (d : Nat) : State :=
  let live (p : PtpPort) : PtpPort :=
    if p.state ≠ .slave && decide (p.heard + s.annSpan d < s.up) then { p with best := none } else p
  let x := { s.inst d with ports := (s.inst d).ports.map live }
  let gm := bit (byteAt ((s.ptpRec d).getD []) 2) 0
  let roles := s.ptpPorts d
  let role (p : Nat) : Nat := ((roles.find? (fun r => r.1 = p)).map (fun r => r.2.2 % 4)).getD 0
  let cands := x.ports.filter (fun p => p.best.isSome && role p.port ≠ 1)
  let better (p q : PtpPort) : Bool := match p.best, q.best with
    | some a, some b => a.better b
    | _, _ => false
  let best : Option PtpPort := cands.foldl (fun b p => match b with
    | none => some p
    | some q => if better p q then some p else b) none
  let wins := match best.bind (·.best) with
    | some a => !gm || a.better (s.ownClock d)
    | none => false
  let winner : Option Nat := if wins then best.map (·.port) else none
  let gmId : Option Nat := if wins then (best.bind (·.best)).map (·.gmId) else none
  let state (p : PtpPort) : PtpState :=
    if winner == some p.port then .slave
    else if role p.port = 2 || (winner.isNone && !gm) then .listening
    else if gmId.isSome && p.best.map (·.gmId) == gmId then .passive
    else .master
  let was : Option Nat := (x.slave.bind (·.best)).map (·.gmId)
  let s := s.setInst d { x with ports := x.ports.map (fun p => { p with state := state p }) }
  let lost := { s.inst d with last := [] }
  let s := if was != gmId then (s.setInst d lost).disqualify d else s
  if wins && s.qualified d && !((best.bind (·.best)).map (fun a => decide (a.cls ≤ s.maxClass d))).getD false then s.disqualify d
  else s

/-- The registers of an instance and the UTC facts follow (12 R466, Table 12.18). -/
def State.ptpShow (s : State) (d : Nat) : State :=
  let x := s.inst d
  let gm := bit (byteAt ((s.ptpRec d).getD []) 2) 0 && (s.ptpRec d).isSome
  let a := (x.slave.bind (·.best))
  let own := s.ownClock d
  let data := a.getD own
  let on := a.isSome || gm
  let s := (s.set (R.PTP_STEPS_REMOVED d) (if on then data.steps else 0)).set (R.PTP_GM_CLASS d) (if on then data.cls else 0)
  let s := (s.set (R.PTP_SLAVE d) (b2n x.slave.isSome)).set (R.PTP_GM_SELF d) (b2n (gm && x.slave.isNone))
  let s := s.set (R.PTP_SLAVE_PORT d) ((x.slave.map (·.port)).getD 0)
  let s := (s.set (R.PTP_GM_ID_LO d) (if on then data.gmId else 0)).set (R.PTP_GM_ID_HI d) (if on then data.gmId / 2 ^ 32 else 0)
  let s := (s.set (R.PTP_OFFSET d) (satur 32 x.offset)).set (R.PTP_PATH_DELAY d) (unsigned 32 x.delay)
  if s.whl.selected = some d then s.utcTake else s

/-- Does the offset in use come from PTP (12 R466)? -/
def State.utcFromPtp (s : State) : Bool := s.whl.utc.isSome && s.whl.selected.any (· < 2)

/-- TAI − UTC in use (12 R466). -/
def State.utcOffset (s : State) : Nat :=
  if s.whl.selected.any (· < 2) then s.whl.utc.getD s.utcDefault else s.utcDefault

/-- UTC fields (12 R466, Table 12.16). -/
def State.utcShow (s : State) : State :=
  let s := (s.set R.WHL_UTC_VALID (b2n s.utcFromPtp)).set R.WHL_UTC_OFFSET s.utcOffset
  (s.set R.WHL_UTC_LEAP59 (b2n s.whl.leap59)).set R.WHL_UTC_LEAP61 (b2n s.whl.leap61)

/-- The header of a PTP message sent on a port of an instance (12 R462, R463): from the port's own address of its IP version, to the group unless
it answers an address. -/
def State.ptpHead (s : State) (d p : Nat) (event : Bool) (seq : Nat) (answers : Option Nat) : PtpHead :=
  let flags := (((s.ptpPorts d).find? (fun r => r.1 = p)).map (·.2.2)).getD 0
  let v6 := bit flags 2
  let own := (s.ownAddrs p).filter (fun a => (a / 2 ^ 32 ≠ 0xFFFF) = v6)
  { v6 := v6, src := own.headD 0, dst := answers.getD (if v6 then 0xFF0E * 2 ^ 112 + 0x181 else mapped4 0xE0000181)
    dport := if event then 319 else 320, domain := byteAt ((s.ptpRec d).getD []) 1, seq := seq }

/-- A new raw offset of an instance (12 R451, R455): filtered, and one of the last four. -/
def State.ptpOffset (s : State) (d : Nat) (raw : Int) : State :=
  let x := s.inst d
  let f := Config.ptpFilter x.offset raw
  let s := s.setInst d { x with offset := f, last := (x.last ++ [f]).drop (x.last.length + 1 - 4) }
  let s := { s with whl.phi := put d (-f) s.whl.phi }
  s.bump (R.REF_SAMPLES d) 1

/-- A sync or follow-up completes on a port: t2 − t1 with corrections, less the path delay, is the raw offset. -/
def State.ptpMs (s : State) (d p : Nat) (t1 t2 : Int) : State :=
  let x := s.inst d
  let s := s.setInst d (x.setPort { x.port p with ms := some (t2 - t1), sync := none })
  (s.bump (R.PTP_SYNC_RX d) 1).ptpOffset d (t2 - t1 - x.delay)

/-- PTP_MESSAGE_RX for one instance on a port (12 R462, R464, R465). The stamp is the step's time less ASYM. -/
def State.ptpOne (s : State) (d p : Nat) (asym : Int) (m : Ptp) : State :=
  let x := s.inst d
  let y := x.port p
  let stamp : Int := (s.now : Int) - asym
  let parent := y.state = .slave && y.best.any (fun a => a.source = m.source)
  match m.body with
  | .announce p1 c a v p2 g st utc uv l59 l61 =>
    let ann : Ann := ⟨p1, c, a, v, p2, g, st, m.source, utc, uv, l59, l61⟩
    let keep := match y.best with
      | none => true
      | some b => b.source = m.source || ann.better b
    let s := if keep then s.setInst d (x.setPort { y with best := some ann, heard := s.up }) else s
    ((s.bmca d).ptpShow d).utcShow
  | .sync two origin =>
    if !parent then s
    else if two then s.setInst d (x.setPort { y with sync := some (m.seq, stamp - m.corr) })
    else (s.ptpMs d p origin (stamp - m.corr)).ptpShow d
  | .followUp origin =>
    match y.sync with
    | some (q, t2) => if parent && q = m.seq then (s.ptpMs d p (origin + m.corr) t2).ptpShow d else s
    | none => s
  | .delayReq =>
    if y.state = .master then
      let off : Int := if x.slave.isSome then x.offset else 0
      (s.bump (R.PTP_DELAY_REQ_RX d) 1).sendEth p
        (.ptp (s.ptpHead d p false m.seq (if m.unicast then some m.addr else none)) (.delayResp (stamp - off) m.corr))
    else s
  | .delayResp t4 us =>
    match y.req, y.ms with
    | some (q, t3), some dms =>
      if us && q = m.seq && parent then
        let raw := (dms + (t4 - m.corr - t3)) / 2
        (s.setInst d { x.setPort { y with req := none } with delay := Config.ptpFilter x.delay raw }).ptpShow d
      else s
    | _, _ => s
  | _ => s

/-- PTP_MESSAGE_RX (12 R462, R465): the instance of its domain that runs on the port takes a message; a management message is dropped there, and
what is malformed or of another version or domain is dropped by every instance on the port. Both are counted. -/
def State.ptpRx (s : State) (p : Nat) (m : Ptp) : State :=
  let on := [0, 1].filterMap (fun d => ((s.ptpPorts d).find? (fun r => r.1 = p)).map (fun r => (d, r.2.1)))
  let dropped := match m.body with
    | .management => true
    | .other => true
    | _ => false
  match (if m.good && m.version = 2 then on.find? (fun x => byteAt ((s.ptpRec x.1).getD []) 1 = m.domain) else none) with
  | some x => if dropped then s.bump (R.PTP_BAD_MSG x.1) 1 else (s.seeRef x.1).ptpOne x.1 p x.2 m
  | none => on.foldl (fun (s : State) x => s.bump (R.PTP_BAD_MSG x.1) 1) s

/-- 12 R462, R464 to R466: an instance sends Sync (kind 0), Announce (1) or Delay_Req (2) on a port. A master port's Announce carries the data of the
instance's parent where a port is in SLAVE, else the chip's own; the UTC offset is the one in use, valid when it came from PTP. The stamp of an event message
that leaves is corrected for ASYM as that of one received. -/
def execPtpMessageTx (t : Time) (d : Fin 2) (p : Fin 256) (kind : Fin 3) (s : State) : Host.Outcome State Fault Refusal :=
  released t s fun s =>
    match (s.ptpPorts d).find? (fun r => r.1 = p.val) with
    | none => s
    | some r =>
      let s := if (s.inst d).ports.any (fun y => y.port = p.val) then s else s.setInst d ((s.inst d).setPort { port := p })
      let s := (s.bmca d).ptpShow d
      let x := s.inst d
      let y := x.port p
      let origin : Int := (s.now : Int) - r.2.1 - (if x.slave.isSome then x.offset else 0)
      if kind = 0 && y.state = .master then
        let one := bit (byteAt ((s.ptpRec d).getD []) 2) 1
        let s := (s.setInst d (x.setPort { y with syncSeq := (y.syncSeq + 1) % 65536 })).bump (R.PTP_SYNC_TX d) 1
        let s := s.sendEth p (.ptp (s.ptpHead d p true y.syncSeq none) (.sync one origin))
        if one then s else s.sendEth p (.ptp (s.ptpHead d p false y.syncSeq none) (.follow origin))
      else if kind = 1 && y.state = .master then
        let a := match x.slave.bind (·.best) with
          | some a => { a with steps := a.steps + 1 }
          | none => s.ownClock d
        let s := s.setInst d (x.setPort { y with annSeq := (y.annSeq + 1) % 65536 })
        s.sendEth p (.ptp (s.ptpHead d p false y.annSeq none)
          (.announce a.prio1 a.cls a.acc a.var a.prio2 a.gmId a.steps s.utcOffset s.utcFromPtp a.leap59 a.leap61))
      else if kind = 2 && y.state = .slave then
        let s := s.setInst d (x.setPort { y with req := some (y.reqSeq, (s.now : Int) - r.2.1), reqSeq := (y.reqSeq + 1) % 65536 })
        s.sendEth p (.ptp (s.ptpHead d p true y.reqSeq none) .delayReq)
      else s

/-- 12 R451, R453: a reference meets a disqualification condition; cause 0 is an Announce receipt timeout of a PTP instance. -/
def execRefDisqualify (t : Time) (ref : Fin 6) (cause : Nat) (s : State) : Host.Outcome State Fault Refusal :=
  released t s fun s =>
    let s := if ref.val < 2 && cause = 0 then s.annTimeout ref else s
    let s := if ref.val < 2 then (s.bmca ref).ptpShow ref else s
    (s.disqualify ref).utcShow

/-! ### The servo -/

/-- The servo's correction on the selected reference (12 R455 to R458): the unstated loop, held within SLEW_PPM of the reference's
frequency; while the error exceeds SLEW_LIMIT only frequency is corrected. -/
def State.servoWord (s : State) (r : Nat) : Int :=
  let f : Int := lookD r s.whl.freq 0
  let e := s.phaseErr
  let e' : Int := if s.slewLimit < e.natAbs || !hasPhase r then 0 else e
  let w := Config.servoWord e' f s.whl.w
  max (s.whl.w + f - s.slewPpt) (min (s.whl.w + f + s.slewPpt) w)

/-- NCO_LIMIT (12 R445): a demanded word beyond ±500 000 000 is clamped, the bit set and F2 raised. -/
def State.writeNco (s : State) (w : Int) : State :=
  let c : Int := max (-500000000) (min 500000000 w)
  let s := { s with whl.w := c, whl.hist := if s.whlCur = 2 then s.whl.hist ++ [(s.up, c)] else s.whl.hist }
  if c = w then s.errDone R.WHL_ERR_NCO_LIMIT
  else if s.flt.conds.any (fun c => c.isl = 33 && c.tag = errTag R.WHL_ERR_NCO_LIMIT true) then s
  else s.err R.WHL_ERR_NCO_LIMIT 2 { typ := 3, master := 0x40 + 33 } (lasts := true)

/-- The spans in lock and out of lock (12 R460). -/
def State.lockSpans (s : State) : State :=
  match s.whl.selected with
  | none => { s with whl.lockFrom := none, whl.outFrom := none }
  | some r =>
    let f : Int := lookD r s.whl.freq 0
    let inside := if hasPhase r then s.phaseErr.natAbs ≤ 100 else f.natAbs ≤ 1000
    let outside := if hasPhase r then 1000 < s.phaseErr.natAbs else 10000 < f.natAbs
    { s with
      whl.lockFrom := if inside then some (s.whl.lockFrom.getD s.up) else none
      whl.outFrom := if outside then some (s.whl.outFrom.getD s.up) else none }

/-- φ of a pulse reference from the stamp of an edge (12 R452): the edge less OFFSET against the nearest alignment point of its RATE, or whole second,
wrapped into half a period either way; positive where the reference is ahead. -/
def State.edgePhi (s : State) (r : Nat) (edge : Int) : Int :=
  let (num, den) := s.modulus r
  let off : Int := signed 32 (leAt ((s.refIn (r - 2)).getD []) 4 4)
  let period : Int := den * sec
  let x : Int := ((edge - off) * num) % period
  roundDiv (if 2 * x < period then -x else period - x) num

/-- 12 R455: the servo measures φ and frequency of every qualified reference and writes w. `m` lists what it measured: the reference, the stamp of
its last edge, its frequency. A PTP instance's phase is its filtered offset with the sign reversed (R452). -/
def execServoSample (t : Time) (m : List (Fin 6 × Int × Int)) (s : State) : Host.Outcome State Fault Refusal :=
  released t s fun s =>
    if !s.whl.ready then s
    else
      let s := m.foldl (fun s x =>
        let r := x.1.val
        if !s.refEnabled r then s
        else
          let s := (s.bump (R.REF_SAMPLES r) (if r < 2 then 0 else 1)).seeRef r
          { s with
            whl.phi := if 2 ≤ r && hasPhase r then put r (s.edgePhi r x.2.1) s.whl.phi else s.whl.phi
            whl.freq := put r x.2.2 s.whl.freq }) s
      let s := match s.whl.selected with
        | some r => if s.whlCur = 1 || s.whlCur = 2 then s.writeNco (s.servoWord r) else s
        | none => s
      s.lockSpans.whlShow

/-- 12 R453: an earlier reference has stayed qualified for WTR with REVERT set. -/
def execWtrExpiry (t : Time) (ref : Fin 6) (s : State) : Host.Outcome State Fault Refusal :=
  released t s fun s =>
    let earlier := (s.prioList.takeWhile (fun r => s.whl.selected ≠ some r)).contains ref.val
    match look ref.val s.whl.qualSince with
    | some from_ =>
      if s.revert && s.whl.forced.isNone && s.qualified ref && s.whl.selected.isSome && earlier && from_ + s.wtr * sec ≤ s.up
      then s.switchRef (some ref.val) else s
    | none => s

/-- 12 R460: the selected reference has been in lock for 4 s. -/
def execWhlLockReached (t : Time) (s : State) : Host.Outcome State Fault Refusal :=
  released t s fun s =>
    match s.whl.lockFrom with
    | some from_ => if s.whlCur = 1 && from_ + 4 * sec ≤ s.up then s.setWhl 2 else s
    | none => s

/-- 12 R460: the selected reference has been out of lock for 2 s. -/
def execWhlOutOfLock (t : Time) (s : State) : Host.Outcome State Fault Refusal :=
  released t s fun s =>
    match s.whl.outFrom with
    | some from_ => if s.whlCur = 2 && from_ + 2 * sec ≤ s.up then s.setWhl 1 else s
    | none => s

/-- Does a waiting command of this instant qualify a reference that is then selected (12 Table 12.10: the qualification governs)? -/
def State.qualifiesNow (s : State) (t : Time) : Bool :=
  s.pending.any (fun c => match c with
    | .refQualify t' r => t' == t && s.mayQualify r && (s.whl.forced.isNone || s.whl.forced == some r.val) && s.prioList.contains r.val
    | _ => false)

/-- 12 R460: the holdover timer reaches HOLDOVER seconds. -/
def execHoldoverExpiry (t : Time) (s : State) : Host.Outcome State Fault Refusal :=
  released t s fun s =>
    if s.whlCur = 3 && s.whl.holdSince + s.holdover * sec ≤ s.up && !s.qualifiesNow t then s.setWhl 4 else s

/-- 12 R461, Table 12.3: with REQUIRE set, the Whorl is in FREE_RUN REF_WAIT + 60 s after start. -/
def execWhlNoref (t : Time) (s : State) : Host.Outcome State Fault Refusal :=
  released t s fun s =>
    if s.refRequired && s.whlCur = 0 && s.whl.startAt + s.refWait + 60 * sec ≤ s.up then s.raise 33 2 0x0404 2 [] else s

/-! ### Start, twin and time wire -/

/-- The time that the image's START_TIME record gives (18 R668). -/
def State.startTime (s : State) : Option Time :=
  match s.recs 0x0200 with
  | [] => none
  | r :: _ =>
    let v := r.val
    some (dateToWhorl (leAt v 0 2) (byteAt v 2) (byteAt v 3) (byteAt v 4) (byteAt v 5) (byteAt v 6) (leAt v 8 4) s.utcDefault)

/-- The count of the real-time counter now (17 R644). -/
def State.rtcNow (s : State) : Option Time := s.rtc.map (fun r => r.count + (s.up - r.at_))

/-- The audio engine after a step of Whorl time by `d`: its next tick is that of the new time, samples placed ahead are gone, and ramps are over. -/
def State.recount (s : State) (d : Int) : State :=
  { s with
    aud.count := 0
    aud.ins := s.aud.ins.map (fun (y : Nat × InCh) => (y.1, { y.2 with placed := [], trail := [] }))
    aud.delta := s.aud.delta.map (fun (y : Nat × Int) => (y.1, y.2 + d * 48000 / sec))
    aud.outs := s.aud.outs.map (fun (y : Nat × OutCh) => (y.1, { y.2 with
      fade := none, gfade := none, fill := y.2.fill.bind (fun f => if f.1 then none else some (false, 0)) })) }

/-- Whorl time is set freely before the chip serves (12 R467). -/
def State.setTime (s : State) (t : Time) : State := { s.recount ((t : Int) - (s.now : Int)) with now := t }

/-- The time of day of WHL at its release: source 3, 4 or 5 of Table 12.6, with the NCO at FREE_PPT (12 R467, Table 12.7). -/
def State.firstTime (s : State) : State :=
  let s := { s with whl.startAt := s.up, whl.w := s.freePpt }
  match s.rtcNow with
  | some t => s.setTime t
  | none => s.setTime ((s.startTime).getD 0)

/-- Move an instant by a signed number of nanoseconds. -/
def moved (t : Time) (d : Int) : Time := ((t : Int) + d).toNat

/-- The phase step before serving (12 R468): to the first phase reference in PRIO that has qualified. -/
def State.phaseStep (s : State) : State :=
  match s.prioList.find? (fun r => 2 ≤ r && hasPhase r && s.qualified r) with
  | some r => { s.setTime (moved s.now (s.phi r)) with whl.phi := s.whl.phi.map (fun p => (p.1, p.2 - s.phi r)) }
  | none => s

/-- The time from a PTP instance that has qualified, the first in PRIO of two, or else the phase step (12 R467, R468). -/
def State.ptpStep (s : State) : State :=
  match (s.prioList ++ [0, 1]).find? (fun r => decide (r < 2) && s.qualified r) with
  | some r => { s.setTime (moved s.now (s.phi r)) with whl.phi := s.whl.phi.map (fun p => (p.1, p.2 - s.phi r)) }
  | none => s.phaseStep

/-- Does the twin serve over the doubling link (12 Table 12.6)? -/
def State.twinServes (s : State) : Bool := s.dbl.linkUp && 2 ≤ s.dbl.twinRole && s.dbl.twinRole ≤ 6

/-- 12 R467 to R469: REF_WAIT after WHL's release, time and phase are stepped and WHL is ready. -/
def execWhlRefWaitEnd (t : Time) (s : State) : Host.Outcome State Fault Refusal :=
  released t s fun s =>
    if s.whl.ready then s
    else
      let s := match s.whl.twinOffset with
        | some d =>
          if s.twinServes then
            { s.setTime (moved s.now d) with
              whl.held := s.whl.twinHeld, whl.twinOffset := some 0, whl.phi := s.whl.phi.map (fun (p : Nat × Int) => (p.1, p.2 - d)) }
          else s.ptpStep
        | none => s.ptpStep
      let s := { s with whl.ready := true, whl.w := s.freePpt }
      let s := match s.whl.twinRef with
        | some r => if s.twinServes && s.qualified r then s.switchRef (some r) else s.reselect
        | none => s.reselect
      s.whlShow.utcShow.pulseShow

/-- 12 R470: a TIME frame gives the difference of the twins' Whorl times, the twin's minus this chip's. -/
def execDblTime (t : Time) (diff held : Int) (ref : Nat) (s : State) : Host.Outcome State Fault Refusal :=
  released t s fun s =>
    if !s.dbl.linkUp then s
    else
      let far := decide (s.twinLimit < diff.natAbs)
      let s := { s with
        whl.twinOffset := some diff, whl.twinHeld := held, whl.twinRef := if ref < 6 then some ref else none
        whl.twinOver := if far then some (s.whl.twinOver.getD s.up) else none }
      let s := if far then s else s.errDone R.WHL_ERR_TWIN_TIME
      (s.set R.WHL_TWIN_VALID 1).set R.WHL_TWIN_OFFSET (satur 31 diff)

/-- 12 R470: the difference has exceeded TWIN_LIMIT for 1 s. -/
def execTwinTimeExcess (t : Time) (s : State) : Host.Outcome State Fault Refusal :=
  released t s fun s =>
    match s.whl.twinOver with
    | some from_ =>
      if from_ + sec ≤ s.up && s.has R.WHL_TWIN_VALID then s.err R.WHL_ERR_TWIN_TIME 2 { typ := 3, master := 0x40 + 33 } (lasts := true) else s
    | none => s

/-- The bit of an island in WHL.WIRE (12 Table 12.16). -/
def wireFld (n : Nat) : Fld := if n < 32 then ⟨33, 0x20, n, n⟩ else ⟨33, 0x24, n - 32, n - 32⟩

/-- 12 R447: a round-trip measurement recalibrates an island's copy of Whorl time. -/
def execWireCalibrate (t : Time) (isl : Fin 40) (s : State) : Host.Outcome State Fault Refusal :=
  released t s fun s => if s.has (rstNow isl) then s else s.set (wireFld isl) 1

/-- 12 R446: XO_IN is absent for 10 µs; F4. -/
def execXoLoss (t : Time) (s : State) : Host.Outcome State Fault Refusal :=
  released t s fun s => s.err R.WHL_ERR_XO 4 { typ := 3, master := 0x40 + 33 } (stop := (15, 2))

/-! ### Realign and TIME_SET -/

/-- 12 R477, R480: at X both chips change Whorl time from X to X + δ, φ_h becomes 0, and the real-time counter takes the new time (17 R644). -/
def execTimeStep (t : Time) (s : State) : Host.Outcome State Fault Refusal :=
  served t s fun s =>
    match s.whl.step with
    | none => s
    | some (x, d, _) =>
      if s.now < x then s
      else
        let new := moved s.now d
        let after := moved x d + ms
        let late (tc : Time) : Bool := x ≤ tc && (tc : Int) < x + d
        let s := s.pulseStop
        let w := { s.whl with
          held := 0, step := none, floor := after + s.lead * ms, quietUntil := after
          phi := s.whl.phi.map (fun p => (p.1, p.2 - d)) }
        let dst := s.xp.dst.map (fun y => (y.1, { y.2 with live := false, wasLive := false, prevPic := none }))
        let s := { s.recount d with now := new, whl := w, xp.dst := dst, rtc := some ⟨new, s.up⟩ }
        let first := s.houseFrom s.whl.floor
        let salvos := s.xp.salvos.map (fun v => if late v.tc then { v with tc := first } else v)
        let shares := s.xp.shares.map (fun v => if late v.tc then { v with tc := first } else v)
        let s := { s with xp.salvos := salvos, xp.shares := shares }
        let s := (s.bump R.WHL_STEPS 1).event 33 1 0x0406 (beBytes 8 (unsigned 64 d))
        s.whlShow.pulseShow

/-- 12 R466: at the end of a UTC day marked by leap59 or leap61 the offset in use changes by one second. -/
def execLeapSecond (t : Time) (s : State) : Host.Outcome State Fault Refusal :=
  released t s fun s =>
    match s.whl.utc with
    | none => s
    | some u =>
      if s.whl.leap61 then { s with whl.utc := some (u + 1), whl.leap61 := false }.utcShow
      else if s.whl.leap59 then { s with whl.utc := some (u - 1), whl.leap59 := false }.utcShow
      else s

/-! ### The requests of time (12 R454, R476, R480) -/

/-- 12 R454: TIME_REF forces one reference, or returns to automatic selection (0xFF). -/
def execTimeRef (t : Time) (q : Req) (s : State) : Host.Outcome State Fault Refusal :=
  served t s fun s => s.request ⟨0x40, true, [one 0x25]⟩ q (chipNeed 7) fun s c =>
    let r := fld c.ts 0x25 0 1
    if r < 6 || r = 0xFF then s.enqueue c (.timeRef t q) else s.badValue c 0x25

/-- 12 R476: TIME_REALIGN. -/
def execTimeRealign (t : Time) (q : Req) (s : State) : Host.Outcome State Fault Refusal :=
  served t s fun s => s.request ⟨0x41, true, []⟩ q (chipNeed 7) fun s c => s.enqueue c (.timeRealign t q)

/-- The date of a DATE TLV: year, month, day, hour, minute, second, nanoseconds (15 Table 15.3). -/
def dateTlv (ts : List Tlv) : Nat × Nat × Nat × Nat × Nat × Nat × Nat :=
  (fld ts 0x26 0 2, fld ts 0x26 2 1, fld ts 0x26 3 1, fld ts 0x26 4 1, fld ts 0x26 5 1, fld ts 0x26 6 1, fld ts 0x26 8 4)

/-- 12 R480, 17 R648: TIME_SET with an impossible date, or a year outside 1970 to 2399, is refused with BAD_DATE. -/
def execTimeSet (t : Time) (q : Req) (s : State) : Host.Outcome State Fault Refusal :=
  served t s fun s => s.request ⟨0x42, true, [one 0x26]⟩ q (chipNeed 7) fun s c =>
    let (y, mo, d, h, mi, sc, ns) := dateTlv c.ts
    if y < 1970 || 2399 < y || dateBad y mo d h mi sc ns then s.reply (c.re 0x0027) else s.enqueue c (.timeSet t q)

/-! ### A reset of WHL (12 R471, R483) -/

/-- The tag of the condition "WHL is being reset". -/
def tagWhlReset : Nat := 17

/-- WHL is reset while the chip serves, or fails: F3, quiet outputs, and every field at its reset value (12 R471, R483). -/
def State.whlDown (s : State) : State :=
  if s.has (rstNow 33) then s
  else
    let s := ((s.beginReset 33).quietAll).clearWindow 33
    let s := { s with whl := { forced := s.whl.forced } }
    s.pulseShow.raise 33 3 0x0002 tagWhlReset (beBytes 4 0 ++ beBytes 4 0 ++ beBytes 4 0) { typ := 3, master := 0x40 + 33 }

/-- WHL's restart is done: it waits for references under Table 12.6 (WHL_REF_WAIT_END), or its failure is an F4 (12 R471). -/
def State.whlUp (s : State) (good : Bool) : State :=
  if !s.has (rstNow 33) then s
  else if good then (((s.set (rstNow 33) 0).resolve 33 tagWhlReset).firstTime).whlShow
  else s.f4 15 3

/-- 12 R471: WHL is reset. -/
def execWhlReset (t : Time) (s : State) : Host.Outcome State Fault Refusal := served t s State.whlDown

end Sys2Proof.Machine
end

