-- ==== Sys2Proof/Machine/Sicp.lean ====
section
/-! DEFINITION. SiCP sessions, the requests of chip scope that need no register, subscriptions and events, staging of salvos, and the
clearing of the fault word (15 R559 to R585; 16 R590 to R609; 20 R712 to R714). -/

namespace Sys2Proof.Machine

/-! ### Sessions -/

/-- UTC in seconds from 1970, from Whorl time (12 R466). -/
def State.utcSeconds (s : State) : Int := (s.now / sec : Nat) - (s.utcOffset : Int)

/-- The SICP record's fields (15 Table 15.12). -/
def State.idle (s : State) : Nat := orDef (leAt (s.rec1 0x01D0) 2 2) 60
def State.hsRate (s : State) : Nat := orDef (leAt (s.rec1 0x01D0) 4 2) 2000
def State.ownMax (s : State) : Nat := orDef (byteAt (s.rec1 0x01D0) 6) 64

/-- Does a ClientHello arrive on MA or MB? -/
def Hello.mgmt (h : Hello) : Bool := decide (256 ≤ h.port)

/-- Does a ClientHello go to the pair address (15 R559)? Any other address at which the chip listens is its own. -/
def State.toPair (s : State) (h : Hello) : Bool := h.mgmt && (s.pairAddrs h.port).contains h.addr

/-- Does a ClientHello reach an address and the UDP port at which SiCP is accepted (15 R559, R566)? -/
def State.listens (s : State) (h : Hello) : Bool := h.dport = s.sicpPort && (s.toPair h || (s.ownAddrs h.port).contains h.addr)

/-- AUTH_FAIL (20 Table 20.8). -/
def State.authFail (s : State) (reason : Nat) (peer : Nat × Nat) : State :=
  s.event 34 1 0x0700 (beBytes 1 reason ++ beBytes 16 peer.1 ++ beBytes 2 peer.2)

/-- A handshake fails with an alert. -/
def State.hsFail (s : State) (h : Hello) (alert : Nat) : State := (s.bump R.SCP_HS_FAIL 1).sendVia h.port (.dtlsAlert h.peer alert)

/-- A handshake is refused for a limit: internal_error, counted in HS_DROPPED (15 R563, 16 R592). -/
def State.hsDrop (s : State) (h : Hello) : State := (s.bump R.SCP_HS_DROPPED 1).sendVia h.port (.dtlsAlert h.peer 80)

/-- The tenant whose TENANT_ROOT record holds a root (16 R591). -/
def State.tenantOf (s : State) (root : List Byte) : Option Nat :=
  ((s.recs 0x01E1).find? (fun r => r.val.drop 4 = root)).map (fun r => leAt r.val 0 2)

/-- The principal of a tenant with a name (16 R591). -/
def State.princOf (s : State) (tenant : Nat) (name : List Byte) : Option Nat :=
  ((s.recs 0x01E2).find? (fun r =>
    leAt r.val 2 2 = tenant && (r.val.drop 16).take (byteAt r.val 7) = name)).map (fun r => leAt r.val 0 2)

/-- Is a certificate barred for a tenant (16 R592, Table 16.9)? -/
def State.barred (s : State) (tenant : Nat) (certs : List Cert) : Bool :=
  (s.recs 0x01E4).any (fun r => leAt r.val 0 2 = tenant &&
    certs.any (fun c => c.serial = (r.val.drop 4).take (byteAt r.val 2)))

/-- Rows 1 to 4 of Table 16.1 (16 R591, R592, R594): the principal, or the AUTH_FAIL reason. -/
def State.admitPrinc (s : State) (tenant : Nat) (name : List Byte) (certs : List Cert) (mgmt own : Bool) : Nat ⊕ Nat :=
  match s.princOf tenant name with
  | none => .inr 3
  | some p =>
    let fl := byteAt (s.princRec p) 4
    if bit fl 0 || s.barred tenant certs then .inr 4
    else if bit fl 1 && !mgmt then .inr 5
    else if own && !bit fl 2 then .inr 5
    else .inl p

/-- The checks of the chain (15 R562): an alert and AUTH_FAIL reason, or the tenant. -/
def State.checkChain (s : State) (h : Hello) : Nat ⊕ (Nat × Nat) :=
  match h.root.bind s.tenantOf with
  | none => .inr (48, 0)
  | some t =>
    if 4 < h.certs.length || !h.issuers || !h.usage || !h.verifies then .inr (42, 0)
    else if h.badDate then .inr (42, 1)
    else if h.certs.any (fun c => s.utcSeconds < c.notBefore || c.notAfter < s.utcSeconds) then .inr (45, 2)
    else .inl t

/-- A handshake completes (15 R561 to R563): the chip issues a connection ID. -/
def State.openSession (s : State) (h : Hello) (tenant princ : Nat) : State :=
  let n := if s.sicp.hsSecond.1 = s.second then s.sicp.hsSecond.2 else 0
  let (id, s) := s.freshNot 64 (s.sicp.sessions.map (·.id))
  let c : Session :=
    { id := id, own := !s.toPair h, mgmt := h.mgmt, princ := princ, tenant := tenant, name := h.name, root := h.root.getD []
      certs := h.certs, peer := h.peer, port := h.port, lastRx := s.up }
  let s := { s with sicp.sessions := s.sicp.sessions ++ [c], sicp.hsSecond := (s.second, n + 1) }
  let s := { s with sicp.cookies := s.sicp.cookies.filter (fun k => k.1 ≠ h.peer) }
  ((s.bump R.SCP_HS_DONE 1).sessShow tenant).sendVia h.port (.dtlsDone h.peer id)

/-- The handshake after its cookie (15 R562, R563; 16 R591, R592). -/
def State.handshake (s : State) (h : Hello) : State :=
  let l := s.sicp.sessions
  let done := if s.sicp.hsSecond.1 = s.second then s.sicp.hsSecond.2 else 0
  if 4096 ≤ l.length || (!s.toPair h && s.ownMax ≤ (l.filter (·.own)).length) || s.hsRate ≤ done then s.hsDrop h
  else match s.checkChain h with
    | .inr (alert, reason) => (s.authFail reason h.peer).hsFail h alert
    | .inl t => match s.admitPrinc t h.name h.certs h.mgmt (!s.toPair h) with
      | .inr reason => (s.authFail reason h.peer).hsFail h 49
      | .inl p =>
        if orDef (byteAt (s.princRec p) 6) 8 ≤ (l.filter (fun c => c.princ = p)).length ||
            orDef (leAt (s.tenantRec t) 4 2) 256 ≤ (l.filter (fun c => c.tenant = t)).length then s.hsDrop h
        else s.openSession h t p

/-- 15 R559, R561: a ClientHello to where the chip accepts SiCP is answered with an alert, with a cookie, or completes a handshake. -/
def execDtlsClientHello (t : Time) (h : Hello) (s : State) : Host.Outcome State Fault Refusal :=
  served t s fun s =>
    if !s.listens h then s
    else if s.toPair h && !s.dbl.role.holds then s.handOff
    else if !h.offers then s.hsFail h 40
    else if !s.keys.rngOk then s.hsFail h 80
    else
      let s := { s with sicp.cookies := s.sicp.cookies.filter (fun k => s.up ≤ k.2.2 + 2 * sec) }
      if s.sicp.cookies.any (fun k => k.1 = h.peer && h.cookie = some k.2.1) then s.handshake h
      else
        let (v, s) := s.fresh
        { s with sicp.cookies := s.sicp.cookies ++ [(h.peer, v, s.up)] }.sendVia h.port (.dtlsRetry h.peer v)

/-- A record authenticates on a session (15 R564; 16 R605): the idle time starts again and a token is spent when one is present. -/
def State.authenticated (s : State) (c : Session) : State :=
  (s.setSess c.id (fun c => { c with lastRx := s.up })).spend c.princ (!c.own) |>.2

/-- 15 R561: a client KeyUpdate changes the keys of the client's direction. -/
def execKeyUpdate (t : Time) (sess : Nat) (s : State) : Host.Outcome State Fault Refusal :=
  served t s fun s =>
    match s.sess sess with
    | some c => (s.authenticated c).setSess sess (fun c => { c with rxKeys := c.rxKeys + 1 })
    | none => s.bump R.SCP_RX_DISCARD 1

/-- 15 R564: the client sends close_notify. -/
def execCloseNotify (t : Time) (sess : Nat) (s : State) : Host.Outcome State Fault Refusal :=
  served t s fun s =>
    match s.sess sess with
    | some c => (s.authenticated c).endSession sess
    | none => s.bump R.SCP_RX_DISCARD 1

/-- 15 R564: no authenticated record for IDLE seconds. -/
def execSessionIdleExpiry (t : Time) (sess : Nat) (s : State) : Host.Outcome State Fault Refusal :=
  served t s fun s =>
    match s.sess sess with
    | some c => if c.lastRx + s.idle * sec ≤ s.up then (s.endSession sess).sendVia c.port (.dtlsClose sess) else s
    | none => s

/-- 16 R593: the sessions with an expired certificate end. -/
def execCertValidityCheck (t : Time) (s : State) : Host.Outcome State Fault Refusal :=
  served t s fun s =>
    (s.sicp.sessions.filter (fun c => c.certs.any (fun x => x.notAfter < s.utcSeconds))).foldl
      (fun s c => ((s.endSession c.id).sendVia c.port (.dtlsClose c.id)).authFail 2 c.peer) s

/-- 15 R567, R570: a record that does not authenticate or names no session, or one of a session whose content is shorter than 16 or longer than 1400
bytes, which still authenticates, is discarded; a message whose TYPE is no request's is received as any other and refused. -/
def execSicpRecordUnparsable (t : Time) (sess : OddRecord) (s : State) : Host.Outcome State Fault Refusal :=
  served t s fun s =>
    match sess with
    | .stray => s.bump R.SCP_RX_DISCARD 1
    | .size id =>
      let s := s.bump R.SCP_RX_DISCARD 1
      match s.sess id with
      | some c => s.authenticated c
      | none => s
    | .typed typ q => s.request ⟨typ, false, []⟩ q noNeeds fun s _ => s

/-- 15 R566: a datagram for the pair address reaches a chip that does not hold control. -/
def execPairDatagramHandoff (t : Time) (s : State) : Host.Outcome State Fault Refusal :=
  served t s fun s => if s.dbl.role.holds then s else s.handOff

/-! ### Chip-scope requests -/

/-- 15 R578: PING. -/
def execPing (t : Time) (q : Req) (s : State) : Host.Outcome State Fault Refusal :=
  served t s fun s => s.request ⟨0x01, false, []⟩ q noNeeds fun s c => s.ok c []

/-- The IDENT TLV (00 R3; 15 Table 15.3). -/
def State.ident (s : State) : Tlv :=
  let chipN := s.chip
  let upSec := match s.boot.served with
    | some u => (s.up - u) / sec
    | none => 0
  ⟨0x20, beBytes 1 (b2n Config.gradeAE) ++ beBytes 1 0xB1 ++ beBytes 2 0 ++ beBytes 4 s.boot.fw ++ beBytes 2 chipN
    ++ beBytes 2 s.pair ++ beBytes 2 (leAt (s.rec1 0x01B0) 2 2) ++ beBytes 1 (b2n s.dbl.side) ++ beBytes 1 s.dbl.role.code
    ++ beBytes 2 s.boot.secver ++ beBytes 1 s.houseRate ++ beBytes 1 s.lead ++ beBytes 1 s.whlCur ++ beBytes 3 0
    ++ beBytes 4 upSec ++ beBytes 4 0⟩

/-- 00 R3: IDENTITY. -/
def execIdentity (t : Time) (q : Req) (s : State) : Host.Outcome State Fault Refusal :=
  served t s fun s => s.request ⟨0x02, false, []⟩ q noNeeds fun s c => s.ok c [s.ident]

/-! ### Clearing the fault word (20 R712 to R714) -/

/-- The mask bits that a FAULT_CLEAR may set (20 R712). -/
def faultMaskOk (m : Nat) : Bool := bits m 43 40 = 0 && bits m 63 46 = 0

/-- The condition of the highest class that an island still holds; an island in a reset that no fault began holds one of class F2 (22 Table 22.6). -/
def State.condNow (s : State) (n : Nat) : Cond :=
  (s.flt.conds.filter (fun c => c.isl = n)).foldl (fun m c => if m.cls < c.cls || m.isl ≠ n then c else m) ⟨40, 0, 2, 0, 2, errDetail 0 0 0⟩

/-- One bit of an island is cleared, and latched again, as a new occurrence with its event, where its current bit is set (20 R711, R712). -/
def State.clearIsland (s : State) (n : Nat) : State :=
  if s.has (fltBit n) then
    let s := (s.set (fltBit n) 0).set (iclassFld n) 0
    let s := { s with flt.logged := s.flt.logged.filter (fun k => k.1 ≠ n) }
    if s.current n then
      let c := s.condNow n
      (s.latch n c.cls c.code { typ := 3 }).event n c.cls c.code c.detail
    else s
  else s

/-- Does any bit of the fault word stand? -/
def State.anyLatched (s : State) : Bool :=
  (List.range 40).any (fun n => s.has (fltBit n)) || s.has R.FLT_WORD_HI_LOG_LOST || s.has R.FLT_WORD_HI_AON_LOST

/-- The capture, MERGES and MULTIPLE clear (20 R714). -/
def State.clearCapture (s : State) : State :=
  ([⟨38, 0x20, 31, 0⟩, R.FLT_CAP_ADDR_LO, ⟨38, 0x28, 31, 0⟩, R.FLT_CAP_STAMP, R.FLT_CAP_ISEQ, R.FLT_WORD_HI_MULTIPLE] : List Fld).foldl
    (fun s f => s.set f 0) s

/-- 20 R712, R713: the named bits are cleared; AON_LOST takes the tamper latch and time with it, LOG_LOST is latched again,
with its event, while the log's memory fails. -/
def State.faultClear (s : State) (m : Nat) : State :=
  let s := ((List.range 40).filter (fun n => bit m n)).foldl (fun s n => s.clearIsland n) s
  let s := if bit m 44 && s.has R.FLT_WORD_HI_LOG_LOST then
      (if s.flt.logFailed then (s.capture 34 2 0x0004 {}).event 34 2 0x0004 (beBytes 1 s.flt.logWhy.1 ++ beBytes 4 s.flt.logWhy.2)
        else s.set R.FLT_WORD_HI_LOG_LOST 0)
    else s
  let s := if bit m 45 && s.has R.FLT_WORD_HI_AON_LOST then
      { ((s.set R.FLT_WORD_HI_AON_LOST 0).set R.AON_STAT_LATCH 0).set R.AON_STAT_ZEROED 0 with keys.ttime := 0 }.set R.AON_TTIME_HI 0
    else s
  let s := if s.anyLatched then s else s.clearCapture
  s.fltSync

/-- 20 R712: FAULT_CLEAR. -/
def execFaultClear (t : Time) (q : Req) (s : State) : Host.Outcome State Fault Refusal :=
  served t s fun s => s.request ⟨0x0A, false, [one 0x28]⟩ q (chipNeed 9) fun s c =>
    let m := fld c.ts 0x28 0 8
    if !faultMaskOk m then s.badValue c 0x28
    else
      let s := s.faultClear m
      (s.event 34 0 0x0003 (beBytes 8 m ++ beBytes 2 c.sess.princ)).ok c []

/-! ### Subscriptions (15 R584) -/

/-- 15 R584: SUBSCRIBE; the requests of the running cycle count. -/
def execSubscribe (t : Time) (q : Req) (s : State) : Host.Outcome State Fault Refusal :=
  served t s fun s => s.request ⟨0x08, true, [one 0x1D]⟩ q (chipNeed 0) fun s c =>
    let due := (s.sicp.cyc.filter (fun r => r.sess = c.sess.id && (match r.cmd with
      | .subscribe _ _ => true
      | _ => false))).length
    if fld c.ts 0x1D 0 2 ≠ 0 then s.badValue c 0x1D
    else if 8 ≤ ((s.sess c.sess.id).map (·.subs.length)).getD 0 + due then s.busy c 1
    else s.enqueue c (.subscribe t q)

/-- 15 R584: UNSUBSCRIBE. -/
def execUnsubscribe (t : Time) (q : Req) (s : State) : Host.Outcome State Fault Refusal :=
  served t s fun s => s.request ⟨0x09, true, [one 0x1D]⟩ q noNeeds fun s c =>
    if ((s.sess c.sess.id).map (fun x => x.subs.any (fun u => u.num = fld c.ts 0x1D 0 2))).getD false then
      s.enqueue c (.unsubscribe t q)
    else s.badValue c 0x1D

/-- 15 R584: an EVENT message with up to 14 of the queued events of a subscription; GAP comes first where events were dropped. -/
def execEvent (t : Time) (sess sub : Nat) (s : State) : Host.Outcome State Fault Refusal :=
  served t s fun s =>
    match s.sess sess with
    | none => s
    | some c => match c.subs.find? (fun u => u.num = sub) with
      | none => s
      | some u =>
        if u.queue.isEmpty then s
        else
          let evs := u.queue.take 14
          let s := s.setSess sess (fun c => Session.sent { c with
            subs := c.subs.map (fun x => if x.num = sub then { x with queue := x.queue.drop 14, gap := 0 } else x) })
          (s.bump R.SCP_EV_SENT evs.length).sendVia c.port (.event sess sub u.gap evs
            (msgBytes 0x80 2 ((c.txSeq + 1) % 2 ^ 32) sub ((if u.gap = 0 then [] else [⟨0x1F, beBytes 4 u.gap⟩]) ++ evs.map (fun e => ⟨0x1E, e.bytes⟩))))

/-! ### Staging of salvos (15 R580) -/

/-- A free value that is a staging handle: 64 bits, not 0, not one in use. -/
def State.newHandle (s : State) : Nat × State := s.freshNot 64 (s.sicp.staged.map (·.handle))

/-- 15 R580: SALVO_OPEN. -/
def execSalvoOpen (t : Time) (q : Req) (s : State) : Host.Outcome State Fault Refusal :=
  let lacks (s : State) (c : Session) (_ : List Tlv) : Option Need := if s.holdsAny c.princ 1 then none else some ⟨1, 0, 0, 0⟩
  served t s fun s => s.request ⟨0x11, true, []⟩ q lacks fun s c =>
    if 64 ≤ s.sicp.staged.length || 8 ≤ (s.sicp.staged.filter (fun x => x.sess = c.sess.id)).length then s.busy c 1
    else
      let (h, s) := s.newHandle
      let g : Staged := { handle := h, sess := c.sess.id, princ := c.sess.princ, lastAdd := s.up }
      { s with sicp.staged := s.sicp.staged ++ [g] }.ok c [⟨0x08, beBytes 8 h⟩]

/-- The levels mask that a right must cover: 0 names all three (02 R71). -/
def fullMask (m : Nat) : Nat := if m % 8 = 0 then 7 else m % 8

/-- The rights of one entry or take (16 Table 16.4): ROUTE over the destination at its levels, and over the source unless it
releases. -/
def routeNeeds (dest src levels : Nat) : List Need :=
  ⟨1, 1, dest, fullMask levels⟩ :: (if src = 0xFFFFFFFF then [] else [⟨1, 2, src, 0⟩])

/-- 15 R580: SALVO_ADD. -/
def execSalvoAdd (t : Time) (q : Req) (s : State) : Host.Outcome State Fault Refusal :=
  let needs (ts : List Tlv) : List Need :=
    let v := tlv ts 0x0B
    (entriesOf v (v.length / 12)).flatMap (fun e => routeNeeds e.dest e.src e.levels)
  served t s fun s => s.request ⟨0x12, true, [one 0x08, one 0x0B]⟩ q (firstLack needs) fun s c =>
    let h := fld c.ts 0x08 0 8
    let v := tlv c.ts 0x0B
    let n := v.length / 12
    match s.sicp.staged.find? (fun x => x.handle = h && x.princ = c.sess.princ && !x.armed) with
    | none => s.badState c
    | some g =>
      let all := (s.sicp.staged.map (·.entries.length)).foldl (· + ·) 0
      if 65536 < g.entries.length + n || 131072 < all + n then s.busy c 1
      else
        let s := { s with sicp.staged := updFirst (fun x => x.handle = h) (fun x =>
          { x with entries := x.entries ++ entriesOf v n, lastAdd := s.up }) s.sicp.staged }
        s.ok c []

/-- 15 R580: a handle on which no SALVO_ADD has been accepted for 10 s is discarded. -/
def execSalvoHandleExpiry (t : Time) (s : State) : Host.Outcome State Fault Refusal :=
  served t s fun s =>
    { s with sicp.staged := s.sicp.staged.filter (fun x => x.armed || s.up < x.lastAdd + 10 * sec) }

end Sys2Proof.Machine
end

