-- ==== Sys2Proof/Machine/Keys.lean ====
section
/-! DEFINITION. Key slots, the life cycle, the random generator, tamper and the real-time counter (17). -/

namespace Sys2Proof.Machine

/-- Change a slot; an EMPTY slot that was never filled is not listed. -/
def State.setKslot (s : State) (k : Nat) (x : KSlot) : State := { s with keys.slots := put k x s.keys.slots }

/-! ### Consumers (17 Table 17.3, R624, R625, R635) -/

/-- The tags of the conditions JOURNAL_KEY and LOG_KEY. -/
def tagJournalKey : Nat := 11
def tagLogKey : Nat := 12

/-- JOURNAL_KEY and LOG_KEY follow the slots that the KEYS record names (17 R624, R625, R631). -/
def State.consumers (s : State) : State :=
  let one (s : State) (k : Option Nat) (code tag : Nat) : State :=
    let held := s.flt.conds.any (fun c => c.isl = 34 && c.tag = tag)
    if s.mayWrite k then (if held then s.resolve 34 tag else s)
    else if held then s else s.raise 34 2 code tag (beBytes 1 (k.getD 0))
  let journalBack := !s.mayWrite s.journalSlot
  let s := one s s.journalSlot 0x0702 tagJournalKey
  let s := one s s.logSlot 0x0703 tagLogKey
  if journalBack && s.mayWrite s.journalSlot then { s with boot.ckptDue := true } else s

/-- Every key of the slots is gone; a filled slot is UNUSABLE (17 R621, R641). -/
def State.unusableAll (s : State) : State :=
  { s with keys.slots := s.keys.slots.map (fun x => (x.1, if x.2.state = 0 then x.2 else { x.2 with state := 2, key := 0 })) }

/-- A new battery half is drawn and the key-encryption key derived from it (17 R619, R638, R642). -/
def State.drawHalf (s : State) : State :=
  { s with keys.battery := some s.keys.drawn, keys.kek := some s.keys.drawn, keys.drawn := s.keys.drawn + 1 }

/-- The slots after the blobs are read under the key-encryption key (17 R620, R621). -/
def State.loadSlots (s : State) : State :=
  { s with keys.slots := s.keys.slots.map (fun x =>
      (x.1, if x.2.state = 0 then x.2 else { x.2 with state := if s.keys.kek = some x.2.blob then 1 else 2 })) }

/-- A slot becomes EMPTY (17 R631); its generation count stays. -/
def State.emptySlot (s : State) (k : Nat) : State :=
  if (s.kslot k).state = 0 then s else (s.setKslot k { gen := (s.kslot k).gen }).bump R.KEY_DESTROYS 1

/-- Every slot that a test names becomes EMPTY. -/
def State.emptySlots (s : State) (p : KSlot → Bool) : State :=
  s.keys.slots.foldl (fun s x => if p x.2 then s.emptySlot x.1 else s) s

/-! ### Key requests (17 R626 to R632) -/

/-- The KEY TLV of a slot in a reply. -/
def keyTlv (slot use origin : Nat) : Tlv := ⟨0x2A, beBytes 1 slot ++ beBytes 1 use ++ beBytes 1 origin ++ beBytes 1 0⟩

/-- A right over the slot that a KEY TLV names. -/
def slotNeed (right : Nat) : State → Session → List Tlv → Option Need := firstLack (fun ts => [⟨right, 11, fld ts 0x2A 0 1, 0⟩])

/-- The checks common to key requests: KEY serves, the life-cycle state allows them, and a battery half exists (17 R626, R641,
R651). -/
def State.keyReady (s : State) (c : Ctx) (body : State → State) : State :=
  if s.keys.resetting then s.busy c 1
  else if s.keys.life ≠ 2 && s.keys.life ≠ 3 then s.badState c
  else if s.keys.kek.isNone then s.badState c
  else body s

/-- May a slot be filled (17 R626)? -/
def State.mayFill (s : State) (k : Nat) : Bool := s.keys.life = 2 || (s.kslot k).state ≠ 1

/-- Fill a slot (17 R620): its blob is wrapped under the present key-encryption key and its generation count rises. -/
def State.fillSlot (s : State) (k use origin kind : Nat) : State :=
  let (key, s) := s.fresh
  let x : KSlot := { state := 1, use := use, origin := origin, kind := kind, gen := ((s.kslot k).gen + 1) % 65536
                     blob := s.keys.kek.getD 0, key := key }
  (s.setKslot k x).consumers

/-- 17 R626, R627: KEY_GENERATE. -/
def execKeyGenerate (t : Time) (q : Req) (s : State) : Host.Outcome State Fault Refusal :=
  served t s fun s => s.request ⟨0x70, false, [one 0x2A]⟩ q (slotNeed 11) fun s c => s.keyReady c fun s =>
    let k := fld c.ts 0x2A 0 1
    if fld c.ts 0x2A 1 1 ≠ 2 then s.badValue c 0x2A
    else if !s.mayFill k || !s.keys.rngOk then s.badState c
    else ((s.fillSlot k 2 0 1).bump R.KEY_GENERATES 1).ok c [keyTlv k 2 0]

/-- Is the structure of KEY_IMPORT DATA as Table 17.4 gives (17 R628), but for what the wrapper's KIND asks of EPHEMERAL? -/
def importShape (d : List Byte) : Bool :=
  let n := beAt d 129 2
  let signed_ := bit (beAt d 1 1) 0
  195 ≤ d.length && d.length = 195 + n && beAt d 1 1 < 2 && beAt d 2 2 = 0 &&
    (if signed_ then 1 ≤ n && n ≤ 1165 else n = 0 && beAt d 131 64 = 0)

/-- The unwrapping of an import whose checks passed (17 R628, R630): a tag that fails is counted, and five in a row pause the wrapper
for 60 s. -/
def State.unwrap (s : State) (c : Ctx) (k use w : Nat) (good : Bool) : State :=
  let x := s.kslot w
  if good then
    let s := (s.setKslot w { x with fails := 0 }).fillSlot k use 1 0
    (s.bump R.KEY_IMPORTS 1).ok c [keyTlv k use 1]
  else
    let x := if 4 ≤ x.fails then { x with fails := 0, until_ := s.up + 60 * sec } else { x with fails := x.fails + 1 }
    ((s.setKslot w x).bump R.KEY_UNWRAP_FAIL 1).badValue c 0x19

/-- 17 R628 to R630: KEY_IMPORT. -/
def execKeyImport (t : Time) (q : Req) (w : ImportFacts) (s : State) : Host.Outcome State Fault Refusal :=
  served t s fun s => s.request ⟨0x71, false, [one 0x2A, one 0x19]⟩ q (slotNeed 11) fun s c => s.keyReady c fun s =>
    let k := fld c.ts 0x2A 0 1
    let d := tlv c.ts 0x19
    let wr := beAt d 0 1
    let x := s.kslot wr
    let signed_ := bit (beAt d 1 1) 0
    if !s.mayFill k then s.badState c
    else if !importShape d || wr = k then s.badValue c 0x19
    else if x.state ≠ 1 || x.use ≠ 2 then s.badState c
    else if x.kind = 0 && beAt d 4 65 ≠ 0 then s.badValue c 0x19
    else if s.up < x.until_ then s.busy c (s.cyclesTo (s.now + (x.until_ - s.up)))
    else if !signed_ && bit (byteAt (s.rec1 0x01F0) 3) 0 then s.badValue c 0x19
    else if signed_ && w.badDate then s.reply (c.re 0x0026)
    else if signed_ && !w.signerGood then s.badValue c 0x19
    else s.unwrap c k (fld c.ts 0x2A 1 1) wr w.tagGood

/-- 17 R631: KEY_DESTROY. -/
def execKeyDestroy (t : Time) (q : Req) (s : State) : Host.Outcome State Fault Refusal :=
  served t s fun s => s.request ⟨0x72, false, [one 0x2A]⟩ q (slotNeed 11) fun s c => s.keyReady c fun s =>
    ((s.emptySlot (fld c.ts 0x2A 0 1)).consumers).ok c []

/-- The statement of Table 17.5 without its signature. -/
def State.statement (s : State) (k : Nat) : List Byte :=
  let x := s.kslot k
  beBytes 1 1 ++ beBytes 1 k ++ beBytes 1 x.use ++ beBytes 1 x.origin ++ beBytes 1 x.kind ++ beBytes 1 s.keys.life ++ beBytes 2 0
    ++ beBytes 8 Config.serial ++ beBytes 2 x.gen ++ beBytes 2 0 ++ beBytes 6 (s.now / sec) ++ beBytes 4 (s.now % sec)
    ++ beBytes 2 0 ++ beBytes 65 (Config.keyInfo x.key) ++ beBytes 3 0

/-- 17 R632: KEY_ATTEST. -/
def execKeyAttest (t : Time) (q : Req) (s : State) : Host.Outcome State Fault Refusal :=
  served t s fun s => s.request ⟨0x73, false, [one 0x2A]⟩ q (slotNeed 0) fun s c =>
    let k := fld c.ts 0x2A 0 1
    if s.keys.resetting then s.busy c 1
    else if (s.kslot k).state ≠ 1 then s.badState c
    else
      let v := s.statement k
      s.ok c [⟨0x19, v ++ beBytes 64 (Config.identitySign v)⟩]

/-! ### Life cycle (17 R633 to R635) -/

/-- Is a change of life-cycle state one of Table 17.6? -/
def lifeChange (from_ to_ : Nat) : Bool :=
  (from_ = 1 && to_ = 2) || (from_ = 2 && to_ = 3) || (from_ = 3 && to_ = 2) || ((from_ = 2 || from_ = 3) && to_ = 1) ||
    ((from_ = 1 || from_ = 2 || from_ = 3) && to_ = 4)

/-- The destructions and other effects of a row of Table 17.6. -/
def State.lifeEffects (s : State) (to_ : Nat) : State :=
  let from_ := s.keys.life
  if to_ = 4 then
    let s := s.emptySlots (fun _ => true)
    { s.set R.AON_STAT_ARMED 0 with keys.battery := none, keys.kek := none, keys.slots := [], keys.idValid := false }
  else if to_ = 1 then
    { (s.emptySlots (fun _ => true)).set R.AON_STAT_ARMED 0 with keys.battery := none, keys.kek := none }
  else if from_ = 1 then s.drawHalf
  else if to_ = 3 then (s.emptySlots (fun x => x.state = 2)).set R.AON_STAT_ARMED 1
  else (s.emptySlots (fun x => x.origin = 0)).set R.AON_STAT_ARMED 0

/-- 17 R633, R634: LIFECYCLE_SET. A change to RETIRED is replied to and raises F4 with the event RETIRED. A change that needs a new battery half is
refused while the random generator is (R618). -/
def execLifecycleSet (t : Time) (q : Req) (s : State) : Host.Outcome State Fault Refusal :=
  served t s fun s => s.request ⟨0x74, false, [one 0x2B]⟩ q (chipNeed 11) fun s c =>
    let n := fld c.ts 0x2B 0 1
    if s.keys.resetting then s.busy c 1
    else if !lifeChange s.keys.life n || s.keys.left = 0 || (s.keys.left = 1 && n ≠ 4) then s.badState c
    else if s.keys.life = 1 && n = 2 && !s.keys.rngOk then s.badState c
    else
      let s := s.lifeEffects n
      let s := { s with keys.life := n, keys.left := s.keys.left - 1 }
      let s := s.ok c []
      if n = 4 then s.raise 35 4 0x000A 13 [] {} (13, 3) else s.consumers

/-! ### Random generator, tamper and KEY's reset -/

/-- 17 R618: a health test of the random generator fails. A chip at start stops with STATUS 0xD, detail 2 (18 Table 18.11). -/
def execRngFail (t : Time) (s : State) : Host.Outcome State Fault Refusal :=
  live t s fun s =>
    let s := { s with keys.rngOk := false }
    if s.serving then s.err R.KEY_ERR_RNG_FAIL 3 {} (lasts := true)
    else if s.boot.pins then (s.set R.KEY_ERR_RNG_FAIL 1).f4 13 2
    else s

/-- AON_LOST of the fault word with its event (17 Table 17.8, R641). -/
def State.aonLost (s : State) (code : Nat) (detail : List Byte) : State :=
  let s := ((s.capture 35 2 code {}).set R.FLT_WORD_HI_AON_LOST 1).fltSync
  s.event 35 2 code detail

/-- The count of the real-time counter, by 17 R644. -/
def State.rtcSeconds (s : State) : Nat × State := match s.rtcNow with
  | some t => (t / sec, s)
  | none => s.fresh

/-- 17 R640, R641: an armed and enabled tamper input has been low for 10 µs. AON zeroes the battery half on either supply; with main
power present KEY clears the keys and raises F2. -/
def execTamper (t : Time) (input : Fin 2) (s : State) : Host.Outcome State Fault Refusal :=
  live t s fun s =>
    let s := s.set R.AON_STAT_PIN (s.get R.AON_STAT_PIN ||| 2 ^ input.val)
    if !s.has R.AON_STAT_ARMED || !bit (s.get R.AON_STAT_TAMPER_EN) input then s
    else
      let first := s.get R.AON_STAT_LATCH = 0
      let (tt, s) := s.rtcSeconds
      let s := if first then { s with keys.ttime := tt % 2 ^ 48 } else s
      let s := (s.set R.AON_STAT_LATCH (s.get R.AON_STAT_LATCH ||| 2 ^ input.val)).set R.AON_STAT_ZEROED 1
      let s := { s with keys.battery := none }
      if !s.boot.pins then s
      else
        let s := { s.unusableAll with keys.kek := none }
        let stamp := s.keys.ttime
        let latch := s.get R.AON_STAT_LATCH + 4 * s.get R.AON_STAT_ZEROED
        (s.aonLost 0x0009 (beBytes 1 latch ++ beBytes 6 stamp)).consumers

/-- Does a new battery half wait to be drawn: a tamper took the last one and no enabled input is low (17 R642)? -/
def State.halfDue (s : State) : Bool :=
  s.keys.battery.isNone && (s.keys.life = 2 || s.keys.life = 3) && s.get R.AON_STAT_PIN &&& s.get R.AON_STAT_TAMPER_EN = 0

/-- 17 R642: every enabled input has been high for 1 s after a tamper; KEY draws a new battery half, where it may draw (R618). -/
def execTamperRelease (t : Time) (s : State) : Host.Outcome State Fault Refusal :=
  live t s fun s =>
    let s := s.set R.AON_STAT_PIN 0
    if s.boot.pins && s.halfDue && s.keys.rngOk && !s.keys.resetting then s.drawHalf else s

/-- 17 R644: at a whole minute in LOCKED or HOLDOVER the counter is written from Whorl time. -/
def execRtcMinuteWrite (t : Time) (s : State) : Host.Outcome State Fault Refusal :=
  live t s fun s =>
    if s.boot.pins && s.whl.ready && (s.whlCur = 2 || s.whlCur = 3) then { s with rtc := some ⟨s.now, s.up⟩ } else s

/-- 17 R651: KEY is reset: every unwrapped key and the key-encryption key are gone until KEY is re-armed. -/
def State.keyDown (s : State) : State :=
  { s.clearWindow 35 with keys.kek := none, keys.resetting := true }

/-- 17 R651: KEY derives the key-encryption key again from the battery half and reloads every slot; its random generator passes its
tests again, and a battery half that waited is drawn (R618, R642). -/
def State.keyUp (s : State) : State :=
  let s := { s with keys.kek := s.keys.battery, keys.resetting := false, keys.rngOk := true }
  let s := if s.halfDue then s.drawHalf else s
  (s.loadSlots.errDone R.KEY_ERR_RNG_FAIL).consumers

/-- 17 R651: a reset of KEY begins. -/
def execKeyReset (t : Time) (s : State) : Host.Outcome State Fault Refusal :=
  served t s fun s => if s.keys.resetting then s else (s.beginReset 35).keyDown

end Sys2Proof.Machine
end

