-- ==== Sys2Proof/Machine/Journal.lean ====
section
/-! DEFINITION. The route journal and the event log in the xSPI memory, and the firmware's reads of that memory (18 R669 to R673, R682 to
R684; 20 R724 to R728). -/

namespace Sys2Proof.Machine

/-! ### The journal (18 R669 to R673) -/

/-- What an item names: kind and object, so that two changes of one item have one key (18 R673). -/
def JItem.key : JItem → Nat × Nat × Nat
  | .level d lv .. => (3, d, lv.mask)
  | .delay d .. => (4, d, 0)
  | .achan o .. => (5, o, 0)
  | .bus b .. => (6, b, 0)
  | .aline l .. => (7, l, 0)
  | .window w => (8, byteAt w 0, byteAt w 1)
  | .windowClear h i => (8, h, i)
  | .order h .. => (10, h, 0)
  | .flow f .. => (11, f, 0)

/-- KIND and BODY of an item (18 Table 18.9). -/
def JItem.body : JItem → Nat × List Byte
  | .level d lv m s p => (3, leBytes 2 d ++ leBytes 1 lv.mask ++ leBytes 1 (m.code + 1) ++ leBytes 4 (srcField s) ++ leBytes 1 p ++ leBytes 3 0)
  | .delay d f l => (4, leBytes 2 d ++ leBytes 1 f ++ leBytes 1 0 ++ leBytes 2 l ++ leBytes 2 0)
  | .achan o i g => (5, leBytes 4 o ++ leBytes 4 i ++ leBytes 2 g ++ leBytes 2 0)
  | .bus b g ms => (6, leBytes 2 b ++ leBytes 1 ms.length ++ leBytes 1 0 ++ leBytes 2 g ++ leBytes 2 0
      ++ ms.flatMap (fun m => beBytes 4 m.1 ++ beBytes 2 m.2 ++ beBytes 2 0))
  | .aline l n => (7, leBytes 2 l ++ leBytes 2 0 ++ leBytes 4 n)
  | .window w => (8, w)
  | .windowClear h i => (9, leBytes 1 h ++ leBytes 1 i ++ leBytes 2 0)
  | .order h o => (10, leBytes 1 h ++ leBytes 1 o ++ leBytes 2 0)
  | .flow f ls => (11, leBytes 2 f ++ leBytes 2 ls.length ++ ls.flatten)

/-- KIND and BODY of a record (18 Table 18.9). -/
def JBody.body : JBody → Nat × List Byte
  | .begin_ c f n => (1, leBytes 2 c ++ leBytes 1 f ++ leBytes 1 0 ++ leBytes 4 n)
  | .end_ n => (2, leBytes 4 n ++ leBytes 4 0)
  | .item i => i.body

/-- The bytes a record occupies (18 Table 18.10). -/
def JBody.size (b : JBody) : Nat := 16 * ceilDiv (44 + b.body.2.length) 16

/-- May the chip journal now (18 R669, R624): NOR clear, in control or STANDBY, and its slot usable? -/
def State.journals (s : State) : Bool :=
  !s.has R.BOOT_STAT_NOR && (s.dbl.role.holds || s.dbl.role = .standby) && s.mayWrite s.journalSlot

/-- JQUEUE and CKPT_BUSY (18 Table 18.16). -/
def State.journalShow (s : State) : State :=
  let n := s.boot.jpend.length + ((s.boot.ckptQueue.map (·.length)).getD 0)
  (s.set R.BOOT_STAT_JQUEUE (min n 65535)).set R.BOOT_STAT_CKPT_BUSY (b2n s.boot.ckptQueue.isSome)

/-- An item changed (18 R669, R673): its record is pending; it replaces a pending record of the same item, in its place. -/
def State.journalAdd (s : State) (i : JItem) : State :=
  if !s.journals then s
  else if s.boot.jpend.any (fun p => p.1.key = i.key) then
    { s.bump R.BOOT_JCOALESCED 1 with boot.jpend := updFirst (fun p => p.1.key = i.key) (fun _ => (i, s.now)) s.boot.jpend }
  else { s with boot.jpend := s.boot.jpend ++ [(i, s.now)] }.journalShow

/-- The bytes from the write position to the BEGIN of the last complete checkpoint, forward around the ring (18 R672). -/
def State.journalRoom (s : State) : Nat :=
  match s.boot.jbegin with
  | none => journalSize
  | some b => (b + journalSize - s.boot.jpos) % journalSize

/-- Is a checkpoint due at this close (18 R672; 17 R624)? -/
def State.ckptNeeded (s : State) : Bool :=
  s.journals && s.boot.ckptQueue.isNone && (s.boot.ckptDue || s.journalRoom < 5194624)

/-- JOURNAL_CHECKPOINT_BEGIN (18 R671, R672): the records of a checkpoint with the given items are to be written. -/
def State.beginCheckpoint (s : State) (items : List JItem) : State :=
  let n := items.length
  let q := [JBody.begin_ s.chip 1 n] ++ items.map .item ++ [.end_ n]
  { s with boot.ckptQueue := some q, boot.ckptTime := s.now, boot.ckptDue := false }.journalShow

/-- The record that BOOT writes next, with its time (18 R671): those of a checkpoint come before pending ones. -/
def State.nextRecord (s : State) : Option (JBody × Bool × Time) :=
  match s.boot.ckptQueue, s.boot.jpend with
  | some (b :: _), _ => some (b, (match b with | .item _ => true | _ => false), s.boot.ckptTime)
  | _, (i, t) :: _ => some (.item i, false, t)
  | _, [] => none

/-- The offset at which a record of a size is written (18 R671). -/
def State.recordPlace (s : State) (n : Nat) : Nat := if journalSize < s.boot.jpos + n then 0 else s.boot.jpos

/-- Does a record of a size leave the last complete checkpoint and what follows it untouched (18 R672)? -/
def State.journalFits (s : State) (n : Nat) : Bool :=
  s.boot.jbegin.isNone || (s.recordPlace n + journalSize - s.boot.jpos) % journalSize + n ≤ s.journalRoom

/-- A record in the region: the records that it overwrites are gone, its count is used and the write position lies behind it. -/
def State.putRecord (s : State) (b : JBody) (ckpt : Bool) (t : Time) (whole : Bool) : State :=
  let n := b.size
  let o := s.recordPlace n
  let r : JRec := { off := o, seq := s.boot.jseq, time := t, ckpt := ckpt, sealed := s.journalSlot.map (fun k => (s.kslot k).key), whole := whole, body := b }
  let rest := s.boot.jrecs.filter (fun x => x.off + x.body.size ≤ o || o + n ≤ x.off)
  { s with boot.jrecs := rest ++ [r], boot.jpos := o + n, boot.jseq := s.boot.jseq + 1, boot.jfailed := false }

/-- The record written leaves its queue; the last complete checkpoint follows an END (18 R671, R672). -/
def State.recordDone (s : State) (b : JBody) : State :=
  let s := s.bump R.BOOT_JRECORDS 1
  let s := match s.boot.ckptQueue with
    | some (_ :: l) =>
      let last := (s.boot.jrecs.getLast?.map (fun (r : JRec) => r.off)).getD 0
      match b with
      | .begin_ .. => { s with boot.ckptQueue := some l, boot.ckptOff := last }
      | .end_ _ => { s.bump R.BOOT_CHECKPOINTS 1 with boot.ckptQueue := none, boot.jbegin := some s.boot.ckptOff }
      | .item _ => { s with boot.ckptQueue := some l }
    | _ => { s with boot.jpend := s.boot.jpend.drop 1 }
  s.journalShow

/-- 18 R672, R673, Table 18.17: BOOT writes the next record where it reaches nothing that a replay needs, and reads it back: 0 good, 1 the read-back differs, 2 the memory timed out. A record
that failed is written again at the next offset with its count. -/
def execJournalRecordWrite (t : Time) (outcome : Fin 3) (s : State) : Host.Outcome State Fault Refusal :=
  released t s fun s =>
    if s.boot.xrd.isSome || s.has (rstNow 39) || !s.journals || s.keyWaits s.journalSlot then s
    else match s.nextRecord with
      | none => s
      | some (b, ckpt, at_) =>
        if !s.journalFits b.size then s
        else if outcome = 0 then (s.putRecord b ckpt at_ true).recordDone b
        else
          let o := s.recordPlace b.size
          let off := s.journalBase + o
          if outcome = 2 then (s.err R.BOOT_ERR_XSPI_TIMEOUT 2 { typ := 3, master := 0x40 + 39 }).logLost 3 off
          else
            let again := s.boot.jfailed
            let s := { s with boot.jpos := o + b.size, boot.jfailed := true }
            let s := s.errNamed R.BOOT_ERR_JWRITE 2 0x0705 (beBytes 4 off) { typ := 3, master := 0x40 + 39 }
            if again then s.logLost 2 off else s

/-! ### The event log (20 R724 to R728) -/

/-- FAULTS.FLUSH (20 Table 20.12). -/
def State.flush (s : State) : Nat := orDef (byteAt (s.rec1 0x0210) 0) 1

/-- Is a block to be written now (20 R725)? While the log's memory fails, one is tried at each FLUSH interval (R728). -/
def State.blockDue (s : State) : Bool :=
  (42 ≤ s.flt.waits.length || s.flt.waits.head?.any (fun u => u + s.flush * sec ≤ s.up)) && (!s.flt.logFailed || s.flt.tried + s.flush * sec ≤ s.up)

/-- 20 R725, R728: BOOT writes a log block and reads it back: 0 good, 1 the read-back differs, 2 the memory timed out. -/
def execLogBlockWrite (t : Time) (outcome : Fin 3) (s : State) : Host.Outcome State Fault Refusal :=
  released t s fun s =>
    if s.boot.xrd.isSome || s.has (rstNow 39) || s.has R.BOOT_STAT_NOR || !s.mayWrite s.logSlot || s.keyWaits s.logSlot || !s.blockDue then s
    else
      let off := s.logBase + 4096 * (s.flt.bslot + 1)
      let s := { s with flt.tried := s.up }
      if outcome = 0 then { (s.bump R.LOG_BLOCKS 1).putBlocks 1 with flt.blockFails := 0, flt.logFailed := false }
      else if outcome = 2 then (s.err R.BOOT_ERR_XSPI_TIMEOUT 2 { typ := 3, master := 0x40 + 39 }).logLost 3 off
      else
        let s := s.bump R.LOG_WRITE_FAIL 1
        let n := s.flt.blockFails + 1
        let s := { s with flt.blockFails := n, flt.bslot := (s.flt.bslot + 1) % s.logBlocks }
        if 2 ≤ n then s.logLost 1 off else s

/-- The record of an index, where the ring or a block that the chip can read still holds it (20 R727; 17 Table 17.3: a sealed block is
encrypted under an ENCRYPT slot, log entry 33). -/
def State.logRecord (s : State) (i : Nat) : Option LogRec :=
  match s.flt.ring.find? (fun r => r.index = i) with
  | some r => some r
  | none => ((s.flt.blocks.filter (fun b => b.sealed.isNone)).flatMap (·.recs)).find? (fun r => r.index = i)

/-- 20 R727: LOG_READ, the records from FIRST onward, up to COUNT. -/
def execLogRead (t : Time) (q : Req) (s : State) : Host.Outcome State Fault Refusal :=
  served t s fun s => s.request ⟨0x07, false, [one 0x2C]⟩ q (chipNeed 0) fun s c =>
    let first := fld c.ts 0x2C 0 4
    let l := (List.range (fld c.ts 0x2C 4 2)).filterMap (fun i => s.logRecord ((first + i) % 2 ^ 32))
    s.ok c (l.map (fun r => ⟨0x1E, r.ev.bytes⟩))

/-! ### The memory as bytes (18 R684, Tables 18.10, 18.13, 20.6, 20.7) -/

/-- A string padded with zeros to a length, or cut to it. -/
def padTo (n : Nat) (v : List Byte) : List Byte := (v ++ List.replicate n 0).take n

/-- The sealed form of a plaintext: ciphertext and tag. -/
def sealedBytes (key n : Nat) (v : List Byte) : List Byte × List Byte :=
  ((List.range v.length).map (Config.sealedByte key n v), (List.range 16).map (fun i => Config.sealedByte key n v (v.length + i)))

/-- A journal record's bytes (18 Table 18.10); one that is not whole has another CRC. -/
def JRec.bytes (r : JRec) : List Byte :=
  let (kind, body) := r.body.body
  let (body', tag) := match r.sealed with
    | some k => sealedBytes k r.seq body
    | none => (body, List.replicate 16 0)
  let v := leBytes 2 0x4A52 ++ leBytes 2 body.length ++ leBytes 1 kind ++ leBytes 1 (b2n r.ckpt + 2 * b2n r.sealed.isSome) ++ leBytes 2 0
    ++ leBytes 8 r.seq ++ leBytes 8 r.time ++ body' ++ tag
  padTo r.body.size (v ++ leBytes 4 (if r.whole then crc32c v else crc32c v + 1))

/-- A log record's 96 bytes (20 Table 20.6). -/
def LogRec.bytes (r : LogRec) : List Byte :=
  let v := padTo 92 (leBytes 4 r.index ++ padTo 24 r.ev.bytes ++ r.ev.detail)
  v ++ leBytes 4 (crc32c v)

/-- The year and day of the year of a day number from 1970, at most 2399. -/
def yearOf : Nat → Nat → Nat → Nat × Nat
  | 0, y, d => (y, d)
  | n + 1, y, d => let len := if isLeap y then 366 else 365; if d < len then (y, d) else yearOf n (y + 1) (d - len)

/-- The month and day of a day of the year. -/
def monthOf (y : Nat) : Nat → Nat → Nat → Nat × Nat
  | 0, m, d => (m, d)
  | n + 1, m, d => if d < monthDays y m then (m, d) else monthOf y n (m + 1) (d - monthDays y m)

/-- The UTC date of a Whorl time, little-endian; every field 0 outside 1970 to 2399 (17 R645, R648; 20 Table 20.7). -/
def State.dateBytes (s : State) (t : Time) : List Byte :=
  let u := t / sec - s.utcOffset
  let (y, d) := yearOf 430 1970 (u / 86400)
  if t / sec < s.utcOffset || 2399 < y then List.replicate 12 0
  else
    let (m, d) := monthOf y 11 1 d
    leBytes 2 y ++ leBytes 1 m ++ leBytes 1 (d + 1) ++ leBytes 1 (u % 86400 / 3600) ++ leBytes 1 (u % 3600 / 60) ++ leBytes 1 (u % 60)
      ++ leBytes 1 0 ++ leBytes 4 (t % sec)

/-- A log block's 4096 bytes (20 Table 20.7). -/
def State.blockBytes (s : State) (b : LogBlock) : List Byte :=
  let recs := padTo 4032 (b.recs.flatMap (·.bytes))
  let (recs', tag) := match b.sealed with
    | some k => sealedBytes k b.bseq recs
    | none => (recs, List.replicate 16 0)
  let first := (b.recs.head?.map (·.index)).getD 0
  let at_ := (b.recs.head?.map (·.ev.time)).getD 0
  let v := leBytes 2 0x4C47 ++ leBytes 1 1 ++ leBytes 1 (b2n b.sealed.isSome) ++ leBytes 2 b.chip ++ leBytes 1 b.recs.length ++ leBytes 1 0
    ++ leBytes 8 b.bseq ++ leBytes 4 first ++ s.dateBytes at_ ++ tag ++ List.replicate 12 0
  v ++ leBytes 4 (crc32c (v ++ recs')) ++ recs'

/-- The start report's 32 bytes (18 Table 18.13). -/
def StartReport.bytes (r : StartReport) : List Byte :=
  let v := leBytes 4 0x53545254 ++ leBytes 2 1 ++ leBytes 1 r.status ++ leBytes 1 r.detail ++ leBytes 4 r.offset ++ leBytes 4 r.count
    ++ leBytes 4 r.fw ++ leBytes 2 r.secver ++ leBytes 1 r.rb ++ List.replicate 5 0
  v ++ leBytes 4 (if r.whole then crc32c v else crc32c v + 1)

/-- The byte of the memory at an offset (18 Table 18.1). -/
def State.xspiByte (s : State) (o : Nat) : Byte :=
  if o < s.journalBase then memByte s.boot.xspi o
  else if o < s.logBase then
    let x := o - s.journalBase
    match s.boot.jrecs.find? (fun r => r.off ≤ x && x < r.off + r.body.size) with
    | some r => r.bytes.getD (x - r.off) blank
    | none => blank
  else
    let x := o - s.logBase
    if x < 4096 then ((s.boot.startReport.map (·.bytes)).getD []).getD x blank
    else match s.flt.blocks.find? (fun b => b.slot + 1 = x / 4096) with
      | some b => (s.blockBytes b).getD (x % 4096) blank
      | none => blank

/-- A write of XRD.LEN opens or closes a range (18 R684). -/
def State.xrdOpen (s : State) (len : Nat) : State :=
  let n := len % 2 ^ 28
  let a := s.get R.BOOT_XRD_ADDR
  let bad := (a < s.stageBase && s.keyBase < a + n) || s.memEnd < a + n
  let s := s.set R.BOOT_XRD_LEN n
  if n = 0 then { (s.set R.BOOT_XRD_STAT_OPEN 0).set R.BOOT_XRD_STAT_ERR 0 with boot.xrd := none }
  else if bad then { (s.set R.BOOT_XRD_STAT_OPEN 0).set R.BOOT_XRD_STAT_ERR 1 with boot.xrd := none }
  else { (s.set R.BOOT_XRD_STAT_OPEN 1).set R.BOOT_XRD_STAT_ERR 0 with boot.xrd := some (a, n) }

/-- A read of XRD.DATA takes the next word of the open range, padded with zeros; with no range open it returns 0 (18 R684). -/
def State.xrdNext (s : State) : Nat × State :=
  match s.boot.xrd with
  | none => (0, s)
  | some (a, n) =>
    let w := leAt ((List.range (min n 4)).map (fun i => s.xspiByte (a + i))) 0 4
    (w, if n ≤ 4 then { s.set R.BOOT_XRD_STAT_OPEN 0 with boot.xrd := none } else { s with boot.xrd := some (a + 4, n - 4) })

/-- 18 R684: a write of XRD.LEN. -/
def execXrdLenWrite (t : Time) (len : Nat) (s : State) : Host.Outcome State Fault Refusal :=
  released t s fun s => s.xrdOpen len

/-- 18 R684: a read of XRD.DATA. -/
def execXrdDataRead (t : Time) (s : State) : Host.Outcome State Fault Refusal :=
  released t s fun s => (s.xrdNext).2.emit (.word R.BOOT_XRD_DATA.addr (s.xrdNext).1)

/-! ### A reset of BOOT (18 R682, R683) -/

/-- What a reset of BOOT loses: pending records, a checkpoint being written, staging and the read range; its RC fields and ERR bits restart
from 0, and the facts of the current start are kept (18 R683, R684; 19 R690). -/
def State.bootDown (s : State) : State :=
  let s := s.stageDiscard 4
  let keep := [R.BOOT_STAT_STATUS.addr, R.BOOT_START_COUNT.addr, R.BOOT_REPLAYED.addr, R.BOOT_NOT_RESTORED.addr]
  let lo := 0x4000000000 + 39 * 0x100000
  let s := { s with regs := s.regs.filter (fun r => keep.contains r.1 || r.1 < lo || lo + 0x100000 ≤ r.1) }
  { s with boot.jpend := [], boot.ckptQueue := none, boot.ckptDue := true, boot.xrd := none }.stageShow.journalShow

/-- The tag of the condition "BOOT is reset". -/
def tagBootReset : Nat := 14

/-- 18 R682: a reset of BOOT while serving; F2 with the event BOOT_RESET. -/
def execBootReset (t : Time) (s : State) : Host.Outcome State Fault Refusal :=
  served t s fun s =>
    if s.has (rstNow 39) then s
    else (s.beginReset 39).bootDown.raise 39 2 0x0704 tagBootReset [] { typ := 3, master := 0x40 + 39 }

end Sys2Proof.Machine
end

