-- ==== Sys2Proof/Machine/Evac.lean ====
section
/-! DEFINITION. The evacuation override: the machine of FLT, its reports to and from the twin, and whether and since when the override
is applied (21 R742 to R749). -/

namespace Sys2Proof.Machine

/-- The state codes of EVAC.STATE (21 Table 21.10). -/
def EvacSt.code : EvacSt → Nat
  | .normal => 0 | .discrepant => 1 | .asserted => 2 | .holding => 3 | .clearable => 4

/-- The safe states (21 R743). -/
def EvacSt.safe : EvacSt → Bool
  | .asserted => true | .holding => true | .clearable => true | _ => false

/-- Does the twin's last report, or the report held since the link was lost, show a safe state (21 R743, R747)? -/
def State.evacTwin (s : State) : Bool := s.probe.twin.any (fun r => 2 ≤ r.1 && r.1 ≤ 4)

/-- Is the override applied on this chip (21 R743)? -/
def State.evacOn (s : State) : Bool := s.probe.evac.safe || s.evacTwin

/-- The instant s of the override: the earlier of those the chip holds (21 R746, R747, R750). -/
def State.evacS (s : State) : Time :=
  let own := if s.probe.evac.safe then s.probe.s else none
  let twin := if s.evacTwin then s.probe.twin.map (·.2.2) else none
  match own, twin with
  | some a, some b => min a b
  | some a, none => a
  | none, some b => b
  | none, none => 0

/-- Does the override hold at a frame boundary: applied, and the boundary at or after s + 0.5 ms (21 R746)? -/
def State.evacAt (s : State) (t : Time) : Bool := s.evacOn && s.evacS + 500000 ≤ t

/-- TD in milliseconds, and DISABLE (21 Table 21.7). -/
def State.evacTd (s : State) : Nat := orDef (leAt (s.rec1 0x0230) 0 2) 100
def State.evacDisabled (s : State) : Bool := bit (byteAt (s.rec1 0x0230) 4) 0

/-- The heads that raise their safety layer (21 Table 21.7). -/
def State.evacHead (s : State) (h : Nat) : Bool := bit (leAt (s.rec1 0x0230) 2 2) h

/-- The head whose output an EVAC_VIDEO entry gives a destination (21 Table 21.7). -/
def State.evacVideo (s : State) (dest : Nat) : Option Nat :=
  let es := (s.recs 0x0231).flatMap (fun r => (List.range (leAt r.val 0 2)).map (fun i => (leAt r.val (4 + 4 * i) 2, byteAt r.val (6 + 4 * i))))
  (es.find? (fun e => e.1 = dest)).map (·.2)

/-- The registers of Table 21.10 follow the machine. -/
def State.evacShow (s : State) : State :=
  let s := (s.set R.EVAC_STATE s.probe.evac.code).set R.EVAC_DISC (b2n s.probe.disc)
  let s := ((s.set R.EVAC_APPLIED (b2n s.evacOn)).set R.EVAC_TWIN (b2n s.evacTwin)).set R.EVAC_COUNT s.probe.count
  let s := s.set R.EVAC_TD s.evacTd
  if s.evacOn then s.set R.EVAC_LAST_S s.evacS else s

/-- The tag of the condition "DISC is latched" (21 R745). -/
def tagDisc : Nat := 5

/-- FLT hands a change of its machine to DBL, which reports it in a BEAT frame (21 R747): the state with DISC, and the low 32 bits of s. -/
def State.evacReport (s : State) : State :=
  if s.dbl.linkUp then
    s.dblSend 2 0 [s.probe.evac.code + 8 * b2n s.probe.disc, (s.probe.s.getD 0) % 2 ^ 32]
  else s

/-- The machine enters ASSERTED. The instant s is kept on a return from HOLDING or CLEARABLE (21 R746). -/
def State.evacAssert (s : State) (count : Nat) : State :=
  let again := s.probe.evac.safe
  let s := if s.probe.evac = .asserted then s else s.bump R.EVAC_ASSERTS 1
  { s with probe.evac := .asserted, probe.count := count, probe.s := if again then s.probe.s else some s.now }

/-- DISC is latched: F2 on FLT's error line and EVAC_DISCREPANCY with the levels of the sample (21 Table 21.4, R745). -/
def State.latchDisc (s : State) (a b : Bool) : State :=
  ({ s with probe.disc := true }.bump R.EVAC_DISCS 1).raise 38 2 0x0681 tagDisc (beBytes 1 (b2n a) ++ beBytes 1 (b2n b))
    { typ := 3, master := 0x40 + 38 }

/-- One transition of Table 21.4 for a sample of the two levels (21 R742, R743). -/
def State.evacStep (s : State) (a b : Bool) : State :=
  let n := s.probe.count + 1
  let agree := a && !b
  let idle := !a && b
  let asserted (s : State) (cause : Nat) : State := s.event 38 0 0x0680 (beBytes 1 cause ++ beBytes 1 0)
  match s.probe.evac with
  | .normal =>
    if idle then s
    else if agree then asserted (s.evacAssert 0) 0
    else { s with probe.evac := .discrepant, probe.count := 1 }
  | .discrepant =>
    if agree then asserted (s.evacAssert 0) 0
    else if idle then { s with probe.evac := .normal, probe.count := 0 }
    else if n < s.evacTd then { s with probe.count := n }
    else asserted ((s.evacAssert n).latchDisc a b) 1
  | .asserted =>
    if agree then { s with probe.count := 0 }
    else if idle then { s with probe.evac := .holding, probe.count := 1 }
    else
      let s := { s with probe.count := min 1000 n }
      if s.evacTd ≤ n && !s.probe.disc then s.latchDisc a b else s
  | .holding =>
    if agree then s.evacAssert 0
    else if !idle then s.evacAssert 1
    else if n < s.evacTd then { s with probe.count := n }
    else { s with probe.evac := .clearable, probe.count := n }.event 38 0 0x0682 []
  | .clearable => if agree then s.evacAssert 0 else if idle then s else s.evacAssert 1

/-- 21 R742, R743: FLT samples EVAC_A and EVAC_B at a whole millisecond: `a` and `b` are their levels. -/
def execEvacSample (t : Time) (a b : Bool) (s : State) : Host.Outcome State Fault Refusal :=
  released t s fun s =>
    let s := (s.set R.EVAC_A_ACT (b2n a)).set R.EVAC_B_ACT (b2n (!b))
    let old := (s.probe.evac, s.probe.disc)
    let s := if s.evacDisabled then { s with probe.evac := .normal, probe.count := 0 } else s.evacStep a b
    let s := if old = (s.probe.evac, s.probe.disc) then s else s.evacReport
    s.evacShow

/-- A report of the twin's machine in a BEAT frame (21 R747): the state code, DISC and the low 32 bits of s, which stand for the latest
instant up to now that has them. The first report of a safe state that makes this chip apply the override is logged. -/
def State.twinEvac (s : State) (st : Nat) (disc : Bool) (low : Nat) : State :=
  let was := s.evacOn
  let at_ := s.now - (s.now + 2 ^ 32 - low % 2 ^ 32) % 2 ^ 32
  let s := { s with probe.twin := some (st, disc, at_), probe.twinHeld := false }
  let s := if !was && s.evacOn then s.event 38 0 0x0680 (beBytes 1 (b2n disc) ++ beBytes 1 1) else s
  s.evacShow

/-- EVAC_CLEAR takes effect (21 R749, Table 21.4): a CLEARABLE machine goes to NORMAL, the twin's
too (DEDUCED, log entry 34: its report follows within 10 µs), and a held report is dropped (R747). -/
def State.evacCleared (s : State) (princ : Nat) : State :=
  let s := if s.probe.twinHeld then { s with probe.twin := none, probe.twinHeld := false }
    else { s with probe.twin := s.probe.twin.map (fun r => if r.1 = 4 then (0, r.2) else r) }
  if s.probe.evac = .clearable then
    let s := { s with probe.evac := .normal, probe.count := 0, probe.disc := false, probe.s := none }.resolve 38 tagDisc
    (s.event 38 0 0x0683 (beBytes 2 princ)).evacReport.evacShow
  else s.evacShow

end Sys2Proof.Machine
end

