-- ==== Sys2Proof/Machine/Ancillary.lean ====
section
/-! DEFINITION. Ancillary packets: their words and bytes, the kinds that the chip removes, and their places at an SDI destination (05 R198, R199, R203,
R205, R207; 02 R73). -/

namespace Sys2Proof.Machine

/-! ### Words and bytes -/

/-- A byte as a ten-bit word: bit 8 is the even parity of bits [7:0], bit 9 its inverse (05 R205). -/
def parityWord (b : Nat) : Nat :=
  let p := ((List.range 8).map (fun i => b / 2 ^ i % 2)).foldl (· + ·) 0 % 2
  b % 256 + 256 * p + 512 * (1 - p)

/-- The checksum word of a packet: the sum of bits [8:0] of its words, modulo 512; bit 9 is the inverse of bit 8. PRESUMED (log entry 70): ST 291,
which the spec cites and does not give. -/
def ancChecksum (words : List Nat) : Nat :=
  let x := (words.map (· % 512)).foldl (· + ·) 0 % 512
  x + 512 * (1 - x / 256)

/-- The words of a packet from its DID to its checksum (05 R199). -/
def ancWords (did sdid : Nat) (udw : List Nat) : List Nat :=
  let l := parityWord did :: parityWord sdid :: parityWord udw.length :: udw
  l ++ [ancChecksum l]

/-- A received packet as it leaves again. -/
def Anc.out (a : Anc) : AncOut := ⟨a.line, a.hoff, a.c, ancWords a.did a.sdid a.udw⟩

/-- The position word of a packet (05 R199): C in bit 31, the line from bit 20 and the offset from bit 8; S and the stream number are 0. -/
def AncOut.position (a : AncOut) : Nat := b2n a.c * 2 ^ 31 + a.line % 2 ^ 11 * 2 ^ 20 + a.hoff % 2 ^ 12 * 2 ^ 8

/-- Ten-bit words packed without gaps, padded with zero bits to a whole byte (05 R199). -/
def packTen (l : List Nat) : List Byte :=
  let n := ceilDiv (10 * l.length) 8
  beBytes n (l.foldl (fun x w => 1024 * x + w % 1024) 0 * 2 ^ (8 * n - 10 * l.length))

/-- A packet in its connection (05 R199). -/
def AncOut.carried (a : AncOut) : List Byte := beBytes 4 a.position ++ packTen a.words

/-- The packets that fit in 7680 bytes; those beyond are dropped in raster order from the last (05 R199). -/
def ancFit : Nat → List Anc → List Anc
  | _, [] => []
  | room, a :: l => if ancBytes a ≤ room then a :: ancFit (room - ancBytes a) l else []

/-! ### Kinds -/

/-- FSEQ_DID and FSEQ_SDID (05 Table 5.12). -/
def State.fseqId (s : State) : Nat × Nat := let v := s.rec1 0x0132; (orDef (byteAt v 0) 0x51, orDef (byteAt v 1) 0x48)

/-- Is a packet of a kind that the chip generates: ST 352, embedded audio, frame sequence (02 R73; 05 R207)? It passes from no source. -/
def State.ancOwnKind (s : State) (a : Anc) : Bool :=
  (a.did = 0x41 && a.sdid = 0x01) || (0xE0 ≤ a.did && a.did ≤ 0xE7) || (0xA0 ≤ a.did && a.did ≤ 0xA7) ||
    (a.did = s.fseqId.1 && a.sdid = s.fseqId.2)

/-- Is a packet removed at reception on a lane (05 Table 5.5)? -/
def State.ancRemoved (s : State) (a : Anc) : Bool := a.did = 0xF4 || s.ancOwnKind a

/-! ### Places (05 R203) -/

/-- The vertical blanking that a line lies in, as its first and last line (05 R203): of the 750-line structure, of the progressive 1125-line structure and
of the interlaced and segmented one. The last lines of a progressive frame go with the first of the next, and each is followed here on its own frame. -/
def blankingOf (format line : Nat) : Option (Nat × Nat) :=
  let spans : List (Nat × Nat) := if fmtRaster format = 1 then [(1, 25)]
    else if fmtScan format = 0 then [(1, 41), (1122, 1125)] else [(1, 20), (561, 583)]
  spans.find? (fun x => x.1 ≤ line && line ≤ x.2)

/-- What is taken of the ancillary space: line, data stream, first word and words. -/
abbrev Taken := List (Nat × Bool × Nat × Nat)

/-- Does a run of words lie in the free ancillary space of a line (05 R203)? The space that the chip's own packets leave there is
`Config.ancSpace` (log entry 55). -/
def freeAt (space : List (Nat × Nat)) (taken : Taken) (line : Nat) (c : Bool) (o n : Nat) : Bool :=
  space.any (fun r => r.1 ≤ o && o + n ≤ r.1 + r.2) &&
    !taken.any (fun t => t.1 = line && t.2.1 = c && o < t.2.2.1 + t.2.2.2 && t.2.2.1 < o + n)

/-- The first free place for `n` words at or after an offset of a line: a place can only begin where a run of the space or a packet placed ends or
begins, or at the offset itself. -/
def firstFree_ (space : List (Nat × Nat)) (taken : Taken) (line : Nat) (c : Bool) (o n : Nat) : Option Nat :=
  let starts := o :: space.map (·.1) ++ (taken.filter (fun t => t.1 = line && t.2.1 = c)).map (fun t => t.2.2.1 + t.2.2.2)
  let good := starts.filter (fun x => o ≤ x && freeAt space taken line c x n)
  good.foldl (fun b x => match b with
    | some y => some (min x y)
    | none => some x) none

/-- 05 R203: the place of one packet of `n` words: at its own place (step 1), after it on its line (step 2), or on a following line of the same vertical
blanking (step 3). -/
def placeAnc (space : Nat → Bool → List (Nat × Nat)) (format : Nat) (taken : Taken) (line : Nat) (c : Bool) (o n : Nat) : Option (Nat × Nat) :=
  match firstFree_ (space line c) taken line c o n with
  | some x => some (line, x)
  | none => match blankingOf format line with
    | none => none
    | some (_, last) => ((List.range (last - line)).map (· + line + 1)).findSome? (fun l =>
        (firstFree_ (space l c) taken l c 0 n).map (fun x => (l, x)))

/-- The packets of a frame in source order: those placed with their places, and the number dropped (05 R203). A packet takes seven words beside its
user data: three of the ancillary data flag, DID, SDID, DC and checksum. Line 0x7FF stands for the Y data stream from line 11. -/
def placeAll (space : Nat → Bool → List (Nat × Nat)) (format : Nat) : Taken → List Anc → List AncOut × Nat
  | _, [] => ([], 0)
  | taken, a :: l =>
    let n := a.udw.length + 7
    let (line, c, o) := if a.line = 0x7FF then (11, false, 0) else (a.line, a.c, a.hoff)
    match placeAnc space format taken line c o n with
    | some (y, x) =>
      let (rest, k) := placeAll space format ((y, c, x, n) :: taken) l
      ({ a.out with line := y, hoff := x, c := c } :: rest, k)
    | none =>
      let (rest, k) := placeAll space format taken l
      (rest, k + 1)

end Sys2Proof.Machine
end

