-- ==== Sys2Proof/Machine/FlowTable.lean ====
section
/-! DEFINITION. IP flows: their records, the flow table of a port cluster, multicast membership, ownership and the changes of FLOW_SET
and FLOW_RELEASE (06 R216 to R231, R240 to R244). -/

namespace Sys2Proof.Machine

/-! ### Records -/

/-- The FLOW_IN record of an ingress flow (06 Table 6.7). -/
def State.flowIn (s : State) (i : Nat) : Option (List Byte) := s.recOf 0x0141 0 2 i

/-- ESSENCE: 0 ST 2110-20, 1 ST 2110-22, 2 ST 2110-30 or AES67, 3 ST 2110-31, 4 ST 2110-40. -/
def flowEssence (v : List Byte) : Nat := byteAt v 2

/-- Is a flow video: ST 2110-20 or ST 2110-22? -/
def flowVideo (v : List Byte) : Bool := flowEssence v ≤ 1

/-- Is a flow audio? -/
def flowAudio (v : List Byte) : Bool := flowEssence v = 2 || flowEssence v = 3

/-- JOIN: is a flow joined on use only (06 R243)? -/
def flowOnUse (v : List Byte) : Bool := bit (byteAt v 3) 2

/-- EXPECT of a flow. -/
def flowExpect (v : List Byte) : Nat := bits (byteAt v 3) 4 3

/-- An ingress leg from its 40 bytes (06 Table 6.8), with the flow's SSM flag. -/
def legOf (v : List Byte) (ssm : Bool) : InLeg :=
  { key := ⟨leAt v 0 2, vlanKey (leAt v 2 2), beAt v 24 16, leAt v 4 2⟩, saddr := beAt v 8 16, ssm := ssm }

/-- The legs of a FLOW_IN record. -/
def recLegs (v : List Byte) : List InLeg :=
  (List.range (1 + byteAt v 3 % 2)).map (fun k => legOf (v.drop (24 + 40 * k)) (bit (byteAt v 3) 1))

/-- What the chip holds of an ingress flow. -/
def State.flow (s : State) (i : Nat) : InFlow := lookD i s.ip.flows {}

/-- The cluster that holds a flow: that of its first leg (06 R218). -/
def InFlow.cluster (x : InFlow) : Nat := ((x.legs.head?).map (fun l => l.key.port / 16)).getD 0

/-- The registers of an ingress flow that follow its legs (06 Tables 6.15 to 6.17). -/
def State.flowShow (s : State) (i : Nat) : State :=
  let x := s.flow i
  let c := x.cluster
  let owner (k : Nat) : Option (Nat × Nat) := (x.legs[k]?).bind (·.owner)
  let down (k : Nat) : Bool := ((x.legs[k]?).map (·.down)).getD false
  let s := s.set (R.IF_STAT_JOINED c i) (b2n x.joined)
  let s := (s.set (R.IF_STAT_OWNED_A c i) (b2n (owner 0).isSome)).set (R.IF_STAT_OWNED_B c i) (b2n (owner 1).isSome)
  let s := (s.set (R.IF_CHK_LEG_A_DOWN c i) (b2n (down 0))).set (R.IF_CHK_LEG_B_DOWN c i) (b2n (down 1))
  let s := s.set (R.IF_OWNER_SSRC_A c i) (((owner 0).map (·.2)).getD 0)
  let s := s.set (R.IF_OWNER_SSRC_B c i) (((owner 1).map (·.2)).getD 0)
  s.set (R.IF_OWNER_ADDR c i) (((owner 0).map (·.1)).getD 0)

/-- Change what the chip holds of an ingress flow. -/
def State.setFlow (s : State) (i : Nat) (x : InFlow) : State := ({ s with ip.flows := put i x s.ip.flows }).flowShow i

/-- Change one leg of a flow. -/
def InFlow.setLeg (x : InFlow) (k : Nat) (f : InLeg → InLeg) : InFlow :=
  { x with legs := match x.legs[k]? with
    | some l => x.legs.set k (f l)
    | none => x.legs }

/-- The sources whose records list a flow, with its place in FLOWS (02 R54). -/
def State.flowSrcs (s : State) (i : Nat) : List (Nat × Nat) :=
  (s.recs 0x0101).filterMap (fun r =>
    if (recFlows r.val).contains i then some (leAt r.val 0 2, (recFlows r.val).idxOf i) else none)

/-! ### The flow table (06 R222, R223) -/

/-- A 64-bit word turned left. -/
def rotl64 (x n : Nat) : Nat := x * 2 ^ n % 2 ^ 64 + x % 2 ^ 64 / 2 ^ (64 - n)

/-- The state of SipHash. -/
abbrev Sip := Nat × Nat × Nat × Nat

/-- One round of SipHash. -/
def sipRound : Sip → Sip
  | (a, b, c, d) =>
    let a := (a + b) % 2 ^ 64
    let b := rotl64 b 13 ^^^ a
    let a := rotl64 a 32
    let c := (c + d) % 2 ^ 64
    let d := rotl64 d 16 ^^^ c
    let a := (a + d) % 2 ^ 64
    let d := rotl64 d 21 ^^^ a
    let c := (c + b) % 2 ^ 64
    let b := rotl64 b 17 ^^^ c
    (a, b, rotl64 c 32, d)

/-- One word of the message, with two rounds. -/
def sipWord (v : Sip) (m : Nat) : Sip :=
  let (a, b, c, d) := sipRound (sipRound (v.1, v.2.1, v.2.2.1, v.2.2.2 ^^^ m))
  (a ^^^ m, b, c, d)

/-- SipHash-2-4 of a message under a key of 128 bits, its low half first (06 R222). -/
def sipHash (key : Nat) (msg : List Byte) : Nat :=
  let (k0, k1) := (key % 2 ^ 64, key / 2 ^ 64 % 2 ^ 64)
  let v : Sip := (k0 ^^^ 0x736F6D6570736575, k1 ^^^ 0x646F72616E646F6D, k0 ^^^ 0x6C7967656E657261, k1 ^^^ 0x7465646279746573)
  let full := msg.length / 8
  let v := (List.range full).foldl (fun v i => sipWord v (leAt msg (8 * i) 8)) v
  let (a, b, c, d) := sipWord v (leAt msg (8 * full) (msg.length % 8) + msg.length % 256 * 2 ^ 56)
  let (a, b, c, d) := sipRound (sipRound (sipRound (sipRound (a, b, c ^^^ 0xFF, d))))
  a ^^^ b ^^^ c ^^^ d

/-- The bytes of a lookup key that are hashed. DESIGN CHOICE (log entry 25): port, VLAN, address in network order, UDP port. -/
def FKey.bytes (k : FKey) : List Byte := leBytes 2 k.port ++ leBytes 2 k.vlan ++ beBytes 16 k.addr ++ leBytes 2 k.dport

/-- The bucket of a key in a sub-table (06 R222): bits [9:0] of the hash, or bits [41:32]. -/
def State.bucketOf (s : State) (k : FKey) (sub : Nat) : Nat :=
  let h := sipHash s.ip.hashKey k.bytes
  if sub = 0 then h % 1024 else h / 2 ^ 32 % 1024

/-- The table of a cluster. -/
def State.table (s : State) (c : Nat) : List FEntry := lookD c s.ip.tables []

/-- The entries of a bucket. -/
def inBucket (t : List FEntry) (sub b : Nat) : List FEntry := t.filter (fun e => e.sub = sub && e.bucket = b)

/-- The oldest of some entries. -/
def oldest : List FEntry → Option FEntry
  | [] => none
  | e :: l => match oldest l with
    | some f => if e.age ≤ f.age then some e else some f
    | none => some e

/-- Take an entry out of a table. -/
def without (t : List FEntry) (e : FEntry) : List FEntry := t.filter (fun x => x.age ≠ e.age)

/-- Move a resident to its alternative bucket, moving the oldest resident there in turn, at most `n` moves; none when no place
is freed (06 R223, step 2; log entry 28). -/
def relocate (bucket : FKey → Nat → Nat) : Nat → List FEntry → FEntry → Option (List FEntry)
  | 0, _, _ => none
  | n + 1, t, e =>
    let sub := 1 - e.sub
    let b := bucket e.key sub
    let e' := { e with sub := sub, bucket := b }
    if (inBucket t sub b).length < 4 then some (t ++ [e'])
    else match oldest (inBucket t sub b) with
      | some o => relocate bucket n (without t o ++ [e']) o
      | none => none

/-- 06 R223: insert an entry; none when the stash is full too. -/
def insertEntry (bucket : FKey → Nat → Nat) (t : List FEntry) (e : FEntry) : Option (List FEntry) :=
  let b0 := bucket e.key 0
  let b1 := bucket e.key 1
  let e0 := { e with sub := 0, bucket := b0 }
  let e1 := { e with sub := 1, bucket := b1 }
  if (inBucket t 0 b0).length < 4 then some (t ++ [e0])
  else if (inBucket t 1 b1).length < 4 then some (t ++ [e1])
  else
    let moved_ := match oldest (inBucket t 0 b0 ++ inBucket t 1 b1) with
      | some o => relocate bucket 64 (without t o ++ [{ e with sub := o.sub, bucket := o.bucket }]) o
      | none => none
    match moved_ with
    | some t' => some t'
    | none =>
      if (t.filter (fun x => x.sub = 2)).length < 32 then some (t ++ [{ e with sub := 2, bucket := 0 }]) else none

/-- ENTRIES and STASH of a cluster (06 Table 6.13). -/
def State.setTable (s : State) (c : Nat) (t : List FEntry) : State :=
  let s := { s with ip.tables := put c t s.ip.tables }
  (s.set (R.FLOW_TBL_ENTRIES c) t.length).set (R.FLOW_TBL_STASH c) (t.filter (fun x => x.sub = 2)).length

/-- Place an entry in the table of its port's cluster; a failure is counted in CONFLICT and changes nothing else (06 R223). -/
def State.placeEntry (s : State) (k : FKey) (w : FWhat) (on : Bool) : Bool × State :=
  let c := k.port / 16
  match insertEntry s.bucketOf (s.table c) ⟨k, w, 0, 0, s.ip.placed, on⟩ with
  | some t => (true, { s.setTable c t with ip.placed := s.ip.placed + 1 })
  | none => (false, s.bump (R.FLOW_CONFLICT c) 1)

/-- Take the entries of a leg that match, or that do not match yet, out of the table of a cluster. -/
def State.removeLeg (s : State) (c flow leg : Nat) (on : Bool) : State :=
  s.setTable c ((s.table c).filter (fun e => !(e.what = .leg flow leg && e.on = on)))

/-- The new entries of a leg start matching. -/
def State.enableLeg (s : State) (c flow leg : Nat) : State :=
  s.setTable c ((s.table c).map (fun e => if e.what = .leg flow leg then { e with on := true } else e))

/-- The first entry that matches a key. -/
def State.lookupFlow (s : State) (k : FKey) : Option FWhat :=
  ((s.table (k.port / 16)).find? (fun e => e.on && e.key = k)).map (·.what)

/-- The first best-effort entry that matches a key with DPORT 0. -/
def State.lookupAny (s : State) (k : FKey) : Option Nat :=
  ((s.table (k.port / 16)).find? (fun e => e.on && e.key = { k with dport := 0 } && (match e.what with
    | .fwd _ => true
    | _ => false))).bind (fun e => match e.what with
    | .fwd n => some n
    | _ => none)

/-! ### Membership (06 R240 to R244) -/

/-- Is an address in the IPv4-mapped form (06 R260)? -/
def isMapped (a : Nat) : Bool := a / 2 ^ 32 = 0xFFFF

/-- Is an address a multicast group? -/
def isGroup (a : Nat) : Bool := if isMapped a then a % 2 ^ 32 / 2 ^ 28 = 0xE else a / 2 ^ 120 = 0xFF

/-- The IGMP or MLD version in which a port reports (06 R242): that of an older querier heard in the last 260 s, else the newest
(log entry 27). -/
def State.memberVersion (s : State) (p : Nat) (v6 : Bool) : Nat :=
  let newest := if v6 then 2 else 3
  match look (2 * p + b2n v6) s.ip.older with
  | some (v, at_) => if s.up < at_ + 260 * sec then v else newest
  | none => newest

/-- The IP_PORT record of a port for the side of this chip (06 Table 6.12). -/
def State.ipPort (s : State) (p : Nat) : List Byte :=
  (((s.recs 0x0143).find? (fun r => leAt r.val 0 2 = p && byteAt r.val 2 = b2n s.dbl.side)).map (·.val)).getD []

/-- The address from which a port reports its memberships (06 R240): its own one of the version, 0 where it has none (log entry 27). -/
def State.reportAddr (s : State) (p : Nat) (v6 : Bool) : Nat :=
  let v := s.ipPort p
  if v6 then (if byteAt v 6 = 0 then 0 else beAt v 12 16) else if byteAt v 3 = 0 then 0 else mapped4 (beAt v 8 4)

/-- The report of a leg (06 R240, R242). -/
def State.legReport (s : State) (k : FKey) (saddr : Nat) (ssm leave : Bool) : EthOut :=
  let v6 := !isMapped k.addr
  let v := s.memberVersion k.port v6
  .member v6 (s.reportAddr k.port v6) v k.addr (if ssm && v = (if v6 then 2 else 3) then some saddr else none) leave

/-- Send a report and count it. -/
def State.sendReport (s : State) (p : Nat) (r : EthOut) : State := (s.bump (R.FLOW_REPORTS (p / 16)) 1).sendEth p r

/-- A state-change report of a leg: sent at once and repeated once, 1 s later (06 R241). -/
def State.changeReport (s : State) (k : FKey) (saddr : Nat) (ssm leave : Bool) : State :=
  if !isGroup k.addr then s
  else
    let r := s.legReport k saddr ssm leave
    let s := s.sendReport k.port r
    { s with ip.repeats := s.ip.repeats ++ [(k.port, s.up + sec, r)] }

/-- The keys, senders and SSM flags of the joined legs on a port, those that a FLOW_SET is about to bring among them (06 R227,
Table 6.6). -/
def State.joinedOn (s : State) (p : Nat) : List (FKey × Nat × Bool) :=
  (s.ip.flows.flatMap (fun f => if f.2.joined then
    f.2.legs.flatMap (fun l => (l.key, l.saddr, l.ssm) :: l.next.toList) else [])).filter (fun x => x.1.port = p)

/-- Does a joined leg of a port need a membership? -/
def State.needsGroup (s : State) (k : FKey) (saddr : Nat) (ssm : Bool) : Bool :=
  (s.joinedOn k.port).any (fun x => x.1.addr = k.addr && x.2.2 = ssm && (!ssm || x.2.1 = saddr))

/-- Join the group of a leg, unless the port has joined it. -/
def State.joinLeg (s : State) (k : FKey) (saddr : Nat) (ssm : Bool) : State :=
  if s.needsGroup k saddr ssm then s else s.changeReport k saddr ssm false

/-- Leave the group of a leg, unless another joined leg of the port needs it. -/
def State.leaveLeg (s : State) (k : FKey) (saddr : Nat) (ssm : Bool) : State :=
  if s.needsGroup k saddr ssm then s else s.changeReport k saddr ssm true

/-- A query is answered at once (06 R241): the groups it asks about, or all; where it asks about sources, the legs that take any sender or one of
them. A query of an older version sets the mode (R242). -/
def State.membershipQuery (s : State) (p : Nat) (v6 : Bool) (version group : Nat) (sources : List Nat) : State :=
  let s := s.bump (R.FLOW_QUERIES (p / 16)) 1
  let s := if version < (if v6 then 2 else 3) then
      { s with ip.older := put (2 * p + b2n v6) (version, s.up) s.ip.older }
    else s
  ((s.joinedOn p).filter (fun x => isGroup x.1.addr && (!isMapped x.1.addr) = v6 && (group = 0 || x.1.addr = group) &&
      (sources.isEmpty || !x.2.2 || sources.contains x.2.1))).foldl
    (fun s x => s.sendReport p (s.legReport x.1 x.2.1 x.2.2 false)) s

/-- 06 R241: the state-change reports that were sent 1 s ago are repeated. -/
def execReportRepeat (t : Time) (s : State) : Host.Outcome State Fault Refusal :=
  released t s fun s =>
    let due := s.ip.repeats.filter (fun r => r.2.1 ≤ s.up)
    let s := { s with ip.repeats := s.ip.repeats.filter (fun r => s.up < r.2.1) }
    due.foldl (fun s r => s.sendReport r.1 r.2.2) s

/-! ### Joining, ownership and release -/

/-- A leg takes or loses its owner (06 R228, R230). -/
def State.ownLeg (s : State) (i k : Nat) (o : Option (Nat × Nat)) : State :=
  s.setFlow i ((s.flow i).setLeg k (fun l => { l with owner := o, ownerAt := s.up }))

/-- A flow is joined: its legs' groups, and the spans of R233 and R230 begin (06 R243). -/
def State.joinFlow (s : State) (i : Nat) : State :=
  let x := s.flow i
  if x.joined then s
  else
    let s := x.legs.foldl (fun s l => s.joinLeg l.key l.saddr l.ssm) s
    s.setFlow i { x with joined := true, legs := x.legs.map (fun l => { l with lastRx := s.up, down := false }) }

/-- What the merge holds of a flow, forgotten. -/
def InFlow.clear (x : InFlow) : InFlow := { x with high := none, awaited := [], holes := [], arr := [], frames := [], lastEnd := none }

/-- A flow that is not measured any more has no measured format, and its last frame stands for nothing (06 R237). -/
def State.flowStops (s : State) (i : Nat) : State :=
  let c := (s.flow i).cluster
  let s := ((s.set (R.IF_STAT_WHOLE c i) 0).set (R.IF_STAT_ALIGNED c i) 0).set (R.IF_STAT_TYPE c i) 3
  if (s.flowIn i).any flowVideo then s.set (R.IF_STAT_FORMAT c i) 0 else s

/-- A flow is left: the ownership of its legs is released (06 R230, R243). -/
def State.leaveFlow (s : State) (i : Nat) : State :=
  let x := s.flow i
  if !x.joined then s
  else
    let legs := x.legs.map (fun l => { l with owner := none, down := false })
    let s := (s.setFlow i { x.clear with joined := false, legs := legs }).flowStops i
    x.legs.foldl (fun s l => s.leaveLeg l.key l.saddr l.ssm) s

/-- Insert the legs of a flow, its image values or those it last had (06 R225): a leg that cannot be placed leaves the flow unbound. -/
def State.placeFlow (s : State) (i : Nat) (x : InFlow) : State :=
  let (good, s) := (List.range x.legs.length).foldl (fun (a : Bool × State) k =>
    match x.legs[k]? with
    | some l =>
      let (ok, s) := a.2.placeEntry l.key (.leg i k) true
      (a.1 && ok, s)
    | none => a) (true, s)
  let s := s.setFlow i { x with bound := good }
  if good then s
  else
    let s := (List.range x.legs.length).foldl (fun s k => s.removeLeg x.cluster i k true) s
    s.event x.cluster 1 0x0104 (beBytes 2 i)

/-- A flow whose legs are all placed and whose JOIN is ALWAYS is joined from then on (06 R243). -/
def State.joinPlaced (s : State) (i : Nat) : State :=
  if (s.flow i).bound && (s.flowIn i).any (fun v => !flowOnUse v) then s.joinFlow i else s

/-- The entry of a BE_FWD record. -/
def fwdKey (v : List Byte) : FKey := ⟨leAt v 0 2, vlanKey (leAt v 2 2), beAt v 8 16, leAt v 4 2⟩

/-- The legs and best-effort entries of the image are inserted in image order, and the flows with JOIN ALWAYS are joined (06 R225,
R243). -/
def State.flowStart (s : State) : State :=
  (s.boot.recs.foldl (fun (acc : Nat × State) (r : Rec) =>
    let (n, s) := acc
    if r.typ = 0x0141 then
      let i := leAt r.val 0 2
      (n, (s.placeFlow i { legs := recLegs r.val }).joinPlaced i)
    else if r.typ = 0x0144 then (n + 1, (s.placeEntry (fwdKey r.val) (.fwd n) true).2)
    else acc) (0, s)).2

/-- The entries of a table in the order of their insertion. -/
def inOrder (t : List FEntry) : List FEntry := sortBy (fun a b => a.age ≤ b.age) t

/-- Build the table of a cluster anew from entries in order; a leg that cannot be placed leaves its flow unbound (06 R224, R225). -/
def State.buildTable (s : State) (c : Nat) (l : List (FKey × FWhat × Bool)) : State :=
  l.foldl (fun (s : State) e => match s.placeEntry e.1 e.2.1 e.2.2 with
    | (true, s) => s
    | (false, s) => match e.2.1 with
      | .leg i _ => (s.setFlow i { s.flow i with bound := false }).event c 1 0x0104 (beBytes 2 i)
      | .fwd _ => s) (s.setTable c [])

/-- The flow table of a reset cluster is rebuilt with every owner released, and joins are sent again (06 R224, R230, R261). The entries that it
held are inserted in the order in which they went into it, since both chips then hold identical tables (log entry 77). -/
def State.flowRebuild (s : State) (c : Nat) : State :=
  let s := s.buildTable c ((inOrder (s.table c)).map (fun e => (e.key, e.what, e.on)))
  let mine := s.ip.flows.filter (fun (f : Nat × InFlow) => (s.flow f.1).cluster = c)
  let again := mine.filter (fun (f : Nat × InFlow) => (s.flow f.1).joined)
  let s := mine.foldl (fun (s : State) (f : Nat × InFlow) =>
    let x := s.flow f.1
    let legs := x.legs.map (fun l => { l with owner := none, lastRx := s.up, down := false })
    s.setFlow f.1 { x.clear with legs := legs, joined := false }) s
  again.foldl (fun (s : State) (f : Nat × InFlow) => s.joinFlow f.1) s

/-- Every flow whose legs are all placed is bound, and joined where its JOIN is ALWAYS; the others are unbound (06 R225, R243). -/
def State.bindPlaced (s : State) : State :=
  s.ip.flows.foldl (fun (s : State) f =>
    let x := s.flow f.1
    let placed := (List.range x.legs.length).all (fun k => (s.table x.cluster).any (fun e => e.on && e.what = .leg f.1 k))
    (s.setFlow f.1 { x with bound := placed }).joinPlaced f.1) s

/-- A joining chip takes the key, the values of the legs and the entries in their order from its twin (06 R224); flows that the snapshot does not name
keep their own legs (14 R554). A flow placed so is bound, and joined as its JOIN says. -/
def State.takeTable (s : State) (key : Nat) (entries : List (FKey × FWhat × Bool)) (legs : List (Nat × List (FKey × Nat × Bool))) : State :=
  let s := { s with ip.hashKey := key }
  let s := legs.foldl (fun (s : State) (f : Nat × List (FKey × Nat × Bool)) =>
    let x := s.flow f.1
    let new := x.legs.mapIdx (fun k l => match f.2[k]? with
      | some n => if (l.key, l.saddr, l.ssm) = n then l else { l with key := n.1, saddr := n.2.1, ssm := n.2.2, owner := none, next := none }
      | none => l)
    if new = x.legs then s
    else
      let was := x.joined
      let s := if was then s.leaveFlow f.1 else s
      let s := s.setFlow f.1 { (s.flow f.1).clear with legs := new, setAt := none }
      if was then s.joinFlow f.1 else s) s
  let named (w : FWhat) : Bool := match w with
    | .leg i _ => legs.any (·.1 = i)
    | .fwd _ => true
  (List.range 16).foldl (fun (s : State) c =>
    let mine := (inOrder (s.table c)).filter (fun e => !named e.what)
    s.buildTable c (entries.filter (fun e => e.1.port / 16 = c && named e.2.1) ++ mine.map (fun e => (e.key, e.what, e.on)))) s |>.bindPlaced

/-! ### FLOW_SET and FLOW_RELEASE -/

/-- The leg number (from 0) and values of a LEG TLV (15 Table 15.3, in network order). -/
def legTlv (port : Nat) (v : List Byte) : Nat × (FKey × Nat × Bool) :=
  (beAt v 0 1 - 1, (⟨port, vlanKey (beAt v 2 2), beAt v 24 16, beAt v 4 2⟩, beAt v 8 16, bit (beAt v 1 1) 0))

/-- The changes of a FLOW_SET: for each leg it names, the new values where they differ from those that stand or are due. -/
def State.legChanges (s : State) (i : Nat) (legs : List (Nat × List Byte)) : List (Nat × (FKey × Nat × Bool)) :=
  legs.filterMap (fun l =>
    match (s.flow i).legs[l.1]? with
    | some g =>
      let n := (legTlv g.key.port l.2).2
      if g.next.getD (g.key, g.saddr, g.ssm) = n then none else some (l.1, n)
    | none => none)

/-- Insert the new entries of a FLOW_SET beside the old, in place of those of an earlier one of the same cycle (06 R226, Table 6.6);
false, with the table as it was, when one cannot be placed. -/
def State.flowInsert (s : State) (i : Nat) (ch : List (Nat × (FKey × Nat × Bool))) : Bool × State :=
  let c := (s.flow i).cluster
  let s0 := ch.foldl (fun s l => s.removeLeg c i l.1 false) s
  let (good, s1) := ch.foldl (fun (a : Bool × State) l =>
    if !a.1 then a else a.2.placeEntry l.2.1 (.leg i l.1) false) (true, s0)
  if good then (true, s1) else (false, s.bump (R.FLOW_CONFLICT c) 1)

/-- A FLOW_SET that was admitted: the new entries stand beside the old, the reports for the new groups that the port has not joined go out, and the change
awaits its instant (06 R226, R227). -/
def State.flowSetApply (s : State) (i : Nat) (legs : List (Nat × List Byte)) (at_ : Time) : State :=
  let ch := s.legChanges i legs
  if ch = [] then s
  else
    let (_, s) := s.flowInsert i ch
    ch.foldl (fun (s : State) l =>
      let s := if (s.flow i).joined then s.joinLeg l.2.1 l.2.2.1 l.2.2.2 else s
      s.setFlow i { (s.flow i).setLeg l.1 (fun g => { g with next := some l.2 }) with setAt := some at_ }) s

/-- A frame of a flow is cut: no source that lists the flow has it whole (06 R227, R235, R236). -/
def State.flowBad (s : State) (i : Nat) : State :=
  (s.flowSrcs i).foldl (fun s x => s.amendFrame x.1 (fun f => f.member x.2 (fun m => { m with hole := true }))) s

/-- At the effective instant the old entries are removed, the new match, the changed legs lose their owners, and the groups left are
reported (06 R226, R227, R230). The running frame is cut, and the merge starts anew for the new senders (log entry 75). A flow whose legs are all
placed now is bound. -/
def State.flowSwitch (s : State) (i : Nat) : State :=
  let x := s.flow i
  let olds := x.legs.filter (fun l => l.next.isSome)
  let s := if x.frames.isEmpty then s else s.flowBad i
  let s := (List.range x.legs.length).foldl (fun s k => match (x.legs[k]?).bind (·.next) with
    | some _ => (s.removeLeg x.cluster i k true).enableLeg x.cluster i k
    | none => s) s
  let legs := x.legs.map (fun l => match l.next with
    | some n => { l with key := n.1, saddr := n.2.1, ssm := n.2.2, owner := none, next := none, lastRx := s.up, down := false }
    | none => l)
  let placed := (List.range legs.length).all (fun k => (s.table x.cluster).any (fun e => e.on && e.what = .leg i k))
  let s := s.setFlow i { x.clear with legs := legs, setAt := none, bound := placed }
  let s := if x.joined then olds.foldl (fun s l => s.leaveLeg l.key l.saddr l.ssm) s else s
  s.joinPlaced i

/-- The IP effects of a house frame boundary (06 R226, R230, R231). Owners are adopted as they were at the close, so before the releases of the same
instant: FLOW_SETs switch and FLOW_RELEASEs release. -/
def State.flowBoundary (s : State) : State :=
  s.ip.flows.foldl (fun s f =>
    let i := f.1
    let due : List (Nat × Option (Nat × Nat) × Time) := f.2.adopt.filter (fun a => a.2.2 ≤ s.now)
    let s := if due.isEmpty then s
      else
        let s := s.setFlow i { s.flow i with adopt := (s.flow i).adopt.filter (fun a => s.now < a.2.2) }
        due.foldl (fun s a =>
          if (((s.flow i).legs[a.1]?).map (·.owner)) = some a.2.1 then s
          else (s.ownLeg i a.1 a.2.1).bump (R.IF_OWNER_ADOPT (s.flow i).cluster i) 1) s
    let s := if f.2.setAt.any (· ≤ s.now) then s.flowSwitch i else s
    match f.2.relAt with
    | some (m, at_) =>
      if at_ ≤ s.now then
        let x := s.flow i
        let legs : List InLeg := x.legs.mapIdx (fun (k : Nat) (l : InLeg) => if bit m k then { l with owner := none } else l)
        s.setFlow i { x with legs := legs, relAt := none }
      else s
    | none => s) s

/-- The needs of FLOW_SET and FLOW_RELEASE (16 Table 16.4): FLOW over the flow and over every source that lists it. -/
def State.flowNeeds (s : State) (c : Session) (ts : List Tlv) : Option Need :=
  let i := fld ts 0x0E 0 2
  let needs : List Need := ⟨3, 7, i, 0⟩ :: (s.flowSrcs i).map (fun x => ⟨3, 2, s.gid x.1, 0⟩)
  needs.find? (fun w => !s.holds c.princ w)

/-- 06 R226: FLOW_SET. An unknown flow is NO_SUCH_SIGNAL; a leg that the flow has not, or named twice, is BAD_VALUE. -/
def execFlowSet (t : Time) (q : Req) (s : State) : Host.Outcome State Fault Refusal :=
  served t s fun s => s.request ⟨0x17, true, [one 0x0E, ⟨[0x0F], 1, 2⟩]⟩ q State.flowNeeds fun s c =>
    let legs := (c.ts.filter (fun x => x.typ = 0x0F)).map (fun x => beAt x.val 0 1)
    match s.flowIn (fld c.ts 0x0E 0 2) with
    | none => s.noSignal c 0x0E
    | some v =>
      if !legs.Nodup || legs.any (fun l => 1 + byteAt v 3 % 2 < l) then s.badValue c 0x0F
      else s.enqueue c (.flowSet t q)

/-- 06 R230: FLOW_RELEASE. -/
def execFlowRelease (t : Time) (q : Req) (s : State) : Host.Outcome State Fault Refusal :=
  served t s fun s => s.request ⟨0x18, true, [one 0x0E]⟩ q State.flowNeeds fun s c =>
    match s.flowIn (fld c.ts 0x0E 0 2) with
    | none => s.noSignal c 0x0E
    | some _ => s.enqueue c (.flowRelease t q)

/-- 06 R230: no packet from a leg's owner for IDLE_RELEASE milliseconds. -/
def execIdleReleaseExpiry (t : Time) (flow : Fin 8192) (leg : Fin 2) (s : State) : Host.Outcome State Fault Refusal :=
  released t s fun s =>
    match (s.flow flow).legs[leg.val]?, s.flowIn flow with
    | some l, some v =>
      if leAt v 8 2 ≠ 0 && l.owner.isSome && l.ownerAt + leAt v 8 2 * ms ≤ s.up then s.ownLeg flow leg none else s
    | _, _ => s

end Sys2Proof.Machine
end

