-- ==== Sys2Proof/Machine/Ip.lean ====
section
/-! DEFINITION. Received Ethernet frames: the flow filter, the ST 2022-7 merge, the frames and checks of ingress flows (06 R221, R228
to R239). The commands stand in Strands.lean. -/

namespace Sys2Proof.Machine

/-- Bytes of a sample on the wire of an audio flow (06 Table 6.7). -/
def wireSample (v : List Byte) : Nat := match bits (byteAt v 6) 4 3 with
  | 0 => 3 | 1 => 2 | _ => 4

/-! ### Merge (06 R232 to R234) -/

/-- What the merge does with a packet. -/
inductive Merged where
  | used | duplicate (diff : Option Nat) | late (diff : Option Nat)
deriving DecidableEq, Repr

/-- Is a number in a run? -/
def inRun (n first count : Nat) : Bool := first ≤ n && n < first + count

/-- Take a number out of the awaited runs. -/
def takeRun (n : Nat) : List (Nat × Nat × Option Time) → List (Nat × Nat × Option Time)
  | [] => []
  | (a, c, d) :: l =>
    if inRun n a c then
      (if a < n then [(a, n - a, d)] else []) ++ (if n + 1 < a + c then [(n + 1, a + c - n - 1, d)] else []) ++ l
    else (a, c, d) :: takeRun n l

/-- A sequence number of `w` bits extended by the running count (06 R232). -/
def extSeq (w : Nat) (high : Option Nat) (seq : Nat) : Nat :=
  match high with
  | none => 2 ^ w + seq
  | some h => ((h : Int) + signed w ((seq + 2 ^ w - h % 2 ^ w) % 2 ^ w)).toNat

/-- 06 R232, R233: number `n` arrives on a leg. Numbers before the first one seen are awaited without a deadline. The arrivals
are kept, so that the interval of a number that arrives on both legs is known (R234). DESIGN CHOICE (log entry 76): while one leg is down a gap
waits the same 8 µs, as it does in a flow with one leg. -/
def InFlow.merge (x : InFlow) (leg n : Nat) (now : Time) : Merged × InFlow :=
  let other : Option Nat := (x.arr.find? (fun r => r.1 = n && r.2.1 ≠ leg)).map (fun r => now - r.2.2)
  let noted : InFlow := { x with arr := x.arr ++ [(n, leg, now)] }
  match x.high with
  | none => (.used, { x with high := some n, awaited := [(n - 1024, min n 1024, none)], arr := [(n, leg, now)] })
  | some h =>
    if h < n then
      let miss := if n = h + 1 then [] else [(h + 1, n - h - 1, some (now + 8000))]
      (.used, { x with
        high := some n
        awaited := x.awaited.filter (fun r => r.2.2.isSome || n ≤ r.1 + r.2.1 + 1024) ++ miss
        holes := x.holes.filter (fun r => n ≤ r.1 + r.2 + 1024)
        arr := x.arr ++ [(n, leg, now)] })
    else if n + 1024 < h || x.holes.any (fun r => inRun n r.1 r.2) then (.late other, noted)
    else if x.awaited.any (fun r => inRun n r.1 r.2.1) then (.used, { noted with awaited := takeRun n x.awaited })
    else (.duplicate other, x)

/-! ### Frames of a flow (06 R235, R237, R238) -/

/-- The instant that an RTP time stamp denotes, the nearest one to `now`, for a clock of `rate` Hz. -/
def rtpInstant (rate ts : Nat) (now : Time) : Time :=
  let k := now * rate / sec
  let d := signed 32 ((ts + 2 ^ 32 - k % 2 ^ 32) % 2 ^ 32)
  ceilDiv (((k : Int) + d).toNat * sec) rate

/-- The RTP clock of a flow. -/
def flowClock (v : List Byte) : Nat := if flowAudio v then (if bit (byteAt v 6) 5 then 96000 else 48000) else 90000

/-- Has a source video? -/
def State.srcVideo (s : State) (src : Nat) : Bool := (s.srcRec src).any (fun v => fmtRaster (recFormat v) ≠ 0)

/-- TROdefault of a source's format; 0 without video (04 R137; log entry 22). -/
def State.srcTro (s : State) (src : Nat) : Nat :=
  if s.srcVideo src then Config.tro (((s.srcRec src).map recFormat).getD 0) else 0

/-- The rate code within ±400 ppm of a frame period in picoseconds. -/
def flowRateOf (p : Nat) : Option Nat :=
  (List.range 13).find? (fun r =>
    let x := p * rateNum r
    let y := rateDen r * 10 ^ 12
    (max x y - min x y) * 1000000 ≤ 400 * y)

/-- The measured format of an ST 2110 source (06 R237): its record's while lines, bytes per line and period agree, else 0. -/
def measuredFormat (essence format : Nat) (f : FlowFrame) : Nat :=
  let bytes := rasterW (fmtRaster format) * samplingBits (fmtSampling format) / 8
  if f.line + 1 = rasterH (fmtRaster format) && (essence ≠ 0 || f.lineBytes = bytes) && flowRateOf f.period = some (fmtRate format) then format else 0

/-- The rate of a flow's source; the house rate where no source lists the flow (log entry 29). -/
def State.flowRate (s : State) (i : Nat) : Nat := match s.flowSrcs i with
  | x :: _ => s.srcRate x.1
  | [] => s.houseRate

/-- The current checks of a flow are shown: CUR, LATCHED, and FLOW_CHECK when they differ from those last sent, at most once in a
frame (06 R238; 21 R735). -/
def State.flowChecks (s : State) (i mask : Nat) : State :=
  let x := s.flow i
  let c := x.cluster
  let legs := (x.legs.mapIdx (fun (k : Nat) (l : InLeg) => if l.down then 2 ^ (6 + k) else 0)).foldl (· + ·) 0
  let m := mask % 64 + legs
  let w : Fld := ⟨c, 0x40004 + 0x40 * i, 7, 0⟩
  let s := (s.set w m).set (R.IF_CHK_LATCHED c i) (s.get (R.IF_CHK_LATCHED c i) ||| m)
  let n := frameAt (s.flowRate i) s.now
  if m = x.shown || x.shownAt = some n then s
  else
    let s := s.setFlow i { x with shown := m, shownAt := some n }
    s.event c 0 0x0601 (beBytes 2 i ++ beBytes 1 x.shown ++ beBytes 1 m ++ beBytes 1 (s.get (R.IF_STAT_TYPE c i)))

/-- The current checks of a flow without its leg flags. -/
def State.curChecks (s : State) (i : Nat) : Nat := s.get ⟨(s.flow i).cluster, 0x40004 + 0x40 * i, 5, 0⟩

/-- Is a frame of a flow whole: it began with its first packet, its last has come, and it has no hole and no format error (06 R235)? -/
def FlowFrame.sound (f : FlowFrame) : Bool := f.start && f.marked && f.whole && !f.malformed

/-- The newest slot of a source's ring whose frame has a count. -/
def State.slotAt (s : State) (src n : Nat) : Option Nat := ((s.ring src).bind (fun r => r.slots.reverse.find? (fun sl => sl.count = n))).map (·.frame)

/-- What a frame of a flow that is done gives a source that lists it: the measured format, the picture and whether its data were whole (06 R235 to
R237; 08 R306; 21 R734). -/
def State.flowFrameTo (s : State) (i c : Nat) (v : List Byte) (f : FlowFrame) (src num : Nat) : State :=
  let format := ((s.srcRec src).map recFormat).getD 0
  let s := if flowVideo v then s.set (R.IF_STAT_FORMAT c i) (measuredFormat (flowEssence v) format f)
    else if s.srcVideo src then s else s.set (R.IF_STAT_FORMAT c i) format
  let pic := Pic.pic f.crc f.luma
  let s := match f.nums.find? (fun z => z.1 = src) with
    | some z => s.amendAt src z.2 (fun x => { x.member num (fun m => { m with hole := m.hole || (m.whole && !f.sound) }) with
        pic := if flowVideo v then pic else x.pic
        size := if flowEssence v = 1 then f.bytes else x.size })
    | none => s
  let slot := match f.slots.find? (fun z => z.1 = src), f.nums.find? (fun z => z.1 = src) with
    | some z, _ => some z.2
    | none, some z => s.slotAt src z.2
    | none, none => none
  let s := match slot with
    | some k => s.ringAmendAt src k (fun sl =>
      { sl with
        under := if f.sound then sl.under.filter (· ≠ num) else sl.under
        pic := if flowVideo v then pic else sl.pic
        size := if flowEssence v = 1 then f.bytes else sl.size })
    | none => s
  if flowVideo v && f.sound then s.measure false src f.luma else s

/-- The frame of a flow whose numbers have all been used or declared holes: what its registers and the sources that list it take from it (06 R235,
R237, R238). TYPE and the peaks are those of a whole frame. -/
def State.flowFrameDone (s : State) (i : Nat) (v : List Byte) (f : FlowFrame) : State :=
  let x := s.flow i
  let c := x.cluster
  let s := s.bump (R.IF_MALFORMED c i) (b2n f.malformed)
  let s := (s.set (R.IF_STAT_WHOLE c i) (b2n f.sound)).set (R.IF_STAT_ALIGNED c i) (b2n f.inWin)
  let expect := flowExpect v
  let s := match f.meas with
    | some m =>
      if flowVideo v && f.sound then
        let s := s.set (R.IF_STAT_TYPE c i) m.type
        if expect = 0 then s else (s.peak (R.IF_CINST_PEAK c i) m.cinst).peak (R.IF_VRX_PEAK c i) m.vrx
      else s
    | none => s
  let bad (g : Meas → Bool) : Nat := b2n (flowVideo v && expect ≠ 0 && f.meas.any g)
  let mask := x.checks % 8 + f.checks % 2 * 8 + 16 * bad (·.cinstBad) + 32 * bad (·.vrxBad)
  let s := s.setFlow i { x with checks := 0, lastEnd := if f.marked then f.last else none }
  ((s.flowSrcs i).foldl (fun s y => s.flowFrameTo i c v f y.1 y.2) s).flowChecks i mask

/-- The closed frames none of whose numbers is awaited any more are done (06 R235). -/
def State.settleFrames (s : State) (i : Nat) (v : List Byte) : State :=
  let x := s.flow i
  let open_ (f : FlowFrame) : Bool := match f.last with
    | none => true
    | some l => x.awaited.any (fun r => r.2.2.isSome && r.1 ≤ l && f.first < r.1 + r.2.1)
  let done := x.frames.takeWhile (fun f => !open_ f)
  let s := s.setFlow i { x with frames := x.frames.drop done.length }
  done.foldl (fun s f => s.flowFrameDone i v f) s

/-- The frames of a flow that will never end, since its legs are down or another sender begins, are not whole (06 R235). -/
def State.flowAbandon (s : State) (i : Nat) : State :=
  match s.flowIn i with
  | none => s
  | some v =>
    let l := (s.flow i).frames
    l.foldl (fun (s : State) f => s.flowFrameDone i v { f with whole := false }) (s.setFlow i { s.flow i with frames := [] })

/-- The awaited numbers whose time has passed are holes (06 R233): counted, and their frames are not whole. -/
def State.expireHoles (s : State) (i : Nat) : State :=
  let x := s.flow i
  let due := x.awaited.filter (fun r => r.2.2.any (· ≤ s.now))
  if due.isEmpty then s
  else
    let hits (f : FlowFrame) : Bool := due.any (fun r => f.first < r.1 + r.2.1 && (match f.last with
      | none => true
      | some l => r.1 ≤ l))
    let x' : InFlow := { x with
      awaited := x.awaited.filter (fun r => !r.2.2.any (· ≤ s.now))
      holes := x.holes ++ due.map (fun r => (r.1, r.2.1))
      frames := x.frames.map (fun f => if hits f then { f with whole := false } else f)
      checks := x.checks ||| 1 }
    let s := s.setFlow i x'
    let s := s.bump (R.IF_HOLE x.cluster i) (due.foldl (fun n r => n + r.2.1) 0)
    let s := if x.frames.any (fun f => hits f && f.last.isNone) then s.flowBad i else s
    match s.flowIn i with
    | some v => s.settleFrames i v
    | none => s

/-- A minimum or a maximum of signed offsets (06 Table 6.17). -/
def State.offsets (s : State) (c i : Nat) (d : Int) : State :=
  let s := if signed 32 (s.get (R.IF_OFFSET_MAX c i)) < d then s.set (R.IF_OFFSET_MAX c i) (satur 32 d) else s
  if d < signed 32 (s.get (R.IF_OFFSET_MIN c i)) then s.set (R.IF_OFFSET_MIN c i) (satur 32 d) else s

/-- The nearest alignment point of a rate. -/
def nearestPoint (rate : Nat) (t : Time) : Time := alignPoint rate (nearestFrame rate t)

/-- The slot with which a flow's frame begins: every member of the source still counts as missing. -/
def flowSlot (arrival : Time) (count members : Nat) (anc : List (Nat × Anc)) (k : Nat) : Slot :=
  { frame := k, arrival := arrival, under := List.range members, lost := false, pic := .fill, anc := anc, count := count }

/-- Does an instant lie within a window that opens at another? -/
def inSpan (from_ t len : Nat) : Bool := from_ ≤ t && t ≤ from_ + len

/-- The video flow of a source opens its frame and a frame of its ring (04 R137; 08 R306, R307). Its picture is known once its last packet has come. -/
def State.videoOpen (s : State) (src num : Nat) (v rec_ : List Byte) (whole : Bool) (anc : List (Nat × Anc)) : Option Nat × Nat × State :=
  let arr := s.now - s.srcTro src
  let n := nearestFrame (s.srcRate src) arr
  let a := alignPoint (s.srcRate src) n
  let same := s.sameFrame src arr
  let anc := (if same then ((look src s.xp.srcFrames).map (·.anc)).getD [] else []) ++ anc
  let (pic, s) := s.freePic (recFormat rec_)
  let s := s.joinFrame src n arr same ⟨num, inSpan a arr s.window, inSpan a arr (3 * s.window / 4), whole, false⟩ true pic anc
  let s := s.amendFrame src (fun f => { f with arrival := arr })
  let n := ((look src s.xp.srcFrames).map (·.frame)).getD n
  let t := s.ringWrite src (s.get (R.IF_STAT_FORMAT (s.flow (leAt v 0 2)).cluster (leAt v 0 2))) (flowSlot arr n (recFlows rec_).length anc)
  (s.ringOpened t src, n, t)

/-- The ancillary flow at place `num` of a source begins a frame, whose time stamp tells which. In a source without video its first flow classes the frame
(04 R137), and its first ancillary flow opens the frame of the ring (08 R307). -/
def State.ancOpen (s : State) (src num : Nat) (rec_ : List Byte) (ts : Nat) (whole : Bool) (anc : List (Nat × Anc)) : Option Nat × Nat × State :=
  let m := rtpInstant 90000 ts s.now
  let n := nearestFrame (s.srcRate src) m
  let classes := !s.srcVideo src && num = 0
  let mem : Member := if classes then ⟨num, inSpan m s.now s.window, inSpan m s.now (3 * s.window / 4), whole, false⟩ else ⟨num, true, true, whole, false⟩
  let known := (s.frameOf src n).isSome
  let latest := (look src s.xp.srcFrames).any (fun f => f.frame = n)
  let s := if latest || !known then s.joinFrame src n m latest mem false .fill anc else s.amendAt src n (fun f => { f with
    members := f.members.filter (fun x => x.num ≠ num) ++ [mem] })
  let s := if known then s.amendAt src n (fun f => { f with anc := f.anc ++ anc }) else s
  let opens := !s.srcVideo src && ((recFlows rec_).findIdx? (fun f => (s.flowIn f).any (fun w => flowEssence w = 4))) = some num
  if opens then
    let s := s.amendAt src n (fun f => { f with arrival := m })
    let t := s.ringWrite src (recFormat rec_) (flowSlot m n (recFlows rec_).length anc)
    (s.ringOpened t src, n, t)
  else match s.slotAt src n with
    | some k => (some k, n, s.ringAmendAt src k (fun sl => { sl with anc := sl.anc ++ anc }))
    | none => (none, n, s)

/-- The first packet of a frame of a video or ancillary flow reaches a source that lists the flow. Answers the ring frame, where it has begun, and the
frame count. -/
def State.flowOpen (s : State) (src num : Nat) (v : List Byte) (ts : Nat) (whole : Bool) (anc : List Anc) : Option Nat × Nat × State :=
  let anc := anc.map (fun a => (num, a))
  let rec_ := (s.srcRec src).getD []
  if flowVideo v then s.videoOpen src num v rec_ whole anc else s.ancOpen src num rec_ ts whole anc

/-- The ancillary packets of a packet that pass (02 R73). -/
def State.rtpAnc (s : State) (r : Rtp) : List Anc := r.anc.filter (fun a => !s.ancOwnKind a)

/-- A later packet of a frame: its ancillary packets, and in a source without video whether it too lies within the window of the instant that its time
stamp denotes (04 R137). -/
def State.flowLater (s : State) (i : Nat) (v : List Byte) (r : Rtp) : State :=
  let anc := s.rtpAnc r
  (s.flowSrcs i).foldl (fun s y =>
    let s := if flowVideo v || s.srcVideo y.1 || y.2 ≠ 0 then s
      else
        let m := rtpInstant 90000 r.ts s.now
        let w := s.window
        s.amendAt y.1 (nearestFrame (s.srcRate y.1) m) (fun f => f.member 0 (fun x =>
          { x with inWin := x.inWin && inSpan m s.now w, inInner := x.inInner && inSpan m s.now (3 * w / 4) }))
    match anc, ((s.flow i).frames.find? (fun f => f.ts = r.ts)).bind (fun f => f.nums.find? (fun z => z.1 = y.1)) with
    | [], _ => s
    | _, none => s
    | _, some (_, n) =>
      let anc := anc.map (fun a => (y.2, a))
      let s := s.amendAt y.1 n (fun f => { f with anc := f.anc ++ anc })
      match s.slotAt y.1 n with
      | some k => s.ringAmendAt y.1 k (fun sl => { sl with anc := sl.anc ++ anc })
      | none => s) s

/-- A frame of a flow begins with number `n` (06 R235, R238): its check of time stamp, and the sources' frames. -/
def State.frameBegin (s : State) (i n : Nat) (v : List Byte) (r : Rtp) (start : Bool) : State :=
  let rate := s.flowRate i
  let a := nearestPoint rate s.now
  let want := (a * 90000 / sec) % 2 ^ 32
  let d := signed 32 ((r.ts + 2 ^ 32 - want) % 2 ^ 32)
  let tsBad := decide (1 < d.natAbs)
  let (slots, nums, inWin, s) := (s.flowSrcs i).foldl (fun (acc : List (Nat × Nat) × List (Nat × Nat) × Bool × State) y =>
    let (k, fn, s) := acc.2.2.2.flowOpen y.1 y.2 v r.ts (start && !r.malformed) (acc.2.2.2.rtpAnc r)
    let w := (s.frameOf y.1 fn).any (fun f => f.all_ [y.2] (·.inWin))
    (acc.1 ++ (k.map (fun k => (y.1, k))).toList, acc.2.1 ++ [(y.1, fn)], w, s)) ([], [], false, s)
  let f : FlowFrame :=
    { first := n, start := start, ts := r.ts, whole := true, checks := b2n tsBad, inWin := inWin, slots := slots, nums := nums }
  s.setFlow i { s.flow i with frames := (s.flow i).frames ++ [f] }

/-- What a packet adds to its frame. -/
def FlowFrame.add (f : FlowFrame) (n : Nat) (r : Rtp) : FlowFrame :=
  { f with
    line := max f.line r.line
    lineBytes := if r.lineBytes = 0 then f.lineBytes else r.lineBytes
    malformed := f.malformed || r.malformed || r.outside
    last := if r.marker then some n else f.last
    marked := f.marked || r.marker
    bytes := f.bytes + (r.bytes - 4)
    meas := if r.marker then some r.meas else f.meas
    period := if r.meas.period = 0 then f.period else r.meas.period
    crc := if r.marker then r.crc else f.crc
    luma := if r.marker then r.luma else f.luma }

/-- A number in a frame as far as it is known. -/
def FlowFrame.holds (f : FlowFrame) (n : Nat) : Bool := f.first ≤ n && (match f.last with
  | none => true
  | some l => n ≤ l)

/-- A packet that was awaited arrives before the first packet of a frame: the frame begins with it, and where it is the first packet of the frame the
frame's data are whole so far (06 R234, R235). -/
def State.frameEarlier (s : State) (i n : Nat) (f : FlowFrame) (start : Bool) : State :=
  let x := s.flow i
  let s := s.setFlow i { x with frames := x.frames.map (fun g => if g.first = f.first then { g with first := n, start := start } else g) }
  if !start then s
  else (s.flowSrcs i).foldl (fun (s : State) y => match f.nums.find? (fun z => z.1 = y.1) with
    | some z => s.amendAt y.1 z.2 (fun g => g.member y.2 (fun m => { m with whole := true }))
    | none => s) s

/-- Does a packet with number `n` tell that a frame ended before it: the first packet of the next frame, or, of an ST 2110-22 or ST 2110-40 flow, one with another time
stamp, where the marker has not come (06 R235)? -/
def FlowFrame.endsBefore (f : FlowFrame) (n : Nat) (v : List Byte) (r : Rtp) : Bool :=
  !f.marked && f.first < n && f.holds n && (if flowEssence v = 0 then r.first && f.last.isNone else f.ts ≠ r.ts)

/-- A used packet of a video or ancillary flow joins its frame (06 R235). -/
def State.framePacket (s : State) (i n : Nat) (v : List Byte) (r : Rtp) : State :=
  let x := s.flow i
  let s := s.setFlow i { x with frames := x.frames.map (fun f => if f.endsBefore n v r then { f with last := some (n - 1) } else f) }
  let x := s.flow i
  let before := x.frames.filter (fun f => f.first ≤ n)
  let prev : Option Nat := match before.getLast? with
    | some f => if f.marked then f.last else none
    | none => x.lastEnd
  let start := if flowEssence v = 0 then r.first else prev = some (n - 1)
  let s := if x.frames.any (·.holds n) then s.flowLater i v r
    else match x.frames.find? (fun f => n < f.first && (flowEssence v = 0 || f.ts = r.ts)) with
      | some f => (s.frameEarlier i n f start).flowLater i v r
      | none => s.frameBegin i n v r start
  let x := s.flow i
  let s := s.setFlow i { x with frames := x.frames.map (fun f => if f.holds n then f.add n r else f) }
  let s := match (s.flow i).frames.find? (fun f => r.marker && flowEssence v ≠ 0 && f.first = n + 1 && !f.start) with
    | some g => s.frameEarlier i (n + 1) g true
    | none => s
  if r.malformed || r.outside then s.flowBad i else s

/-- What every copy of a packet is measured by, used or not (06 R238, Table 6.4): the offset of a frame's first packet, and the time stamp. Answers whether the TS check
fails. -/
def State.legMeasure (s : State) (i n : Nat) (v : List Byte) (r : Rtp) : Bool × State :=
  let x := s.flow i
  if flowAudio v then
    let d : Int := (s.now : Int) - rtpInstant (flowClock v) r.ts s.now
    (decide (d < 0) || decide (10 * (ms : Int) < d), s.offsets x.cluster i d)
  else
    let a := nearestPoint (s.flowRate i) s.now
    let opens := if flowEssence v = 0 then r.first else x.frames.any (fun f => f.first = n && f.start)
    let d := signed 32 ((r.ts + 2 ^ 32 - (a * 90000 / sec) % 2 ^ 32) % 2 ^ 32)
    (opens && decide (1 < d.natAbs), if flowVideo v && opens then s.offsets x.cluster i ((s.now : Int) - a) else s)

/-- A copy that is not used is measured with its leg; its check counts in its frame. -/
def State.legOther (s : State) (i n : Nat) (v : List Byte) (r : Rtp) : State :=
  let (bad, s) := s.legMeasure i n v r
  if !bad then s
  else if flowAudio v then s.flowChecks i (s.curChecks i ||| 8)
  else s.setFlow i { s.flow i with frames := (s.flow i).frames.map (fun f => if f.holds n then { f with checks := f.checks ||| 1 } else f) }

/-- A used packet of an audio flow: the checks of its packet time (06 R238), and for a source without video its window (04 R137). -/
def State.audioPacket (s : State) (i : Nat) (v : List Byte) (r : Rtp) : State :=
  let x := s.flow i
  let c := x.cluster
  let m := rtpInstant (flowClock v) r.ts s.now
  let (tsBad, s) := s.legMeasure i (x.high.getD 0) v r
  let s := s.bump (R.IF_MALFORMED c i) (b2n r.malformed)
  let inWin := inSpan m s.now s.window
  let s := (s.set (R.IF_STAT_ALIGNED c i) (b2n inWin)).set (R.IF_STAT_WHOLE c i) (b2n (!r.malformed && x.checks % 2 = 0))
  let s := s.setFlow i { s.flow i with checks := 0, lastEnd := x.high }
  let s := (s.flowSrcs i).foldl (fun s y =>
    let s := s.set (R.IF_STAT_FORMAT c i) (if s.srcVideo y.1 then s.get (R.IF_STAT_FORMAT c i) else ((s.srcRec y.1).map recFormat).getD 0)
    if s.srcVideo y.1 || y.2 ≠ 0 then s
    else
      let n := frameAt (s.srcRate y.1) m
      let old := ((look y.1 s.xp.srcFrames).filter (fun f => f.frame = n)).bind (fun f => f.members.find? (fun z => z.num = 0))
      let was (p : Member → Bool) : Bool := (old.map p).getD true
      s.joinFrame y.1 n m old.isSome ⟨0, was (·.inWin) && inWin, was (·.inInner) && inSpan m s.now (3 * s.window / 4), !r.malformed, false⟩
        false .fill []) s
  s.flowChecks i (x.checks % 8 + 8 * b2n tsBad)

/-! ### The meters of a flow (03 R102) -/

/-- The connections that a flow feeds: its essence of each source that lists it, or, of a free audio flow, its own slots (10 R401). -/
def State.flowConns (s : State) (i : Nat) (v : List Byte) : List (Option (Nat × Nat) × ConnKey) :=
  let c := (s.flow i).cluster
  match s.flowSrcs i with
  | [] => if flowAudio v then [(none, .audioIn c (2 ^ 19 + i))] else []
  | l => l.map (fun y => (some y, if flowAudio v then .audioIn c y.1 else .media c y.1 (if flowVideo v then .video else .anc)))

/-- The count of the frame of a source to which a packet of a flow belongs (03 Table 3.1): that of the running frame with its time stamp, or of the frame that
it begins. An audio connection has no frames; its cells bear the count of the frame in which they come. -/
def State.packetFrame (s : State) (i src : Nat) (v : List Byte) (r : Rtp) : Nat :=
  let rate := s.srcRate src
  match ((s.flow i).frames.find? (fun f => f.ts = r.ts)).bind (fun f => f.nums.find? (fun y => y.1 = src)) with
  | some y => y.2
  | none =>
    if flowAudio v then frameAt rate s.now
    else if flowVideo v then nearestFrame rate (s.now - s.srcTro src)
    else nearestFrame rate (rtpInstant 90000 r.ts s.now)

/-- The cells of a packet pass the meters of the connections that its flow feeds (stage 8). A connection that drops some has lost data in that frame; the packet
goes no further where every one drops some. Answers whether it goes on, and the connections that take it with the frame. -/
def State.flowMeter (s : State) (i : Nat) (v : List Byte) (r : Rtp) : Bool × List (Nat × ConnKey) × State :=
  let cells := ceilDiv r.bytes 240
  let conns := s.flowConns i v
  let (takers, s) := conns.foldl (fun (acc : List (Nat × ConnKey) × State) k =>
    let frame := ((k.1).map (fun y => s.packetFrame i y.1 v r)).getD 0
    let (over_, s) := acc.2.meter k.2 cells 0
    if over_ = 0 then (acc.1 ++ [(frame, k.2)], s)
    else
      let s := s.bump (R.PC_XPR_POLICED (s.flow i).cluster) over_
      (acc.1, match k.1 with
        | some y => s.amendFrame y.1 (fun f => f.member y.2 (fun m => { m with hole := true }))
        | none => s)) ([], s)
  let goes := conns.isEmpty || !takers.isEmpty
  (goes, takers, if goes then s else s.bump (R.IF_POLICED (s.flow i).cluster i) 1)

/-- A packet is formed into the cells of the connections that take it (stage 10). -/
def State.flowCells (s : State) (v : List Byte) (r : Rtp) (takers : List (Nat × ConnKey)) : State :=
  takers.foldl (fun (s : State) k =>
    if flowAudio v then s.sendSlots k.2 (r.bytes / max 1 (wireSample v)) else s.sendCells k.2 k.1 (ceilDiv r.bytes 240)) s

/-! ### The flow filter (06 Table 6.2) -/

/-- A packet failed stage 5 or 7. -/
def State.foreign (s : State) (i : Nat) : State :=
  let x := s.flow i
  (s.setFlow i { x with checks := x.checks ||| 2 }).bump (R.IF_FOREIGN x.cluster i) 1

/-- Stages 9 and 10 (06 R232 to R238): merge, then the frame and its cells. -/
def State.flowMerge (s : State) (i k : Nat) (v : List Byte) (r : Rtp) (takers : List (Nat × ConnKey)) : State :=
  let s := s.expireHoles i
  let x := s.flow i
  let c := x.cluster
  let n := extSeq (if flowEssence v = 0 then 32 else 16) x.high r.seq
  let (verdict, x') := x.merge k n s.now
  let s := s.setFlow i x'
  match verdict with
  | .late d => ((s.bump (R.IF_LATE c i) 1).peak (R.IF_DIFF_PEAK c i) (d.getD 0)).legOther i n v r
  | .duplicate d => (s.peak (R.IF_DIFF_PEAK c i) (d.getD 0)).legOther i n v r
  | .used =>
    let s := s.bump (if k = 0 then R.IF_PKTS_A c i else R.IF_PKTS_B c i) 1
    let s := match x'.arr.find? (fun a => a.1 = n && a.2.1 ≠ k) with
      | some a => s.peak (R.IF_DIFF_PEAK c i) (s.now - a.2.2)
      | none => s
    let s := s.flowCells v r takers
    if flowAudio v then s.audioPacket i v r else (((s.framePacket i n v r).legMeasure i n v r).2).settleFrames i v

/-- Stages 5 to 10 for a packet of a leg (06 R228, R229). A leg of a flow that is not joined is not received (R243). DESIGN CHOICE (log entry 75): where no
leg has an owner, the first owner's packets begin the merge anew. -/
def State.flowPacket (s : State) (i k : Nat) (src : Nat) (rtp : Option Rtp) : State :=
  let x := s.flow i
  let c := x.cluster
  match x.legs[k]?, s.flowIn i with
  | some l, some v =>
    if !x.joined then s
    else if l.ssm && l.saddr ≠ src then s.foreign i
    else match rtp with
      | none => (s.setFlow i { x with checks := x.checks ||| 4 }).bump (R.IF_BAD_PT c i) 1
      | some r =>
        if r.version ≠ 2 || (byteAt v 4 ≠ 0 && byteAt v 4 ≠ r.pt) then
          (s.setFlow i { x with checks := x.checks ||| 4 }).bump (R.IF_BAD_PT c i) 1
        else if l.owner.isSome && l.owner ≠ some (src, r.ssrc) then s.foreign i
        else
          let wasDown := l.down
          let new := x.legs.all (fun l => l.owner.isNone)
          let s := if new then s.flowAbandon i else s
          let x := if new then (s.flow i).clear else x
          let s := s.setFlow i (x.setLeg k (fun l =>
            { l with owner := some (src, r.ssrc), ownerAt := s.up, lastRx := s.up, down := false }))
          let s := if wasDown then s.flowChecks i (s.curChecks i) else s
          let (goes, takers, s) := s.flowMeter i v r
          if goes then s.flowMerge i k v r takers else s
  | _, _ => s

/-- The longest that a best-effort frame is under way: a cell that is missing is declared lost 28 µs after a later one has come (03 R93). DESIGN CHOICE (log entry 101): a
frame leaves the crosspoint 40 µs after its reception, at the next command of a port or audio tick; the spec gives no time. -/
def beFlight : Nat := 40000

/-- The best-effort frames whose cells have all come leave for their ports (03 R120; 07 R283). -/
def State.beArrive (s : State) : State :=
  let (due, rest) := s.xp.beFly.partition (fun x => x.at_ + beFlight ≤ s.now)
  if due = [] then s
  else due.foldl (fun (s : State) x => x.ports.foldl (fun (s : State) p => s.forwardBe p x.frame) s) { s with xp.beFly := rest }

/-- A best-effort frame goes from cluster `c` to the output ports of its BE_FWD record (06 Table 6.12; 07 R281, R283), through the crosspoint as cells of
240 bytes (03 R120). The place in the rotation of its first cell is a free value, since the chip numbers its connection (log entry 2). -/
def State.forwardAll (s : State) (c n : Nat) (f : EthFrame) : State :=
  let v := (((s.recs 0x0144)[n]?).map (·.val)).getD []
  let ports := ((List.range 8).map (fun j => leAt v (24 + 2 * j) 2)).filter (· < 256)
  let cells := ceilDiv f.len 240
  match s.beEnter c cells with
  | (false, s) => s
  | (true, s) =>
    let (from_, s) := s.fresh
    ((ports.map (· / 16)).eraseDups).foldl (fun (s : State) e =>
      match s.beCross e from_ cells with
      | (true, s) => s.beSend c e cells (ports.filter (· / 16 = e)) f
      | (false, s) => s) s

/-- Stages 3 to 10 (06 Table 6.2). -/
def State.flowFilter (s : State) (p : Nat) (f : EthFrame) : State :=
  let miss (s : State) : State := s.bump (R.FLOW_NO_MATCH (p / 16)) 1
  let any (dst : Nat) : State := match s.lookupAny ⟨p, f.vlan, dst, 0⟩ with
    | some n => s.forwardAll (p / 16) n f
    | none => miss s
  match f.body with
  | .udp _ true src dst dport rtp =>
    match s.lookupFlow ⟨p, f.vlan, dst, dport⟩ with
    | some (.leg i k) => s.flowPacket i k src rtp
    | some (.fwd n) => s.forwardAll (p / 16) n f
    | none => any dst
  | .udp _ false _ dst _ _ => any dst
  | .echo _ _ dst => any dst
  | .ip dst => any dst
  | _ => miss s

/-- A control-class frame on an Ethernet port: metered, then answered by the Spindle or taken by the Whorl (06 R221, R241; 07 R286,
R287; 12 R465). -/
def State.control (s : State) (p : Nat) (f : EthFrame) : State :=
  let (good, s) := s.ctrlMeter p f.len
  if !good then s
  else match f.body with
    | .ptp m => s.ptpRx p m
    | .query v6 version group sources => s.membershipQuery p v6 version group sources
    | _ => s.answer p f

/-- What a management port takes (07 R291): SiCP on its UDP port (15 R559), ARP, ND and echo for its own and pair addresses on their VLAN; the rest is
dropped. The meter of R287 is that of an
Ethernet port. -/
def State.mgmtFrame (s : State) (p : Nat) (f : EthFrame) : State :=
  let mine : Bool := match f.body with
    | .arp t => s.toOwn p f (mapped4 t)
    | .nd t => s.toOwn p f t
    | .echo _ _ dst => s.toOwn p f dst
    | .udp _ _ _ dst dport _ => s.toOwn p f dst && dport = s.sicpPort
    | _ => false
  if mine then s.answer p f else s.bump (R.PORT_RX_OTHER p) 1

end Sys2Proof.Machine
end

