-- ==== Sys2Proof/Machine/Sdi.lean ====
section
/-! DEFINITION. The receive side of the coax lanes: states, hunt, formats, checks and the frames they bring (05 R179 to R199). -/

namespace Sys2Proof.Machine

/-- The receive state of a lane (05 Table 5.13). -/
def State.rxState (s : State) (lane : Nat) : Nat := s.get (R.RX_STAT_STATE lane)

/-- What the receiver of a lane holds. -/
def State.rx (s : State) (lane : Nat) : RxLane := lookD lane s.sdi.rx {}

/-- Change what the receiver of a lane holds. -/
def State.setRx (s : State) (lane : Nat) (x : RxLane) : State := { s with sdi.rx := put lane x s.sdi.rx }

/-- The SDI source to which a lane's receive side is bound, with its record and the lane's position (02 R52, R64). -/
def State.rxSource (s : State) (lane : Nat) : Option (List Byte × Nat) :=
  (((s.recs 0x0101).find? (fun r => recKind r.val = 0 && (recLanes r.val).contains lane)).map
    (fun r => (r.val, lane - recBind r.val)))

/-- The SDI_RX record of a source (05 Table 5.10); empty without one, so that every default holds. -/
def State.sdiRx (s : State) (src : Nat) : List Byte := (s.recOf 0x0130 0 2 src).getD []

/-- The lane rates that a lane may try, in descending code order (05 R189). -/
def State.rxRates (s : State) (lane : Nat) : List Nat :=
  let m := match s.rxSource lane with
    | some (v, _) => byteAt (s.sdiRx (leAt v 0 2)) 2
    | none => 0
  [7, 6, 5, 4, 3, 2, 1, 0].filter (fun c => m = 0 || bit m c)

/-- The order of a sweep (05 R189): the rate at which the lane was last RUNNING first, then the others. -/
def State.sweep (s : State) (lane : Nat) : List Nat :=
  let all := s.rxRates lane
  match (s.rx lane).lastRate with
  | some r => if all.contains r then r :: all.filter (· ≠ r) else all
  | none => all

/-- A sweep begins at its first rate. -/
def State.startSweep (s : State) (lane : Nat) : State :=
  let l := s.sweep lane
  s.setRx lane { s.rx lane with trying := l.head?, toTry := l.drop 1, tryAt := s.up }

/-- The measured format of the group or lane of a source: that of every lane while all run and agree, else 0 (05 R190). -/
def State.groupFormat (s : State) (lanes : List Nat) : Nat :=
  match lanes with
  | [] => 0
  | l :: ls =>
    let f := (s.rx l).fmt
    if (l :: ls).all (fun x => s.rxState x = 4 && (s.rx x).fmt = f) then f else 0

/-- FORMAT of every lane of the source follows the group (05 R190). -/
def State.showFormat (s : State) (lanes : List Nat) : State :=
  let f := s.groupFormat lanes
  lanes.foldl (fun s l => s.set (R.RX_STAT_FORMAT l) f) s

/-- A lane takes a receive state (05 Table 5.3): outside RUNNING its measured format is 0, and the group's with it; where no frames are received it has
no payload identifier and no level (Table 5.13). -/
def State.setRxState (s : State) (lane st : Nat) : State :=
  let s := s.set (R.RX_STAT_STATE lane) st
  let s := if st = 4 then s else s.setRx lane { s.rx lane with fmt := 0, matches_ := 0 }
  let s := if 3 ≤ st then s
    else (((s.setRx lane { s.rx lane with link := 0 }).set (R.RX_STAT_LINK lane) 0).set (R.RX_STAT_PID_PRESENT lane) 0).set (R.RX_STAT_LEVEL lane) 0
  match s.rxSource lane with
  | some (v, _) => s.showFormat (recLanes v)
  | none => s

/-- 05 R188, R189: signal energy for 100 µs takes a DARK lane to HUNT. -/
def execSdiSignalPresent (t : Time) (lane : Fin 256) (s : State) : Host.Outcome State Fault Refusal :=
  released t s fun s => if s.rxState lane = 1 then (s.setRxState lane 2).startSweep lane else s

/-- 05 R189: the dwell on one rate ends; the next is tried, and after the last a failed sweep is counted. -/
def execSdiHuntDwellEnd (t : Time) (lane : Fin 256) (s : State) : Host.Outcome State Fault Refusal :=
  released t s fun s =>
    if s.rxState lane = 2 then
      match (s.rx lane).toTry with
      | [] => (s.bump (R.RX_HUNT_SWEEPS lane) 1).startSweep lane
      | r :: l => s.setRx lane { s.rx lane with trying := some r, toTry := l, tryAt := s.up }
    else s

/-- 05 R188: clock recovered at the rate being tried and three EAVs at equal spacing take a lane to FRAMING. -/
def execSdiClockRecovered (t : Time) (lane : Fin 256) (rate : Fin 8) (s : State) : Host.Outcome State Fault Refusal :=
  released t s fun s =>
    if s.rxState lane = 2 && (s.rx lane).trying = some rate.val then
      let s := s.setRx lane { s.rx lane with last := none, trying := none, toTry := [] }
      (s.setRxState lane 3).set (R.RX_STAT_LRATE lane) rate
    else s

/-- 05 R188: eight EAVs missing or the clock lost take a lane to HUNT. -/
def execSdiEavLoss (t : Time) (lane : Fin 256) (s : State) : Host.Outcome State Fault Refusal :=
  released t s fun s =>
    if s.rxState lane = 3 || s.rxState lane = 4 then (s.setRxState lane 2).startSweep lane else s

/-- 05 R188: signal energy absent for 10 µs takes a lane to DARK. -/
def execSdiSignalAbsent (t : Time) (lane : Fin 256) (s : State) : Host.Outcome State Fault Refusal :=
  released t s fun s =>
    if 2 ≤ s.rxState lane && s.rxState lane ≤ 4 then
      (s.setRxState lane 1).setRx lane { s.rx lane with fmt := 0, matches_ := 0, trying := none, toTry := [] }
    else s

/-! ### The measured format -/

/-- The rate code within ±400 ppm of a frame period in picoseconds (05 R190). -/
def rateOfPeriod (p : Nat) : Option Nat :=
  (List.range 13).find? (fun r =>
    let x := p * rateNum r
    let y := rateDen r * 10 ^ 12
    (max x y - min x y) * 1000000 ≤ 400 * y)

/-- The nominal frame rate of a rate code, without the 1.001 (02 Table 2.3). -/
def nominalRate (r : Nat) : Nat := if rateDen r = 1 then rateNum r else rateNum r / 1000

/-- The raster of a 1125-line or 750-line carriage, by grouping, lane rate pair and nominal frame rate, for a progressive
structure; 0 where Table 5.2 has no such carriage (05 R180). -/
def rasterOf (group pair lines n : Nat) : Nat :=
  let low := decide (23 ≤ n && n ≤ 30)
  let mid := decide (47 ≤ n && n ≤ 60)
  let high := decide (100 ≤ n)
  if lines = 750 then (if group = 0 && pair = 0 && 50 ≤ n && n ≤ 60 then 1 else 0)
  else if lines ≠ 1125 then 0
  else if group = 0 then
    if pair = 0 then (if low then 2 else 0)
    else if pair = 1 then (if mid then 2 else 0)
    else if pair = 2 then (if high then 2 else if low then 3 else 0)
    else (if mid then 3 else 0)
  else if group = 1 then (if pair = 0 && mid then 2 else 0)
  else if pair = 0 then (if low then 3 else 0)
  else if pair = 1 then (if mid then 3 else 0)
  else 0

/-- The lane rate code of a carriage of Table 5.2, by grouping, raster and rate code. -/
def lrateOf (group raster rate : Nat) : Nat :=
  let n := nominalRate rate
  let step := if n ≤ 30 then 0 else if n ≤ 60 then 1 else 2
  let pair := if group = 1 || raster = 1 then 0 else if group = 2 then step else if raster = 3 then 2 + step else step
  2 * pair + (if rateDen rate = 1 then 0 else 1)

/-- The SDI destination whose transmit side a lane is (02 R52, R64), by its record. -/
def State.txDest (s : State) (lane : Nat) : Option (List Byte) :=
  ((s.recs 0x0102).find? (fun r => recKind r.val = 0 && (recLanes r.val).contains lane)).map (·.val)

/-- The lane rate code of the transmit side of a lane; 0 where it is unbound (05 Table 5.16). -/
def State.txRate (s : State) (lane : Nat) : Nat :=
  ((s.txDest lane).map (fun v => lrateOf (recGroup v) (fmtRaster (recFormat v)) (fmtRate (recFormat v)))).getD 0

/-- SCAN of a received structure (05 R190): progressive, or at two fields as the identifier states, else as the source's record
where that is interlaced or segmented, else interlaced. -/
def scanOf (fields : Nat) (pid : Option Pid) (recScan : Nat) : Nat :=
  if fields ≠ 2 then 0
  else match pid with
    | some p => if p.good then (if p.psf then 2 else 1) else if recScan = 0 then 1 else recScan
    | none => if recScan = 0 then 1 else recScan

/-- The bit rate of a lane rate pair in units of 10 Mbit/s (05 Table 5.1). -/
def pairRate (pair : Nat) : Nat := if pair = 0 then 1485 else if pair = 1 then 2970 else if pair = 2 then 5940 else 11880

/-- The format of a received frame that matches a carriage of Table 5.2 at the source's grouping (05 R180, R183, R190). The words
of a line follow from the lane rate, the lines and the frame rate. B-DS is not recognised. DESIGN CHOICE (log entry 73): a link of an ST 372 dual link,
whose structure the spec cites and does not give, shows a progressive 1125-line structure at the picture's rate. -/
def carriage (group lrate recScan : Nat) (f : SdiFrame) : Option Nat :=
  match rateOfPeriod f.period with
  | none => none
  | some r =>
    let n := nominalRate r
    let raster := rasterOf group (lrate / 2) f.lines n
    let scan := scanOf f.fields f.pid recScan
    let sizes := decide (f.words * f.lines * n * 10 = pairRate (lrate / 2) * 1000000)
    let parity := decide (lrate % 2 = (if rateDen r = 1 then 0 else 1))
    let scans := scan = 0 || (raster = 2 && group = 0 && lrate / 2 = 0 && (scan = 2 || n = 25 || n = 30))
    if raster = 0 || !sizes || !parity || !scans || (lrate / 2 = 1 && f.level = 3) then none
    else some (raster * 4096 + scan * 1024 + r)

/-- The structure that consecutive frames are compared by (05 R188). The rate is compared by its code. -/
def structOf (f : SdiFrame) : SdiStruct :=
  ⟨f.lines, f.words, f.fields, match rateOfPeriod f.period with | some r => r | none => 16 + f.period⟩

/-! ### A received frame -/

/-- The checks of Table 5.4 that a frame fails, as a mask (05 R193); the audio of a lane that is not read is ignored (R196). -/
def checkMask (f : SdiFrame) (reads skew : Bool) : Nat :=
  let pidBad := match f.pid with
    | none => f.pidDue
    | some p => !p.good || p.contradicts
  b2n (0 < f.crcLines) + 2 * b2n (0 < f.lnLines) + 4 * b2n (0 < f.trsLines) + 8 * b2n f.fieldBad + 16 * b2n pidBad
    + 32 * b2n (f.anc.any (fun a => !a.good)) + 64 * b2n (reads && 0 < f.audCor + f.audUnc) + 128 * b2n skew

/-- The counters of Table 5.4: `first` is the lane whose block counts for a group, `reads` whether this lane's audio and
ancillary packets are read (05 R193, R196). -/
def State.countChecks (s : State) (lane first : Nat) (reads skew : Bool) (f : SdiFrame) (m : Nat) : State :=
  let s := (s.bump (R.RX_CRC_LINES lane) f.crcLines).bump (R.RX_LN_LINES lane) f.lnLines
  let s := (s.bump (R.RX_TRS_LINES lane) f.trsLines).bump (R.RX_FIELD_FRAMES lane) (b2n f.fieldBad)
  let s := (s.bump (R.RX_PID_FRAMES lane) (bits m 4 4)).bump (R.RX_ANC_DROP lane) (f.anc.filter (fun a => !a.good)).length
  let s := s.bump (R.RX_SKEW_FRAMES lane) (b2n skew)
  if reads then
    ((s.bump (R.RX_AUD_COR first) f.audCor).bump (R.RX_AUD_UNC first) f.audUnc).bump (R.RX_AUD_RATE first) f.badRate.length
  else s

/-- CUR and LATCHED, and SDI_CHECK when CUR changes (05 R193, 21 R735). CUR shows the checks of the last whole frame. DESIGN CHOICE (log entry 74): a frame that
fails TRS sets that check in CUR though it is not whole (R192), since CUR could otherwise never show it. -/
def State.showChecks (s : State) (lane m : Nat) (whole : Bool) : State :=
  let old := s.get (R.RX_CHK_CUR lane)
  let cur := if whole then m else old ||| (m &&& 4)
  let s := (s.set (R.RX_CHK_CUR lane) cur).set (R.RX_CHK_LATCHED lane) (s.get (R.RX_CHK_LATCHED lane) ||| m)
  if old = cur then s else s.event (lane / 16) 0 0x0600 (beBytes 1 lane ++ beBytes 1 old ++ beBytes 1 cur)

/-- The packets of a frame that pass on the ANC level (05 R195, R198): sound and not of Table 5.5, and of a multi-link signal or a single-link 6G or 12G signal
(`many`) those of link A or sub-image 1. -/
def State.ancPassing (s : State) (many : Bool) (f : SdiFrame) : List Anc := f.anc.filter (fun a => a.good && (a.link1 || !many) && !s.ancRemoved a)

/-- The position that each lane of a group carries (05 R185): by link number where every lane has one and they are distinct,
else, or with LINK_ORDER, by lane position. -/
def State.assignOf (s : State) (src : Nat) (lanes : List Nat) : List Nat :=
  let links := lanes.map (fun l => (s.rx l).link)
  let byLink := lanes.length ≠ 1 && !bit (byteAt (s.sdiRx src) 3) 1 &&
    links.all (fun k => 1 ≤ k && k ≤ lanes.length) && links.Nodup
  if byLink then links.map (· - 1) else List.range lanes.length

/-- The arrival of the running frame of a source, or the present where a new frame begins. -/
def State.frameArrival (s : State) (src : Nat) : Time :=
  if s.sameFrame src s.now then ((look src s.xp.srcFrames).map (·.arrival)).getD s.now else s.now

/-- SDI_LINK_REASSIGN (05 R185): the assignment in which the group's lanes are read, updated; the lanes whose place changed, by position, underrun in
the frame in which it changes. -/
def State.reassign (s : State) (src : Nat) (lanes : List Nat) : State :=
  let old := lookD src s.sdi.assign (List.range lanes.length)
  let new := s.assignOf src lanes
  let a := s.frameArrival src
  let was := match look src s.sdi.moved with
    | some (b, l) => if b = a then l else []
    | none => []
  let now_ := was ++ (List.range lanes.length).filter (fun i => old.getD i i ≠ new.getD i i && !was.contains i)
  let s := { s with sdi.assign := put src new s.sdi.assign, sdi.moved := put src (a, now_) s.sdi.moved }
  let s := s.ringAmend src (fun sl => { sl with under := sl.under ++ now_.filter (fun i => !sl.under.contains i) })
  s.amendFrame src (fun f => if f.arrival = a then now_.foldl (fun (f : SrcFrame) i => f.member i (fun m => { m with whole := false })) f else f)

/-- Does a lane, by its position in the group, underrun since the assignment changed in the running frame (05 R185)? -/
def State.movedNow (s : State) (src i : Nat) : Bool :=
  (look src s.sdi.moved).any (fun x => x.1 = s.frameArrival src && x.2.contains i)

/-- The lane that carries link A or sub-image 1 of a source (05 R185, R196). -/
def State.linkALane (s : State) (v : List Byte) : Nat :=
  recBind v + ((lookD (leAt v 0 2) s.sdi.assign []).findIdx? (· = 0)).getD 0

/-- A frame in RUNNING (05 R193): another structure than the last takes the lane to FRAMING. Its measured format stands, whatever its payload
identifiers then state (R191, Table 5.9). -/
def State.runningFrame (s : State) (lane : Nat) (v : List Byte) (st : SdiStruct) : Bool × State :=
  let x := s.rx lane
  if x.last = some st then (false, s.showFormat (recLanes v))
  else (true, ((s.setRx lane { x with last := some st, changed := true }).setRxState lane 3).bump (R.RX_FMT_CHG lane) 1)

/-- A frame in FRAMING (05 R193): the second matching frame takes the lane to RUNNING. -/
def State.framingFrame (s : State) (lane lrate : Nat) (st : SdiStruct) (fmt : Option Nat) (whole : Bool) : State :=
  let x := s.rx lane
  let n := if whole && fmt.isSome then (if x.last = some st then x.matches_ + 1 else 1) else 0
  let s := s.setRx lane { x with last := some st, matches_ := n }
  match fmt with
  | some c => if 2 ≤ n then (s.setRx lane { s.rx lane with fmt := c, lastRate := some lrate, changed := false }).setRxState lane 4 else s
  | none => s

/-- The state of a lane after a frame (05 Table 5.3, R190): the frames of one structure counted, RUNNING after two whole ones that
match a carriage, FRAMING when a RUNNING lane's structure differs. Answers whether the lane's structure just differed. -/
def State.frameState (s : State) (lane : Nat) (v : List Byte) (f : SdiFrame) : Bool × State :=
  let lrate := s.get (R.RX_STAT_LRATE lane)
  let fmt := carriage (recGroup v) lrate (fmtScan (recFormat v)) f
  if s.rxState lane = 4 then s.runningFrame lane v (structOf f)
  else (false, s.framingFrame lane lrate (structOf f) fmt (f.trsLines = 0))

/-- The facts of the payload identifier in STAT (05 Table 5.13). -/
def State.showPid (s : State) (lane : Nat) (f : SdiFrame) : State :=
  let ok := match f.pid with | some p => p.good | none => false
  let link := match f.pid with | some p => if p.good && 1 ≤ p.link && p.link ≤ 4 then p.link else 0 | none => 0
  let s := s.setRx lane { s.rx lane with link := link, badRate := f.badRate, nonAudio := f.nonAudio }
  let s := (s.set (R.RX_STAT_PID_PRESENT lane) (b2n ok)).set (R.RX_STAT_LINK lane) link
  s.set (R.RX_STAT_LEVEL lane) (if s.get (R.RX_STAT_LRATE lane) / 2 = 1 && f.level ≤ 2 then f.level else 0)

/-- The slot of a frame that begins with one lane: the lanes still to come count as missing until they arrive. -/
def firstSlot (t : Time) (count lanes i : Nat) (good : Bool) (pic : Pic) (anc : List (Nat × Anc)) (k : Nat) : Slot :=
  { frame := k, arrival := t, under := (List.range lanes).filter (fun j => !(j = i && good)), lost := false, pic := pic, anc := anc, count := count }

/-- The picture of a group by the division of its SDI_RX record (05 R184). -/
def State.lanePic (s : State) (v : List Byte) (f : SdiFrame) : Pic :=
  if recGroup v = 2 && bit (byteAt (s.sdiRx (leAt v 0 2)) 3) 0 then .pic f.sqdCrc f.sqdLuma else .pic f.picCrc f.luma

/-- The frame of a lane joins its source's frame and ring (08 R306, R307; 04 R137; 02 R66). -/
def State.laneFrame (s : State) (src place n : Nat) (v : List Byte) (m : Member) (f : SdiFrame) (anc : List Anc) : State :=
  let lanes := recLanes v
  let pic := s.lanePic v f
  let anc := anc.map (fun a => (m.num, a))
  let opens := !s.sameFrame src s.now
  let s := s.joinFrame src n s.now (!opens) m (opens || place = 0) pic anc
  if opens then s.ringWrite src (s.groupFormat lanes) (firstSlot s.now n lanes.length m.num m.whole pic anc)
  else s.ringAmend src (fun x => { x with
    under := if m.whole then x.under.filter (· ≠ m.num) else if x.under.contains m.num then x.under else x.under ++ [m.num]
    pic := if place = 0 then pic else x.pic
    anc := if place = 0 then anc else x.anc })

/-- The cells of a frame of an SDI source enter the crosspoint (03 R99, R102): of the picture over its active lines, and of the ancillary packets. -/
def State.sdiCells (s : State) (v : List Byte) (n : Nat) (video : Bool) (anc : List Anc) : State :=
  let src := leAt v 0 2
  let c := recBind v / 16
  let rate := fmtRate (recFormat v)
  let cells := ceilDiv (rasterW (fmtRaster (recFormat v)) * rasterH (fmtRaster (recFormat v)) * samplingBits (fmtSampling (recFormat v))) 1920
  let s := if video then s.enterCells (.media c src .video) c n cells (rateDen rate * sec * 24 / (25 * max 1 (rateNum rate))) else s
  let bytes := (anc.map ancBytes).foldl (· + ·) 0
  if bytes = 0 then s else s.enterCells (.media c src .anc) c n (ceilDiv bytes 240) (rateDen rate * sec * 24 / (25 * max 1 (rateNum rate)))

/-- Δ of a source whose lane enters RUNNING (10 R372): its first sample has count ceil(A_n × 48 000) + 24 within the window of A_n, and 24
samples after its arrival outside it. The lane is the source's first. -/
def State.setDelta (s : State) (src : Nat) (a : Time) (inWin : Bool) : State :=
  let rate := s.srcRate src
  let n := frameAt rate a
  let first := if inWin then ceilDiv (n * rateDen rate * 48000) (max 1 (rateNum rate)) else ceilDiv (s.now * 48000) sec
  { s with aud.delta := put src ((first : Int) + 24) s.aud.delta, aud.slipped := drop src s.aud.slipped }

/-- A frame of a bound lane in FRAMING or RUNNING: state, checks, assignment, audio and ancillary data, the window, the ring and
the probes (05 R185, R186, R190 to R199). A frame counts as whole for its destinations where its lane was RUNNING before it and still is (R192). -/
def State.sdiFrame (s : State) (lane : Nat) (f : SdiFrame) (v : List Byte) : State :=
  let src := leAt v 0 2
  let lanes := recLanes v
  let i := lane - recBind v
  let ran := decide (s.rxState lane = 4)
  let (differs, s) := s.frameState lane v f
  let s := (s.showPid lane f).reassign src lanes
  let place := (lookD src s.sdi.assign []).getD i 0
  let skew := decide (orDef (leAt (s.sdiRx src) 4 2) 1000 < s.now - s.frameArrival src)
  let m := checkMask f (place = 0) skew
  let s := (s.countChecks lane (recBind v) (place = 0) skew f m).showChecks lane m (decide (f.trsLines = 0) && !differs)
  let many := decide (lanes.length ≠ 1) || decide (4 ≤ s.get (R.RX_STAT_LRATE lane))
  let passing := if place = 0 then s.ancPassing many f else []
  let anc := ancFit 7680 passing
  let s := s.bump (R.RX_ANC_OVER (recBind v)) (passing.length - anc.length)
  let whole := decide (f.trsLines = 0) && !differs
  let s := s.bump (R.RX_FRAMES lane) (b2n whole)
  let n := nearestFrame (s.srcRate src) s.now
  let a := alignPoint (s.srcRate src) n
  let inWin := decide (a ≤ s.now) && decide (s.now ≤ a + s.window)
  let s := s.set (R.RX_STAT_IN_WINDOW lane) (b2n inWin)
  let s := if !ran && s.rxState lane = 4 && i = 0 then s.setDelta src a inWin else s
  let hit := (look (lane / 16) s.flt.hurt).any (fun x => x % 16 = lane % 16)
  let s := if hit then { s with flt.hurt := drop (lane / 16) s.flt.hurt } else s
  let good := whole && !hit && !skew && !s.movedNow src i && ran && s.rxState lane = 4
  let s := s.laneFrame src place n v ⟨i, inWin, decide (a ≤ s.now) && decide (s.now ≤ a + 3 * s.window / 4), good, false⟩ f anc
  let n := ((look src s.xp.srcFrames).map (·.frame)).getD n
  let s := s.sdiCells v n (i + 1 = lanes.length) anc
  if whole && i + 1 = lanes.length then s.measure false src ((s.lanePic v f).samples (recFormat v)) else s

end Sys2Proof.Machine
end

