-- ==== Sys2Proof/Machine/AudioBase.lean ====
section
/-! DEFINITION. The audio engine's arithmetic, addresses and channels (10 R365 to R368, R374, R377, R384). -/

namespace Sys2Proof.Machine

/-! ### Arithmetic (10 R377, R384) -/

/-- The greatest number below `2 ^ n + lo` from `lo` on at which a falling test still holds. -/
def greatest (p : Nat → Bool) : Nat → Nat → Nat
  | 0, lo => lo
  | n + 1, lo => if p (lo + 2 ^ n) then greatest p n (lo + 2 ^ n) else greatest p n lo

/-- The factor of a gain code in units of 2^−24 (10 Table 10.3): 10^(code / 200) rounded to 24 fractional bits, 0 for mute. -/
def gainFactor (code : Nat) : Nat :=
  if code = 0x8000 then 0
  else
    let c := signed 16 code
    greatest (fun n => (2 * n - 1) ^ 200 * 10 ^ (-c).toNat ≤ 2 ^ 5000 * 10 ^ c.toNat) 29 0

/-- Is a gain code allowed (10 Table 10.3)? -/
def gainOk (code : Nat) : Bool := code = 0x8000 || (let c := signed 16 code; -960 ≤ c && c ≤ 240)

/-- A product of a sample and a fraction with 8 fractional bits kept (10 R377; log entry 35: the bits below are dropped). -/
def fracMul (x : Int) (num : Int) (den : Nat) : Int := x * num * 256 / den

/-- Round a sum in units of 2^−8 to the nearest integer, ties to even (10 R377). -/
def roundEven (z : Int) : Int :=
  let q := z / 256
  let r := z % 256
  if r < 128 then q else if 128 < r then q + 1 else if q % 2 = 0 then q else q + 1

/-- Saturate to 24 bits, and tell whether that changed the value (10 R377). -/
def clip24 (z : Int) : Int × Nat :=
  if z < -8388608 then (-8388608, 1) else if 8388607 < z then (8388607, 1) else (z, 0)

/-- The silence level (10 R374): floor(8 388 607 × 10^(−level / 20)). -/
def silenceLevel (level : Nat) : Nat := greatest (fun n => n ^ 20 * 10 ^ level ≤ 8388607 ^ 20) 23 0

/-! ### Records (10 Tables 10.9 to 10.11) -/

def State.ramp (s : State) : Nat := orDef (leAt (s.rec1 0x0180) 0 2) 48
def State.audMode (s : State) : Nat := byteAt (s.rec1 0x0180) 2
def State.silLevel (s : State) : Nat := silenceLevel (orDef (byteAt (s.rec1 0x0180) 3) 70)
def State.silSamples (s : State) : Nat := orDef (byteAt (s.rec1 0x0180) 4) 10 * 48000
def State.busIdleOff (s : State) : Bool := bit (byteAt (s.rec1 0x0180) 5) 0
def State.audFlow (s : State) (f : Nat) : List Byte := (s.recOf 0x0186 0 2 f).getD []
def State.tdmRec (s : State) (p : Nat) : List Byte := (s.recOf 0x0184 0 1 p).getD []
def State.busRec (s : State) (b : Nat) : List Byte := (s.recOf 0x0182 0 2 b).getD []
def State.busLow (s : State) (b : Nat) : Bool := bit (byteAt (s.busRec b) 2) 0
def State.alineRec (s : State) (l : Nat) : List Byte := (s.recOf 0x0183 0 2 l).getD []

/-- Is a FLOW_IN or FLOW_OUT record that of an audio flow (06 Table 6.7)? -/
def isAudioFlow (v : List Byte) : Bool := byteAt v 2 = 2 || byteAt v 2 = 3

/-- The slots of an audio flow: a 96 kHz channel uses two (02 R49). -/
def flowSlots (v : List Byte) : Nat := if isAudioFlow v then byteAt v 5 * (if bit (byteAt v 6) 5 then 2 else 1) else 0

/-- The samples of a packet at 48 kHz (06 Table 6.5). -/
def packetSamples (v : List Byte) : Nat :=
  match byteAt v 6 % 8 with
  | 0 => 6 | 1 => 12 | 2 => 16 | 3 => 48 | _ => 192

/-- FLOW_OUT record of an egress flow (06 Table 6.10). -/
def State.flowOut (s : State) (i : Nat) : Option (List Byte) := s.recOf 0x0142 0 2 i

/-! ### Addresses (10 Table 10.1) -/

/-- The parts of an address. -/
def adKind (a : Nat) : Nat := bits a 31 28
def adId (a : Nat) : Nat := bits a 27 8
def adFlow (a : Nat) : Nat := bits a 25 13
def adPort (a : Nat) : Nat := bits a 10 8
def adBus (a : Nat) : Nat := bits a 9 0
def adPos (a : Nat) : Nat := bits a 15 10

/-- The slot that an address of kind SLOT, FLOW or TDM names. -/
def adSlot (a : Nat) : Nat := if adKind a = 2 then bits a 4 0 else bits a 6 0

/-- SILENCE. -/
def adSilence : Nat := 0xF0000000

/-- The address of a slot of a source or destination. Both forms of R485 stand for one channel; the form of the even chip is the one
used and shown (log entry 36). -/
def adOfSlot (gid slot : Nat) : Nat := evenForm gid * 256 + slot
def adOfFlow (f slot : Nat) : Nat := 2 ^ 28 + f * 2 ^ 13 + slot
def adOfTdm (p slot : Nat) : Nat := 2 * 2 ^ 28 + p * 256 + slot

/-- The output channels of an egress audio flow, as addresses in slot order: slots of the destination that lists it (02 R54), or its own where none does
(10 R366). -/
def State.flowAddrs (s : State) (v : List Byte) : List Nat :=
  let e := leAt v 0 2
  match (s.recs 0x0102).find? (fun r => recKind r.val ≠ 0 && (recFlows r.val).contains e) with
  | some r =>
    let before := (((recFlows r.val).takeWhile (· ≠ e)).map (fun f => flowSlots ((s.flowOut f).getD []))).foldl (· + ·) 0
    (List.range (flowSlots v)).map (fun j => adOfSlot (s.gid (leAt r.val 0 2)) (before + j))
  | none => (List.range (flowSlots v)).map (fun j => adOfFlow e j)

/-- An address in the one form used. -/
def adForm (a : Nat) : Nat := if adKind a = 0 then adOfSlot (adId a) (adSlot a) else a

/-- The positions of an address: input of a route, output, member of a bus. -/
inductive AdUse where
  | inp | out | member
deriving DecidableEq, Repr

/-- Is an address of a reserved kind, with a non-zero reserved field, or of a kind not allowed in its position (10 R368)? -/
def adBad (u : AdUse) (a : Nat) : Bool :=
  match adKind a with
  | 0 => bit a 7
  | 1 => bits a 27 26 ≠ 0 || bits a 12 7 ≠ 0
  | 2 => bits a 27 11 ≠ 0 || bits a 7 5 ≠ 0
  | 3 => u ≠ .inp || bits a 27 10 ≠ 0
  | 4 => u ≠ .inp || bits a 27 16 ≠ 0
  | 15 => u ≠ .inp || bits a 27 0 ≠ 0
  | _ => true

/-! ### Channels (10 R366) -/

/-- The free audio flows of a record type with the record types that list flows: those that no signal lists. -/
def State.freeFlows (s : State) (flowTyp sigTyp : Nat) : List (List Byte) :=
  let used := (s.recs sigTyp).flatMap (fun r => recFlows r.val)
  let l := ((s.recs flowTyp).map (·.val)).filter (fun v => isAudioFlow v && !used.contains (leAt v 0 2))
  sortBy (fun a b => leAt a 0 2 ≤ leAt b 0 2) l

/-- Signals of a record type in ascending index. -/
def State.signals (s : State) (typ : Nat) : List (List Byte) :=
  sortBy (fun a b => leAt a 0 2 ≤ leAt b 0 2) ((s.recs typ).map (·.val))

/-- The addresses of the slots of signals, free flows and TDM ports, in the order of R366. -/
def State.channels (s : State) (sigTyp flowTyp tdmByte : Nat) : List Nat :=
  (s.signals sigTyp).flatMap (fun v => (List.range (recSlots v)).map (fun j => adOfSlot (s.gid (leAt v 0 2)) j))
    ++ (s.freeFlows flowTyp sigTyp).flatMap (fun v => (List.range (flowSlots v)).map (fun j => adOfFlow (leAt v 0 2) j))
    ++ (List.range 8).flatMap (fun p => (List.range (byteAt (s.tdmRec p) tdmByte)).map (fun j => adOfTdm p j))

/-- The addresses of IC0 upward. -/
def State.inAddrs (s : State) : List Nat := s.channels 0x0101 0x0141 3

/-- The addresses of OC0 upward. -/
def State.outAddrs (s : State) : List Nat := s.channels 0x0102 0x0142 4

/-- The IC or OC number of an address. DESIGN CHOICE (log entry 108): a FLOW address names a slot of a flow only where no SOURCE or DESTINATION record lists the flow; 10 R368 is
silent, and the slots of a listed flow are those of its source or destination. -/
def placeOf (l : List Nat) (a : Nat) : Option Nat := l.findIdx? (· = adForm a)

/-- Does an input address name nothing that this chip has (10 R368)? A bus always exists. -/
def State.noInput (s : State) (a : Nat) : Bool := adKind a ≤ 2 && (placeOf s.inAddrs a).isNone

/-- Where an input channel gets its samples. -/
inductive Feed where
  | sdi (src slot : Nat)
  | flow (flow slot : Nat)
  | tdm (port slot : Nat)
  | head (entry : Nat)
  | none
deriving DecidableEq, Repr

/-- The flow and slot within it of slot `j` of a list of flows (02 R54). -/
def State.flowSlot (s : State) : List Nat → Nat → Feed
  | [], _ => .none
  | f :: l, j =>
    let n := flowSlots ((s.flowIn f).getD [])
    if j < n then .flow f j else s.flowSlot l (j - n)

/-- Where a channel of an address gets its samples. Slot j of a head source takes the input of entry j (11 R412). -/
def State.feed (s : State) (a : Nat) : Feed :=
  match adKind a with
  | 0 =>
    let src := indexOfId (adId a)
    match s.srcRec src with
    | some v =>
      match recKind v with
      | 0 => .sdi src (adSlot a)
      | 1 => s.flowSlot (recFlows v) (adSlot a)
      | 2 => s.flowSlot (recFlows v) (adSlot a)
      | 4 => .head (leAt ((s.recOf 0x0190 0 1 (recBind v)).getD []) (16 + 4 * adSlot a) 4)
      | _ => .none
    | none => .none
  | 1 => .flow (adFlow a) (adSlot a)
  | 2 => .tdm (adPort a) (adSlot a)
  | _ => .none

/-- The channel at the end of a chain of head slots. -/
def State.baseAddr (s : State) : Nat → Nat → Nat
  | 0, a => a
  | n + 1, a => match s.feed a with
    | .head e => s.baseAddr n e
    | _ => a

/-- Is an address a low-delay input (10 R380)? -/
def State.lowInput (s : State) (a : Nat) : Bool :=
  match s.feed a with
  | .tdm _ _ => true
  | .flow f _ => bit (byteAt (s.audFlow f) 2) 0
  | _ => false

/-- Is an output address low-delay: a TDM slot, or a slot of an egress flow with a packet time of 125 µs (10 R395)? -/
def State.lowOutput (s : State) (a : Nat) : Bool :=
  match adKind a with
  | 1 => (s.flowOut (adFlow a)).any (fun v => packetSamples v = 6)
  | 2 => true
  | _ => false

/-- D_in of a flow (10 R370). -/
def State.inDelay (s : State) (f : Nat) : Nat :=
  let v := s.audFlow f
  if leAt v 4 2 ≠ 0 then leAt v 4 2
  else if bit (byteAt v 2) 0 then 12
  else packetSamples ((s.flowIn f).getD []) + 48

/-! ### State access -/

def State.inCh (s : State) (i : Nat) : InCh := lookD i s.aud.ins {}
def State.setIn (s : State) (i : Nat) (c : InCh) : State := { s with aud.ins := put i c s.aud.ins }
def State.outCh (s : State) (o : Nat) : OutCh := lookD o s.aud.outs {}
def State.setOut (s : State) (o : Nat) (c : OutCh) : State := { s with aud.outs := put o c s.aud.outs }
def State.abus (s : State) (b : Nat) : ABus := lookD b s.aud.buses {}
def State.setBus (s : State) (b : Nat) (c : ABus) : State := { s with aud.buses := put b c s.aud.buses }

/-- The sample count of an instant: the latest count at or before it (10 R363). -/
def countAt (t : Time) : Nat := t * 48000 / sec

/-- The first count at or after an instant: ceil(A × 48 000) (10 R364). An instant is stored at the first whole nanosecond after it (02
R808), so the exact instant lies less than a nanosecond before. -/
def countFrom (t : Time) : Nat := if t = 0 then 0 else (t - 1) * 48000 / sec + 1

/-- The non-audio bit of an input channel: that of the channel status on the lane that carries link A, or of the AM824 samples, which comes with each sample (05
R196, R197, 06 R248). A head's slot has that of its entry's input. -/
def State.nonAudio (s : State) (a : Nat) : Bool := (placeOf s.inAddrs (s.baseAddr 16 a)).any (fun i => (s.inCh i).non)

/-! ### Sources by their number in ConnKey -/

/-- How a source is named: by its index, or by 2^20 plus its global ID in the even form where it lies on another pair. -/
def State.srcKey (s : State) (gid : Nat) : Nat := if s.ours gid then indexOfId gid else 2 ^ 20 + evenForm gid

/-- Does a source lie on another pair? -/
def isFar (k : Nat) : Bool := 2 ^ 20 ≤ k

/-- The global ID of a source, in the even form (13 R485). -/
def State.keyGid (s : State) (k : Nat) : Nat := if isFar k then k - 2 ^ 20 else evenForm (s.gid k)

/-- A field of a source's record, or what the chip knows of a source on another pair (log entry 40). -/
def State.keyKind (s : State) (k : Nat) : Nat :=
  if isFar k then Config.farSource (k - 2 ^ 20) 0 else ((s.srcRec k).map recKind).getD 0
def State.keyFormat (s : State) (k : Nat) : Nat :=
  if isFar k then Config.farSource (k - 2 ^ 20) 1 else ((s.srcRec k).map recFormat).getD 0
def State.keySlots (s : State) (k : Nat) : Nat :=
  if isFar k then Config.farSource (k - 2 ^ 20) 2 else ((s.srcRec k).map recSlots).getD 0

/-- The level that a flow carries. -/
def flowLevel (v : List Byte) : Level := if flowVideo v then .video else if flowAudio v then .audio else .anc

/-- The cluster of a flow's legs (06 R218). -/
def flowCluster (v : List Byte) : Nat := leAt v 24 2 / 16

/-- The flows of a source's record with their FLOW_IN records. -/
def State.keyFlows (s : State) (k : Nat) : List (List Byte) :=
  if isFar k then [] else (((s.srcRec k).map recFlows).getD []).filterMap s.flowIn

/-- MAXRATE of an ST 2110-22 source, in Mbit/s. -/
def State.keyMax (s : State) (k : Nat) : Nat :=
  if isFar k then Config.farSource (k - 2 ^ 20) 3
  else (((s.keyFlows k).find? (fun v => flowEssence v = 1)).map (fun v => leAt v 12 4)).getD 0

/-- PARAM of an ST 2110-22 source (06 Table 6.9). -/
def State.keyParam (s : State) (k : Nat) : Nat :=
  if isFar k then Config.farSource (k - 2 ^ 20) 7
  else (((s.keyFlows k).find? (fun v => flowEssence v = 1)).map (fun v => leAt v 16 8)).getD 0

/-- Does a source have an ancillary essence (08 R305)? -/
def State.keyAnc (s : State) (k : Nat) : Bool :=
  if isFar k then Config.farSource (k - 2 ^ 20) 4 ≠ 0
  else s.keyKind k = 0 && (s.srcRec k).isSome || (s.keyFlows k).any (fun v => flowEssence v = 4)

/-- The port cluster of a destination: that of its lanes, or of the legs of its flows (04 R133, R134). -/
def State.dstCluster (s : State) (dest : Nat) : Nat :=
  match s.dstRec dest with
  | none => 16
  | some v =>
    if recKind v = 0 then recBind v / 16
    else ((((recFlows v).filterMap s.flowOut).head?).map (fun f => leAt f 32 2 / 16)).getD 16

/-- The slots of a destination. -/
def State.dstSlots (s : State) (dest : Nat) : Nat := ((s.dstRec dest).map recSlots).getD 0

end Sys2Proof.Machine
end

