-- ==== Sys2Proof/Machine/Egress.lean ====
section
/-! DEFINITION. The legs of egress flows: their packets, the sides that emit them and what the ports count of them (06 R245, R251 to R254; 07
R276, R290). -/

namespace Sys2Proof.Machine

/-- The wire bytes of one frame of an ST 2110-20 leg besides the overhead of its packets, and its packets (06 R245, R258). -/
def videoBytes (format pkt : Nat) : Nat × Nat :=
  let fields := if fmtScan format = 0 then 1 else 2
  let line := rasterW (fmtRaster format) * samplingBits (fmtSampling format) / 8
  let lines := rasterH (fmtRaster format) / fields
  let packets := ceilDiv (line * lines) pkt
  let crossing := ((List.range (lines - 1)).filter (fun m => (m + 1) * line % pkt ≠ 0)).length
  (fields * (line * lines + 8 * packets + 6 * crossing), fields * packets)

/-- The legs of an egress flow. -/
def egressLegs (v : List Byte) : List (List Byte) := (List.range (1 + byteAt v 3 % 2)).map (fun i => (v.drop (32 + 56 * i)).take 56)

/-- The sides on which a leg is emitted, as a mask (06 R253). -/
def legSides (v : List Byte) (i : Nat) (leg : List Byte) : Nat :=
  let m := byteAt leg 8 % 4
  if m ≠ 0 then m else if byteAt v 3 % 2 = 0 then 3 else if i = 0 then 1 else 2

/-- The octets of a packet of a leg besides its payload and payload header, without preamble and gap (06 R258). -/
def legHead (leg : List Byte) : Nat :=
  12 + 8 + (if isMapped (beAt leg 40 16) then 20 else 40) + 18 + (if bit (leAt leg 2 2) 15 then 4 else 0)

/-- The legs of a flow that this chip emits, with their places (06 R253; log entry 42). -/
def State.emitted (s : State) (v : List Byte) : List (List Byte × Nat) :=
  (egressLegs v).zipIdx.filter (fun x => bit (legSides v x.2 x.1) (b2n s.dbl.side) && s.portKind (leAt x.1 0 2) = 1)

/-- The cluster of an egress flow (04 R134). -/
def egressCluster (v : List Byte) : Nat := leAt v 32 2 / 16

/-- The destination MAC of a leg (06 R251): the group MAC of RFC 1112 or RFC 2464 of a multicast address, else the leg's DMAC. -/
def legDmac (leg : List Byte) : Nat :=
  let d := beAt leg 40 16
  if isMapped d then (if d / 2 ^ 28 % 16 = 14 then 0x01005E000000 + d % 2 ^ 23 else beAt leg 10 6)
  else if d / 2 ^ 120 = 255 then 0x333300000000 + d % 2 ^ 32 else beAt leg 10 6

/-- The source MAC of a leg (06 R252): its SMAC, or 02-49, the lower chip number of the pair, 00 and the E-number of its port. -/
def State.legSmac (s : State) (leg : List Byte) : Nat :=
  if beAt leg 16 6 ≠ 0 then beAt leg 16 6
  else 0x0249 * 2 ^ 32 + 2 * s.pair % 1024 * 2 ^ 16 + leAt leg 0 2 % 256

/-- The headers of a leg's packets, every field from the record (04 R155; 06 R251, R252). The tag's TCI holds PCP and VID. -/
def State.legHeader (s : State) (v leg : List Byte) : LegHead :=
  let vlan := leAt leg 2 2
  { port := leAt leg 0 2, dmac := legDmac leg, smac := s.legSmac leg
    tci := if bit vlan 15 then some (bits vlan 14 12 * 2 ^ 13 + bits vlan 11 0) else none
    v6 := !isMapped (beAt leg 40 16), dscp := byteAt v 7 % 64, ttl := orDef (byteAt leg 9) 64
    saddr := beAt leg 24 16, daddr := beAt leg 40 16, sport := leAt leg 4 2, dport := leAt leg 6 2
    pt := byteAt v 4 % 128, ssrc := leAt v 8 4, v4 := if isMapped (beAt leg 40 16) then some (0, true) else none, checksum := true }

/-- Packets of a flow that leave together: the sequence number of the first, how many there are and how many of those are withheld (03 R94), the octets of
payload and payload header of those sent, the RTP time stamp, whether the last has the marker bit, what they carry, and the instant from which they leave
where they are paced (04 R141; 06 R255, R257). -/
structure Batch where
  first : Nat
  count : Nat
  withheld : Nat := 0
  octets : Nat
  stamp : Nat
  marker : Bool
  load : RtpLoad
  leaves : Option Time := none
deriving DecidableEq, Repr

/-- Packets leave on each leg that this chip emits; a port that cannot send discards them, and their numbers are missing there (07 R276; 04 R160). -/
def State.emitPkts (s : State) (v : List Byte) (b : Batch) : State :=
  let legs := s.emitted v
  let n := b.count - b.withheld
  let s := legs.foldl (fun (s : State) (x : List Byte × Nat) =>
    let p := leAt x.1 0 2
    if s.canSend p then
      ((s.bump (R.PORT_TX_FRAMES p) n).bump64 (R.PORT_TX_OCTETS_LO p) (b.octets + n * legHead x.1)).emit
        (.rtp (leAt v 0 2) x.2 (s.legHeader v x.1) b.first b.count b.stamp b.marker b.load b.leaves)
    else s.bump (R.PORT_TX_DISCARD p) n) s
  s.bump (R.EF_PKTS (egressCluster v) (leAt v 0 2)) (n * legs.length)

/-! ### Quiet or emitting (06 R254; 14 Table 14.2, R540) -/

/-- May an output emit from an instant on, by the Whorl and the chip's role? `live` says that it emits now, `placed` that the path of each of its levels is
in place (14 Table 14.2). -/
def State.mayEmit (s : State) (live placed : Bool) (a : Time) : Bool :=
  s.whl.ready && s.whl.quietUntil ≤ a && (match s.dbl.role with
    | .off => false
    | .active => true
    | .solo => true
    | .standby => live || placed
    | .joining => s.dbl.snapped && (live || placed)
    | .detached => live && s.dbl.quietAfter.any (a < ·)
    | .yielded => live && s.dbl.quietAfter.any (a < ·))

/-- The registers of an egress flow follow its quiet (06 Table 6.18): TYPE is 3 while no leg of it is emitted (R239). -/
def State.flowQuiet (s : State) (v : List Byte) (live : Bool) : State :=
  let (c, e) := (egressCluster v, leAt v 0 2)
  let legs := (s.emitted v).map (·.2)
  let s := s.set (R.EF_QUIET c e) (b2n (!live))
  let s := if live && legs ≠ [] then s else s.set (R.EF_TYPE c e) 3
  (s.set (R.EF_EMIT_A c e) (b2n (live && legs.contains 0))).set (R.EF_EMIT_B c e) (b2n (live && legs.contains 1))

end Sys2Proof.Machine
end

