-- ==== Sys2Proof/Machine/Members.lean ====
section
/-! DEFINITION. The members of an essence group that a destination takes, the source frame that lies in a destination frame on the direct path, and the
members that underrun in it (02 R66 to R69; 04 R137, Tables 4.8, 4.11). -/

namespace Sys2Proof.Machine

/-- Is a member of a source, by its number, one that its samples judge: an audio flow, or the AUDIO level of a source on another pair? -/
def State.audioNum (s : State) (k num : Nat) : Bool :=
  if isFar k then num = 1 else (s.srcRec k).any (fun v => recKind v ≠ 0 && ((recFlows v)[num]?).any (fun f => (s.flowIn f).any (fun w => flowAudio w)))

/-- The members of a source that a level takes: lanes, flows by their place, none for stills and heads. Of a source on another pair each level is one member,
VIDEO 0, AUDIO 1 and ANC 2, since its frames come level by level (13 R510; log entry 40). -/
def State.memberNums (s : State) (k : Nat) (lv : Level) : List Nat :=
  if isFar k then
    match lv with
    | .video => if fmtRaster (s.keyFormat k) = 0 then [] else [0]
    | .audio => if s.keySlots k = 0 then [] else [1]
    | .anc => [2]
  else match s.srcRec k with
    | none => []
    | some v =>
      match recKind v with
      | 0 =>
        let n := (recLanes v).length
        if lv = .video then List.range n else (List.range n).filter (fun i => (lookD k s.sdi.assign []).getD i i = 0)
      | 1 => ((recFlows v).zipIdx.filter (fun f => (s.flowIn f.1).any (fun w => flowLevel w = lv))).map (·.2)
      | 2 => ((recFlows v).zipIdx.filter (fun f => (s.flowIn f.1).any (fun w => flowLevel w = lv))).map (·.2)
      | _ => []

/-- The underrun policy of a source is LOCKED (02 R67, Table 2.10); that of a source on another pair is a fact that the spec brings no message for (log entry
40). -/
def State.locked (s : State) (k : Nat) : Bool :=
  if isFar k then Config.farSource (k - 2 ^ 20) 6 ≠ 0
  else (s.srcRec k).any (fun v => let p := bits (byteAt v 3) 3 2; p = 1 || (p = 0 && recGroup v ≠ 0))

/-- The members that a destination takes from a source (02 R67). -/
def State.takenNums (s : State) (d : DstSt) (k : Nat) : List Nat :=
  let of_ (y : LevelSt) (lv : Level) : List Nat := if y.src = some k then s.memberNums k lv else []
  (of_ d.video .video ++ of_ d.audio .audio ++ of_ d.anc .anc).eraseDups

/-- The frames of a source are held under its name; those of a still on another pair, which come at the rate of each reader, with the rate (13 R510). -/
def State.frameKey (s : State) (k rate : Nat) : Nat := if isFar k && s.keyKind k = 3 then k + 2 ^ 40 * (rate + 1) else k

/-- The source frame that lies in destination frame `n` on the direct path. -/
def State.directFrame (s : State) (k rate n : Nat) : Option SrcFrame :=
  if isFar k && s.keyKind k = 3 then s.frameOf (s.frameKey k rate) n else s.frameOf k (nearestFrame (s.srcRate k) (alignPoint rate n))

/-- Does a member underrun in a frame on the direct path (02 R66; 04 Table 4.8): an audio flow by the samples that it lacked (DEDUCED, log entry 80), any other
member outside the window, or with data that were not whole when the frame began to leave? A hole that showed only later is no reason (06 R236). -/
def State.missing (s : State) (d : DstSt) (k : Nat) (f : Option SrcFrame) (num : Nat) : Bool :=
  if s.audioNum k num then d.audBad.contains num
  else match (f.map (·.members)).bind (fun l => l.find? (fun m => m.num = num)) with
    | some m => !m.inWin || !m.whole
    | none => true

/-- The members of a level that carry fill in a frame on the direct path (02 Table 2.5). -/
def State.directBad (s : State) (d : DstSt) (k : Nat) (lv : Level) (f : Option SrcFrame) : List Nat :=
  let mine := s.memberNums k lv
  if s.locked k && (s.takenNums d k).any (s.missing d k f) then mine else mine.filter (s.missing d k f)

/-- The audio members of a source, flows or the level of a source on another pair, that lacked a sample at a count from `from_` on (02 R66; 06 R235). -/
def State.audioBad (s : State) (k from_ : Nat) : List Nat :=
  if isFar k then
    if (List.range (s.keySlots k)).any (fun j => match look (adOfSlot (s.keyGid k) j) s.aud.far with
      | some c => c.missAt.any (from_ ≤ ·)
      | none => true) then s.memberNums k .audio
    else []
  else (s.memberNums k .audio).filter (fun num => s.audioNum k num &&
    (s.srcRec k).any (fun v => s.inAddrs.zipIdx.any (fun x =>
      (match s.feed x.1 with
        | .flow g _ => (recFlows v)[num]? = some g
        | _ => false) && (s.inCh x.2).missAt.any (from_ ≤ ·))))

/-- TRO of a source's switching window: 0 for SDI sources (04 R137). -/
def State.keyTro (s : State) (k : Nat) : Nat :=
  if s.keyKind k = 0 || fmtRaster (s.keyFormat k) = 0 then 0 else Config.tro (s.keyFormat k)

/-- The end of the switching window of destination frame `n` for a source: what has not come by then underruns (04 R137). -/
def State.windowEnd (s : State) (k rate n : Nat) : Time := alignPoint rate n + s.keyTro k + s.window

/-- The member of source `k` that brings the samples of an input address of its slots. -/
def State.slotMember (s : State) (k a : Nat) : Nat :=
  if isFar k then 1
  else match s.srcRec k with
    | none => 0
    | some v => match s.feed a with
      | .flow g _ => ((recFlows v).findIdx? (· = g)).getD 0
      | _ => s.linkALane v - recBind v

/-- Does the output channel take a slot of source `k`, of a member that a test picks? -/
def State.takesFrom (s : State) (k : Nat) (c : OutCh) (p : Nat → Bool) : Bool :=
  adKind c.sel = 0 && adId c.sel = s.keyGid k && p (s.slotMember k c.sel)

/-- The audio members of a destination that carry fill in its running frame (02 Table 2.5): those in underrun on the direct path, and those of a source whose
picture is fill on a bobbin path for an underrun. -/
def State.audioFills (s : State) (dest : Nat) (d : DstSt) (k : Nat) : List Nat :=
  if !d.audio.bobbin then s.directBad d k .audio (s.directFrame k (s.dstRate dest) d.frame)
  else if d.video.src = some k && d.v.car = .fill && !d.under.isEmpty then s.memberNums k .audio
  else []

end Sys2Proof.Machine
end

