-- ==== Sys2Proof/Machine/Audio.lean ====
section
/-! DEFINITION. The audio engine: its ticks, inputs, buses, outputs, flips, TDM ports and reset (10). -/

namespace Sys2Proof.Machine

/-! ### Inputs (10 R370 to R374) -/

/-- A sample scaled by n / d. -/
def scaled (x : Int) (n d : Nat) : Int := roundEven (fracMul x n (max d 1))

/-- One count of an input channel (10 R371): `up` and `down` are the lengths of its ramps. After 48 missing samples the ramp to zero begins, and the gap is
to be counted. Answers the channel, its sample and whether a sample was present. Non-audio samples pass without a ramp (R387). -/
def InCh.next (c : InCh) (up down k : Nat) : InCh × Int × Bool :=
  match look k c.placed with
  | some (v, non) =>
    let c := { c with placed := drop k c.placed, last := v, non := non, miss := 0 }
    let done : Option Nat := match c.ramp with
      | some (true, n) => some n
      | some (false, _) => some 0
      | none => if c.down then some 0 else none
    match done with
    | some n =>
      if c.non then ({ c with ramp := none, down := false }, v, true)
      else ({ c with ramp := if n + 1 < up then some (true, n + 1) else none, down := false }, scaled v (n + 1) up, true)
    | none => (c, v, true)
  | none =>
    let m := c.miss + 1
    let begins := decide (m = 49) && !c.down && !c.ramp.any (fun r => !r.1)
    let c := { c with miss := m, gap := c.gap || decide (m = 48), missAt := some k, ramp := if begins then some (false, 0) else c.ramp }
    match c.ramp with
    | some (false, n) =>
      ({ c with ramp := if n + 1 < down then some (false, n + 1) else none, down := down ≤ n + 1 },
        if c.non then 0 else scaled c.last (down - (n + 1)) down, false)
    | some (true, n) => ({ c with ramp := if n + 1 < up then some (true, n + 1) else none }, scaled c.last (n + 1) up, false)
    | none => (c, if c.down then 0 else c.last, false)

/-- A sample with the channel's non-audio bit joins the history and the detectors' runs (10 R374). -/
def InCh.note (c : InCh) (level : Nat) (v : Int) : InCh :=
  { c with
    hist := (v :: c.hist).take 64
    nons := (c.non :: c.nons).take 64
    zeros := if v = 0 then min 4812 (c.zeros + 1) else 0
    quiet := if v.natAbs < level then c.quiet + 1 else 0 }

/-- The crossfade of a slipped source (10 R372): the sample of the old alignment at count k stands at count k + d of the new one, among those kept for the
crossfade. -/
def InCh.oldSample (c : InCh) (k : Nat) (d : Int) : Int := lookD ((k : Int) + d).toNat c.trail c.last

/-- AUDIO_PROBE of a channel whose flags changed, when an APROBE record names it (21 R735). -/
def State.audioProbe (s : State) (a : Nat) (out : Bool) (silent zero : Bool) : State :=
  let named := (s.recs 0x0229).any (fun r => (List.range (leAt r.val 0 2)).any (fun i =>
    adForm (leAt r.val (4 + 8 * i) 4) = a && bit (byteAt r.val (8 + 8 * i)) 0 = out))
  if named then s.event 32 0 0x0603 (beBytes 4 a ++ beBytes 1 (b2n out) ++ beBytes 1 (b2n silent + 2 * b2n zero)) else s

/-- The flags and PEAK of an input channel (10 Table 10.17); NONAUDIO_MIX counts a rise of the bit in each bus of the channel (R378). -/
def State.inFlags (s : State) (i a : Nat) (c : InCh) (present : Bool) : State :=
  let silent := decide (s.silSamples ≤ c.quiet)
  let zero := decide (4800 ≤ c.zeros)
  let was := (s.has (R.AUD_IN_SILENT i), s.has (R.AUD_IN_ZERO i))
  let s := ((s.set (R.AUD_IN_SILENT i) (b2n silent)).set (R.AUD_IN_ZERO i) (b2n zero)).set (R.AUD_IN_PRESENT i) (b2n present)
  let non := s.nonAudio a
  let rises := non && !s.has (R.AUD_IN_NONAUDIO i)
  let uses := (s.aud.buses.filter (fun b => b.2.members.any (fun m => m.1 = a))).length
  let s := (s.bump R.AUD_NONAUDIO_MIX (if rises then uses else 0)).set (R.AUD_IN_NONAUDIO i) (b2n non)
  let s := s.peak (R.AUD_IN_PEAK i) ((c.hist.take 6).foldl (fun m v => max m v.natAbs) 0)
  if was = (silent, zero) then s else s.audioProbe a false silent zero

/-- The slip of the source of a channel, if one is under way: the shift and the samples done. -/
def State.slipOf (s : State) (a : Nat) : Option (Int × Nat) :=
  match s.feed a with
  | .sdi src _ => look src s.aud.slipped
  | _ => none

/-- The six counts from `k0` of an input channel that has samples of its own (10 Table 10.2, stages 1 and 2). -/
def State.inTick (s : State) (i a k0 : Nat) : State :=
  let up := s.ramp
  let down := match s.feed a with
    | .tdm _ _ => min up 48
    | _ => up
  let level := s.silLevel
  let slip := s.slipOf a
  let r := (List.range 6).foldl (fun (p : InCh × Bool) j =>
    let (c, v, here) := p.1.next up down (k0 + j)
    let v := match slip with
      | some (d, n) =>
        if n + j < up && !c.non then roundEven (fracMul (p.1.oldSample (k0 + j) d) (up - (n + j + 1) : Nat) up + fracMul v (n + j + 1 : Nat) up)
        else v
      | none => v
    (c.note level v, here)) (s.inCh i, false)
  let c := { r.1 with
    gap := r.1.gap && (match s.feed a with
      | .tdm _ _ => false
      | _ => true)
    trail := if slip.any (fun x => x.2 + 6 < up) then r.1.trail else [] }
  (s.setIn i c).inFlags i a c r.2

/-- A head's slot carries the samples of its entry's input with no latency (11 R412). -/
def State.headTick (s : State) (i a : Nat) : State :=
  let b := s.baseAddr 16 a
  let l := match placeOf s.inAddrs b with
    | some j => ((s.inCh j).hist.zip (s.inCh j).nons).take 6
    | none => List.replicate 6 (0, false)
  let level := s.silLevel
  let c := l.reverse.foldl (fun (c : InCh) (x : Int × Bool) => { c with non := x.2 }.note level x.1) (s.inCh i)
  let s := s.setIn i c
  s.inFlags i a c (match placeOf s.inAddrs b with
    | some j => s.has (R.AUD_IN_PRESENT j)
    | none => true)

/-- Samples of a slot placed in turn from count `k0`, none of them at a count that is past: an uncorrectable one is the last good sample of its slot (05
R195), the first `skip` are lost with their cell (03 R94), and those after the first `bad` carry silence. `mk` is what a sample is kept as. -/
def placeRun {α : Type} (mk : Int → α) (skip k0 : Nat) (now_ : Nat) (bad : Option Nat) : List (Option Int) → Int → List (Nat × α) → List (Nat × α)
  | [], _, m => m
  | x :: l, last, m =>
    let v := if bad = some 0 then 0 else x.getD last
    placeRun mk (skip - 1) (k0 + 1) now_ (bad.map (· - 1)) l v (if 0 < skip || k0 < now_ then m else put k0 (mk v) m)

/-- Sample times of a connection of `slots` slots that a lost cell holds: 60 samples, interleaved over the slots (03 Table 3.2). -/
def cellSpan (slots : Nat) : Nat := ceilDiv 60 (max 1 slots)

/-- Was a cell of an audio connection lost on its way to an island since the last tick (03 R93, R94)? -/
def State.slotsLost (s : State) (isl : Nat) (k : ConnKey → Bool) : Bool :=
  s.xp.lostMarks.any (fun m => m.isl = isl && k m.key && s.aud.count ≤ countAt m.at_)

/-- The de-embedded samples of an SDI source cross to the engine and are placed at i + Δ with the non-audio bit of their channel (10 R372; 05 R197); slots of a
group that carries silence are 0, from the packet that changes its rate on (R211), and a source whose lane of link A is not RUNNING gives none. Their cells pass the meter of the connection (03 R102), and reach the
engine only while it is a target (R96). -/
def State.placeSdi (s : State) (x : Nat × Nat × List (List (Option Int))) : State :=
  match s.srcRec x.1, look x.1 s.aud.delta with
  | some v, some d =>
    let lane := s.linkALane v
    if s.get (R.RX_STAT_STATE lane) ≠ 4 then s
    else
      let bad := (s.rx lane).badRate
      let addrs := s.inAddrs
      let key : ConnKey := .audioIn (lane / 16) x.1
      let s := s.enterSlots key (lane / 16) (total ((x.2.2.take (recSlots v)).map List.length)) 0
      let skip := if !s.hasTarget (· = key) 24 then 2 ^ 32 else if s.slotsLost 32 (· = key) then cellSpan (recSlots v) else 0
      (List.range (min (recSlots v) x.2.2.length)).foldl (fun s j =>
        match placeOf addrs (adOfSlot (s.gid x.1) j) with
        | none => s
        | some i =>
          let c := s.inCh i
          let k : Int := (x.2.1 : Int) + d
          let last := match c.placed.getLast? with
            | some y => y.2.1
            | none => c.last
          let l := (x.2.2.getD j []).drop (-k).toNat
          let mute := (look (j / 4 + 1) bad).map (fun n => n - (x.2.1 + (-k).toNat))
          let non := (s.rx lane).nonAudio.contains j
          s.setIn i { c with
            placed := placeRun (fun v => (v, non)) skip k.toNat s.aud.count mute l last c.placed
            trail := if (look x.1 s.aud.slipped).isSome then placeRun id skip k.toNat 0 mute l last c.trail else [] }) s
  | _, _ => s

/-- 10 R370: an IP input sample is placed at its media count, at 48 kHz, plus D_in, or dropped as late or early. -/
def execAudioSampleArrival (t : Time) (flow : Fin 8192) (slot count : Nat) (v : Int) (non : Bool) (s : State) :
    Host.Outcome State Fault Refusal :=
  released t s fun s =>
    match s.inAddrs.findIdx? (fun a => s.feed a = .flow flow slot) with
    | none => s
    | some i =>
      let k := count + s.inDelay flow
      if k < s.aud.count then s.bump R.AUD_LATE_SMP 1
      else if s.aud.count + 1919 < k then s.bump R.AUD_EARLY_SMP 1
      else
        let c := s.inCh i
        s.setIn i { c with placed := put k (v, non) c.placed }

/-- 10 R371: an input channel has had 48 consecutive missing samples, after which it ramps to zero; GAPS is counted once. -/
def execInputGap (t : Time) (ic : Fin 32768) (s : State) : Host.Outcome State Fault Refusal :=
  released t s fun s =>
    let c := s.inCh ic
    if !c.gap then s else (s.setIn ic { c with gap := false }).bump R.AUD_GAPS 1

/-- 10 R372: the margin of an SDI source leaves 8 to 40 samples; Δ moves it to 24 with a crossfade from the next tick. -/
def execSdiAudioSlip (t : Time) (src : Fin 1024) (margin : Int) (s : State) : Host.Outcome State Fault Refusal :=
  released t s fun s =>
    match look src.val s.aud.delta with
    | none => s
    | some d =>
      if 8 ≤ margin && margin ≤ 40 then s
      else
        let m : Int := 24 - margin
        let to_ (k : Nat) : Nat := ((k : Int) + m).toNat
        let shift (c : InCh) : InCh :=
          { c with
            placed := c.placed.foldl (fun (l : List (Nat × Int × Bool)) x => if to_ x.1 < s.aud.count then l else put (to_ x.1) x.2 l) []
            trail := c.placed.foldl (fun (l : List (Nat × Int)) x => put (to_ x.1) x.2.1 l) [] }
        let addrs := s.inAddrs
        let mine (i : Nat) : Bool := (addrs[i]?).any (fun a => match s.feed a with
          | .sdi x _ => x = src.val
          | _ => false)
        { s.bump R.AUD_SLIPS 1 with
          aud.delta := put src (d + m) s.aud.delta
          aud.slipped := put src (m, 0) s.aud.slipped
          aud.ins := s.aud.ins.map (fun (x : Nat × InCh) => if mine x.1 then (x.1, shift x.2) else x) }

/-! ### Buses (10 R375 to R380) -/

/-- The sample of an input at place `j` of the tick, `lag` ticks back. Samples of a source on another chip are kept with the channels
(13 R511). -/
def State.inSample (s : State) (a lag j : Nat) : Int :=
  let h := match placeOf s.inAddrs a with
    | some i => (s.inCh i).hist
    | none => (lookD a s.aud.far {}).hist
  h.getD (5 - j + 6 * lag) 0

/-- The non-audio bit that stands with that sample (10 R378; 05 R197). The cells of a source on another chip carry samples alone. -/
def State.inNon (s : State) (a lag j : Nat) : Bool :=
  (placeOf s.inAddrs (s.baseAddr 16 a)).any (fun i => (s.inCh i).nons.getD (5 - j + 6 * lag) false)

/-- The sum of a bus's members but position `skip`, with the bus gain, before saturation (10 R376, R377). A non-audio member gives zero
(R378). -/
def State.busValue (s : State) (b : ABus) (skip : Option Nat) (lag j : Nat) : Int :=
  let one_ (m : Nat) (x : Nat × Nat) : Int :=
    if skip = some m || s.inNon x.1 lag j then 0 else fracMul (s.inSample x.1 lag j) (gainFactor x.2) (2 ^ 24)
  let sum := (b.members.zipIdx.map (fun p => one_ p.2 p.1)).foldl (· + ·) 0
  roundEven (sum * gainFactor b.gain / 2 ^ 24)

/-- Does a flip change a bus's gain, members or member gains (10 R379)? -/
def ABus.changes (x : ABus) (gain : Nat) (members : List (Nat × Nat)) : Bool := x.gain ≠ gain || x.members ≠ members

/-- A bus as it stands at place `j` of the tick: its pending copy holds from the count of its flip (10 R390). -/
def State.abusAt (s : State) (b j : Nat) : ABus :=
  let x := s.abus b
  match x.pend with
  | some (g, ms, due) => if countFrom due ≤ s.aud.count + j then { x with gain := g, members := ms, idle := x.idle && !x.changes g ms } else x
  | none => x

/-- SUM or MINUS of a bus; MINUS of a position that has no member is zero (10 R376). -/
def State.busOut (s : State) (b : Nat) (skip : Option Nat) (lag j : Nat) : Int :=
  let x := s.abusAt b j
  match skip with
  | some m => if m < x.members.length then (clip24 (s.busValue x skip lag j)).1 else 0
  | none => (clip24 (s.busValue x none lag j)).1

/-- Saturated outputs of a bus in a tick (10 R377). -/
def State.busClips (s : State) (b lag : Nat) : Nat :=
  ((List.range 6).map (fun j =>
    let x := s.abusAt b j
    ((none :: (List.range x.members.length).map some).map (fun k => (clip24 (s.busValue x k lag j)).2)).foldl (· + ·) 0)).foldl (· + ·) 0

/-- The run of zero or muted samples of position `m` (10 R379). -/
def ABus.run (x : ABus) (m : Nat) : Nat := x.runs.getD m 0

/-- Has every member carried only zeros, or been muted, for the last 4800 samples (10 R379)? -/
def ABus.still (x : ABus) : Bool := (List.range x.members.length).all (fun m => 4800 ≤ x.run m)

/-- The runs of a bus's members after a tick. -/
def State.busRuns (s : State) (x : ABus) (lag : Nat) : List Nat :=
  x.members.mapIdx (fun i m => (List.range 6).foldl (fun n j => if m.2 = 0x8000 || s.inSample m.1 lag j = 0 then min 4800 (n + 1) else 0) (x.run i))

/-- Stage 3 of a bus in a tick: an IDLE bus leaves IDLE when a member that is not muted carries a non-zero sample (10 R379), and its
saturated samples are counted. -/
def State.busTick (s : State) (b : Nat) (x : ABus) : State :=
  let lag := if s.busLow b then 0 else 2
  let wakes := x.idle && x.members.any (fun m => m.2 ≠ 0x8000 && (List.range 6).any (fun j => s.inSample m.1 lag j ≠ 0))
  let s := s.setBus b { x with runs := s.busRuns x lag, idle := x.idle && !wakes }
  let s := s.bump (R.BUS_WAKES b) (b2n wakes)
  if x.idle && !wakes then s else s.bump R.AUD_CLIPS (s.busClips b lag)

/-- 10 R379: every member of a bus has carried only zeros for 4800 samples, or is muted. -/
def execBusIdleEntry (t : Time) (bus : Fin 1024) (s : State) : Host.Outcome State Fault Refusal :=
  released t s fun s =>
    let x := s.abus bus
    if s.busIdleOff || !x.still then s else s.setBus bus { x with idle := true }

/-! ### Outputs (10 R381 to R388, R392, R393, R401 to R403) -/

/-- The sample of a matched line (10 R383): slot `slot` of source `src`, `off` samples behind the standard path. -/
def State.lineSample (s : State) (src slot : Nat) (off : Int) (j : Nat) : Int :=
  let k : Int := 11 + off - j
  if k < 0 then 0
  else match look src s.aud.matched with
    | some l => if l.full then (lookD slot l.hist []).getD k.toNat 0 else 0
    | none => 0

/-- The non-audio bit that leaves an audio line at count `q`, `delay` samples after its input (08 R320): it stands with the sample in 4-byte packing, and with
3-byte packing (`pack`) it changes at the first boundary of 192 samples after the delayed change. -/
def delayedNon (log : List (Nat × Bool)) (pack : Bool) (q delay : Nat) : Bool :=
  match log.find? (fun x => (if pack then ((x.1 + delay) / 192 + 1) * 192 else x.1 + delay) ≤ q) with
  | some x => x.2
  | none => false

/-- A change of the bit at a line's input joins its log, which keeps what can still come out. -/
def logNon (log : List (Nat × Bool)) (q len : Nat) (b : Bool) : List (Nat × Bool) :=
  let l := if ((log.head?).map (·.2)).getD false = b then log else (q, b) :: log
  l.take ((l.takeWhile (fun x => q < x.1 + len + 192)).length + 1)

/-- Stage 4: what a selection gives at place `j` of the tick (10 R381, R383; the latencies of Table 10.4). -/
def State.selSample (s : State) (out a : Nat) (off : Option Int) (j : Nat) : Int :=
  let low := s.lowOutput out
  match adKind a with
  | 3 => s.busOut (adBus a) none (if low && s.busLow (adBus a) then 0 else 2) j
  | 4 => s.busOut (adBus a) (some (adPos a)) (if low && s.busLow (adBus a) then 0 else 2) j
  | 15 => 0
  | _ =>
    match off with
    | some o => s.lineSample (s.srcKey (adId a)) (adSlot a) o j
    | none => s.inSample a (if low && s.lowInput a then 0 else 1) j

/-- The non-audio bit that stands with what a selection gives at place `j` of the tick (10 R387); a matched slot has that of its line (08 R320). -/
def State.selNon (s : State) (out a : Nat) (off : Option Int) (j : Nat) : Bool :=
  adKind a ≤ 2 &&
    (match off with
      | some o =>
        let log := ((look (s.srcKey (adId a)) s.aud.matched).map (fun l => lookD (adSlot a) l.non [])).getD []
        delayedNon log (bit (byteAt (s.rec1 0x0160) 0) 0) (s.aud.count + j) (12 + o).toNat
      | none => s.inNon a (if s.lowOutput out && s.lowInput a then 0 else 1) j)

/-- The non-audio bit of an output channel's selected input at place `j` of the tick. -/
def State.chanNon (s : State) (out : Nat) (c : OutCh) (j : Nat) : Bool := s.selNon out c.sel c.matched j

/-- Stages 4 and 5 of one sample: the selection with a slip of its read offset, the crossfade by MODE, and the ramped gain (10 R383 to
R387). -/
def State.mixed (s : State) (out : Nat) (c : OutCh) (j : Nat) : Int × Nat :=
  let up := s.ramp
  let now_ := s.selSample out c.sel c.matched j
  if s.chanNon out c j then (now_, 0)
  else
    let unit (v : Int) : Int := v * 256
    let inp : Int := match c.slip with
      | some (o, n) =>
        if n + j < up then fracMul (s.selSample out c.sel (some o) j) (up - (n + j + 1) : Nat) up + fracMul now_ (n + j + 1 : Nat) up
        else unit now_
      | none => unit now_
    let x : Int := match c.fade with
      | some (a, o, from_) =>
        let k := s.aud.count + j - from_
        let old := s.selSample out a o j
        if up ≤ k || s.selNon out a o j then inp
        else if s.audMode = 1 then
          let half := up / 2
          if k < half then fracMul old (half - (k + 1) : Nat) half else inp * (k + 1 - half : Nat) / (up - half : Nat)
        else fracMul old (up - (k + 1) : Nat) up + inp * (k + 1 : Nat) / (up : Nat)
      | none => inp
    let g : Int := gainFactor c.gain
    let z : Int := match c.gfade with
      | some (old, from_) =>
        let go : Int := gainFactor old
        let k := s.aud.count + j - from_
        if k < up then x * (go * up + (g - go) * (k + 1 : Nat)) / (2 ^ 24 * (up : Nat)) else x * g / 2 ^ 24
      | none => x * g / 2 ^ 24
    clip24 (roundEven z)

/-- The fill of an audio member at count `q` (10 R388): `true` ramps back from zero. -/
def OutCh.filled (c : OutCh) (up q : Nat) (v : Int) : Int :=
  match c.fill with
  | none => v
  | some (true, n) => if q - n < up then scaled v (q - n + 1) up else v
  | some (false, n) => if q - n < up then scaled c.last (up - (q - n + 1)) up else 0

/-- What an engine delay line does at one sample (10 R392, R393): the length it reads at, the factor of its ramps, and an old length with
the samples of the crossfade done. -/
structure LineCtl where
  len : Nat
  num : Nat
  den : Nat
  old : Option (Nat × Nat)
deriving DecidableEq, Repr

/-- The control of a line at output count `q` and the line after it; `true` where it flipped. -/
def ALine.ctl (l : ALine) (up q : Nat) : LineCtl × ALine × Bool :=
  let (flipped, l) := match l.pend with
    | some (n, due) =>
      if countFrom due ≤ q then
        (true, if l.len < n then { l with len := n, pend := none, zeros := n - l.len, rampIn := some 0 }
          else { l with len := n, pend := none, cross := if n < l.len then some (l.len, 0) else none })
      else (false, l)
    | none => (false, l)
  if 0 < l.zeros then (⟨l.len, 0, 1, none⟩, { l with zeros := l.zeros - 1 }, flipped)
  else match l.rampIn, l.cross, l.pend with
    | some n, _, _ => (⟨l.len, n + 1, up, none⟩, { l with rampIn := if n + 1 < up then some (n + 1) else none }, flipped)
    | none, some (o, n), _ => (⟨l.len, 1, 1, some (o, n)⟩, { l with cross := if n + 1 < up then some (o, n + 1) else none }, flipped)
    | none, none, some (m, due) =>
      let left := countFrom due - q
      if l.len < m && left ≤ up then (⟨l.len, left - 1, up, none⟩, l, flipped) else (⟨l.len, 1, 1, none⟩, l, flipped)
    | none, none, none => (⟨l.len, 1, 1, none⟩, l, flipped)

/-- The engine delay line that acts on an output channel, with the channel's place in it (10 R392). -/
def State.alineOf (s : State) (o : Nat) : Option (Nat × Nat) :=
  (s.recs 0x0183).findSome? (fun r =>
    match placeOf s.outAddrs (leAt r.val 4 4) with
    | some f => if f ≤ o && o < f + byteAt r.val 2 then some (leAt r.val 0 2, o - f) else none
    | none => none)

/-- Stage 6 of one sample: the history grows by `v`, and the line gives the delayed sample. -/
def lineOut (c : LineCtl) (h : List Int) (up : Nat) : Int :=
  match c.old with
  | some (o, n) => roundEven (fracMul (h.getD o 0) (up - (n + 1) : Nat) (max up 1) + fracMul (h.getD c.len 0) (n + 1 : Nat) (max up 1))
  | none => if c.num = c.den then h.getD c.len 0 else scaled (h.getD c.len 0) c.num c.den

/-- The entry of an EVAC_AUDIO record for an output address (10 R401): announcement input and gain. -/
def State.announcement (s : State) (a : Nat) : Option (Nat × Nat) :=
  ((s.recs 0x0185).flatMap (fun r => (List.range (leAt r.val 0 2)).map (fun i =>
    (adForm (leAt r.val (4 + 12 * i) 4), leAt r.val (8 + 12 * i) 4, leAt r.val (12 + 12 * i) 2)))).findSome?
    (fun e => if e.1 = a then some e.2 else none)

/-- Stage 7 of one sample (10 R402, R403): the announcement while the override holds the channel, with the crossing at its ends. -/
def State.overridden (s : State) (a : Nat) (c : OutCh) (up j : Nat) (v : Int) : Int × Nat :=
  match s.announcement a with
  | none => (v, 0)
  | some (inp, g) =>
    let r := min up 48
    let (w, n) := clip24 (roundEven (fracMul (s.selSample a inp none j) (gainFactor g) (2 ^ 24)))
    match c.cross with
    | some (into, k) =>
      if k + j < r then
        let (x, y) := if into then (v, w) else (w, v)
        (roundEven (fracMul x (r - (k + j + 1) : Nat) r + fracMul y (k + j + 1 : Nat) r), n)
      else if c.evac then (w, n) else (v, 0)
    | none => if c.evac then (w, n) else (v, 0)

/-- Move a ramp on by a tick, up to its length. -/
def rampOn (up : Nat) (n : Nat) : Option Nat := if n + 6 < up then some (n + 6) else none

/-- An output channel after the tick at count `q`: its ramps have moved on, and those that began `up` counts before the next tick are over. -/
def OutCh.advance (c : OutCh) (up q : Nat) : OutCh :=
  { c with
    fade := c.fade.filter (fun f => q + 6 < f.2.2 + up)
    gfade := c.gfade.filter (fun f => q + 6 < f.2 + up)
    slip := c.slip.bind (fun f => (rampOn up f.2).map (fun n => (f.1, n)))
    cross := c.cross.bind (fun f => (rampOn (min up 48) f.2).map (fun n => (f.1, n)))
    fill := c.fill.filter (fun f => !f.1 || q + 6 < f.2 + up) }

/-- The flags and PEAK of an output channel (10 Table 10.17). The override clears the non-audio bit (R402). -/
def State.outFlags (s : State) (o a peak : Nat) (c : OutCh) : State :=
  let silent := decide (s.silSamples ≤ c.quiet)
  let zero := decide (4800 ≤ c.zeros)
  let was := (s.has (R.AUD_OUT_SILENT o), s.has (R.AUD_OUT_ZERO o))
  let s := ((s.set (R.AUD_OUT_SILENT o) (b2n silent)).set (R.AUD_OUT_ZERO o) (b2n zero)).set (R.AUD_OUT_OVERRIDE o) (b2n c.evac)
  let s := s.set (R.AUD_OUT_NONAUDIO o) (b2n c.non)
  let s := s.peak (R.AUD_OUT_PEAK o) peak
  if was = (silent, zero) then s else s.audioProbe a true silent zero

/-- Output channel `out` with another selection and gain from count `q` on (10 R385, R386). A change of selection with a non-audio input is a cut (R387).
DESIGN CHOICE (log entry 100): a selection that changes while a crossfade is under way crosses from the input selected last, in full, and a gain that changes during
a gain ramp starts from the full factor of the code before; the spec states neither. -/
def State.turned (s : State) (out : Nat) (c : OutCh) (sel gain q : Nat) : OutCh :=
  let j := min 5 (q - s.aud.count)
  let cut := s.audMode = 2 || s.chanNon out c j || s.selNon out sel none j
  { c with
    sel := sel, gain := gain, pend := none
    fade := if sel ≠ c.sel && !cut then some (c.sel, c.matched, q) else if sel ≠ c.sel then none else c.fade
    matched := if sel = c.sel then c.matched else none
    held := sel = c.sel && c.held
    slip := if sel = c.sel then c.slip else none
    gfade := if gain ≠ c.gain then some (c.gain, q) else c.gfade }

/-- What a take of the AUDIO level gives a slot whose channel is `c`, at the boundary `b`: none where a channel route that the chip accepted later governs
(02 R76). A salvo's entry is carried out whatever routes stand. -/
def takenSel (c : OutCh) (b : Time) (order : Nat) (salvo : Bool) (sel : Nat) : Option Nat :=
  let stands : Bool := match c.pend with
    | some p => if p.due ≤ b then decide (order < p.order) else !salvo && order < c.order
    | none => !salvo && order < c.order
  if stands then none else some sel

/-- The flip of a destination's slot, or of another channel, that falls within the tick that begins: its count, selection and gain (04 R143; 10 R390). The
Shuttle and the pending copies hold it already; the parameters change at the instant itself. -/
def State.turnIn (s : State) (a : Nat) (c : OutCh) : Option (Nat × Nat × Nat) :=
  let last := s.aud.count + 5
  let route (b : Time) : Option APend := c.pend.filter (fun p => !p.late && p.due ≤ b)
  let out (b : Time) (sel gain : Nat) : Option (Nat × Nat × Nat) := if countFrom b ≤ last then some (countFrom b, sel, gain) else none
  if adKind a = 0 then
    let dest := indexOfId (adId a)
    let b := boundaryFrom (s.dstRate dest) s.now
    let takes := (s.dst dest).audio.pend.filter (fun p => p.armed && p.due ≤ b)
    let sel := takes.foldl (fun (x : Option Nat) p =>
      let to_ := match p.src with
        | some k => if adSlot a < s.keySlots k then adOfSlot (s.keyGid k) (adSlot a) else adSilence
        | none => adSilence
      (takenSel c b p.order p.salvo.isSome to_).orElse (fun _ => x)) none
    match sel, route b with
    | some x, some p => out b x (p.gain.getD c.gain)
    | some x, none => out b x c.gain
    | none, some p => out b (p.sel.getD c.sel) (p.gain.getD c.gain)
    | none, none => none
  else
    match c.pend.filter (fun p => !p.late) with
    | some p => out p.due (p.sel.getD c.sel) (p.gain.getD c.gain)
    | none => none

/-- The count, within the tick, up to which a destination's slots or a free flow's hold their last good sample, since a cell on its way to the egress cluster
was lost (03 R94): the first counts of the tick. -/
def State.heldCounts (s : State) (a : Nat) : Nat :=
  let lost (k : Nat) (slots : Nat) : Nat :=
    if s.xp.lostMarks.any (fun m => m.isl < 16 && m.key = .audioOut k && s.aud.count ≤ countAt m.at_ + 6) then cellSpan slots else 0
  match adKind a with
  | 0 => let d := indexOfId (adId a); lost d (s.dstSlots d)
  | 1 => lost (2 ^ 19 + adFlow a) (((s.flowOut (adFlow a)).map flowSlots).getD 1)
  | _ => 0

/-- Stages 4 to 9 of an output channel in a tick, with the controls of its delay line (10 Table 10.2). A flip that falls within the tick holds from its own
count on. -/
def State.outTick (s : State) (o a : Nat) (ctls : List (Nat × List LineCtl)) : State :=
  let up := s.ramp
  let q := s.aud.count
  let level := s.silLevel
  let c0 := s.outCh o
  let turn := s.turnIn a c0
  let at_ (j : Nat) : OutCh := match turn with
    | some (k, sel, gain) => if k ≤ q + j then s.turned a c0 sel gain k else c0
    | none => c0
  let line := s.alineOf o
  let h0 := match line with
    | some (l, n) => lookD n (((look l s.aud.lines).map (·.hist)).getD []) []
    | none => []
  let full : Bool := line.any (fun l => (look l.1 s.aud.lines).any (·.full))
  let inNon := s.chanNon a c0 5
  let hold := s.heldCounts a
  let hold := if (look 32 s.flt.hurt).any (fun x => Config.freeNat (x + o) % 2 = 1) then 6 else hold
  let good := c0.hist.headD 0
  let r := (List.range 6).foldl (fun (p : OutCh × List Int × Nat × Nat) j =>
    let (c, h, clips, top) := p
    let (v, n1) := s.mixed a (at_ j) j
    let y := c0.filled up (q + j) v
    let c := if c0.fill.any (fun f => !f.1) then c else { c with last := v }
    let h := if line.isSome then y :: h else h
    let z := match line with
      | some (l, _) => match ((look l ctls).getD [])[j]? with
        | some k => if full then lineOut k h up else 0
        | none => y
      | none => y
    let (w, n2) := s.overridden a c0 up j z
    let w := match s.aud.fadeUp with
      | some n => if n + j < up then scaled w (n + j + 1) up else w
      | none => w
    ({ c with
        hist := ((if j < hold then good else w) :: c.hist).take 256
        zeros := if w = 0 then min 4800 (c.zeros + 1) else 0
        quiet := if w.natAbs < level then c.quiet + 1 else 0 }, h, clips + n1 + n2, max top w.natAbs)) (c0, h0, 0, 0)
  let outNon : Bool := match line.bind (fun l => (look l.1 s.aud.lines).map (fun x => (l, x))) with
    | some (l, x) => delayedNon (logNon (lookD l.2 x.non []) q x.len inNon) (bit (byteAt (s.alineRec l.1) 3) 0) q x.len
    | none => inNon
  let c := { r.1.advance up q with non := outNon && !c0.evac }
  let ends := (List.range 6).any (fun j => s.chanNon a c0 j || c0.fade.any (fun f => s.selNon a f.1 f.2.1 j))
  let c := if ends then { c with fade := none } else c
  let s := (s.setOut o c).bump R.AUD_CLIPS r.2.2.1
  let s := match line with
    | some (l, n) => match look l s.aud.lines with
      | some x =>
        let keep := max x.len ((x.cross.map (fun (y : Nat × Nat) => y.1)).getD 0) + 48
        let h := r.2.1.take keep
        { s with aud.lines := put l { x with
            hist := put n h x.hist
            full := x.full || decide (x.len + 48 ≤ h.length)
            non := put n (logNon (lookD n x.non []) q x.len inNon) x.non } s.aud.lines }
      | none => s
    | none => s
  s.outFlags o a r.2.2.2 c

/-! ### Flips (10 R385 to R391) -/

/-- A selection and gain of an output channel become active at an instant (10 R385, R386, R390), set by the request at place `order`; the change is
journalled (18 R669). -/
def State.outTurn (s : State) (o a : Nat) (c : OutCh) (sel gain order : Nat) (at_ : Time) : State :=
  ((s.setOut o { s.turned a c sel gain (countFrom at_) with order := order }).bump R.AUD_FLIPS 1).journalAdd (.achan a sel gain)

/-- A pending copy of an output channel becomes active: at its own instant, or at the present where it was loaded after that (10 R391). -/
def State.outFlip (s : State) (o a : Nat) (c : OutCh) (p : APend) : State :=
  s.outTurn o a c (p.sel.getD c.sel) (p.gain.getD c.gain) (if p.sel.isSome then p.order else c.order) (if p.late then s.now else p.due)

/-- A take of the AUDIO level is carried out at the boundary `b`: slot j of the destination selects slot j of the source, and SILENCE where it has none (10
R382). Where a channel route and the take set one slot, the later accepted governs; of two that fall due together the earlier is counted in SUPERSEDED here and
in the Shuttle (02 R76, 10 Table 10.8). -/
def State.audioTake (s : State) (dest order : Nat) (salvo : Bool) (b : Time) (gid slots : Nat) : State :=
  let lostOne (s : State) : State := (s.bump R.AUD_SUPERSEDED 1).bump (R.SHT_SUPERSEDED (s.dstCluster dest)) 1
  s.outAddrs.zipIdx.foldl (fun (s : State) (x : Nat × Nat) =>
    if adKind x.1 ≠ 0 || indexOfId (adId x.1) ≠ dest then s
    else
      let c := s.outCh x.2
      let to_ := if adSlot x.1 < slots then adOfSlot gid (adSlot x.1) else adSilence
      match takenSel c b order salvo to_ with
      | none => if c.pend.any (fun p => p.due ≤ b) then lostOne s else s
      | some sel =>
        match c.pend with
        | some p =>
          if b < p.due then
            let s := if sel = c.sel then s else s.outTurn x.2 x.1 c sel c.gain 0 b
            s.setOut x.2 { s.outCh x.2 with pend := some p, order := 0 }
          else
            (if p.sel.isSome then lostOne s else s).setOut x.2 { c with pend := some { p with sel := some sel, order := 0 } }
        | none => if sel = c.sel then s.setOut x.2 { c with order := 0 } else s.outTurn x.2 x.1 c sel c.gain 0 b) s

/-- The channels that a test picks flip where their instant has come. -/
def State.flipOuts (s : State) (pick : APend → Nat → Bool) : State :=
  s.outAddrs.zipIdx.foldl (fun (s : State) x =>
    let c := s.outCh x.2
    match c.pend with
    | some p => if p.due ≤ s.now && pick p x.1 then s.outFlip x.2 x.1 c p else s
    | none => s) s

/-- NONAUDIO_MIX: members that are non-audio when a membership takes effect (10 R378). -/
def State.busMembers (s : State) (old new : List (Nat × Nat)) : State :=
  s.bump R.AUD_NONAUDIO_MIX (new.filter (fun m => s.nonAudio m.1 && !old.any (fun o => o.1 = m.1))).length

/-- The runs of the members that a bus takes: a member that stays keeps its run, and an input that comes has that of its samples of 0 (10 R379). -/
def State.newRuns (s : State) (b : Nat) (x : ABus) (members : List (Nat × Nat)) : List Nat :=
  let lag := if s.busLow b then 0 else 2
  members.map (fun m => match x.members.findIdx? (fun o => o.1 = m.1) with
    | some i => x.run i
    | none => min 4800 (((placeOf s.inAddrs m.1).map (fun i => (s.inCh i).zeros - 6 * lag)).getD 0))

/-- Buses flip where their instant has come; a change of members or gains takes a bus out of IDLE (10 R379, R390). -/
def State.flipBuses (s : State) : State :=
  s.aud.buses.foldl (fun s y =>
    match y.2.pend with
    | some (g, ms, due) =>
      if due ≤ s.now then
        let s := s.busMembers y.2.members ms
        let wakes := y.2.idle && y.2.changes g ms
        let s := s.bump (R.BUS_WAKES y.1) (b2n wakes)
        let s := s.setBus y.1 { y.2 with gain := g, members := ms, runs := s.newRuns y.1 y.2 ms, pend := none, idle := y.2.idle && !wakes }
        (s.bump R.AUD_FLIPS 1).journalAdd (.bus y.1 g ms)
      else s
    | none => s) s

/-- AUDIO_FLIP of the slots of a destination at its switching point (10 R390). -/
def State.flipDest (s : State) (dest : Nat) : State :=
  s.flipOuts (fun _ a => adKind a = 0 && indexOfId (adId a) = dest)

/-- AUDIO_FLIP of every other parameter at a house frame boundary (10 R390). -/
def State.flipHouse (s : State) : State := (s.flipOuts (fun _ a => adKind a ≠ 0)).flipBuses

/-- A pending copy is loaded after its flip instant: FLIP_LATE and F3 (10 R391). -/
def State.flipLate (s : State) (due : Time) : State :=
  if due < s.now then s.err R.AUD_ERR_FLIP_LATE 3 { typ := 3, master := 0x40 + 32 } else s

/-- The pending copy of an output channel is written (10 R389). -/
def State.writeOut (s : State) (a : Nat) (sel gain : Option Nat) (due : Time) (order : Nat) : State :=
  match placeOf s.outAddrs a with
  | none => s
  | some o =>
    let c := s.outCh o
    let late := due < s.now
    let new : APend := match c.pend with
      | some p => ⟨sel.orElse (fun _ => p.sel), gain.orElse (fun _ => p.gain), due, order, late⟩
      | none => ⟨sel, gain, due, order, late⟩
    let s := s.bump R.AUD_SUPERSEDED (b2n c.pend.isSome)
    (s.setOut o { c with pend := some new }).flipLate due

/-- The pending copy of a bus is written (10 R389). -/
def State.writeBus (s : State) (b gain : Nat) (members : List (Nat × Nat)) (due : Time) : State :=
  let x := s.abus b
  let s := s.bump R.AUD_SUPERSEDED (b2n x.pend.isSome)
  (s.setBus b { x with pend := some (gain, members, due) }).flipLate due

/-- The pending copy of a delay line is written (10 R389, R393). -/
def State.writeLine (s : State) (l n : Nat) (due : Time) : State :=
  match look l s.aud.lines with
  | none => s
  | some x =>
    let s := s.bump R.AUD_SUPERSEDED (b2n x.pend.isSome)
    { s with aud.lines := put l { x with pend := some (n, due) } s.aud.lines }.flipLate due

/-! ### The tick (10 R363, R369) -/

/-- The newest six samples of a slot of a source, own or on another pair (13 R511), with their non-audio bits. -/
def State.slotNew (s : State) (a : Nat) : List (Int × Bool) :=
  match placeOf s.inAddrs a with
  | some i => ((s.inCh i).hist.zip (s.inCh i).nons).take 6
  | none => ((lookD a s.aud.far {}).hist ++ List.replicate 6 0).take 6 |>.map (fun v => (v, false))

/-- The lines that other parts of the chip keep: the matched lines of sources (08 R321) grow by the tick. -/
def State.matchedTick (s : State) : State :=
  { s with aud.matched := s.aud.matched.map (fun (l : Nat × MLine) =>
      let slots := (List.range (s.keySlots l.1)).map (fun j => (j, s.slotNew (adOfSlot (s.keyGid l.1) j)))
      let hist := slots.map (fun x => (x.1, (x.2.map (·.1) ++ lookD x.1 l.2.hist []).take l.2.len))
      (l.1, { l.2 with
        hist := hist
        full := l.2.full || hist.any (fun h => l.2.len ≤ h.2.length)
        non := slots.map (fun x => (x.1, x.2.reverse.zipIdx.foldl (fun (m : List (Nat × Bool)) (y : (Int × Bool) × Nat) =>
          logNon m (s.aud.count - 6 + y.2) l.2.len y.1.2) (lookD x.1 l.2.non []))) })) }

/-- Override crossings of channels outside destinations, at the first tick after the override is asserted or cleared (10 R403). -/
def State.evacFree (s : State) : State :=
  s.outAddrs.zipIdx.foldl (fun (s : State) x =>
    let c := s.outCh x.2
    if adKind x.1 = 0 || (s.announcement x.1).isNone || c.evac = s.evacOn then s
    else s.setOut x.2 { c with evac := s.evacOn, cross := some (s.evacOn, 0) }) s

/-- The bytes of a sample time of `n` channels in an audio line (08 R320). -/
def lineBytes (n : Nat) (pack : Bool) : Nat := 4 * ceilDiv (n * (if pack then 3 else 4)) 4

/-- Sample times from `q - 6` to `q` of a line fill whole data rows, which are written, and read by each of its readers (09 R339, R340). -/
def State.lineMoved (s : State) (q bytes reads : Nat) : State :=
  let rows := q * bytes / rowBytes - (q - 6) * bytes / rowBytes
  if rows = 0 then s else (List.range reads).foldl (fun (s : State) _ => s.rowsMoved false (rows * rowBytes)) (s.rowsMoved true (rows * rowBytes))

/-- The data rows of every audio line in a tick. -/
def State.lineRows (s : State) (q : Nat) : State :=
  let s := s.aud.lines.foldl (fun (s : State) l =>
    let v := s.alineRec l.1
    s.lineMoved q (lineBytes (byteAt v 2) (bit (byteAt v 3) 0)) 1) s
  s.aud.matched.foldl (fun (s : State) l =>
    s.lineMoved q (lineBytes (s.keySlots l.1) (bit (byteAt (s.rec1 0x0160) 0) 0)) (((s.ring l.1).map (·.reads.length)).getD 0)) s

/-! ### Output (05 R200, R201; 06 R247, R248; 10 R396) -/

/-- One bit into the CRC of a channel-status block: x^8 + x^4 + x^3 + x^2 + 1, the least significant bit of a byte first. -/
def csBit (r b : Nat) : Nat := if (r + b) % 2 = 1 then r / 2 ^^^ 0xB8 else r / 2

/-- The channel-status block of a channel (05 R201): professional, 48 kHz, 24-bit words, the non-audio bit, CRC in byte 23; every other bit is 0. PRESUMED
(log entry 71): the places of the fields and the CRC are those of AES3, which the spec does not give. -/
def csBlock (non : Bool) : List Nat :=
  let l := [0x81 + 2 * b2n non, 0, 0x2C] ++ List.replicate 20 0
  l ++ [(l.flatMap (fun x => (List.range 8).map (fun i => x / 2 ^ i % 2))).foldl csBit 0xFF]

/-- Bit `i` of a channel-status block, in the order of its frames. -/
def csAt (non : Bool) (i : Nat) : Nat := (csBlock non).getD (i / 8) 0 / 2 ^ (i % 8) % 2

/-- The non-audio bit that an output channel states (05 R201; 10 R402). -/
def State.outNon (s : State) (a : Nat) : Bool := (placeOf s.outAddrs a).any (fun o => (s.outCh o).non)

/-- Do the samples of an output reach the cluster of its destination: while that is a target of their connection (03 R96)? A free flow has none. -/
def State.outReaches (s : State) (a : Nat) : Bool :=
  adKind a ≠ 0 || s.hasTarget (· = .audioOut (indexOfId (adId a))) (s.dstCluster (indexOfId (adId a)))

/-- The sample of an output channel at count `c`; zero where there is no such channel, or where its samples come to no cluster. -/
def State.outSample (s : State) (a c : Nat) : Int :=
  match placeOf s.outAddrs a with
  | some o => if s.outReaches a then (s.outCh o).hist.getD (s.aud.count + 5 - c) 0 else 0
  | none => 0

/-- The samples of the slots of an SDI destination at some counts (05 R200): its groups are embedded whole, a channel at or above SLOTS carries zeros. -/
def State.embedded (s : State) (dest slots : Nat) (counts : List Nat) : List (List Int) :=
  (List.range (4 * ceilDiv slots 4)).map (fun j => counts.map (fun k =>
    if j < slots then s.outSample (adOfSlot (s.gid dest) j) k else 0))

/-- The frame of a rate that holds a sample count (10 R364). -/
def frameHolding (rate c : Nat) : Nat := c * rateNum rate / (max 1 (rateDen rate) * 48000)

/-- An SDI destination embeds the samples of the tick that ended, each in the frame that holds its count, where it emits that frame (10 R364; 05 R200). -/
def State.embedTick (s : State) (dest slots : Nat) : State :=
  let rate := s.dstRate dest
  let d := s.dst dest
  let counts := (List.range 6).map (fun j => s.aud.count - 6 + j)
  ((counts.map (frameHolding rate)).eraseDups).foldl (fun (s : State) n =>
    if if n = d.frame then d.live else n + 1 = d.frame && d.wasLive then
      let mine := counts.filter (fun c => frameHolding rate c = n)
      s.emit (.embed dest n (mine.headD 0) (s.embedded dest slots mine))
    else s) s

/-- The samples of each channel of a packet from count `k` on: with 96 kHz the even samples come from the lower of its two slots (02 R49). -/
def State.packetRows (s : State) (v : List Byte) (k : Nat) : List (Nat × List Int) :=
  let addrs := s.flowAddrs v
  let row (a : Nat) : List Int := (List.range (packetSamples v)).map (fun i => s.outSample a (k + i))
  (List.range (byteAt v 5)).map (fun c =>
    if bit (byteAt v 6) 5 then
      let (x, y) := (addrs.getD (2 * c) 0, addrs.getD (2 * c + 1) 0)
      (x, ((row x).zip (row y)).flatMap (fun p => [p.1, p.2]))
    else (addrs.getD c 0, row (addrs.getD c 0)))

/-- What the packet of an audio flow from count `k` on carries (06 R247, R248): an AM824 block starts where the sample's count is a multiple of 192. Of L16
the high sixteen bits are sent (log entry 78). -/
def State.audLoad (s : State) (v : List Byte) (k : Nat) : AudLoad :=
  let rows := s.packetRows v k
  match bits (byteAt v 6) 4 3 with
  | 0 => .pcm 24 (rows.map (·.2))
  | 1 => .pcm 16 (rows.map (fun r => r.2.map (· / 256)))
  | _ =>
    let first := if bit (byteAt v 6) 5 then 2 * k else k
    .am824 (rows.map (fun r => let non := s.outNon r.1
      r.2.zipIdx.map (fun x => (x.1, csAt non ((first + x.2) % 192), decide ((first + x.2) % 192 = 0)))))

/-- The packet of an audio flow with number `k`: sequence number, time stamp and marker (04 R157, R159). -/
def State.audBatch (s : State) (v : List Byte) (k : Nat) : Batch :=
  let n := packetSamples v
  { first := (leAt v 12 4 + k) % 2 ^ 16, count := 1, octets := flowSlots v * n * wireSample v
    stamp := (if bit (byteAt v 6) 5 then 2 * (k * n) else k * n) % 2 ^ 32, marker := false, load := .audio (s.audLoad v (k * n))
    leaves := some ((k * n + n) * sec / 48000 + 30000) }

/-- Audio packets that end in the tick with counts `q` to `q + 5` (06 R157, R247; 10 R396). Each leaves (s + N) / 48 000 s + 30 µs after the epoch; the model
shows it at the tick that gives its last sample (log entry 79). -/
def State.audioPackets (s : State) (q : Nat) : State :=
  (s.recs 0x0142).foldl (fun s r =>
    let v := r.val
    let e := leAt v 0 2
    let n := packetSamples v
    let g := egressCluster v
    if !isAudioFlow v || s.has (R.EF_QUIET g e) then s
    else
      let ks := (List.range ((q + 6) / n - q / n)).map (· + q / n)
      ks.foldl (fun (s : State) k =>
        let b := s.audBatch v k
        (s.emitPkts v b).set (R.EF_LAST_ESN g e) b.first) s) s

/-- The samples of the tick cross to the egress clusters, and the SDI destinations embed those of the tick before (05 R200). -/
def State.audioOut (s : State) : State :=
  let s := s.xp.conns.foldl (fun (s : State) c => match c.2.key with
    | .audioOut d => s.sendSlots c.2.key (6 * (if d < 2 ^ 19 then s.dstSlots d else ((s.flowOut (d - 2 ^ 19)).map flowSlots).getD 0))
    | _ => s) s
  (s.recs 0x0102).foldl (fun (s : State) r =>
    let d := leAt r.val 0 2
    if recKind r.val = 0 && 0 < recSlots r.val then s.embedTick d (recSlots r.val) else s) s

/-- A tick while AUD is being reset: every output channel carries zeros, and they are emitted (10 R406). -/
def State.deadTick (s : State) (q : Nat) : State :=
  let outs := s.outAddrs.zipIdx.map (fun (x : Nat × Nat) => (x.2, let c := s.outCh x.2; { c with hist := (List.replicate 6 0 ++ c.hist).take 256 }))
  ({ s with aud.count := q, aud.outs := outs }.audioPackets q).audioOut

/-- The meters of a head: the channel's address, and whether it is an output (11 Table 11.10). -/
def State.metersOf (s : State) (h : Nat) : List (Nat × Bool) :=
  ((s.recs 0x0192).filter (fun r => byteAt r.val 0 = h)).flatMap (fun r => (List.range (leAt r.val 2 2)).map (fun i =>
    (adForm (leAt r.val (32 + 16 * i) 4), bit (byteAt r.val (36 + 16 * i)) 0)))

/-- Meters of heads: the largest magnitude of each channel since the last head frame, at stage 2 or stage 8 (11 R430). -/
def State.meterTick (s : State) (out : Bool) : State :=
  (List.range 16).foldl (fun (s : State) h =>
    (s.metersOf h).zipIdx.foldl (fun (s : State) (x : (Nat × Bool) × Nat) =>
      if x.1.2 ≠ out then s
      else
        let l := if out then ((placeOf s.outAddrs x.1.1).map (fun o => (s.outCh o).hist.take 6)).getD []
          else ((placeOf s.inAddrs x.1.1).map (fun i => (s.inCh i).hist.take 6)).getD []
        let k := h * 128 + x.2
        { s with aud.meters := put k (l.foldl (fun m v => max m v.natAbs) (lookD k s.aud.meters 0)) s.aud.meters }) s) s

/-- Controls of every engine delay line for the output counts from `q`; each line moves on. -/
def State.lineTick (s : State) (q : Nat) : List (Nat × List LineCtl) × State :=
  let up := s.ramp
  s.aud.lines.foldl (fun (p : List (Nat × List LineCtl) × State) y =>
    let r := (List.range 6).foldl (fun (w : List LineCtl × ALine × Bool) j =>
      let (k, l, f) := w.2.1.ctl up (q + j)
      (w.1 ++ [k], l, w.2.2 || f)) ([], y.2, false)
    let s := { p.2 with aud.lines := put y.1 r.2.1 p.2.aud.lines }
    let s := if r.2.2 then (s.bump R.AUD_FLIPS 1).journalAdd (.aline y.1 r.2.1.len) else s
    (p.1 ++ [(y.1, r.1)], s)) ([], s)

/-- The counts of BUSES_IDLE, BUSES_DEFINED and EVAC (10 Table 10.12). -/
def State.audStat (s : State) : State :=
  let s := s.set R.AUD_STAT_BUSES_IDLE (s.aud.buses.filter (fun b => b.2.idle)).length
  let s := s.set R.AUD_STAT_BUSES_DEFINED (s.aud.buses.filter (fun b => b.2.members ≠ [])).length
  s.set R.AUD_STAT_EVAC (b2n (s.aud.outs.any (fun c => c.2.evac)))

/-- The slots of a destination whose audio member goes into fill or leaves it (10 R388): the ramp runs from the count of the destination frame boundary, and a
tick that sees it later goes on from where it then stands (log entry 80). -/
def State.fillSlots (s : State) (dest from_ : Nat) (bad : OutCh → Bool) : State :=
  s.outAddrs.zipIdx.foldl (fun (s : State) x =>
    if adKind x.1 ≠ 0 || indexOfId (adId x.1) ≠ dest then s
    else
      let c := s.outCh x.2
      let fill := bad c
      let now_ := c.fill.any (fun f => !f.1)
      if now_ = fill then s
      else s.setOut x.2 { c with fill := if s.chanNon x.1 c 5 then (if fill then some (false, from_ - s.ramp) else none) else some (!fill, from_) }) s

/-- Are the audio members in underrun in a destination's running frame known: at its boundary, where nothing but the samples of flows decides them, else at the
end of its window (02 R66; log entry 80)? -/
def State.fillKnown (s : State) (dest : Nat) (d : DstSt) (k : Nat) : Bool :=
  (!s.locked k && (s.memberNums k .audio).all (s.audioNum k)) || s.windowEnd k (s.dstRate dest) d.frame ≤ s.now

/-- The first sample count of frame `n` of a rate: ceil(A_n × 48 000) (10 R364). -/
def frameCount (rate n : Nat) : Nat := ceilDiv (n * rateDen rate * 48000) (rateNum rate)

/-- Fill of the audio members of every destination that emits (02 R68, R69; 10 R388). -/
def State.fillDue (s : State) : State :=
  s.xp.dst.foldl (fun (s : State) (x : Nat × DstSt) =>
    let from_ := frameCount (s.dstRate x.1) x.2.frame
    match x.2.audio.src with
    | none => s.fillSlots x.1 from_ (fun _ => false)
    | some k =>
      if !x.2.live || !s.fillKnown x.1 x.2 k then s
      else
        let bad := s.audioFills x.1 x.2 k
        s.fillSlots x.1 from_ (fun c => s.takesFrom k c bad.contains)) s

/-- The slots of sources on other pairs in a tick (13 R511): the cells of their samples pass the meters of the connections that bring them (03 R102), and each slot is an
input channel like those of this chip (10 R371). Samples whose cells do not reach the engine do not come (03 R96), and those of a lost cell are missing. -/
def State.farTick (s : State) (far : List (Nat × List Int)) (k0 : Nat) : State :=
  let srcs := (far.map (fun x => s.srcKey (adId x.1))).eraseDups
  let s := srcs.foldl (fun (s : State) k => s.xp.conns.foldl (fun (s : State) c => match c.2.key with
    | .audioIn cl j => if j = k then s.enterSlots c.2.key cl (total ((far.filter (fun x => s.srcKey (adId x.1) = k)).map (·.2.length))) 0 else s
    | _ => s) s) s
  let is (k : Nat) (c : ConnKey) : Bool := match c with
    | .audioIn _ j => j = k
    | _ => false
  let all := (far.map (·.1) ++ s.aud.far.map (·.1)).eraseDups
  { s with aud.far := all.foldl (fun (m : List (Nat × InCh)) a =>
      let k := s.srcKey (adId a)
      let skip := if s.slotsLost 32 (is k) then cellSpan (s.keySlots k) else 0
      let l := if s.hasTarget (is k) 24 then (look a far).getD [] else []
      let c := lookD a m {}
      let c := { c with placed := placeRun (fun v => (v, false)) skip k0 0 none (l.map some) c.last [] }
      put a ((List.range 6).foldl (fun (c : InCh) j =>
        let (c, v, _) := c.next s.ramp s.ramp (k0 + j)
        c.note s.silLevel v) c) m) s.aud.far }

/-- 10 R363, R369: a tick starts at count `c`, the latest multiple of six: the inputs of the six counts before it enter, and the outputs of
the six counts from it leave. `sdi` lists the samples de-embedded since the last tick by source, with the number of the first, per slot (none where the
error-correction code cannot correct one); `far` the six samples that Strands bring for a source's slot, by address (13 R511). -/
def State.audioTick (s : State) (sdi : List (Nat × Nat × List (List (Option Int)))) (far : List (Nat × List Int)) : State :=
  let q := countAt s.now / 6 * 6
  if q ≤ s.aud.count then s
  else if !s.aud.on then s.deadTick q
  else
    let s := ((s.flipOuts (fun p a => p.late || adKind a ≠ 0)).flipBuses).evacFree
    let s := sdi.foldl State.placeSdi s
    let s := s.farTick far (q - 6)
    let addrs := s.inAddrs.zipIdx
    let isHead (a : Nat) : Bool := match s.feed a with
      | .head _ => true
      | _ => false
    let s := addrs.foldl (fun (s : State) (x : Nat × Nat) => if isHead x.1 then s else s.inTick x.2 x.1 (q - 6)) s
    let s := addrs.foldl (fun (s : State) (x : Nat × Nat) => if isHead x.1 then s.headTick x.2 x.1 else s) s
    let s := { s with
      aud.slipped := s.aud.slipped.filterMap (fun (x : Nat × Int × Nat) => if x.2.2 + 6 < s.ramp then some (x.1, x.2.1, x.2.2 + 6) else none)
      aud.count := q }
    let s := (s.fillDue.matchedTick).meterTick false
    let s := s.aud.buses.foldl (fun (s : State) (y : Nat × ABus) => s.busTick y.1 y.2) s
    let (ctls, s) := (s.lineRows q).lineTick q
    let s := s.outAddrs.zipIdx.foldl (fun (s : State) (x : Nat × Nat) => s.outTick x.2 x.1 ctls) s
    let s := { s with aud.fadeUp := s.aud.fadeUp.bind (rampOn s.ramp), flt.hurt := drop 32 s.flt.hurt }
    (((s.meterTick true).audioPackets q).audioOut).audStat

/-! ### Matched slots (10 R383) -/

/-- The input count of the first sample of a source frame, by its arrival: that of its alignment point within the window, else its
arrival's (10 R372, R394). -/
def State.inputCount (s : State) (src : Nat) (arrival : Time) : Nat :=
  let rate := s.srcRate src
  let n := frameAt rate arrival
  if arrival ≤ alignPoint rate n + s.window then frameCount rate n else countFrom arrival

/-- The slots of destination `dest` at its frame `n` (10 R383): `shown` is the source and ring frame that its VIDEO level reads through a
bobbin, with whether it repeats and the frames it skips. A slot starts to match, follows a repeat or a drop, repeats for an underrun of its own flow under
INDEPENDENT (02 R68) and leaves that again, or stops where the destination leaves the bobbin path or the source. While the path shows no frame of the
source, a matched slot keeps its offset. -/
def State.matchSlots (s : State) (dest n : Nat) (shown : Option (Nat × Time × Bool × Nat)) : State :=
  let rate := s.dstRate dest
  let d := s.dst dest
  s.outAddrs.zipIdx.foldl (fun (s : State) x =>
    if adKind x.1 ≠ 0 || indexOfId (adId x.1) ≠ dest then s
    else
      let c := s.outCh x.2
      let mine := d.video.bobbin && adKind c.sel = 0 && d.video.src = some (s.srcKey (adId c.sel)) && (look (s.srcKey (adId c.sel)) s.aud.matched).isSome
      if !mine then (if c.matched.isSome || c.held then s.setOut x.2 { c with matched := none, held := false } else s)
      else match shown with
      | some (src, arrival, again, skipped) =>
        let start : Int := (frameCount rate n : Int) - s.inputCount src arrival
        match c.matched with
          | none => s.setOut x.2 { c with matched := some start, held := false }
          | some o =>
            let own := d.audBad.contains (s.slotMember src c.sel)
            let o' : Int := if again || own then o + (frameCount rate (n + 1) - frameCount rate n : Nat)
              else if c.held then start
              else o - (frameCount rate n - frameCount rate (n - skipped) : Nat)
            let c := { c with held := own && !again || c.held && (again || own) }
            if o' = o then s.setOut x.2 c
            else s.setOut x.2 { c with matched := some o', slip := if c.fade.isSome || s.chanNon x.1 c 5 then none else some (o, 0) }
      | none => s) s

/-- The override reaches or leaves the slots of a destination that EVAC_AUDIO names, at its frame boundary (10 R403). -/
def State.evacSlots (s : State) (dest : Nat) (on : Bool) : State :=
  s.outAddrs.zipIdx.foldl (fun (s : State) x =>
    let c := s.outCh x.2
    if adKind x.1 ≠ 0 || indexOfId (adId x.1) ≠ dest || (s.announcement x.1).isNone || c.evac = on then s
    else s.setOut x.2 { c with evac := on, cross := some (on, 0) }) s

/-! ### TDM ports (10 R397 to R400) -/

def State.tdmSt (s : State) (p : Nat) : Tdm := lookD p s.aud.tdm {}

/-- A port takes a state, which its registers show; the FIFOs hold four frames while it runs (log entry 37). -/
def State.setTdm (s : State) (p : Nat) (x : Tdm) : State :=
  let s := { s with aud.tdm := put p x s.aud.tdm }
  let s := (s.set (R.TDM_STATE p) x.state).set (R.TDM_SLOTS p) (byteAt (s.tdmRec p) 1)
  (s.set (R.TDM_FIFO_IN p) (if x.state = 2 then 4 else 0)).set (R.TDM_FIFO_OUT p) (if x.state = 2 then 4 else 0)

/-- The numbers of the input channels of a port, in slot order. -/
def State.tdmIns (s : State) (p : Nat) : List Nat :=
  (List.range (byteAt (s.tdmRec p) 3)).filterMap (fun j => placeOf s.inAddrs (adOfTdm p j))

/-- A port enters MUTING (10 R400): its input FIFO is discarded and its channels ramp to zero. -/
def State.tdmMute (s : State) (p : Nat) : State :=
  let s := (s.tdmIns p).foldl (fun s i =>
    let c := s.inCh i
    s.setIn i { c with placed := [], ramp := if c.down then none else some (false, 0) }) s
  s.setTdm p { state := 3, since := s.up, up := 0 }

/-- The sample count nearest an instant. -/
def countNear (t : Time) : Nat := (2 * t * 48000 + sec) / (2 * sec)

/-- The samples that a frame beginning now sends on DO (10 R394, R399, R400): those of the count four before the nearest. -/
def State.tdmSend (s : State) (p : Nat) : State :=
  let x := s.tdmSt p
  let up := s.ramp
  let r := min up 48
  let k : Int := (s.aud.count + 5 : Nat) - ((countNear s.now : Int) - 4)
  let value (j : Nat) : Int :=
    let v := if k < 0 then 0 else match placeOf s.outAddrs (adOfTdm p j) with
      | some o => (s.outCh o).hist.getD k.toNat 0
      | none => 0
    if x.state = 2 then (if x.up < 4 then 0 else if x.up - 4 < up then scaled v (x.up - 3) up else v)
    else if x.state = 3 && x.up < r then scaled v (r - (x.up + 1)) r
    else 0
  (s.setTdm p { x with up := x.up + 1 }).emit (.tdm p ((List.range (byteAt (s.tdmRec p) 1)).map value))

/-- 10 R373, R399: an FS edge that ends a frame of `periods` BCLK periods with the input samples `ins`, one for each slot, and begins the next. The samples of
a frame have the count nearest the edge that began it, plus 4. -/
def execTdmFsEdge (t : Time) (p : Fin 8) (periods : Nat) (ins : List Int) (s : State) : Host.Outcome State Fault Refusal :=
  released t s fun s =>
    let x := s.tdmSt p
    let good := periods = byteAt (s.tdmRec p) 1 * 32
    if x.state = 0 then s
    else
      let s := if x.state = 1 then
          (if good then (s.setTdm p { state := 2, since := s.up, up := 0 }).tdmSend p else s.emit (.tdm p (List.replicate (byteAt (s.tdmRec p) 1) 0)))
        else if x.state = 3 then s.tdmSend p
        else if !good then ((s.bump (R.TDM_FRAME_ERR p) 1).tdmMute p).tdmSend p
        else
          let s := (s.tdmIns p).zipIdx.foldl (fun s y =>
            let c := s.inCh y.1
            s.setIn y.1 { c with placed := put (countNear x.edge + 4) (ins.getD y.2 0, false) c.placed }) s
          (s.bump (R.TDM_FRAMES p) 1).tdmSend p
      s.setTdm p { s.tdmSt p with edge := s.now }

/-- 10 R399: a RUNNING port loses its frames: no FS edge in time (0), BCLK absent (1), an overrun or underrun of a FIFO (2). -/
def execTdmSyncLoss (t : Time) (p : Fin 8) (cause : Fin 3) (s : State) : Host.Outcome State Fault Refusal :=
  released t s fun s =>
    if (s.tdmSt p).state ≠ 2 then s
    else (s.bump (if cause.val = 2 then R.TDM_SLIPS p else R.TDM_FRAME_ERR p) 1).tdmMute p

/-- 10 R399: min(RAMP, 48) samples after its entry a MUTING port waits for sync, and TDM_SLIP is logged. -/
def execTdmMutingEnd (t : Time) (p : Fin 8) (s : State) : Host.Outcome State Fault Refusal :=
  released t s fun s =>
    let x := s.tdmSt p
    if x.state = 3 && x.since + min s.ramp 48 * sec / 48000 ≤ s.up then
      (s.setTdm p { state := 1, since := s.up, up := 0 }).event 32 1 0x0301 (beBytes 1 p)
    else s

/-! ### Start and reset (10 R366, R381, R406, R407) -/

/-- The TDM ports with a record wait for sync (10 Table 10.6), and the channels are numbered. -/
def State.audServe (s : State) : State :=
  let s := (s.set R.AUD_OUT_CH s.outAddrs.length).set R.AUD_IN_CH s.inAddrs.length
  let s := (List.range 8).foldl (fun s p => if s.tdmRec p = [] then s else s.setTdm p { state := 1, since := s.up }) s
  { s with aud.on := true }.audStat

/-- The parameters at start: SILENCE, the AUD_ROUTE records in image order, the buses and the lines (10 R381). -/
def State.audStart (s : State) : State :=
  let s := { s with aud.outs := s.outAddrs.zipIdx.map (fun (x : Nat × Nat) => (x.2, ({} : OutCh))) }
  let s := (s.recs 0x0181).foldl (fun (s : State) (r : Rec) => (List.range (leAt r.val 0 2)).foldl (fun s i =>
    match placeOf s.outAddrs (leAt r.val (4 + 12 * i) 4) with
    | some o => s.setOut o { s.outCh o with sel := adForm (leAt r.val (8 + 12 * i) 4), gain := leAt r.val (12 + 12 * i) 2 }
    | none => s) s) s
  let s := (s.recs 0x0182).foldl (fun s r =>
    let v := r.val
    s.setBus (leAt v 0 2) {
      low := bit (byteAt v 2) 0, gain := leAt v 4 2
      members := (List.range (byteAt v 3)).map (fun j => (adForm (leAt v (8 + 8 * j) 4), leAt v (12 + 8 * j) 2)) }) s
  (s.recs 0x0183).foldl (fun s r =>
    { s with aud.lines := put (leAt r.val 0 2) { len := leAt r.val 8 4 } s.aud.lines }) s

/-- The tag of the condition "AUD is being reset". -/
def tagAudReset : Nat := 16

/-- A reset of AUD begins (10 R406): outputs carry zeros, the TDM ports are OFF, and the chip raises F2 with AUD_RESET. -/
def State.audDown (s : State) : State :=
  if s.has (rstNow 32) then s
  else
    let s := (s.beginReset 32).clearWindow 32
    let s := (List.range 8).foldl (fun s p => { s with aud.tdm := drop p s.aud.tdm }) s
    { s with aud.on := false }.raise 32 2 0x0300 tagAudReset [] { typ := 3, master := 0x40 + 32 }

/-- The Spindle has reloaded AUD's parameters (10 R407): every output ramps from zero and the TDM ports start from WAIT_SYNC. The
samples of before are gone, but for those in bobbins. -/
def State.audUp (s : State) : State :=
  if !s.has (rstNow 32) then s
  else
    let s := (s.set (rstNow 32) 0).resolve 32 tagAudReset
    let outs := s.aud.outs.map (fun (x : Nat × OutCh) => (x.1, { x.2 with
      fade := none, gfade := none, slip := none, cross := none, evac := x.2.evac, zeros := 0, quiet := 0, last := 0, hist := [] }))
    { s with aud.ins := [], aud.far := [], aud.slipped := [], aud.outs := outs, aud.fadeUp := some 0 }.audServe

/-- 10 R406: AUD is reset. -/
def execAudReset (t : Time) (s : State) : Host.Outcome State Fault Refusal := served t s State.audDown

/-- 10 R407: AUD's parameters are reloaded. -/
def execAudReload (t : Time) (s : State) : Host.Outcome State Fault Refusal := served t s State.audUp

/-! ### Requests (10 R368, R375, R380, R384, R393; 15 Table 15.4; 16 R598) -/

/-- The right over the owner of an address (16 R598). -/
def audioNeed (out : Bool) (a : Nat) : List Need :=
  match adKind a with
  | 0 => [if out then ⟨4, 1, adId a, 2⟩ else ⟨4, 2, adId a, 0⟩]
  | 1 => [⟨4, if out then 8 else 7, adFlow a, 0⟩]
  | 2 => [⟨4, 9, adPort a, 0⟩]
  | 3 => [⟨4, 3, adBus a, 0⟩]
  | 4 => [⟨4, 3, adBus a, 0⟩]
  | _ => []

/-- The entries of an AUD_ROUTE: output, input, gain. -/
def routesOf (ts : List Tlv) : List (Nat × Nat × Nat) :=
  (ts.filter (fun v => v.typ = 0x10)).map (fun v => (beAt v.val 0 4, beAt v.val 4 4, beAt v.val 8 2))

/-- The members of a BUS_SET. -/
def membersOf (ts : List Tlv) : List (Nat × Nat) :=
  (ts.filter (fun v => v.typ = 0x12)).map (fun v => (beAt v.val 0 4, beAt v.val 4 2))

/-- 10 R368, R382, R384: AUD_ROUTE. It joins the cycle; a refused request changes nothing. -/
def execAudRoute (t : Time) (q : Req) (s : State) : Host.Outcome State Fault Refusal :=
  served t s fun s =>
    s.request ⟨0x20, true, [⟨[0x10], 1, 86⟩]⟩ q
      (firstLack (fun ts => (routesOf ts).flatMap (fun r => audioNeed true r.1 ++ audioNeed false r.2.1))) fun s c =>
      let l := routesOf c.ts
      if l.any (fun r => adBad .out r.1 || adBad .inp r.2.1 || !gainOk r.2.2) then s.badValue c 0x10
      else if l.any (fun r => (placeOf s.outAddrs r.1).isNone || s.noInput r.2.1) then s.noSignal c 0x10
      else s.enqueue c (.audRoute t q)

/-- 10 R368, R375, R380, R384: BUS_SET. -/
def execBusSet (t : Time) (q : Req) (s : State) : Host.Outcome State Fault Refusal :=
  served t s fun s =>
    s.request ⟨0x21, true, [one 0x11, ⟨[0x12], 0, 64⟩]⟩ q
      (firstLack (fun ts => ⟨4, 3, fld ts 0x11 0 2, 0⟩ :: (membersOf ts).flatMap (fun m => audioNeed false m.1))) fun s c =>
      let l := membersOf c.ts
      let b := fld c.ts 0x11 0 2
      if !gainOk (fld c.ts 0x11 4 2) then s.badValue c 0x11
      else if l.any (fun m => adBad .member m.1 || !gainOk m.2) || !(l.map (fun m => adForm m.1)).Nodup then s.badValue c 0x12
      else if l.any (fun m => s.noInput m.1) then s.noSignal c 0x12
      else if s.busLow b && l.any (fun m => !s.lowInput m.1) then s.reply (c.re 0x0013)
      else s.enqueue c (.busSet t q)

/-- 10 R393: AUD_DELAY_SET. A line that no record defines does not exist. -/
def execAudDelaySet (t : Time) (q : Req) (s : State) : Host.Outcome State Fault Refusal :=
  served t s fun s =>
    s.request ⟨0x22, true, [one 0x13]⟩ q (firstLack (fun ts => [⟨4, 10, fld ts 0x13 0 2, 0⟩])) fun s c =>
      if 1024 ≤ fld c.ts 0x13 0 2 then s.badValue c 0x13
      else if s.alineRec (fld c.ts 0x13 0 2) = [] then s.noSignal c 0x13
      else s.enqueue c (.audDelaySet t q)

/-- The flip instant of an output channel for the cycle that ends at boundary `b` (10 R390). -/
def State.flipAt (s : State) (a : Nat) (b : Time) : Time :=
  if adKind a = 0 then boundaryFrom (s.dstRate (indexOfId (adId a))) b else b

end Sys2Proof.Machine
end

