-- ==== Sys2Proof/Machine/Multiviewer.lean ====
section
/-! DEFINITION. The multiviewer: heads, windows, what a window shows, meters, and the requests that change them (11). -/

namespace Sys2Proof.Machine

/-! ### Heads -/

def State.head (s : State) (h : Nat) : Head := lookD h s.mv.heads {}
def State.setHead (s : State) (h : Nat) (x : Head) : State := { s with mv.heads := put h x s.mv.heads }

/-- The source record of a head (11 R408); none for a head that is OFF. -/
def State.headSrc (s : State) (h : Nat) : Option (List Byte) :=
  ((s.recs 0x0101).find? (fun r => recKind r.val = 4 && recBind r.val = h)).map (·.val)

/-- Format and frame rate of a head. -/
def State.headFormat (s : State) (h : Nat) : Nat := ((s.headSrc h).map recFormat).getD 0
def State.headRate (s : State) (h : Nat) : Nat := fmtRate (s.headFormat h)

/-- WIN_HOLD (11 Table 11.8). -/
def State.winHold (s : State) (h : Nat) : Nat := orDef (byteAt (s.headRec h) 3) 10

/-- A head that the evacuation override designates (11 R410; 21 R746). -/
def State.designated (s : State) (h : Nat) : Bool :=
  s.evacHead h || ((s.recs 0x0231).flatMap (fun r => (List.range (leAt r.val 0 2)).map (fun i => byteAt r.val (6 + 4 * i)))).contains h

/-! ### Windows -/

/-- A window as WINDOW_SET or a WINDOW record gives it (11 Table 11.9). -/
structure WinReq where
  h : Nat
  k : Nat
  z : Nat
  src : Nat
  x : Nat
  y : Nat
  w : Nat
  ht : Nat
  crop : Nat × Nat × Nat × Nat
deriving DecidableEq, Repr

/-- The fields of a WINDOW record (`f` reads little-endian) or TLV (`f` reads in network order). -/
def winReq (f : Nat → Nat → Nat) : WinReq :=
  ⟨f 0 1, f 1 1, f 2 1, f 4 4, f 8 2, f 10 2, f 12 2, f 14 2, (f 16 2, f 18 2, f 20 2, f 22 2)⟩

/-- The window of a record. -/
def winOfRec (v : List Byte) : WinReq := winReq (leAt v)

/-- The bytes of a WINDOW record for a window. -/
def WinReq.bytes (r : WinReq) : List Byte :=
  beBytes 1 r.h ++ beBytes 1 r.k ++ beBytes 1 r.z ++ [0] ++ leBytes 4 r.src ++ leBytes 2 r.x ++ leBytes 2 r.y ++ leBytes 2 r.w
    ++ leBytes 2 r.ht ++ leBytes 2 r.crop.1 ++ leBytes 2 r.crop.2.1 ++ leBytes 2 r.crop.2.2.1 ++ leBytes 2 r.crop.2.2.2

/-- The number of a window. -/
def WinReq.num (r : WinReq) : Nat := 64 * r.h + r.k

/-- The format of a source by its global ID. -/
def State.formatOf (s : State) (id : Nat) : Nat :=
  if s.ours id then ((s.srcRec (indexOfId id)).map recFormat).getD 0 else Config.farSource id 1

/-- The crop in use: W of 0 selects the whole source (11 R414). -/
def State.cropOf (s : State) (r : WinReq) : Nat × Nat × Nat × Nat :=
  if r.crop.2.2.1 = 0 then
    let f := s.formatOf r.src
    (0, 0, rasterW (fmtRaster f), rasterH (fmtRaster f))
  else r.crop

/-- The buffers of a window that stand: the one shown, and one that it is changing to (11 R419). -/
def Win.bufs (w : Win) : List WinBuf := w.buf :: (w.change.map (fun c => c.1)).toList

/-- The heads that a head's windows show or are changing to. -/
def State.headsShown (s : State) (h : Nat) : List Nat :=
  ((s.mv.wins.filter (fun w => w.1 / 64 = h)).flatMap (·.2.bufs)).filterMap (fun b =>
    if s.ours b.src then (s.srcRec (indexOfId b.src)).bind (fun v => if recKind v = 4 then some (recBind v) else none) else none)

/-- Do the windows of head `a` reach head `b` through a chain of heads? -/
def State.reaches (s : State) (b : Nat) : Nat → Nat → Bool
  | 0, _ => false
  | n + 1, a => a = b || (s.headsShown a).any (s.reaches b n)

/-- Is the source of a window its own head, or a head whose windows reach it (11 Table 11.3)? -/
def State.winLoops (s : State) (r : WinReq) : Bool :=
  s.ours r.src && (s.srcRec (indexOfId r.src)).any (fun v => recKind v = 4 && s.reaches r.h 17 (recBind v))

/-- The limits of R414 and the fields' ranges, broken (11 R413 to R415). -/
def State.winBad (s : State) (r : WinReq) : Bool :=
  let f := s.formatOf r.src
  let (cx, cy, cw, ch) := s.cropOf r
  let (hw, hh) := (rasterW (fmtRaster (s.headFormat r.h)), rasterH (fmtRaster (s.headFormat r.h)))
  16 ≤ r.h || 64 ≤ r.k || 64 ≤ r.z || 2 ^ 20 ≤ r.src
    || hw < r.x + r.w || hh < r.y + r.ht || r.w % 2 ≠ 0 || r.ht % 2 ≠ 0 || r.w < 256 || r.ht < 144
    || rasterW (fmtRaster f) < cx + cw || rasterH (fmtRaster f) < cy + ch || cw < 64 || ch < 36
    || r.w * 16 < cw || 4 * cw < r.w || r.ht * 16 < ch || 4 * ch < r.ht || s.winLoops r

/-- The source has no picture that a window can show (11 Table 11.3). -/
def State.winFormatBad (s : State) (r : WinReq) : Bool :=
  s.keyKind (s.srcKey r.src) = 2 || fmtRaster (s.formatOf r.src) = 0

/-- The window of a WINDOW TLV. -/
def winOfTlv (ts : List Tlv) : WinReq := winReq (fld ts 0x14)

/-- 11 R413 to R415: WINDOW_SET. -/
def execWindowSet (t : Time) (q : Req) (s : State) : Host.Outcome State Fault Refusal :=
  served t s fun s =>
    s.request ⟨0x30, true, [one 0x14]⟩ q
      (firstLack (fun ts => [⟨5, 4, (winOfTlv ts).h, 0⟩, ⟨2, 2, (winOfTlv ts).src % 2 ^ 20, 0⟩])) fun s c =>
      let r := winOfTlv c.ts
      if 16 ≤ r.h || 64 ≤ r.k || 64 ≤ r.z || 2 ^ 20 ≤ r.src || fld c.ts 0x14 3 1 ≠ 0 then s.badValue c 0x14
      else if (s.headSrc r.h).isNone || (s.ours r.src && (s.srcRec (indexOfId r.src)).isNone) then s.noSignal c 0x14
      else if s.winFormatBad r then s.reply (c.re 0x0013)
      else if s.winBad r then s.badValue c 0x14
      else s.enqueue c (.windowSet t q)

/-- 11 R418: WINDOW_CLEAR. -/
def execWindowClear (t : Time) (q : Req) (s : State) : Host.Outcome State Fault Refusal :=
  served t s fun s =>
    s.request ⟨0x31, true, [one 0x15]⟩ q (firstLack (fun ts => [⟨5, 4, fld ts 0x15 0 1, 0⟩])) fun s c =>
      if (s.headSrc (fld c.ts 0x15 0 1)).isNone then s.noSignal c 0x15 else s.enqueue c (.windowClear t q)

/-- Is an ORDER a permutation of the four classes (11 R427)? -/
def orderOk (o : Nat) : Bool := [o % 4, o / 4 % 4, o / 16 % 4, o / 64 % 4].Nodup

/-- 11 R427: LAYER_ORDER. -/
def execLayerOrder (t : Time) (q : Req) (s : State) : Host.Outcome State Fault Refusal :=
  served t s fun s =>
    s.request ⟨0x32, true, [one 0x16]⟩ q (firstLack (fun ts => [⟨5, 4, fld ts 0x16 0 1, 0⟩])) fun s c =>
      let h := fld c.ts 0x16 0 1
      if !orderOk (fld c.ts 0x16 1 1) then s.badValue c 0x16
      else if (s.headSrc h).isNone then s.noSignal c 0x16
      else if bit (byteAt (s.headRec h) 1) 0 then s.badState c
      else s.enqueue c (.layerOrder t q)

/-! ### Changes that a close admits (11 R418, R419, R427) -/

/-- The effective instant of a window change: the head's first frame boundary on or after the boundary that ends the cycle. -/
def State.headAt (s : State) (h : Nat) (b : Time) : Time := boundaryFrom (s.headRate h) b

/-- Does a change keep a buffer: the same source, crop and size (11 R419)? -/
def WinBuf.same (b : WinBuf) (r : WinReq) (crop : Nat × Nat × Nat × Nat) : Bool :=
  b.src = evenForm r.src && b.crop = crop && b.w = r.w && b.h = r.ht

/-- Does a WINDOW_SET keep the buffer that the window has, or is changing to (11 R419)? -/
def Win.keeps (w : Win) (r : WinReq) (crop : Nat × Nat × Nat × Nat) : Bool :=
  w.ends.isNone && ((w.change.map (·.1)).getD w.buf).same r crop

/-- A window is created or changed from an instant. -/
def State.applyWindow (s : State) (v : List Byte) (engine : Option Nat) (due : Time) : State :=
  let r := winOfRec v
  let crop := s.cropOf r
  let buf : WinBuf := { src := evenForm r.src, crop := crop, w := r.w, h := r.ht, engine := engine }
  let w : Win := match look r.num s.mv.wins with
    | some w =>
      if w.keeps r crop then (match w.change with
        | some (b, _, at_, n) => { w with change := some (b, (r.x, r.y, r.z), at_, n) }
        | none => { w with move := some (r.x, r.y, r.z, due) })
      else { w with change := some ({ buf with slot := 1 - w.buf.slot }, (r.x, r.y, r.z), due, 0), move := none, ends := none }
    | none => { z := r.z, x := r.x, y := r.y, buf := buf, from_ := due }
  { s with mv.wins := put r.num w s.mv.wins }.journalAdd (.window v)

/-- A window is removed at an instant. -/
def State.applyClear (s : State) (win : Nat) (due : Time) : State :=
  match look win s.mv.wins with
  | some w => { s with mv.wins := put win { w with ends := some due } s.mv.wins }.journalAdd (.windowClear (win / 64) (win % 64))
  | none => s

/-- A new ORDER from an instant. -/
def State.applyOrder (s : State) (h o : Nat) (due : Time) : State :=
  (s.setHead h { s.head h with orderPend := some (o, due) }).journalAdd (.order h o)

/-- What names a head as a source: a window of another head, or, for `named`, a route or bobbin write (11 Table 11.1). -/
def State.headUsed (s : State) (named : Nat → Bool) (h : Nat) : Bool :=
  s.designated h || s.mv.wins.any (fun w => w.1 / 64 = h) || (List.range 16).any (fun g => (s.headsShown g).contains h) || named h

/-- The heads' states at a cycle close whose cycle ends at boundary `b` (11 Table 11.1). -/
def State.headStates (s : State) (named : Nat → Bool) (b : Time) : State :=
  (List.range 16).foldl (fun s h =>
    if (s.headSrc h).isNone then s
    else
      let x := s.head h
      let used := s.headUsed named h
      if used && !x.on then s.setHead h { x with on := true, from_ := s.headAt h b }
      else if !used && x.on then s.setHead h { x with on := false, lastFrame := none, pic := .fill }
      else s) s

/-! ### Window engines (11 R420) -/

/-- May a frame of the source be written: its measured format is the record's (11 R420)? That of a far source comes with its frames (13 R510). -/
def State.winFrameOk (s : State) (src : Nat) : Bool :=
  if !s.ours src then (look (s.srcKey src) s.xp.srcFrames).all (fun f => fmtMatch f.fmt (s.formatOf src))
  else (s.srcRec (indexOfId src)).any (fun v =>
    if recKind v = 0 then fmtMatch (s.groupFormat (recLanes v)) (recFormat v)
    else if recKind v = 1 then ((s.keyFlows (indexOfId src)).find? flowVideo).any (fun w =>
      fmtMatch (s.get (R.IF_STAT_FORMAT (flowCluster w) (leAt w 0 2))) (recFormat v))
    else true)

/-- A frame joins a buffer of three in place of the oldest one that the head is not reading. -/
def WinBuf.write (b : WinBuf) (shown : Option Nat) (m : Time) (crc : Nat) : WinBuf :=
  let l := if b.frames.length < 3 then b.frames
    else match b.frames.find? (fun f => shown ≠ some f.1) with
      | some f => b.frames.filter (fun x => x.1 ≠ f.1)
      | none => b.frames
  { b with frames := l ++ [(b.next, m, crc)], next := b.next + 1 }

/-- The cells of a frame of a window's buffer (11 R417), and its bytes in its bobbin (11 Table 11.4). -/
def State.winCells (s : State) (h : Nat) (b : WinBuf) : Nat := cellsOf b.w b.h (samplingBits (fmtSampling (s.headFormat h)))
def State.winBytes (s : State) (h : Nat) (b : WinBuf) : Nat := 256 * s.winCells h b

/-- An engine has written a frame of a buffer of a window: its cells pass the meter of their connection and cross to the DRAM groups (03 R102; 11 R417).
A still's window writes through no metered connection. -/
def State.winWritten (s : State) (win : Nat) (b : WinBuf) : State :=
  let rate := fmtRate (s.formatOf b.src)
  (s.enterCells (.winWrite (2 * win + b.slot)) ((b.engine.map (· / 32)).getD 0) b.next (s.winCells (win / 64) b)
    (rateDen rate * sec * 24 / (25 * max 1 (rateNum rate)))).rowsMoved true (s.winBytes (win / 64) b)

/-- Cells of the frame that a window shows that were lost on their way into its buffer (11 Table 11.7). -/
def State.winMarked (s : State) (win : Nat) (w : Win) : Nat := (w.shown.map (fun f => s.markedCells (· = .winWrite (2 * win + w.buf.slot)) f)).getD 0

/-- The frame that a window shows is read for head frame `n` (09 R339; 08 R324). -/
def State.winRead (s : State) (win n : Nat) (w : Win) : State :=
  let h := win / 64
  let s := (s.rowsMoved false (s.winBytes h w.buf)).sendCells (.winRead (2 * win + w.buf.slot)) n (s.winCells h w.buf)
  s.lostCells (s.winMarked win w)

/-- Does an engine write a source frame into a buffer: its measured format is the record's, and its cluster is not in reset (11 R420, R438)? -/
def State.winWrites (s : State) (b : WinBuf) : Bool := s.winFrameOk b.src && !b.engine.any (fun e => s.has (rstNow (e / 32)))

/-- 11 R420: a window's engine has written a whole source frame with nominal instant `m`; `crc` stands for its scaled content. From the
effective instant of a change the new engine writes the new buffer (R419). -/
def execWindowEngineWrite (t : Time) (win : Fin 1024) (m : Time) (crc : Nat) (s : State) : Host.Outcome State Fault Refusal :=
  released t s fun s =>
    match look win.val s.mv.wins with
    | none => s
    | some w =>
      let set (w : Win) (b : WinBuf) : State := { s with mv.wins := put win w s.mv.wins }.winWritten win b
      match w.change with
      | some (b, g, at_, n) =>
        if at_ ≤ s.now then (if s.winWrites b then set { w with change := some (b.write none m crc, g, at_, n) } b else s)
        else if s.winWrites w.buf then set { w with buf := w.buf.write w.shown m crc } w.buf else s
      | none => if w.from_ ≤ s.now && s.winWrites w.buf then set { w with buf := w.buf.write w.shown m crc } w.buf else s

/-! ### Which frame a window shows (11 R421 to R423) -/

/-- Is a source a still? A still window always selects its one written frame. -/
def State.isStill (s : State) (src : Nat) : Bool := s.keyKind (s.srcKey src) = 3

/-- The newest frame that may be shown in the head frame of instant `a` (11 R422): m ≤ A_n − P_s − 3 ms. -/
def State.winPick (s : State) (b : WinBuf) (a : Time) : Option (Nat × Time × Nat) :=
  let r := fmtRate (s.formatOf b.src)
  if s.isStill b.src then b.frames.getLast?
  else (b.frames.filter (fun f => (f.2.1 + 3 * ms) * rateNum r + rateDen r * sec ≤ a * rateNum r)).getLast?

/-- NO_SIGNAL of a window changes, with its event (21 Table 21.2). -/
def State.winSignal (s : State) (win : Nat) (w : Win) (no : Bool) : State :=
  let s := { s with mv.wins := put win { w with noSignal := no } s.mv.wins }
  if w.noSignal = no then s
  else s.event (win / 64) 0 0x0604 (beBytes 1 (win / 64) ++ beBytes 1 (win % 64) ++ beBytes 1 (b2n no))

/-- The selection of a window for a head frame, with REPEATS and DROPS (11 R422, R423). A still shows its frame without end (log entry 39). -/
def State.winSelect (s : State) (win : Nat) (w : Win) (a : Time) : State :=
  let (h, k) := (win / 64, win % 64)
  match s.winPick w.buf a, w.shown with
  | none, _ => s.winSignal win { w with gap := w.gap + 1 } w.noSignal
  | some f, none => s.winSignal win { w with shown := some f.1, gap := 0 } false
  | some f, some p =>
    if f.1 ≤ p then
      (s.bump (R.WIN_REPEATS h k) 1).winSignal win { w with gap := if s.isStill w.buf.src then 0 else w.gap + 1 } w.noSignal
    else (s.bump (R.WIN_DROPS h k) (f.1 - p - 1)).winSignal win { w with shown := some f.1, gap := 0 } false

/-- The window takes its new buffer and place (11 R419). The head frames without a new one count on (R423). -/
def Win.switch (w : Win) (b : WinBuf) (g : Nat × Nat × Nat) : Win :=
  { w with buf := b, x := g.1, y := g.2.1, z := g.2.2, change := none, shown := none }

/-- A window at the head frame of instant `a`: its removal, its changes and its selection. Until the switch it selects among the frames of the old buffer, which
end in its last whole one. -/
def State.winFrame (s : State) (win : Nat) (w : Win) (a : Time) : State :=
  if w.ends.any (· ≤ a) then { s with mv.wins := drop win s.mv.wins }
  else if a < w.from_ then s
  else
    let w := match w.move with
      | some (x, y, z, at_) => if at_ ≤ a then { w with x := x, y := y, z := z, move := none } else w
      | none => w
    match w.change with
    | some (b, g, at_, n) =>
      if a < at_ then s.winSelect win w a
      else if (s.winPick b a).isSome then s.winSelect win (w.switch b g) a
      else if s.winHold (win / 64) ≤ n + 1 then s.winSelect win (w.switch b g) a
      else s.winSelect win { w with change := some (b, g, at_, n + 1) } a
    | none => s.winSelect win w a

/-- 11 R423: a window that has selected no new frame for WIN_HOLD head frames becomes transparent. -/
def execWinHoldExpiry (t : Time) (win : Fin 1024) (s : State) : Host.Outcome State Fault Refusal :=
  released t s fun s =>
    match look win.val s.mv.wins with
    | some w => if s.winHold (win.val / 64) ≤ w.gap && !w.noSignal then s.winSignal win w true else s
    | none => s

/-! ### Meters (11 R430, R431) -/

/-- The level of a bar: a magnitude and the head frames it has fallen for. Is the first at least as high as the second, at FALL dB/s and a
frame rate? 20 × log10(p) − FALL × k × P_h is compared by exact powers. -/
def barAbove (rate fall : Nat) (x y : Nat × Nat) : Bool :=
  let e := 20 * rateNum rate
  let low := min x.2 y.2
  y.1 ^ e * 10 ^ (fall * (x.2 - low) * rateDen rate) ≤ x.1 ^ e * 10 ^ (fall * (y.2 - low) * rateDen rate)

/-- Is pixel `i` of a bar of length `l` lit (11 R431): d ≥ −60 + 60 × (i + 1) / l? -/
def barLit (rate fall l i : Nat) (x : Nat × Nat) : Bool :=
  let e := 20 * rateNum rate * l
  8388607 ^ e * 10 ^ (60 * rateNum rate * (i + 1) + fall * x.2 * rateDen rate * l) ≤ x.1 ^ e * 10 ^ (60 * rateNum rate * l)

/-- The lit pixels of a bar, which are the first ones. -/
def barLength (rate fall l : Nat) (x : Nat × Nat) : Nat :=
  if x.1 = 0 then 0 else min l (greatest (fun n => n ≤ l && barLit rate fall l (n - 1) x) 12 0)

/-- FALL and HOLD of a head (11 Table 11.8): dB/s, and the hold in head frames. -/
def State.meterFall (s : State) (h : Nat) : Nat := orDef (byteAt (s.headRec h) 12) 20
def State.meterHold (s : State) (h : Nat) : Nat :=
  orDef (byteAt (s.headRec h) 13) 20 * rateNum (s.headRate h) / (10 * rateDen (s.headRate h))

/-- The meters of a head take the samples since its last frame (11 R430). -/
def State.meterFrame (s : State) (h : Nat) : State :=
  let rate := s.headRate h
  let fall := s.meterFall h
  let x := s.head h
  let bars := (List.range (s.metersOf h).length).map (fun i =>
    let old := lookD i x.bars []
    let p := lookD (h * 128 + i) s.aud.meters 0
    let fallen : Nat × Nat := match old.head? with
      | some d => (d.1, d.2 + 1)
      | none => (0, 0)
    let new : Nat × Nat := if barAbove rate fall (p, 0) fallen then (p, 0) else fallen
    (i, (new :: old).take (max 1 (s.meterHold h))))
  { s.setHead h { x with bars := bars } with aud.meters := s.aud.meters.filter (fun m => m.1 / 128 ≠ h) }

/-- The METER entries of a head: the length of each bar (11 R431). -/
def State.meterLengths (s : State) (h : Nat) : List Nat :=
  ((s.recs 0x0192).filter (fun r => byteAt r.val 0 = h)).flatMap (fun r => (List.range (leAt r.val 2 2)).map (fun i =>
    if bit (byteAt r.val (36 + 16 * i)) 1 then leAt r.val (28 + 16 * i) 2 else leAt r.val (30 + 16 * i) 2))

/-- What the meters show: for each bar the lit pixels, and the number of pixels up to that of the hold value; nothing for a channel that is non-audio or does
not exist (11 R431). -/
def State.meterView (s : State) (h : Nat) : List (Nat × Nat) :=
  let rate := s.headRate h
  let fall := s.meterFall h
  let addrs := s.metersOf h
  (s.meterLengths h).zipIdx.map (fun x =>
    let l := lookD x.2 (s.head h).bars []
    let top := l.foldl (fun (m : Nat × Nat) d => if barAbove rate fall d m then d else m) (0, 0)
    let dead := (addrs[x.2]?).any (fun a => if a.2 then (placeOf s.outAddrs a.1).all (fun o => (s.outCh o).non)
      else (placeOf s.inAddrs a.1).isNone || s.nonAudio a.1)
    if dead then (0, 0) else (barLength rate fall x.1 (l.headD (0, 0)), barLength rate fall x.1 top))

/-! ### What a head shows of itself -/

/-- Does the safety bank hold the image's content (11 R437)? -/
def State.safeReady (s : State) (h : Nat) : Bool := s.hasSafety h && (look (1024 + h) s.bob.bytes).isSome

/-- The window registers of a head (11 Table 11.13). -/
def State.winShow (s : State) (h : Nat) : State :=
  (List.range 64).foldl (fun s k =>
    match look (64 * h + k) s.mv.wins with
    | none => [R.WIN_VALID h k, R.WIN_NO_SIGNAL h k, R.WIN_SHOWING h k, R.WIN_CHANGE_PEND h k, R.WIN_ENGINE h k, R.WIN_Z h k, R.WIN_SRC h k].foldl
        (fun s f => s.set f 0) s
    | some w =>
      let s := ((s.set (R.WIN_VALID h k) 1).set (R.WIN_NO_SIGNAL h k) (b2n w.noSignal)).set (R.WIN_SHOWING h k)
        (b2n (w.shown.isSome && !w.noSignal))
      let s := (s.set (R.WIN_CHANGE_PEND h k) (b2n w.change.isSome)).set (R.WIN_ENGINE h k) (w.buf.engine.getD 0)
      (s.set (R.WIN_Z h k) w.z).set (R.WIN_SRC h k) w.buf.src) s

/-- The engines in use. -/
def State.enginesUsed (s : State) : List Nat :=
  s.mv.wins.flatMap (fun w => w.2.buf.engine.toList ++ ((w.2.change.bind (fun c => c.1.engine))).toList)

/-- The registers of a head and of the engines of its cluster (11 Tables 11.11, 11.14). -/
def State.headShow (s : State) (h : Nat) : State :=
  let x := s.head h
  let st := if (s.headSrc h).isNone then 0 else if x.on then 2 else 1
  let (b0, b1) := (s.banks (256 + 2 * h), s.banks (257 + 2 * h))
  let s := ((s.set (R.HD_STAT_STATE h) st).set (R.HD_STAT_SAFETY_UP h) (b2n x.safety)).set (R.HD_STAT_SAFETY_READY h) (b2n (s.safeReady h))
  let s := ((s.set (R.HD_STAT_GP0_SHOWN h) b0.shown).set (R.HD_STAT_GP1_SHOWN h) b1.shown).set (R.HD_STAT_GP0_FLIP_PEND h) (b2n b0.fence)
  let s := (s.set (R.HD_STAT_GP1_FLIP_PEND h) (b2n b1.fence)).set (R.HD_STAT_FIXED_ORDER h) (bits (byteAt (s.headRec h) 1) 0 0)
  let s := (s.set (R.HD_STAT_ORDER h) x.order).set (R.HD_STAT_WINDOWS h) (s.mv.wins.filter (fun w => w.1 / 64 = h)).length
  let used := s.enginesUsed
  s.set (R.MV_ENG_USED h) (((List.range 32).map (fun e => if used.contains (32 * h + e) then 2 ^ e else 0)).foldl (· + ·) 0)

/-- The engines booked by the whole chip (11 Table 11.14). -/
def State.enginesShow (s : State) : State := s.set R.MV_ENGINES_BOOKED s.enginesUsed.length

/-- A head's frame is a frame of its source: aligned and whole (04 R149), with arrival at its alignment point (log entry 41). -/
def State.headEmit (s : State) (h : Nat) (a : Time) : State :=
  match s.headSrc h with
  | none => s
  | some v =>
    let src := leAt v 0 2
    let pic := (s.head h).pic
    let n := nearestFrame (s.srcRate src) a
    let rate := s.srcRate src
    let s := s.enterCells (.media h src .video) h n (formatCells (recFormat v)) (rateDen rate * sec * 24 / (25 * max 1 (rateNum rate)))
    let s := s.joinFrame src n a false { num := 0, inWin := true, inInner := true, whole := true } true pic []
    let s := s.ringWrite src (recFormat v) (fun k => ⟨k, a, [], false, pic, [], 0, n⟩)
    s.measure false src (pic.samples (recFormat v))

/-- The bobbins of a head frame are read: its windows' buffers, its planes and its safety layer (09 R339). -/
def State.headReads (s : State) (h n : Nat) : State :=
  let wins := s.mv.wins.filter (fun w => w.1 / 64 = h && w.2.shown.isSome)
  let s := wins.foldl (fun (s : State) w => s.winRead w.1 n w.2) s
  (List.range (s.planes h + b2n (s.hasSafety h))).foldl (fun (s : State) _ =>
    s.rowsMoved false (256 * cellsOf (rasterW (fmtRaster (s.headFormat h))) (rasterH (fmtRaster (s.headFormat h))) 32)) s

/-- Heads at start: the ORDER of the records, and the designated heads COMPOSING (11 R409, R410). -/
def State.headStart (s : State) : State :=
  (List.range 16).foldl (fun s h =>
    if (s.headSrc h).isNone then s
    else
      let s := s.setHead h { s.head h with order := orDef (byteAt (s.headRec h) 2) 0xE4, on := s.designated h, from_ := s.headAt h s.now }
      s.headShow h) s

end Sys2Proof.Machine
end

