-- ==== Sys2Proof/Machine/Admission.lean ====
section
/-! DEFINITION. What connections book (03 R99 to R107, R114, R129; 06 R258; 08 R303 to R305, R318 to R323; 11 R417; 13 R494, R503, R504). The
bookings are derived from the routes, takes, salvos, windows and records that make them. -/

namespace Sys2Proof.Machine

/-! ### Rates (03 Table 3.5) -/

/-- Bits per second as whole Mbit/s, rounded up: `num / den` bit/s (03 R99). -/
def mbit (num den : Nat) : Nat := ceilDiv num (den * 1000000)

/-- C × 2048 × f × 1.05 of C cells a frame at a rate code. -/
def cellRate (c rate : Nat) : Nat := mbit (c * 2048 * rateNum rate * 105) (rateDen rate * 100)

/-- C of an ST 2110-22 essence of B Mbit/s: ceil(B / (f × 1920)). -/
def compressedCells (b rate : Nat) : Nat := ceilDiv (b * 1000000 * rateDen rate) (max 1 (rateNum rate) * 1920)

/-- Cv of a source: its video cells per frame; a still's is by its own picture (08 R305). -/
def State.keyCells (s : State) (k : Nat) : Nat :=
  let f := s.keyFormat k
  if s.keyKind k = 2 then compressedCells (s.keyMax k) (fmtRate f) else formatCells f

/-- n channel slots. -/
def audioRate (n : Nat) : Nat := mbit (n * 1638400) 1

/-- An ancillary essence. -/
def ancRate (rate : Nat) : Nat := mbit (32 * 2048 * rateNum rate) (rateDen rate)

/-- The rate of a source's video or ancillary essence; 0 where it has none. -/
def State.keyRate (s : State) (k : Nat) (lv : Level) : Nat :=
  let r := fmtRate (s.keyFormat k)
  match lv with
  | .video => cellRate (s.keyCells k) r
  | .anc => if s.keyAnc k then ancRate r else 0
  | .audio => audioRate (s.keySlots k)

/-! ### Bookings -/

/-- A booking: the resource code of Table 3.7, what it counts on (a cluster, a Strand by its first lane, a port and side), the connection, its
amount, and the meter depth that it adds. -/
structure Bk where
  res : Nat
  unit : Nat
  key : ConnKey
  amount : Nat
  depth : Nat := 0
deriving DecidableEq, Repr

/-- Two bookings that are one: shared in a cluster or on a Strand (03 R100, R101). -/
def Bk.same (a b : Bk) : Bool := a.res = b.res && a.unit = b.unit && a.key = b.key

/-- Bookings without repeats. -/
def shared (l : List Bk) : List Bk := l.foldl (fun acc b => if acc.any b.same then acc else acc ++ [b]) []

/-- The slots of an audio flow's largest packet in cells, and one more, at least 4 (03 R102). -/
def audioDepth (v : List Byte) : Nat :=
  max 4 (1 + ceilDiv (flowSlots v * packetSamples v * wireSample v) 240)

/-- Where an essence of a source of this chip enters, with its slots there and its meter depth (03 R100, R102). -/
def State.entries (s : State) (k : Nat) (lv : Level) : List (Nat × Nat × Nat) :=
  match s.srcRec k with
  | none => []
  | some v =>
    match recKind v with
    | 0 => [(recBind v / 16, recSlots v, 4)]
    | 3 => []
    | 4 => [(recBind v, recSlots v, 4)]
    | _ =>
      ((s.keyFlows k).filter (fun f => flowLevel f = lv)).foldl (fun (m : List (Nat × Nat × Nat)) f =>
        let (n, d) := lookD (flowCluster f) m (0, 4)
        put (flowCluster f) (n + flowSlots f, max d (if lv = .audio then audioDepth f else 7)) m) []

/-- The meter depth of a connection that arrives over a Strand. -/
def State.farDepth (s : State) (k : Nat) (lv : Level) : Nat :=
  if lv = .audio then max 4 (Config.farSource (k - 2 ^ 20) 5) else if s.keyKind k = 1 || s.keyKind k = 2 then 7 else 4

/-- The connections of a source's level, by the cluster where they enter this chip: its own clusters, or that of the Strand `via` for a source
on another pair (13 R504, Table 13.7). Each books the ingress side there. -/
def State.ingress (s : State) (k : Nat) (lv : Level) (via drate : Nat) : List Bk :=
  if isFar k then
    if 256 ≤ via then []
    else if s.keyKind k = 3 then
      (if lv = .video then [⟨1, via / 16, .still k drate, cellRate (s.keyCells k) drate, 4⟩] else [])
    else
      let amount := s.keyRate k lv
      let key : ConnKey := if lv = .audio then .audioIn (via / 16) k else .media (via / 16) k lv
      if amount = 0 then [] else [⟨1, via / 16, key, amount, s.farDepth k lv⟩]
  else
    (s.entries k lv).filterMap (fun e =>
      let amount := if lv = .audio then audioRate e.2.1 else s.keyRate k lv
      let key : ConnKey := if lv = .audio then .audioIn e.1 k else .media e.1 k lv
      if amount = 0 then none else some ⟨1, e.1, key, amount, e.2.2⟩)

/-! ### Egress legs (06 R258) -/

/-- The Mbit/s of a leg of an egress flow for a destination of a format (06 R258). -/
def legRate (v leg : List Byte) (format : Nat) : Nat :=
  let pkt := orDef (leAt v 16 2) 1200
  let head := legHead leg + 20
  let rate := fmtRate format
  match byteAt v 2 with
  | 0 =>
    let (b, p) := videoBytes format pkt
    mbit ((b + p * head) * 8 * rateNum rate) (rateDen rate)
  | 1 =>
    let frame := leAt v 20 4 * 1000000 * rateDen rate
    let packets := ceilDiv frame (8 * max 1 (rateNum rate) * pkt)
    mbit (frame + packets * (4 + head) * 8 * rateNum rate) (rateDen rate)
  | 4 => mbit ((8192 + ceilDiv 8192 pkt * (8 + head)) * 8 * rateNum rate) (rateDen rate)
  | _ =>
    mbit ((flowSlots v * packetSamples v * wireSample v + head) * 8 * 48000) (packetSamples v)

/-- The bookings of an egress flow on its ports. A leg on a port that does not exist is never emitted and books nothing (07 R264; log entry
42). -/
def State.flowLegs (s : State) (v : List Byte) (format : Nat) : List Bk :=
  (egressLegs v).zipIdx.flatMap (fun x =>
    let p := leAt x.1 0 2
    if s.portKind p ≠ 1 then []
    else ((List.range 2).filter (fun side => bit (legSides v x.2 x.1) side)).map (fun side =>
      ⟨0x0A, 2 * p + side, .store 0 (2 * leAt v 0 2 + x.2), legRate v x.1 format, 0⟩))

/-- The egress flows of a destination that carry one level. -/
def State.destLegs (s : State) (dest : Nat) (lv : Level) : List Bk :=
  match s.dstRec dest with
  | none => []
  | some v => ((recFlows v).filterMap s.flowOut).flatMap (fun f => if flowLevel f = lv then s.flowLegs f (recFormat v) else [])

/-! ### Uses: what one level of a destination reads -/

/-- A level of a destination that reads a source: mode, the delay of the destination, and the Strand by which the source arrives. -/
structure Use where
  dest : Nat
  lv : Level
  src : Nat
  mode : TMode
  frames : Nat
  lines : Nat
  via : Nat
deriving DecidableEq, Repr

/-- Does a use read a FRAME_SYNC bobbin (04 Table 4.1, R149)? -/
def State.ringUse (s : State) (u : Use) : Bool := u.lv ≠ .audio && u.mode ≠ .direct && s.keyKind u.src ≠ 3

/-- The bookings of a use on clusters and ports (03 Table 3.6). -/
def State.useBks (s : State) (u : Use) : List Bk :=
  let dc := s.dstCluster u.dest
  let drate := s.dstRate u.dest
  let ing := s.ingress u.src u.lv u.via drate
  let rest := match u.lv with
    | .audio =>
      if s.keySlots u.src = 0 || s.dstSlots u.dest = 0 then []
      else ing ++ [⟨2, dc, .audioOut u.dest, audioRate (s.dstSlots u.dest), 0⟩]
    | lv =>
      if s.keyKind u.src = 3 then
        (if lv = .video then ing ++ [⟨2, dc, .still u.src drate, cellRate (s.keyCells u.src) drate, 0⟩] else [])
      else if ing = [] then []
      else
        let direct := if u.mode = .synced then [] else ing.map (fun b => ({ b with res := 2, unit := dc, depth := 0 } : Bk))
        let read := if u.mode = .direct then []
          else [⟨2, dc, .read u.src lv u.frames u.lines, s.keyRate u.src lv, 0⟩]
        ing ++ direct ++ read
  rest ++ s.destLegs u.dest u.lv

/-! ### The uses that the state holds -/

/-- Two instants from which a destination carries out changes fall on one switching point. -/
def State.samePoint (s : State) (dest : Nat) (a b : Time) : Bool :=
  frameFrom (s.dstRate dest) a = frameFrom (s.dstRate dest) b

/-- The delays of a destination in the span from one instant (none for the present) to another (none for no end): the one that stands, and the
one that awaits its instant. -/
def State.delaysIn (s : State) (dest : Nat) (from_ until_ : Option Time) : List (Nat × Nat) :=
  let d := s.dst dest
  match d.pendDelay with
  | none => [(d.frames, d.lines)]
  | some (f, l, due) =>
    let n (t : Time) : Nat := frameFrom (s.dstRate dest) t
    (if from_.any (fun t => n due ≤ n t) then [] else [(d.frames, d.lines)]) ++ (if until_.any (fun t => n t ≤ n due) then [] else [(f, l)])

/-- The uses of a source at the delays of a span. -/
def State.usesOf (s : State) (dest : Nat) (lv : Level) (src : Option Nat) (mode : TMode) (via : Nat) (from_ until_ : Option Time) : List Use :=
  match src with
  | none => []
  | some k => (s.delaysIn dest from_ until_).map (fun d => ⟨dest, lv, k, mode, d.1, d.2, via⟩)

/-- What a level of a destination is to read in turn: the route that stands, then its pending takes with their places in the single order. -/
def State.chain (s : State) (dest : Nat) (lv : Level) : List (Nat × List Use) :=
  let x := (s.dst dest).level lv
  let due (i : Nat) : Option Time := (x.pend[i]?).map (·.due)
  (0, s.usesOf dest lv x.src x.mode x.via none (due 0)) ::
    x.pend.mapIdx (fun i p => (p.order + 1, s.usesOf dest lv p.src p.mode p.via (some p.due) (due (i + 1))))

/-- The mode of the latest route or take of a level, which MODE 0 keeps (04 Table 4.4). -/
def State.lastMode (s : State) (dest : Nat) (lv : Level) : TMode :=
  let x := (s.dst dest).level lv
  ((x.pend.getLast?).map (·.mode)).getD x.mode

/-- The uses of an item that ends here (13 R507): each level that it names. -/
def State.itemUses (s : State) (it : SItem) (tc : Time) : List (Level × List Use) :=
  if !s.ours it.e.dest || it.outPort ≠ 0xFFFF then []
  else
    let dest := indexOfId it.e.dest
    (levelsOf it.e.levels).map (fun lv =>
      (lv, s.usesOf dest lv ((srcOpt it.e.src).map s.srcKey) (modeOf it.e.mode (s.lastMode dest lv)) it.inPort (some tc) none))

/-! ### Paths across Strands (13 R494, R503 to R505, Table 13.7) -/

/-- The MEDIA ceiling of a Strand in Mbit/s: 90% of the cell rate, rounded down (13 R494). -/
def State.strandCeiling (s : State) (p : Nat) : Nat := s.portGbit p * 1000 * 256 * 9 / 2720

/-- The bookings of an item whose route leaves this chip by a Strand: the connection, where it enters, on the Strand's cluster and on the
Strand. -/
def State.outBks (s : State) (it : SItem) : List Bk :=
  if 256 ≤ it.outPort then []
  else match srcOpt it.e.src with
    | none => []
    | some g =>
      let k := s.srcKey g
      let drate := Config.farSource (evenForm it.e.dest) 1 % 16
      (levelsOf it.e.levels).flatMap (fun lv =>
        let ing := s.ingress k lv it.inPort drate
        let conns : List Bk := if !isFar k && s.keyKind k = 3 && lv = .video then
            [⟨2, 0, .still k drate, cellRate (s.keyCells k) drate, 0⟩]
          else ing
        ing ++ conns.flatMap (fun b =>
          [{ b with res := 2, unit := it.outPort / 16, depth := 0 }, { b with res := 4, unit := it.outPort, depth := 0 }]))

/-! ### Windows, planes and the evacuation override -/

/-- The cluster of a window's engine (11 Table 11.3). -/
def State.winCluster (s : State) (src head via : Nat) : Nat :=
  let k := s.srcKey src
  if isFar k then via / 16
  else match (s.srcRec k).map recKind with
    | some 3 => head
    | _ => (((s.entries k .video).head?).map (·.1)).getD head

/-- What a window's buffer books besides its engine (11 Table 11.4): write, read, space in extents, and Mpixel/s. -/
structure WinBk where
  write : Nat
  read : Nat
  space : Nat
  pixels : Nat
deriving DecidableEq, Repr

/-- The bookings of a buffer of window of head `h`: size, crop and source (11 Table 11.4). -/
def State.winBk (s : State) (h : Nat) (b : WinBuf) : WinBk :=
  let cw := cellsOf b.w b.h (samplingBits (fmtSampling (s.headFormat h)))
  let still := s.isStill b.src
  let rs := fmtRate (s.formatOf b.src)
  { write := if still then 0 else cellRate cw rs
    read := cellRate cw (s.headRate h)
    space := ceilDiv (3 * cw * 256) 1048576
    pixels := if still then 0 else mbit (b.crop.2.2.1 * b.crop.2.2.2 * rateNum rs) (rateDen rs) }

/-- The bookings of a window on clusters. -/
def State.winBks (s : State) (win : Nat) (w : Win) : List Bk :=
  w.bufs.flatMap (fun x =>
    let k := s.winBk (win / 64) x
    let c := (x.engine.map (· / 32)).getD 0
    let depth := if s.keyKind (s.srcKey x.src) = 1 then 7 else 4
    (if k.write = 0 then [] else [⟨1, c, .winWrite (2 * win + x.slot), k.write, depth⟩]) ++
      [⟨2, win / 64, .winRead (2 * win + x.slot), k.read, 0⟩])

/-- Cg of a head (11 Table 11.4). -/
def State.planeCells (s : State) (h : Nat) : Nat :=
  cellsOf (rasterW (fmtRaster (s.headFormat h))) (rasterH (fmtRaster (s.headFormat h))) 32

/-- The reads of a head's planes and safety layer. They are no connections of Table 3.5 (log entry 43). -/
def State.planeBks (s : State) : List Bk :=
  (List.range 16).flatMap (fun h =>
    if (s.headSrc h).isNone then []
    else (List.range (s.planes h + b2n (s.hasSafety h))).map (fun p =>
      ⟨2, h, .store 1 (4 * h + p), cellRate (s.planeCells h) (s.headRate h), 0⟩))

/-- What the evacuation override reads: the head that EVAC_VIDEO gives a destination, on the direct path (03 R114; 21 R746), and the slots that
EVAC_AUDIO gives destinations. -/
def State.evacUses (s : State) : List Use :=
  (s.recs 0x0102).filterMap (fun r =>
    let d := leAt r.val 0 2
    ((s.evacVideo d).bind s.headSrc).map (fun v => ⟨d, .video, leAt v 0 2, .direct, 0, 0, 0xFFFF⟩))

/-- The ingress of an announcement's input: the slots of its source, or of its free flow, named by 2^19 plus its number (10 R401). -/
def State.evacIn (s : State) (a : Nat) : List Bk :=
  if adKind a = 0 then (if s.ours (adId a) then s.ingress (indexOfId (adId a)) .audio 0xFFFF 0 else [])
  else if adKind a = 1 then
    match s.flowIn (adFlow a) with
    | some v => [⟨1, flowCluster v, .audioIn (flowCluster v) (2 ^ 19 + adFlow a), audioRate (flowSlots v), audioDepth v⟩]
    | none => []
  else []

/-- The egress of an output that an EVAC_AUDIO entry names. -/
def State.evacOut (s : State) (a : Nat) : List Bk :=
  if adKind a = 0 then
    let d := indexOfId (adId a)
    if s.ours (adId a) then [⟨2, s.dstCluster d, .audioOut d, audioRate (s.dstSlots d), 0⟩] else []
  else if adKind a = 1 then
    match s.flowOut (adFlow a) with
    | some v => [⟨2, leAt v 32 2 / 16, .audioOut (2 ^ 19 + adFlow a), audioRate (flowSlots v), 0⟩]
    | none => []
  else []

/-- The bookings of the evacuation override, held from start (03 R114; 10 R401; 21 R746). -/
def State.evacBks (s : State) : List Bk :=
  s.evacUses.flatMap s.useBks ++
    (s.recs 0x0185).flatMap (fun r => (List.range (leAt r.val 0 2)).flatMap (fun i =>
      s.evacOut (leAt r.val (4 + 12 * i) 4) ++ s.evacIn (leAt r.val (8 + 12 * i) 4)))

/-- The legs of free egress audio flows, which the engine feeds from start (log entry 42). -/
def State.freeLegs (s : State) : List Bk := (s.freeFlows 0x0142 0x0102).flatMap (fun v => s.flowLegs v 7)

end Sys2Proof.Machine
end

