-- ==== Sys2Proof/Machine/Budget.lean ====
section
/-! DEFINITION. The budgets of Table 3.7, what the bobbins need, and what the chip sets after a close to the bookings that stand (03 R104 to R107,
R129; 06 R243; 08 R299 to R305, R322, R323; 09 R351, R355). -/

namespace Sys2Proof.Machine

/-! ### Every booking -/

/-- A step of a level's chain with its place in the single order and its bookings. -/
structure Step where
  dest : Nat
  lv : Level
  order : Nat
  uses : List Use
  bks : List Bk
deriving DecidableEq, Repr

/-- The destinations of this chip, by their records. -/
def State.dests (s : State) : List Nat := (s.recs 0x0102).map (fun r => leAt r.val 0 2)

/-- The entries of salvo shares for one level of a destination, after its pending takes. -/
def State.shareSteps (s : State) (dest : Nat) (lv : Level) : List (Nat × List Use) :=
  s.xp.shares.flatMap (fun x =>
    if x.decided = some false then []
    else x.items.flatMap (fun it =>
      if indexOfId it.e.dest ≠ dest then []
      else (s.itemUses it x.tc).filterMap (fun u => if u.1 = lv then some (x.order + 1, u.2) else none)))

/-- The steps of a level of a destination: its route, its pending takes, and the salvos' entries. -/
def State.stepsOf (s : State) (dest : Nat) (lv : Level) : List Step :=
  (s.chain dest lv ++ s.shareSteps dest lv).map (fun x => ⟨dest, lv, x.1, x.2, shared (x.2.flatMap s.useBks)⟩)

/-- The chains of every level of every destination. -/
def State.chains (s : State) : List (List Step) :=
  s.dests.flatMap (fun d => [Level.video, .audio, .anc].map (s.stepsOf d))

/-- The reads that are kept for destinations until they show a whole frame of their new source (04 R146). -/
def State.keptBks (s : State) : List Bk :=
  s.xp.dst.flatMap (fun d => [(Level.video, d.2.v), (.anc, d.2.x)].flatMap (fun (y : Level × Shown) => match y.2.kept with
    | some (.ring k _) => [⟨2, s.dstCluster d.1, .read k y.1 d.2.frames d.2.lines, s.keyRate k y.1, 0⟩]
    | some (.still n _) =>
      (((s.recs 0x0101).filter (fun r => recKind r.val = 3 && recBind r.val = n)).take 1).map (fun r =>
        let k := leAt r.val 0 2
        ⟨2, s.dstCluster d.1, .still k (s.dstRate d.1), cellRate (s.keyCells k) (s.dstRate d.1), 0⟩)
    | _ => []))

/-- The ingress of the inputs from which a crossfade is under way (10 R386). -/
def State.fadeBks (s : State) : List Bk :=
  s.aud.outs.flatMap (fun o => match o.2.fade with
    | some (a, _, _) =>
      if adKind a = 0 && !s.ours (adId a) then s.xp.metered.filterMap (fun m => match m.1 with
        | .audioIn c k => if k = s.srcKey (adId a) then some ⟨1, c, .audioIn c k, m.2.1, m.2.2⟩ else none
        | _ => none)
      else s.evacIn a
    | none => [])

/-- The bookings that no route or take makes: paths to other chips, windows, planes, the override, free flows, kept reads, crossfades. -/
def State.otherBks (s : State) : List Bk :=
  s.xp.shares.flatMap (fun x => if x.decided = some false then [] else x.items.flatMap s.outBks)
    ++ s.skn.routes.flatMap (fun r => s.outBks r.item)
    ++ s.mv.wins.flatMap (fun w => s.winBks w.1 w.2)
    ++ s.planeBks ++ s.evacBks ++ s.freeLegs ++ s.keptBks ++ s.fadeBks

/-- Every booking, each once. -/
def State.allBks (s : State) : List Bk :=
  shared (s.otherBks ++ s.chains.flatMap (fun c => c.flatMap (·.bks)))

/-- The sum of the bookings of a resource on a unit. -/
def sumOn (l : List Bk) (res unit : Nat) : Nat := total ((l.filter (fun b => b.res = res && b.unit = unit)).map (·.amount))

/-- The connections that stand: distinct keys of ingress and egress bookings (03 R88). -/
def connKeys (l : List Bk) : List ConnKey :=
  ((l.filter (fun b => (b.res = 1 || b.res = 2) && (match b.key with
    | .store _ _ => false
    | _ => true))).map (·.key)).eraseDups

/-! ### The credit of R104 -/

/-- The pairs of a step and the step that it replaces, of every chain, in the single order. -/
def State.replacements (s : State) : List (Step × Step) :=
  sortBy (fun a b => a.1.order ≤ b.1.order) (s.chains.flatMap (fun c => (c.drop 1).zip c))

/-- The egress bookings of a step in a cluster. -/
def Step.egress (x : Step) (c : Nat) : List Bk := x.bks.filter (fun b => b.res = 2 && b.unit = c)

/-- What the takes that replace a connection do not raise on the egress side of a cluster: for each, the smaller of the rate of the
connections that it is the first to book and of the rate of those that only its level used and that it leaves (03 R104). -/
def State.credit (s : State) (c : Nat) : Nat :=
  let chains := s.chains
  let fixed := s.otherBks.filter (fun b => b.res = 2 && b.unit = c)
  let standing := fixed ++ chains.flatMap (fun l => (l.take 1).flatMap (·.egress c))
  let step (acc : Nat × List Bk) (x : Step × Step) : Nat × List Bk :=
    let new := (x.1.egress c).filter (fun b => !acc.2.any b.same)
    let old := (x.2.egress c).filter (fun b => !(x.1.egress c).any b.same && !fixed.any b.same &&
      !chains.any (fun l => l.any (fun y => !(y.dest = x.2.dest && y.lv = x.2.lv) && (y.egress c).any b.same)))
    (acc.1 + min (total (new.map (·.amount))) (total (old.map (·.amount))), acc.2 ++ new)
  (s.replacements.foldl step (0, standing)).1

/-! ### Bobbins -/

/-- What a FRAME_SYNC bobbin needs: its source, its read connections by delay, whether it has a matched line, and its longest delay in frames of the source, rounded
up (08 R305, R321). -/
structure RingNeed where
  src : Nat
  reads : List (Nat × Nat)
  matched : Bool
  deep : Nat
deriving DecidableEq, Repr

/-- Every use. -/
def State.uses (s : State) : List Use := s.chains.flatMap (fun c => c.flatMap (·.uses))

/-- A delay of a destination in frame periods of a source, rounded up (08 R305, R312). -/
def State.delayFrames (s : State) (k dest f l : Nat) : Nat :=
  let lines := structLines (((s.dstRec dest).map recFormat).getD 0)
  let (d, r) := (s.dstRate dest, s.srcRate k)
  ceilDiv ((f * lines + l) * rateDen d * rateNum r) (lines * max 1 (rateNum d) * rateDen r)

/-- The rings that the uses need, and those of which a slot is kept for a repeat (04 R146). -/
def State.ringNeeds (s : State) : List RingNeed :=
  let us := s.uses
  let ring := us.filter s.ringUse
  let used := (ring.map (·.src)).eraseDups
  let kept := s.xp.dst.flatMap (fun d => [d.2.v, d.2.x].filterMap (fun (y : Shown) => match y.kept with
    | some (.ring k _) => some (k, d.1, d.2.frames, d.2.lines)
    | _ => none))
  let keptOf (k : Nat) : List (Nat × Nat) := (kept.filter (fun x => x.1 = k)).map (·.2.2)
  let deep (k : Nat) : Nat :=
    ((ring.filter (fun u => u.src = k)).map (fun u => s.delayFrames k u.dest u.frames u.lines)
      ++ (kept.filter (fun x => x.1 = k)).map (fun x => s.delayFrames k x.2.1 x.2.2.1 x.2.2.2)).foldl max 0
  used.map (fun k =>
    let mine := ring.filter (fun u => u.src = k)
    ⟨k, (mine.map (fun u => (u.frames, u.lines)) ++ keptOf k).eraseDups,
      mine.any (fun u => u.lv = .video && us.any (fun a => a.lv = .audio && a.src = k && a.dest = u.dest)) && s.keySlots k ≠ 0, deep k⟩)
  ++ (((kept.map (·.1)).filter (fun k => !used.contains k)).eraseDups).map (fun k => ⟨k, (keptOf k).eraseDups, (look k s.aud.matched).isSome, deep k⟩)

/-- S: 4 + ceil(Dmax / P) slots, P being the source's frame period (08 R305). -/
def RingNeed.slots (r : RingNeed) : Nat := 4 + r.deep

/-- The samples of a matched line: S × ceil(48 000 / f) (08 R321). -/
def State.lineLen (s : State) (r : RingNeed) : Nat :=
  let rate := fmtRate (s.keyFormat r.src)
  r.slots * ceilDiv (48000 * rateDen rate) (max 1 (rateNum rate))

/-- Bytes of a sample: 3 or 4 by packing (08 R320). -/
def packBytes (pack : Bool) : Nat := if pack then 3 else 4

/-- BOBBIN.AUD_PACK (08 Table 8.6). -/
def State.audPack (s : State) : Bool := bit (byteAt (s.rec1 0x0160) 0) 0

/-- The rate of `n` channels of an audio line (08 Table 8.3). -/
def lineRate (n : Nat) (pack : Bool) : Nat := mbit (n * 48000 * 8 * packBytes pack) 1

/-- The extents of an audio line. -/
def lineSpace (n len : Nat) (pack : Bool) : Nat := ceilDiv (len * 4 * ceilDiv (n * packBytes pack) 4) 1048576

/-- BOBBIN_BW of a ring and its matched line (08 Table 8.3). -/
def State.ringRate (s : State) (r : RingNeed) : Nat :=
  let one := s.keyRate r.src .video + s.keyRate r.src .anc + (if r.matched then lineRate (s.keySlots r.src) s.audPack else 0)
  one * (1 + r.reads.length)

/-- The extents of a ring. -/
def State.ringSpace (s : State) (r : RingNeed) : Nat :=
  let ca := if s.keyAnc r.src then 32 else 0
  ceilDiv (r.slots * (s.keyCells r.src + ca) * 256) 1048576

/-- The cells of a still by its record's format (08 R315). -/
def State.stillCells (s : State) (i : Nat) : Nat := formatCells (((s.stillRec i).map (fun v => leAt v 2 2)).getD 0)

/-- The length that a delay line of the engine books: the longer of the one that stands and the one that awaits its flip (10 R392, R393). -/
def ALine.booked (l : ALine) : Nat := max l.len ((l.pend.map (·.1)).getD 0) + 48

/-- The bobbins that the chip is to hold: kind, owner, which of its owner's, extents, packing (08 R301, R303). -/
def State.bobbinNeeds (s : State) : List (Nat × Nat × Nat × Nat × Bool) :=
  [(6, 0, 0, 64, false)]
    ++ (s.recs 0x0161).map (fun r => (1, leAt r.val 0 2, 0, ceilDiv (2 * s.stillCells (leAt r.val 0 2) * 256) 1048576, false))
    ++ (List.range 16).flatMap (fun h =>
      if (s.headSrc h).isNone then []
      else (List.range (s.planes h)).map (fun p => (3, h, p, ceilDiv (2 * s.planeCells h * 256) 1048576, false))
        ++ (if s.hasSafety h then [(4, h, 0, ceilDiv (s.planeCells h * 256) 1048576, false)] else []))
    ++ s.aud.lines.map (fun l =>
      let v := s.alineRec l.1
      (5, l.1, 0, lineSpace (byteAt v 2) l.2.booked (bit (byteAt v 3) 0), bit (byteAt v 3) 0))
    ++ s.mv.wins.flatMap (fun w => w.2.bufs.map (fun x => (2, w.1, x.slot, (s.winBk (w.1 / 64) x).space, false)))
    ++ s.ringNeeds.flatMap (fun r => (0, r.src, 0, s.ringSpace r, false) ::
      (if r.matched then [(5, r.src, 1, lineSpace (s.keySlots r.src) (s.lineLen r) s.audPack, s.audPack)] else []))

/-- The rates at which each still is read: one read for each distinct frame rate (08 R318). -/
def State.stillRate (s : State) : Nat :=
  let reads := (s.uses.filter (fun u => u.lv = .video && s.keyKind u.src = 3 && !isFar u.src)).map (fun u => (u.src, s.dstRate u.dest))
  let away := (s.otherBks.filterMap (fun b => match b.key with
    | .still k r => if isFar k then none else some (k, r)
    | _ => none))
  let stills := (reads ++ away).map (fun x => (((s.srcRec x.1).map recBind).getD 0, x.2))
  total (stills.eraseDups.map (fun x => cellRate (s.stillCells x.1) x.2))

/-- BOBBIN_BW (08 Table 8.3, 11 Table 11.4). -/
def State.bobbinRate (s : State) : Nat :=
  16000 + total (s.ringNeeds.map s.ringRate) + s.stillRate
    + total (s.planeBks.map (·.amount))
    + total (s.mv.wins.flatMap (fun w => w.2.bufs.map (fun b => let k := s.winBk (w.1 / 64) b; k.write + k.read)))
    + total (s.aud.lines.map (fun l => let v := s.alineRec l.1; 2 * lineRate (byteAt v 2) (bit (byteAt v 3) 0)))

/-! ### The budgets -/

/-- WINDOW_PIXELS in use, in Mpixel/s (11 Table 11.4). -/
def State.pixels (s : State) : Nat :=
  total (s.mv.wins.flatMap (fun w => w.2.bufs.map (fun b => (s.winBk (w.1 / 64) b).pixels)))

/-- Does each budget of Table 3.7 hold? The least code of one that does not (03 R107). HEAD_WINDOWS always holds, since a head's windows are
numbered below 64. -/
def State.lacks (s : State) : Option Nat :=
  let l := s.allBks
  let inBad (c : Nat) : Bool :=
    let mine := l.filter (fun b => b.res = 1 && b.unit = c)
    1792000 < total (mine.map (·.amount)) || 16384 < total (mine.map (·.depth)) || 4096 < mine.length
  let units (r : Nat) : List Nat := ((l.filter (fun b => b.res = r)).map (·.unit)).eraseDups
  let strandBad (p : Nat) : Bool := s.strandCeiling p < sumOn l 4 p || 32768 < (l.filter (fun b => b.res = 4 && b.unit = p)).length
  let portBad (u : Nat) : Bool := s.portGbit (u / 2) * 1000 * 98 < 100 * sumOn l 0x0A u
  let needs := s.bobbinNeeds
  if (List.range 16).any inBad then some 1
  else if (List.range 16).any (fun c => 1792000 + s.credit c < sumOn l 2 c) then some 2
  else if 32768 < (connKeys l).length then some 3
  else if (units 4).any strandBad then some 4
  else if 3000000 < s.bobbinRate then some 5
  else if 126976 < total (needs.map (·.2.2.2.1)) || 8192 < needs.length then some 6
  else if 512 < s.enginesUsed.length then some 7
  else if 64000 < s.pixels then some 9
  else if (units 0x0A).any portBad then some 0x0A
  else none

/-- The lowest-numbered free window engine of a cluster (11 R416). -/
def State.freeEngine (s : State) (c : Nat) : Option Nat :=
  let used := s.enginesUsed
  ((List.range 32).map (32 * c + ·)).find? (fun e => !used.contains e)

/-! ### What follows the bookings at a close -/

/-- Bobbins, rings and matched lines follow what is needed: what is no longer needed is freed, what is new is created empty (08 R301, R302,
R305, R321; 04 R145). DESIGN CHOICE (log entry 103): a new bobbin takes the lowest free descriptor of Table 8.9; the spec does not number them. -/
def State.syncBobbins (s : State) : State :=
  let needs := s.bobbinNeeds
  let is (b : Nat × Bobbin) (n : Nat × Nat × Nat × Nat × Bool) : Bool := b.2.kind = n.1 && b.2.owner = n.2.1 && b.2.sub = n.2.2.1
  let s := { s with bob.bobs := s.bob.bobs.filter (fun b => needs.any (is b)) }
  let s := needs.foldl (fun (s : State) n =>
    let ext := n.2.2.2.1
    match s.bob.bobs.find? (fun b => is b n) with
    | some b =>
      let have_ := b.2.extents
      let e := if have_ ≤ ext then b.2.ext ++ s.takeExtents (ext - have_) else giveExtents b.2.ext (have_ - ext)
      { s with bob.bobs := put b.1 { b.2 with ext := e } s.bob.bobs }
    | none =>
      let h := firstFree (s.bob.bobs.map (·.1)) 0 8192
      { s with bob.bobs := put h { kind := n.1, owner := n.2.1, sub := n.2.2.1, ext := s.takeExtents ext, pack := n.2.2.2.2 } s.bob.bobs }) s
  let rings := s.ringNeeds
  let keep := s.bob.rings.filter (fun r => rings.any (fun n => n.src = r.1))
  let s := rings.foldl (fun (s : State) n =>
    match look n.src s.bob.rings with
    | some r => s.setRing n.src { r with
        count := n.slots, slots := r.slots.drop (r.slots.length - n.slots), reads := r.reads.filter (fun c => n.reads.contains (c.frames, c.lines)) }
    | none => s.setRing n.src { count := n.slots, written := false }) { s with bob.rings := keep }
  let lines := rings.filterMap (fun n =>
    if n.matched then some (n.src, ({ (look n.src s.aud.matched).getD { len := 0 } with len := s.lineLen n } : MLine)) else none)
  let s := { s with aud.matched := lines.foldl (fun (m : List (Nat × MLine)) (l : Nat × MLine) => put l.1 l.2 m) [] }
  (s.peak R.BOB_PEAK (total (needs.map (·.2.2.2.1)))).tierOpen

/-- Mbit/s booked on the egress side of a cluster (03 R104, Table 3.17). -/
def State.bookedOut (s : State) (c : Nat) : Nat := sumOn s.allBks 2 c - s.credit c

/-- The ingress meters, the connections and what each cluster's links are booked for follow the bookings (03 R88, R102, R105). -/
def State.syncMeters (s : State) : State :=
  let l := s.allBks
  let s := { s with
    xp.metered := (l.filter (fun (b : Bk) => b.res = 1)).map (fun (b : Bk) => (b.key, b.amount, b.depth))
    xp.bookIn := (List.range 16).map (sumOn l 1), xp.bookOut := (List.range 16).map s.bookedOut }
  s.syncConns (connKeys l)

/-- The flow that the audio address of a route, member or announcement ends at. -/
def State.addrFlow (s : State) (a : Nat) : Option Nat :=
  match s.feed (s.baseAddr 16 a) with
  | .flow f _ => some f
  | _ => none

/-- The flows in use by a route, bobbin write, window or audio route (06 R243). -/
def State.flowsUsed (s : State) : List Nat :=
  let ofSrc (k : Nat) (lv : Level) : List Nat :=
    if isFar k then []
    else (((s.srcRec k).map recFlows).getD []).filter (fun f => (s.flowIn f).any (fun v => flowLevel v = lv))
  let addrs := (s.aud.outs.flatMap (fun o => o.2.sel :: ((o.2.pend.bind (·.sel)).toList ++ (o.2.fade.map (·.1)).toList)))
    ++ (s.aud.buses.flatMap (fun b => (b.2.members ++ ((b.2.pend.map (fun p => p.2.1)).getD [])).map (·.1)))
    ++ (s.recs 0x0185).flatMap (fun r => (List.range (leAt r.val 0 2)).map (fun i => leAt r.val (8 + 12 * i) 4))
  (s.uses.flatMap (fun u => ofSrc u.src u.lv)
    ++ s.otherBks.flatMap (fun b => match b.key with
      | .media _ k lv => ofSrc k lv
      | .audioIn _ k => ofSrc k .audio
      | _ => [])
    ++ s.mv.wins.flatMap (fun w => w.2.bufs.flatMap (fun b => ofSrc (s.srcKey b.src) .video))
    ++ addrs.filterMap s.addrFlow).eraseDups

/-- Flows with JOIN ON_USE are joined at the close that admits their first use and left at the first close after their last (06 R243). -/
def State.syncJoins (s : State) : State :=
  let used := s.flowsUsed
  s.ip.flows.foldl (fun s f =>
    if (s.flowIn f.1).any flowOnUse then (if used.contains f.1 && f.2.bound then s.joinFlow f.1 else s.leaveFlow f.1) else s) s

/-- The heads that a route or bobbin write names as a source. -/
def State.headNamed (s : State) (h : Nat) : Bool :=
  let is (k : Nat) : Bool := !isFar k && (s.srcRec k).any (fun v => recKind v = 4 && recBind v = h)
  s.uses.any (fun u => is u.src) || s.otherBks.any (fun b => match b.key with
    | .media _ k _ => is k
    | .audioIn _ k => is k
    | _ => false)

/-- What a close does after admission, on both chips of the pair, for the cycle that ends at boundary `b`: bobbins, tiers, meters, joins, heads
and frequency points follow the bookings. -/
def State.settle (s : State) (b : Time) : State :=
  let s := (s.syncBobbins.syncMeters).syncJoins
  (s.headStates s.headNamed b).selectPoint s.bobbinRate b

end Sys2Proof.Machine
end

