-- ==== Sys2Proof/Machine/Skein.lean ====
section
/-! DEFINITION. Strands and the Skein: the states of a Strand, its units and credits, the plane map, the paths of routes and messages, and the
messages of a Skein (13). -/

namespace Sys2Proof.Machine

/-! ### Strands -/

/-- A Strand beside its registers, by its first lane. -/
def State.strand (s : State) (p : Nat) : Strand := lookD p s.skn.strands {}

/-- Change a Strand. -/
def State.setStrand (s : State) (p : Nat) (x : Strand) : State := { s with skn.strands := put p x s.skn.strands }

/-- The STRAND record of a port (13 Table 13.11). -/
def State.strandRec (s : State) (p : Nat) : Option (List Byte) := s.recOf 0x01B1 0 2 p

/-- Does a port run a Strand: a Strand group with a STRAND record, on a chip with a SKEIN record (13 R522)? -/
def State.isStrand (s : State) (p : Nat) : Bool := s.portKind p = 2 && (s.strandRec p).isSome && !(s.recs 0x01B0).isEmpty

/-- The Strands of the chip, by first lane. -/
def State.strandPorts (s : State) : List Nat := ((s.recs 0x01B1).map (fun r => leAt r.val 0 2)).filter s.isStrand

/-- The states of a Strand as STR.STATE shows them (13 Table 13.12): 0 OFF, 1 LINKING, 2 HELLO, 3 MEASURE, 4 SERVING, 5 MISMATCH. -/
def State.strandState (s : State) (p : Nat) : Nat := s.get (R.PORT_STR_STATE p)

/-- The chip number that a Strand's peer must have (13 Table 13.3). -/
def State.wantPeer (s : State) (p : Nat) : Nat := leAt ((s.strandRec p).getD []) 2 2 + b2n s.dbl.side

/-- The number by which this pair is named: its lower chip number (13 R484). -/
def State.pairNo (s : State) : Nat := s.chip / 2 * 2

/-- The pair number of a chip or of a global ID. -/
def pairNoOf (chip : Nat) : Nat := chip / 2 * 2
def pairOfGid (gid : Nat) : Nat := gid / 2048 * 2

/-- SKEIN_ID and MIRROR_HOLD in elapsed nanoseconds (13 Table 13.11). -/
def State.skeinId (s : State) : Nat := leAt (s.rec1 0x01B0) 2 2
def State.mirrorHold (s : State) : Nat := orDef (byteAt (s.rec1 0x01B0) 4) 10 * sec

/-- The control rate of a Strand in whole Mbit/s: 10% of its cell rate (13 R494). DESIGN CHOICE (log entry 110): it is cut to whole Mbit/s, so that T of R499 is rounded up. -/
def State.ctrlRate (s : State) (p : Nat) : Nat := s.portGbit p * 1000 * 256 / 2720

/-- The SERVING Strands of this chip, as a LINK_STATE message lists them (13 R496). -/
def State.ownLinks (s : State) : List Link :=
  (s.strandPorts.filter (fun p => s.strandState p = 4)).map (fun p =>
    ⟨p, s.get (R.PORT_STR_PEER p), s.get (R.PORT_STR_LAMBDA p), s.ctrlRate p⟩)

/-! ### Paths (13 R496 to R502) -/

/-- The links of a map, each with the chip that sends on it. -/
def edgesOf (m : List (Nat × List Link)) : List (Nat × Link) := m.flatMap (fun c => c.2.map (fun l => (c.1, l)))

/-- A way from a start to a chip: its cost in nanoseconds, its Strands, the sum of the chip numbers along it, and its steps: the chips that send
and the first lanes by which they send. -/
structure Way where
  cost : Nat
  hops : Nat
  sum : Nat
  steps : List (Nat × Nat)
deriving DecidableEq, Repr

/-- Is a way better: less cost, then fewer Strands, then the lower sum of chip numbers (13 R498)? -/
def Way.better (a b : Way) : Bool :=
  a.cost < b.cost || (a.cost = b.cost && (a.hops < b.hops || (a.hops = b.hops && a.sum < b.sum)))

/-- One round of relaxation over every link. DESIGN CHOICE (log entry 109): of two ways equal in every respect of 13 R498 the first found stands, in the order of the map. -/
def relax (edges : List (Nat × Link)) (cost : Link → Nat) (m : List (Nat × Way)) : List (Nat × Way) :=
  edges.foldl (fun (m : List (Nat × Way)) (e : Nat × Link) =>
    match look e.1 m with
    | none => m
    | some w =>
      let n : Way := ⟨w.cost + cost e.2, w.hops + 1, w.sum + e.2.peer, w.steps ++ [(e.1, e.2.lane)]⟩
      match look e.2.peer m with
      | some o => if n.better o then put e.2.peer n m else m
      | none => put e.2.peer n m) m

/-- The best ways from a chip to every chip that the links reach. -/
def waysFrom (edges : List (Nat × Link)) (cost : Link → Nat) (start : Nat) : List (Nat × Way) :=
  let rounds := ((edges.map (·.1)).eraseDups).length
  (List.range rounds).foldl (fun m _ => relax edges cost m) [(start, ⟨0, 0, start, []⟩)]

/-- The map of a plane with the chip's own Strands. -/
def State.plane (s : State) : List (Nat × List Link) := put s.chip s.ownLinks s.skn.map

/-- The Strand pairs usable for a new route: both mirrors are SERVING (13 R496). -/
def State.usable (s : State) : List (Nat × Link) :=
  (edgesOf s.plane).filter (fun e =>
    (lookD (e.1 ^^^ 1) s.skn.twinMap []).any (fun l => l.lane = e.2.lane && l.peer = e.2.peer ^^^ 1))

/-- Λ and the steps of the path of least Λ from a chip to another (13 R497, R498). -/
def State.mediaPath (s : State) (a b : Nat) : Option Way := look b (waysFrom s.usable (fun l => l.lambda + 5000) a)

/-- Of parallel Strands the one of highest control rate, then of the lower lane, carries messages (13 R501; log entry 45). -/
def State.messageEdges (s : State) : List (Nat × Link) :=
  let all := edgesOf s.plane
  all.filter (fun e => all.all (fun o => !(o.1 = e.1 && o.2.peer = e.2.peer) || o.2.rate < e.2.rate || (o.2.rate = e.2.rate && e.2.lane ≤ o.2.lane)))

/-- T of R499 and the steps of the message path to each chip: for each least control rate, the path of least delay over Strands that have it.
DESIGN CHOICE (log entry 110): of two paths of equal T the first found stands. -/
def State.messagePaths (s : State) : List (Nat × (Nat × List (Nat × Nat))) :=
  let edges := s.messageEdges
  (((edges.map (fun e => e.2.rate)).filter (0 < ·)).eraseDups).foldl (fun (m : List (Nat × (Nat × List (Nat × Nat)))) r =>
    (waysFrom (edges.filter (fun e => r ≤ e.2.rate)) (fun l => l.lambda + 10000) s.chip).foldl
      (fun (m : List (Nat × (Nat × List (Nat × Nat)))) (w : Nat × Way) =>
        let t := w.2.cost + ceilDiv (8949760 * 1000) r + 20000
        match look w.1 m with
        | some o => if t < o.1 then put w.1 (t, w.2.steps) m else m
        | none => put w.1 (t, w.2.steps) m) m) []

/-- Is a pair reached by a message path within the bound of 2 ms (13 R501, R502)? -/
def State.inBound (s : State) (pair : Nat) : Bool :=
  pair = s.pairNo || (look (pair + b2n s.dbl.side) s.messagePaths).any (fun w => w.1 ≤ 2 * ms)

/-- The first Strand of the message path to a pair. -/
def State.nextHop (s : State) (pair : Nat) : Option Nat :=
  ((look (pair + b2n s.dbl.side) s.messagePaths).bind (fun w => w.2.head?)).map (·.2)

/-- The chips of the plane in the map, this one included (13 Table 13.13). -/
def State.reached (s : State) : List Nat := (waysFrom (edgesOf s.plane) (fun l => l.lambda) s.chip).map (·.1)

/-- The pairs of the plane beyond the bound (13 R502). -/
def State.farPairs (s : State) : Nat := (s.reached.filter (fun c => c ≠ s.chip && !s.inBound (pairNoOf c))).length

/-- The media budget of a path in nanoseconds (13 Table 13.6). DESIGN CHOICE (log entry 109): where the table's rows overlap for a still or head source, SYNCED has W − 4 µs and AUDIO
alone 1 ms. -/
def mediaBudget (kind : Nat) (levels : Nat) (mode : TMode) (window : Nat) : Nat :=
  let tight := decide (levels % 8 ≠ 2) && (kind = 3 || kind = 4 || mode ≠ .synced)
  if tight then window - 4000 else ms

/-- W of a destination's chips (13 Table 13.6). -/
def State.windowOf (s : State) (dest : Nat) : Nat := if s.ours dest then s.window else Config.farWindow (evenForm dest)

/-- The far end of the Strand by which a chip sends, as the lane by which its peer sends back: parallel Strands of two chips pair in the order
of their lanes (log entry 46). -/
def State.farLane (s : State) (chip lane : Nat) : Option (Nat × Nat) :=
  match (lookD chip s.plane []).find? (fun l => l.lane = lane) with
  | none => none
  | some l =>
    let mine := ((lookD chip s.plane []).filter (fun x => x.peer = l.peer)).map (·.lane)
    let theirs := ((lookD l.peer s.plane []).filter (fun x => x.peer = chip)).map (·.lane)
    some (l.peer, (theirs[mine.findIdx (· = lane)]?).getD 0xFFFF)

/-- The items of an entry on every pair of its path (13 R507, Table 13.8). -/
def State.itemsOf (s : State) (e : SEntry) (w : Way) : List (Nat × SItem) :=
  let ins := w.steps.filterMap (fun x => s.farLane x.1 x.2)
  let outs := w.steps.map (fun x => (pairNoOf x.1, x.2))
  let at_ (i : Nat) : Nat × SItem :=
    let inPort := if i = 0 then 0xFFFF else ((ins[i - 1]?).map (·.2)).getD 0xFFFF
    match outs[i]? with
    | some o => (o.1, ⟨e, inPort, o.2⟩)
    | none => (pairOfGid e.dest, ⟨e, inPort, 0xFFFF⟩)
  (List.range (w.steps.length + 1)).map at_

/-- The path of an entry, or the chip number of its refusal (13 R498, R502). -/
def State.entryPath (s : State) (e : SEntry) (kind : Nat) (mode : TMode) : Way ⊕ Nat :=
  let side := b2n s.dbl.side
  let a := pairOfGid e.src
  match s.mediaPath (a + side) (pairOfGid e.dest + side) with
  | none => .inr a
  | some w =>
    if mediaBudget kind e.levels mode (s.windowOf e.dest) < w.cost then .inr a
    else match (w.steps.map (fun x => pairNoOf x.1) ++ [pairOfGid e.dest]).find? (fun c => !s.inBound c) with
      | some c => .inr c
      | none => .inl w

/-! ### Messages -/

/-- The tag of the condition SKEIN_BUDGET (13 R502). -/
def tagBudget : Nat := 18

/-- FAR follows the map (13 R502). -/
def State.skeinBudget (s : State) : State :=
  let n := s.farPairs
  if n = 0 then { s with skn.farCond := false }.resolve 34 tagBudget
  else if s.skn.farCond then s
  else { s with skn.farCond := true }.raise 34 2 0x0308 tagBudget (beBytes 2 n)

/-- The bytes of a message's body (13 Table 13.8; log entry 47). -/
def SkBody.size : SkBody → Nat
  | .arm _ _ _ _ items => 16 + 16 * items.length
  | .report _ _ _ => 8
  | .decision _ _ => 16
  | .release routes => 2 * routes.length

/-- The CONTROL units that a body takes (13 R500, R513). -/
def fragments (body : Nat) : Nat := ceilDiv (32 + body) 240

/-- The cell rate of a Strand in Mbit/s (13 R494). -/
def State.strandCells (s : State) (p : Nat) : Nat := s.portGbit p * 1000 * 256 / 272

/-- The first ten bytes of a Strand unit (13 Table 13.1). -/
def unitHead (sconn typ : Nat) (aligned : Bool) (useq freedM freedC : Nat) : List Byte :=
  leBytes 2 sconn ++ leBytes 1 (typ + 8 * b2n aligned) ++ leBytes 1 0 ++ leBytes 2 useq ++ leBytes 2 freedM ++ leBytes 2 freedC

/-- The header of a Strand unit with its HCRC (13 Table 13.1). -/
def unitHeader (sconn typ : Nat) (aligned : Bool) (useq freedM freedC : Nat) : List Byte :=
  unitHead sconn typ aligned useq freedM freedC ++ leBytes 2 (crc16 (unitHead sconn typ aligned useq freedM freedC))

/-- Does the HCRC of a received unit hold (13 R489)? -/
def SkUnit.good (u : SkUnit) : Bool := u.hcrc = crc16 (unitHead u.sconn u.typ u.aligned u.useq u.freedM u.freedC)

/-- The bodies of the CONTROL units in which the bytes of a message leave (13 R513, Table 13.5): fragments of 240 bytes, each with its CRC-32C. -/
def controlBodies (id : Nat) (v : List Byte) : List (List Byte) :=
  let n := ceilDiv v.length 240
  (List.range n).map (fun i =>
    let d := (v.drop (240 * i)).take 240
    let b := leBytes 4 id ++ leBytes 2 i ++ leBytes 2 n ++ leBytes 2 d.length ++ leBytes 2 0 ++ d ++ List.replicate (240 - d.length) 0
    b ++ leBytes 4 (crc32c b))

/-- The header of a Skein message of some type with a body of so many bytes (13 Table 13.8). -/
def SkMsg.header (m : SkMsg) (typ len : Nat) : List Byte :=
  leBytes 1 typ ++ leBytes 1 0 ++ leBytes 2 m.target ++ leBytes 8 (m.num * 1024 + m.coord) ++ leBytes 4 m.close ++ leBytes 4 len ++ List.replicate 12 0

/-- The body of a HELLO or ECHO unit (13 Table 13.3). -/
def SkHello.body (h : SkHello) (ttx trx : Nat) : List Byte :=
  leBytes 2 h.chip ++ leBytes 2 h.skein ++ leBytes 1 h.side ++ leBytes 1 h.house ++ leBytes 2 h.fw ++ leBytes 8 ttx ++ leBytes 8 trx
    ++ List.replicate 232 0

/-- This chip's HELLO (13 Table 13.3). -/
def State.ownHello (s : State) : SkHello := ⟨s.chip, s.skeinId, b2n s.dbl.side, s.houseRate, s.boot.fw / 2 ^ 16⟩

/-- The next unit of a Strand (13 R490, R495): of two channels that wait and have credit, CONTROL goes ahead of MEDIA once in ten units; CONTROL takes
any unit time in which no MEDIA unit is ready. -/
def Strand.next (x : Strand) : Option Strand :=
  let goneC := x.sentC + 131072 - x.waitC % 65536
  let m := 0 < x.waitM && (x.sentM + 65536 - x.freedM) % 65536 < 16384
  let c := 0 < x.waitC && (goneC - x.freedC) % 65536 < 256
  if c && (!m || 9 ≤ x.turn) then some { x with waitC := x.waitC - 1, turn := if m then 0 else min 9 (x.turn + 1) }
  else if m then some { x with waitM := x.waitM - 1, sentM := (x.sentM + 1) % 65536, turn := min 9 (x.turn + 1) }
  else none

/-- The units of some unit times leave. -/
def Strand.run : Nat → Strand → Strand
  | 0, x => x
  | n + 1, x => match x.next with
    | some y => y.run n
    | none => x

/-- A Strand sends in the unit times since it last did (13 R494, R495). -/
def State.strandRun (s : State) (p : Nat) : State :=
  let x := s.strand p
  s.setStrand p { x.run (min (x.waitM + x.waitC) ((s.up - x.runAt) * s.strandCells p / 2048000)) with runAt := s.up }

/-- Units are handed to the CONTROL channel of a Strand. -/
def State.sendUnits (s : State) (p n : Nat) : State :=
  let s := s.strandRun p
  let x := s.strand p
  (s.bump (R.PORT_STR_CTRL_TX p) n).setStrand p { x with sentC := (x.sentC + n) % 65536, waitC := x.waitC + n }

/-- The cells of a frame that a Strand carries. -/
def State.farCells (s : State) (f : FarFrame) : Nat :=
  if f.lv = .video then s.frameBytes (s.srcKey f.src) f.size / 256 else ceilDiv ((f.anc.map ancBytes).foldl (· + ·) 0) 240

/-- A frame leaves on a Strand in MEDIA units, one for each cell (13 R488, R503). -/
def State.sendMedia (s : State) (p : Nat) (f : FarFrame) : State :=
  let s := s.strandRun p
  let x := s.strand p
  (s.setStrand p { x with waitM := x.waitM + s.farCells f }).emit (.media p (s.farCells f) f)

/-- Does an admitted route that is carried out bring a source's level by one Strand, or from this chip (0xFFFF), to another? -/
def State.carries (s : State) (inPort outPort src : Nat) (lv : Level) : Bool :=
  s.skn.routes.any (fun r => r.item.inPort = inPort && r.item.outPort = outPort && r.from_ ≤ s.now &&
    (srcOpt r.item.e.src).map s.srcKey = some (s.srcKey src) && (levelsOf r.item.e.levels).contains lv)

/-- The next MSG_ID of this chip (13 Table 13.5). -/
def State.newMsgId (s : State) : Nat × State :=
  (s.chip * 2 ^ 22 + s.skn.count % 2 ^ 22, { s with skn.count := s.skn.count + 1 })

/-- A message leaves on the first Strand of its path; a REPORT, DECISION or RELEASE is kept for repetition, also where no path leads to its target now (13 R499,
R516). -/
def State.sendMsg (s : State) (m : SkMsg) : State :=
  let keep := match m.body with
    | .arm _ _ _ _ _ => false
    | _ => true
  match s.nextHop m.target with
  | none => if keep then { s with skn.sends := s.skn.sends ++ [⟨256, m, 0⟩] } else s
  | some p =>
    let s := s.sendUnits p (fragments m.body.size)
    let s := if keep then { s with skn.sends := s.skn.sends ++ [⟨p, m, (s.strand p).sentC⟩] } else s
    s.emit (.skein p m)

/-- Was a MSG_ID seen in the last 2 s (13 R515)? -/
def State.seen (s : State) (id : Nat) : Bool := s.skn.seen.any (fun x => x.1 = id && s.up < x.2 + 2 * sec)

/-- A MSG_ID is noted; those older than 2 s go. -/
def State.note (s : State) (id : Nat) : State :=
  { s with skn.seen := s.skn.seen.filter (fun x => s.up < x.2 + 2 * sec) ++ [(id, s.up)] }

/-- A message arrives whole (13 R513 to R515): a repeated one is dropped, one for another pair is forwarded, a chip without control hands its
own to the twin, and the holder acts. -/
def State.skeinIn (s : State) (m : SkMsg) (act : State → State) : State :=
  if s.seen m.id then s.bump R.SKN_MSG_DUP 1
  else
    let s := s.note m.id
    if m.target ≠ s.pairNo then (s.bump R.SKN_MSG_FWD 1).sendMsg m
    else if s.dbl.role.holds then act s
    else if s.dbl.linkUp then s.emit (.handOver m)
    else s

/-- Are both mirrors of a step of a path SERVING, as the maps of both planes have it? -/
def State.stepUp (s : State) (x : Nat × Nat) : Bool :=
  (lookD x.1 s.plane []).any (fun l => l.lane = x.2) && (lookD (x.1 ^^^ 1) s.skn.twinMap []).any (fun l => l.lane = x.2)

/-- Since when each Strand of a route's path has had a mirror out of SERVING (13 R519). -/
def State.noteSteps (s : State) : State :=
  let half := ((s.skn.routes.flatMap (·.path)).eraseDups).filter (fun x => !s.stepUp x)
  { s with skn.halfAt := half.map (fun x => (x, ((s.skn.halfAt.find? (fun (y : (Nat × Nat) × Nat) => y.1 = x)).map (·.2)).getD s.up)) }

/-- The own links changed, or 100 ms have passed: the map takes them and a LINK_STATE message leaves on every Strand, and to the twin (13
R496). -/
def State.sendLinks (s : State) : State :=
  let links := s.ownLinks
  let s := { s with skn.map := put s.chip links s.skn.map }
  let (id, s) := s.newMsgId
  let s := s.note id
  let s := links.foldl (fun (s : State) (l : Link) =>
    (s.sendUnits l.lane (fragments (8 * links.length))).emit (.linkState l.lane id s.chip links)) s
  let s := if s.dbl.linkUp then s.dblData (8 * links.length) (.planeMap s.chip links) else s
  s.skeinBudget.noteSteps

/-- A Strand changes state, and a LINK_STATE message says so (13 R496). -/
def State.strandTo (s : State) (p st : Nat) : State := (s.set (R.PORT_STR_STATE p) st).sendLinks

/-! ### STRAND_DOWN -/

/-- Does an admitted route use a Strand? -/
def State.strandUsed (s : State) (p : Nat) : Bool :=
  s.skn.routes.any (fun r => r.item.inPort = p || r.item.outPort = p)

/-- The tag of the condition STRAND_DOWN of a Strand. -/
def tagStrandDown (p : Nat) : Nat := 0x200 + p

/-- Is the mirror of a Strand SERVING, as the twin reports (13 R496)? -/
def State.mirrorUp (s : State) (p : Nat) : Bool :=
  (lookD (s.chip ^^^ 1) s.skn.twinMap []).any (fun l => l.lane = p)

/-- The Strands of a route on this chip. -/
def SRoute.ports (r : SRoute) : List Nat := [r.item.inPort, r.item.outPort].filter (· < 256)

/-- The F2 of STRAND_DOWN ends when every mirror of every route's Strands is SERVING again, or the routes are gone (13 R518). -/
def State.clearStrandDown (s : State) : State :=
  if s.skn.routes.all (fun r => r.ports.all (fun p => s.strandState p = 4 && s.mirrorUp p)) then
    s.strandPorts.foldl (fun s p => s.resolve (portIsland p) (tagStrandDown p)) s
  else s

/-- What is known of mirrors that left or entered SERVING (13 R517, R519). -/
def State.noteMirrors (s : State) : State :=
  s.strandPorts.foldl (fun (s : State) p =>
    let x := s.strand p
    s.setStrand p { x with mirrorDownAt := if s.mirrorUp p then none else some (x.mirrorDownAt.getD s.up) }) s

/-- A SERVING Strand goes to LINKING, or OFF with its cluster (13 Table 13.2, R518). -/
def State.strandDown (s : State) (p next : Nat) : State :=
  let s := s.set (R.PORT_STR_STATE p) next
  let s := s.setStrand p { s.strand p with downAt := some s.up, bad := [] }
  let s := if s.strandUsed p then s.raise (portIsland p) 2 0x0306 (tagStrandDown p) (beBytes 2 p)
    else s.event (portIsland p) 1 0x0306 (beBytes 2 p)
  s.sendLinks

/-- The Strands of a cluster that serves start LINKING (13 Table 13.2). -/
def State.strandsOn (s : State) (c : Nat) : State :=
  (s.strandPorts.filter (fun p => p / 16 = c && s.strandState p = 0)).foldl (fun s p => s.strandTo p 1) s

/-- 13 R491: the port of a LINKING Strand is UP. -/
def execStrandPortUp (t : Time) (p : Fin 256) (s : State) : Host.Outcome State Fault Refusal :=
  released t s fun s => if s.isStrand p && s.strandState p = 1 && s.portState p = 3 then s.strandTo p 2 else s

/-- 13 R491: in HELLO a HELLO unit every 10 µs, in MEASURE the ECHO units. -/
def execStrandHelloSend (t : Time) (p : Fin 256) (s : State) : Host.Outcome State Fault Refusal :=
  released t s fun s =>
    if s.strandState p = 2 then s.emit (.hello p (s.ownHello.body 0 0))
    else if s.strandState p = 3 then s.emit (.echo p (s.ownHello.body s.now 0)) else s

/-- The fields of a HELLO that disagree with Table 13.3, as MISMATCH_WHY shows them (13 Table 13.12). -/
def State.helloBad (s : State) (p : Nat) (h : SkHello) : Nat :=
  b2n (h.chip ≠ s.wantPeer p) + 2 * b2n (h.skein ≠ s.skeinId) + 4 * b2n (h.side ≠ b2n s.dbl.side)
    + 8 * b2n (h.house ≠ s.houseRate) + 16 * b2n (!fwCompatible (h.fw * 2 ^ 16) s.boot.fw)

/-- A Strand is mismatched: MISMATCH_WHY and F2 STRAND_MISMATCH (13 Table 13.2). -/
def State.strandMismatch (s : State) (p why : Nat) : State :=
  let s := (s.strandTo p 5).set (R.PORT_STR_MISMATCH_WHY p) why
  s.raise (portIsland p) 2 0x0307 (0x400 + p) (beBytes 2 p ++ beBytes 1 why)

/-- 13 R491: a HELLO is received in HELLO. -/
def execStrandHello (t : Time) (p : Fin 256) (h : SkHello) (s : State) : Host.Outcome State Fault Refusal :=
  released t s fun s =>
    if s.strandState p ≠ 2 then s
    else
      let s := s.set (R.PORT_STR_PEER p) h.chip
      let why := s.helloBad p h
      if why = 0 then s.strandTo p 3 else s.strandMismatch p why

/-- λ of 64 round trips, each with the peer's turnaround: half the median of the round trips less their turnarounds (13 Table 13.2); none where they
did not complete. -/
def lambdaOf (trips : List (Nat × Nat)) : Option Nat :=
  let l := sortBy (fun a b => a ≤ b) ((trips.take 64).map (fun x => x.1 - x.2))
  match l[31]?, l[63]? with
  | some a, some _ => some ((a + (l[32]?).getD a) / 4)
  | _, _ => none

/-- 13 R491, R492: the ECHO round trips, each with the peer's turnaround, complete within 10 ms and give λ, or do not. -/
def execStrandMeasureDone (t : Time) (p : Fin 256) (trips : List (Nat × Nat)) (s : State) : Host.Outcome State Fault Refusal :=
  released t s fun s =>
    if s.strandState p ≠ 3 then s
    else match lambdaOf trips with
      | some l =>
        if 20000 < l then s.strandMismatch p 32
        else
          let s := (s.set (R.PORT_STR_STATE p) 4).set (R.PORT_STR_LAMBDA p) l
          let s := s.setStrand p { lastRx := s.up, mirrorDownAt := (s.strand p).mirrorDownAt, runAt := s.up }
          let s := s.event (portIsland p) 1 0x0305 (beBytes 2 p ++ beBytes 2 (s.get (R.PORT_STR_PEER p)) ++ beBytes 4 l)
          s.sendLinks.clearStrandDown
      | none => s.strandMismatch p 32

/-- 13 R491, R492: a received ECHO is answered in the step that receives it; the answer to the own ECHO only measures λ. -/
def execStrandEcho (t : Time) (p : Fin 256) (reply : Bool) (s : State) : Host.Outcome State Fault Refusal :=
  released t s fun s =>
    if !reply && 2 ≤ s.strandState p && s.strandState p ≤ 4 then s.emit (.echo p (s.ownHello.body s.now s.now)) else s

/-- 13 R491, R518: a SERVING Strand lost its port or had no unit for 10 µs; a MISMATCH ends when the port leaves UP. -/
def execStrandDown (t : Time) (p : Fin 256) (s : State) : Host.Outcome State Fault Refusal :=
  released t s fun s =>
    let up := s.portState p = 3
    if s.strandState p = 5 && !up then (s.strandTo p 1).resolve (portIsland p) (0x400 + p)
    else if s.strandState p = 4 && (!up || (s.strand p).lastRx + 10000 ≤ s.up) then s.strandDown p 1
    else s

/-! ### Units -/

/-- Is a count at or beyond another, modulo 65 536? -/
def countPast (a b : Nat) : Bool := (a + 65536 - b % 65536) % 65536 < 32768

/-- The freed count of the CONTROL channel acknowledges the messages whose last fragment it covers (13 R516). -/
def State.acked (s : State) (p : Nat) : State :=
  { s with skn.sends := s.skn.sends.filter (fun x => !(x.port = p && countPast (s.strand p).freedC x.last)) }

/-- A frame of a still on another pair, which comes at the rate of its readers (13 R510): it is the frame of its rate's alignment point, and aligned. -/
def State.farStill (s : State) (k : Nat) (f : FarFrame) : State :=
  let key := k + 2 ^ 40 * (f.rate + 1)
  let n := nearestFrame f.rate s.now
  let frame : SrcFrame := { frame := n, arrival := s.now, members := [⟨0, true, true, true, false⟩], pic := .pic f.crc f.luma, anc := [], fmt := f.format }
  { s with
    xp.prevFrames := match look key s.xp.srcFrames with
      | some x => put key x s.xp.prevFrames
      | none => s.xp.prevFrames
    xp.srcFrames := put key frame s.xp.srcFrames }

/-- A frame of a level of a source on another pair joins the frame and the ring slot of its source (08 R306, R307; 13 R510): the level is one of its members, and the
levels still to come count as missing until they arrive. -/
def State.farJoin (s : State) (k n : Nat) (f : FarFrame) : State :=
  let video := decide (f.lv = .video)
  let num := if video then 0 else 2
  let pic := Pic.pic f.crc f.luma
  let anc := (f.anc.filter (fun a => !s.ancOwnKind a)).map (fun a => (num, a))
  let opens := !s.sameFrame k s.now
  let s := s.joinFrame k n s.now (!opens) ⟨num, f.aligned, f.aligned, true, false⟩ false .fill []
  let s := s.amendFrame k (fun x =>
    if video then { x with pic := pic, size := f.size, fmt := f.format } else { x with anc := anc, fmt := if x.fmt = 0 then f.format else x.fmt })
  let put_ (sl : Slot) : Slot :=
    let sl := { sl with under := sl.under.filter (· ≠ num) }
    if video then { sl with pic := pic, size := f.size } else { sl with anc := anc }
  if opens then
    s.farWrite k (fun i => put_ { frame := i, arrival := s.now, under := [0, 2], lost := false, pic := .fill, anc := [], size := if video then f.size else 0, count := n })
  else s.ringAmend k put_

/-- 13 R509, R510: the first cell of a frame of a level of a source on another pair comes by a Strand. It goes on by every SERVING Strand to which a route brings it, and
through the ingress meter of its connection to what takes it here. ALIGNED stands for the window and, since
the spec gives no other sign, for the inner window (log entry 48). -/
def State.farFrame (s : State) (p : Nat) (f : FarFrame) : State :=
  let k := s.srcKey f.src
  let s := (s.strandPorts.filter (fun q => s.strandState q = 4 && s.carries p q f.src f.lv)).foldl (fun (s : State) q => s.sendMedia q f) s
  let still := decide (s.keyKind k = 3)
  let rate := if still then f.rate else s.srcRate k
  let n := nearestFrame rate s.now
  let key : ConnKey := if still then .still k f.rate else .media (p / 16) k f.lv
  let s := s.enterCells key (p / 16) n (s.farCells f) (rateDen rate * sec * 24 / (25 * max 1 (rateNum rate)))
  if still then s.farStill k f
  else match f.lv with
    | .audio => s
    | _ => s.farJoin k n f

/-- More units than the buffer holds: CREDIT, F2, and the Strand to LINKING (13 R490). -/
def State.creditViolation (s : State) (p : Nat) : State :=
  (s.err (R.PORT_STR_ERR_CREDIT p) 2 { typ := 3, master := 0x40 + portIsland p }).strandDown p 1

/-- 13 R489, 03 R89: a MEDIA cell whose own CRC fails is discarded, and counted against the tile that it was bound for. -/
def State.farCellBad (s : State) (p : Nat) (cell : Option (Nat × Level × Nat)) : State :=
  match cell.bind (fun x => (s.connOf (.media (p / 16) (s.srcKey x.1) x.2.1)).bind (fun c => s.tileOf c.1 x.2.2)) with
  | some tile => s.cellBad tile (p / 16)
  | none => s.bump (R.PC_XPR_CRC (p / 16)) 1

/-- 13 R488 to R490, R493: a unit is received on a SERVING Strand. -/
def State.strandUnit (s : State) (p : Nat) (u : SkUnit) : State :=
  let x := s.strand p
  if !u.good then
    let bad := x.bad.filter (fun b => s.up < b + ms) ++ [s.up]
    let s := (s.bump (R.PORT_STR_HCRC_ERR p) 1).setStrand p { x with bad := bad }
    if 16 ≤ bad.length then s.strandDown p 1 else s
  else
    let s := (s.setStrand p { x with lastRx := s.up, freedM := u.freedM, freedC := u.freedC }).acked p
    let x := s.strand p
    let gap (next : Nat) : Nat := (u.useq + 65536 - next % 65536) % 65536
    if u.typ = 0 then
      let s := (s.bump (R.PORT_STR_UNITS_LOST p) (gap x.nextM)).setStrand p { x with nextM := (u.useq + 1) % 65536 }
      if 16384 < u.held then s.creditViolation p
      else if !u.cellOk then s.farCellBad p u.cell
      else match u.frame with
        | some f => s.farFrame p { f with aligned := u.aligned }
        | none => s
    else if u.typ = 1 then
      let s := (s.bump (R.PORT_STR_UNITS_LOST p) (gap x.nextC)).setStrand p { x with nextC := (u.useq + 1) % 65536 }
      let s := s.bump (R.PORT_STR_CTRL_RX p) 1
      if 256 < u.held then s.creditViolation p else s
    else s

/-- 13 R488: a Strand unit is received. -/
def execStrandUnitRx (t : Time) (p : Fin 256) (u : SkUnit) (s : State) : Host.Outcome State Fault Refusal :=
  released t s fun s => if s.strandState p = 4 then (s.phyCounts p u.fecCor u.fecUnc u.blockErr).strandUnit p u else s

/-- 13 R490: a CREDIT unit with both freed counts: the units received less those that the buffers hold. -/
def execStrandCreditSend (t : Time) (p : Fin 256) (heldM heldC : Nat) (s : State) : Host.Outcome State Fault Refusal :=
  released t s fun s =>
    if s.strandState p ≠ 4 then s
    else
      let x := s.strand p
      let freed (next held : Nat) : Nat := (next + 65536 - held % 65536) % 65536
      s.emit (.credit p (unitHeader 0 2 false 0 (freed x.nextM heldM) (freed x.nextC heldC)))

/-! ### LINK_STATE -/

/-- 13 R496: a LINK_STATE message is due, or one is received: the map takes it, and it goes on to every other Strand. -/
def execLinkState (t : Time) (op : LinkOp) (s : State) : Host.Outcome State Fault Refusal :=
  released t s fun s =>
    match op with
    | .send => if (s.recs 0x01B0).isEmpty then s else s.sendLinks
    | .rx port id chip links =>
      if s.seen id then s.bump R.SKN_MSG_DUP 1
      else
        let s := { s.note id with skn.map := put chip links s.skn.map }
        let s := (s.ownLinks.filter (fun l => l.lane ≠ port)).foldl (fun (s : State) (l : Link) =>
          ((s.bump R.SKN_MSG_FWD 1).sendUnits l.lane (fragments (8 * links.length))).emit (.linkState l.lane id chip links)) s
        let s := if s.dbl.linkUp then s.dblData (8 * links.length) (.planeMap chip links) else s
        s.skeinBudget.noteSteps
    | .twin chip links =>
      if s.dbl.linkUp then (({ s with skn.twinMap := put chip links s.skn.twinMap }.noteMirrors).noteSteps).clearStrandDown else s

/-! ### Messages received -/

/-- 13 R514, 04 R164: an ARM share is accepted on arrival, for admission at the close of the running cycle. -/
def execSkeinArm (t : Time) (port : Nat) (m : SkMsg) (s : State) : Host.Outcome State Fault Refusal :=
  served t s fun s => s.skeinIn m fun s =>
    match m.body with
    | .arm _ _ prio princ _ =>
      let order := s.sicp.order
      { s with sicp.order := order + 1, sicp.cyc := s.sicp.cyc ++ [⟨order, s.now, 0, princ, prio, .skeinArm t port m⟩] }
    | _ => s

/-- The pair that sent a message, by its MSG_ID (13 Table 13.5). -/
def SkMsg.sender (m : SkMsg) : Nat := pairNoOf (m.id / 2 ^ 22)

/-- 04 R168: a DECISION reaches a participant, which places it first in its next copy. -/
def execSkeinDecision (t : Time) (port : Nat) (m : SkMsg) (s : State) : Host.Outcome State Fault Refusal :=
  let _ := port
  served t s fun s => s.skeinIn m fun s =>
    match m.body with
    | .decision commit _ => { s with skn.decisions := s.skn.decisions ++ [(m.coord, m.num, commit)] }
    | _ => s

/-- 13 R519: a RELEASE reaches a chip of a path; it acts at the next close. -/
def execSkeinRelease (t : Time) (port : Nat) (m : SkMsg) (s : State) : Host.Outcome State Fault Refusal :=
  served t s fun s => s.skeinIn m fun s =>
    match m.body with
    | .release _ =>
      let order := s.sicp.order
      { s with sicp.order := order + 1, sicp.cyc := s.sicp.cyc ++ [⟨order, s.now, 0, 0, 0, .skeinRelease t port m⟩] }
    | _ => s

/-- 13 R516: what is not acknowledged is sent again, until its close has passed. -/
def execSkeinMessageRepeat (t : Time) (s : State) : Host.Outcome State Fault Refusal :=
  served t s fun s =>
    let due := s.skn.sends.filter (fun x => s.now < x.msg.close)
    due.foldl (fun (s : State) (x : SkSend) => s.sendMsg x.msg) { s with skn.sends := [] }

/-- 13 R519: a mirror of a Strand has been out of SERVING for MIRROR_HOLD. -/
def execMirrorHoldExpiry (t : Time) (p : Fin 256) (s : State) : Host.Outcome State Fault Refusal :=
  released t s fun s =>
    let x := s.strand p
    let past (d : Option Nat) : Bool := d.any (fun u => u + s.mirrorHold ≤ s.up)
    if s.isStrand p && ((s.strandState p ≠ 4 && past x.downAt) || (!s.mirrorUp p && past x.mirrorDownAt)) then
      { s with skn.expired := s.skn.expired.filter (· ≠ p.val) ++ [p.val] }
    else s

/-- Is a Strand pair lost: both mirrors are out of SERVING, or one has been out for MIRROR_HOLD and still is (13 R519, R521)? -/
def State.strandLost (s : State) (p : Nat) : Bool :=
  let own := s.strandState p = 4
  let twin := s.mirrorUp p
  (!own && !twin) || (s.skn.expired.contains p && !(own && twin))

end Sys2Proof.Machine
end

