-- ==== Sys2Proof/Machine/Effects.lean ====
section
/-! DEFINITION. What a decision of the holder of control does to a chip, on both chips of the pair: the items of a state copy (14 Table 14.5), and
the rules of takes that they share (03 R109; 04 R135, R147, R152, R171; 02 R61). -/

namespace Sys2Proof.Machine

/-! ### Pending takes -/

/-- A pending take in its place by the instant it falls due. -/
def insertDue (p : PTake) : List PTake → List PTake
  | [] => [p]
  | q :: l => if p.due < q.due then p :: q :: l else q :: insertDue p l

/-- Change one level of a destination. -/
def State.onLevel (s : State) (dest : Nat) (lv : Level) (f : LevelSt → LevelSt) : State :=
  let d := s.dst dest
  s.setDst dest (d.setLevel lv (f (d.level lv)))

/-- Count a superseded take in its Shuttle (02 R76, 04 R171). -/
def State.superseded (s : State) (dest : Nat) : State :=
  let c := s.dstCluster dest
  if c < 16 then s.bump (R.SHT_SUPERSEDED c) 1 else s

/-- A take becomes pending (04 R135, R171): of two that fall due at one switching point a salvo's governs, and otherwise the later accepted. -/
def State.addTake (s : State) (dest : Nat) (lv : Level) (p : PTake) : State :=
  let same (q : PTake) : Bool := s.samePoint dest q.due p.due
  match ((s.dst dest).level lv).pend.find? same with
  | none => s.onLevel dest lv (fun x => { x with pend := insertDue p x.pend })
  | some q =>
    let loses := (q.salvo.isSome && p.salvo.isNone) || (q.salvo.isSome = p.salvo.isSome && p.order < q.order)
    if loses then s.superseded dest
    else (s.onLevel dest lv (fun x => { x with pend := insertDue p (x.pend.filter (fun r => !same r)) })).superseded dest

/-- Every pending take is armed: the copy that holds it is confirmed (04 R150). The Shuttle holds the earliest of a level (R135). -/
def State.armAll (s : State) : State :=
  let arm (x : LevelSt) : LevelSt := { x with pend := x.pend.map (fun p => { p with armed := true }) }
  { s with xp.dst := s.xp.dst.map (fun (d : Nat × DstSt) =>
    (d.1, { d.2 with video := arm d.2.video, audio := arm d.2.audio, anc := arm d.2.anc })) }

/-! ### The source as a take finds it -/

/-- Was a source outside the window in the last frame (04 R152): the last whose window has ended? Still and head sources never are (02 R56). -/
def State.outside (s : State) (k : Nat) : Bool :=
  if s.keyKind k = 3 || s.keyKind k = 4 then false
  else !(s.frameOf k (frameAt (s.srcRate k) (s.now - s.keyTro k - s.window))).any (fun f => f.all_ (s.classNums k) (·.inWin))

/-- Does a CATCH path of a destination of a rate start in CATCH_BOBBIN (04 Table 4.2, R149)? -/
def State.catchStart (s : State) (k rate : Nat) : Bool :=
  if s.keyKind k = 3 || s.keyKind k = 4 then false else (s.innerCounts k rate (s.keyTro k)).1 < s.catchHold

/-- Does a level of a destination start through the bobbin in a mode? -/
def State.startBobbin (s : State) (dest : Nat) (src : Option Nat) (mode : TMode) : Bool :=
  match mode with
  | .direct => false
  | .synced => true
  | .catching => src.any (fun k => s.catchStart k (s.dstRate dest))

/-- The measured format of a source, or its record's where it is 0 (02 R61); that of a source on another pair comes with its frames (log entry 40). -/
def State.takenFormat (s : State) (k : Nat) : Nat :=
  if isFar k then orDef (((look k s.xp.srcFrames).map (·.fmt)).getD 0) (s.keyFormat k)
  else match s.srcRec k with
    | none => 0
    | some v =>
      let m := if recKind v = 0 then s.groupFormat (recLanes v)
        else match (recFlows v).find? (fun f => (s.flowIn f).any flowVideo) with
          | some f => s.get (R.IF_STAT_FORMAT (s.flow f).cluster f)
          | none => 0
      if m = 0 || recKind v = 3 || recKind v = 4 then recFormat v else m

/-- MAXRATE and PARAM of an ST 2110-22 destination (06 Table 6.10). -/
def State.dstStream (s : State) (dest : Nat) : Nat × Nat :=
  ((((s.dstRec dest).map recFlows).getD []).filterMap s.flowOut).find? (fun v => byteAt v 2 = 1) |>.map (fun v => (leAt v 20 4, leAt v 24 8)) |>.getD (0, 0)

/-- Do a source and a destination of this chip differ in video format (02 R61)? -/
def State.formatBad (s : State) (k dest : Nat) : Bool :=
  match s.dstRec dest with
  | none => false
  | some v =>
    let (f, g) := (s.takenFormat k, recFormat v)
    let (c, d) := (decide (s.keyKind k = 2), decide (recKind v = 2))
    if fmtRaster (s.keyFormat k) = 0 || fmtRaster g = 0 then false
    else if c || d then !(c && d && f = g && (s.keyMax k, s.keyParam k) = s.dstStream dest)
    else if s.keyKind k = 3 then !(fmtRaster f = fmtRaster g && fmtScan f = fmtScan g && fmtSampling f = fmtSampling g)
    else !fmtMatch f g

/-! ### Items of a copy -/

/-- The values of a leg as a LEG TLV gives them: those that await their instant, or those that stand. -/
def legBytes (k : Nat) (l : InLeg) : List Byte :=
  let (key, sa, ssm) := l.next.getD (l.key, l.saddr, l.ssm)
  beBytes 1 (k + 1) ++ beBytes 1 (b2n ssm) ++ beBytes 2 key.vlan ++ beBytes 2 key.dport ++ beBytes 2 0 ++ beBytes 16 sa ++ beBytes 16 key.addr

/-- The journal item of a flow: its legs (18 Table 18.9). -/
def State.flowItem (s : State) (i : Nat) : JItem := .flow i ((s.flow i).legs.mapIdx legBytes)

/-- A level leaves the routes across Strands that name a destination. -/
def dropLevels (routes : List SRoute) (dest levels : Nat) : List SRoute :=
  routes.filterMap (fun r =>
    if evenForm r.item.e.dest ≠ evenForm dest then some r
    else
      let left := fullMask r.item.e.levels &&& (7 - levels % 8)
      if left = 0 then none else some { r with item := { r.item with e := { r.item.e with levels := left } } })

/-- The decision on a salvo's share: COMMIT leaves it for its commit cycle, ABORT frees it (04 R168, R170). -/
def State.applyDecision (s : State) (coord num : Nat) (commit : Bool) : State :=
  let is (x : Share) : Bool := x.coord = coord && x.num = num
  if !s.xp.shares.any is then s
  else if commit then
    { s with xp.shares := s.xp.shares.map (fun x => if is x then { x with decided := some true } else x) }.bump R.SALVO_COMMITS 1
  else { s with xp.shares := s.xp.shares.filter (fun x => !is x) }.bump R.SALVO_ABORTS 1

/-- One item of a state copy takes effect (14 R535, Table 14.5). -/
def State.applyEff (s : State) (e : Eff) : State :=
  match e with
  | .decision coord num commit => s.applyDecision coord num commit
  | .take dest lv p => s.addTake dest lv p
  | .level dest lv src mode bobbin prio princ via =>
    s.onLevel dest lv (fun x => { x with src := src, mode := mode, bobbin := bobbin, prio := prio, princ := princ, via := via })
  | .wait w => { s with xp.waiting := s.xp.waiting.filter (fun x => x.order ≠ w.order) ++ [w] }
  | .unwait order => { s with xp.waiting := s.xp.waiting.filter (fun x => x.order ≠ order) }
  | .share x =>
    let s := { s with xp.shares := s.xp.shares.filter (fun y => !(y.coord = x.coord && y.num = x.num)) ++ (if x.decided = some false then [] else [x]) }
    match x.decided with
    | some c => s.bump (if c then R.SALVO_COMMITS else R.SALVO_ABORTS) 1
    | none => s
  | .shareHeld x => { s with xp.shares := s.xp.shares.filter (fun y => !(y.coord = x.coord && y.num = x.num)) ++ [x] }
  | .route r => { s with skn.routes := dropLevels s.skn.routes r.item.e.dest (fullMask r.item.e.levels) ++ [r] }
  | .unroute dest levels => { s with skn.routes := dropLevels s.skn.routes dest levels }.clearStrandDown
  | .send _ => s
  | .unshare coord num => { s with xp.shares := s.xp.shares.filter (fun y => !(y.coord = coord && y.num = num)) }
  | .orphan coord num => { s with xp.shares := s.xp.shares.filter (fun y => !(y.coord = coord && y.num = num)) }.bump R.SALVO_ORPHANS 1
  | .salvo v => { s with xp.salvos := s.xp.salvos.filter (fun x => x.num ≠ v.num) ++ [v], xp.salvoNum := max s.xp.salvoNum (v.num + 1) }
  | .unsalvo num => { s with xp.salvos := s.xp.salvos.filter (fun x => x.num ≠ num) }
  | .path dest lv bobbin due => s.onLevel dest lv (fun x => { x with pathDue := some (bobbin, due) })
  | .hyst src f l h =>
    match s.ring src with
    | some r => s.setRing src { r with reads := updFirst (fun c => c.frames = f && c.lines = l) (fun c => { c with h := h }) r.reads }
    | none => s
  | .delay dest f l due =>
    let d := s.dst dest
    s.setDst dest (if s.dbl.role = .joining then { d with frames := f, lines := l } else { d with pendDelay := some (f, l, due) })
  | .seqCtr flow v =>
    let s := { s with xp.seqCopy := put flow v s.xp.seqCopy }
    if s.dbl.role = .joining then { s with xp.seqCtr := put flow v s.xp.seqCtr } else s
  | .sess l b =>
    if s.dbl.role.holds then s
    else { s with
      sicp.sessions := s.sicp.sessions.filter (·.own) ++ l.map (fun c => { c with lastRx := s.up - c.lastRx })
      sicp.buckets := s.sicp.buckets.filter (fun x => !x.pair) ++ b.map (fun x => { x with at_ := s.up - x.at_ })
      xp.waiting := s.xp.waiting.filter (fun w => l.any (fun c => c.id = w.sess)) }
  | .swap at_ => { s with dbl.swapPend := some at_ }
  | .restart chip at_ => { s with dbl.restart := some (chip, at_) }
  | .rejoin chip => if chip = s.chip then { s with dbl.rejoinAsked := true } else s
  | .evacClear princ at_ => { s with probe.clearAt := some (at_, princ) }
  | .flowSet flow legs at_ =>
    let s := s.flowSetApply flow legs at_
    s.journalAdd (s.flowItem flow)
  | .flowRel flow mask at_ =>
    let x := s.flow flow
    s.setFlow flow { x with relAt := some (match x.relAt with
      | some (m, b) => if b = at_ then (m ||| mask, at_) else (mask, at_)
      | none => (mask, at_)) }
  | .flowTable key entries legs => (legs.map (·.1)).foldl (fun (s : State) i => s.journalAdd (s.flowItem i)) (s.takeTable key entries legs)
  | .owner flow leg o at_ =>
    if s.dbl.role.holds then s else s.setFlow flow { s.flow flow with adopt := (s.flow flow).adopt ++ [(leg, o, at_)] }
  | .achan out sel gain due order => s.writeOut out sel gain due order
  | .abus bus gain members due => s.writeBus bus gain members due
  | .aline line n due => s.writeLine line n due
  | .window w engine due => s.applyWindow w engine due
  | .windowClear win due => s.applyClear win due
  | .order h o due => s.applyOrder h o due
  | .fence key at_ => s.setBanks key { s.banks key with fence := true, flipAt := some at_ }
  | .bank k n shown valid bytes =>
    let b := ((s.banks k).mark n valid)
    let s := s.setBanks k { b with shown := shown, fromImage := false }
    { s with bob.bytes := put (2 * k + n) (bytes.foldl (fun (m : List Host.Cell) (c : Nat × Byte) => put c.1 c.2 m) []) s.bob.bytes }
  | .whlRef code at_ => { s with whl.pendRef := some (code, at_) }
  | .whlHeld phi at_ => if s.dbl.role.holds then { s with whl.held := phi }.whlShow else { s with whl.pendHeld := some (phi, at_) }
  | .whlStep x d aon => { s with whl.step := some (x, d, aon) }

/-- Items in their order. -/
def State.applyEffs (s : State) (l : List Eff) : State := l.foldl (fun (s : State) (e : Eff) => s.applyEff e) s

/-- The bytes of an item in a copy (14 Table 14.5; log entry 49). -/
def Eff.size : Eff → Nat
  | .decision _ _ _ => 24
  | .share x => 16 * x.items.length
  | .shareHeld x => 16 * x.items.length
  | .salvo v => 16 * v.entries.length
  | .path _ _ _ _ => 8
  | .hyst _ _ _ _ => 8
  | .delay _ _ _ _ => 8
  | .flowSet _ _ _ => 80
  | .flowRel _ _ _ => 80
  | .owner _ _ _ _ => 40
  | .flowTable _ l legs => 16 + 24 * l.length + 80 * legs.length
  | .achan _ _ _ _ _ => 16
  | .abus _ _ _ _ => 16
  | .aline _ _ _ => 16
  | .window _ _ _ => 64
  | .windowClear _ _ => 64
  | .order _ _ _ => 64
  | .fence _ _ => 64
  | .whlRef _ _ => 32
  | .whlHeld _ _ => 32
  | .whlStep _ _ _ => 32
  | .seqCtr _ _ => 4
  | .sess l b => 256 * l.length + 8 * b.length
  | _ => 48

/-- The bytes of a reply in a copy: its length and 32 more (14 Table 14.5). -/
def Reply.size (r : Reply) : Nat := 32 + 16 + 16 + (r.tlvs.map (fun v => 4 + v.val.length)).foldl (· + ·) 0

/-- The items that a copy is built from while a close runs: the item takes effect here and joins the copy. -/
def State.out_ (s : State) (e : Eff) : State := { s.applyEff e with dbl.building := s.dbl.building ++ [e] }

/-- A decision of this pair on one of its salvos: the first item of the copy after the decisions already in it, which the salvo's share in the same copy
carries too (04 R168). -/
def State.outDecision (s : State) (num : Nat) (commit : Bool) : State :=
  let e : Eff := .decision s.pairNo num commit
  let first (x : Eff) : Bool := match x with
    | .decision _ _ _ => true
    | _ => false
  let mark (x : Eff) : Eff := match x with
    | .share y => if y.coord = s.pairNo && y.num = num then .share { y with decided := some commit } else x
    | _ => x
  let l := s.dbl.building.map mark
  { s.applyEff e with dbl.building := l.takeWhile first ++ e :: l.dropWhile first }

/-- Several items. -/
def State.outs (s : State) (l : List Eff) : State := l.foldl (fun (s : State) (e : Eff) => s.out_ e) s

/-- Items that need capacity: they take effect when every budget still holds, and otherwise the least resource that lacks is named (03 R107,
R109). -/
def State.tryEffs (s : State) (l : List Eff) : Nat ⊕ State :=
  let s' := s.outs l
  match s'.lacks with
  | none => .inr s'
  | some r => .inl r

end Sys2Proof.Machine
end

