-- ==== Sys2Proof/Machine/Takes.lean ====
section
/-! DEFINITION. The requests of takes, salvos, delays, bulk writes, fences and of the pair, as they are accepted (04 R161 to R173; 08 R312 to
R317; 11 R433 to R435; 13 R502, R506; 15 R579 to R581; 16 Table 16.4). -/

namespace Sys2Proof.Machine

/-- The number that stands for "no principal" (04 R172; log entry 68). -/
def noPrinc : Nat := 65536

/-! ### Checks of entries -/

/-- WAIT_CAP and WAITING_MAX (03 Table 3.13). -/
def State.waitCap (s : State) : Nat := orDef (byteAt (s.rec1 0x0110) 2) 255
def State.waitingMax (s : State) : Nat := orDef (leAt (s.rec1 0x0110) 4 2) 4096

/-- Does an entry name VIDEO? -/
def SEntry.video (e : SEntry) : Bool := bit (fullMask e.levels) 0

/-- The first thing wrong with the entries of a salvo as this chip sees them: the reply code and DETAIL (04 R162; 02 R51, R61). The entries of other pairs'
destinations are checked there. -/
def State.entriesBad (s : State) (l : List SEntry) : Option (Nat × Nat) :=
  let mine := l.filter (fun e => s.ours e.dest || 2 ^ 20 ≤ e.dest)
  let names := mine.flatMap (fun e => (levelsOf e.levels).map (fun lv => (evenForm e.dest, lv.mask)))
  if l = [] || mine.any (·.reserved) || !names.Nodup then some (0x23, 0)
  else if l.any (fun e => s.ours e.dest && (s.dstRec (indexOfId e.dest)).isNone) then some (0x23, 0)
  else if l.any (fun e => (srcOpt e.src).any (fun g => s.ours g && (s.srcRec (indexOfId g)).isNone)) then some (0x25, 0x0B)
  else if l.any (fun e => e.video && s.ours e.dest && (srcOpt e.src).any (fun g => s.formatBad (s.srcKey g) (indexOfId e.dest))) then some (0x13, 0)
  else none

/-- The entries and the priority of a stored salvo (04 R177); none where the image has none of the number. -/
def State.stored (s : State) (n : Nat) : Option (List SEntry × Nat) :=
  match (s.recs 0x0121).filter (fun r => leAt r.val 0 2 = n) with
  | [] => none
  | r :: rs => some (((r :: rs).flatMap (fun r => entriesOf (r.val.drop 8) (leAt r.val 2 2))).take 65536, byteAt r.val 4)

/-- Does a salvo held on this chip, other than that of a coordinator's pair and number, set a level of one of its destinations at an instant (04 R171)?
A salvo of this pair counts from its arm on. -/
def State.salvoSets (s : State) (own : Nat × Nat) (dest : Nat) (lv : Level) (tc : Time) : Bool :=
  let names (it : SItem) : Bool := it.outPort = 0xFFFF && evenForm it.e.dest = evenForm dest && bit (fullMask it.e.levels) (match lv with
    | .video => 0
    | .audio => 1
    | .anc => 2)
  s.xp.shares.any (fun x => x.tc = tc && x.decided ≠ some false && (x.coord, x.num) ≠ own && x.items.any names) ||
    (own.1 ≠ s.pairNo || own.2 = 0) && s.xp.salvos.any (fun v => v.fresh && v.tc = tc && v.items.any (fun it => it.1 = s.pairNo && names it.2))

/-- Do entries set a level that another armed salvo sets at the same instant? `own` is the salvo's coordinator and number, (0, 0) while it has none. -/
def State.salvoClash (s : State) (own : Nat × Nat) (l : List SEntry) (tc : Time) : Bool :=
  l.any (fun e => s.ours e.dest && (levelsOf e.levels).any (fun lv => s.salvoSets own e.dest lv tc))

/-- The armed salvos held, none that met a refusal or was aborted: their coordinator, number, T_c and the entries held here (04 R163). -/
def State.salvosHeld (s : State) : List (Nat × Nat × Time × Nat) :=
  let mine := (s.xp.salvos.filter (fun v => v.refused.isNone && !v.aborted)).map (fun v => (s.pairNo, v.num, v.tc, v.entries.length))
  mine ++ (s.xp.shares.filter (fun x => x.decided ≠ some false && !(x.coord = s.pairNo && s.xp.salvos.any (fun v => v.num = x.num)))).map
    (fun x => (x.coord, x.num, x.tc, x.items.length))

/-- Would `n` more armed entries exceed a limit of R163? -/
def State.salvoFull (s : State) (n : Nat) : Bool :=
  let l := s.salvosHeld
  256 ≤ l.length || 131072 < total (l.map (·.2.2.2)) + n

/-- The next commit instant of an armed salvo. -/
def State.nextCommit (s : State) : Time := (s.salvosHeld.map (·.2.2.1)).foldl (fun m t => if m = 0 then t else min m t) 0

/-! ### Arming -/

/-- The items of the entries on every pair of their paths (an entry with reserved values goes to the chip of its destination, which refuses it, 04 R162), or the chip number of a refusal (13 R498, R502, R507). MODE 0 of an entry on
another pair is budgeted as DIRECT (log entry 44). -/
def State.salvoItems (s : State) (l : List SEntry) : List (Nat × SItem) ⊕ Nat :=
  l.foldl (fun (acc : List (Nat × SItem) ⊕ Nat) (e : SEntry) =>
    match acc with
    | .inr c => .inr c
    | .inl items =>
      let d := pairOfGid e.dest
      let alone : Bool := match srcOpt e.src with
        | none => true
        | some g => pairOfGid g = d || (e.reserved && !s.ours e.dest)
      if alone then (if s.inBound d then .inl (items ++ [(d, ⟨e, 0xFFFF, 0xFFFF⟩)]) else .inr d)
      else
        if !s.inBound d then .inr d else
        let mode := modeOf e.mode (if s.ours e.dest then s.lastMode (indexOfId e.dest) .video else .direct)
        match s.entryPath e (s.keyKind (s.srcKey e.src)) mode with
        | .inl w => .inl (items ++ s.itemsOf e w)
        | .inr c => .inr c) (.inl [])

/-- The participants of a salvo besides the coordinator's pair. -/
def State.partners (s : State) (v : Salvo) : List Nat := ((v.items.map (·.1)).filter (· ≠ s.pairNo)).eraseDups

/-- The decision close of a salvo (04 R165). -/
def State.decisionClose (s : State) (v : Salvo) : Time :=
  if s.partners v = [] then s.closeOf v.tc else s.closeOf (alignPoint s.houseRate (frameFrom s.houseRate v.tc - 1))

/-- T_c of a salvo from the instant asked for, 0 for none (04 R166); none past the last allowed one. -/
def State.commitInstant (s : State) (asked : Time) (others : Bool) : Option Time :=
  let k := s.cycleEnd s.now
  let least := if others then s.houseAfter k 3 else k
  let t := s.houseFrom asked
  if s.houseAfter k 65535 < t then none else some (max t least)

/-- The next salvo number. -/
def State.newSalvoNum (s : State) : Nat × State := (s.xp.salvoNum, { s with xp.salvoNum := s.xp.salvoNum + 1 })

/-- The SALVO TLV of a salvo of this pair (13 Table 13.8). -/
def State.salvoTlv (s : State) (num : Nat) : Tlv := ⟨0x08, beBytes 8 (num * 1024 + s.pairNo)⟩

/-- A salvo is armed: its ARM messages leave, and its own share joins the close of the running cycle (04 R164; 13 R514). -/
def State.armSalvo (s : State) (v : Salvo) : State :=
  let s := (s.partners v).foldl (fun (s : State) (p : Nat) =>
    let (id, s) := s.newMsgId
    let items := (v.items.filter (fun it => it.1 = p)).map (·.2)
    (s.note id).sendMsg ⟨id, p, s.pairNo, v.num, s.closeOf (s.cycleEnd s.now), .arm v.tc v.auto v.prio v.princ items⟩) s
  { s with xp.salvos := s.xp.salvos ++ [{ v with at_ := s.now }] }

/-! ### Replies of salvos (04 Table 4.5) -/

/-- A reply to a request that armed a salvo, or a refusal of a salvo fired by a GPI (04 R172); `wait` holds it back until the copy is
confirmed. DESIGN CHOICE (log entry 104): a salvo fired by a GPI that aborts since a report is missing is logged as a refusal with resource code 0; the spec names
refusals only. -/
def State.salvoReply (s : State) (v : Salvo) (r : Reply) (wait : Bool) : State :=
  match v.sess with
  | some id =>
    let r := { r with sess := id, typ := v.typ, req := v.req }
    if wait then s.replyC r else s.reply r
  | none =>
    match v.stored with
    | some n => if r.code = 0 then s else s.event 34 1 0x0106 (beBytes 2 n ++ beBytes 1 r.resource ++ beBytes 2 r.chip)
    | none => s

/-- A blank reply, which `salvoReply` addresses. -/
def Salvo.re (v : Salvo) (code : Nat) : Reply := { sess := 0, typ := v.typ, req := v.req, code := code }

/-- EFFECTIVE of a salvo's reply, with its number for a SALVO_ARM. -/
def State.salvoTlvs (s : State) (v : Salvo) : List Tlv := if v.typ = 0x13 then [s.salvoTlv v.num, effective v.tc] else [effective v.tc]

/-- Change a salvo. -/
def State.onSalvo (s : State) (num : Nat) (f : Salvo → Salvo) : State :=
  { s with xp.salvos := s.xp.salvos.map (fun v => if v.num = num then f v else v) }

/-- Every report ARMED: ARMING to ARMED with its reply, interim for AUTO where the decision close is still to come (04 Table 4.5). -/
def State.salvoArmed (s : State) (v : Salvo) (wait : Bool) : State :=
  if v.state = .armed || v.fresh || v.refused.isSome || !(s.partners v).all (fun p => v.reports.contains p) then s
  else
    let s := s.onSalvo v.num (fun v => { v with state := .armed, answered := !v.auto })
    if v.auto && s.decisionClose v ≤ s.now then s
    else s.salvoReply v { v.re 0 with tlvs := s.salvoTlvs v, rflags := b2n v.unaligned, final := !v.auto } wait

/-- May a salvo that meets a refusal by this code be armed again (13 R506)? -/
def Salvo.again (v : Salvo) (code : Nat) : Bool := code = 0x10 && 0 < v.waits && !v.aborted

/-- The takes that wait: those of this pair, and those across Strands that were delayed (03 R115, R116; 13 R506). -/
def State.waitingNow (s : State) : Nat :=
  s.xp.waiting.length + (s.xp.salvos.filter (fun v => v.typ = 0x10 && !v.moves && !v.restored && !v.aborted &&
    (v.delayed || v.refused.any (fun r => v.again r.1)))).length

/-- A salvo held here meets its first refusal (04 R165, Table 4.5; 03 R118; 13 R506): its request is answered at once, with DELAYED the first time where it
may be armed again and fewer than WAITING_MAX takes wait (03 R116); the next close aborts it or arms it again. A BUSY that another chip reported names no RETRY: it
is a free value (log entry 2). -/
def State.refuseSalvo (s : State) (v : Salvo) (code res chip retry : Nat) (wait : Bool) : State :=
  let crowded := decide (v.typ = 0x10) && !v.moves && !v.restored && !v.delayed && decide (s.waitingMax ≤ s.waitingNow)
  let s := if crowded then s.onSalvo v.num (fun v => { v with waits := 0 }) else s
  let v := if crowded then { v with waits := 0 } else v
  let s := s.onSalvo v.num (fun v => { v with refused := some (code, res, chip), answered := v.answered || !v.again code })
  if v.again code then
    if v.delayed then s
    else ((s.bump R.ADM_DELAYED 1).peak R.ADM_WAIT_PEAK s.waitingNow).salvoReply v { v.re 1 with resource := res, final := false } wait
  else
    let s := s.bump (R.ADM_REFUSED res) (b2n (code = 0x10))
    let (x, s) := if code = 0x14 && retry = 0 then (let (x, s) := s.fresh; (max 1 x % 2 ^ 16, s)) else (retry, s)
    if v.answered || v.moves || v.restored then s else s.salvoReply v { v.re code with resource := res, chip := chip, retry := x } wait

/-- A salvo of one entry for a take or a route across Strands, handled as a SALVO_ARM with AUTO and T_c of 0 (13 R506). One whose path, bound, limit or level
is refused at once is held as refused until the close. -/
def State.armOne (s : State) (v : Salvo) : State :=
  let (num, s) := s.newSalvoNum
  let no (code res chip retry : Nat) : State :=
    let v := { v with num := num, items := [], fresh := false, refused := none, tc := s.cycleEnd s.now, at_ := s.now }
    { s with xp.salvos := s.xp.salvos ++ [v] }.refuseSalvo v code res chip retry false
  if s.salvoFull v.entries.length then no 0x14 0 s.chip (s.cyclesTo s.nextCommit)
  else match s.salvoItems v.entries with
    | .inr c => no 0x10 4 c 0
    | .inl items =>
      let tc := (s.commitInstant 0 (items.any (fun it => it.1 ≠ s.pairNo))).getD 0
      if s.salvoClash (0, 0) v.entries tc then no 0x24 0 s.chip 0
      else s.armSalvo { v with num := num, items := items, tc := tc, auto := true, refused := none, fresh := true, reports := [], state := .arming }

/-- What a REPORT does at the coordinator (04 R164, Table 4.5). -/
def State.reportAct (s : State) (m : SkMsg) : State :=
  match m.body, s.xp.salvos.find? (fun v => v.num = m.num && m.coord = s.pairNo) with
  | .report code res chip, some v =>
    if code = 0 then
      let v' := { v with reports := v.reports.filter (· ≠ m.sender) ++ [m.sender] }
      (s.onSalvo v.num (fun _ => v')).salvoArmed v' false
    else if v.refused.isSome then s
    else s.refuseSalvo v code res chip 0 false
  | _, _ => s

/-- 04 R164, Table 4.5: a REPORT reaches the coordinator. -/
def execSkeinReport (t : Time) (port : Nat) (m : SkMsg) (s : State) : Host.Outcome State Fault Refusal :=
  let _ := port
  served t s fun s => s.skeinIn m (fun s => s.reportAct m)

/-! ### Requests -/

/-- 15 R579, 04 R150, 13 R506: TAKE. -/
def execTake (t : Time) (q : Req) (s : State) : Host.Outcome State Fault Refusal :=
  let needs (ts : List Tlv) : List Need := routeNeeds (fld ts 4 0 4) (fld ts 5 0 4) (fld ts 6 0 1)
  served t s fun s => s.request ⟨0x10, true, [one 4, one 5, one 6, opt 7]⟩ q (firstLack needs) fun s c =>
    let e : SEntry := ⟨fld c.ts 4 0 4, fld c.ts 5 0 4, fld c.ts 6 0 1, fld c.ts 6 1 1, 0⟩
    let mine := s.ours e.dest
    let src := srcOpt e.src
    if mine && (s.dstRec (indexOfId e.dest)).isNone then s.noSignal c 4
    else if src.any (fun g => s.ours g && (s.srcRec (indexOfId g)).isNone) then s.noSignal c 5
    else if mine && e.video && src.any (fun g => s.formatBad (s.srcKey g) (indexOfId e.dest)) then s.reply (c.re 0x13)
    else if mine && src.all s.ours then s.enqueue c (.take t q)
    else s.armOne
      { num := 0, order := c.order, entries := [e], tc := 0, auto := true, prio := s.prio c.sess.princ, princ := c.sess.princ
        sess := some c.sess.id, req := c.id, typ := 0x10, items := [], acc := s.now, waits := min (fld c.ts 7 0 1) s.waitCap }

/-- The rights of SALVO_ARM (16 Table 16.4): as TAKE for every entry of a stored salvo; the opener's principal for a staged one. -/
def armLacks (s : State) (c : Session) (ts : List Tlv) : Option Need :=
  if hasTlv ts 9 then
    ((((s.stored (fld ts 9 0 2)).map (·.1)).getD []).flatMap (fun e => routeNeeds e.dest e.src e.levels)).find? (fun w => !s.holds c.princ w)
  else if s.sicp.staged.any (fun x => x.handle = fld ts 8 0 8 && x.princ ≠ c.princ) then some ⟨1, 0, 0, 0⟩
  else none

/-- A salvo whose entries are known is checked and armed (04 R162, R163, R166, R171). A staging handle is used up when its salvo is armed; a refusal leaves
it as it is (04 R162; 02 R51). -/
def State.salvoArm (s : State) (c : Ctx) (entries : List SEntry) (stored handle : Option Nat) : State :=
  match s.entriesBad entries with
  | some (code, detail) => s.reply { c.re code with detail := detail, chip := if code = 0x23 then s.chip else 0xFFFF }
  | none =>
    if s.salvoFull entries.length then s.busy c (s.cyclesTo s.nextCommit)
    else match s.salvoItems entries with
      | .inr chip => (s.bump (R.ADM_REFUSED 4) 1).reply { c.re 0x10 with resource := 4, chip := chip }
      | .inl items =>
        let asked := if hasTlv c.ts 2 then instantOf (tlv c.ts 2) else 0
        match s.commitInstant asked (items.any (fun it => it.1 ≠ s.pairNo)) with
        | none => s.badValue c 2
        | some tc =>
          if s.salvoClash (0, 0) entries tc then s.reply { c.re 0x24 with chip := s.chip }
          else
            let (num, s) := s.newSalvoNum
            let s := { s with sicp.staged := s.sicp.staged.filter (fun x => handle ≠ some x.handle) }
            s.armSalvo
              { num := num, order := c.order, entries := entries, tc := tc, auto := bit (fld c.ts 0x0A 0 4) 0, prio := s.prio c.sess.princ
                princ := c.sess.princ, sess := some c.sess.id, req := c.id, typ := 0x13, stored := stored, items := items, acc := s.now }

/-- 04 R164, 15 R580: SALVO_ARM. -/
def execSalvoArm (t : Time) (q : Req) (s : State) : Host.Outcome State Fault Refusal :=
  served t s fun s => s.request ⟨0x13, true, [⟨[8, 9], 1, 1⟩, one 0x0A, opt 2]⟩ q armLacks fun s c =>
    if hasTlv c.ts 9 then
      match s.stored (fld c.ts 9 0 2) with
      | none => s.reply { c.re 0x23 with chip := s.chip }
      | some (entries, _) => s.salvoArm c entries (some (fld c.ts 9 0 2)) none
    else
      match s.sicp.staged.find? (fun x => x.handle = fld c.ts 8 0 8) with
      | none => s.badState c
      | some g => s.salvoArm c g.entries none (some g.handle)

/-- The salvo that a SALVO TLV names, while it has met no refusal (04 R165). -/
def State.namedSalvo (s : State) (ts : List Tlv) : Option Salvo :=
  let n := fld ts 8 0 8
  if n % 1024 = s.pairNo then s.xp.salvos.find? (fun v => v.num = n / 1024 && v.typ = 0x13 && v.sess.isSome && v.refused.isNone) else none

/-- The rights of SALVO_COMMIT and SALVO_ABORT: the principal that armed the salvo (16 Table 16.4). -/
def commitLacks (s : State) (c : Session) (ts : List Tlv) : Option Need :=
  if (s.namedSalvo ts).any (fun v => v.princ ≠ c.princ) then some ⟨1, 0, 0, 0⟩ else none

/-- 04 R167: SALVO_COMMIT. It is answered at the decision close. -/
def execSalvoCommit (t : Time) (q : Req) (s : State) : Host.Outcome State Fault Refusal :=
  served t s fun s => s.request ⟨0x14, true, [one 8]⟩ q commitLacks fun s c =>
    match s.namedSalvo c.ts with
    | some v => if s.decisionClose v ≤ s.now then s.badState c else s.onSalvo v.num (fun v => { v with commits := v.commits ++ [(c.sess.id, c.id)] })
    | none => s.badState c

/-- 04 R167: SALVO_ABORT. -/
def execSalvoAbort (t : Time) (q : Req) (s : State) : Host.Outcome State Fault Refusal :=
  served t s fun s => s.request ⟨0x15, true, [one 8]⟩ q commitLacks fun s c =>
    match s.namedSalvo c.ts with
    | some v =>
      if s.decisionClose v ≤ s.now then s.badState c
      else (s.onSalvo v.num (fun v => { v with aborted := true })).enqueue c (.salvoAbort t q)
    | none => s.badState c

/-- 08 R314: DELAY_SET. -/
def execDelaySet (t : Time) (q : Req) (s : State) : Host.Outcome State Fault Refusal :=
  served t s fun s => s.request ⟨0x16, true, [one 4, one 0x0D]⟩ q (firstLack (fun ts => [⟨1, 1, fld ts 4 0 4, 1⟩])) fun s c =>
    let d := fld c.ts 4 0 4
    match (if s.ours d then s.dstRec (indexOfId d) else none) with
    | none => s.noSignal c 4
    | some v =>
      if 127 < fld c.ts 0x0D 0 1 || structLines (recFormat v) ≤ fld c.ts 0x0D 2 2 then s.badValue c 0x0D
      else s.enqueue c (.delaySet t q)

/-- A source as a reply shows it: its global ID in the even form, or fill (13 R485). -/
def State.shownSrc (s : State) (k : Option Nat) : Nat := (k.map s.keyGid).getD 0xFFFFFFFF

/-- The ROUTE TLV of a destination (15 Table 15.3). -/
def State.routeTlv (s : State) (i : Nat) : Tlv :=
  let d := s.dst i
  let far (x : LevelSt) : Bool := x.src.any isFar
  let flags := b2n d.unaligned + 2 * b2n (!d.under.isEmpty) + 4 * b2n (d.ovr.isSome)
    + 8 * b2n (far d.video || far d.audio || far d.anc)
  ⟨0x21, beBytes 4 (s.shownSrc d.video.src) ++ beBytes 4 (s.shownSrc d.audio.src) ++ beBytes 4 (s.shownSrc d.anc.src)
    ++ beBytes 1 (d.video.mode.code + 1) ++ beBytes 1 (b2n d.video.bobbin) ++ beBytes 1 flags ++ beBytes 1 0⟩

/-- 15 R579: ROUTE_QUERY. -/
def execRouteQuery (t : Time) (q : Req) (s : State) : Host.Outcome State Fault Refusal :=
  served t s fun s => s.request ⟨0x03, true, [one 4]⟩ q (firstLack (fun ts => [⟨0, 1, fld ts 4 0 4, 0⟩])) fun s c =>
    let g := fld c.ts 4 0 4
    if !s.ours g || (s.dstRec (indexOfId g)).isNone then s.noSignal c 4
    else
      let d := s.dst (indexOfId g)
      s.ok c [s.routeTlv (indexOfId g), ⟨0x0D, beBytes 1 d.frames ++ beBytes 1 0 ++ beBytes 2 d.lines⟩]

/-! ### Bulk writes and fences -/

/-- The key of a target's banks: a still, or plane p of head h (08 R315; 11 R432). -/
def targetKey (ts : List Tlv) : Nat :=
  if fld ts 0x17 0 1 = 1 then fld ts 0x17 1 1 else 256 + 2 * fld ts 0x17 1 1 + fld ts 0x17 2 1

/-- The bytes of a bank; none where the target does not exist (15 R581). -/
def State.bankSize (s : State) (k : Nat) : Option Nat :=
  if k < 256 then (s.stillRec k).map (fun v => pictureBytes (leAt v 2 2))
  else
    let h := (k - 256) / 2
    if (s.headSrc h).isSome && k % 2 < s.planes h then
      some (rasterW (fmtRaster (s.headFormat h)) * rasterH (fmtRaster (s.headFormat h)) * 4)
    else none

/-- The right over a target (16 Table 16.4, 11 R435): KIND 3 is always refused. -/
def targetLacks (s : State) (c : Session) (ts : List Tlv) : Option Need :=
  let kind := fld ts 0x17 0 1
  let w : Need := if kind = 1 then ⟨6, 6, fld ts 0x17 1 1, 0⟩ else ⟨6, 5, 2 * fld ts 0x17 1 1 + fld ts 0x17 2 1, 0⟩
  if kind = 3 || !s.holds c.princ w then some w else none

/-- Bytes go into the hidden bank of a key: a still's first write after a flip fills the bank first, as CLEAR does on any write (08 R316, 11
R433). -/
def State.hiddenWrite (s : State) (k o : Nat) (clear : Bool) (v : List Byte) : State :=
  let b := s.banks k
  let n := 1 - b.shown
  let s := if clear || (k < 256 && !b.dirty) then s.bankClear k n else s
  let s := s.bankWrite k n o v
  s.setBanks k { s.banks k with dirty := true, fromImage := false }

/-- 15 R581: BULK_WRITE. The data go to the twin as BULK (14 R532); in ACTIVE the reply waits until the standby has confirmed them (15 Table 15.5). -/
def execBulkWrite (t : Time) (q : Req) (s : State) : Host.Outcome State Fault Refusal :=
  served t s fun s => s.request ⟨0x33, true, [one 0x17, one 0x18, one 0x19]⟩ q targetLacks fun s c =>
    let k := targetKey c.ts
    let o := fld c.ts 0x18 0 4
    let v := tlv c.ts 0x19
    match s.bankSize k with
    | none => s.noSignal c 0x17
    | some size =>
      if 256 ≤ k && o % 4 ≠ 0 then s.badValue c 0x18
      else if 256 ≤ k && v.length % 4 ≠ 0 then s.badValue c 0x19
      else if size < o + v.length then s.badValue c 0x18
      else if (s.banks k).fence then s.busy c 1
      else
        let clear := bit (fld c.ts 0x17 3 1) 0
        let s := s.hiddenWrite k o clear v
        let s := if s.dbl.linkUp then s.dblSend 7 0 ([k, o, b2n clear] ++ v.map (·.toNat)) else s
        if s.dbl.role = .active then { s with dbl.bulks := s.dbl.bulks ++ [(k, c.re 0)] } else s.ok c []

/-- 08 R317, 11 R434: FENCE. From its acceptance writes and fences of the target are refused. -/
def execFence (t : Time) (q : Req) (s : State) : Host.Outcome State Fault Refusal :=
  served t s fun s => s.request ⟨0x34, true, [one 0x17]⟩ q targetLacks fun s c =>
    let k := targetKey c.ts
    if (s.bankSize k).isNone then s.noSignal c 0x17
    else if (s.banks k).fence then s.busy c 1
    else (s.setBanks k { s.banks k with fence := true }).enqueue c (.fence t q)

/-! ### Requests about the pair -/

/-- 14 R550: PAIR_SWAP. -/
def execPairSwap (t : Time) (q : Req) (s : State) : Host.Outcome State Fault Refusal :=
  served t s fun s => s.request ⟨0x53, true, []⟩ q (chipNeed 9) fun s c => s.enqueue c (.pairSwap t q)

/-- 14 R552: PAIR_RESTART names a chip of this pair. -/
def execPairRestart (t : Time) (q : Req) (s : State) : Host.Outcome State Fault Refusal :=
  served t s fun s => s.request ⟨0x54, true, [one 0x24]⟩ q (chipNeed 9) fun s c =>
    if pairNoOf (fld c.ts 0x24 0 2) ≠ s.pairNo then s.badValue c 0x24 else s.enqueue c (.pairRestart t q)

/-- 14 R543: PAIR_REJOIN names a chip of this pair. -/
def execPairRejoin (t : Time) (q : Req) (s : State) : Host.Outcome State Fault Refusal :=
  served t s fun s => s.request ⟨0x55, true, [one 0x24]⟩ q (chipNeed 9) fun s c =>
    if pairNoOf (fld c.ts 0x24 0 2) ≠ s.pairNo then s.badValue c 0x24 else s.enqueue c (.pairRejoin t q)

/-- 21 R749: EVAC_CLEAR. -/
def execEvacClear (t : Time) (q : Req) (s : State) : Host.Outcome State Fault Refusal :=
  served t s fun s => s.request ⟨0x56, true, []⟩ q (chipNeed 8) fun s c => s.enqueue c (.evacClear t q)

end Sys2Proof.Machine
end

