-- ==== Sys2Proof/Machine/Close.lean ====
section
/-! DEFINITION. The cycle close: the decisions on salvos, admission in the single order, the changes that a close makes of itself, and the state copy
(03 R108 to R118; 04 R147, R164 to R171; 06 R226, R230, R231; 08 R311, R314; 12 R454, R457, R476, R480; 13 R505 to R508, R519; 14 R535 to R537,
R546, R550 to R552; 18 R672). -/

namespace Sys2Proof.Machine

/-! ### Answers of class C -/

/-- A reply to a request of the cycle, held back until the copy is confirmed (15 Table 15.5). -/
def State.answerC (s : State) (r : CycReq) (typ : Nat) (q : Req) (code : Nat) (tlvs : List Tlv) : State :=
  s.replyC { sess := r.sess, typ := typ, req := q.id, code := code, tlvs := tlvs }

/-- The TLVs of a request, which its acceptance has checked. -/
def tlvsOf (q : Req) (slots : List Place) : List Tlv := match readTlvs (q.body.length + 1) slots 0 16 q.body [] with
  | .inr ts => ts
  | .inl _ => []

/-- REFUSED_CAPACITY (03 R112, R118). -/
def State.refuseC (s : State) (r : CycReq) (typ : Nat) (q : Req) (res chip : Nat) : State :=
  (s.bump (R.ADM_REFUSED res) 1).replyC { sess := r.sess, typ := typ, req := q.id, code := 0x10, resource := res, chip := chip }

/-- Items that need capacity, with their answer. -/
def State.tryAnswer (s : State) (r : CycReq) (typ : Nat) (q : Req) (l : List Eff) (tlvs : List Tlv) : State :=
  match s.tryEffs l with
  | .inr s => s.answerC r typ q 0 tlvs
  | .inl res => s.refuseC r typ q res s.chip

/-! ### Takes (03 R115 to R117; 04 R148, R152) -/

/-- What a level reads last: the source and mode of its latest pending take, or of its route. -/
def LevelSt.latest (x : LevelSt) : Option Nat × TMode := match x.pend.getLast? with
  | some p => (p.src, p.mode)
  | none => (x.src, x.mode)

/-- The items of a take: each level that it names (04 R135). A level whose source and mode it names already is left as it is at the switching point (R148); until then
the take stands against the others of its cycle by the order of R76. -/
def State.takeEffs (s : State) (w : Waiting) (due : Time) : List Eff :=
  let dest := indexOfId w.dest
  let k := (srcOpt w.src).map s.srcKey
  (levelsOf w.levels).map (fun lv =>
    let mode := modeOf w.mode ((s.dst dest).level lv).latest.2
    .take dest lv { src := k, mode := mode, bobbin := s.startBobbin dest k mode, due := due, order := w.order, prio := w.prio, princ := w.princ })

/-- UNALIGNED of a take's reply (04 R152). -/
def State.takeFlag (s : State) (w : Waiting) : Bool :=
  let dest := indexOfId w.dest
  match (srcOpt w.src).map s.srcKey with
  | none => false
  | some k => (levelsOf w.levels).any (fun lv =>
    match modeOf w.mode (s.lastMode dest lv) with
    | .direct => s.outside k
    | .synced => false
    | .catching => s.catchStart k (s.dstRate dest))

/-- A take as it would wait. -/
def takeOf (r : CycReq) (q : Req) (ts : List Tlv) (cap : Nat) : Waiting :=
  ⟨r.order, r.acc, r.sess, q.id, r.princ, r.prio, fld ts 4 0 4, fld ts 5 0 4, fld ts 6 0 1, fld ts 6 1 1, min (fld ts 7 0 1) cap⟩

/-- The TLV places of a TAKE. -/
def takeSlots : List Place := [one 4, one 5, one 6, opt 7]

/-- The takes accepted in the cycle that this close ends: order, destination and levels (02 R81; 03 R117). -/
def State.cycleTakes (s : State) : List (Nat × Nat × Nat) :=
  (s.sicp.cyc.filter (fun r => r.acc < s.now)).filterMap (fun r => match r.cmd with
    | .take _ q =>
      let ts := tlvsOf q takeSlots
      some (r.order, evenForm (fld ts 4 0 4), fullMask (fld ts 6 0 1))
    | _ => none) ++
  (s.xp.salvos.filter (fun v => v.typ = 0x10 && !v.moves && !v.restored && v.acc < s.now && s.closeOf (s.cycleEnd v.acc) = s.now)).flatMap (fun v =>
    v.entries.map (fun e => (v.order, evenForm e.dest, fullMask e.levels)))

/-- Does a later accepted take name a level that a take names? -/
def overtaken (later : List (Nat × Nat × Nat)) (w : Waiting) : Bool :=
  later.any (fun x => w.order < x.1 && x.2.1 = evenForm w.dest && x.2.2 &&& fullMask w.levels ≠ 0)

/-- A reply to a take. -/
def Waiting.re (w : Waiting) (code : Nat) : Reply := { sess := w.sess, typ := 0x10, req := w.req, code := code }

/-- Waiting takes that a later accepted take names are withdrawn with ABORTED (03 R117). -/
def State.withdraw (s : State) (later : List (Nat × Nat × Nat)) : State :=
  (s.xp.waiting.filter (overtaken later)).foldl (fun (s : State) w => (s.out_ (.unwait w.order)).replyC (w.re 0x30)) s

/-- Takes across Strands that were delayed are withdrawn with ABORTED: their salvo aborts (03 R117; 13 R506). -/
def State.withdrawDelayed (s : State) (p : Salvo → Bool) : State :=
  (s.xp.salvos.filter (fun v => v.typ = 0x10 && v.delayed && !v.aborted && p v)).foldl (fun (s : State) v =>
    (s.onSalvo v.num (fun v => { v with aborted := true, answered := true })).salvoReply v (v.re 0x30) true) s

/-- Does a principal lack a right over what an entry of a take names (16 Table 16.4)? -/
def State.lacksTake (s : State) (princ dest src levels : Nat) : Bool := (routeNeeds dest src levels).any (fun n => !s.holds princ n)

/-- At the first close of a new holder, waiting takes to which its image no longer gives their rights are withdrawn with ABORTED (16 R609). -/
def State.withdrawRights (s : State) : State :=
  if !s.dbl.newHolder then s
  else
    ((s.xp.waiting.filter (fun w => s.lacksTake w.princ w.dest w.src w.levels)).foldl
      (fun (s : State) w => (s.out_ (.unwait w.order)).replyC (w.re 0x30)) { s with dbl.newHolder := false }).withdrawDelayed
        (fun v => v.entries.any (fun e => s.lacksTake v.princ e.dest e.src e.levels))

/-- Takes across Strands that a later accepted take names are withdrawn like those of this pair (03 R117; 13 R506). -/
def State.withdrawSalvos (s : State) (later : List (Nat × Nat × Nat)) : State :=
  s.withdrawDelayed (fun v => v.entries.any (fun e =>
    later.any (fun x => v.order < x.1 && x.2.1 = evenForm e.dest && x.2.2 &&& fullMask e.levels ≠ 0)))

/-- A take is evaluated (03 R107, R109, R115, R116). `first` says that it has not waited. A take that a later one of its cycle names and that would have to wait
is answered ABORTED at once, without a DELAYED before it: the spec leaves that order open (03 R115, R117; log entry 66). -/
def State.evalTake (s : State) (w : Waiting) (first : Bool) (later : List (Nat × Nat × Nat)) (due : Time) : State :=
  let flag := s.takeFlag w
  match s.tryEffs (s.takeEffs w due) with
  | .inr s =>
    let s := if first then s else s.out_ (.unwait w.order)
    s.replyC { w.re 0 with rflags := b2n flag, tlvs := [effective due] }
  | .inl res =>
    let s := s.bump (R.ADM_REFUSED res) (b2n (w.left = 0 || (first && s.waitingMax ≤ s.waitingNow)))
    let refused : Reply := { w.re 0x10 with resource := res, chip := s.chip }
    if first then
      if w.left = 0 || s.waitingMax ≤ s.waitingNow then s.replyC refused
      else if overtaken later w then s.replyC (w.re 0x30)
      else
        let s := (s.out_ (.wait w)).bump R.ADM_DELAYED 1
        (s.peak R.ADM_WAIT_PEAK s.waitingNow).replyC { w.re 1 with resource := res, final := false }
    else if w.left ≤ 1 then ((s.out_ (.unwait w.order)).bump (R.ADM_REFUSED res) (b2n (w.left = 1))).replyC refused
    else s.out_ (.wait { w with left := w.left - 1 })

/-! ### Windows, time, flows and the pair -/

/-- 11 R415 to R419: a window is admitted: one of its old size and source only moves. What other requests of the cycle made of the heads counts for a loop. -/
def State.evalWindow (s : State) (r : CycReq) (q : Req) (b : Time) : State :=
  let w := winOfTlv (tlvsOf q [one 0x14])
  let due := s.headAt w.h b
  let moves := (look w.num s.mv.wins).any (·.keeps w (s.cropOf w))
  let far := !s.ours w.src
  let side := b2n s.dbl.side
  let way : Option Way := if far then (s.mediaPath (pairOfGid w.src + side) s.chip).filter (fun y => y.cost ≤ ms) else none
  let via := ((way.bind (fun y => y.steps.getLast?)).bind (fun x => s.farLane x.1 x.2)).map (·.2)
  if moves then (s.out_ (.window w.bytes none due)).answerC r 0x30 q 0 [effective b]
  else if s.winLoops w then s.replyC { sess := r.sess, typ := 0x30, req := q.id, code := 0x21, detail := 0x14 }
  else if far && via.isNone then s.refuseC r 0x30 q 4 (pairOfGid w.src)
  else match s.freeEngine (s.winCluster w.src w.h (via.getD 0)) with
    | some e => s.tryAnswer r 0x30 q [.window w.bytes (some e) due] [effective b]
    | none => match s.tryEffs [.window w.bytes none due] with
      | .inl res => s.refuseC r 0x30 q (min res 7) s.chip
      | .inr _ => s.refuseC r 0x30 q 7 s.chip

/-- DELTA of a step (15 Table 15.3). -/
def deltaTlv (d : Int) : Tlv := ⟨0x27, beBytes 8 (unsigned 64 d)⟩

/-- A realign or TIME_SET is admitted, or refused with BUSY before X (12 R476). -/
def State.evalStep (s : State) (r : CycReq) (typ : Nat) (q : Req) (b : Time) (d : Int) (aon : Bool) : State :=
  match s.whl.step with
  | some (x, _, _) => s.replyC { sess := r.sess, typ := typ, req := q.id, code := 0x14, retry := s.cyclesTo x }
  | none =>
    let x := s.houseAfter b 2
    (s.out_ (.whlStep x d aon)).answerC r typ q 0 [effective x, deltaTlv d]

/-- φ_h, or the current φ where it is 0 (12 R476). -/
def State.realignStep (s : State) : Int :=
  if s.whl.held ≠ 0 then s.whl.held else ((s.whl.selected.map s.phi)).getD 0

/-- δ of a TIME_SET (12 R480): a whole number of the reference's phase moduli of den / num seconds where it is a pulse. The given time refers to the acceptance of the request (log entry 50). -/
def State.setStep (s : State) (r : CycReq) (ts : List Tlv) : Int :=
  let (y, mo, d, h, mi, sc, ns) := dateTlv ts
  let raw : Int := (dateToWhorl y mo d h mi sc ns s.utcOffset : Nat) - (r.acc : Nat)
  match s.whl.selected with
  | some x =>
    if 2 ≤ x && hasPhase x then
      let (num, den) := s.modulus x
      roundDiv (roundDiv (raw * num) (den * sec) * den * sec) num
    else raw
  | none => raw

/-- 14 R552: PAIR_RESTART. -/
def State.evalRestart (s : State) (r : CycReq) (q : Req) (b : Time) : State :=
  let chip := fld (tlvsOf q [one 0x24]) 0x24 0 2
  let twinServes := s.dbl.linkUp && 1 ≤ s.dbl.twinRole && s.dbl.twinRole ≤ 6
  if !twinServes then s.answerC r 0x54 q 0x22 []
  else if chip = s.chip && s.dbl.twinRole = 2 then
    (s.outs [.swap b, .restart chip (s.houseAfter b 1)]).answerC r 0x54 q 0 [effective b]
  else (s.out_ (.restart chip b)).answerC r 0x54 q 0 [effective b]

/-- 21 R749: EVAC_CLEAR is admitted when no machine considered is elsewhere than NORMAL or CLEARABLE, and one is CLEARABLE. -/
def State.evacClearable (s : State) : Bool :=
  let own := s.probe.evac.code
  let twin := if s.dbl.linkUp && s.dbl.twinRole = 2 then (s.probe.twin.map (·.1)).toList
    else if s.probe.twinHeld && s.evacTwin then [4] else []
  let l := own :: twin
  l.all (fun c => c = 0 || c = 4) && l.any (· = 4)

/-- One accepted request of class C (15 Table 15.4) at a close; it takes effect at the house frame boundary `b`, which its reply names (02 R82, R83). -/
def State.serveReq (s : State) (r : CycReq) (later : List (Nat × Nat × Nat)) (b : Time) : State :=
  let due := b
  match r.cmd with
  | .take _ q => s.evalTake (takeOf r q (tlvsOf q takeSlots) s.waitCap) true later due
  | .delaySet _ q =>
    let ts := tlvsOf q [one 4, one 0x0D]
    let i := indexOfId (fld ts 4 0 4)
    let (f, l) := (fld ts 0x0D 0 1, fld ts 0x0D 2 2)
    let d := s.dst i
    let cur : Nat × Nat := match d.pendDelay with
      | some (f, l, _) => (f, l)
      | none => (d.frames, d.lines)
    if cur = (f, l) then s.answerC r 0x16 q 0 [effective b]
    else s.tryAnswer r 0x16 q [.delay i f l due] [effective b]
  | .flowSet _ q =>
    let ts := tlvsOf q [one 0x0E, ⟨[0x0F], 1, 2⟩]
    let i := fld ts 0x0E 0 2
    let legs := (ts.filter (fun x => x.typ = 0x0F)).map (fun x => (beAt x.val 0 1 - 1, x.val))
    let ch := s.legChanges i legs
    if ch = [] then s.answerC r 0x17 q 0 [effective b]
    else
      let (good, s') := s.flowInsert i ch
      if good then (s.out_ (.flowSet i legs b)).answerC r 0x17 q 0 [effective b]
      else s'.replyC { sess := r.sess, typ := 0x17, req := q.id, code := 0x15, chip := s.chip }
  | .flowRelease _ q =>
    let ts := tlvsOf q [one 0x0E]
    (s.out_ (.flowRel (fld ts 0x0E 0 2) (fld ts 0x0E 2 1) b)).answerC r 0x18 q 0 [effective b]
  | .audRoute _ q =>
    let l := routesOf (tlvsOf q [⟨[0x10], 1, 86⟩])
    (s.outs (l.map (fun x => .achan (adForm x.1) (some (adForm x.2.1)) (some x.2.2) (s.flipAt x.1 due) r.order))).answerC r 0x20 q 0 []
  | .busSet _ q =>
    let ts := tlvsOf q [one 0x11, ⟨[0x12], 0, 64⟩]
    (s.out_ (.abus (fld ts 0x11 0 2) (fld ts 0x11 4 2) ((membersOf ts).map (fun m => (adForm m.1, m.2))) due)).answerC r 0x21 q 0 []
  | .audDelaySet _ q =>
    let ts := tlvsOf q [one 0x13]
    s.tryAnswer r 0x22 q [.aline (fld ts 0x13 0 2) (fld ts 0x13 4 4) due] []
  | .windowSet _ q => s.evalWindow r q due
  | .windowClear _ q =>
    let ts := tlvsOf q [one 0x15]
    let h := fld ts 0x15 0 1
    (s.out_ (.windowClear (64 * h + fld ts 0x15 1 1) (s.headAt h due))).answerC r 0x31 q 0 [effective b]
  | .layerOrder _ q =>
    let ts := tlvsOf q [one 0x16]
    let h := fld ts 0x16 0 1
    (s.out_ (.order h (fld ts 0x16 1 1) (s.headAt h due))).answerC r 0x32 q 0 [effective b]
  | .fence _ q => (s.out_ (.fence (targetKey (tlvsOf q [one 0x17])) b)).answerC r 0x34 q 0 [effective b]
  | .timeRef _ q =>
    let x := fld (tlvsOf q [one 0x25]) 0x25 0 1
    (s.out_ (.whlRef (if x = 0xFF then none else some x) b)).answerC r 0x40 q 0 [effective b]
  | .timeRealign _ q =>
    if s.whl.selected.any hasPhase then s.evalStep r 0x41 q b s.realignStep false else s.answerC r 0x41 q 0x22 []
  | .timeSet _ q =>
    if s.whl.selected.any (· < 2) then s.answerC r 0x42 q 0x22 [] else s.evalStep r 0x42 q b (s.setStep r (tlvsOf q [one 0x26])) true
  | .subscribe _ q =>
    let ts := tlvsOf q [one 0x1D]
    let used := ((s.sess r.sess).map (fun c => c.subs.map (·.num))).getD []
    let (n, s) := s.freshNot 16 used
    let s := s.setSess r.sess (fun c => { c with subs := c.subs ++ [{ num := n, minClass := fld ts 0x1D 2 1, groups := fld ts 0x1D 4 4 }] })
    s.answerC r 0x08 q 0 [⟨0x1D, beBytes 2 n ++ beBytes 1 (fld ts 0x1D 2 1) ++ beBytes 1 0 ++ beBytes 4 (fld ts 0x1D 4 4)⟩]
  | .unsubscribe _ q =>
    let n := fld (tlvsOf q [one 0x1D]) 0x1D 0 2
    (s.setSess r.sess (fun c => { c with subs := c.subs.filter (fun u => u.num ≠ n) })).answerC r 0x09 q 0 []
  | .salvoAbort _ q => s.answerC r 0x15 q 0 []
  | .pairSwap _ q =>
    if !s.twinReady then s.answerC r 0x53 q 0x22 []
    else if s.dbl.swapPend.isSome then s.replyC { sess := r.sess, typ := 0x53, req := q.id, code := 0x14, retry := 1 }
    else (s.out_ (.swap b)).answerC r 0x53 q 0 [effective b]
  | .pairRestart _ q => s.evalRestart r q b
  | .pairRejoin _ q => (s.out_ (.rejoin (fld (tlvsOf q [one 0x24]) 0x24 0 2))).answerC r 0x55 q 0 []
  | .evacClear _ q =>
    if s.evacClearable then (s.out_ (.evacClear r.princ b)).answerC r 0x56 q 0 [] else s.answerC r 0x56 q 0x22 []
  | .skeinRelease _ _ m => match m.body with
    | .release routes => s.outs (routes.map (fun x => .unroute x.1 x.2))
    | _ => s
  | _ => s

/-! ### Shares of salvos (04 R164, Table 4.6; 13 R505, R507) -/

/-- The Strand for an item among the usable ones to the peer of a Strand: that on which its source's connections already are, else the one with the most free
MEDIA capacity, then of the lower lane (13 R503, R505). -/
def State.placePort (s : State) (it : SItem) : Nat :=
  match s.ownLinks.find? (fun l => l.lane = it.outPort) with
  | none => it.outPort
  | some l =>
    let lanes := sortBy (fun a b => a ≤ b) ((s.ownLinks.filter (fun x => x.peer = l.peer && s.mirrorUp x.lane)).map (·.lane))
    let same (o : SItem) : Bool := lanes.contains o.outPort && evenForm o.e.src = evenForm it.e.src && (levelsOf o.e.levels).any (levelsOf it.e.levels).contains
    match (s.skn.routes.map (·.item) ++ s.xp.shares.flatMap (·.items)).find? same with
    | some o => o.outPort
    | none =>
      let bks := s.allBks
      let free (q : Nat) : Int := (s.strandCeiling q : Int) - (sumOn bks 4 q : Int)
      (lanes.foldl (fun (best : Option Nat) q => match best with
        | none => some q
        | some o => if free o < free q then some q else some o) none).getD it.outPort

/-- The items of a share, each placed on its Strand after those before it (13 R505). -/
def State.placeItems (s : State) (x : Share) : List SItem :=
  x.items.foldl (fun (l : List SItem) (it : SItem) =>
    l ++ [if it.outPort < 256 then { it with outPort := (s.applyEff (.share { x with items := l, armed := true })).placePort it } else it]) []

/-- A share is admitted whole, or refused with a reply code, a resource and this chip's number. -/
def State.admitShare (s : State) (x : Share) (own : Bool) : (Nat × Nat × Nat) ⊕ State :=
  let ends := (x.items.filter (fun it => it.outPort = 0xFFFF && s.ours it.e.dest)).map (·.e)
  let starts := (x.items.filter (fun it => it.inPort = 0xFFFF && it.outPort ≠ 0xFFFF)).map (·.e)
  let bad : Option Nat := if own || ends = [] then none else (s.entriesBad ends).map (·.1)
  if bad.isSome then .inl (bad.getD 0, 0, s.chip)
  else if !own && starts.any (fun e => (srcOpt e.src).any (fun g => s.ours g && (s.srcRec (indexOfId g)).isNone)) then .inl (0x25, 0, s.chip)
  else if s.salvoClash (x.coord, x.num) ends x.tc then .inl (0x24, 0, s.chip)
  else if !own && s.salvoFull x.items.length then .inl (0x14, 0, s.chip)
  else
    match s.tryEffs [.share { x with items := s.placeItems x, armed := true }] with
    | .inr s => .inr s
    | .inl res => .inl (0x10, res, s.chip)

/-- A message that leaves once the copy is confirmed (13 R514). -/
def State.sendLater (s : State) (target coord num : Nat) (close : Time) (body : SkBody) : State :=
  let (id, s) := s.newMsgId
  s.out_ (.send ⟨id, target, coord, num, close, body⟩)

/-- 04 R164: a participant's share. -/
def State.serveArm (s : State) (r : CycReq) (m : SkMsg) : State :=
  match m.body with
  | .arm tc _ prio princ items =>
    let x : Share := { coord := m.coord, num := m.num, tc := tc, order := r.order, prio := prio, princ := princ, items := items }
    let close := s.closeOf (alignPoint s.houseRate (frameFrom s.houseRate tc - 1))
    match s.admitShare x false with
    | .inr s => s.sendLater m.coord m.coord m.num close (.report 0 0 0xFFFF)
    | .inl (code, res, chip) =>
      (if code = 0x10 then s.bump (R.ADM_REFUSED res) 1 else s).sendLater m.coord m.coord m.num close (.report code res chip)
  | _ => s

/-- UNALIGNED of a take across Strands (04 R152): the source as this chip classed it, where it did. -/
def State.salvoFlag (s : State) (v : Salvo) : Bool :=
  v.typ = 0x10 && v.entries.any (fun e => (srcOpt e.src).any (fun g =>
    let k := s.srcKey g
    (levelsOf e.levels).any (fun lv =>
      match modeOf e.mode (if s.ours e.dest then s.lastMode (indexOfId e.dest) lv else .direct) with
      | .direct => (!isFar k || (look k s.xp.srcFrames).isSome) && s.outside k
      | .synced => false
      | .catching => s.catchStart k (if s.ours e.dest then s.dstRate (indexOfId e.dest) else s.srcRate k))))

/-- The coordinator's own share (04 R164). -/
def State.serveSalvo (s : State) (num : Nat) : State :=
  match s.xp.salvos.find? (fun v => v.num = num) with
  | none => s
  | some v =>
    let items := (v.items.filter (fun it => it.1 = s.pairNo)).map (·.2)
    let v' := { v with fresh := false, unaligned := s.salvoFlag v }
    let x : Share := { coord := s.pairNo, num := v.num, tc := v.tc, order := v.order, prio := v.prio, princ := v.princ, items := items }
    match (if items = [] then .inr s else s.admitShare x true) with
    | .inr s => (s.onSalvo num (fun _ => v')).salvoArmed v' true
    | .inl (code, res, chip) => (s.onSalvo num (fun _ => v')).refuseSalvo v' code res chip 0 true

/-! ### Work in the order of R108 -/

/-- What a close evaluates. -/
inductive Work where
  | req (r : CycReq)
  | wait (w : Waiting)
  | salvo (prio order num : Nat)
deriving DecidableEq, Repr

/-- Its priority and place in the single order. -/
def Work.key : Work → Nat × Nat
  | .req r => (r.prio, r.order)
  | .wait w => (w.prio, w.order)
  | .salvo p o _ => (p, o)

/-- The work of a close, what was accepted before it, in descending priority, then in acceptance order (02 R81; 03 R108). -/
def State.work (s : State) : List Work :=
  let l := (s.sicp.cyc.filter (fun r => r.acc < s.now)).map Work.req ++ s.xp.waiting.map Work.wait
    ++ (s.xp.salvos.filter (fun v => v.fresh && v.at_ < s.now)).map (fun v => Work.salvo v.prio v.order v.num)
  sortBy (fun a b => b.key.1 < a.key.1 || (a.key.1 = b.key.1 && a.key.2 ≤ b.key.2)) l

/-- The bytes that the copy holds so far (14 Table 14.5). -/
def State.copySize (s : State) : Nat :=
  32 + total (s.dbl.building.map Eff.size) + total (s.dbl.replies.map Reply.size)

/-- One piece of work. -/
def State.doWork (s : State) (later : List (Nat × Nat × Nat)) (due : Time) : Work → State
  | .req r => match r.cmd with
    | .skeinArm _ _ m => s.serveArm r m
    | _ => s.serveReq r later due
  | .wait w => if s.xp.waiting.contains w then s.evalTake w false later due else s
  | .salvo _ _ num => s.serveSalvo num

/-! ### Decisions -/

/-- The pairs of a salvo that no message path reaches (04 R169; log entry 51). -/
def State.orphanPairs (s : State) (v : Salvo) : List Nat := (s.partners v).filter (fun p => (s.nextHop p).isNone)

/-- A decision: it goes into the copy, to every participant, and into the replies (04 R165, R168, Table 4.5). -/
def State.decide (s : State) (v : Salvo) (commit : Bool) : State :=
  let s := s.outDecision v.num commit
  let s := (s.partners v).foldl (fun (s : State) p => s.sendLater p s.pairNo v.num (s.closeOf v.tc) (.decision commit v.tc)) s
  let tlvs : List Tlv := [effective v.tc, ⟨0x0C, (s.orphanPairs v).flatMap (beBytes 2)⟩]
  let s := if commit then
      let s := if !v.answered then s.salvoReply v { v.re 0 with rflags := b2n v.unaligned, tlvs := (if v.typ = 0x13 then s.salvoTlv v.num :: tlvs else tlvs) } true else s
      v.commits.foldl (fun (s : State) c => s.replyC { sess := c.1, typ := 0x14, req := c.2, code := 0, tlvs := tlvs }) s
    else
      let s := if v.answered then s else s.salvoReply v (v.re 0x30) true
      v.commits.foldl (fun (s : State) c => s.replyC { sess := c.1, typ := 0x14, req := c.2, code := 0x30 }) s
  s.out_ (.unsalvo v.num)

/-- What a moved or restored route leaves: its levels are released (13 R519), or were never set (18 R675). -/
def State.moveFailed (s : State) (v : Salvo) (b : Time) (res chip : Nat) : State :=
  v.entries.foldl (fun (s : State) e =>
    let mask := fullMask e.levels
    let dest := indexOfId e.dest
    if v.restored then s.event 34 1 0x0103 (beBytes 4 (evenForm e.dest) ++ beBytes 1 mask ++ beBytes 1 res ++ beBytes 2 chip)
    else
      let s := s.outs ((levelsOf mask).map (fun lv =>
        .take dest lv { src := none, mode := s.lastMode dest lv, bobbin := false, due := b, order := v.order, prio := v.prio, princ := v.princ }))
      (s.bump R.SKN_LOST 1).raise 34 2 0x0108 (2 ^ 41 + 2 * v.num)
        (beBytes 4 (evenForm e.dest) ++ beBytes 1 mask ++ beBytes 1 res ++ beBytes 2 chip)) s

/-- A salvo that met a refusal, at the close after it (04 R165; 13 R506, R519): it is aborted, and a take with times left is armed again. -/
def State.salvoRefused (s : State) (v : Salvo) (code res chip : Nat) (b : Time) : State :=
  if v.again code then
    (s.decide { v with answered := true } false).armOne { v with waits := v.waits - 1, delayed := true, answered := false, items := [] }
  else
    let s := if (v.moves || v.restored) && !v.aborted then s.moveFailed v b res chip else s
    s.decide { v with answered := true } false

/-- The salvos whose decision close this is, `new` for those whose own share was evaluated at this close (04 R165). -/
def State.decideSalvos (s : State) (b : Time) : State :=
  let due := s.xp.salvos.filter (fun v => !v.fresh && (v.refused.isSome || s.decisionClose v ≤ s.now))
  due.foldl (fun (s : State) v =>
    match v.refused with
    | some (code, res, chip) => s.salvoRefused v code res chip b
    | none =>
      let commit := v.state = .armed && (v.auto || v.commits ≠ []) && !v.aborted
      let s := if commit && v.moves then v.entries.foldl (fun (s : State) e =>
          (s.bump R.SKN_REPATHED 1).event 34 1 0x0107 (beBytes 4 (evenForm e.dest) ++ beBytes 1 (fullMask e.levels))) s
        else if !commit && (v.moves || v.restored) && !v.aborted then s.moveFailed v b 4 s.chip else s
      s.decide v commit) s

/-- Decisions that arrived since the last close come first (04 R168). -/
def State.takeDecisions (s : State) : State :=
  let l := s.skn.decisions
  (l.foldl (fun (s : State) (d : Nat × Nat × Bool) => s.out_ (.decision d.1 d.2.1 d.2.2)) { s with skn.decisions := [] })

/-- The path of an item that ends here, as the plane's map gives it (log entry 46). -/
def State.routePath (s : State) (it : SItem) : List (Nat × Nat) :=
  let side := b2n s.dbl.side
  match s.mediaPath (pairOfGid it.e.src + side) s.chip with
  | some w => w.steps
  | none => []

/-- A committed share is carried out: its levels become pending takes from T_c, with the CATCH path decided at this close, and its routes
across Strands stand (04 R147, R168; 13 R508). An entry that names a level's source and mode changes nothing of it at the switching point (R148), but governs over a
take that falls due there (R171). -/
def State.carryShare (s : State) (x : Share) (b : Time) : State :=
  let s := x.items.foldl (fun (s : State) (it : SItem) =>
    let crosses := it.inPort ≠ 0xFFFF || it.outPort ≠ 0xFFFF
    let s := if crosses then s.out_ (.route
        { item := it, coord := x.coord, num := x.num, princ := x.princ, prio := x.prio, from_ := b
          path := if it.outPort = 0xFFFF then s.routePath it else [] })
      else s
    if it.outPort ≠ 0xFFFF || !s.ours it.e.dest then s
    else
      let dest := indexOfId it.e.dest
      let k := (srcOpt it.e.src).map s.srcKey
      (levelsOf it.e.levels).foldl (fun (s : State) lv =>
        let y := (s.dst dest).level lv
        let (src, cur) := y.latest
        let mode := modeOf it.e.mode cur
        if src = k && cur = mode && crosses && y.pend = [] && y.via ≠ it.inPort then
          s.out_ (.level dest lv y.src y.mode y.bobbin y.prio y.princ it.inPort)
        else s.out_ (.take dest lv
          { src := k, mode := mode, bobbin := s.startBobbin dest k mode, due := b, order := x.order, prio := x.prio, princ := x.princ
            salvo := some x.num, via := it.inPort })) s) s
  s.out_ (.unshare x.coord x.num)

/-- The shares whose commit cycle this close ends: COMMITTED ones are carried out, and one without a decision is orphaned (04 R168, R169). -/
def State.commitShares (s : State) (b : Time) : State :=
  (s.xp.shares.filter (fun x => x.tc ≤ b)).foldl (fun (s : State) x =>
    match x.decided with
    | some true => s.carryShare x b
    | some false => s.out_ (.unshare x.coord x.num)
    | none => (s.out_ (.orphan x.coord x.num)).raise 34 2 0x0105 (2 ^ 42 + 2 * x.num) (beBytes 8 (x.num * 1024 + x.coord))) s

/-! ### Routes across Strands that end or are lost (13 R508, R519) -/

/-- The levels of a route that ends here whose destination no longer reads or awaits its source. -/
def State.endedLevels (s : State) (r : SRoute) : Nat :=
  let dest := indexOfId r.item.e.dest
  let k := (srcOpt r.item.e.src).map s.srcKey
  total ((levelsOf r.item.e.levels).map (fun lv =>
    let x := (s.dst dest).level lv
    if x.src = k || x.pend.any (fun p => p.src = k) then 0 else lv.mask))

/-- The bookings of levels of a route are freed here, and RELEASE goes to every pair of its path. -/
def State.freeRoute (s : State) (r : SRoute) (levels : Nat) (b : Time) : State :=
  let dest := evenForm r.item.e.dest
  let s := s.out_ (.unroute dest levels)
  (((r.path.map (fun x => pairNoOf x.1)).filter (· ≠ s.pairNo)).eraseDups).foldl (fun (s : State) p =>
    s.sendLater p r.coord r.num (s.closeOf (s.houseAfter b 1)) (.release [(dest, levels)])) s

/-- The routes that end at destinations of this pair. -/
def State.endRoutes (s : State) : List SRoute := s.skn.routes.filter (fun r => r.item.outPort = 0xFFFF && s.ours r.item.e.dest)

/-- Routes that their destinations left are freed at the close after the switch. -/
def State.freeRoutes (s : State) (b : Time) : State :=
  s.endRoutes.foldl (fun (s : State) r =>
    let m := s.endedLevels r
    if m = 0 || s.now < r.from_ then s else s.freeRoute r m b) s

/-- Is a route lost: both mirrors of a Strand of its path are out, or one has been out for MIRROR_HOLD and still is (13 R519)? -/
def State.routeLost (s : State) (r : SRoute) : Bool :=
  s.strandLost r.item.inPort || r.path.any (fun x =>
    (!(lookD x.1 s.plane []).any (fun l => l.lane = x.2) && !(lookD (x.1 ^^^ 1) s.skn.twinMap []).any (fun l => l.lane = x.2)) ||
    (!s.stepUp x && s.skn.halfAt.any (fun (y : (Nat × Nat) × Nat) => y.1 = x && y.2 + s.mirrorHold ≤ s.up)))

/-- Lost routes are freed and armed again on a new path (13 R519), in the order of R108. -/
def State.lostRoutes (s : State) (b : Time) : State :=
  let s := s.noteSteps
  let lost := sortBy (fun a c => c.prio ≤ a.prio) (s.endRoutes.filter (fun r => r.from_ ≤ s.now && s.routeLost r))
  lost.foldl (fun (s : State) r =>
    let mode := ((s.dst (indexOfId r.item.e.dest)).level ((levelsOf r.item.e.levels).headD .video)).mode
    let e : SEntry := { r.item.e with levels := fullMask r.item.e.levels, mode := mode.code + 1 }
    let s := s.freeRoute r e.levels b
    let order := s.sicp.order
    { s with sicp.order := order + 1 }.armOne
      { num := 0, order := order, entries := [e], tc := 0, auto := true, prio := if r.princ = noPrinc then r.prio else s.prio r.princ, princ := r.princ, sess := none, typ := 0x10
        items := [], moves := true, acc := s.now }) s

/-- The moves that a take of the cycle overtakes are withdrawn (13 Table 13.10). -/
def State.dropMoves (s : State) : State :=
  let later := s.cycleTakes
  { s with xp.salvos := s.xp.salvos.map (fun v =>
    if v.moves && v.entries.any (fun e => later.any (fun x => x.2.1 = evenForm e.dest && x.2.2 &&& fullMask e.levels ≠ 0)) then { v with aborted := true }
    else v) }

/-- The levels of the journal whose source lies on another pair are armed at the first close in control (18 R675). -/
def State.armRestored (s : State) : State :=
  let l := s.boot.farLevels.zip s.boot.farPrio
  l.foldl (fun (s : State) (x : SEntry × Nat) =>
    let order := s.sicp.order
    { s with sicp.order := order + 1 }.armOne
      { num := 0, order := order, entries := [x.1], tc := 0, auto := true, prio := x.2, princ := noPrinc, sess := none, typ := 0x10, items := []
        restored := true, acc := s.now }) { s with boot.farLevels := [], boot.farPrio := [] }

/-! ### What a close decides of itself -/

/-- The changes of CATCH path (04 R147, Table 4.2). -/
def State.catchPaths (s : State) (due : Time) : State :=
  s.dests.foldl (fun (s : State) dest =>
    [Level.video, .audio, .anc].foldl (fun (s : State) lv =>
      let x := (s.dst dest).level lv
      match x.src with
      | none => s
      | some k =>
        if x.mode ≠ .catching || x.pathDue.isSome || s.keyKind k = 3 || s.keyKind k = 4 then s
        else
          let (ins, outs) := s.innerCounts k (s.dstRate dest) (s.keyTro k)
          if !x.bobbin && s.catchHold ≤ outs then s.out_ (.path dest lv true due)
          else if x.bobbin && s.catchHold ≤ ins then s.out_ (.path dest lv false due)
          else s) s) s

/-- The hysteresis of every read connection (08 R311). -/
def State.hystEffs (s : State) : List Eff :=
  s.bob.rings.flatMap (fun r => r.2.reads.map (fun c => .hyst r.1 c.frames c.lines c.h))

/-- The owners of the legs of joined flows (06 R231). -/
def State.ownerEffs (s : State) (b : Time) : List Eff :=
  s.ip.flows.flatMap (fun f => (f.2.legs.mapIdx (fun k l => .owner f.1 k l.owner b)))

/-- The decision about φ_h (12 R457). -/
def State.phaseEffs (s : State) (b : Time) : List Eff :=
  match s.whl.selected with
  | some r =>
    if s.slewLimit < s.phaseErr.natAbs && s.whl.step.isNone then
      (if s.autoStep then [.whlStep (s.houseAfter b 2) (s.phi r) false] else [.whlHeld (s.phi r) b])
    else []
  | none => []

/-- The sequence counters of ST 2110-22 and ST 2110-40 flows (04 R158). -/
def State.seqEffs (s : State) : List Eff := s.xp.seqAt.map (fun x => .seqCtr x.1 x.2)

/-- The sessions on the pair address as they stand once the replies of this close are sent, and the pair buckets (14 Table 14.5; 16 R608). The copy
gives elapsed time as an age, since the twin counts its own. -/
def State.sessEff (s : State) : Eff :=
  let cached := s.sicp.sessions.map (fun c => s.dbl.replies.foldl (fun (c : Session) r => if r.sess = c.id then (c.cache r).sent else c) c)
  .sess ((cached.filter (fun c => !c.own)).map (fun c => { c with lastRx := s.up - c.lastRx }))
    ((s.sicp.buckets.filter (·.pair)).map (fun b => { b with at_ := s.up - b.at_ }))

/-- What a close decides after the requests: salvos and shares, CATCH paths, hysteresis, owners, φ_h, sequence counters, sessions. -/
def State.closeRest (s : State) (b : Time) : State :=
  let s := (s.decideSalvos b).commitShares b
  let s := s.outs ((s.xp.salvos.filter (fun v => !v.fresh)).map .salvo)
  let s := (s.catchPaths b).outs (s.hystEffs ++ s.ownerEffs b ++ s.phaseEffs b ++ s.seqEffs)
  { s with dbl.building := s.dbl.building ++ [s.sessEff], xp.seqCopy := s.xp.seqAt }

/-- Does a work wait for the next close: a fence of a bank of which the standby has not confirmed some data (08 R317)? -/
def State.fenceWaits (s : State) (w : Work) : Bool := match w with
  | .req r => (match r.cmd with
    | .fence _ q => s.dbl.bulks.any (fun x => x.1 = targetKey (tlvsOf q [one 0x17]))
    | _ => false)
  | _ => false

/-- All of it, up to the last that fits in a copy of 4 MB (14 R536; 00 R13): what is not reached stays pending, as does what belongs to the next cycle and a fence whose
bank the standby does not hold yet. -/
def State.doWorks (s : State) (due b : Time) : State :=
  let later := s.cycleTakes
  let next := s.sicp.cyc.filter (fun r => s.now ≤ r.acc)
  let fences := s.work.filter s.fenceWaits
  let works := s.work.filter (fun w => !s.fenceWaits w)
  let (s, left, _) := works.foldl (fun (acc : State × List Work × Bool) w =>
    if acc.2.2 then (acc.1, acc.2.1 ++ [w], true)
    else
      let s' := acc.1.doWork later due w
      if 4194304 < (s'.closeRest b).copySize && acc.1.dbl.role = .active then (acc.1, acc.2.1 ++ [w], true) else (s', acc.2.1, false)) (s, [], false)
  let held := (left ++ fences).filterMap (fun w => match w with
    | .req r => some r
    | _ => none)
  { s with sicp.cyc := sortBy (fun a b => a.order ≤ b.order) (held ++ next) }.bump R.DBL_DEFERRED left.length

/-! ### Checkpoints (18 R671, R672) -/

/-- The timing mode of a DESTINATION record (02 Table 2.11). -/
def recMode (v : List Byte) : TMode := let m := byteAt v 3 / 4 % 4; if m = 1 then .synced else if m = 2 then .catching else .direct

/-- The delay that the image gives a destination (08 Table 8.7). -/
def State.imageDelay (s : State) (i : Nat) : Nat × Nat :=
  match s.recOf 0x0163 0 2 i with
  | some v => (byteAt v 2, leAt v 4 2)
  | none => (0, 0)

/-- The bytes of a window as its record has them. -/
def winRecBytes (n : Nat) (b : WinBuf) (x y z : Nat) : List Byte :=
  WinReq.bytes { h := n / 64, k := n % 64, z := z, src := b.src, x := x, y := y, w := b.w, ht := b.h, crop := b.crop }

/-- The objects whose state differs from what the image's records give it. -/
def State.ckptItems (s : State) : List JItem :=
  let img := { s with aud := {} }.audStart
  let levels := s.dests.flatMap (fun i => [Level.video, .audio, .anc].filterMap (fun lv =>
    let x := (s.dst i).level lv
    if x.src.isNone && x.mode = ((s.dstRec i).map recMode).getD .direct then none
    else some (JItem.level i lv x.mode (x.src.map s.keyGid) x.prio)))
  let delays := s.dests.filterMap (fun i =>
    let d := s.dst i
    if (d.frames, d.lines) = s.imageDelay i then none else some (JItem.delay i d.frames d.lines))
  let outs := s.outAddrs.zipIdx.filterMap (fun x =>
    let (a, o) := (s.outCh x.2, img.outCh x.2)
    if a.sel = o.sel && a.gain = o.gain then none else some (JItem.achan x.1 a.sel a.gain))
  let buses := s.aud.buses.filterMap (fun x =>
    let o := img.abus x.1
    if x.2.gain = o.gain && x.2.members = o.members then none else some (JItem.bus x.1 x.2.gain x.2.members))
  let lines := s.aud.lines.filterMap (fun x =>
    if ((look x.1 img.aud.lines).map (·.len)) = some x.2.len then none else some (JItem.aline x.1 x.2.len))
  let imgWins := (s.recs 0x0191).map (fun r => winOfRec r.val)
  let wins := s.mv.wins.filterMap (fun w =>
    if w.2.ends.isSome then none
    else
      let r : List Byte := match w.2.change with
        | some (b, (x, y, z), _, _) => winRecBytes w.1 b x y z
        | none => match w.2.move with
          | some (x, y, z, _) => winRecBytes w.1 w.2.buf x y z
          | none => winRecBytes w.1 w.2.buf w.2.x w.2.y w.2.z
      if imgWins.any (fun i => i.bytes = r) then none else some (JItem.window r))
  let cleared := (imgWins.filter (fun i => !s.mv.wins.any (fun w => w.1 = i.num && w.2.ends.isNone))).map (fun i => JItem.windowClear i.h i.k)
  let orders := (List.range 16).filterMap (fun h =>
    let o := (((s.head h).orderPend.map (·.1))).getD (s.head h).order
    if (s.headSrc h).isNone || o = orDef (byteAt (s.headRec h) 2) 0xE4 then none else some (JItem.order h o))
  let flows := s.ip.flows.filterMap (fun f =>
    let same := (s.flowIn f.1).any (fun v => (recLegs v).mapIdx legBytes = f.2.legs.mapIdx legBytes)
    if same then none else some (s.flowItem f.1))
  levels ++ delays ++ outs ++ buses ++ lines ++ wins ++ cleared ++ orders ++ flows

/-- A checkpoint begins where one is due (18 R672). -/
def State.checkpoint (s : State) : State := if s.ckptNeeded then s.beginCheckpoint s.ckptItems else s

/-! ### The copy -/

/-- A copy is confirmed: Shuttles are armed, the replies held back are sent, and the messages it carries leave (04 R150; 13 R514; 14 R535). -/
def State.confirm (s : State) (effs : List Eff) (replies : List Reply) : State :=
  let s := replies.foldl (fun (s : State) r => s.reply r) s.armAll
  effs.foldl (fun (s : State) e => match e with
    | .send m => (s.note m.id).sendMsg m
    | _ => s) s

/-- Admission and every decision of a close whose cycle ends at `b`; requests take effect at `due` (02 R82, R83). -/
def State.admission (s : State) (due b : Time) : State :=
  let s := { s with dbl.building := [], dbl.replies := [] }
  let s := (s.takeDecisions.decideSalvos b).freeRoutes b
  let s := (s.lostRoutes b).armRestored.dropMoves
  let s := (s.withdrawRights.withdraw s.cycleTakes).withdrawSalvos s.cycleTakes
  (s.doWorks due b).closeRest b

/-- An item of the journal as an item of a snapshot, where it is one (14 R553). -/
def snapOf (now : Time) : JItem → Option Eff
  | .delay dest f l => some (.delay dest f l now)
  | .achan out sel gain => some (.achan out (some sel) (some gain) now 0)
  | .bus bus gain members => some (.abus bus gain members now)
  | .aline line n => some (.aline line n now)
  | .windowClear h k => some (.windowClear (64 * h + k) now)
  | .order h o => some (.order h o now)
  | .flow _ _ => none
  | .level _ _ _ _ _ => none
  | .window _ => none

/-- The levels of a destination in a snapshot, with their pending takes. -/
def State.snapLevels (s : State) (dest : Nat) : List Eff :=
  [Level.video, .audio, .anc].flatMap (fun lv =>
    let x := (s.dst dest).level lv
    Eff.level dest lv x.src x.mode x.bobbin x.prio x.princ x.via ::
      (x.pathDue.map (fun p => Eff.path dest lv p.1 p.2)).toList ++ x.pend.map (fun p => Eff.take dest lv p))

/-- The windows of a snapshot. -/
def State.snapWindows (s : State) : List Eff :=
  s.mv.wins.filterMap (fun w =>
    if w.2.ends.isSome then none
    else match w.2.change with
      | some (b, (x, y, z), due, _) => some (.window (winRecBytes w.1 b x y z) b.engine due)
      | none => match w.2.move with
        | some (x, y, z, due) => some (.window (winRecBytes w.1 w.2.buf x y z) w.2.buf.engine due)
        | none => some (.window (winRecBytes w.1 w.2.buf w.2.x w.2.y w.2.z) w.2.buf.engine s.now))

/-- The banks of stills and planes that SiCP has written (14 R553). -/
def State.snapBanks (s : State) : List Eff :=
  (s.bob.banks.filter (fun b => !b.2.fromImage)).flatMap (fun b =>
    [0, 1].map (fun n => Eff.bank b.1 n b.2.shown (b.2.valid n) (s.bankBytes b.1 n)))

/-- The flow tables of a snapshot: the key, the entries in the order in which they went in, the values of the legs; then the changes that await a
house frame boundary (06 R224, R226, R230). -/
def State.snapFlows (s : State) : List Eff :=
  let entries := (s.ip.tables.flatMap (fun t => inOrder t.2)).filter (·.on)
  .flowTable s.ip.hashKey (entries.map (fun e => (e.key, e.what, e.on)))
      (s.ip.flows.map (fun f => (f.1, f.2.legs.map (fun l => (l.key, l.saddr, l.ssm)))))
    :: s.ip.flows.flatMap (fun f =>
      (f.2.setAt.map (fun b => Eff.flowSet f.1 (f.2.legs.mapIdx (fun k l => (k, legBytes k l))) b)).toList
        ++ (f.2.relAt.map (fun r => Eff.flowRel f.1 r.1 r.2)).toList)

/-- The snapshot of the holder's state (14 R553). -/
def State.snapEffs (s : State) : List Eff :=
  s.dests.flatMap s.snapLevels ++ s.ckptItems.filterMap (snapOf s.now) ++ s.snapFlows ++ s.snapWindows ++ s.snapBanks
    ++ s.xp.waiting.map Eff.wait ++ s.xp.shares.map Eff.shareHeld ++ s.xp.salvos.map Eff.salvo ++ s.skn.routes.map Eff.route
    ++ s.seqEffs ++ [.whlHeld s.whl.held s.now, s.sessEff]

/-- Does an item name the twin itself, so that it goes to a twin in any serving role (14 R543, R552; log entry 52)? -/
def Eff.toTwin (chip : Nat) : Eff → Bool
  | .rejoin c => c = chip
  | .restart c _ => c = chip
  | _ => false

/-- The copy leaves, and is held until the twin confirms it; in SOLO the end of admission is the confirmation (14 R535, R537). A joining twin
first takes a snapshot, and its copies are not waited for (R553). -/
def State.sendCopy (s : State) (close : Time) : State :=
  let effs := s.dbl.building
  let replies := s.dbl.replies
  let size := s.copySize
  let s := { s with dbl.building := [], dbl.replies := [] }
  match s.dbl.role with
  | .active =>
    let s := ((s.bump R.DBL_COPIES 1).peak R.DBL_COPY_PEAK (ceilDiv size 1024)).dblData size (.dblCopy close effs)
    { s with dbl.held := some { close := close, effs := effs, replies := replies } }
  | _ =>
    let s := s.confirm effs replies
    let named := effs.filter (Eff.toTwin (s.chip ^^^ 1))
    if !s.dbl.linkUp then s
    else if s.dbl.twinRole = 1 then
      if s.dbl.snapDue then { s with dbl.snapDue := false, dbl.snapped := true }.dblData (total (s.snapEffs.map Eff.size)) (.dblSnap close s.snapEffs)
      else if s.dbl.snapped then ((s.bump R.DBL_COPIES 1).peak R.DBL_COPY_PEAK (ceilDiv size 1024)).dblData size (.dblCopy close effs)
      else s
    else if named = [] then s
    else s.dblData (32 + total (named.map Eff.size)) (.dblCopy close named)

/-- The size above which R83 applies: with LEAD 1, 2 MB, or 1 MB on one lane (02 R83; 14 R534, R537). -/
def State.lateCopy (s : State) : Bool :=
  s.lead = 1 && s.dbl.role = .active && (if s.dbl.lanes = 3 then 2097152 else 1048576) < s.copySize

/-- The close of the holder. -/
def State.closeCycle (s : State) (b : Time) : State :=
  let s1 := s.admission b b
  let s := if s1.lateCopy then s.admission (s.houseAfter b 1) b else s1
  ((s.settle b).checkpoint).sendCopy s.now

/-- 03 R108, 14 R535: the cycle close. The holder yields instead where it must and may (14 R542); a chip without control keeps its
journal, and where no copies reach it its bobbins and frequency point follow its own bookings (09 R351). Tiers that are empty are masked (09 R356). -/
def execCycleClose (t : Time) (s : State) : Host.Outcome State Fault Refusal :=
  served t s fun s =>
    let b := s.cycleEnd (s.now - 1)
    if s.closeOf b ≠ s.now || s.dbl.lastClose = s.now then s
    else
      let s := { s with dbl.lastClose := s.now }.tierMask
      if s.dbl.settleEnd.isSome then s
      else if !s.dbl.role.holds then (if s.dbl.linkUp && (s.dbl.role = .standby || s.dbl.role = .joining) then s else s.settle b).checkpoint
      else if s.dbl.yieldPend && s.twinReady then s.yield
      else s.closeCycle b

end Sys2Proof.Machine
end

