-- ==== Sys2Proof/Machine/Gpio.lean ====
section
/-! DEFINITION. The general-purpose pins: inputs with their triggers, and outputs with their functions (21 R736 to R741, R752; 04 R172, R173). -/

namespace Sys2Proof.Machine

/-- The GPIO record of a pin (21 Table 21.7); a pin without one is OFF, as all its fields read 0. -/
def State.pinRec (s : State) (p : Nat) : List Byte := (s.recOf 0x0220 0 1 p).getD []

/-! ### Outputs -/

/-- The source that a destination emits on its VIDEO level, named as in ConnKey: the override's head counts, fill does not (21 Table 21.3). -/
def State.emittedSrc (s : State) (dest : Nat) : Option Nat :=
  let d := s.dst dest
  if !d.live then none
  else match d.ovr with
    | some h => (s.headSrc h).map (fun v => leAt v 0 2)
    | none =>
      match d.v.car with
      | .fill => none
      | .direct k => if d.filled then none else some k
      | .ring k _ => some k
      | .still _ _ => d.video.src

/-- Is the condition of a pin's function met (21 Table 21.3)? -/
def State.gpoActive (s : State) (v : List Byte) : Bool :=
  let first := leAt v 6 2
  let arg := leAt v 8 4
  match byteAt v 4 with
  | 0 => bit arg 0
  | 1 => (List.range (leAt v 12 2)).any (fun i => s.emittedSrc (first + i) = some (s.srcKey arg))
  | 2 => s.evacOn
  | 3 => 2 ≤ s.get R.FLT_WORD_HI_CLASS
  | 4 => s.whlCur = 2
  | 5 =>
    let lane := arg % 256
    first ≤ (if bit arg 16 then s.get (R.RX_STAT_LRATE lane) else s.txRate lane)
  | 6 => (bit first 0 && s.has (R.VPROBE_BLACK arg)) || (bit first 1 && s.has (R.VPROBE_FREEZE arg))
  | 7 =>
    if bit first 0 then (placeOf s.outAddrs arg).any (fun o => s.has (R.AUD_OUT_SILENT o))
    else (placeOf s.inAddrs arg).any (fun i => s.has (R.AUD_IN_SILENT i))
  | _ => false

/-- Does an output pin that is driven carry a high level (21 R740)? -/
def State.gpoHigh (s : State) (p : Nat) : Bool := s.has (R.GPIO_ACTIVE p) ≠ bit (byteAt (s.pinRec p) 2) 0

/-- Is an output pin driven: a chip that does not hold control leaves it at high impedance, a pin of a cluster in reset is
quiet, and an open-drain pin drives low only (21 R736, R740, R752)? -/
def State.gpoDriven (s : State) (p : Nat) : Bool :=
  let mode := byteAt (s.pinRec p) 1
  s.holder && !s.flt.stopped && !s.has (rstNow (p / 4)) && (mode = 2 || (mode = 3 && !s.gpoHigh p))

/-- An output pin follows its function (21 R740); `level` is the level at the pin while nothing here drives it. -/
def State.gpoShow (s : State) (p : Nat) (level : Option Bool) : State :=
  let v := s.pinRec p
  if byteAt v 1 < 2 then s
  else
    let act := s.gpoActive v
    let s := (s.bump (R.GPIO_EDGES p) (b2n (s.has (R.GPIO_ACTIVE p) ≠ act))).set (R.GPIO_ACTIVE p) (b2n act)
    match level with
    | some l => s.set (R.GPIO_LEVEL p) (b2n l)
    | none => s

/-- PCn.GPIO of a pin (21 Table 21.8): MODE and FUNC of its record, and for an output whether it is driven, and then with which level. -/
def State.pinShows (s : State) (p : Nat) : List (Nat × Nat × Nat) :=
  let v := s.pinRec p
  let out : List (Nat × Nat × Nat) := if s.gpoDriven p then [(29, 29, b2n (s.gpoHigh p)), (27, 27, 1)] else []
  (31, 30, byteAt v 1) :: (19, 16, byteAt v 4) :: out

/-- The tally pins follow a switching point (21 R741). -/
def State.tallies (s : State) : State :=
  (List.range 64).foldl (fun (s : State) (p : Nat) => if byteAt (s.pinRec p) 4 = 1 && !s.has (rstNow (p / 4)) then s.gpoShow p none else s) s

/-! ### Inputs -/

/-- SALVO_REFUSED of a stored salvo that a GPI fired (04 R172). -/
def State.fireRefused (s : State) (n res chip : Nat) : Nat × State := (0, s.event 34 1 0x0106 (beBytes 2 n ++ beBytes 1 res ++ beBytes 2 chip))

/-- A GPI fires stored salvo `n`, as a SALVO_ARM with AUTO and T_c = 0 (04 R172, R173): the action of GPI_EDGE, and the state. Whether a salvo that is
COMMITTED and awaits its T_c is still "already armed" the spec leaves open: it is not, and the trigger fires it again (log entry 69). -/
def State.fire (s : State) (n : Nat) : Nat × State :=
  match s.stored n with
  | none => s.fireRefused n 0 s.chip
  | some (entries, prio) =>
    if s.xp.salvos.any (fun v => v.stored = some n && v.refused.isNone && !v.aborted) then (2, s.bump R.SALVO_GPI_IGNORED 1)
    else if (s.entriesBad entries).isSome || s.salvoFull entries.length then s.fireRefused n 0 s.chip
    else match s.salvoItems entries with
      | .inr chip => (s.bump (R.ADM_REFUSED 4) 1).fireRefused n 4 chip
      | .inl items =>
        match s.commitInstant 0 (items.any (fun it => it.1 ≠ s.pairNo)) with
        | none => s.fireRefused n 0 s.chip
        | some tc =>
          if s.salvoClash (0, 0) entries tc then s.fireRefused n 0 s.chip
          else
            let order := s.sicp.order
            let (num, s) := { s with sicp.order := order + 1 }.newSalvoNum
            (1, s.armSalvo
              { num := num, order := order, entries := entries, tc := tc, auto := true, prio := prio, princ := noPrinc, sess := none
                stored := some n, items := items, acc := s.now })

/-- An accepted edge of an input pin: counted, its trigger carried out, and GPI_EDGE of the cluster that the pin belongs to (21 R735, R736, R738, R739). -/
def State.gpiEdge (s : State) (p : Nat) (level : Bool) : State :=
  let s := (s.set (R.GPIO_ACCEPTED p) (b2n level)).bump (R.GPIO_EDGES p) 1
  let hit (v : List Byte) : Bool := byteAt v 0 = p && (byteAt v 1 = 2 || byteAt v 1 = (if level then 0 else 1))
  let (action, s) : Nat × State := match (s.recs 0x0221).find? (fun r => hit r.val) with
    | some r =>
      if byteAt r.val 2 ≠ 1 then (0, s)
      else if !s.holder then (3, s)
      else s.fire (leAt r.val 4 2)
    | none => (0, s)
  let s := s.bump (R.GPIO_FIRED p) (b2n (action = 1))
  s.event (p / 4) 0 0x0605 (beBytes 1 p ++ beBytes 1 (b2n level) ++ beBytes 1 action)

/-- One sample of a pin: a new level is accepted when DEBOUNCE consecutive samples show it (21 R738). -/
def State.pinSample (s : State) (p : Nat) (level : Bool) : State :=
  let v := s.pinRec p
  let mode := byteAt v 1
  if s.has (rstNow (p / 4)) || mode = 0 then s
  else if 2 ≤ mode then s.gpoShow p (some level)
  else
    let s := s.set (R.GPIO_LEVEL p) (b2n level)
    let (was, count) := lookD p s.probe.gpi (level, 0)
    if s.has (R.GPIO_ACCEPTED p) = level then { s with probe.gpi := drop p s.probe.gpi }
    else
      let n := if was = level then count + 1 else 1
      if n < orDef (byteAt v 3) 10 then { s with probe.gpi := put p (level, n) s.probe.gpi }
      else { s with probe.gpi := drop p s.probe.gpi }.gpiEdge p level

/-- 21 R738: the pins are sampled; bit p of `levels` is the level at pin p. The functions of the output pins are judged with it (R741). -/
def execGpiSample (t : Time) (levels : Nat) (s : State) : Host.Outcome State Fault Refusal :=
  served t s fun s => (List.range 64).foldl (fun (s : State) (p : Nat) => s.pinSample p (bit levels p)) s

end Sys2Proof.Machine
end

