-- ==== Sys2Proof/Machine/Integrator.lean ====
section
/-! DEFINITION. The content rules of the image that the chip does not check (18 R681, Table 18.14). An image that breaks one is unpredictable in
the sense of R6. What one chip's image cannot show is left out: R78, R253, R330, R361, R472, R487, R557, R588, R654 (log entry 62). -/

namespace Sys2Proof.Machine

/-! ### Lengths (18 R663) -/

/-- Has a record the length that its table gives? -/
def lengthOk (typ : Nat) (v : List Byte) : Bool :=
  let n := v.length
  let plus (b k c : Nat) : Bool := n = b + k * c
  match typ with
  | 0x0100 | 0x0120 | 0x0131 | 0x0132 | 0x0160 => n = 4
  | 0x0110 | 0x0130 | 0x0150 | 0x0151 | 0x0152 | 0x0153 | 0x0161 | 0x0163 | 0x0170 | 0x0180 | 0x0184 | 0x0186 => n = 8
  | 0x01A2 | 0x01B0 | 0x01B1 | 0x01C0 | 0x01D0 | 0x01E0 | 0x01F0 | 0x0210 | 0x0221 | 0x0230 => n = 8
  | 0x0101 | 0x0102 => plus 12 2 (if 1 ≤ byteAt v 2 && byteAt v 2 ≤ 2 then leAt v 6 2 else 0)
  | 0x0121 => plus 8 12 (leAt v 2 2)
  | 0x0141 => plus 24 40 (1 + byteAt v 3 % 2)
  | 0x0142 => plus 32 56 (1 + byteAt v 3 % 2)
  | 0x0143 => n = 28
  | 0x0144 => n = 40
  | 0x0154 => n = 48
  | 0x0162 => 9 ≤ n
  | 0x0181 | 0x0185 => plus 4 12 (leAt v 0 2)
  | 0x0182 => plus 8 8 (byteAt v 3)
  | 0x0183 | 0x01A3 | 0x0228 => n = 12
  | 0x0190 => plus 16 4 (byteAt v 14)
  | 0x0191 | 0x01A0 | 0x01E4 => n = 24
  | 0x0192 => plus 24 16 (leAt v 2 2)
  | 0x0193 => plus 8 2 (leAt v 4 2)
  | 0x0194 => 12 ≤ n && n % 4 = 0
  | 0x01A1 => plus 16 8 (byteAt v 9)
  | 0x01E1 => 5 ≤ n && n ≤ 4096
  | 0x01E2 => plus 16 1 (byteAt v 7)
  | 0x01E3 => plus 8 12 (leAt v 4 2)
  | 0x0200 | 0x0220 => n = 16
  | 0x0229 => plus 4 8 (leAt v 0 2)
  | 0x0231 => plus 4 4 (leAt v 0 2)
  | _ => true

/-! ### Values (02 R84, R86, and each table's ranges) -/

/-- A field is in its range; a field is in its range or 0, which selects its default; the reserved bytes of a record are 0. -/
def within (v : List Byte) (o n lo hi : Nat) : Bool := let x := leAt v o n; lo ≤ x && x ≤ hi
def orZero (v : List Byte) (o n lo hi : Nat) : Bool := leAt v o n = 0 || within v o n lo hi
def zeros (v : List Byte) (l : List (Nat × Nat)) : Bool := l.all (fun x => leAt v x.1 x.2 = 0)

/-- The items of a record's list. -/
def each (n : Nat) (p : Nat → Bool) : Bool := (List.range n).all p

/-- Is a format code one that Table 2.4 lists (02 R59, Table 2.8)? `rated` is false where RATE is ignored. -/
def formatOk (f : Nat) (rated : Bool) : Bool :=
  let r := fmtRate f
  bits f 7 4 = 0 && (if !rated then true else r ≤ 12) &&
    match fmtRaster f, fmtScan f with
    | 0, c => c ≤ 2
    | 1, 0 => !rated || (7 ≤ r && r ≤ 9)
    | 2, 0 => true
    | 2, 1 => !rated || (2 ≤ r && r ≤ 4)
    | 2, 2 => !rated || r ≤ 4
    | 3, 0 => true
    | _, _ => false

/-- Has SDI carriage for a format in a grouping (02 Table 2.4, R60)? -/
def sdiCarries (f group : Nat) : Bool :=
  let r := fmtRate f
  fmtSampling f = 0 &&
    match fmtRaster f, group with
    | 0, _ => true
    | 1, 0 => true
    | 2, 0 => true
    | 3, 0 => r ≤ 9
    | 2, 1 => fmtScan f = 0 && 5 ≤ r && r ≤ 9
    | 3, 2 => r ≤ 9
    | _, _ => false

/-- Do the fields of a SOURCE or DESTINATION record hold values that Tables 2.10 and 2.11 allow (02 R60, R64)? `dest` for a destination. -/
def signalOk (dest : Bool) (v : List Byte) : Bool :=
  let sdi := recKind v = 0
  within v 0 2 0 1023 && recKind v ≤ (if dest then 2 else 4) && recGroup v ≤ 2 && bits (byteAt v 3) 3 2 ≤ 2 && byteAt v 3 < 16 && zeros v [(10, 2)]
    && formatOk (recFormat v) true && recSlots v ≤ (if sdi then 32 else 128)
    && (if sdi then sdiCarries (recFormat v) (recGroup v) && recBind v < 256 && recBind v % groupLanes (recGroup v) = 0
        else if recKind v ≤ 2 then recBind v ≤ 16
        else recBind v ≤ (if recKind v = 3 then 255 else 15))

/-- Is a leg's VLAN without reserved bits (06 Table 6.8)? -/
def vlanOk (v : List Byte) (o : Nat) : Bool := bits (leAt v o 2) 14 12 = 0

/-- CHANNELS and AUDIO of a flow (06 R247, Table 6.5): bits [7:6] of AUDIO and the packet time codes 5 to 7 are reserved whatever the essence. -/
def channelsOk (v : List Byte) : Bool :=
  let a := byteAt v 6
  if isAudioFlow v then
    let most : List Nat := match bits a 4 3, bit a 5 with
      | 0, false => [64, 40, 30, 10, 2]
      | 0, true => [40, 20, 15, 5, 1]
      | 1, false => [64, 60, 45, 15, 3]
      | 1, true => [60, 30, 22, 7, 1]
      | 2, false => [60, 30, 22, 7, 1]
      | 2, true => [30, 15, 11, 3, 0]
      | _, _ => []
    a < 64 && 1 ≤ byteAt v 5 && byteAt v 5 ≤ most.getD (a % 8) 0
  else byteAt v 5 = 0 && a < 64 && a % 8 ≤ 4

/-- The parameters of compressed video (06 Table 6.9). -/
def paramOk (v : List Byte) (o : Nat) : Bool := byteAt v 2 ≠ 1 || (byteAt v o = 1 && zeros v [(o + 1, 1), (o + 6, 2)])

/-- Do the fields of a FLOW_IN record hold values that Tables 6.7 to 6.9 allow? -/
def flowInOk (v : List Byte) : Bool :=
  within v 0 2 0 8191 && byteAt v 2 ≤ 4 && byteAt v 3 < 32 && orZero v 4 1 96 127 && channelsOk v && zeros v [(7, 1), (10, 2)] && paramOk v 16
    && each (1 + byteAt v 3 % 2) (fun k => vlanOk v (26 + 40 * k) && zeros v [(30 + 40 * k, 2)])

/-- PKT_BYTES of an egress flow (06 R245, R246): its range, the bound of an IPv6 leg, and the factor of BPM. -/
def packetOk (v : List Byte) : Bool :=
  let n := orDef (leAt v 16 2) 1200
  let six := (List.range (1 + byteAt v 3 % 2)).any (fun k => !isMapped (beAt v (72 + 56 * k) 16))
  isAudioFlow v || (180 ≤ n && n ≤ (if six then 1420 else 1440) && (byteAt v 2 ≠ 0 || !bit (byteAt v 3) 1 || n % 180 = 0))

/-- Do the fields of a FLOW_OUT record hold values that Tables 6.10 and 6.11 allow? -/
def flowOutOk (v : List Byte) : Bool :=
  within v 0 2 0 8191 && byteAt v 2 ≤ 4 && byteAt v 3 < 8 && within v 4 1 96 127 && channelsOk v && byteAt v 7 < 64 && zeros v [(18, 2)] && paramOk v 24
    && packetOk v && each (1 + byteAt v 3 % 2) (fun k => byteAt v (40 + 56 * k) ≤ 3 && zeros v [(54 + 56 * k, 2)])

/-- The pixel group of a sampling in bytes (06 R245). -/
def pixelGroup (sampling : Nat) : Nat := if sampling = 0 then 5 else if sampling = 1 then 6 else if sampling = 2 then 15 else 9

/-- The sum of the absolute values of a record's taps, signed bytes from an offset on. -/
def tapSum (v : List Byte) (o n : Nat) : Nat := total ((List.range n).map (fun i => (signed 8 (byteAt v (o + i))).natAbs))

/-- The groups of an OCTET record (07 R262, R263, Table 7.1). -/
def octetOk (v : List Byte) : Bool :=
  let s : State := { boot := { recs := [⟨0x0150, v⟩] } }
  let first := 8 * byteAt v 0
  byteAt v 0 < 32 && byteAt v 1 ≤ 2 && bits (byteAt v 6) 1 0 ≤ 1 && bits (byteAt v 6) 3 2 ≤ 2 && byteAt v 6 < 16 && zeros v [(7, 1)]
    && each 8 (fun j =>
      let w := s.groupLen (first + j)
      w = 0 || (j % w = 0 &&
        (if byteAt v 1 = 0 then w = 1
         else if byteAt v 1 = 1 then [2, 4, 8].contains w || (w = 1 && bit (byteAt v 4) j)
         else [1, 2, 4, 8].contains w)))

/-- What a right may be held over, and the numbers of a kind (16 Tables 16.2, 16.3). -/
def rightKinds (right : Nat) : List Nat :=
  match right with
  | 0 => [0, 1, 11] | 1 => [1, 2] | 2 => [2] | 3 => [7, 2] | 4 => [1, 2, 3, 7, 8, 9, 10] | 5 => [4] | 6 => [5, 6]
  | 7 | 8 | 9 | 10 => [0] | 11 => [0, 11] | _ => []
def kindCount (kind : Nat) : Nat :=
  match kind with
  | 1 | 2 => 2 ^ 20 | 3 => 1024 | 4 => 16 | 5 => 32 | 6 => 256 | 7 | 8 => 8192 | 9 => 8 | 10 => 1024 | 11 => 256 | _ => 0

/-- An entry of a GRANT record (16 R610). -/
def grantOk (v : List Byte) (i : Nat) : Bool :=
  let o := 8 + 12 * i
  let (kind, first, n) := (byteAt v (o + 1), leAt v (o + 4) 4, leAt v (o + 8) 4)
  (rightKinds (byteAt v o)).contains kind && byteAt v (o + 2) < 8 && (kind = 1 || byteAt v (o + 2) = 0) && byteAt v (o + 3) = 0
    && (if kind = 0 then first = 0 && n = 0 else 1 ≤ n && first + n ≤ kindCount kind)

/-- PULSE_OUT: a known output and mode, and a WIDTH shorter than the period (12 R482, Table 12.14). -/
def pulseOk (v : List Byte) : Bool :=
  let (mode, rate, m, w) := (byteAt v 1, byteAt v 2, leAt v 4 2, leAt v 6 2)
  let off := signed 32 (leAt v 8 4)
  byteAt v 0 ≤ 8 && mode ≤ 4 && byteAt v 3 < 4 && (off.natAbs ≤ 500000000) &&
    (match mode with
     | 1 => rate ≤ 12 && m = 0 && orDef w 100 * rateNum rate < 1000000 * rateDen rate
     | 2 => rate = 0 && m = 0
     | 3 => rate = 0 && 1 ≤ m && m ≤ 1024
     | 4 => rate = 0 && 1 ≤ m && m ≤ 1024 && 1 ≤ w && w < m
     | _ => rate ≤ 12)

/-- The references of PRIO are listed once (12 R482, Table 12.11). -/
def prioOk (p : Nat) : Bool :=
  let l := ((List.range 6).map (fun i => bits p (4 * i + 3) (4 * i))).filter (· ≠ 15)
  p = 0 || (p < 2 ^ 24 && l.all (· ≤ 5) && l.Nodup)

/-- Do the fields of a record hold values that its table allows? -/
def valuesOk (typ : Nat) (v : List Byte) : Bool :=
  match typ with
  | 0x0100 => within v 0 1 0 12 && orZero v 1 1 1 8 && zeros v [(2, 2)]
  | 0x0101 => signalOk false v
  | 0x0102 => signalOk true v
  | 0x0110 => zeros v [(3, 1), (6, 2)] && within v 4 2 0 4096
  | 0x0120 => orZero v 0 1 4 36 && zeros v [(2, 2)]
  | 0x0121 => within v 0 2 0 255 && within v 2 2 1 5460 && zeros v [(5, 3)] && each (leAt v 2 2) (fun i => !(entryOf (v.drop (8 + 12 * i))).reserved)
  | 0x0130 => byteAt v 3 < 4 && orZero v 4 2 100 4000 && zeros v [(6, 2)]
  | 0x0131 => byteAt v 2 < 8 && zeros v [(3, 1)]
  | 0x0132 => within v 0 1 0 0x7F && zeros v [(2, 2)]
  | 0x0141 => flowInOk v
  | 0x0142 => flowOutOk v
  | 0x0143 => byteAt v 2 ≤ 1 && byteAt v 3 ≤ 32 && byteAt v 6 ≤ 128 && vlanOk v 4 && zeros v [(7, 1)]
  | 0x0144 => vlanOk v 2 && zeros v [(6, 2)]
  | 0x0150 => octetOk v
  | 0x0151 => within v 0 2 0 255 && byteAt v 2 < 8 && (bit (byteAt v 2) 2 || (tapSum v 3 5 ≤ 64 && 24 ≤ signed 8 (byteAt v 6)))
  | 0x0152 => within v 0 2 0 255 && byteAt v 2 < 8 && zeros v [(6, 2)] && (bit (byteAt v 2) 2 || (tapSum v 3 3 ≤ 32 && 16 ≤ signed 8 (byteAt v 4)))
  | 0x0153 => orZero v 2 2 1536 9216 && (byteAt v 4 ≤ 2 || byteAt v 4 = 0xFF) && zeros v [(6, 2)]
  | 0x0154 => byteAt v 0 ≤ 1 && byteAt v 1 ≤ 1 && vlanOk v 2 && byteAt v 4 ≤ 32 && byteAt v 5 ≤ 128 && zeros v [(6, 2)]
  | 0x0160 => byteAt v 0 ≤ 1 && zeros v [(1, 3)]
  | 0x0161 => within v 0 2 0 255 && fmtRaster (leAt v 2 2) ≠ 0 && formatOk (leAt v 2 2) false && zeros v [(4, 4)]
  | 0x0162 => zeros v [(2, 2)]
  | 0x0163 => byteAt v 2 ≤ 127 && zeros v [(3, 1), (6, 2)]
  | 0x0170 => byteAt v 1 < 8 && !bit (byteAt v 1) 0 && byteAt v 3 < 2 && zeros v [(4, 4)]
  | 0x0180 => within v 0 2 0 480 && byteAt v 2 ≤ 2 && orZero v 3 1 40 120 && byteAt v 5 < 2 && zeros v [(6, 2)]
  | 0x0181 | 0x0185 => within v 0 2 1 5000 && zeros v [(2, 2)] && each (leAt v 0 2) (fun i => gainOk (leAt v (12 + 12 * i) 2) && zeros v [(14 + 12 * i, 2)])
  | 0x0182 => within v 0 2 0 1023 && byteAt v 2 < 2 && byteAt v 3 ≤ 64 && gainOk (leAt v 4 2) && zeros v [(6, 2)]
      && each (byteAt v 3) (fun j => gainOk (leAt v (12 + 8 * j) 2) && zeros v [(14 + 8 * j, 2)])
  | 0x0183 => within v 0 2 0 1023 && within v 2 1 1 64 && byteAt v 3 < 2 && within v 8 4 0 480000
  | 0x0184 => byteAt v 0 ≤ 7 && [2, 4, 8, 16, 32].contains (byteAt v 1) && byteAt v 2 < 16 && byteAt v 3 ≤ byteAt v 1 && byteAt v 4 ≤ byteAt v 1
      && zeros v [(5, 3)]
  | 0x0186 => byteAt v 2 < 2 && orZero v 4 2 6 960 && zeros v [(3, 1), (6, 2)]
  | 0x0190 => byteAt v 0 ≤ 15 && byteAt v 1 < 32 && bits (byteAt v 1) 3 2 ≤ 2 && (byteAt v 2 = 0 || orderOk (byteAt v 2)) && leAt v 4 4 < 2 ^ 30
      && within v 12 1 0 60 && within v 13 1 0 100 && byteAt v 14 ≤ 128 && zeros v [(15, 1)]
  | 0x0191 => byteAt v 0 ≤ 15 && byteAt v 1 ≤ 63 && byteAt v 2 ≤ 63 && zeros v [(3, 1)] && leAt v 4 4 < 2 ^ 20
  | 0x0192 => byteAt v 0 ≤ 15 && within v 2 2 1 128 && orZero v 4 1 1 59 && byteAt v 5 < orDef (byteAt v 4) 18 && zeros v [(1, 1), (6, 2)]
      && each (leAt v 2 2) (fun i => byteAt v (36 + 16 * i) < 4 && zeros v [(37 + 16 * i, 3)] && adKind (leAt v (32 + 16 * i) 4) ≤ 2)
  | 0x0193 => byteAt v 0 ≤ 15 && byteAt v 1 ≤ 2 && zeros v [(6, 2)]
  | 0x0194 => byteAt v 0 ≤ 15 && zeros v [(1, 3)]
  | 0x01A0 => prioOk (leAt v 0 4) && byteAt v 4 < 8 && byteAt v 5 ≤ 3 && within v 6 1 0 100 && within v 7 1 0 100 && within v 8 4 0 10000000
      && within v 14 2 0 3600 && (signed 32 (leAt v 16 4)).natAbs ≤ 500000000 && orZero v 20 2 10 65535 && zeros v [(23, 1)]
  | 0x01A1 => byteAt v 0 ≤ 1 && byteAt v 1 ≤ 127 && byteAt v 2 < 4 && orZero v 5 1 1 8 && orZero v 6 1 5 9 && orZero v 7 1 2 10 && 1 ≤ byteAt v 9
      && zeros v [(10, 6)] && each (byteAt v 9) (fun i => byteAt v (20 + 8 * i) < 8 && byteAt v (20 + 8 * i) % 4 ≠ 3 && zeros v [(21 + 8 * i, 3)])
  | 0x01A2 => byteAt v 0 ≤ 3 && byteAt v 1 < 4 && byteAt v 2 ≤ (if byteAt v 0 ≤ 1 then 12 else 0) && zeros v [(3, 1)]
  | 0x01A3 => pulseOk v
  | 0x01B0 => within v 0 2 0 1022 && leAt v 0 2 % 2 = 0 && within v 2 2 1 65535 && zeros v [(5, 3)]
  | 0x01B1 => within v 2 2 0 1022 && leAt v 2 2 % 2 = 0 && zeros v [(4, 4)]
  | 0x01C0 => byteAt v 0 < 2 && zeros v [(3, 5)]
  | 0x01D0 => orZero v 0 2 1024 65535 && orZero v 2 2 10 3600 && within v 4 2 0 2000 && within v 6 1 0 64 && zeros v [(7, 1)]
  | 0x01E0 => within v 0 2 0 1023 && within v 4 2 0 4096 && zeros v [(6, 2)]
  | 0x01E1 => within v 0 2 0 1023 && zeros v [(2, 2)]
  | 0x01E2 => within v 2 2 0 1023 && byteAt v 4 < 8 && within v 7 1 1 64 && within v 8 4 0 250000 && zeros v [(14, 2)]
  | 0x01E3 => byteAt v 2 < 2 && within v 4 2 1 5000 && zeros v [(3, 1), (6, 2)] && each (leAt v 4 2) (grantOk v)
  | 0x01E4 => within v 0 2 0 1023 && within v 2 1 1 20 && zeros v [(3, 1)] && (v.drop (4 + byteAt v 2)).all (· = 0)
  | 0x01F0 => byteAt v 2 < 4 && byteAt v 3 < 2 && zeros v [(4, 4)]
  | 0x0200 => !dateBad (leAt v 0 2) (byteAt v 2) (byteAt v 3) (byteAt v 4) (byteAt v 5) (byteAt v 6) (leAt v 8 4) && zeros v [(7, 1), (12, 4)]
  | 0x0210 => within v 0 1 0 60 && zeros v [(2, 6)]
  | 0x0220 => byteAt v 0 ≤ 63 && byteAt v 1 ≤ 3 && byteAt v 2 < 2 && byteAt v 4 ≤ 7 && zeros v [(5, 1), (14, 2)]
      && (byteAt v 4 ≠ 1 || byteAt v 1 < 2 || within v 12 2 1 1024)
  | 0x0221 => byteAt v 0 ≤ 63 && byteAt v 1 ≤ 2 && byteAt v 2 ≤ 1 && within v 4 2 0 255 && zeros v [(3, 1), (6, 2)]
  | 0x0228 => within v 0 2 0 1023 && within v 2 2 0 1023 && byteAt v 4 < 2 && within v 6 2 0 1023
  | 0x0229 => zeros v [(2, 2)] && each (leAt v 0 2) (fun i => adKind (leAt v (4 + 8 * i) 4) ≤ 2 && byteAt v (8 + 8 * i) ≤ 1 && zeros v [(9 + 8 * i, 3)])
  | 0x0230 => orZero v 0 2 10 1000 && byteAt v 4 < 2 && zeros v [(5, 3)]
  | 0x0231 => within v 0 2 1 1024 && zeros v [(2, 2)] && each (leAt v 0 2) (fun i => byteAt v (6 + 4 * i) ≤ 15 && zeros v [(7 + 4 * i, 1)])
  | _ => true

/-! ### Records that may stand once (02 R53; 12 R482; 13 R522; 16 R610; 18 R666; 21 R751) -/

/-- What makes two records of a type records for one object: the bytes that name it. `none` where the record's own rule allows several. -/
def objectOf (typ : Nat) (v : List Byte) : Option (List Byte) :=
  if [0x0100, 0x0110, 0x0120, 0x0132, 0x0160, 0x0170, 0x0180, 0x01A0, 0x01B0, 0x01C0, 0x01D0, 0x01F0, 0x0200, 0x0230].contains typ then some []
  else if [0x0150, 0x0184, 0x0190, 0x01A1, 0x01A2, 0x01A3, 0x0220].contains typ then some (v.take 1)
  else if [0x0101, 0x0102, 0x0130, 0x0131, 0x0141, 0x0142, 0x0151, 0x0152, 0x0153, 0x0154, 0x0161, 0x0163, 0x0182, 0x0183, 0x0186].contains typ then
    some (v.take 2)
  else if [0x0191, 0x01B1, 0x01E0, 0x01E2, 0x0228].contains typ then some (v.take 2)
  else if typ = 0x0143 then some (v.take 6)
  else none

/-- No object has two records. -/
def oncePerObject (l : List Rec) : Bool := (l.filterMap (fun r => (objectOf r.typ r.val).map (fun o => (r.typ, o)))).Nodup

/-! ### Records against one another -/

/-- The values of a type's records. -/
def State.vals (s : State) (typ : Nat) : List (List Byte) := (s.recs typ).map (·.val)

/-- Is a number an Ethernet port that the OCTET records make? -/
def State.isPort (s : State) (p : Nat) : Bool := p < 256 && s.portKind p = 1

/-- C-lane sides and elementary flows are bound once; the flows exist; the counts of R48 and R49 hold, the slots of the audio flows too (02 R48, R49, R53, R54, R86). -/
def State.signalsSound (s : State) : Bool :=
  let once (typ : Nat) : Bool := ((s.vals typ).flatMap (fun v => if recKind v = 0 then recLanes v else [])).Nodup
    && ((s.vals typ).flatMap (fun v => (recFlows v).eraseDups)).Nodup
  let flows (typ : Nat) (rec : Nat → Option (List Byte)) : Bool := (s.vals typ).all (fun v =>
    let fs := (recFlows v).map rec
    fs.all Option.isSome && (fs.filter (fun f => f.any flowVideo)).length ≤ 1
      && (fs.filter (fun f => f.any (fun x => flowEssence x = 4))).length ≤ 2 && total (((recFlows v).eraseDups.filterMap rec).map flowSlots) ≤ 128)
  once 0x0101 && once 0x0102 && flows 0x0101 s.flowIn && flows 0x0102 s.flowOut
    && s.inAddrs.length ≤ 32768 && s.outAddrs.length ≤ 32768
    && (s.vals 0x0101).all (fun v => recKind v ≠ 3 || (s.stillRec (recBind v)).isSome)
    && (s.vals 0x0130).all (fun v => (s.srcRec (leAt v 0 2)).any (fun x => recKind x = 0))
    && (s.vals 0x0131).all (fun v => (s.dstRec (leAt v 0 2)).any (fun x => recKind x = 0))

/-- The ports of an egress flow's legs. -/
def outPorts (v : List Byte) : List Nat := (List.range (1 + byteAt v 3 % 2)).map (fun k => leAt v (32 + 56 * k) 2)

/-- Flows, their ports and the flow tables (03 R134; 06 R218, R220, R245, Table 6.6). -/
def State.flowsSound (s : State) : Bool :=
  let ins := s.vals 0x0141
  let outs := s.vals 0x0142
  let inKeys := ins.flatMap (fun v => (recLegs v).map (·.key))
  let fwds := (s.vals 0x0144).map (fun v => (⟨leAt v 0 2, vlanKey (leAt v 2 2), beAt v 8 16, leAt v 4 2⟩ : FKey))
  let outTo (v : List Byte) : List Nat := ((List.range 8).map (fun i => leAt v (24 + 2 * i) 2)).filter (· ≠ 0xFFFF)
  let oneCluster (l : List Nat) : Bool := ((l.map (· / 16)).eraseDups).length ≤ 1
  (inKeys.map (·.port)).all s.isPort && (outs.flatMap outPorts).all s.isPort && (fwds.map (·.port)).all s.isPort
    && (s.vals 0x0144).all (fun v => (outTo v).all s.isPort)
    && (s.vals 0x0143).all (fun v => s.isPort (leAt v 0 2))
    && (s.vals 0x0153).all (fun v => s.isPort (leAt v 0 2))
    && ins.all (fun v => oneCluster ((recLegs v).map (·.key.port)))
    && (s.vals 0x0102).all (fun v => oneCluster (((recFlows v).filterMap s.flowOut).flatMap outPorts))
    && inKeys.all (fun k => !fwds.contains k)
    && (ins.filter isAudioFlow).length ≤ 2048 && (outs.filter isAudioFlow).length ≤ 2048
    && (List.range 16).all (fun c => ((inKeys ++ fwds).filter (fun k => k.port / 16 = c)).length ≤ 4096)
    && (s.vals 0x0102).all (fun v => ((recFlows v).filterMap s.flowOut).all (fun f =>
      flowEssence f ≠ 0 || orDef (leAt f 16 2) 1200 % pixelGroup (fmtSampling (recFormat v)) = 0))

/-- Pair addresses agree between the sides, and own addresses differ (07 Table 7.9). -/
def State.mgmtSound (s : State) : Bool :=
  (s.vals 0x0154).all (fun a => (s.vals 0x0154).all (fun b =>
    byteAt a 0 ≠ byteAt b 0 || byteAt a 1 = byteAt b 1 ||
      ((a.drop 12).take 4 = (b.drop 12).take 4 && a.drop 32 = b.drop 32
        && (byteAt a 4 = 0 || byteAt b 4 = 0 || (a.drop 8).take 4 ≠ (b.drop 8).take 4)
        && (byteAt a 5 = 0 || byteAt b 5 = 0 || (a.drop 16).take 16 ≠ (b.drop 16).take 16))))

/-- Stills and delays, and what is booked at a start (08 R303, R312, R327). `s` holds nothing but the image. -/
def State.storesSound (s : State) : Bool :=
  (s.vals 0x0162).all (fun v => (s.stillRec (leAt v 0 2)).any (fun x => leAt v 4 4 + (v.length - 8) ≤ pictureBytes (leAt x 2 2)))
    && (s.vals 0x0163).all (fun v => (s.dstRec (leAt v 0 2)).any (fun d => leAt v 4 2 < structLines (recFormat d)))
    && total (s.bobbinNeeds.map (·.2.2.2.1)) ≤ 126976 && s.bobbinRate ≤ 3000000

/-- Is an address of a record one that R368 accepts (10 R405)? -/
def State.addrSound (s : State) (u : AdUse) (a : Nat) : Bool :=
  !adBad u a && (match u with
    | .out => (placeOf s.outAddrs a).isSome
    | _ => !s.noInput a)

/-- Audio records (10 R405). -/
def State.audioSound (s : State) : Bool :=
  let pairs (typ : Nat) : List (Nat × Nat) := (s.vals typ).flatMap (fun v => (List.range (leAt v 0 2)).map (fun i => (leAt v (4 + 12 * i) 4, leAt v (8 + 12 * i) 4)))
  let members (v : List Byte) : List Nat := (List.range (byteAt v 3)).map (fun j => leAt v (8 + 8 * j) 4)
  let low := (s.vals 0x0182).filter (fun v => bit (byteAt v 2) 0)
  let chans (v : List Byte) : List Nat := (List.range (byteAt v 2)).map (fun i => adForm (leAt v 4 4) + i)
  (pairs 0x0181 ++ pairs 0x0185).all (fun p => s.addrSound .out p.1 && s.addrSound .inp p.2)
    && ((pairs 0x0185).map (fun p => adForm p.1)).Nodup
    && (s.vals 0x0182).all (fun v => (members v).all (s.addrSound .member))
    && low.length ≤ 128 && low.all (fun v => (members v).all s.lowInput)
    && (s.vals 0x0186).all (fun v => (s.flowIn (leAt v 0 2)).any (fun f => isAudioFlow f && (!bit (byteAt v 2) 0 || byteAt f 6 % 8 = 0)))
    && (s.vals 0x0183).all (fun v => (chans v).all (s.addrSound .out)) && ((s.vals 0x0183).flatMap chans).Nodup

/-- Heads, windows, meters and safety layers (11 R412, R414, R439). -/
def State.headsSound (s : State) : Bool :=
  let on (v : List Byte) : Bool := (s.headSrc (byteAt v 0)).isSome
  let raster (h : Nat) : Nat × Nat := (rasterW (fmtRaster (s.headFormat h)), rasterH (fmtRaster (s.headFormat h)))
  [0x0190, 0x0191, 0x0192, 0x0193, 0x0194].all (fun t => (s.vals t).all on)
    && (s.vals 0x0101).all (fun v => recKind v ≠ 4 || recSlots v = byteAt (s.headRec (recBind v)) 14)
    && (s.vals 0x0190).all (fun v => each (byteAt v 14) (fun j => let a := leAt v (16 + 4 * j) 4
      (adKind a ≤ 2 || adKind a = 15) && s.addrSound .inp a))
    && (s.vals 0x0191).all (fun v => !s.winBad (winOfRec v))
    && (s.vals 0x0192).all (fun v => each (leAt v 2 2) (fun i =>
      let r (k : Nat) : Nat := leAt v (24 + 16 * i + 2 * k) 2
      let (w, h) := raster (byteAt v 0)
      r 0 + r 2 ≤ w && r 1 + r 3 ≤ h && 2 ≤ r 2 && 2 ≤ r 3
        && s.addrSound (if bit (byteAt v (36 + 16 * i)) 0 then .out else .inp) (leAt v (32 + 16 * i) 4)))
    && (s.vals 0x0194).all (fun v =>
      let (w, h) := raster (byteAt v 0)
      s.hasSafety (byteAt v 0) && leAt v 4 4 + (v.length - 8) ≤ 4 * w * h)

/-- The own address of a port on this side, of an IP version (06 Table 6.12). -/
def State.hasOwn (s : State) (p : Nat) (six : Bool) : Bool :=
  (s.vals 0x0143).any (fun v => leAt v 0 2 = p && byteAt v 2 = b2n s.dbl.side && byteAt v (if six then 6 else 3) ≠ 0)

/-- PTP ports have the own address of their IP version (12 R482). -/
def State.ptpSound (s : State) : Bool :=
  (s.vals 0x01A1).all (fun v => each (byteAt v 9) (fun i =>
    let p := leAt v (16 + 8 * i) 2
    s.isPort p && s.hasOwn p (bit (byteAt v (20 + 8 * i)) 2)))

/-- Tenants, principals and grants (16 R610). -/
def State.tenantsSound (s : State) : Bool :=
  let tenant (t : Nat) : Bool := (s.vals 0x01E0).any (fun v => leAt v 0 2 = t)
  let roots := (s.vals 0x01E1).map (fun v => (leAt v 0 2, v.drop 4))
  let names := (s.vals 0x01E2).map (fun v => (leAt v 2 2, v.drop 16))
  (s.vals 0x01E2).all (fun v => tenant (leAt v 2 2)) && names.Nodup
    && (s.vals 0x01E3).all (fun v => if bit (byteAt v 2) 0 then tenant (leAt v 0 2) else (s.vals 0x01E2).any (fun p => leAt p 0 2 = leAt v 0 2))
    && [0x01E1, 0x01E4].all (fun t => (s.vals t).all (fun v => tenant (leAt v 0 2)))
    && roots.all (fun a => roots.all (fun b => a.2 ≠ b.2 || a.1 = b.1))
    && (List.range 1024).all (fun t => (roots.filter (fun r => r.1 = t)).length ≤ 4)
    && total ((s.vals 0x01E3).map (fun v => leAt v 4 2)) ≤ 262144

/-- Consumers name slots of their USE, where the slot is loaded (17 R623, Table 17.3). -/
def State.keysSound (s : State) : Bool :=
  (s.vals 0x01F0).all (fun v => [(0, 3), (1, 0)].all (fun (c : Nat × Nat) =>
    byteAt v c.1 = 0 || byteAt v c.1 = 0xFF || let k := s.kslot (byteAt v c.1); k.state ≠ 1 || k.use = c.2))

/-- Strands stand on Strand groups (13 R522). -/
def State.skeinSound (s : State) : Bool := (s.vals 0x01B1).all (fun v => s.portKind (leAt v 0 2) = 2)

/-- Pins, probes and the override (21 R751). -/
def State.probesSound (s : State) : Bool :=
  let edges := (s.vals 0x0221).flatMap (fun v => (if byteAt v 1 = 2 then [0, 1] else [byteAt v 1]).map (fun e => (byteAt v 0, e)))
  let entries := (s.vals 0x0231).flatMap (fun v => (List.range (leAt v 0 2)).map (fun i => (leAt v (4 + 4 * i) 2, byteAt v (6 + 4 * i))))
  let aprobes := (s.vals 0x0229).flatMap (fun v => (List.range (leAt v 0 2)).map (fun i => (leAt v (4 + 8 * i) 4, byteAt v (8 + 8 * i))))
  (s.vals 0x0221).all (fun v => byteAt (s.pinRec (byteAt v 0)) 1 = 1) && edges.Nodup
    && (s.vals 0x0228).all (fun v => if bit (byteAt v 4) 0 then (s.dstRec (leAt v 2 2)).isSome else (s.srcRec (leAt v 2 2)).isSome)
    && aprobes.length ≤ 4096 && aprobes.all (fun a => s.addrSound (if a.2 = 1 then .out else .inp) a.1)
    && (entries.map (·.1)).Nodup
    && entries.all (fun e => s.hasSafety e.2 && (s.dstRec e.1).any (fun d => (s.headSrc e.2).any (fun h => fmtMatch (recFormat d) (recFormat h))))
    && (List.range 16).all (fun h => !s.evacHead h || s.hasSafety h)

/-- Does the image whose records the state holds keep every rule of Table 18.14 that its records can break? `s` holds the records, the side and
the key slots, and no route, window or delay line. -/
def State.imageSound (s : State) : Bool :=
  s.boot.recs.all (fun r => lengthOk r.typ r.val && valuesOk r.typ r.val) && oncePerObject s.boot.recs
    && s.signalsSound && s.flowsSound && s.mgmtSound && s.storesSound && s.audioSound && s.headsSound && s.ptpSound && s.tenantsSound
    && s.keysSound && s.skeinSound && s.probesSound

end Sys2Proof.Machine
end

