-- ==== Sys2Proof/Machine/Pair.lean ====
section
/-! DEFINITION. The doubled pair: roles, the frames of the doubling link, the tie lines, and how control passes (13 R514, R544, R545; 14 R525 to
R558; 15 R565, R566; 16 R594). -/

namespace Sys2Proof.Machine

/-! ### The PAIR record (14 Table 14.11) -/

/-- REJOIN_OFF. -/
def State.rejoinOff (s : State) : Bool := bit (byteAt (s.rec1 0x01C0) 0) 0
/-- YIELD_MAX. -/
def State.yieldMax (s : State) : Nat := orDef (byteAt (s.rec1 0x01C0) 1) 3
/-- START_WAIT in elapsed nanoseconds. -/
def State.startWait (s : State) : Nat := orDef (byteAt (s.rec1 0x01C0) 2) 20 * 10 * ms

/-! ### Taking control -/

/-- A chip that serves takes its role from OFF (14 Table 14.3). -/
def State.roleFromOff (s : State) : State :=
  if s.dbl.tieIn = .hold then { s.setRole .joining with dbl.startWait := none }
  else if !s.dbl.side then { s.setRole .solo with dbl.startWait := none, dbl.dualFrom := if s.dbl.linkUp then none else some s.up }
  else { s with dbl.startWait := some s.up }

/-- A session continues on the new holder: its DTLS record sequence number goes on by 65 536 (14 R541). -/
def Session.advance (c : Session) : Session :=
  let n := c.txRecords + 65536
  { c with txRecords := if 2 ^ 24 ≤ n then 0 else n, txKeys := if 2 ^ 24 ≤ n then c.txKeys + 1 else c.txKeys }

/-- The continuing sessions are checked against the own image (16 R594). -/
def State.recheck (s : State) : State :=
  let pairs := s.sicp.sessions.filter (fun c => !c.own)
  pairs.foldl (fun (s : State) (c : Session) =>
    match s.tenantOf c.root with
    | none => (s.endSession c.id).sendVia c.port (.dtlsClose c.id)
    | some t => match s.admitPrinc t c.name c.certs c.mgmt c.own with
      | .inr _ => (s.endSession c.id).sendVia c.port (.dtlsClose c.id)
      | .inl p => s.setSess c.id (fun c => { c with princ := p, tenant := t })) s

/-- The gratuitous ARP and unsolicited NA for the pair address on MA and MB (14 Table 14.6; 07 R292). -/
def State.announce (s : State) : State := (s.sendEth 256 .gratuitous).sendEth 257 .gratuitous

/-- A standby takes control (14 Table 14.3, R541, R544, R551; 16 R594). `advance` says that the record numbers of the last copy are passed. -/
def State.takeControl (s : State) (role : Role) (advance : Bool) : State :=
  let s := (s.setRole role).bump R.DBL_TAKEOVERS 1
  let s := { s with
    dbl.swapPend := none, dbl.claimAt := s.up, dbl.arpsSent := 1, dbl.held := none, dbl.copyFails := 0, dbl.snapDue := false
    dbl.snapped := false, dbl.handoffUntil := none, dbl.newHolder := true }
  let s := if advance then
      { s with sicp.sessions := s.sicp.sessions.map (fun c => if c.own then c else c.advance) }
    else s
  s.recheck.announce

/-- The span since the loss of the doubling link joins DBL.DUAL (14 R547). -/
def State.dualSpan (s : State) : Nat := match s.dbl.dualFrom with
  | some u => (s.up - u) / 1000
  | none => 0

/-- The takes whose copy was not confirmed leave (14 R546: the chip that gives up control does not arm them). -/
def State.dropUnarmed (s : State) : State :=
  let keep (x : LevelSt) : LevelSt := { x with pend := x.pend.filter (·.armed) }
  { s with xp.dst := s.xp.dst.map (fun (d : Nat × DstSt) =>
    (d.1, { d.2 with video := keep d.2.video, audio := keep d.2.audio, anc := keep d.2.anc })) }

/-- A chip becomes DETACHED (14 R544, R548): what it held back is dropped, and its outputs go quiet by R540. -/
def State.detach (s : State) : State :=
  let s := ((s.setRole .detached).countYield.quietLater).dropUnarmed
  { s with dbl.held := none, dbl.deferred := none, dbl.replies := [], dbl.swapPend := none, dbl.yieldPend := false, sicp.cyc := [] }

/-- Of two chips that both held control, does this one keep it (14 R548)? -/
def State.keepsControl (s : State) : Bool :=
  if s.dbl.heldOut = s.dbl.twinHeldOut then !s.dbl.side else s.dbl.heldOut

/-- A path shows that the twin holds control too (14 R548). -/
def State.dualControl (s : State) : State :=
  let span := s.dualSpan
  let s := s.peak R.DBL_DUAL span
  if s.keepsControl then s
  else s.detach.errNamed R.DBL_ERR_DUAL 2 0x0504 (beBytes 4 span)

/-! ### What the twin reports -/

/-- The copy held is taken as confirmed when no twin can confirm any more (14 R537). -/
def State.alone (s : State) : State :=
  match s.dbl.held with
  | some h => { s with dbl.held := none }.confirm h.effs h.replies
  | none => s

/-- The replies to bulk writes that waited for the twin leave: in SOLO the local write is enough (15 Table 15.5). -/
def State.bulkDone (s : State) : State := s.dbl.bulks.foldl (fun (s : State) (r : Nat × Reply) => s.reply r.2) { s with dbl.bulks := [] }

/-- The ROLE byte of a frame (14 Table 14.4): TWIN_ROLE and the transitions of Table 14.3 that it brings. -/
def State.twinSays (s : State) (h : DblHead) : State :=
  let was := s.dbl.twinRole
  let s := { s with dbl.twinRole := h.role % 8, dbl.twinF3 := h.f3 }
  let holds := h.role = 3 || h.role = 4
  let s := if h.role = 1 && was ≠ 1 then { s with dbl.snapDue := true, dbl.snapped := false } else s
  match s.dbl.role with
  | .standby => if holds then s else s.takeControl .solo true
  | .joining => if holds then s else { s.setRole .off with dbl.snapped := false, dbl.queued := [], dbl.caughtUp := false }.roleFromOff
  | .active => if h.role = 2 then s else (s.setRole .solo).alone.bulkDone
  | .solo => if h.role = 2 then s else s.bulkDone
  | _ => s

/-- A frame of the doubling link is received: one whose CRC fails is discarded and counted (14 R532). -/
def dblFrame (t : Time) (h : DblHead) (s : State) (f : State → State) : Host.Outcome State Fault Refusal :=
  released t s fun s => if h.good then f s else s.bump R.DBL_FRAME_ERR 1

/-! ### HELLO and BEAT -/

/-- The configuration digest (14 R554): of each source, destination, flow, head and bus record its type, number and entry. The digest function is the
chip's own choice (log entry 89). -/
def State.digest (s : State) : List (Nat × Nat × Nat) :=
  [0x0101, 0x0102, 0x0141, 0x0142, 0x0182, 0x0190].flatMap (fun typ => (s.recs typ).map (fun r =>
    (typ, leAt r.val 0 (if typ = 0x0190 then 1 else 2), Config.recordDigest r.val)))

/-- The objects whose entries differ between two digests (14 R554). -/
def digestDiff (a b : List (Nat × Nat × Nat)) : List (Nat × Nat) :=
  (((a ++ b).filter (fun x => !(a.contains x && b.contains x))).map (fun x => (x.1, x.2.1))).eraseDups

/-- The body of this chip's HELLO (14 R532). -/
def State.helloBody (s : State) : List Nat :=
  [b2n s.dbl.side, s.pairNo, s.skeinId, s.houseRate, s.boot.fw, s.boot.secver] ++ s.digest.flatMap (fun x => [x.1, x.2.1, x.2.2])

/-- Is the twin wrongly wired, or unfit (14 R529, R533, R554)? -/
def State.twinUnfit (s : State) (b : DblHello) : Bool :=
  b.side = b2n s.dbl.side || b.pair ≠ s.pairNo || b.skein ≠ s.skeinId || !b.certOk || !fwCompatible b.fw s.boot.fw

/-- 14 R529, R532, R533, R548, R553: HELLO at link-up. The link key, which encrypts the key material of copies and snapshots, is agreed anew: a free
value (log entry 89). -/
def execDblHello (t : Time) (h : DblHead) (b : DblHello) (s : State) : Host.Outcome State Fault Refusal :=
  dblFrame t h s fun s =>
    if s.twinUnfit b then s.err R.DBL_ERR_WIRING 4 { typ := 3, master := 0x40 + 37 } (stop := (15, 1))
    else
      let was := s.dbl.linkUp
      let (key, s) := s.fresh
      let s := { s with dbl.linkUp := true, dbl.twinImage := digestDiff s.digest b.digest, dbl.twinRole := 7
                        dbl.linkKey := if was then s.dbl.linkKey else (if s.keys.rngOk then some (key % 2 ^ 256) else none) }
      let s := (s.set R.DBL_TWIN_FW b.fw).errDone R.DBL_ERR_DOWN
      let s := if s.dbl.role.holds && (h.role = 3 || h.role = 4) then s.dualControl else s
      let s := { s with dbl.dualFrom := none }.twinSays h
      if was then s
      else
        let s := s.dblSend 1 0 s.helloBody
        (s.skn.map.foldl (fun (s : State) (m : Nat × List Link) => s.dblData (8 * m.2.length) (.planeMap m.1 m.2)) s).evacReport

/-- 14 R528, R531, 21 R747: a BEAT carries the sender's role, and after a change of its override machine that machine's state. -/
def execDblBeat (t : Time) (h : DblHead) (evac : Option (Nat × Bool × Nat)) (s : State) : Host.Outcome State Fault Refusal :=
  dblFrame t h s fun s =>
    if !s.dbl.linkUp then s
    else
      let s := match evac with
        | some (st, disc, low) => s.twinEvac st disc low
        | none => s
      s.twinSays h

/-- 14 R532: DBL sends a BEAT when the link has been idle for 2 µs. -/
def execDblBeatSend (t : Time) (s : State) : Host.Outcome State Fault Refusal :=
  released t s fun s => if s.dbl.linkUp then s.dblSend 2 0 [] else s

/-- 20 R719, 15 R584: an F2 to F4 event of the twin is logged as TWIN_EVENT, and the holder sends it to its subscriptions marked as the twin's. -/
def execDblEvent (t : Time) (h : DblHead) (e : Event) (s : State) : Host.Outcome State Fault Refusal :=
  dblFrame t h s fun s =>
    if s.dbl.linkUp then
      let s := if s.dbl.role.holds then s.publish { e with eflags := e.eflags ||| 2 } else s
      s.event 37 1 0x0502 (beBytes 2 e.code ++ beBytes 1 e.isl ++ beBytes 1 0 ++ e.detail.take 60) else s

/-! ### The state copy -/

/-- The items of a copy take effect on the chip that does not hold control, and its places in the single order go on after them (14 R535); the
hysteresis of the read connections holds from the boundary that ends the cycle (08 R311). -/
def State.applyCopy (s : State) (effs : List Eff) (close : Time) : State :=
  let top := effs.foldl (fun (n : Nat) (e : Eff) => match e with
    | .take _ _ p => max n (p.order + 1)
    | .wait w => max n (w.order + 1)
    | _ => n) s.sicp.order
  let isHyst (e : Eff) : Bool := match e with
    | .hyst _ _ _ _ => true
    | _ => false
  let b := s.cycleEnd (close - 1)
  let due := effs.filterMap (fun e => match e with
    | .hyst src f l h => some (b, src, f, l, h)
    | _ => none)
  let s := { s.applyEffs (effs.filter (fun e => !isHyst e)) with sicp.order := top, bob.hyst := s.bob.hyst ++ due }
  s.settle b

/-- A copy is applied whole and confirmed: its Shuttles are armed, and the messages it carries leave on this plane too (04 R150; 13 R514). -/
def State.confirmCopy (s : State) (effs : List Eff) (close : Time) : State :=
  let s := (s.applyCopy effs close).confirm effs []
  let size := 32 + total (effs.map Eff.size)
  let s := ((s.bump R.DBL_COPIES 1).peak R.DBL_COPY_PEAK (ceilDiv size 1024)).dblSend 4 close []
  { s with dbl.copyFails := 0, dbl.lastClose := max s.dbl.lastClose close }

/-- A copy that is not whole, or whose digest disagrees: NACK, and on the second failure COPY_CHECK and YIELDED (14 R535). -/
def State.copyFailed (s : State) (close : Time) : State :=
  let s := s.dblSend 5 close []
  if s.dbl.copyFails = 0 then { s with dbl.copyFails := 1 }
  else
    let s : State := { s with dbl.copyFails := 0 }
    let s : State := s.errNamed R.DBL_ERR_COPY_CHECK 2 0x0503 (beBytes 4 close)
    let y : State := (s.setRole .yielded).countYield.quietLater
    if s.dbl.role = .standby then { y with dbl.swapPend := none } else s

/-- 14 R535, R553: a state copy is received: `whole` when no frame of it is missing, `agree` when the digest computed after applying it is the
copy's. A copy whose digest disagrees leaves no trace (log entry 53). A chip in another role takes only what names it. -/
def execDblCopy (t : Time) (h : DblHead) (close : Time) (effs : List Eff) (whole agree : Bool) (s : State) :
    Host.Outcome State Fault Refusal :=
  dblFrame t h s fun s =>
    if !s.dbl.linkUp || !s.serving then s
    else match s.dbl.role with
      | .standby => if whole && agree then s.confirmCopy effs close else s.copyFailed close
      | .joining =>
        if !whole then s.copyFailed close
        else if !s.dbl.snapped then { s with dbl.queued := s.dbl.queued ++ [(effs, agree)] }
        else if !agree then s.copyFailed close
        else
          let s := (s.setRole .standby).confirmCopy effs close
          { s with dbl.caughtUp := true, boot.ckptDue := true }
      | .active => s
      | .solo => s
      | _ => s.applyEffs (effs.filter (Eff.toTwin s.chip))

/-- 14 R535, R531: CONFIRM: without a close it confirms the oldest bulk data (15 Table 15.5; log entry 90); else the replies of class C leave, the Shuttles are armed; the first copy that a joining twin confirms makes the holder
ACTIVE. -/
def execDblConfirm (t : Time) (h : DblHead) (close : Time) (s : State) : Host.Outcome State Fault Refusal :=
  dblFrame t h s fun s =>
    if !s.dbl.linkUp then s
    else if close = 0 then
      match s.dbl.bulks with
      | [] => s
      | (_, r) :: l => { s with dbl.bulks := l }.reply r
    else
      let s := s.peak R.DBL_COPY_TIME (ceilDiv (s.now - close) 1000)
      let s : State := match s.dbl.held with
        | some c => if c.close = close then { s with dbl.held := none }.confirm c.effs c.replies else s
        | none => s
      if s.dbl.role = .solo && !s.dbl.yieldPend then { s.setRole .active with dbl.twinRole := 2, dbl.twinF3 := h.f3, dbl.snapped := false }
      else if s.dbl.role = .solo then { s with dbl.twinRole := 2, dbl.twinF3 := h.f3, dbl.snapped := false }
      else s

/-- 14 R535: NACK: the copy is sent again once. -/
def execDblNack (t : Time) (h : DblHead) (close : Time) (s : State) : Host.Outcome State Fault Refusal :=
  dblFrame t h s fun s =>
    match s.dbl.held with
    | some c =>
      if s.dbl.linkUp && c.close = close && c.tries = 1 then
        { s.bump R.DBL_COPY_RETRY 1 with dbl.held := some { c with tries := 2 } }.dblData (32 + total (c.effs.map Eff.size)) (.dblCopy close c.effs)
      else s
    | none => s

/-! ### Joining -/

/-- Does an object differ between the two images (14 R554)? -/
def State.differs (s : State) (typ num : Nat) : Bool := s.dbl.twinImage.contains (typ, num)

/-- An item of the snapshot as the joining chip applies it (14 R554): a route to a destination, or from a source, whose records differ stands
only when both ends are bound and R61 holds; other objects whose records differ keep their own parameters. -/
def State.snapFit (s : State) (e : Eff) : Option Eff :=
  let fits (dest : Nat) (lv : Level) (src : Option Nat) : Bool :=
    let far := src.any isFar
    let changed := s.differs 0x0102 dest || src.any (fun k => !isFar k && s.differs 0x0101 k)
    !changed || ((s.dstRec dest).isSome && src.all (fun k => isFar k || (s.srcRec k).isSome)
      && (far || lv ≠ .video || src.all (fun k => !s.formatBad k dest)))
  match e with
  | .level dest lv src mode bobbin prio princ via =>
    some (if fits dest lv src then e else .level dest lv none mode bobbin prio princ via)
  | .take dest lv p => some (if fits dest lv p.src then e else .take dest lv { p with src := none })
  | .delay dest _ _ _ => if s.differs 0x0102 dest then none else some e
  | .flowSet i _ _ => if s.differs 0x0141 i then none else some e
  | .flowTable key entries legs =>
    let own (w : FWhat) : Bool := match w with
      | .leg i _ => s.differs 0x0141 i
      | .fwd _ => false
    some (.flowTable key (entries.filter (fun x => !own x.2.1)) (legs.filter (fun f => !s.differs 0x0141 f.1)))
  | .abus b _ _ _ => if s.differs 0x0182 b then none else some e
  | .window w _ _ => if s.differs 0x0190 (byteAt w 0) then none else some e
  | .windowClear w _ => if s.differs 0x0190 (w / 64) then none else some e
  | .order h _ _ => if s.differs 0x0190 h then none else some e
  | _ => some e

/-- What a snapshot takes the place of, whatever the chip replayed or held before (14 R553; 18 R675): every parameter that the image sets stands as the
image has it, and no window, waiting take, salvo or route across Strands is left. -/
def State.snapBase (s : State) : State :=
  let img := { s with aud := {} }.audStart
  let bare (x : LevelSt) : LevelSt := { x with pend := [], pathDue := none }
  let s := s.dests.foldl (fun (s : State) i =>
    let d := s.dst i
    s.setDst i { d with
      video := bare d.video, audio := bare d.audio, anc := bare d.anc
      frames := (s.imageDelay i).1, lines := (s.imageDelay i).2, pendDelay := none }) s
  let s := s.outAddrs.zipIdx.foldl (fun (s : State) (x : Nat × Nat) =>
    s.setOut x.2 { s.outCh x.2 with sel := (img.outCh x.2).sel, gain := (img.outCh x.2).gain }) s
  let s := (List.range 16).foldl (fun (s : State) h =>
    if (s.headSrc h).isNone then s else s.setHead h { s.head h with order := orDef (byteAt (s.headRec h) 2) 0xE4, orderPend := none }) s
  { s with
    aud.buses := img.aud.buses, aud.lines := s.aud.lines.map (fun x => (x.1, { x.2 with len := ((look x.1 img.aud.lines).map (·.len)).getD x.2.len }))
    mv.wins := [], xp.waiting := [], xp.shares := [], xp.salvos := [], skn.routes := [] }

/-- 14 R553: a frame of the snapshot is applied; after the last the queued copies follow in order. -/
def execDblSnap (t : Time) (h : DblHead) (part parts : Nat) (effs : List Eff) (s : State) : Host.Outcome State Fault Refusal :=
  dblFrame t h s fun s =>
    if s.dbl.role ≠ .joining || !s.dbl.linkUp then s
    else
      let s := if part = 0 then s.snapBase else s
      let s := s.applyCopy (effs.filterMap s.snapFit) s.now
      let s := { s with dbl.catchup := min 100 ((part + 1) * 100 / max 1 parts) }
      if part + 1 < parts then s
      else
        let s := s.dbl.queued.foldl (fun (s : State) (c : List Eff × Bool) => (s.applyCopy c.1 s.now).bump R.DBL_COPIES 1) s
        { s with dbl.snapped := true, dbl.queued := [] }

/-- 11 R434, 14 R532: bulk data for a still or plane bank, which a standby confirms (15 Table 15.5; log entry 90). -/
def execDblBulk (t : Time) (h : DblHead) (key off : Nat) (clear : Bool) (data : List Byte) (s : State) : Host.Outcome State Fault Refusal :=
  dblFrame t h s fun s =>
    if s.dbl.linkUp && (s.dbl.role = .standby || s.dbl.role = .joining) && (s.bankSize key).any (fun n => off + data.length ≤ n) then
      let s := s.hiddenWrite key off clear data
      if s.dbl.role = .standby then s.dblSend 4 0 [] else s
    else s

/-! ### Hand-over -/

/-- A Skein message accepted from the twin acts as on its arrival (13 R514). -/
def State.skeinAct (s : State) (port : Nat) (m : SkMsg) : State :=
  match m.body with
  | .arm _ _ prio princ _ =>
    let order := s.sicp.order
    { s with sicp.order := order + 1, sicp.cyc := s.sicp.cyc ++ [⟨order, s.now, 0, princ, prio, .skeinArm s.now port m⟩] }
  | .report _ _ _ => s.reportAct m
  | .decision commit _ => { s with skn.decisions := s.skn.decisions ++ [(m.coord, m.num, commit)] }
  | .release _ =>
    let order := s.sicp.order
    { s with sicp.order := order + 1, sicp.cyc := s.sicp.cyc ++ [⟨order, s.now, 0, 0, 0, .skeinRelease s.now port m⟩] }

/-- 13 R514, R545: HANDOFF. A SiCP datagram is counted; the record it holds arrives as the command that it is (log entry 54). -/
def execDblHandoff (t : Time) (h : DblHead) (m : HandOff) (s : State) : Host.Outcome State Fault Refusal :=
  dblFrame t h s fun s =>
    if !s.dbl.linkUp || !s.serving then s
    else match m with
      | .datagram => s.bump R.DBL_HANDOFFS 1
      | .skein port m => if s.dbl.role.holds then s.skeinIn m (fun s => s.skeinAct port m) else s
      | .claim port pair => if s.strandState port = 4 then (s.sendUnits port 1).emit (.claim port pair) else s

/-- 14 R539: the second of hand-over ends. -/
def execHandoffPeriodEnd (t : Time) (s : State) : Host.Outcome State Fault Refusal :=
  served t s fun s => if s.dbl.handoffUntil.any (fun u => u ≤ s.up) then { s with dbl.handoffUntil := none } else s

/-- 14 R539, Table 14.6: the announcement is repeated 1 ms and 10 ms after the claim. -/
def execGratuitousArpRepeat (t : Time) (s : State) : Host.Outcome State Fault Refusal :=
  served t s fun s =>
    let at_ := s.dbl.claimAt + (if s.dbl.arpsSent = 1 then ms else 10 * ms)
    if s.dbl.role.holds && (s.dbl.arpsSent = 1 || s.dbl.arpsSent = 2) && at_ ≤ s.up then
      { s with dbl.arpsSent := s.dbl.arpsSent + 1 }.announce
    else s

/-- 14 R539, R541: YIELD. -/
def execDblYield (t : Time) (h : DblHead) (s : State) : Host.Outcome State Fault Refusal :=
  dblFrame t h s fun s =>
    if s.dbl.role = .standby then
      let s := { s with dbl.twinRole := h.role % 8, dbl.twinF3 := h.f3 }
      s.takeControl (if h.role = 1 || h.role = 2 then .active else .solo) true
    else s.twinSays h

/-! ### The commanded swap -/

/-- The command of a request of class C, by its message type (15 Table 15.4). -/
def commandOf (t : Time) (typ : Nat) (q : Req) : Option Instr :=
  match typ with
  | 0x08 => some (.subscribe t q) | 0x09 => some (.unsubscribe t q) | 0x10 => some (.take t q) | 0x15 => some (.salvoAbort t q)
  | 0x16 => some (.delaySet t q) | 0x17 => some (.flowSet t q) | 0x18 => some (.flowRelease t q) | 0x20 => some (.audRoute t q)
  | 0x21 => some (.busSet t q) | 0x22 => some (.audDelaySet t q) | 0x30 => some (.windowSet t q) | 0x31 => some (.windowClear t q)
  | 0x32 => some (.layerOrder t q) | 0x34 => some (.fence t q) | 0x40 => some (.timeRef t q) | 0x41 => some (.timeRealign t q)
  | 0x42 => some (.timeSet t q) | 0x53 => some (.pairSwap t q) | 0x54 => some (.pairRestart t q) | 0x55 => some (.pairRejoin t q)
  | 0x56 => some (.evacClear t q)
  | _ => none

/-- A request of the running cycle as SWAP carries it. -/
def CycReq.swapReq (r : CycReq) : Option SwapReq :=
  match r.cmd with
  | .subscribe _ q => some (.sicp 0x08 r.acc q) | .unsubscribe _ q => some (.sicp 0x09 r.acc q) | .take _ q => some (.sicp 0x10 r.acc q)
  | .salvoAbort _ q => some (.sicp 0x15 r.acc q) | .delaySet _ q => some (.sicp 0x16 r.acc q) | .flowSet _ q => some (.sicp 0x17 r.acc q)
  | .flowRelease _ q => some (.sicp 0x18 r.acc q) | .audRoute _ q => some (.sicp 0x20 r.acc q) | .busSet _ q => some (.sicp 0x21 r.acc q)
  | .audDelaySet _ q => some (.sicp 0x22 r.acc q) | .windowSet _ q => some (.sicp 0x30 r.acc q) | .windowClear _ q => some (.sicp 0x31 r.acc q)
  | .layerOrder _ q => some (.sicp 0x32 r.acc q) | .fence _ q => some (.sicp 0x34 r.acc q) | .timeRef _ q => some (.sicp 0x40 r.acc q)
  | .timeRealign _ q => some (.sicp 0x41 r.acc q) | .timeSet _ q => some (.sicp 0x42 r.acc q) | .pairSwap _ q => some (.sicp 0x53 r.acc q)
  | .pairRestart _ q => some (.sicp 0x54 r.acc q) | .pairRejoin _ q => some (.sicp 0x55 r.acc q) | .evacClear _ q => some (.sicp 0x56 r.acc q)
  | .skeinArm _ port m => some (.skein r.acc port m)
  | .skeinRelease _ port m => some (.skein r.acc port m)
  | _ => none

/-- The acceptance time of a request that SWAP carries. -/
def SwapReq.acc : SwapReq → Time
  | .sicp _ acc _ => acc
  | .skein acc _ _ => acc

/-- The new holder accepts the requests of SWAP in the order of their acceptance times, before any that reached it directly (14 R551). -/
def State.swapAccept (s : State) (reqs : List SwapReq) : State :=
  let direct := s.sicp.cyc
  let sorted := sortBy (fun a b => a.acc ≤ b.acc) reqs
  let s := sorted.foldl (fun (s : State) (r : SwapReq) =>
    match r with
    | .sicp typ acc q => match s.sess q.sess, commandOf acc typ q with
      | some c, some cmd =>
        let s := s.setSess c.id (fun c => c.accept q.id)
        let order := s.sicp.order
        { s with sicp.order := order + 1, sicp.cyc := s.sicp.cyc ++ [⟨order, acc, c.id, c.princ, s.prio c.princ, cmd⟩] }
      | _, _ => s
    | .skein _ port m => s.skeinAct port m) { s with sicp.cyc := [] }
  direct.foldl (fun (s : State) (r : CycReq) =>
    let order := s.sicp.order
    { s with sicp.order := order + 1, sicp.cyc := s.sicp.cyc ++ [{ r with order := order }] }) s

/-- The swap reaches its instant S (14 R551): the holder becomes STANDBY and sends SWAP, the standby becomes ACTIVE and claims the pair address. -/
def State.swapInstant (s : State) : State :=
  match s.dbl.role with
  | .active =>
    let reqs := s.sicp.cyc.filterMap CycReq.swapReq
    let seqs := (s.sicp.sessions.filter (fun c => !c.own)).map (fun c => (c.id, c.txRecords))
    let s := (s.setRole .standby).bump R.DBL_SWAPS 1
    { s with dbl.swapPend := none, dbl.twinRole := 3, dbl.handoffUntil := some (s.up + sec), sicp.cyc := [] }.emit (.dblSwap reqs seqs)
  | .standby => { (s.takeControl .active false).bump R.DBL_SWAPS 1 with dbl.twinRole := 2 }
  | _ => { s with dbl.swapPend := none }

/-- 14 R551: SWAP reaches the new holder. -/
def execDblSwap (t : Time) (h : DblHead) (reqs : List SwapReq) (seqs : List (Nat × Nat)) (s : State) : Host.Outcome State Fault Refusal :=
  dblFrame t h s fun s =>
    if !s.dbl.linkUp || !s.serving then s
    else
      let s := if s.dbl.role = .standby && s.dbl.swapPend.isSome then s.swapInstant else s
      if s.dbl.role ≠ .active then s
      else
        let s := seqs.foldl (fun (s : State) (x : Nat × Nat) => s.setSess x.1 (fun c => { c with txRecords := max c.txRecords x.2 })) s
        s.swapAccept reqs

/-! ### Lanes and the loss of the link -/

/-- The takes whose copy was not confirmed fall due at an instant (14 R546). -/
def State.redate (s : State) (b : Time) : State :=
  let move (x : LevelSt) : LevelSt := { x with pend := x.pend.map (fun p => if p.armed then p else { p with due := b }) }
  { s with xp.dst := s.xp.dst.map (fun (d : Nat × DstSt) =>
    (d.1, { d.2 with video := move d.2.video, audio := move d.2.audio, anc := move d.2.anc })) }

/-- The held copy waits for the end of the settle; its takes and their replies carry the new instant (14 R546). -/
def State.defer (s : State) (end_ : Time) : State :=
  match s.dbl.held with
  | none => s
  | some c =>
    let b := s.houseFrom (end_ + 250000)
    let re (r : Reply) : Reply := if r.typ = 0x10 && r.code = 0 then { r with tlvs := [effective b] } else r
    { s.redate b with dbl.held := none, dbl.deferred := some { c with replies := c.replies.map re } }

/-- The CLAIM of a chip that took control alone (13 Table 13.7, 14 R544). -/
def State.sendClaim (s : State) : State :=
  s.ownLinks.foldl (fun (s : State) (l : Link) => (s.sendUnits l.lane 1).emit (.claim l.lane s.pairNo)) s

/-- The doubling link is lost: what it brought is unknown from then on (12 R470, Table 12.10; 14 R544; 21 R747). -/
def State.linkDown (s : State) : State :=
  let held := s.dbl.role.holds
  let s := { s with
    dbl.linkUp := false, dbl.heldOut := held, dbl.twinHeldOut := s.dbl.twinRole = 3 || s.dbl.twinRole = 4, dbl.dualFrom := some s.up
    dbl.twinRole := 7, dbl.twinF3 := false, dbl.snapDue := false, dbl.snapped := false, dbl.queued := [], dbl.swapPend := none, dbl.linkKey := none
    skn.twinMap := [], probe.twinHeld := s.probe.twin.isSome, whl.twinOffset := none, whl.twinOver := none, whl.pendHeld := none }
  (s.set R.WHL_TWIN_VALID 0).noteMirrors

/-- 14 R544, R546: no valid frame for 20 µs; `tie` is the reading of TIE_IN, `since` the nanoseconds from the detection to it. -/
def execDblLinkLoss (t : Time) (tie : Tie) (since : Nat) (s : State) : Host.Outcome State Fault Refusal :=
  released t s fun s =>
    if !s.dbl.linkUp then s
    else
      let end_ := s.now - min since 24000 + 2 * ms
      let s := { s.linkDown with dbl.tieIn := tie }
      let s := s.errNamed R.DBL_ERR_DOWN 2 0x0501 [] { typ := 3, master := 0x40 + 37 } true
      let s := if s.serving then { s with dbl.settleEnd := some end_ } else s
      match s.dbl.role with
      | .standby => if tie = .hold then s.detach else (s.takeControl .solo true).sendClaim
      | .joining => ({ s.setRole .off with dbl.caughtUp := false }).roleFromOff
      | .active => if tie = .hold then (s.peak R.DBL_DUAL s.dualSpan).detach else ((s.setRole .solo).defer end_).bulkDone
      | .solo => if tie = .hold then (s.peak R.DBL_DUAL s.dualSpan).detach else (s.defer end_).bulkDone
      | _ => s

/-- 14 R546: the 2.0 ms end: the chip that holds control arms what it held back, and the replies leave. -/
def execSettleEnd (t : Time) (s : State) : Host.Outcome State Fault Refusal :=
  served t s fun s =>
    match s.dbl.settleEnd with
    | none => s
    | some e =>
      if s.now < e then s
      else
        let s := { s with dbl.settleEnd := none }
        match s.dbl.deferred with
        | none => s
        | some c =>
          let s := { s with dbl.deferred := none }
          if s.dbl.role.holds then s.confirm c.effs c.replies else s

/-- 14 R534: a lane goes down. -/
def execDblLaneDown (t : Time) (lane : Fin 2) (s : State) : Host.Outcome State Fault Refusal :=
  released t s fun s =>
    if !bit s.dbl.lanes lane then s
    else { s with dbl.lanes := s.dbl.lanes - 2 ^ lane.val }.err R.DBL_ERR_LANE 2 { typ := 3, master := 0x40 + 37 } (lasts := true)

/-- 14 R534: a lane comes up; with both up the condition ends. -/
def execDblLaneUp (t : Time) (lane : Fin 2) (s : State) : Host.Outcome State Fault Refusal :=
  released t s fun s =>
    let s := if bit s.dbl.lanes lane then s else { s with dbl.lanes := s.dbl.lanes + 2 ^ lane.val }
    if s.dbl.lanes = 3 then s.errDone R.DBL_ERR_LANE else s

/-! ### Tie lines -/

/-- The code that the twin drives in the role it reports (14 Table 14.1, R528). -/
def State.twinTie (s : State) : Tie :=
  match s.dbl.twinRole with
  | 1 => if s.dbl.twinF3 then .none else .follow
  | 2 => if s.dbl.twinF3 then .none else .follow
  | 3 => .hold
  | 4 => .hold
  | _ => .none

/-- Does the reading contradict the twin's report, or is it INVALID (14 R528)? -/
def State.tieWrong (s : State) : Bool := s.dbl.tieIn = .invalid || (s.dbl.linkUp && s.dbl.tieIn ≠ s.twinTie)

/-- The code of a count of edges at TIE_IN in a window of 8 µs (14 Table 14.1). -/
def tieOf (edges : Nat) : Tie :=
  if edges = 0 then .none else if 12 ≤ edges && edges ≤ 20 then .follow else if 56 ≤ edges && edges ≤ 72 then .hold else .invalid

/-- The classification that two consecutive windows give: none new where they disagree (14 R527). -/
def tieRead (w : Nat × Nat) : Option Tie := if tieOf w.1 = tieOf w.2 then some (tieOf w.1) else none

/-- 14 R527, R531, R544, R548: the edges of two consecutive windows at TIE_IN; the classification changes where both give the same new code. INVALID
counts as NONE. -/
def execTieInChange (t : Time) (w : Nat × Nat) (s : State) : Host.Outcome State Fault Refusal :=
  released t s fun s =>
    let tie := (tieRead w).getD s.dbl.tieIn
    let s := { s with dbl.tieIn := tie }
    let s := if s.tieWrong then s else s.errDone R.DBL_ERR_TIE_FAULT
    if !s.serving then s
    else match s.dbl.role with
      | .off => if tie = .hold && s.dbl.startWait.isSome then s.roleFromOff else s
      | .standby => if s.dbl.linkUp && (tie = .none || tie = .invalid) then s.takeControl .solo true else s
      | .active => s
      | .solo =>
        if s.dbl.linkUp || tie ≠ .hold then s
        else if s.dbl.settleEnd.isSome then (s.peak R.DBL_DUAL s.dualSpan).detach
        else s.dualControl
      | _ => s

/-- 14 R528: for 1 ms TIE_IN has contradicted the twin's report, or read INVALID. -/
def execTieFault (t : Time) (s : State) : Host.Outcome State Fault Refusal :=
  released t s fun s =>
    if s.tieWrong then s.err R.DBL_ERR_TIE_FAULT 2 { typ := 3, master := 0x40 + 37 } (lasts := true) else s

/-- 14 R544, R545: a CLAIM reaches this chip over a Strand. -/
def execClaim (t : Time) (port pair : Nat) (s : State) : Host.Outcome State Fault Refusal :=
  served t s fun s =>
    if pair = s.pairNo then
      let s := s.bump R.DBL_CLAIMS 1
      if s.dbl.role.holds && !s.dbl.linkUp then (s.peak R.DBL_DUAL s.dualSpan).detach else s
    else if s.dbl.linkUp then s.emit (.handClaim port pair)
    else s

/-! ### Start and rejoin -/

/-- 14 R531: side B has not read HOLD for START_WAIT. -/
def execStartWaitExpiry (t : Time) (s : State) : Host.Outcome State Fault Refusal :=
  served t s fun s =>
    match s.dbl.startWait with
    | some u =>
      if s.dbl.role = .off && s.dbl.tieIn ≠ .hold && u + s.startWait ≤ s.up then
        { s.setRole .solo with dbl.startWait := none, dbl.dualFrom := if s.dbl.linkUp then none else some s.up }
      else s
    | none => s

/-- Do the conditions of a rejoin hold (14 R543)? -/
def State.mayRejoin (s : State) : Bool :=
  let recent := (s.dbl.yields.filter (fun u => s.up < u + 3600 * sec)).length
  s.dbl.linkUp && (List.range 40).all (fun n => !s.has (rstNow n)) && s.flt.conds.all (fun c => c.cls < 3)
    && (s.dbl.rejoinAsked || (recent < s.yieldMax && !s.rejoinOff))

/-- 14 R543: a DETACHED or YIELDED chip rejoins. -/
def execRejoin (t : Time) (s : State) : Host.Outcome State Fault Refusal :=
  served t s fun s =>
    if (s.dbl.role = .detached || s.dbl.role = .yielded) && s.mayRejoin then
      { (s.setRole .joining).dblSend 1 0 s.helloBody with
        dbl.rejoinAsked := false, dbl.snapped := false, dbl.queued := [], dbl.caughtUp := false, dbl.catchup := 0, dbl.copyFails := 0
        dbl.quietAfter := none }
    else s

/-! ### Resets of DBL -/

/-- The fence of DBL's reset: the role is OFF, and the link is lost to both chips (14 Table 14.3, R556, R558). DESIGN CHOICE (log entry 111): Table
14.3 makes a chip whose DBL is reset OFF, Table 14.10 lets R544 apply; the model takes OFF, with the outputs quiet, for the chip that is reset, and R544 for its twin. -/
def State.dblDown (s : State) : State :=
  let s := if s.dbl.linkUp then s.linkDown else s
  let s := if s.dbl.role = .off then s else (s.setRole .off).dropUnarmed.quietAll
  { s with dbl.held := none, dbl.deferred := none, dbl.replies := [], dbl.swapPend := none, dbl.yieldPend := false, dbl.settleEnd := none
           dbl.startWait := none, sicp.cyc := [] }

/-- DBL serves again: the chip takes its role by the rows of OFF. -/
def State.dblUp (s : State) : State := if s.dbl.role = .off then s.roleFromOff else s

end Sys2Proof.Machine
end

