-- ==== Sys2Proof/Machine/Staging.lean ====
section
/-! DEFINITION. Staging of an image (19 R685 to R690). -/

namespace Sys2Proof.Machine

/-- Refuse with BAD_IMAGE and a detail; staging is discarded (19 R687 to R690). -/
def State.badImage (s : State) (c : Ctx) (detail : Nat) : State :=
  let s := s.stageDiscard 1
  (s.set R.STAGE_LAST_DETAIL detail).reply { c.re 0x0028 with detail := detail }

/-- 19 R686: STAGE_OPEN. -/
def execStageOpen (t : Time) (q : Req) (s : State) : Host.Outcome State Fault Refusal :=
  served t s fun s => s.request ⟨0x60, false, [one 0x29]⟩ q (chipNeed 10) fun s c =>
    let total := fld c.ts 0x29 0 4
    if total < 234 || s.imageLimit < total then s.badValue c 0x29
    else if s.boot.staging.any (fun g => g.sess ≠ c.sess.id) then s.busy c 1
    else
      let g : Staging := { sess := c.sess.id, total := total, bytes := [], lastWrite := s.up }
      { s.zeroStage with boot.staging := some g }.stageShow.ok c []

/-- The first check that the bytes staged so far fail (19 R688). `plain` is the plaintext of the RECORDS among them where they are encrypted. -/
def State.stagedBad (s : State) (v plain : List Byte) : Option Nat :=
  match shapeBad v s.imageLimit with
  | some e => some e.1
  | none =>
    if v.length < 64 || v.length < hdrCfg v + 2 || v.length ≤ recordsAt v then none
    else if !s.canDecrypt v then some 7
    else
      let here := min (recordsLen v) (v.length - recordsAt v)
      let r := if bit (hdrFlags v) 0 then plain.take here else (v.drop (recordsAt v)).take here
      partialRecords (r.length + 1) r (recordsLen v)

/-- 19 R687, R688: STAGE_WRITE. `good` says that the bytes read back as written. -/
def execStageWrite (t : Time) (q : Req) (good : Bool) (plain : List Byte) (s : State) : Host.Outcome State Fault Refusal :=
  served t s fun s => s.request ⟨0x61, false, [one 0x18, one 0x19]⟩ q (chipNeed 10) fun s c =>
    let d := tlv c.ts 0x19
    match s.boot.staging with
    | none => s.badState c
    | some g =>
      let n := g.bytes.length
      if g.sess ≠ c.sess.id then s.badState c
      else if fld c.ts 0x18 0 4 ≠ n || g.total < n + d.length then s.badValue c 0x18
      else
        let past := d.drop (64 - n)
        let s := { s with boot.xspi := memWrite s.boot.xspi (s.stageBase + max n 64) past }
        if !good && past ≠ [] then s.badImage c 0
        else match s.stagedBad (g.bytes ++ d) plain with
          | some e => s.badImage c e
          | none => { s with boot.staging := some { g with bytes := g.bytes ++ d, lastWrite := s.up } }.stageShow.ok c []

/-- The checks of a whole staged image, and the compatibility of its firmware with the running one as detail 13 (19 R689, R695). Checks 1 to 3,
9 and 10 were made as the bytes came. -/
def State.closeBad (s : State) (v : List Byte) (w : ImgFacts) : Option Nat :=
  match s.signedBad v w with
  | some e => some e.1
  | none =>
    let r := clearRecords v w
    match parseRecords (r.length + 1) (recordsAt v) r [] with
    | .inl e => some e.1
    | .inr _ => if fwCompatible (imageFw v) s.boot.fw then none else some 13

/-- 19 R689: STAGE_CLOSE. `good` says that the header reads back as written. -/
def execStageClose (t : Time) (q : Req) (good : Bool) (w : ImgFacts) (s : State) : Host.Outcome State Fault Refusal :=
  served t s fun s => s.request ⟨0x62, false, []⟩ q (chipNeed 10) fun s c =>
    match s.boot.staging with
    | none => s.badState c
    | some g =>
      if g.sess ≠ c.sess.id || g.bytes.length ≠ g.total then s.badState c
      else match s.closeBad g.bytes w with
        | some e => s.badImage c e
        | none =>
          if !good then s.badImage c 0
          else
            let s := { s with boot.xspi := memWrite s.boot.xspi s.stageBase (g.bytes.take 64), boot.staging := none }
            s.stageShow.ok c []

/-- 19 R690: 60 s without an accepted STAGE_WRITE. -/
def execStageIdleExpiry (t : Time) (s : State) : Host.Outcome State Fault Refusal :=
  served t s fun s =>
    if s.boot.staging.any (fun g => g.lastWrite + 60 * sec ≤ s.up) then s.stageDiscard 3 else s

end Sys2Proof.Machine
end

