-- ==== Sys2Proof/Machine/Start.lean ====
section
/-! DEFINITION. The start of the chip: power, keys, the copy of a staged image, the checks and the records of the image, memory, the replay of the
journal, and the instant from which the chip serves (12 R467; 17 R614 to R638; 18 R652 to R682; 19 R690 to R698). -/

namespace Sys2Proof.Machine

/-! ### The fall of PWR_OK or RESET_N (18 R676) -/

/-- The registers of AON, which no chip reset changes (17 R651). -/
def State.aonRegs (s : State) : List (Nat × Word) :=
  s.regs.filter (fun r => 0x4000000000 + 36 * 0x100000 ≤ r.1 && r.1 < 0x4000000000 + 37 * 0x100000)

/-- A slot as its blob in the key area has it: KEY's own counts of failed imports are gone. -/
def KSlot.cold (x : KSlot) : KSlot := { x with fails := 0, until_ := 0 }

/-- Every island but AON is reset: what stays is the xSPI memory, OTP, AON, the clock of the model, its queue and what it sent. -/
def State.fallen (s : State) : State :=
  { now := s.now, up := s.up, free := s.free, pending := s.pending, out := s.out, regs := s.aonRegs, rtc := s.rtc
    boot := { xspi := s.boot.xspi, jrecs := s.boot.jrecs, staging := s.boot.staging, startReport := s.boot.startReport }
    flt := { blocks := s.flt.blocks }
    keys := {
      life := s.keys.life, left := s.keys.left, rbSteps := s.keys.rbSteps, battery := s.keys.battery, drawn := s.keys.drawn, ttime := s.keys.ttime
      slots := s.keys.slots.map (fun x => (x.1, x.2.cold)) } }

/-- The writes of a copy of the staged image, byte by byte in the order of 19 Table 19.2: the active MAGIC to zero, the bytes from 64 on, header
bytes 4 to 63, MAGIC, and the staging header to zero. -/
def State.copyWrites (s : State) : List (Nat × Byte) :=
  let v := s.imageAt s.stageBase
  let at_ (a : Nat) (l : List Byte) : List (Nat × Byte) := l.mapIdx (fun i b => (a + i, b))
  at_ 0 (List.replicate 4 0) ++ at_ 64 (v.drop 64) ++ at_ 4 ((v.take 64).drop 4) ++ at_ 0 (v.take 4) ++ at_ s.stageBase (List.replicate 64 0)

/-- The first `n` writes of the copy are done. -/
def State.copied (s : State) (n : Nat) : State :=
  { s with boot.xspi := (s.copyWrites.take n).foldl (fun m w => memPut m w.1 w.2) s.boot.xspi }

/-- The record that BOOT was writing when PWR_OK or RESET_N fell is torn (18 R673, Table 18.15). -/
def State.tornRecord (s : State) : State :=
  match s.nextRecord with
  | some (b, ckpt, t) => if s.journals then s.putRecord b ckpt t false else s
  | none => s

/-- 18 R676: PWR_OK or RESET_N falls. `torn` says that BOOT was writing a journal record, `report` that it was writing the start report, and
`copy` how many bytes it had written where it was copying a staged image. -/
def execResetFall (t : Time) (torn report : Bool) (copy : Nat) (s : State) : Host.Outcome State Fault Refusal :=
  let s := s.at_ t
  if !s.boot.pins then .next s
  else
    let s := if s.get R.BOOT_STAT_STATUS = 4 then s.copied copy else s
    let s := if torn && s.serving then s.tornRecord else s
    let s := if report then { s with boot.startReport := s.boot.startReport.map (fun r => { r with whole := false }) } else s
    .next s.fallen

/-! ### What ends a start (18 R677, R680, Table 18.11) -/

/-- The start stops with a STATUS code, its detail, and the OFFSET of the start report; 0xB writes no report. -/
def State.halt (s : State) (code detail offset : Nat) : State :=
  let s := { s with flt.stopped := true }.status code detail
  if code = 11 then s else s.report offset

/-! ### Memory and keys (18 Table 18.12, STATUS 0x1 and 0x2) -/

/-- What service access wrote while the pins of the memory were free (18 R655): bytes, and the journal and log regions. A blob that it altered
does not authenticate any more (18 R658; log entry 58). -/
def State.serviced (s : State) (w : StartFacts) : State :=
  let hit (k : Nat) : Bool := w.service.any (fun x => x.1 < s.keyBase + 8192 * (k + 1) && s.keyBase + 8192 * k < x.1 + x.2.length)
  { s with
    boot.xspi := w.service.foldl (fun m x => memWrite m x.1 x.2) s.boot.xspi
    boot.jrecs := w.journal.getD s.boot.jrecs
    flt.blocks := w.log.getD s.flt.blocks
    keys.slots := s.keys.slots.map (fun x => (x.1, if hit x.1 then { x.2 with blob := 2 ^ 64 } else x.2)) }

/-- KEY's part of a start (17 R614, R618, R637, R638, Table 17.8): the outcome of the AON check, the key-encryption key and the slots. -/
def State.startKeys (s : State) (w : StartFacts) : State :=
  let working := s.keys.life = 2 || s.keys.life = 3
  let outcome := if w.aonLost then 2 else if s.keys.battery.isNone then 1 else 0
  let s := if outcome = 2 then { s.clearWindow 36 with rtc := none, keys.battery := none, keys.ttime := 0 } else s
  let s := s.set R.AON_STAT_CHECK outcome
  let s := if !working then s else if outcome = 0 then { s with keys.kek := s.keys.battery }.loadSlots else s.drawHalf.loadSlots
  { s with keys.idValid := w.idOk, keys.rngOk := w.rngOk }

/-! ### What the memory's regions tell (18 R671, R674; 20 R724, R726) -/

/-- Can the chip read a record of the journal: its CRC holds, and its tag under the journal key (18 R674)? -/
def State.readable (s : State) (r : JRec) : Bool :=
  r.whole && (r.sealed.isNone || r.sealed = s.journalSlot.map (fun k => (s.kslot k).key))

/-- The readable record of a count. -/
def State.jrecOf (s : State) (n : Nat) : Option JRec := s.boot.jrecs.find? (fun r => r.seq = n && s.readable r)

/-- The items and the END of the checkpoint that a BEGIN of `n` items begins, where it is complete. -/
def State.ckptOf (s : State) (b : JRec) (n : Nat) : Option (List JItem) :=
  let items := (List.range n).filterMap (fun i => match s.jrecOf (b.seq + 1 + i) with
    | some r => match r.body with
      | .item x => if r.ckpt then some x else none
      | _ => none
    | none => none)
  match s.jrecOf (b.seq + 1 + n) with
  | some e => if items.length = n && e.body = .end_ n then some items else none
  | none => none

/-- The complete checkpoint of this chip with the highest BEGIN SEQ: its BEGIN, its format, its items and the SEQ of its END. -/
def State.lastCkpt (s : State) : Option (JRec × Nat × List JItem × Nat) :=
  s.boot.jrecs.foldl (fun (best : Option (JRec × Nat × List JItem × Nat)) r =>
    match r.body with
    | .begin_ c f n =>
      if c = s.chip && s.readable r && !best.any (fun x => r.seq < x.1.seq) then
        match s.ckptOf r n with
        | some l => some (r, f, l, r.seq + 1 + n)
        | none => best
      else best
    | _ => best) none

/-- The ordinary items from a count on, up to the first count that is missing or cannot be read. -/
def State.ordinary (s : State) : Nat → Nat → List JItem
  | 0, _ => []
  | fuel + 1, n => match s.jrecOf n with
    | none => []
    | some r => (match r.body with
      | .item x => if r.ckpt then [] else [x]
      | _ => []) ++ s.ordinary fuel (n + 1)

/-- The journal's write position and next count: after the record of the highest count (18 R671). -/
def State.journalEnd (s : State) : State :=
  let last := s.boot.jrecs.foldl (fun (m : Option JRec) r =>
    if !r.whole || m.any (fun x => r.seq < x.seq) then m else some r) none
  { s with
    boot.jpos := (last.map (fun r => r.off + r.body.size)).getD 0
    boot.jseq := (last.map (fun r => r.seq + 1)).getD 0
    boot.jbegin := s.lastCkpt.map (fun x => x.1.off), boot.ckptDue := true }

/-- The log's next index, block count and place (20 R724, R726). -/
def State.logEnd (s : State) : State :=
  let idx := s.flt.blocks.flatMap (fun b => b.recs.map (·.index))
  let top := s.flt.blocks.foldl (fun (m : Option LogBlock) b => if m.any (fun x => b.bseq < x.bseq) then m else some b) none
  { s with
    flt.next := if idx = [] then 0 else (idx.foldl max 0 + 1) % 2 ^ 32
    flt.bseq := (top.map (fun b => b.bseq + 1)).getD 0
    flt.bslot := (top.map (fun b => (b.slot + 1) % s.logBlocks)).getD 0 }

/-! ### CONFIGURE (18 Table 18.12, STATUS 0x5) -/

/-- What the start found, in the log: START first, then the AON outcome, staging that was discarded, and the records skipped (17 Table 17.8; 18
R667; 19 R690; 20 R724, Table 20.8). -/
def State.startEvents (s : State) (skipped : List (Nat × Nat)) : State :=
  let check := s.get R.AON_STAT_CHECK
  let s := s.event 34 0 0x0001 (beBytes 1 (b2n Config.gradeAE) ++ beBytes 1 0xB1 ++ beBytes 4 s.boot.fw ++ beBytes 2 s.boot.secver
    ++ beBytes 4 (s.get R.BOOT_START_COUNT) ++ beBytes 1 check ++ beBytes 1 (b2n s.dbl.side))
  let stamp := s.keys.ttime
  let s :=
    if s.keys.life = 1 then (if check = 2 then s.event 35 1 0x0008 (beBytes 1 2) else s)
    else if check = 2 then s.aonLost 0x0008 (beBytes 1 2)
    else if check = 1 then s.aonLost 0x0009 (beBytes 1 (s.get R.AON_STAT_LATCH + 4 * s.get R.AON_STAT_ZEROED) ++ beBytes 6 stamp)
    else s
  let s := if s.boot.staging.isSome then { s with boot.staging := none }.event 39 1 0x0707 (beBytes 1 5) else s
  skipped.foldl (fun (s : State) x => s.event 34 1 0x000B (beBytes 2 x.1 ++ beBytes 4 x.2)) s

/-- The lanes, ports and Strands of a cluster leave OFF (05 Table 5.3; 07 Table 7.3; 13 Table 13.2). -/
def State.clusterOn (s : State) (c : Nat) : State :=
  let ids := (List.range 16).map (16 * c + ·)
  let s := ids.foldl (fun (s : State) l => if (s.rxSource l).isSome then s.setRxState l 1 else s) s
  (ids.foldl (fun (s : State) p => if s.portKind p = 0 then s else s.portOn p) s).strandsOn c

/-- The management ports leave OFF: they belong to SPN (07 Table 7.3). -/
def State.mgmtOn (s : State) : State := [256, 257].foldl (fun (s : State) p => s.portOn p) s

/-- The destinations as the image binds them: no source, the mode and the delay of their records (02 Table 2.11, R75; 08 Table 8.7). -/
def State.destStart (s : State) : State :=
  s.dests.foldl (fun (s : State) i =>
    let m := ((s.dstRec i).map recMode).getD .direct
    s.setDst i { video := { mode := m }, audio := { mode := m }, anc := { mode := m } }) s

/-- The image's records take effect: WHL runs from its first time, every island is released, and groups A to F are applied (12 R467, R468; 18
R666, R678). A TRIP reached before FLT's release is latched with it (23 Table 23.10). -/
def State.configure (s : State) (l : List (Nat × Rec)) : State :=
  let v := s.imageAt 0
  let known := (l.filter (fun x => knownRecord x.2.typ)).map (·.2)
  let skipped := (l.filter (fun x => !knownRecord x.2.typ && x.2.typ < 0x8000)).map (fun x => (x.2.typ, x.1))
  let s := { s with
    boot.recs := known, boot.fw := imageFw v, boot.secver := hdrSecver v, boot.flags := hdrFlags v, boot.decryptSlot := byteAt v 9 }
  let s := (s.set R.BOOT_STAT_NOR (b2n (bit (hdrFlags v) 2))).status 5 0
  let s := { s.firstTime.logEnd.journalEnd with dram.key := 0 }
  let s := (s.set R.WHL_WIRE_LO (2 ^ 32 - 1)).set R.WHL_WIRE_HI (2 ^ 8 - 1)
  let s := (s.set R.AON_STAT_TAMPER_EN (byteAt (s.rec1 0x01F0) 2)).set R.AON_STAT_ARMED (b2n (s.keys.life = 3))
  let s := ((s.startEvents skipped).consumers).stageShow.fltSync
  let s := (List.range 8).foldl (fun (s : State) n => s.setTile n .inService) s
  let (key, s) := s.fresh
  let s := { s with ip.hashKey := key % 2 ^ 128 }.flowStart
  let s := ((List.range 16).foldl (fun (s : State) c => s.clusterOn c) s).mgmtOn
  let s := (List.range 8).foldl (fun (s : State) g => s.set (R.DG_STAT_STATE g) 1) s
  let s := s.set R.CORE_RUN 15
  let s := (s.destStart.audServe).whlShow.utcShow.pulseShow.evacShow
  if s.tripped then s.err R.TEMP_ERR_TRIP 4 {} else s

/-- The checks of the active image, and its records (18 R665, R666). An image that passes them and breaks a rule that the chip does not check is
unpredictable (18 R681). -/
def State.verify (s : State) (w : ImgFacts) : Host.Outcome State Fault Refusal :=
  match s.imageCheck (s.imageAt 0) w with
  | .inl e => .next (s.halt 12 e.1 e.2)
  | .inr l =>
    let image : State := { s with boot.recs := (l.filter (fun x => knownRecord x.2.typ)).map (·.2) }
    if image.imageSound then .next (s.configure l) else .fault .unpredictable

/-- Headers are compared, and a staged image that is to be copied is checked first (19 R691, R693, Table 19.1). -/
def State.decideCopy (s : State) (w : StartFacts) : Host.Outcome State Fault Refusal :=
  let h := memRead s.boot.xspi s.stageBase 64
  let a := memRead s.boot.xspi 0 64
  if !headerValid h then s.verify w.active
  else if !headerValid a then .next (s.halt 12 11 0)
  else if h = a then s.zeroStage.verify w.active
  else match s.imageCheck (s.imageAt s.stageBase) w.staged with
    | .inl e => { s.zeroStage with boot.copySkipped := some e.1 }.verify w.active
    | .inr _ => .next (s.status 4 0)

/-- A start begins (18 R676): PWR_OK and RESET_N are high, SIDE_SEL is sampled, the density gives the layout, and what service access wrote stands. -/
def State.sampled (s : State) (w : StartFacts) : State :=
  ({ s with boot.pins := true, dbl.side := w.side }.set R.BOOT_STAT_LAYOUT (b2n (1024 ≤ w.density))).serviced w

/-- BOOT reads the header of the active image and counts the start, erases a staging that a fall cut short, and starts KEY (18 R678, R680; 19 R690;
17 R637). -/
def State.opened (s : State) (w : StartFacts) : State :=
  let a := s.imageAt 0
  let count := match s.boot.startReport with
    | some r => if r.whole then r.count + 1 else 1
    | none => 1
  let s := { s with
    boot.fw := if headerValid a then imageFw a else 0
    boot.secver := hdrSecver a }.set R.BOOT_START_COUNT count
  (if s.boot.staging.isSome then s.zeroStage else s).startKeys w

/-- 18 R676, R678: a start begins; it runs to STATUS 0x4 where a staged image is to be copied, to 0x5 where the records are applied, or to a stop. -/
def execPowerStart (t : Time) (w : StartFacts) (s : State) : Host.Outcome State Fault Refusal :=
  let s := s.at_ t
  if s.boot.pins then .next s
  else if w.density < 512 then .next ((s.sampled w).halt 11 0 0)
  else
    let s := (s.sampled w).opened w
    if s.keys.life = 4 then .next (s.halt 13 3 0)
    else if !w.idOk then .next ((s.set R.KEY_ERR_ID_MISMATCH 1).halt 13 1 0)
    else if !w.rngOk then .next ((s.set R.KEY_ERR_RNG_FAIL 1).halt 13 2 0)
    else s.decideCopy w

/-- 19 R692, R694: the copy is complete and read back: `good` says that the bytes read back as written. -/
def execImageCopyDone (t : Time) (good : Bool) (w : ImgFacts) (s : State) : Host.Outcome State Fault Refusal :=
  let s := s.at_ t
  if s.flt.stopped || s.get R.BOOT_STAT_STATUS ≠ 4 then .next s
  else
    let old := s.imageAt 0
    let n := s.copyWrites.length - 64
    let s := s.copied n
    let new := s.imageAt 0
    let s := { s with boot.fw := imageFw new, boot.secver := hdrSecver new }
    if !good then .next (s.halt 12 12 0)
    else match s.imageCheck new w with
      | .inl e => .next (s.halt 12 12 e.2)
      | .inr _ => { s.zeroStage with boot.copyDone := some (imageFw old, imageFw new, hdrSecver old, hdrSecver new) }.verify w

/-! ### Group G (18 R666; 08 R303, R316; 10 R381; 11 R409, R413) -/

/-- A window's engine (11 R416, Table 11.3); a source on another pair arrives in a cluster that nothing fixes at a start (log entry 59). -/
def State.startWindow (s : State) (v : List Byte) : State :=
  let r := winOfRec v
  let (c, s) := if s.ours r.src then (s.winCluster r.src r.h 0, s) else
    let (n, s) := s.fresh
    (n % 16, s)
  let w : Win := { z := r.z, x := r.x, y := r.y, from_ := s.headAt r.h s.now
                   buf := { src := evenForm r.src, crop := s.cropOf r, w := r.w, h := r.ht, engine := s.freeEngine c } }
  { s with mv.wins := put r.num w s.mv.wins }

/-- The delays of the image (08 Table 8.7). -/
def State.delayStart (s : State) : State :=
  s.dests.foldl (fun (s : State) i => s.setDst i { s.dst i with frames := (s.imageDelay i).1, lines := (s.imageDelay i).2 }) s

/-- The stores of the image: stills and safety layers are written, plane banks are transparent (08 R316; 11 R433, R435). -/
def State.storeStart (s : State) : State :=
  let s := (s.recs 0x0161).foldl (fun (s : State) r => s.loadStill (leAt r.val 0 2)) s
  (List.range 16).foldl (fun (s : State) h =>
    let s := (List.range (s.planes h)).foldl (fun (s : State) p => (s.bankClear (256 + 2 * h + p) 0).bankClear (256 + 2 * h + p) 1) s
    if s.hasSafety h then s.loadSafety h else s) s

/-- Group G is applied after every DRAM group serves. -/
def State.groupG (s : State) : State :=
  let s := s.audStart.headStart
  let s := (s.recs 0x0191).foldl (fun (s : State) r => s.startWindow r.val) s
  (s.delayStart.syncBobbins).storeStart

/-! ### The replay (18 R674, R675) -/

/-- What the journal held of a level across Strands is gone. -/
def State.dropFar (s : State) (dest : Nat) (lv : Level) : State :=
  let far : List (SEntry × Nat) := (s.boot.farLevels.zip s.boot.farPrio).filter (fun e => !(indexOfId e.1.dest = dest && e.1.levels = lv.mask))
  { s with boot.farLevels := far.map (·.1), boot.farPrio := far.map (·.2) }

/-- A level of a destination carries fill from the journal's replay on. -/
def State.levelFill (s : State) (dest : Nat) (lv : Level) (mode : TMode) (prio : Nat) : State :=
  (s.dropFar dest lv).applyEff (.level dest lv none mode false prio 0 0xFFFF)

/-- A level of the journal: admitted as a route of this pair, kept for the first close in control, or dropped with a resource code and chip. -/
def State.replayLevel (s : State) (dest : Nat) (lv : Level) (mode : TMode) (src : Option Nat) (prio : Nat) : State ⊕ (Nat × Nat) :=
  let s0 := s.dropFar dest lv
  let fill := s.levelFill dest lv mode prio
  if (s.dstRec dest).isNone then .inr (0, 0xFFFF)
  else match src with
    | none => .inl fill
    | some g =>
      if !s.ours g then
        let e : SEntry := ⟨s.gid dest, g, lv.mask, mode.code + 1, 0⟩
        .inl { fill with boot.farLevels := fill.boot.farLevels ++ [e], boot.farPrio := fill.boot.farPrio ++ [prio] }
      else
        let k := indexOfId g
        if (s.srcRec k).isNone || (lv = .video && s.formatBad k dest) then .inr (0, 0xFFFF)
        else
          let s' := s0.applyEff (.level dest lv (some k) mode (s.startBobbin dest (some k) mode) prio 0 0xFFFF)
          match s'.lacks with
          | none => .inl s'
          | some r => .inr (r, s.chip)

/-- A window of the journal. -/
def State.replayWindow (s : State) (v : List Byte) : State ⊕ (Nat × Nat) :=
  let r := winOfRec v
  if (s.headSrc r.h).isNone || (s.ours r.src && (s.srcRec (indexOfId r.src)).isNone) || s.winFormatBad r || s.winBad r then .inr (0, 0xFFFF)
  else if !s.ours r.src then .inr (4, pairOfGid r.src)
  else
    let s' := { s with mv.wins := drop r.num s.mv.wins }.startWindow v
    if (look r.num s'.mv.wins).any (fun w => w.buf.engine.isNone) then .inr (7, s.chip)
    else match s'.lacks with
      | none => .inl s'
      | some x => .inr (x, s.chip)

/-- A flow of the journal; one that cannot be placed keeps its image legs (18 R675). -/
def State.replayFlow (s : State) (i : Nat) (legs : List (List Byte)) : State ⊕ (Nat × Nat) :=
  if (s.flowIn i).isNone then .inr (0, 0xFFFF)
  else
    let ch := s.legChanges i (legs.map (fun v => (beAt v 0 1 - 1, v)))
    let (good, s') := s.flowInsert i ch
    if !good then .inl (s'.event (s.flow i).cluster 1 0x0104 (beBytes 2 i))
    else
      let s' := if (s'.flow i).joined then ch.foldl (fun (s : State) l => s.joinLeg l.2.1 l.2.2.1 l.2.2.2) s' else s'
      let x := ch.foldl (fun (x : InFlow) l => x.setLeg l.1 (fun g => { g with next := some l.2 })) (s'.flow i)
      .inl ((s'.setFlow i x).flowSwitch i)

/-- One item is admitted against the state that the items before it left, or dropped with a resource code and chip (18 R675). -/
def State.replayItem (s : State) (i : JItem) : State ⊕ (Nat × Nat) :=
  let fits (s' : State) : State ⊕ (Nat × Nat) := match s'.lacks with
    | none => .inl s'
    | some r => .inr (r, s.chip)
  match i with
  | .level dest lv mode src prio => s.replayLevel dest lv mode src prio
  | .delay dest f l =>
    if !(s.dstRec dest).any (fun v => f ≤ 127 && l < structLines (recFormat v)) then .inr (0, 0xFFFF)
    else fits (s.setDst dest { s.dst dest with frames := f, lines := l })
  | .achan out inp gain =>
    match placeOf s.outAddrs out with
    | some o => if s.noInput inp || !gainOk gain then .inr (0, 0xFFFF) else .inl (s.setOut o { s.outCh o with sel := inp, gain := gain })
    | none => .inr (0, 0xFFFF)
  | .bus b gain members =>
    if 1024 ≤ b || !gainOk gain || members.any (fun (m : Nat × Nat) => s.noInput m.1 || !gainOk m.2) || (s.busLow b && members.any (fun (m : Nat × Nat) => !s.lowInput m.1)) then
      .inr (0, 0xFFFF)
    else .inl (s.setBus b { s.abus b with gain := gain, members := members })
  | .aline n len =>
    match look n s.aud.lines with
    | some x => if 480000 < len then .inr (0, 0xFFFF) else fits { s with aud.lines := put n { x with len := len } s.aud.lines }
    | none => .inr (0, 0xFFFF)
  | .window v => s.replayWindow v
  | .windowClear h k => if (s.headSrc h).isNone then .inr (0, 0xFFFF) else .inl { s with mv.wins := drop (64 * h + k) s.mv.wins }
  | .order h o => if (s.headSrc h).isNone || !orderOk o then .inr (0, 0xFFFF) else .inl (s.setHead h { s.head h with order := o })
  | .flow f legs => s.replayFlow f legs

/-- An item is dropped: the level that it names carries fill (03 R113). -/
def State.itemDropped (s : State) (i : JItem) : State :=
  match i with
  | .level dest lv mode _ prio => if (s.dstRec dest).isSome then s.levelFill dest lv mode prio else s
  | _ => s

/-- ROUTE_NOT_RESTORED of an item that is dropped (20 Table 20.8), counted where a budget refuses it (03 R118). The fields that an item does not have are free (log entry 60). -/
def State.notRestored (s : State) (i : JItem) (res chip : Nat) : State :=
  let (a, s) := s.fresh
  let (b, s) := s.fresh
  let (dest, mask) : Nat × Nat := match i with
    | .level d lv _ _ _ => (evenForm (s.gid d), lv.mask)
    | .delay d _ _ => (evenForm (s.gid d), b % 256)
    | _ => (a % 2 ^ 32, b % 256)
  ((s.bump R.BOOT_NOT_RESTORED 1).bump (R.ADM_REFUSED res) (b2n (res ≠ 0))).event 34 1 0x0103 (beBytes 4 dest ++ beBytes 1 mask ++ beBytes 1 res ++ beBytes 2 chip)

/-- The journal is replayed (18 R674; 17 R624; 19 R697). -/
def State.replay (s : State) : State :=
  if s.has R.BOOT_STAT_NOR || !s.mayWrite s.journalSlot then s
  else match s.lastCkpt with
    | none => s
    | some (_, f, items, last) =>
      if f ≠ 1 then s.event 39 1 0x0706 (beBytes 1 f)
      else (items ++ s.ordinary (s.boot.jrecs.length + 1) (last + 1)).foldl (fun (s : State) i =>
        match s.replayItem i with
        | .inl s => s.bump R.BOOT_REPLAYED 1
        | .inr (r, c) => (s.itemDropped i).notRestored i r c) s

/-- 09 R337, R357; 18 R666, R674: the DRAM groups have trained; `failed` is a channel that did not. -/
def execDramTrainingDone (t : Time) (failed : Option (Fin 32)) (s : State) : Host.Outcome State Fault Refusal :=
  live t s fun s =>
    if s.get R.BOOT_STAT_STATUS ≠ 5 then s
    else match failed with
      | some c => (s.err (R.DG_ERR_TRAIN_FAIL (c / 4)) 4 { typ := 3, master := 0x40 + 24 + c / 4 } (stop := (14, 0))).report c
      | none =>
        let (key, s) := s.fresh
        let s := { s with dram.key := key }
        let s := (List.range 8).foldl (fun (s : State) g => (s.set (R.DG_STAT_STATE g) 2).set (R.DG_STAT_TRAINED g) 15) s
        let s := (s.tierMask.groupG.status 6 0).replay
        ((s.syncBobbins.syncMeters).syncJoins).status 7 0

/-! ### Serving (18 R679; 19 R693, R694, R698) -/

/-- The condition COPY_SKIPPED of BOOT. -/
def tagCopySkipped : Nat := 2 ^ 40

/-- The rollback counter is advanced by an image whose ROLLBACK flag is set (19 R698). -/
def State.rollback (s : State) : State :=
  if bit s.boot.flags 1 && s.keys.rbSteps < s.boot.secver then
    { s with keys.rbSteps := s.boot.secver }.event 35 1 0x070A (beBytes 1 s.keys.rbSteps ++ beBytes 1 s.boot.secver)
  else s

/-- What became of a staged image is logged (19 R693, R694). -/
def State.copyEvents (s : State) : State :=
  let s := match s.boot.copySkipped with
    | some d => { s with boot.copySkipped := none }.raise 39 2 0x0708 tagCopySkipped (beBytes 1 d)
    | none => s
  match s.boot.copyDone with
  | some (fo, fn, so, sn) =>
    { s with boot.copyDone := none }.event 39 1 0x0709 (beBytes 4 fo ++ beBytes 4 fn ++ beBytes 2 so ++ beBytes 2 sn)
  | none => s

/-- 18 R679, R680: replay is finished and WHL is ready; the chip serves and takes its role. -/
def execChipServes (t : Time) (s : State) : Host.Outcome State Fault Refusal :=
  live t s fun s =>
    if s.get R.BOOT_STAT_STATUS ≠ 7 || !s.whl.ready then s
    else
      let s := ({ s with boot.served := some s.up }.rollback.status 8 0).report 0
      s.copyEvents.pulseShow.roleFromOff

end Sys2Proof.Machine
end

