-- ==== Sys2Proof/Machine/Switching.lean ====
section
/-! DEFINITION. The Shuttle at a switching point: the frame that ends is emitted with its headers and its frame-sequence packet, pending takes and
delays are carried out, and what the next frame reads is chosen (02 R62 to R76; 04 R133 to R160; 05 R200 to R211; 06 R245 to R256; 08 R308 to
R314; 21 R746). -/

namespace Sys2Proof.Machine

/-! ### Pictures -/

/-- The bits of a sample of a sampling (02 Table 2.8), and whether it is 4:4:4. -/
def sampleWidth (x : Nat) : Nat := if x % 2 = 1 then 12 else 10
def fullChroma (x : Nat) : Bool := 2 ≤ x

/-- Sample `i` of fill in the order of the pixel groups (05 R209; log entry 56 for 4:4:4). -/
def fillSample (x i : Nat) : Nat :=
  let luma := if fullChroma x then i % 3 = 1 else i % 2 = 1
  (if luma then 0x40 else 0x200) * 2 ^ (sampleWidth x - 10)

/-- Byte `o` of a picture of fill (08 R315). -/
def fillByte (x o : Nat) : Nat :=
  let w := sampleWidth x
  (List.range 8).foldl (fun a j => 2 * a + fillSample x ((8 * o + j) / w) / 2 ^ (w - 1 - (8 * o + j) % w) % 2) 0

/-- Sample `i` of a still's bytes: what is not listed is fill (08 R315, R316). -/
def stillSample (m : List Host.Cell) (x i : Nat) : Nat :=
  let w := sampleWidth x
  (List.range w).foldl (fun a j =>
    let o := (i * w + j) / 8
    2 * a + ((look o m).map (·.toNat)).getD (fillByte x o) / 2 ^ (7 - (i * w + j) % 8) % 2) 0

/-- The luma samples that a probe reads of a still (21 R734). -/
def stillLuma (m : List Host.Cell) (format : Nat) : List Nat :=
  let x := fmtSampling format
  let (w, h) := (rasterW (fmtRaster format), rasterH (fmtRaster format))
  let per := if fullChroma x then 3 else 2
  (List.range (ceilDiv h 8)).flatMap (fun y => (List.range (ceilDiv w 8)).map (fun z =>
    stillSample m x (per * (8 * y * w + 8 * z) + 1) / 2 ^ (sampleWidth x - 10)))

/-- The CRC-32C of an active picture of samples (05 Table 5.6; an SDI signal has 4:2:2 10-bit samples). -/
def pictureCrc (format : Nat) (sample : Nat → Nat) : Nat :=
  crc32c ((List.range ((if fullChroma (fmtSampling format) then 3 else 2) * rasterW (fmtRaster format) * rasterH (fmtRaster format))).flatMap (fun i => leBytes 2 (sample i)))

/-- The picture of a bank of a still: fill without the valid mark (08 R302). -/
def State.stillPic (s : State) (num bank : Nat) : Pic :=
  let format := ((s.stillRec num).map (fun v => leAt v 2 2)).getD 0
  let m := s.bankBytes num bank
  if !(s.banks num).valid bank then .fill else .pic (pictureCrc format (stillSample m (fmtSampling format))) (stillLuma m format)

/-- PREV_CRC of a picture (05 Table 5.6). -/
def Pic.crc (p : Pic) (format : Nat) : Nat := match p with
  | .fill => pictureCrc format (fillSample 0)
  | .pic c _ => c

/-! ### Losses (03 R94) -/

/-- Is a connection one that brings a level of a source to a destination? -/
def ConnKey.brings (c : ConnKey) (k : Nat) (lv : Level) : Bool := match c with
  | .read x l _ _ => x = k && l = lv
  | .still x _ => x = k && lv = .video
  | _ => c.carries k lv

/-- The marks on frame `n` of a level on its way to cluster `c` (03 R94). -/
def State.marksAt (s : State) (c k : Nat) (lv : Level) (n : Nat) : List LostMark :=
  s.xp.lostMarks.filter (fun m => m.isl = c && m.frame = n % 65536 && m.key.brings k lv)

/-- Were cells of a level of a destination lost in frame `n` on their way to its cluster (03 R94)? -/
def State.lostAt (s : State) (c k : Nat) (lv : Level) (n : Nat) : Bool := s.marksAt c k lv n ≠ []

/-- The marks on a ring frame of a level on its way into the bobbins. -/
def State.marksIn (s : State) (k : Nat) (lv : Level) (sl : Slot) : List LostMark :=
  s.xp.lostMarks.filter (fun m => 24 ≤ m.isl && m.isl < 32 && m.key.carries k lv && m.frame = sl.count % 65536)

/-- Were cells of a ring frame lost on their way to its bobbin? -/
def State.lostIn (s : State) (k : Nat) (lv : Level) (sl : Slot) : Bool := sl.lost || s.marksIn k lv sl ≠ []

/-- The places in their frame of the cells that some marks count, where all of them are known and the frame's cells follow one another by 240 bytes: those of an SDI
source, a still or a head. The cells of a flow are those of its packets, whose sizes the model does not hold. -/
def State.goneCells (s : State) (k : Nat) (l : List LostMark) : Option (List Nat) :=
  if (s.keyKind k = 1 || s.keyKind k = 2) || l.any (fun m => m.cells ≠ m.idx.length) then none else some (l.flatMap (·.idx)).eraseDups

/-- The ancillary packets, of some with their sizes in order, that lie in none of some cells of their connection (03 R94). -/
def keptAnc (cells : List Nat) : Nat → List (Nat × Anc) → List (Nat × Anc)
  | _, [] => []
  | o, a :: l =>
    let e := o + ancBytes a.2
    let hit := cells.any (fun i => 240 * i < e && o < 240 * (i + 1))
    (if hit then [] else [a]) ++ keptAnc cells e l

/-- The packets of a frame of a flow of `pkt` bytes of samples that hold bytes of some of its cells (03 R94; 06 R245): the samples lie in the cells in raster order, and in
the packets field by field. -/
def packetsHit (format pkt : Nat) (cells : List Nat) : Nat :=
  let fields := if fmtScan format = 0 then 1 else 2
  let line := rasterW (fmtRaster format) * samplingBits (fmtSampling format) / 8
  let per := ceilDiv (line * (rasterH (fmtRaster format) / fields)) pkt
  let of_ (o : Nat) : List Nat :=
    let y := o / max 1 line
    if rasterH (fmtRaster format) ≤ y then [] else [y % fields * per + (y / fields * line + o % max 1 line) / max 1 pkt]
  ((cells.flatMap (fun i => (List.range 240).flatMap (fun j => of_ (240 * i + j)))).eraseDups).length

/-! ### The frame that ends -/

/-- What the VIDEO level gave in a frame: its picture, whether that is fill, the members in underrun, whether it is paced (06 R255), whether some of its
data were lost, the bytes of its codestream where it has one, and the places of the lost cells where they are known. -/
structure Shot where
  pic : Pic
  fill : Bool
  under : List Nat
  paced : Bool
  lost : Bool
  size : Nat
  gone : Option (List Nat) := none
deriving DecidableEq, Repr

/-- A frame as emitted: what the VIDEO level gave, the ancillary packets of the ANC level, how many of those its data lost, whether that level carried fill, and the
members of both in underrun. -/
structure Frame where
  shot : Shot
  anc : List Anc
  ancLost : Nat
  ancFill : Bool
  under : List Nat
deriving DecidableEq, Repr

/-- A shot of fill. -/
def fillShot (under : List Nat) (paced : Bool) : Shot := ⟨.fill, true, under, paced, false, 0, none⟩

/-- A shot of which some samples are not the source's: those of lost cells, which at an SDI destination the samples of the previous line replace (03 R94), or
those of a lane that repeats or carries fill beside others that do not (02 R68). The model holds no samples, so the picture is a free value (log entry 82). -/
def State.mixedShot (s : State) (format : Nat) (under : List Nat) (paced lost : Bool) (size : Nat) (gone : Option (List Nat)) : Shot × State :=
  let (p, s) := s.freePic format
  (⟨p, false, under, paced, lost, size, gone⟩, s)

/-- What a frame of a source's ring gives. A member that repeats by itself leaves a picture of two frames (02 R68), which is the same picture where it is shown
again. -/
def State.ringShot (s : State) (c format n : Nat) (d : DstSt) (k num : Nat) : Shot × State :=
  match s.slotOf k num with
  | some sl =>
    if s.lostIn k .video sl || s.lostAt c k .video n || d.abandoned then
      s.mixedShot format d.under true true sl.size (if sl.lost || d.abandoned then none else s.goneCells k (s.marksIn k .video sl ++ s.marksAt c k .video n))
    else if d.v.mixed then
      match d.v.again, d.prevPic with
      | true, some p => (⟨p, false, d.under, true, false, sl.size, none⟩, s)
      | _, _ => s.mixedShot format d.under true false sl.size none
    else (⟨sl.pic, false, d.under, true, false, sl.size, none⟩, s)
  | none => (fillShot d.under true, s)

/-- The members of a level in a frame on the direct path whose data were missing after it had begun to leave (06 R236). -/
def State.holesOf (s : State) (k : Nat) (lv : Level) (f : Option SrcFrame) (bad : List Nat) : List Nat :=
  (s.memberNums k lv).filter (fun j => !bad.contains j && ((f.map (·.members)).getD []).any (fun m => m.num = j && m.hole))

/-- What a frame of a source gives on the direct path (04 Table 4.8; 06 R236). Cells reach a cluster only while it is a target of their connection (03
R96). The frames of a still or head come aligned, and an output of them is paced (06 R255). -/
def State.directShot (s : State) (c format n : Nat) (d : DstSt) (k rate : Nat) : Shot × State :=
  let f := if s.mediaReaches k .video c then s.directFrame k rate n else none
  let paced := s.keyKind k = 3 || s.keyKind k = 4
  let mine := s.memberNums k .video
  let bad := s.directBad d k .video f
  let holes := s.holesOf k .video f bad
  match f with
  | some x =>
    let marks := s.marksAt c k .video n
    let gone := if holes = [] then s.goneCells k marks else none
    if mine.all bad.contains then (fillShot bad paced, s)
    else if bad ≠ [] then s.mixedShot format (bad ++ holes) paced (holes ≠ [] || marks ≠ []) x.size gone
    else if holes ≠ [] || marks ≠ [] then s.mixedShot format holes paced true x.size gone
    else (⟨x.pic, false, [], paced, false, x.size, none⟩, s)
  | none => (fillShot mine paced, s)

/-- What the VIDEO level of a destination gave in its frame `n`. -/
def State.videoOf (s : State) (dest : Nat) (d : DstSt) (n : Nat) : Shot × State :=
  let c := s.dstCluster dest
  let format := ((s.dstRec dest).map recFormat).getD 0
  let whole (p : Pic) : Shot := ⟨p, p = .fill, [], true, false, 0, none⟩
  let marks := match d.video.src with
    | some k => s.marksAt c k .video n
    | none => []
  let gone := d.video.src.bind (fun k => s.goneCells k marks)
  match d.ovr, d.cap with
  | some _, some p => (⟨p, false, [], true, false, 0, none⟩, s)
  | _, cap =>
    match d.v.car with
    | .fill => (fillShot (if d.video.src.isSome then d.under else []) true, s)
    | .still i b => if marks ≠ [] || (s.banks i).spoilt.contains b then s.mixedShot format [] true true 0 gone else (whole (cap.getD .fill), s)
    | .ring k num => s.ringShot c format n d k num
    | .direct k =>
      match cap with
      | some p => if !s.mediaReaches k .video c then (fillShot [] true, s)
        else if marks ≠ [] then s.mixedShot format [] true true 0 gone
        else (⟨p, false, [], true, false, 0, none⟩, s)
      | none => s.directShot c format n d k (s.dstRate dest)

/-- The packets of an ANC level that the data lost of a frame leave, and how many they take (03 R94): those that lie in none of the lost cells, or, where these are not
known, some of them. -/
def State.ancLeft (s : State) (l : List (Nat × Anc)) (lost : Bool) (gone : Option (List Nat)) : (List Anc × Nat) × State :=
  match lost, gone with
  | false, _ => ((l.map (·.2), 0), s)
  | true, some cells =>
    let left := keptAnc cells 0 l
    ((left.map (·.2), l.length - left.length), s)
  | true, none =>
    let left := (l.zipIdx.filter (fun x => Config.freeNat (s.free + x.2) % 2 = 0)).map (·.1.2)
    let left := if left.length = l.length then left.drop 1 else left
    ((left, l.length - left.length), { s with free := s.free + l.length })

/-- The members of a level that are not whole in a ring frame (02 R66, Table 2.5). -/
def State.ringBad (s : State) (d : DstSt) (k : Nat) (lv : Level) (sl : Slot) : List Nat :=
  let mine := s.memberNums k lv
  let under := sl.under.filter (fun j => !s.audioNum k j) ++ (if d.audio.src = some k then d.audBad else [])
  if s.locked k && (s.takenNums d k).any under.contains then mine else mine.filter under.contains

/-- The packets of a ring frame of an ANC level: a member that is not whole repeats by itself, with the packets of its latest whole frame before (02 R68). -/
def State.ringAnc (s : State) (k : Nat) (sl : Slot) (bad : List Nat) : List (Nat × Anc) :=
  let before (j : Nat) : List (Nat × Anc) :=
    (((((s.ring k).map (·.slots)).getD []).filter (fun y => y.frame < sl.frame && !y.under.contains j)).getLast?).map (fun y => y.anc.filter (fun a => a.1 = j)) |>.getD []
  sl.anc.filter (fun a => !bad.contains a.1) ++ bad.flatMap before

/-- What the ANC level gave: packets, how many were lost, fill, members in underrun. Packets with lost bytes are not emitted (03 R94); a member of several that carries fill
gives none (02 R68). -/
def State.ancOf (s : State) (dest : Nat) (d : DstSt) (n : Nat) : (List Anc × Nat × Bool × List Nat) × State :=
  let c := s.dstCluster dest
  match d.x.car with
  | .ring k num =>
    match s.slotOf k num with
    | some sl =>
      let marks := s.marksIn k .anc sl ++ s.marksAt c k .anc n
      let l := if d.x.mixed then s.ringAnc k sl (s.ringBad d k .anc sl) else sl.anc
      let ((l, lost), s) := s.ancLeft l (sl.lost || marks ≠ []) (if sl.lost then none else s.goneCells k marks)
      ((l, lost, false, []), s)
    | none => (([], 0, true, []), s)
  | .direct k =>
    let f := if s.mediaReaches k .anc c then s.directFrame k (s.dstRate dest) n else none
    let bad := s.directBad d k .anc f
    let holes := s.holesOf k .anc f bad
    match f with
    | some x =>
      if s.memberNums k .anc ≠ [] && (s.memberNums k .anc).all bad.contains then (([], 0, true, bad), s)
      else
        let marks := s.marksAt c k .anc n
        let ((l, lost), s) := s.ancLeft (x.anc.filter (fun a => !bad.contains a.1)) (marks ≠ [] || holes ≠ []) (if holes = [] then s.goneCells k marks else none)
        ((l, lost, false, bad ++ holes), s)
    | none => (([], 0, true, s.memberNums k .anc), s)
  | _ => (([], 0, true, []), s)

/-- Was the VIDEO source outside the window in frame `n` (04 R152, Table 4.19)? -/
def State.unalignedIn (s : State) (dest : Nat) (d : DstSt) (n : Nat) : Bool :=
  match d.video.src with
  | none => false
  | some k =>
    if s.keyKind k = 3 || s.keyKind k = 4 then false
    else
      !(s.directFrame k (s.dstRate dest) n).any (fun f => f.all_ (s.classNums k) (·.inWin))

/-! ### The frame-sequence packet (05 R204 to R206) -/

/-- HEALTH (05 Table 5.6; 14 R540, R542). -/
def State.health (s : State) : Nat :=
  if s.dbl.role = .yielded || s.hasF3 then 2 else if 2 ≤ s.get R.FLT_WORD_HI_CLASS then 1 else 0

/-- The user data bytes of the frame-sequence packet of frame `n` with its FLAGS and PREV_CRC (05 Table 5.6). -/
def State.fseq (s : State) (n flags crc : Nat) : List Byte :=
  beBytes 1 1 ++ beBytes 1 flags ++ beBytes 2 (s.pair * 2) ++ beBytes 6 (n % 2 ^ 48) ++ beBytes 4 crc ++ beBytes 2 0

/-- FLAGS of a frame of an SDI destination (05 Table 5.6). -/
def State.fseqFlags (s : State) (fill again under ovr : Bool) : Nat :=
  b2n s.dbl.side + 2 * s.health + 8 * b2n fill + 16 * b2n again + 32 * b2n under + 64 * b2n ovr

/-- SDI_TX record of a destination (05 Table 5.11); every default without one. -/
def State.sdiTx (s : State) (dest : Nat) : List Byte := (s.recOf 0x0131 0 2 dest).getD []

/-- The frame-sequence packet of frame `n` (05 R204 to R206): in the Y data stream of line 9 from the first word after SAV on, or with that position. -/
def State.fseqPacket (s : State) (n flags crc : Nat) : AncOut :=
  ⟨9, 0, false, ancWords s.fseqId.1 s.fseqId.2 ((s.fseq n flags crc).map (fun b => parityWord b.toNat))⟩

/-- Is override content on a destination: of EVAC_VIDEO, or an EVAC_AUDIO announcement on a slot of it (21 R746; 05 Table 5.6)? -/
def State.ovrShown (s : State) (dest : Nat) (d : DstSt) : Bool :=
  d.ovr.isSome || s.outAddrs.zipIdx.any (fun x => adKind x.1 = 0 && adId x.1 = s.gid dest && (s.outCh x.2).evac)

/-- The packets of the ANC level as an SDI destination places them, beside its own frame-sequence packet and on the lines of its structure, and the number dropped (05
R203, R204). DESIGN CHOICE (log entry 83): lines 1 to 6 are kept free of
the source's packets (04 R142) in a frame in which the ANC level switches, and not where only another level does. -/
def State.ancPlace (s : State) (dest : Nat) (cut : Bool) (l : List Anc) : List AncOut × Nat :=
  let format := ((s.dstRec dest).map recFormat).getD 0
  let ok := l.filter (fun a => !(cut && 1 ≤ a.line && a.line ≤ 6))
  let space (line : Nat) (c : Bool) : List (Nat × Nat) :=
    if 1 ≤ line && line ≤ structLines format then Config.ancSpace format (s.dstSlots dest) line c else []
  let (at_, k) := placeAll space format (if bit (byteAt (s.sdiTx dest) 2) 2 then [] else [(9, false, 0, 23)]) ok
  (at_, l.length - ok.length + k)

/-- The lanes of an SDI destination: link or sub-image, division and payload identifier (05 R180, R183, R184, R202). -/
def State.lanesOut (s : State) (dest : Nat) (v : List Byte) : List LaneOut :=
  let format := recFormat v
  let x := byteAt (s.sdiTx dest) 2
  let sqd := recGroup v = 2 && bit x 1
  let lines := if fmtScan format = 0 then [10] else [10, 572]
  (recLanes v).zipIdx.map (fun l =>
    let lrate := s.txRate l.1
    let level := if lrate / 2 = 1 then 1 + b2n (bit x 0) else 0
    let link := if recGroup v = 0 then 0 else l.2 + 1
    let (taps, inv) := s.cTaps l.1
    ⟨l.1, taps, inv, lrate, level, link, sqd, Config.payloadId format lrate level sqd link, lines⟩)

/-- The audio groups that an SDI destination embeds: those with a channel below its SLOTS; the others of its channels are inactive (05 R200, R201). -/
def State.groupsOut (s : State) (dest : Nat) (v : List Byte) : List GroupOut :=
  let n := recSlots v
  (List.range (ceilDiv n 4)).map (fun g =>
    let slots := (List.range 4).map (· + 4 * g)
    ⟨g + 1, slots.map (· < n),
      slots.map (fun j => (csBlock (j < n && s.outNon (adOfSlot (s.gid dest) j))).flatMap (leBytes 1))⟩)

/-- The lines without audio packets: the line after each switching line (05 R200). -/
def quietLines (format : Nat) : List Nat := if fmtRaster format ≠ 1 && fmtScan format = 1 then [8, 570] else [8]

/-- An SDI destination emits its frame `n` (05 R200 to R205, R209). -/
def State.emitSdi (s : State) (dest n : Nat) (v : List Byte) (d : DstSt) (f : Frame) : State :=
  let off := bit (byteAt (s.sdiTx dest) 2) 2
  let again := d.v.again && d.ovr.isNone && d.prevPic.isSome
  let crc := (d.prevPic.map (fun p => p.crc (recFormat v))).getD 0
  let own := if off then [] else [s.fseqPacket n (s.fseqFlags f.shot.fill again (!f.under.isEmpty) (s.ovrShown dest d)) crc]
  let (anc, dropped) := s.ancPlace dest d.cut f.anc
  let lanes := recLanes v
  let s := lanes.foldl (fun (s : State) l =>
    ((s.bump (R.TX_FRAMES l) 1).set (R.TX_STAT_FILL l) (b2n f.shot.fill)).set (R.TX_STAT_REPEAT l) (b2n again)) s
  let s := s.bump (R.TX_ANC_PLACE (recBind v)) dropped
  let s := if off then s else { s with wide := put (R.TX_FSEQ_LO (recBind v)).addr (n % 2 ^ 48) s.wide }
  s.emit (.frame dest n f.shot.pic (s.lanesOut dest v) (s.groupsOut dest v) (quietLines (recFormat v)) (own ++ anc))

/-! ### Egress packets (04 R155 to R160; 06 R245 to R256) -/

/-- The bytes of an ancillary packet in RFC 8331: 32 bits of position, ten bits for each word from DID to the checksum, whole 32-bit words (log
entry 57). -/
def rtpAncBytes (a : AncOut) : Nat := 4 * ceilDiv (32 + 10 * a.words.length) 32

/-- Ancillary packets in order into RTP packets of at most `room` bytes (06 R249), and the packets skipped; the first RTP packet is there without any. -/
def packAnc (room : Nat) : List AncOut → List (List AncOut) → Nat → List (List AncOut) × Nat
  | [], done, skipped => (if done = [] then [[]] else done, skipped)
  | a :: l, done, skipped =>
    if room < rtpAncBytes a then packAnc room l done (skipped + 1)
    else match done.getLast? with
      | some x => if total ((a :: x).map rtpAncBytes) ≤ room then packAnc room l (done.dropLast ++ [x ++ [a]]) skipped else packAnc room l (done ++ [[a]]) skipped
      | none => packAnc room l [[a]] skipped

/-- The RTP time stamp of frame `n` at 90 kHz (04 R159). -/
def stampOf (rate n : Nat) : Nat := n * rateDen rate * 90000 / max 1 (rateNum rate) % 2 ^ 32

/-- The next sequence number of an ST 2110-22 or ST 2110-40 flow (04 R158). -/
def State.flowSeq (s : State) (v : List Byte) : Nat := lookD (leAt v 0 2) s.xp.seqCtr (leAt v 12 4 % 2 ^ 16)

/-- Packets of such a flow leave: they take the next numbers of its counter. -/
def State.countSeq (s : State) (v : List Byte) (b : Batch) : State :=
  let q := s.flowSeq v
  let s := { s with xp.seqCtr := put (leAt v 0 2) ((q + b.count) % 2 ^ 16) s.xp.seqCtr }
  (s.emitPkts v { b with first := q }).set (R.EF_LAST_ESN (egressCluster v) (leAt v 0 2)) ((q + b.count + 65535) % 2 ^ 16)

/-- TYPE of a flow as measured with a frame (06 R239): that of the record for a paced frame; on a direct path what the source's timing makes of it, which is a
free value. -/
def State.typeOut (s : State) (v : List Byte) (paced : Bool) : State :=
  let fld := R.EF_TYPE (egressCluster v) (leAt v 0 2)
  if s.emitted v = [] then s.set fld 3
  else if paced then s.set fld (b2n (bit (byteAt v 3) 2))
  else let (x, s) := s.fresh; s.set fld (x % 4)

/-- The instant from which a paced frame leaves: the transmit offset of TROdefault, the switching window and 30 µs (04 R141; 06 R255). On a direct path each
packet follows the data that it carries (06 R256). -/
def State.leaveAt (s : State) (format n : Nat) (paced : Bool) : Option Time :=
  if paced then some (alignPoint (fmtRate format) n + Config.tro format + s.window + 30000) else none

/-- Of `p` packets of a frame, those withheld because their payload would include lost bytes (03 R94): those that `hit` gives for the lost cells, or at least one, a free
value, where the model does not know the cells. -/
def State.withheld (s : State) (x : Shot) (p : Nat) (hit : List Nat → Nat) : Nat × State :=
  match x.lost, x.gone with
  | false, _ => (0, s)
  | true, some cells => (hit cells, s)
  | true, none => let (y, s) := s.fresh; (min p (1 + y % max 1 p), s)

/-- An ST 2110-20 flow emits frame `n` (04 R156; 06 R245). -/
def State.emitVideo (s : State) (format n : Nat) (x : Shot) (v : List Byte) : State :=
  let (c, e) := (egressCluster v, leAt v 0 2)
  let (octets, p) := videoBytes format (orDef (leAt v 16 2) 1200)
  let esn := (leAt v 12 4 + n * p) % 2 ^ 32
  let (lost, s) := s.withheld x p (packetsHit format (orDef (leAt v 16 2) 1200))
  let s := s.emitPkts v {
    first := esn, count := p, withheld := lost, octets := octets - octets / max 1 p * lost, stamp := stampOf (fmtRate format) n
    marker := true, load := .video (bit (byteAt v 3) 1) lost, leaves := s.leaveAt format n x.paced }
  let s := (s.bump (R.EF_SKIPPED c e) lost).bump (R.EF_FILL_FRAMES c e) (b2n x.fill)
  (s.set (R.EF_LAST_ESN c e) ((esn + p + 2 ^ 32 - 1) % 2 ^ 32)).typeOut v x.paced

/-- An ST 2110-22 flow emits frame `n`: its codestream in packets of PKT_BYTES (06 R250). The bytes of a codestream that did not come to its end are a free
value. -/
def State.emitXs (s : State) (format n : Nat) (x : Shot) (v : List Byte) : State :=
  let (c, e) := (egressCluster v, leAt v 0 2)
  let pkt := orDef (leAt v 16 2) 1200
  let (size, s) := if x.fill then (Config.fillStream format (leAt v 24 8), s)
    else if x.size = 0 then let (y, s) := s.fresh; (y % 2 ^ 26, s)
    else (x.size, s)
  let p := max 1 (ceilDiv size pkt)
  let (lost, s) := s.withheld x p (fun _ => 1)
  let octets := size + 4 * p
  let s := (s.bump (R.EF_FILL_FRAMES c e) (b2n x.fill)).bump (R.EF_SKIPPED c e) lost
  (s.countSeq v {
    first := 0, count := p, withheld := lost, octets := octets - octets / p * lost, stamp := stampOf (fmtRate format) n
    marker := true, load := .jpegXs lost (xsHeads p), leaves := s.leaveAt format n x.paced }).typeOut v x.paced

/-- An ST 2110-40 flow emits frame `n` (06 R249); the frame-sequence packet comes first in the destination's first such flow (05 R206). -/
def State.emitAnc (s : State) (format n : Nat) (f : Frame) (first : Bool) (v : List Byte) : State :=
  let (c, e) := (egressCluster v, leAt v 0 2)
  let own := if first then [s.fseqPacket n 0 0] else []
  let (packets, skipped) := packAnc (orDef (leAt v 16 2) 1200) (own ++ f.anc.map Anc.out) [] 0
  let s := (s.bump (R.EF_SKIPPED c e) (skipped + f.ancLost)).bump (R.EF_FILL_FRAMES c e) (b2n f.ancFill)
  s.countSeq v {
    first := 0, count := packets.length, octets := total (packets.map (fun l => 8 + total (l.map rtpAncBytes))), stamp := stampOf (fmtRate format) n
    marker := true, load := .anc packets, leaves := s.leaveAt format n f.shot.paced }

/-- A flow of an ST 2110 or ST 2110-22 destination emits its frame `n` (`first`: its destination's first ST 2110-40 flow). -/
def State.emitFlow (s : State) (format n : Nat) (f : Frame) (first : Bool) (v : List Byte) : State :=
  match byteAt v 2 with
  | 0 => s.emitVideo format n f.shot v
  | 1 => s.emitXs format n f.shot v
  | 4 => s.emitAnc format n f first v
  | _ => s

/-- An ST 2110 or ST 2110-22 destination emits its frame `n`. -/
def State.emitIp (s : State) (dest n : Nat) (v : List Byte) (f : Frame) : State :=
  let flows := (recFlows v).filterMap s.flowOut
  let first := (flows.find? (fun w => byteAt w 2 = 4)).map (fun w => leAt w 0 2)
  let s := flows.foldl (fun (s : State) w => s.emitFlow (recFormat v) n f (first = some (leAt w 0 2)) w) s
  s.emit (.frame dest n f.shot.pic [] [] [] ((if first.isSome then [s.fseqPacket n 0 0] else []) ++ f.anc.map Anc.out))

/-- Frame `n` of a destination is emitted whole, as the destination stood in it, and counted and measured (02 R63; 21 R734). -/
def State.finish (s : State) (dest n : Nat) (v : List Byte) (d : DstSt) : State :=
  let (shot, s) := s.videoOf dest d n
  let ((anc, ancLost, ancFill, ancUnder), s) := s.ancOf dest d n
  let audio := match d.audio.src with
    | some k => s.audioFills dest d k
    | none => []
  let all := (shot.under ++ ancUnder ++ audio).eraseDups
  let f : Frame := ⟨shot, anc, ancLost, ancFill, all⟩
  let un := s.unalignedIn dest d n
  let c := s.dstCluster dest
  let s := if c < 16 then s.bump (R.SHT_UNDERRUN c) (b2n (!all.isEmpty || d.abandoned)) else s
  let s := if recKind v = 0 then s.emitSdi dest n v d f else s.emitIp dest n v f
  let s := if fmtRaster (recFormat v) = 0 then s else s.measure true dest (shot.pic.samples (recFormat v))
  if (s.dst dest).live then s.setDst dest { s.dst dest with filled := shot.fill, prevPic := some shot.pic, under := if (s.dst dest).frame = n then all else (s.dst dest).under, unaligned := un }
  else s

/-- Are data of frame `n` of a source's level still to come: is a frame of one of its flows that belongs to it in assembly (06 R235)? -/
def State.coming (s : State) (k n : Nat) (lv : Level) : Bool :=
  !isFar k && (s.memberNums k lv).any (fun j =>
    (((s.srcRec k).map recFlows).getD [])[j]?.any (fun g => (s.flow g).frames.any (fun f => f.nums.contains (k, n))))

/-- Does a destination owe the frame in which it stood so: a level of it on the direct path, whose packets leave after the data that they carry (06 R256), so that the
frame is built once those have come, by the same rules on both chips of the pair (01 R44)? -/
def State.owes (s : State) (dest : Nat) (d : DstSt) : Bool :=
  let one (x : Shown) (lv : Level) : Bool := match x.car with
    | .direct k => (s.directFrame k (s.dstRate dest) d.frame).any (fun f => s.coming k f.frame lv)
    | _ => false
  (d.ovr.isNone && one d.v .video) || one d.x .anc

/-- The data of an owed frame that have not come when its successor ends are missing in it (06 R236). -/
def State.cutShort (s : State) (dest : Nat) (d : DstSt) : State :=
  [(d.v, Level.video), (d.x, .anc)].foldl (fun (s : State) (x : Shown × Level) => match x.1.car with
    | .direct k => match s.directFrame k (s.dstRate dest) d.frame with
      | some f => (s.memberNums k x.2).foldl (fun (s : State) j =>
          if (((s.srcRec k).map recFlows).getD [])[j]?.any (fun g => (s.flow g).frames.any (fun y => y.nums.contains (k, f.frame))) then
            s.amendAt k f.frame (fun y => y.member j (fun m => { m with hole := true }))
          else s) s
      | none => s
    | _ => s) s

/-- An owed frame is emitted, where its destination still emits. -/
def State.pay (s : State) (dest : Nat) : State :=
  match look dest s.xp.owed, s.dstRec dest with
  | some d, some v =>
    let s := { s with xp.owed := drop dest s.xp.owed }
    if (s.dst dest).live then (if s.owes dest d then s.cutShort dest d else s).finish dest d.frame v d else s
  | _, _ => s

/-- The owed frames whose data have come are emitted. -/
def State.payAll (s : State) : State :=
  s.xp.owed.foldl (fun (s : State) x => if s.owes x.1 x.2 then s else s.pay x.1) s

/-- The frame that a destination ends is emitted, or owed. -/
def State.endFrame (s : State) (dest : Nat) (v : List Byte) : State :=
  let s := s.pay dest
  let d := s.dst dest
  if !d.live then s
  else if s.owes dest d then { s with xp.owed := put dest d s.xp.owed } else s.finish dest d.frame v d

/-! ### Takes at the switching point (04 R135, R136, R146, R148, R171, R809) -/

/-- The ring of a source is written from the first switching point of a SYNCED or CATCH route, and has a read connection of the destination's
delay (04 R145; 08 R308). -/
def State.openRead (s : State) (k f l : Nat) (prev : Option Nat) : State :=
  match s.ring k with
  | none => s
  | some r =>
    let r := { r with written := true }
    if (r.read f l).isSome then s.setRing k r
    else s.setRing k { r with reads := r.reads ++ [{ frames := f, lines := l, prev := prev }] }

/-- The ring of a source that no SYNCED or CATCH route or pending take names any more is no longer written (04 R145). -/
def State.closeWrite (s : State) (k : Nat) : State :=
  let uses (x : LevelSt) : Bool := (x.src = some k && x.mode ≠ .direct) || x.pend.any (fun p => p.src = some k && p.mode ≠ .direct)
  if s.xp.dst.any (fun d => uses d.2.video || uses d.2.anc) then s
  else match s.ring k with
    | some r => s.setRing k { r with written := false }
    | none => s

/-- What a level keeps for a repeat when it begins a bobbin path: the frame shown last, where it came from a ring or a still (04 R146). -/
def Shown.begin_ (x : Shown) : Shown :=
  { x with last := none, kept := match x.car with
      | .ring k n => some (.ring k n)
      | .still n b => some (.still n b)
      | _ => none }

/-- Change what a level shows. -/
def DstSt.setShown (d : DstSt) (lv : Level) (f : Shown → Shown) : DstSt := match lv with
  | .video => { d with v := f d.v }
  | .anc => { d with x := f d.x }
  | .audio => d

/-- A take of one level is carried out at the boundary `a`. DESIGN CHOICE (log entry 83): the frame counts as a switching frame of ancillary data (04 R142) where
the ANC level switches. -/
def State.switchLevel (s : State) (dest : Nat) (lv : Level) (a : Time) (p : PTake) : State :=
  let d := s.dst dest
  let old := (d.level lv).src
  let x : LevelSt := { d.level lv with
    src := p.src, mode := p.mode, bobbin := p.bobbin, prio := p.prio, princ := p.princ, via := p.via, pathDue := none
    pend := (d.level lv).pend.filter (fun q => !(q = p)) }
  let d := (d.setLevel lv x).setShown lv (fun y => if p.bobbin then y.begin_ else { y with last := none, kept := none })
  let s := s.setDst dest (if lv = .anc then { d with cut := true } else d)
  let s := match lv, p.src with
    | .audio, some k => s.audioTake dest p.order p.salvo.isSome a (s.keyGid k) (s.keySlots k)
    | .audio, none => s.audioTake dest p.order p.salvo.isSome a 0 0
    | _, some k => if p.mode = TMode.direct then s else s.openRead k d.frames d.lines none
    | _, none => s
  let s := match old with
    | some k => if lv = Level.audio then s else s.closeWrite k
    | none => s
  s.journalAdd (.level dest lv p.mode (p.src.map s.keyGid) p.prio)

/-- The takes due at a switching point at `a`: the armed are carried out, one that is not armed at its own point is late (04 R809). One that names the level's source
and mode changes nothing (R148). Answers what was switched: the place in the order, the level's bit and the source. -/
def State.switchDue (s : State) (dest : Nat) (a : Time) : List (Nat × Nat × Option Nat) × State :=
  let c := s.dstCluster dest
  let may : Bool := (match s.dbl.role with
    | .active => true | .solo => true | .standby => true | _ => false) && s.dbl.settleEnd.isNone
  [Level.video, .audio, .anc].foldl (fun (acc : List (Nat × Nat × Option Nat) × State) lv =>
    let due := ((acc.2.dst dest).level lv).pend.filter (fun p => p.due ≤ a)
    due.foldl (fun (acc : List (Nat × Nat × Option Nat) × State) p =>
      let x := (acc.2.dst dest).level lv
      if p.armed && p.src = x.src && p.mode = x.mode then (acc.1, acc.2.onLevel dest lv (fun y => { y with pend := y.pend.filter (fun q => !(q = p)) }))
      else if p.armed then (acc.1 ++ [(p.order, lv.mask, p.src)], acc.2.switchLevel dest lv a p)
      else if may && s.samePoint dest p.due a then (acc.1, acc.2.err (R.SHT_ERR_LATE c) 3 { typ := 3, master := 0x40 + c })
      else acc) acc) ([], s)

/-- SWITCH of each take, with the levels it changed (20 Table 20.8). -/
def State.switchEvents (s : State) (dest : Nat) (l : List (Nat × Nat × Option Nat)) : State :=
  let c := s.dstCluster dest
  let s := s.bump (R.SHT_SWITCHES c) l.length
  ((l.map (·.1)).eraseDups).foldl (fun (s : State) o =>
    let mine := l.filter (fun x => x.1 = o)
    s.event c 0 0x0100 (beBytes 4 (evenForm (s.gid dest)) ++ beBytes 1 (total (mine.map (·.2.1)))
      ++ beBytes 4 (s.shownSrc ((mine.head?).bind (·.2.2))))) s

/-- A change of delay at its switching point (08 R314): a new read connection takes the frame shown last as its previous selection. -/
def State.switchDelay (s : State) (dest : Nat) (a : Time) : State :=
  let d := s.dst dest
  match d.pendDelay with
  | some (f, l, due) =>
    if a < due then s
    else
      let s := s.setDst dest { d with frames := f, lines := l, pendDelay := none }
      let s := [(d.video, d.v), (d.anc, d.x)].foldl (fun (s : State) (y : LevelSt × Shown) =>
        match y.1.src with
        | some k =>
          let prev := match y.2.last with
            | some (j, n) => if j = k then some n else none
            | none => none
          if y.1.mode = .direct then s else s.openRead k f l prev
        | none => s) s
      s.journalAdd (.delay dest f l)
  | none => s

/-- A change of CATCH path at its boundary (04 R147, Table 4.2). -/
def State.switchPath (s : State) (dest : Nat) (a : Time) : State :=
  let c := s.dstCluster dest
  [Level.video, .audio, .anc].foldl (fun (s : State) lv =>
    let x := (s.dst dest).level lv
    match x.pathDue with
    | some (b, due) =>
      if a < due then s
      else
        let s := s.onLevel dest lv (fun x => { x with bobbin := b, pathDue := none })
        if x.bobbin = b then s
        else
          let s := s.setDst dest ((s.dst dest).setShown lv (fun y => { y with last := none, kept := none }))
          s.bump (if b then R.SHT_CATCH_TO_BOBBIN c else R.SHT_CATCH_TO_DIRECT c) 1
    | none => s) s

/-! ### What the next frame reads -/

/-- Has the measured format of a routed source stopped matching its destination (02 R62)? A flow that has had a frame and measures no format has (06 R237), and
a lane whose structure changed while it ran, until it runs again, and a group of lanes that all run without giving one format (05 R190). DEDUCED (log entry 102): a
lane that lost its signal underruns instead (05 R211). -/
def State.mismatch (s : State) (k dest : Nat) : Bool :=
  if fmtRaster (s.keyFormat k) = 0 then true
  else if s.keyKind k = 3 || s.keyKind k = 4 then false
  else if isFar k then s.formatBad k dest
  else if s.keyKind k = 0 then
    let lanes := ((s.srcRec k).map recLanes).getD []
    lanes.any (fun l => (s.rx l).changed) || (lanes.all (fun l => s.rxState l = 4) && s.groupFormat lanes = 0) || s.formatBad k dest
  else
    let zero := ((s.keyFlows k).find? flowVideo).any (fun v => s.get (R.IF_STAT_FORMAT (flowCluster v) (leAt v 0 2)) = 0)
    (zero && (look k s.xp.srcFrames).isSome) || s.formatBad k dest

/-- Can a carry still be read? -/
def State.holdsCarry (s : State) : Carry → Bool
  | .ring k n => (s.slotOf k n).isSome
  | .still n b => (s.banks n).shown = b
  | _ => false

/-- What a level on a bobbin path shows where it repeats: the frame shown last, the kept frame, or fill (02 R68; 04 R146). -/
def State.repeated (s : State) (k : Nat) (x : Shown) : Shown :=
  let x := { x with mixed := false }
  let fill : Shown := { x with car := .fill, again := false }
  match x.last with
  | some (j, n) => if j = k && (s.slotOf k n).isSome then { x with car := .ring k n, again := true } else fill
  | none => match x.kept with
    | some c => if s.holdsCarry c then { x with car := c, again := true } else { fill with kept := none }
    | none => fill

/-- What a level on a bobbin path shows: the frame that the read connection selects, of those that came since its source's format last matched (08 Table 8.5); where a member of it is not whole, that member repeats, and every one does
under LOCKED (02 R68, R69; 08 R308). Nothing is read where the destination's cluster `c` is no target of the read (03 R96). Answers it with the members in
underrun. -/
def State.ringShown (s : State) (c : Nat) (d : DstSt) (k : Nat) (lv : Level) (x : Shown) : Shown × List Nat :=
  let reached := s.hasTarget (· = .read k lv d.frames d.lines) c
  let slot := (((s.ring k).bind (fun r => r.read d.frames d.lines)).bind (fun c => c.prev.bind (s.slotOf k))).filter (fun sl => x.floor ≤ sl.arrival)
  let mine := s.memberNums k lv
  match slot with
  | some sl =>
    let bad := s.ringBad d k lv sl
    if !reached then ({ x with car := .fill, again := false, mixed := false }, mine)
    else if d.abandoned || (bad ≠ [] && mine.all bad.contains) then (s.repeated k x, if bad = [] then mine else bad)
    else
      let same : Bool := match x.car with
        | .ring j n => j = k && n = sl.frame
        | .direct j => j = k && (look k s.xp.srcFrames).any (fun f => f.arrival = sl.arrival)
        | _ => false
      ({ car := .ring k sl.frame, again := same, mixed := bad ≠ [], floor := x.floor, last := if bad = [] then some (k, sl.frame) else x.last, kept := none }, bad)
  | none => (s.repeated k x, mine)

/-- The read connection of a destination's delay selects for its frame `n` (08 R308). -/
def State.readNext (s : State) (k dest n : Nat) : State :=
  let d := s.dst dest
  (s.openRead k d.frames d.lines none).selectFrame k (s.dstRate dest) (structLines (((s.dstRec dest).map recFormat).getD 0)) n d.frames d.lines

/-- What a level of a destination reads in its frame `n` (04 Tables 4.8, 4.9, R149). A still of another pair is read on its own chip and comes aligned
(13 R510). While a CATCH level is on its direct path its read connection keeps selecting (08 Table 8.5). -/
def State.choose (s : State) (dest n : Nat) (lv : Level) (y : LevelSt) (x : Shown) : Shown × List Nat × State :=
  let d := s.dst dest
  let c := s.dstCluster dest
  let fill : Shown := { x with car := .fill, again := false, mixed := false }
  match y.src with
  | none => (fill, [], s)
  | some k =>
    if lv = .video && s.mismatch k dest then ({ fill with last := none, kept := none, floor := s.now }, [], s)
    else if s.keyKind k = 3 then
      if lv ≠ .video then (fill, [], s)
      else if isFar k then ({ car := .direct k }, [], s)
      else if !s.hasTarget (· = .still k (s.dstRate dest)) c then (fill, [], s)
      else
        let num := ((s.srcRec k).map recBind).getD 0
        ({ car := .still num (s.banks num).shown }, [], s.stillRead num (s.dstRate dest) n)
    else if y.bobbin then
      let s := s.readNext k dest n
      let (x, bad) := s.ringShown c d k lv x
      (x, bad, s)
    else ({ car := .direct k }, [], if y.mode = .direct || (s.ring k).isNone then s else s.readNext k dest n)

/-- The picture that is fixed at the start of a frame: the override's head, a head source on the direct path, a still. -/
def State.capture_ (s : State) (d : DstSt) : Option Pic :=
  match d.ovr with
  | some h => some (s.head h).pic
  | none =>
    match d.v.car with
    | .still n b => some (s.stillPic n b)
    | .direct k => if !isFar k && s.keyKind k = 4 then some (s.head (((s.srcRec k).map recBind).getD 0)).pic else none
    | _ => none

/-- The source and ring frame that the VIDEO level shows through a bobbin, as the matched slots follow it (10 R383), with the frames skipped since
the frame shown before. -/
def State.shownFrame (s : State) (old new : Shown) : Option (Nat × Time × Bool × Nat) :=
  match new.car with
  | .ring k n =>
    (s.slotOf k n).map (fun sl =>
      let skipped := match old.car with
        | .ring j p => if j = k then ((((s.ring k).map (·.slots)).getD []).filter (fun y => p < y.frame && y.frame < n)).length else 0
        | _ => 0
      (k, sl.arrival, new.again, skipped))
  | _ => none

/-! ### Quiet or emitting (04 Table 4.10; 05 R209; 06 R254; 14 Table 14.2, R540) -/

/-- Is the whole path of a level in place? -/
def Shown.inPlace (x : Shown) (y : LevelSt) : Bool := y.src.isNone || !y.bobbin || x.car ≠ .fill

/-- Does a destination emit its frame that begins at `a`? -/
def State.emits (s : State) (d : DstSt) (a : Time) : Bool := s.mayEmit d.live (d.v.inPlace d.video && d.x.inPlace d.anc) a

/-- A destination emits or is quiet from now on. -/
def State.setLive (s : State) (dest : Nat) (v : List Byte) (live : Bool) : State :=
  let d := s.dst dest
  let s := s.setDst dest { d with live := live, wasLive := d.live, prevPic := if live then d.prevPic else none }
  if recKind v = 0 then (recLanes v).foldl (fun (s : State) l => s.set (R.TX_STAT_QUIET l) (b2n (!live))) s
  else ((recFlows v).filterMap s.flowOut).foldl (fun (s : State) w => s.flowQuiet w live) s

/-! ### The switching point -/

/-- 04 R136: the switching point of frame `n` of a destination, at `a`. -/
def State.switch (s : State) (dest n : Nat) (a : Time) (v : List Byte) : State :=
  let s := s.endFrame dest v
  let s := s.setDst dest { s.dst dest with cut := false }
  let (done, s) := s.switchDue dest a
  let s := s.switchEvents dest done
  let s := ((s.switchDelay dest a).switchPath dest a).flipDest dest
  let bad := match (s.dst dest).audio.src with
    | some k => s.audioBad k (frameCount (s.dstRate dest) (n - 1))
    | none => []
  let s := s.setDst dest { s.dst dest with audBad := bad }
  let (nv, badV, s) := s.choose dest n .video (s.dst dest).video (s.dst dest).v
  let (nx, badX, s) := s.choose dest n .anc (s.dst dest).anc (s.dst dest).x
  let on := s.evacAt a
  let d := s.dst dest
  let shown := s.shownFrame d.v nv
  let d := { d with v := nv, x := nx, frame := n, abandoned := false, ovr := if on then s.evacVideo dest else none
                    under := badV ++ badX.filter (fun j => !badV.contains j) }
  let s := s.setDst dest { d with cap := s.capture_ d }
  let s := (s.evacSlots dest on).matchSlots dest n shown
  (s.setLive dest v (s.emits (s.dst dest) a)).tallies

/-- 04 R136, R154: the alignment point of a destination's rate. A destination whose cluster is being reset is re-armed later (R178). -/
def execSwitchingPoint (t : Time) (dest : Fin 1024) (s : State) : Host.Outcome State Fault Refusal :=
  served t s fun s =>
    match s.dstRec dest with
    | none => s
    | some v =>
      let rate := fmtRate (recFormat v)
      let n := frameAt rate s.now
      if n = (s.dst dest).frame || s.has (rstNow (s.dstCluster dest)) then s else s.switch dest n (alignPoint rate n) v

end Sys2Proof.Machine
end

