-- ==== Sys2Proof/Machine/Compose.lean ====
section
/-! DEFINITION. The composition of a head's picture, pixel by pixel: the look-up tables, the layers in their order, the blending, and the samples that
leave (11 R426 to R437). -/

namespace Sys2Proof.Machine

/-! ### Look-up tables and blending (11 R428, R429) -/

/-- Three components of a pixel. -/
structure Rgb where
  r : Nat
  g : Nat
  b : Nat
deriving DecidableEq, Repr

/-- The same function of every component. -/
def Rgb.map (f : Nat → Nat) (p : Rgb) : Rgb := ⟨f p.r, f p.g, f p.b⟩

/-- A graphics pixel (11 R432): its alpha and its components. -/
structure Argb where
  a : Nat
  rgb : Rgb
deriving DecidableEq, Repr

/-- A graphics pixel of a 32-bit word (11 R432). -/
def argbOf (w : Nat) : Argb := ⟨bits w 31 24, ⟨bits w 23 16, bits w 15 8, bits w 7 0⟩⟩

/-- Entry `i` of table `t` of a head (11 R429): 0 video input, 1 graphics input, 2 output. Of several records that set it the last in the image stands. -/
def State.lut (s : State) (h t i : Nat) : Nat :=
  let set : Option Nat := (s.recs 0x0193).reverse.findSome? (fun r =>
    let first := leAt r.val 2 2
    if byteAt r.val 0 = h && byteAt r.val 1 = t && first ≤ i && i < first + leAt r.val 4 2 then some (leAt r.val (8 + 2 * (i - first)) 2) else none)
  match set with
  | some x => if t = 2 then x % 4096 else x
  | none => if t = 0 then (2 * i * 65535 + 4095) / 8190 else if t = 1 then i * 257 else i

/-- out = (src × α + dst × (255 − α) + 127) // 255 (11 R428). -/
def blendOne (a src dst : Nat) : Nat := (src * a + dst * (255 - a) + 127) / 255

/-- A pixel of a layer over what lies below it, component by component. -/
def blend (a : Nat) (src dst : Rgb) : Rgb := ⟨blendOne a src.r dst.r, blendOne a src.g dst.g, blendOne a src.b dst.b⟩

/-- MATRIX of a head: 0 BT.709, 1 BT.2020 (11 Table 11.8). -/
def State.matrix (s : State) (h : Nat) : Nat := bits (byteAt (s.headRec h) 1) 4 4

/-- A video pixel at 12 bits through the head's matrix and the video input table. -/
def State.videoRgb (s : State) (h y cb cr : Nat) : Rgb :=
  let p := Config.toRgb (s.matrix h) y cb cr
  (Rgb.mk p.1 p.2.1 p.2.2).map (s.lut h 0)

/-- A graphics pixel over what lies below it. -/
def State.graphicsOver (s : State) (h : Nat) (p : Argb) (dst : Rgb) : Rgb := blend p.a (p.rgb.map (s.lut h 1)) dst

/-! ### Layers (11 Table 11.6) -/

/-- The background (11 Table 11.8, BG). -/
def State.background (s : State) (h : Nat) : Rgb :=
  let w := leAt (s.headRec h) 4 4
  let (y, cb, cr) : Nat × Nat × Nat := if w = 0 then (0x40, 0x200, 0x200) else (bits w 9 0, bits w 19 10, bits w 29 20)
  s.videoRgb h (4 * y) (4 * cb) (4 * cr)

/-- The windows of a head that show a frame, lowest Z first; of two with equal Z the lower number lies below (11 Table 11.6). -/
def State.winStack (s : State) (h : Nat) : List (Nat × Win) :=
  sortBy (fun a b => a.2.z < b.2.z || (a.2.z = b.2.z && a.1 ≤ b.1)) (s.mv.wins.filter (fun w => w.1 / 64 = h && !w.2.noSignal))

/-- The pixel of a window at a place of its head; none outside its rectangle and while it is transparent. -/
def State.winPixel (s : State) (h : Nat) (w : Win) (x y : Nat) : Option Rgb :=
  if x < w.x || w.x + w.buf.w ≤ x || y < w.y || w.y + w.buf.h ≤ y then none
  else (w.buf.frames.find? (fun f => w.shown = some f.1)).map (fun f =>
    let p := Config.windowPixel f.2.2 (x - w.x) (y - w.y)
    s.videoRgb h p.1 p.2.1 p.2.2)

/-- The windows over what lies below them: each is opaque in its rectangle. -/
def State.windowsOver (s : State) (h x y : Nat) (dst : Rgb) : Rgb := (s.winStack h).foldl (fun d w => (s.winPixel h w.2 x y).getD d) dst

/-- The colour of pixel `i` of a bar of length `l`, by its level of −60 + 60 × (i + 1) / l dBFS, or of the hold value's pixel (11 R431); `v` is its METER
record. -/
def meterColour (v : List Byte) (l i : Nat) (bar : Nat × Nat) : Nat :=
  let mid := orDef (byteAt v 4) 18
  let atLeast (db : Nat) : Bool := 60 * l ≤ 60 * (i + 1) + db * l
  if i < bar.1 || i + 1 = bar.2 then
    (if atLeast (byteAt v 5) then leAt v 16 4 else if atLeast mid then leAt v 12 4 else leAt v 8 4)
  else leAt v 20 4

/-- The bars of a head: each with its METER record and the offset of its entry. -/
def State.barRecs (s : State) (h : Nat) : List (List Byte × Nat) :=
  ((s.recs 0x0192).filter (fun r => byteAt r.val 0 = h)).flatMap (fun r => (List.range (leAt r.val 2 2)).map (fun i => (r.val, 24 + 16 * i)))

/-- The pixel of a bar at a place of its head. DEDUCED (log entry 88): the −60 dBFS end of a vertical bar is its lowest line, that of a horizontal one its first
column. -/
def barPixel (v : List Byte) (o x y : Nat) (bar : Nat × Nat) : Option Argb :=
  let (bx, by_, w, ht) := (leAt v o 2, leAt v (o + 2) 2, leAt v (o + 4) 2, leAt v (o + 6) 2)
  if x < bx || bx + w ≤ x || y < by_ || by_ + ht ≤ y then none
  else
    let across := bit (byteAt v (o + 12)) 1
    let l := if across then w else ht
    let i := if across then x - bx else by_ + ht - 1 - y
    some (argbOf (meterColour v l i bar))

/-- The meters over what lies below them, in image order. -/
def State.metersOver (s : State) (h x y : Nat) (dst : Rgb) : Rgb :=
  ((s.barRecs h).zip (s.meterView h)).foldl (fun d m => match barPixel m.1.1 m.1.2 x y m.2 with
    | some p => s.graphicsOver h p d
    | none => d) dst

/-- A pixel of a bank of graphics pixels (11 R432): what is not listed is 0, which is transparent. -/
def bankPixel (m : List Host.Cell) (width x y : Nat) : Argb :=
  let o := 4 * (y * width + x)
  argbOf (total ((List.range 4).map (fun i => ((look (o + i) m).map (·.toNat)).getD 0 * 256 ^ i)))

/-- A plane over what lies below it: its shown bank, or nothing without its valid mark (08 R325). -/
def State.planeOver (s : State) (h p x y : Nat) (dst : Rgb) : Rgb :=
  let k := 256 + 2 * h + p
  let b := s.banks k
  if p < s.planes h && b.valid b.shown then s.graphicsOver h (bankPixel (s.bankBytes k b.shown) (rasterW (fmtRaster (s.headFormat h))) x y) dst else dst

/-- The safety layer while it is raised: its bank, or SAFE_COLOUR over the whole raster while that does not hold the image's content (11 R436, R437). -/
def State.safetyOver (s : State) (h x y : Nat) (dst : Rgb) : Rgb :=
  if !(s.head h).safety then dst
  else if s.safeReady h then s.graphicsOver h (bankPixel (lookD (1024 + h) s.bob.bytes []) (rasterW (fmtRaster (s.headFormat h))) x y) dst
  else s.graphicsOver h { argbOf (leAt (s.headRec h) 8 4) with a := 255 } dst

/-- One of the four classes that ORDER places (11 R427). -/
def State.classOver (s : State) (h x y : Nat) (dst : Rgb) (c : Nat) : Rgb :=
  if c = 0 then s.windowsOver h x y dst else if c = 1 then s.metersOver h x y dst else s.planeOver h (c - 2) x y dst

/-- A pixel of a head after the output table, at 12 bits (11 R426 to R428). -/
def State.headRgb (s : State) (h x y : Nat) : Rgb :=
  let o := (s.head h).order
  let mid := [o % 4, o / 4 % 4, o / 16 % 4, o / 64 % 4].foldl (s.classOver h x y) (s.background h)
  (s.safetyOver h x y mid).map (fun v => s.lut h 2 (v / 16))

/-! ### The samples that leave (11 R428 step 5) -/

/-- A component in its range: Y from 0x040 to 0x3AC, Cb and Cr to 0x3C0 at 10 bits, four times these at 12. -/
def clipCode (wide : Bool) (top v : Nat) : Nat := let m := if wide then 4 else 1; max (0x40 * m) (min (top * m) v)

/-- Y', Cb and Cr of a pixel at the head's bit depth. -/
def State.headYcc (s : State) (h x y : Nat) : Nat × Nat × Nat :=
  let width := sampleWidth (fmtSampling (s.headFormat h))
  let wide : Bool := width = 12
  let p := s.headRgb h x y
  let q := Config.fromRgb (s.matrix h) width p.r p.g p.b
  (clipCode wide 0x3AC q.1, clipCode wide 0x3C0 q.2.1, clipCode wide 0x3C0 q.2.2)

/-- A chroma component at a co-sited pixel of line `y` after the filter [1 2 1] / 4 over the line; the rounding of the quarter, and the neighbour that the first
and the last pixel lack, are not stated (log entry 38). -/
def chromaAt (width : Nat) (c : Nat → Nat) (x : Nat) : Nat :=
  let edge := Config.edgeChroma (c x)
  Config.quarter ((if x = 0 then edge else c (x - 1)) + 2 * c x + (if x + 1 < width then c (x + 1) else edge))

/-- Sample `i` of a head's picture in the order of the pixel groups. -/
def State.headSample (s : State) (h i : Nat) : Nat :=
  let f := s.headFormat h
  let w := rasterW (fmtRaster f)
  if fullChroma (fmtSampling f) then
    let (x, y) := (i / 3 % w, i / 3 / w)
    let p := s.headYcc h x y
    if i % 3 = 0 then p.2.1 else if i % 3 = 1 then p.1 else p.2.2
  else
    let (j, y) := (i % (2 * w), i / (2 * w))
    let x := 2 * (j / 4)
    if j % 4 = 0 then chromaAt w (fun x => (s.headYcc h x y).2.1) x
    else if j % 4 = 2 then chromaAt w (fun x => (s.headYcc h x y).2.2) x
    else (s.headYcc h (x + j % 4 / 2) y).1

/-- The picture of a head (11 R428): its CRC-32C, and the luma samples of the video probes. -/
def State.composed (s : State) (h : Nat) : Pic :=
  let f := s.headFormat h
  let (w, ht) := (rasterW (fmtRaster f), rasterH (fmtRaster f))
  .pic (pictureCrc f (s.headSample h)) ((List.range (ceilDiv ht 8)).flatMap (fun y => (List.range (ceilDiv w 8)).map (fun x =>
    (s.headYcc h (8 * x) (8 * y)).1 / 2 ^ (sampleWidth (fmtSampling f) - 10))))

end Sys2Proof.Machine
end

