-- ==== Sys2Proof/Machine/Strands.lean ====
section
/-! DEFINITION. What the chip sends by Strands of its own sources, and the commands that bring their frames and samples: received SDI frames and
Ethernet frames, head frames and audio ticks (13 R503, R508 to R511). -/

namespace Sys2Proof.Machine

/-! ### Frames of own sources that leave by Strands (13 R503, R508 to R510) -/

/-- The frame of a source that leaves by a Strand: its latest whole frame, or of a still the frame of the rate of its readers. -/
def State.frameNow (s : State) (k rate : Nat) : Option SrcFrame :=
  if s.keyKind k = 3 then
    let num := ((s.srcRec k).map recBind).getD 0
    let n := frameAt rate s.now
    some { frame := n, arrival := alignPoint rate n, members := [], pic := s.stillPic num (s.banks num).shown, anc := [] }
  else (look k s.xp.srcFrames).filter (fun (f : SrcFrame) => f.pic ≠ .fill && (s.classNums k).all (fun j => f.members.any (fun m => m.num = j)))

/-- ALIGNED of a frame (13 R509): it lies in [A_n, A_n + W − Λ], offset by TRO for an ST 2110 source, with W of the destination's chips and Λ of the
route's path. A still is aligned (R510). Routes that share a Strand connection share the flag, which holds where every one of them has it (log entry
48). -/
def State.alignedFor (s : State) (k dest : Nat) (f : SrcFrame) : Bool :=
  s.keyKind k = 3 ||
    (match s.mediaPath s.chip (pairOfGid dest + b2n s.dbl.side) with
      | some w => s.keyKind k = 4 ||
        (f.all_ (s.classNums k) (·.inWin) && inSpan (alignPoint (s.srcRate k) f.frame + s.srcTro k) f.arrival (s.windowOf dest - w.cost))
      | none => false)

/-- The rate at which a source's frames leave by a Strand for a destination: its own, or of a still the destination's (08 R318; 13 R510). -/
def State.sendRate (s : State) (k dest : Nat) : Nat := if s.keyKind k = 3 then fmtRate (Config.farSource (evenForm dest) 1) else s.srcRate k

/-- Do the cells of a source's level reach the cluster of a Strand (03 R96)? -/
def State.reachesStrand (s : State) (p k : Nat) (lv : Level) (rate : Nat) : Bool :=
  if s.keyKind k = 3 then s.hasTarget (· = .still k rate) (p / 16) else s.mediaReaches k lv (p / 16)

/-- The frame of a source's level at a rate leaves by a Strand, once. Its format is the one measured here (log entry 40). -/
def State.strandSend (s : State) (p k : Nat) (lv : Level) (rate : Nat) : State :=
  let mine := s.skn.routes.filter (fun r => r.item.inPort = 0xFFFF && r.item.outPort = p && r.from_ ≤ s.now &&
    (srcOpt r.item.e.src).map s.srcKey = some k && s.sendRate k r.item.e.dest = rate && (levelsOf r.item.e.levels).contains lv)
  match (if mine = [] || !s.reachesStrand p k lv rate then none else s.frameNow k rate) with
  | none => s
  | some f =>
    let name := (p, k, lv, rate)
    if (s.skn.sent.find? (fun (x : (Nat × Nat × Level × Nat) × Nat) => x.1 = name)).any (fun (x : (Nat × Nat × Level × Nat) × Nat) => x.2 = f.frame) then s
    else
      let s := { s with skn.sent := s.skn.sent.filter (fun (x : (Nat × Nat × Level × Nat) × Nat) => x.1 ≠ name) ++ [(name, f.frame)] }
      let (crc, luma) : Nat × List Nat := match f.pic with
        | .pic c l => (c, l)
        | .fill => (Pic.fill.crc (s.keyFormat k), Pic.fill.samples (s.keyFormat k))
      s.sendMedia p { src := s.keyGid k, lv := lv, aligned := mine.all (fun r => s.alignedFor k r.item.e.dest f), format := s.takenFormat k, rate := rate, crc := crc,
                      luma := luma, size := f.size, anc := if lv = Level.anc then f.anc.map (fun (a : Nat × Anc) => a.2) else [] }

/-- Every frame that is to leave by a Strand. -/
def State.strandSends (s : State) : State :=
  let uses := (s.skn.routes.filter (fun r => r.item.inPort = 0xFFFF && r.item.outPort < 256 && s.strandState r.item.outPort = 4)).flatMap (fun r =>
    match srcOpt r.item.e.src with
    | some g => ((levelsOf r.item.e.levels).filter (· ≠ .audio)).map (fun lv => (r.item.outPort, s.srcKey g, lv, s.sendRate (s.srcKey g) r.item.e.dest))
    | none => [])
  uses.eraseDups.foldl (fun (s : State) u => s.strandSend u.1 u.2.1 u.2.2.1 u.2.2.2) s

/-! ### Samples of own sources that leave by Strands (13 R511) -/

/-- The six samples of each slot of a source leave by a Strand, oldest first; 60 samples fill the cell of a MEDIA unit (03 Table 3.2). -/
def State.slotsSend (s : State) (q p k : Nat) : State :=
  let addrs := s.inAddrs
  let n := s.keySlots k
  let s := (List.range (if s.xp.targets.any (fun x => x.2 = p / 16 && (match x.1 with
      | .audioIn _ j => j = k
      | _ => false)) then n else 0)).foldl (fun (s : State) j => match placeOf addrs (adOfSlot (s.gid k) j) with
    | some i => s.emit (.mediaSlots p (s.keyGid k) j ((s.inCh i).hist.take 6).reverse)
    | none => s) s
  let s := s.strandRun p
  let x := s.strand p
  s.setStrand p { x with waitM := x.waitM + (q * n / 60 - (q - 6) * n / 60) }

/-- The samples of every source that a route's AUDIO level brings to another pair. -/
def State.slotSends (s : State) (q : Nat) : State :=
  let uses := (s.skn.routes.filter (fun r => r.item.inPort = 0xFFFF && r.item.outPort < 256 && r.from_ ≤ s.now && s.strandState r.item.outPort = 4
    && (levelsOf r.item.e.levels).contains .audio)).filterMap (fun r => (srcOpt r.item.e.src).map (fun g => (r.item.outPort, s.srcKey g)))
  uses.eraseDups.foldl (fun (s : State) u => s.slotsSend q u.1 u.2) s

/-! ### Commands -/

/-- 05 R193: a frame is received on a lane in FRAMING or RUNNING. The step stands at the arrival of the EAV of the frame's line 1
(log entry 21). -/
def execSdiFrameReceived (t : Time) (lane : Fin 256) (f : SdiFrame) (s : State) : Host.Outcome State Fault Refusal :=
  released t s fun s =>
    if s.rxState lane = 3 || s.rxState lane = 4 then
      match s.rxSource lane with
      | some (v, _) => (s.sdiFrame lane f v).strandSends
      | none => s
    else s

/-- 06 R221: a received Ethernet frame passes the MAC's checks and the stages of the flow filter. An UP port receives; what the PCS
counted with the frame is added first (07 R266 to R268). -/
def execEthFrameRx (t : Time) (p : Fin 258) (f : EthFrame) (s : State) : Host.Outcome State Fault Refusal :=
  released t s fun s =>
    if s.portState p ≠ 3 || s.portKind p ≠ 1 then s
    else
      let s := ((s.beArrive).phyCounts p f.fecCor f.fecUnc f.blockErr).pausesEnd p
      match s.macFault p f with
      | some c => s.bump c 1
      | none =>
        let s := (s.bump (R.PORT_RX_FRAMES p) 1).bump64 (R.PORT_RX_OCTETS_LO p) f.len
        match f.body with
        | .pause _ => s.pauseFrame p f.body
        | .pfc _ => s.pauseFrame p f.body
        | _ =>
          if 256 ≤ p.val then s.mgmtFrame p f
          else if s.stage2 p f then s.control p f
          else (s.flowFilter p f).payAll.strandSends

/-- 06 R233: 8 µs after the arrival that revealed them, the missing numbers are holes, and the frames that destinations owe for them leave. -/
def execMergeHoleTimeout (t : Time) (flow : Fin 8192) (s : State) : Host.Outcome State Fault Refusal :=
  released t s fun s => if s.has (rstNow (s.flow flow).cluster) then s else (s.expireHoles flow).payAll

/-- 06 R233: a leg has delivered no packet for 10 ms. A flow with no leg up has no frames (R237). -/
def execLegDown (t : Time) (flow : Fin 8192) (leg : Fin 2) (s : State) : Host.Outcome State Fault Refusal :=
  released t s fun s =>
    let x := s.flow flow
    match x.legs[leg.val]? with
    | some l =>
      if x.joined && !s.has (rstNow x.cluster) && !l.down && l.lastRx + 10 * ms ≤ s.up then
        let cur := s.curChecks flow
        let s := s.setFlow flow (x.setLeg leg (fun l => { l with down := true }))
        let s := if (s.flow flow).legs.all (·.down) then (s.flowAbandon flow).flowStops flow else s
        (s.flowChecks flow cur).payAll
      else s
    | none => s

/-- 11 R411, R422, R426, R430, R436: 100 µs before the alignment point of head frame n its content is fixed, and the frame is composed. Where a window has
lost cells or the composer's memory failed, which samples are the layers' is free (log entry 82). -/
def execHeadFrameSelect (t : Time) (h : Fin 16) (s : State) : Host.Outcome State Fault Refusal :=
  released t s fun s =>
    let rate := s.headRate h
    let n := frameAt rate (s.now + 100000)
    let a := alignPoint rate n
    let x := s.head h
    if (s.headSrc h).isNone || !x.on || a < x.from_ || x.lastFrame.any (n ≤ ·) || s.has (rstNow h) then s
    else
      let s := s.mv.wins.foldl (fun s w => if w.1 / 64 = h.val then s.winFrame w.1 w.2 a else s) s
      let s := match x.orderPend with
        | some (o, at_) => if at_ ≤ a then s.setHead h { x with order := o, orderPend := none } else s
        | none => s
      let s := s.setHead h { s.head h with safety := s.evacHead h && s.hasSafety h && s.evacAt a, lastFrame := some n }
      let s := (s.meterFrame h).headReads h n
      let lost := s.mv.wins.any (fun w => w.1 / 64 = h && s.winMarked w.1 w.2 ≠ 0)
      let spoilt := (List.range (s.planes h)).any (fun p => let b := s.banks (256 + 2 * h + p); b.spoilt.contains b.shown)
      let (pic, s) := if lost || spoilt || (look (64 + h) s.flt.hurt).isSome then { s with flt.hurt := drop (64 + h) s.flt.hurt }.freePic (s.headFormat h)
        else (s.composed h, s)
      let s := s.setHead h { s.head h with pic := pic }
      ((((s.bump (R.HD_FRAMES h) 1).winShow h).headShow h).enginesShow.headEmit h a).strandSends

/-- 10 R363, R369: an audio tick. The stills that other pairs read leave frame by frame with it (13 R510), and best-effort frames whose cells have come. -/
def execAudioTick (t : Time) (sdi : List (Nat × Nat × List (List (Option Int)))) (far : List (Nat × List Int)) (s : State) :
    Host.Outcome State Fault Refusal :=
  released t s fun s =>
    let q := countAt s.now / 6 * 6
    if q ≤ s.aud.count then s else (((s.audioTick sdi far).slotSends q).strandSends).beArrive

end Sys2Proof.Machine
end

