-- ==== Sys2Proof/Machine/House.lean ====
section
/-! DEFINITION. The house frame boundary, and the target sets of connections (02 R79; 03 R97; 04 R144; 08 R317; 11 R434; 12 R454, R457; 14 R540,
R551, R552; 21 R749). -/

namespace Sys2Proof.Machine

/-! ### Fences (08 R317; 11 R434) -/

/-- The hidden bank of a still or plane becomes the shown bank; plane flips are counted. -/
def State.flipBank (s : State) (k : Nat) : State :=
  let b := s.banks k
  let s := s.setBanks k { b with shown := 1 - b.shown, dirty := false, fence := false, flipAt := none }
  if k < 256 then s else s.bump (R.HD_FLIPS ((k - 256) / 2)) 1

/-- Every fence whose instant has come. -/
def State.flipBanks (s : State) : State :=
  (s.bob.banks.filter (fun b => b.2.flipAt.any (· ≤ s.now))).foldl (fun (s : State) b => s.flipBank b.1) s

/-! ### What a close gave an instant -/

/-- TIME_REF and a held offset that the holder decided take effect (12 R454, R457). Automatic selection begins with the first qualified reference of
PRIO (DEDUCED from R453's first sentence: log entry 89). -/
def State.timeDue (s : State) : State :=
  let s := match s.whl.pendRef with
    | some (code, at_) => if s.now < at_ then s else 
      let s := { s with whl.forced := code, whl.pendRef := none }
      if code.isNone then s.switchRef s.firstRef else s.reselect
    | none => s
  let s := match s.whl.pendHeld with
    | some (phi, at_) => if s.now < at_ then s else { s with whl.held := phi, whl.pendHeld := none }
    | none => s
  s.whlShow

/-- EVAC_CLEAR takes effect (21 R749). -/
def State.clearDue (s : State) : State :=
  match s.probe.clearAt with
  | some (at_, princ) => if s.now < at_ then s else { s with probe.clearAt := none }.evacCleared princ
  | none => s

/-- A swap takes effect (14 R551). -/
def State.swapDue (s : State) : State := if s.dbl.swapPend.any (· ≤ s.now) then s.swapInstant else s

/-- Free egress audio flows emit or are quiet (06 R254; 14 Table 14.2). -/
def State.freeQuiet (s : State) : State :=
  (s.freeFlows 0x0142 0x0102).foldl (fun (s : State) v =>
    let c := egressCluster v
    s.flowQuiet v (!s.has (rstNow c) && s.mayEmit (!s.has (R.EF_QUIET c (leAt v 0 2))) true s.now)) s

/-- PAIR_RESTART of this chip: it restarts, and its next start follows (14 R552; log entry 61). -/
def State.restartDue (s : State) : State :=
  match s.dbl.restart with
  | some (c, at_) => if s.now < at_ then s else if c = s.chip then s.fallen else { s with dbl.restart := none }
  | none => s

/-- The standby takes the active chip's h from the boundary that ends the cycle of their copy (08 R311). -/
def State.hystDue (s : State) : State :=
  let (due, rest) := s.bob.hyst.partition (fun x => x.1 ≤ s.now)
  { s with bob.hyst := rest }.applyEffs (due.map (fun (x : Time × Nat × Nat × Nat × Int) => .hyst x.2.1 x.2.2.1 x.2.2.2.1 x.2.2.2.2))

/-- 02 R79: a house frame boundary. -/
def execHouseFrameBoundary (t : Time) (s : State) : Host.Outcome State Fault Refusal :=
  served t s fun s => ((((({ s with xp.seqAt := s.xp.seqCtr }.dropMarks.flipHouse.flowBoundary).flipBanks).hystDue.timeDue.clearDue).swapDue).freeQuiet.tallies.pointLate).restartDue.strandSends

/-! ### Target sets (03 R96, R97; 04 R144) -/

/-- Does a target of a connection belong to one of some bookings? -/
def targetOf (l : List Bk) (key : ConnKey) (target : Nat) : Bool :=
  l.any (fun b => b.key = key && (if target < 16 then b.res = 2 && b.unit = target else b.res = 1 || b.res = 2))

/-- Is a target of a connection booked: an egress cluster by its own booking, a DRAM group or the audio engine by the connection's? -/
def State.targetBooked (s : State) (key : ConnKey) (target : Nat) : Bool := targetOf s.allBks key target

/-- The bookings whose connections are needed now or at a switching point within 20 µs: those of what stands, and of the takes that fall due by then (03
R97). -/
def State.soonBks (s : State) : List Bk :=
  s.otherBks ++ s.dests.flatMap (fun d =>
    let rate := s.dstRate d
    let soon (t : Time) : Bool := alignPoint rate (frameFrom rate t) ≤ s.now + 20000
    [Level.video, .audio, .anc].flatMap (fun lv =>
      let due := true :: ((s.dst d).level lv).pend.map (fun p => soon p.due)
      let shares := (s.xp.shares.filter (fun x => soon x.tc && x.decided ≠ some false)).flatMap (fun x => x.items.flatMap (fun it =>
        if indexOfId it.e.dest ≠ d then [] else ((s.itemUses it x.tc).filter (fun u => u.1 = lv)).flatMap (·.2)))
      (((s.chain d lv).zip due).filter (·.2)).flatMap (fun x => x.1.2.flatMap s.useBks) ++ shares.flatMap s.useBks))

/-- 03 R97: every tile adds or removes a target of a connection: 0 to 15 an egress cluster, 16 to 23 a DRAM group, 24 the audio engine. A target
is added at most 20 µs before the first switching point that needs it, and removed only once no booking uses it. -/
def execTargetSetChange (t : Time) (key : ConnKey) (target : Fin 25) (add : Bool) (s : State) : Host.Outcome State Fault Refusal :=
  served t s fun s =>
    let x := (key, target.val)
    if add then
      if targetOf s.soonBks key target && !s.xp.targets.contains x then { s with xp.targets := s.xp.targets ++ [x] } else s
    else if s.targetBooked key target then s
    else { s with xp.targets := s.xp.targets.filter (fun y => !(y = x)) }

end Sys2Proof.Machine
end

