-- ==== Sys2Proof/Machine/Resets.lean ====
section
/-! DEFINITION. Island resets: the fence, the re-arm, ISLAND_RESET, the loss of time-wire lock, and the reset of SPN (22 R756, R775 to R782;
12 R448; 15 R583, and the reset rules of each chapter). -/

namespace Sys2Proof.Machine

/-- The conditions of an island that its reset resolves: those of its ERR bits and its error line, and the loss of time-wire lock (20 R707). -/
def State.resetResolve (s : State) (isl : Nat) : State :=
  { s with flt.conds := s.flt.conds.filter (fun c => !(c.isl = isl && (c.tag = 0x20000 || 0x100000 ≤ c.tag))) }

/-! ### Port clusters (04 R178; 05 R215; 06 R261; 07 R298; 11 R440; 13 R524; 21 R752) -/

/-- The ports of an island that is reset leave UP; each such change is logged (07 R277). -/
def State.linksDown (s : State) (ps : List Nat) : State :=
  ps.foldl (fun (s : State) p => if s.portKind p = 1 && s.portState p = 3 then s.setPortState p 0 else s) s

/-- The fence of a port cluster: its registers read their reset values, its lanes, ports and Strands are OFF, its outputs are quiet, its head is
IDLE and its flow tables are empty. -/
def State.pcDown (s : State) (c : Nat) : State :=
  let mine (p : Nat) : Bool := p / 16 = c
  let s := s.linksDown ((List.range 16).map (16 * c + ·))
  let s := (s.strandPorts.filter (fun p => mine p && s.strandState p = 4)).foldl (fun (s : State) p => s.strandDown p 0) s
  let s := (s.beginReset c).clearWindow c
  let s := { s with
    ip.flows := s.ip.flows.map (fun (x : Nat × InFlow) => if x.2.cluster = c then (x.1, x.2.clear) else x)
    xp.beFly := s.xp.beFly.filter (fun x => x.cluster ≠ c && x.target ≠ c)
    xp.owed := s.xp.owed.filter (fun x => s.dstCluster x.1 ≠ c) }
  let strands := s.skn.strands.map (fun (x : Nat × Strand) =>
    if mine x.1 then (x.1, { downAt := x.2.downAt, mirrorDownAt := x.2.mirrorDownAt }) else x)
  let s := { s with
    skn.strands := strands
    sdi.rx := s.sdi.rx.filter (fun x => !mine x.1)
    sdi.assign := s.sdi.assign.filter (fun x => !(s.srcRec x.1).any (fun v => mine (recBind v)))
    sdi.moved := s.sdi.moved.filter (fun x => !(s.srcRec x.1).any (fun v => mine (recBind v)))
    eth := s.eth.filter (fun x => !mine x.1)
    ip.repeats := s.ip.repeats.filter (fun x => !mine x.1), ip.older := s.ip.older.filter (fun x => !mine (x.1 / 2))
    probe.gpi := s.probe.gpi.filter (fun x => x.1 / 4 ≠ c) }
  let s := (s.dests.filter (fun d => s.dstCluster d = c)).foldl (fun (s : State) d =>
    s.setDst d { s.dst d with live := false, wasLive := false, prevPic := none, under := [], unaligned := false }) s
  let s := if (s.headSrc c).isNone then s else s.setHead c { s.head c with on := false, lastFrame := none, pic := .fill }
  s.sendLinks

/-- The sequence counters of the flows of a reset cluster are those of the last state copy (04 R158; 06 Table 6.6). -/
def State.seqBack (s : State) (c : Nat) : State :=
  { s with xp.seqCtr := s.xp.seqCtr.map (fun (x : Nat × Nat) =>
      if (s.flowOut x.1).any (fun v => egressCluster v = c) then (x.1, lookD x.1 s.xp.seqCopy x.2) else x) }

/-- The Spindle has re-armed a port cluster: its Shuttle with the current routes, modes, paths and pending takes, its flow tables, its head and
its tallies; its lanes, ports and Strands start. -/
def State.pcUp (s : State) (c : Nat) : State :=
  let s := (((s.set (rstNow c) 0).clusterOn c).flowRebuild c).seqBack c
  let s := if (s.headSrc c).isSome && s.headUsed s.headNamed c then s.setHead c { s.head c with on := true, from_ := s.headAt c s.now } else s
  let s := if (s.headSrc c).isSome then (s.headShow c).winShow c else s
  (List.range 4).foldl (fun (s : State) j => s.gpoShow (4 * c + j) none) s

/-! ### SPN (22 R756, R782; 14 Table 14.3; 15 R589; 16 R611; 19 R690; 20 R732) -/

/-- The SPN fields that are facts of other parts of the chip: tile states, the current and selected point, the masks, the booked engines (03 R132;
09 R362; 11 R440). -/
def State.spnKept (s : State) : State :=
  let s' := s.clearWindow 34
  [R.XP_TSTATE_T0, R.MEM_CUR, R.MEM_PASR, R.MV_ENGINES_BOOKED, rstNow 0, rstNow 32].foldl (fun (x : State) f => x.setWord f.addr (s.word f.addr)) s'

/-- A reset of SPN begins: the role is OFF, every session ends, staging is discarded, SRAM is cleared with all that it holds, and every DMA channel
stops; the management ports are OFF. RST.RESETS of SPN restarts with this reset (R782). -/
def State.spnDown (s : State) : State :=
  let s := (let s := (s.linksDown [256, 257]).stageDiscard 4
    if s.dbl.role = .off then s else (s.setRole .off).dropUnarmed.quietAll)
  let lost := s.flt.waits.length
  let n := lookD 34 s.flt.dropped 0 + lost
  let s := { (s.beginReset 34).spnKept with
    flt.ring := [], flt.waits := [], flt.rate := [], flt.logged := [], flt.dropped := if n = 0 then s.flt.dropped else put 34 n s.flt.dropped
    sicp := { order := s.sicp.order, rcTotal := s.sicp.rcTotal.filter (fun x => (x.1 - 0x4000000000) / 0x100000 ≠ 34), totals := s.sicp.totals }
    xp.waiting := [], spn.sram := [], spn.dma := [], spn.blind := (List.range 40).filter (fun n => n ≠ 34 && s.has (rstNow n))
    skn.map := [], skn.seen := [], skn.sends := []
    eth := s.eth.filter (fun x => x.1 < 256), ip.repeats := s.ip.repeats.filter (fun x => x.1 < 256)
    ip.older := s.ip.older.filter (fun x => x.1 / 2 < 256)
    dbl.held := none, dbl.deferred := none, dbl.replies := [], dbl.swapPend := none, dbl.yieldPend := false, dbl.settleEnd := none
    dbl.startWait := none }
  ((s.set (R.RST_RESETS 34) 1).set (rstNow 34) 1).bump R.LOG_DROPPED lost

/-- The log's next index, from the highest index held (20 R732). -/
def State.logNext (s : State) : State :=
  let idx := s.flt.blocks.flatMap (fun b => b.recs.map (·.index))
  { s with flt.next := if idx = [] then 0 else (idx.foldl max 0 + 1) % 2 ^ 32 }

/-- The firmware runs again; a firmware part whose signature fails is F4 (22 R756). EVENTS_DROPPED for SPN is the first record (20 Table 20.10), and
the role follows the rows of OFF. -/
def State.spnUp (s : State) (good : Bool) : State :=
  if !good then s.f4 15 4
  else
    let s := ((s.set (rstNow 34) 0).resetResolve 34).logNext
    let n := lookD 34 s.flt.dropped 0
    let s := if n = 0 then s else { s.logOne 34 1 0x0005 (beBytes 1 34 ++ beBytes 4 n) 0 with flt.dropped := drop 34 s.flt.dropped }
    let s := ((s.set R.CORE_RUN 15).mgmtOn).stageShow
    if s.serving then s.roleFromOff else s

/-- 22 R756: SPN is reset; `good` says whether SIG_IHLUT verifies on the firmware part read again. -/
def execSpnReset (t : Time) (good : Bool) (s : State) : Host.Outcome State Fault Refusal :=
  served t s fun s => if s.has (rstNow 34) then s.spnUp good else s.spnDown.spnUp good

/-! ### Any island (22 R775, R776) -/

/-- A reset decided for an island: FLT and AON are not reset alone; one decided while the island is in reset is merged (22 R775, R781). -/
def State.fence (s : State) (isl : Nat) : State :=
  if s.has (rstNow isl) || isl = 36 || isl = 38 then s
  else
    let s := s.set (wireFld isl) 0
    if isl < 16 then s.pcDown isl
    else if isl < 24 then
      if s.tile (isl - 16) = .out then s.beginReset isl
      else s.tileFail (isl - 16) 3 { typ := 3, master := 0x40 + isl }
    else if isl < 32 then
      let (cause, s) := s.fresh
      s.dgDown (isl - 24) (cause % 256)
    else if isl = 32 then s.audDown
    else if isl = 33 then s.whlDown
    else if isl = 34 then s.spnDown
    else if isl = 35 then (s.beginReset 35).keyDown
    else if isl = 37 then ((s.beginReset 37).dblDown).clearWindow 37
    else (s.beginReset 39).bootDown.raise 39 2 0x0704 tagBootReset [] { typ := 3, master := 0x40 + 39 }

/-- The HS_TIMEOUT bit that an access into an island's window concerns (20 Table 20.5, the ERR registers of the chapters). -/
def hsTimeout (isl off : Nat) : Option Fld :=
  if isl < 16 then
    if 0x10000 ≤ off && off < 0x20000 then some (R.SDI_ERR_HS_TIMEOUT isl)
    else if 0x31000 ≤ off && off < 0x32000 then some (R.PORT_ERR_HS_TIMEOUT (16 * isl + (off - 0x31000) / 0x100))
    else if 0x38000 ≤ off && off < 0x40000 then some (R.HD_HS_TIMEOUT isl)
    else if 0x20000 ≤ off then some (R.FLOW_HS_TIMEOUT isl)
    else some (R.SHT_ERR_HS_TIMEOUT isl)
  else if isl < 24 then some (R.XT_ERR_HS_TIMEOUT (isl - 16))
  else if isl < 32 then some (R.DG_ERR_HS_TIMEOUT (isl - 24))
  else if isl = 32 then some R.AUD_ERR_HS_TIMEOUT
  else if isl = 33 then some R.WHL_ERR_HS_TIMEOUT
  else if isl = 34 then some R.SCP_ERR_HS_TIMEOUT
  else if isl = 35 then some R.KEY_ERR_HS_TIMEOUT
  else if isl = 37 then some R.DBL_ERR_HS_TIMEOUT
  else if isl = 39 then some R.BOOT_ERR_HS_TIMEOUT
  else none

/-- The reaction of an island to its HS_TIMEOUT (22 R764): a tile fails (03 R127); a DRAM group, AUD, WHL, KEY, DBL and BOOT are reset (09 Table 9.10; 10 Table
10.13; 12 R471; 14 R556; 17 R651; 18 R682). While the chip does not serve, the bit and its class are all. -/
def State.handshakeLost (s : State) (f : Fld) (a : Acc) : State :=
  if 16 ≤ f.isl ∧ f.isl < 24 then s.tileFail (f.isl - 16) 0 a
  else if f.isl < 16 ∨ f.isl = 34 ∨ !s.serving then s.err f (if f.isl = 33 then 3 else 2) a
  else if f.isl < 32 then s.dgDown (f.isl - 24) 2
  else if f.isl = 35 ∨ f.isl = 37 then (s.err f 2 a).fence f.isl
  else s.fence f.isl

/-- 22 R764: a transaction into an island's window gets no response in 20 µs and completes with TIMEOUT; the target's HS_TIMEOUT
sets and the island's own reaction follows. A transaction to an island that is fenced completes with ABORT and no TIMEOUT (Table 22.7). -/
def execTransactionTimeout (t : Time) (isl : Fin 40) (off : Nat) (master typ : Nat) (s : State) : Host.Outcome State Fault Refusal :=
  released t s fun s =>
    let addr := 0x4000000000 + isl.val * 0x100000 + off
    if s.has (rstNow isl) then s.matrixResponse 4 typ master addr
    else
      let s := s.matrixResponse 5 typ master addr
      match hsTimeout isl off with
      | some f => s.handshakeLost f { typ := 3, master := master, addr := 0 }
      | none => s

/-- The end of an island's reset: released, calibrated to the time wire, re-armed and serving (22 Table 22.6, R780). `good` says that the
island's own restart succeeds. -/
def State.rearm (s : State) (isl : Nat) (good : Bool) : State :=
  if !s.has (rstNow isl) then s
  else
    let s := s.set (wireFld isl) 1
    if isl < 16 then (s.pcUp isl).resetResolve isl
    else if isl < 24 then
      if s.tile (isl - 16) = .lost then s.tileDone (isl - 16) good
      else ((s.clearWindow isl).set (rstNow isl) 0).resetResolve isl
    else if isl < 32 then (if good then s.resetResolve isl else s).dgUp (isl - 24) good
    else if isl = 32 then s.audUp.resetResolve isl
    else if isl = 33 then (if good then (s.whlUp true).resetResolve 33 else s.whlUp false)
    else if isl = 34 then s.spnUp good
    else if isl = 35 then ((s.set (rstNow 35) 0).keyUp).resetResolve 35
    else if isl = 37 then ((s.set (rstNow 37) 0).dblUp).resetResolve 37
    else ((s.set (rstNow 39) 0).resolve 39 tagBootReset).resetResolve 39

/-- 22 R775, R776: an island reset is decided and its fence is raised. -/
def execIslandFence (t : Time) (isl : Fin 40) (s : State) : Host.Outcome State Fault Refusal :=
  served t s fun s => s.fence isl

/-- 22 R780: a reset island is released, calibrated and re-armed. -/
def execIslandRearmed (t : Time) (isl : Fin 40) (good : Bool) (s : State) : Host.Outcome State Fault Refusal :=
  served t s fun s => s.rearm isl good

/-- 12 R448: an island loses lock with the time wire; its bit clears, F2 is raised and the island is reset. What it stamps until its reset is marked
invalid. -/
def execWireLoss (t : Time) (isl : Fin 40) (s : State) : Host.Outcome State Fault Refusal :=
  released t s fun s =>
    if s.has (wireFld isl) then
      let s := { s.set (wireFld isl) 0 with flt.lostWire := some isl.val }
      let s := (s.raise isl 2 0x0405 0x20000 (beBytes 1 isl) { typ := 3, master := 0x40 + isl }).fence isl
      { s with flt.lostWire := none }
    else s

/-- 15 R583: ISLAND_RESET. -/
def execIslandReset (t : Time) (q : Req) (s : State) : Host.Outcome State Fault Refusal :=
  served t s fun s => s.request ⟨0x52, false, [one 0x23]⟩ q (chipNeed 9) fun s c =>
    let n := fld c.ts 0x23 0 1
    if n < 16 || n = 32 || (24 ≤ n && n < 32) then (s.fence n).ok c []
    else if 16 ≤ n && n < 24 then (if s.tile (n - 16) = .out then (s.fence n).ok c [] else s.badState c)
    else s.badValue c 0x23

end Sys2Proof.Machine
end

