-- ==== Sys2Proof/Machine/RegView.lean ====
section
/-! DEFINITION. What the registers show: the fields that are computed from the rest of the state when they are read, and the word at an address
(the register tables of 03 to 21; 22 R758, R780). -/

namespace Sys2Proof.Machine

/-- Bits of a word, and the value they show. -/
abbrev Shows := List (Nat × Nat × Nat)

/-- The word with the fields that are computed. -/
def overlayBits (w : Nat) (l : Shows) : Nat := l.foldl (fun w x => placeBits w x.2.1 (x.1 + 1 - x.2.1) x.2.2) w

/-! ### Port clusters -/

/-- Is a level of a destination set by a salvo that is held, or by one carried out at its next switching point (04 Tables 4.16, 4.19)? -/
def State.levelHeld (s : State) (d : Nat) (lv : Level) : Bool :=
  ((s.dst d).level lv).pend.any (fun p => p.salvo.isSome) ||
    s.xp.shares.any (fun x => x.decided ≠ some false && x.items.any (fun it =>
      it.outPort = 0xFFFF && evenForm it.e.dest = evenForm (s.gid d) && (levelsOf it.e.levels).contains lv))

/-- Does an admitted take of a level await its switching point? -/
def State.levelPend (s : State) (d : Nat) (lv : Level) : Bool := ((s.dst d).level lv).pend.any (fun p => p.salvo.isNone)

/-- The levels of a destination. -/
def allLevels : List Level := [.video, .audio, .anc]

/-- SHTn.TAKE (04 Table 4.16). -/
def State.shtTake (s : State) (c : Nat) : Shows :=
  let mine := s.dests.filter (fun d => s.dstCluster d = c)
  let count (p : Nat → Level → Bool) : Nat := total (mine.map (fun d => (allLevels.filter (p d)).length))
  [(27, 16, count s.levelHeld), (11, 0, count s.levelPend)]

/-- SHTn.DST[i] (04 Table 4.19). -/
def State.shtDst (s : State) (c i : Nat) : Shows :=
  if (s.dstRec i).isNone || s.dstCluster i ≠ c then []
  else
    let d := s.dst i
    [(31, 31, 1), (30, 29, d.video.mode.code), (28, 28, b2n d.video.bobbin), (27, 27, b2n (s.levelPend i .video)),
     (26, 26, b2n (s.levelPend i .audio)), (25, 25, b2n (s.levelPend i .anc)), (24, 24, b2n (allLevels.any (s.levelHeld i))),
     (23, 23, b2n (d.under ≠ [])), (22, 22, b2n d.unaligned), (21, 21, b2n d.video.src.isSome),
     (19, 0, (d.video.src.map s.keyGid).getD 0)]

/-- PCn.SDI.TX[j].STAT (05 Table 5.16, Table 5.11). -/
def State.txStat (s : State) (lane : Nat) : Shows :=
  match s.txDest lane with
  | none => []
  | some v =>
    let rate := s.txRate lane
    let level := if rate / 2 = 1 && recGroup v ≠ 1 then 1 + b2n (bit (byteAt (s.sdiTx (leAt v 0 2)) 2) 0) else 0
    [(31, 16, recFormat v), (15, 14, level), (13, 11, lane - recBind v + 1), (7, 4, rate)]

/-- The bookings of the routes that enter this chip by a Strand (13 Table 13.12). -/
def State.strandRx (s : State) (p : Nat) : List Bk :=
  let passing (it : SItem) : List Bk :=
    if it.inPort ≠ p || 256 ≤ it.outPort then []
    else match srcOpt it.e.src with
      | none => []
      | some g => (levelsOf it.e.levels).flatMap (fun lv => s.ingress (s.srcKey g) lv p (Config.farSource (evenForm it.e.dest) 1 % 16))
  shared ((s.uses.filter (fun u => u.via = p && isFar u.src)).flatMap (fun u => s.ingress u.src u.lv p (s.dstRate u.dest))
    ++ s.xp.shares.flatMap (fun x => if x.decided = some false then [] else x.items.flatMap passing)
    ++ s.skn.routes.flatMap (fun r => passing r.item))

/-- The Strand fields of a port block (13 Table 13.12). -/
def State.strandShows (s : State) (p off : Nat) : Shows :=
  if !s.isStrand p then []
  else
    let tx := s.allBks.filter (fun b => b.res = 4 && b.unit = p)
    let sum (l : List Bk) : Nat := total (l.map (·.amount))
    let path := s.messagePaths.any (fun x => x.2.2.any (fun h => h = (s.chip, p)))
    if off = 0x80 then [(7, 7, b2n (s.mirrorUp p)), (6, 6, b2n path)]
    else if off = 0x88 then [(19, 0, sum tx)]
    else if off = 0x8C then [(19, 0, sum (s.strandRx p))]
    else if off = 0x90 then [(31, 16, (s.strandRx p).length), (15, 0, tx.length)]
    else []

/-- A port block (07 Table 7.10): QPAUSED shows the queues that are paused now, and HALF the counters that have passed half range since the Spindle
read them or the bit was cleared (R293). -/
def State.portShows (s : State) (p off : Nat) : Shows :=
  if off = 0 then
    [(31, 30, s.portKind p), (15, 8, total ((List.range 8).map (fun q => if (look q (s.port p).pauseEnd).any (s.now < ·) then 2 ^ q else 0)))]
  else if off = 4 then
    [(15, 0, total ((List.range 16).map (fun i => if 2 ^ 31 ≤ s.get (portCounter p i) && !(s.port p).halfSeen.contains i then 2 ^ i else 0)))]
  else if off = 0x10 then [(31, 0, s.ctr (R.PORT_RX_OCTETS_LO p))]
  else if off = 0x18 then [(31, 0, s.ctr (R.PORT_TX_OCTETS_LO p))]
  else s.strandShows p off

/-- What the equaliser of a W-lane shows: free values in a port that is not OFF, which it tracks (07 R271). -/
def State.eqShows (s : State) (lane : Nat) : Shows :=
  if (List.range 256).any (fun p => p ≤ lane && lane < p + s.groupLen p && 1 ≤ s.portState p) then
    [(31, 24, Config.laneEye lane s.up % 256), (23, 16, Config.laneEye lane s.up / 256 % 256)]
  else []

/-- What the equaliser of a C-lane shows: it has adapted 40 µs after it began to try a rate, and tracks from then on (07 R273). -/
def State.coaxShows (s : State) (lane : Nat) : Shows :=
  let st := s.rxState lane
  let x := Config.laneEye (256 + lane) s.up
  let done := if st ≤ 1 then 0 else if 3 ≤ st || (s.rx lane).tryAt + 40000 ≤ s.up then 1 else x / 65536 % 2
  if st = 0 then [] else [(31, 24, x % 256), (23, 16, x / 256 % 256), (8, 8, done)]

/-- W-lane and C-lane status (07 Tables 7.8, 7.11, 7.12). -/
def State.laneShows (s : State) (lane : Nat) (w : Bool) : Shows :=
  let flags := byteAt ((s.recOf (if w then 0x0151 else 0x0152) 0 2 lane).getD []) 2
  let v := s.octetRec lane
  let rate := if !bit (byteAt v 3) (lane % 8) then 0
    else if byteAt v 1 = 0 then (if bit (byteAt v 5) (lane % 8) then 1 else 2)
    else byteAt v 1 + 2
  if w then [(7, 5, rate), (4, 4, b2n (bit flags 1)), (3, 3, b2n (bit flags 0))] ++ s.eqShows lane
  else [(10, 10, b2n (bit flags 1)), (9, 9, b2n (bit flags 0))] ++ s.coaxShows lane

/-- Does an offset of a port cluster lie in the block of a flow whose legs are elsewhere (06, before Table 6.13)? Such a block reads 0. -/
def State.noFlow (s : State) (isl off : Nat) : Bool :=
  if 16 ≤ isl || off < 0x40000 then false
  else if off < 0xC0000 then ((s.flowIn ((off - 0x40000) / 0x40)).map flowCluster) ≠ some isl
  else ((s.flowOut ((off - 0xC0000) / 0x20)).map egressCluster) ≠ some isl

/-- The format code of the destination of an egress flow; 0 where it has none (06 Table 6.18). -/
def State.flowFormat (s : State) (e : Nat) : Nat :=
  (((s.recs 0x0102).find? (fun r => recKind r.val ≠ 0 && (recFlows r.val).contains e)).map (fun r => recFormat r.val)).getD 0

/-- The computed fields of a port cluster. -/
def State.pcShows (s : State) (c off : Nat) : Shows :=
  if off = 0x8000 then s.shtTake c
  else if 0x9000 ≤ off && off < 0xA000 then s.shtDst c ((off - 0x9000) / 4)
  else if 0x11000 ≤ off && off < 0x11400 then
    let lane := 16 * c + (off - 0x11000) / 0x40
    if off % 0x40 = 0 then s.txStat lane else if off % 0x40 = 0x0C then [(31, 0, s.ctr (R.TX_FSEQ_LO lane))] else []
  else if 0x13000 ≤ off && off < 0x13100 && off % 0x10 = 0 then s.laneShows (16 * c + (off - 0x13000) / 0x10) false
  else if 0x30000 ≤ off && off < 0x30400 && off % 0x40 = 0 then s.laneShows (16 * c + (off - 0x30000) / 0x40) true
  else if 0x31000 ≤ off && off < 0x32000 then s.portShows (16 * c + (off - 0x31000) / 0x100) (off % 0x100)
  else if 0x3B000 ≤ off && off < 0x3B040 && off % 0x10 = 0 then s.pinShows (4 * c + (off - 0x3B000) / 0x10)
  else if 0xC0000 ≤ off && off % 0x20 = 0 then [(15, 0, s.flowFormat ((off - 0xC0000) / 0x20))]
  else []

/-! ### Audio and time -/

/-- The computed fields of AUD (10 Tables 10.16, 10.18). -/
def State.audShows (s : State) (off : Nat) : Shows :=
  if 0x10000 ≤ off && off < 0x12000 then
    match look ((off - 0x10000) / 8) s.aud.buses with
    | some b => if off % 8 = 0 then [(31, 31, b2n b.low), (30, 30, b2n b.idle), (22, 16, b.members.length), (15, 0, b.gain)] else []
    | none => []
  else if 0x60000 ≤ off && off < 0xA0000 then
    let o := (off - 0x60000) / 8
    match look o s.aud.outs with
    | some x =>
      if off % 8 = 0 then [(31, 0, x.sel)]
      else [(31, 16, x.gain), (15, 15, b2n x.pend.isSome), (14, 14, b2n x.matched.isSome), (13, 13, b2n (s.alineOf o).isSome)]
    | none => []
  else []

/-! ### The Spindle -/

/-- STATE, SLOTS and READS of a bobbin (08 Table 8.9): 0 EMPTY, 1 FILLING, 2 READY, which of a ring is a slot whose frame is written whole. -/
def State.bobFacts (s : State) (b : Bobbin) : Nat × Nat × Nat :=
  let bank (x : Banks) : Nat := if x.valid0 || x.valid1 then 2 else if x.dirty then 1 else 0
  let hist (full : Bool) (l : List (Nat × List Int)) : Nat := if full then 2 else if l.any (fun x => x.2 ≠ []) then 1 else 0
  match b.kind with
  | 0 => match s.ring b.owner with
    | some r =>
      let rate := s.srcRate b.owner
      let filling := r.slots.all (fun x => s.now * rateNum rate < x.arrival * rateNum rate + rateDen rate * sec || x.under ≠ [])
      (if r.slots.isEmpty then 0 else if filling then 1 else 2, r.count, r.reads.length)
    | none => (0, 0, 0)
  | 1 => (bank (s.banks b.owner), 2, (s.allBks.filter (fun x => x.res = 2 && (match x.key with
      | .still k _ => !isFar k && (s.srcRec k).any (fun v => recKind v = 3 && recBind v = b.owner)
      | _ => false))).length)
  | 2 => match look b.owner s.mv.wins with
    | some w =>
      let buf := (w.bufs.find? (·.slot = b.sub)).getD w.buf
      (if buf.frames.isEmpty then 0 else 2, 3, 1)
    | none => (0, 3, 0)
  | 3 => (bank (s.banks (256 + 2 * b.owner + b.sub)), 2, 1)
  | 4 => (if s.safeReady b.owner then 2 else 0, 1, 1)
  | 5 =>
    if b.sub = 1 then (((look b.owner s.aud.matched).map (fun l => hist l.full l.hist)).getD 0, 0, ((s.ring b.owner).map (·.reads.length)).getD 0)
    else (((look b.owner s.aud.lines).map (fun l => hist l.full l.hist)).getD 0, 0, 1)
  | _ => (2, 0, 0)

/-- SPN.BOB.DESC (08 Table 8.9). DESIGN CHOICE (log entry 107): the OWNER of a bobbin of a source of another pair is the low 16 bits of its global ID, since it has no source
index here. -/
def State.bobDesc (s : State) (h : Nat) (first : Bool) : Shows :=
  match look h s.bob.bobs with
  | none => []
  | some b =>
    let (st, slots, reads) := s.bobFacts b
    if first then [(31, 31, 1), (30, 28, b.kind), (27, 26, st), (16, 0, b.extents)]
    else [(31, 24, slots), (21, 21, b2n b.pack), (20, 16, reads), (15, 0, b.owner)]

/-- SPN.BOB.DLY of a destination (08 Table 8.11, R313). -/
def State.delayShows (s : State) (i : Nat) : Shows :=
  if (s.dstRec i).isNone then []
  else
    let d := s.dst i
    let read := (([d.video, d.audio, d.anc].find? (fun x => x.bobbin && x.src.isSome)).bind (·.src)).bind (fun k => (s.ring k).bind (fun r => r.read d.frames d.lines))
    let h : Nat := match read with
      | some c => if c.h = 0 then 0 else if c.h < 0 then 1 else 2
      | none => 0
    [(31, 31, b2n (allLevels.any (fun lv => (d.level lv).bobbin))), (30, 29, h), (23, 17, d.frames), (10, 0, d.lines)]

/-- SPN.BOB.STILL of a still (08 Table 8.11). -/
def State.stillShows (s : State) (i : Nat) : Shows :=
  match s.stillRec i with
  | none => []
  | some v =>
    let b := s.banks i
    [(31, 31, 1), (30, 30, b.shown), (29, 29, b2n b.fence), (28, 28, b2n (!b.valid b.shown)), (15, 0, leAt v 2 2)]

/-- SPN.SKN (13 Table 13.13). -/
def State.sknShows (s : State) (off : Nat) : Shows :=
  let count (p : SRoute → Bool) : Nat := total ((s.skn.routes.filter p).map (fun r => (levelsOf r.item.e.levels).length))
  if (s.recs 0x01B0).isEmpty then (if off = 0 then [(9, 0, s.chip)] else [])
  else if off = 0 then [(31, 16, s.skeinId), (9, 0, s.chip)]
  else if off = 4 then [(25, 16, s.reached.length), (9, 0, s.farPairs)]
  else if off = 8 then [(15, 0, count (fun _ => true))]
  else if off = 0xC then [(15, 0, count (fun r => r.ports.any (fun p => s.strandState p ≠ 4 || !s.mirrorUp p) || r.path.any (fun x => !s.stepUp x)))]
  else []

/-- SPN.ADM and SPN.SALVO (03 Tables 3.17, 3.18; 04 Table 4.20). -/
def State.admShows (s : State) (off : Nat) : Shows :=
  if off < 0x60040 then [(20, 0, sumOn s.allBks 1 ((off - 0x60000) / 4))]
  else if off < 0x60080 then [(20, 0, s.bookedOut ((off - 0x60040) / 4))]
  else if off = 0x60080 then [(21, 0, s.bobbinRate)]
  else if off = 0x60084 then [(12, 0, s.xp.waiting.length)]
  else if off = 0x60088 then [(15, 0, (connKeys s.allBks).length)]
  else if off = 0x60200 then
    let l := s.salvosHeld
    [(25, 8, total (l.map (·.2.2.2))), (7, 0, min l.length 255)]
  else []

/-- SPN.VPROBE (21 Table 21.9). -/
def State.probeShows (s : State) (k : Nat) (first : Bool) : Shows :=
  match s.recOf 0x0228 0 2 k with
  | none => []
  | some v => if first then [(31, 31, 1), (28, 28, b2n (bit (byteAt v 4) 0))] else [(9, 0, leAt v 2 2)]

/-- SPN.RST.NOW: an island whose reset was running when SPN was reset shows 0 (22 R782). -/
def State.nowShows (s : State) (first n : Nat) : Shows :=
  ((List.range n).filter (fun i => s.spn.blind.contains (first + i))).map (fun i => (i, i, 0))

/-- The computed fields of SPN. -/
def State.spnShows (s : State) (off : Nat) : Shows :=
  if off = 0x20000 then s.nowShows 0 32
  else if off = 0x20004 then s.nowShows 32 8
  else if 0x60000 ≤ off && off < 0x61000 then s.admShows off
  else if 0x70000 ≤ off && off < 0x70200 then s.portShows (256 + (off - 0x70000) / 0x100) (off % 0x100)
  else if off = 0x80000 then [(16, 0, total (s.bob.bobs.map (fun b => b.2.extents)))]
  else if off = 0x80008 then [(13, 0, s.bob.bobs.length)]
  else if 0x88000 ≤ off && off < 0x98000 then s.bobDesc ((off - 0x88000) / 8) (off % 8 = 0)
  else if 0xA0000 ≤ off && off < 0xA4000 && off % 16 = 0 then
    match s.ring ((off - 0xA0000) / 16) with
    | some r => [(31, 31, 1), (20, 16, r.reads.length), (15, 8, r.count)]
    | none => []
  else if 0xA8000 ≤ off && off < 0xA9000 then s.delayShows ((off - 0xA8000) / 4)
  else if 0xAC000 ≤ off && off < 0xAC400 then s.stillShows ((off - 0xAC000) / 4)
  else if off = 0xB1000 then [(15, 0, s.pixels)]
  else if 0xB2000 ≤ off && off < 0xB2010 then s.sknShows (off - 0xB2000)
  else if off = 0xD0000 then [(31, 0, s.flt.next)]
  else if off = 0xD0004 then [(13, 0, s.flt.waits.length)]
  else if 0xD1000 ≤ off && off < 0xD3000 then s.probeShows ((off - 0xD1000) / 8) (off % 8 = 0)
  else []

/-! ### The other islands -/

/-- DBL.STAT (14 Table 14.12). -/
def State.dblShows (s : State) : Shows :=
  let d := s.dbl
  let tie (x : Tie) : Nat := match x with
    | .none => 0
    | .follow => 1
    | .hold => 2
    | .invalid => 3
  [(31, 29, d.role.code), (28, 26, d.twinRole), (25, 24, tie d.tieIn), (23, 22, tie d.tieOut), (21, 21, b2n d.side),
   (20, 20, b2n d.settleEnd.isSome), (19, 19, b2n d.swapPend.isSome), (18, 18, b2n d.yieldPend), (17, 16, d.lanes),
   (8, 8, b2n s.twinReady), (7, 0, d.catchup)]

/-- KEY.STAT and KEY.SLOT (17 Tables 17.12, 17.14), which read their reset values until KEY has reloaded the slots (R651). -/
def State.keyShows (s : State) (off : Nat) : Shows :=
  let k := s.keys
  if k.resetting then []
  else if off = 0 then
    [(31, 29, k.life), (28, 22, k.left), (21, 14, k.rbSteps), (13, 13, b2n k.kek.isSome), (12, 12, b2n k.idValid), (11, 11, b2n k.rngOk),
     (8, 0, (k.slots.filter (fun x => x.2.state = 1)).length)]
  else if 0x10000 ≤ off && off < 0x10400 then
    let x := s.kslot ((off - 0x10000) / 4)
    [(31, 30, x.state), (29, 28, x.use), (27, 27, x.origin), (26, 26, x.kind), (15, 0, x.gen)]
  else []

/-- TIME.NS, PRESENT of the references and QUIET of the pulse outputs (12 Tables 12.16, 12.17, 12.19). -/
def State.whlShows (s : State) (off : Nat) : Shows :=
  if off = 4 then [(31, 0, s.now)]
  else if 0x100 ≤ off && off < 0x1C0 && off % 0x20 = 0 then
    [(1, 1, b2n ((look ((off - 0x100) / 0x20) s.whl.seen).any (fun x => s.up ≤ x + sec)))]
  else if 0x300 ≤ off && off < 0x390 && off % 0x10 = 0 then [(4, 4, b2n (s.pulseQuiet ((off - 0x300) / 0x10)))]
  else []

/-- What the model counts apart goes into its register, where a read finds it: the memory channels' counts and the pulses (09 Table 9.12; 12 Table
12.19). -/
def State.foldAll (s : State) (a : Nat) : State :=
  match (List.range 9).find? (fun k => (R.OUT_PULSES k).addr = a) with
  | some k => s.foldPulse k (s.now + 1)
  | none => s.foldCount a

/-- The real-time counter: whole seconds, and the fraction in 1/65 536 s (17 Table 17.15). -/
def State.rtcParts (s : State) : Nat × Nat := match s.rtcNow with
  | some t => (t / sec, t % sec * 65536 / sec)
  | none => (0, 0)

/-- FLT.CUR (20 R707, Table 20.11). -/
def State.curBits (s : State) (first n : Nat) : Nat :=
  total ((List.range n).map (fun i => if s.current (first + i) then 2 ^ i else 0))

/-- The fields that an offset of an island's window shows beside what the register file holds. -/
def State.shows (s : State) (isl off : Nat) : Shows :=
  if isl < 16 then s.pcShows isl off
  else if 24 ≤ isl && isl < 32 then
    (if off = 0 && s.get (R.DG_STAT_STATE (isl - 24)) = 2 && s.up < s.dram.pause then [(2, 0, 3)] else [])
  else if isl = 32 then s.audShows off
  else if isl = 33 then s.whlShows off
  else if isl = 34 then s.spnShows off
  else if isl = 35 then s.keyShows off
  else if isl = 36 then (if off = 4 then [(31, 0, s.keys.ttime)] else if off = 0xC then [(31, 0, s.rtcParts.1)] else [])
  else if isl = 37 then (if off = 0 then s.dblShows else [])
  else if isl = 38 then (if off = 8 then [(31, 0, s.curBits 0 32)] else if off = 0xC then [(7, 0, s.curBits 32 8)] else [])
  else if isl = 39 then
    (if off = 0 then [(21, 21, b2n s.journals), (20, 20, b2n (s.journals && s.journalSlot.isSome))] else [])
  else []

/-- The word that a register at an address shows; an island in reset shows reset values, and an address where no register lies 0 (22 R758,
R780). -/
def State.viewWord (s : State) (a : Nat) : Nat :=
  let isl := (a - 0x4000000000) / 0x100000
  if s.noFlow isl ((a - 0x4000000000) % 0x100000) then 0
  else if s.has (rstNow isl) && isl ≠ 34 then resetWord a
  else overlayBits ((s.foldAll a).word a) (s.shows isl ((a - 0x4000000000) % 0x100000))

end Sys2Proof.Machine
end

