-- ==== Sys2Proof/Machine/Registers.lean ====
section
/-! DEFINITION. Reads and writes of registers, and the SiCP requests that make them (00 R16 to R18; 07 R293, R294; 15 R582; 22 R758). -/

namespace Sys2Proof.Machine

/-! ### What a read does -/

/-- The read-to-clear fields of a word. -/
def rcRows (a : Nat) : List RegRow := (rowsAt a).filter (fun r => r.acc = .rc)

/-- The read-to-clear fields that hold a largest value and no count, by the place of their row. -/
def peakRow (r : RegRow) : Bool :=
  [(16, 0x24), (0, 0x4010), (0, 0x4014), (34, 0x60084), (0, 0x40024), (0, 0x40028), (34, 0x80004), (24, 0x10C), (32, 0x20000), (32, 0x40000), (37, 0x10),
    (37, 0x14), (37, 0x24), (38, 0x20004)].contains (r.isl, r.off)

/-- Two values of a read-to-clear field in one: counts add, largest values keep the larger; SENSOR peaks and the offsets of a flow are signed, and of
OFFSET_MIN the smaller stays (23 Table 23.11; 06 Table 6.17). -/
def rcJoin (r : RegRow) (x y : Nat) : Nat :=
  if r.isl = 38 && peakRow r then (if signed 8 x < signed 8 y then y else x)
  else if r.isl = 0 && r.off = 0x4002C then (if signed 32 x < signed 32 y then y else x)
  else if r.isl = 0 && r.off = 0x40030 then (if signed 32 x < signed 32 y then x else y)
  else if peakRow r then max x y else (x + y) % 2 ^ (r.hi + 1 - r.lo)

/-- What the read-to-clear fields of a word hold since the last SiCP read (15 R582). -/
def State.rcSince (s : State) (a : Nat) : Nat := lookD a s.sicp.rcTotal (resetWord a)

/-- The read-to-clear fields of a word are read by the Spindle or another master: they return to their reset values, and what they held is kept
for the next SiCP read of them (00 R16; 15 R582). A port counter is added to its total too (07 R294). -/
def State.rcTake (s : State) (a : Nat) : State :=
  match counterAt a with
  | some (p, i) => s.readCounter p i
  | none =>
    let rows := rcRows a
    if rows.isEmpty then s
    else
      let s := s.foldAll a
      let w := s.word a
      let since := rows.foldl (fun x r => placeBits x r.lo (r.hi + 1 - r.lo) (rcJoin r (bits x r.hi r.lo) (bits w r.hi r.lo))) (s.rcSince a)
      { s.setWord a (rows.foldl (fun x r => placeBits x r.lo (r.hi + 1 - r.lo) r.rst) w) with sicp.rcTotal := put a since s.sicp.rcTotal }

/-- The register that shows the high word of a value whose low word lies at an address, and that high word (03; 05 Table 5.17; 07 Table 7.10; 12
Table 12.16; 17 Table 17.15). -/
def State.highOf (s : State) (a : Nat) : Option (Nat × Nat) :=
  let off := (a - 0x4000000000) % 0x100000
  let isl := (a - 0x4000000000) / 0x100000
  let port := (isl < 16 && 0x31000 ≤ off && off < 0x32000) || (isl = 34 && 0x70000 ≤ off && off < 0x70200)
  if (port && (off % 0x100 = 0x10 || off % 0x100 = 0x18)) || (isl < 16 && 0x11000 ≤ off && off < 0x11400 && off % 0x40 = 0x0C)
      || (16 ≤ isl && isl < 24 && (off = 0x10 || off = 0x18)) then
    some (a + 4, lookD a s.wide 0 / 2 ^ 32)
  else if a = R.WHL_HELD_LO.addr then some (a + 4, unsigned 64 s.whl.held / 2 ^ 32)
  else if a = R.AON_TTIME_LO.addr then some (a + 4, s.keys.ttime / 2 ^ 32)
  else if a = R.AON_RTC_LO.addr then some (a + 4, s.rtcParts.1 / 2 ^ 32 * 65536 + s.rtcParts.2)
  else none

/-- A read of a low word latches the high word (07 R293). -/
def State.latchHigh (s : State) (a : Nat) : State := match s.highOf a with
  | some (h, v) => s.setWord h v
  | none => s

/-- A read of a word by a master of the interconnect: what the register shows, and the state after. -/
def State.readReg (s : State) (a : Nat) : Nat × State :=
  if a = R.BOOT_XRD_DATA.addr && !s.has (rstNow 39) then s.xrdNext
  else if s.has (rstNow ((a - 0x4000000000) / 0x100000)) && (a - 0x4000000000) / 0x100000 ≠ 34 then (s.viewWord a, s)
  else (s.viewWord a, (s.rcTake a).latchHigh a)

/-- A SiCP read of a word: its read-to-clear fields hold what came since the last SiCP read (15 R582). -/
def State.sicpRead (s : State) (a : Nat) : Nat × State :=
  let (v, s) := s.readReg a
  let since := s.rcSince a
  let v := (rcRows a).foldl (fun x r => placeBits x r.lo (r.hi + 1 - r.lo) (bits since r.hi r.lo)) v
  (v, { s with sicp.rcTotal := drop a s.sicp.rcTotal })

/-! ### What a write does (00 R16, R17) -/

/-- A write of a word, with the bits that reach the register: RW fields take them, W1C bits written 1 clear, the rest is unchanged. The capture of
the matrix is cleared with its ERR bits (22 Table 22.8), a write of XRD.LEN acts (18 R684), and HALF bits written 1 clear (07 R293). Nothing is written to an island in reset. -/
def State.writeReg (s : State) (a v mask : Nat) : State :=
  if s.has (rstNow ((a - 0x4000000000) / 0x100000)) then s
  else
    let w := (rowsAt a).foldl (fun w r =>
      let n := r.hi + 1 - r.lo
      let m := bits mask r.hi r.lo
      let x := bits v r.hi r.lo
      let old := bits w r.hi r.lo
      match r.acc with
      | .rw => placeBits w r.lo n ((old &&& (2 ^ n - 1 - m)) ||| (x &&& m))
      | .w1c => placeBits w r.lo n (old &&& (2 ^ n - 1 - (x &&& m)))
      | _ => w) (s.word a)
    let s := s.setWord a w
    let p := portAt a
    if p.any (fun p => a = (R.PORT_HALF p).addr) then s.halfClear (p.getD 0) (v &&& mask)
    else if a = R.MX_ERR_ABORT.addr && w = 0 then s.setWord R.MX_CAP_VALID.addr 0
    else if a = R.BOOT_XRD_LEN.addr then s.xrdOpen w
    else s

/-! ### Commands -/

/-- 00 R16: a register with read-to-clear fields is read. -/
def execRcFieldRead (t : Time) (addr : Nat) (s : State) : Host.Outcome State Fault Refusal :=
  released t s fun s => if (rcRows addr).isEmpty then s else (s.readReg addr).2.emit (.word addr (s.readReg addr).1)

/-- 07 R293: the low word of a 64-bit value is read. -/
def execCounterLowRead (t : Time) (addr : Nat) (s : State) : Host.Outcome State Fault Refusal :=
  released t s fun s => if (s.highOf addr).isNone then s else (s.readReg addr).2.emit (.word addr (s.readReg addr).1)

/-! ### SiCP requests (15 R582; 22 R758) -/

/-- May SiCP reach `n` words from an address: they lie in one window of Table 1.5 that is not KEY's or AON's, and outside XRD (15 R582; 18 R684)? -/
def sicpReach (a n : Nat) : Bool :=
  let isl := (a - 0x4000000000) / 0x100000
  let off := (a - 0x4000000000) % 0x100000
  0x4000000000 ≤ a && isl < 40 && isl ≠ 35 && isl ≠ 36 && off + 4 * n ≤ 0x100000 && !(isl = 39 && off < 0x110 && 0x100 < off + 4 * n)

/-- The rights of a register request: one right over CHIP, and a range that SiCP may reach. -/
def regNeeds (right : Nat) (s : State) (c : Session) (ts : List Tlv) : Option Need :=
  match chipNeed right s c ts with
  | some w => some w
  | none => if sicpReach (fld ts 0x1A 0 5) (fld ts 0x1A 5 1) then none else some ⟨right, 0, 0, 0⟩

/-- Read `n` words from an address by a way of reading one. -/
def State.readWords (s : State) (one : State → Nat → Nat × State) (a : Nat) : Nat → List Nat × State
  | 0 => ([], s)
  | n + 1 =>
    let r := one s a
    let l := r.2.readWords one (a + 4) n
    (r.1 :: l.1, l.2)

/-- 15 R582: REG_READ. -/
def execRegRead (t : Time) (q : Req) (s : State) : Host.Outcome State Fault Refusal :=
  served t s fun s => s.request ⟨0x04, false, [one 0x1A]⟩ q (regNeeds 0) fun s c =>
    let a := fld c.ts 0x1A 0 5
    if a % 4 ≠ 0 then s.badValue c 0x1A
    else
      let r := s.readWords State.sicpRead a (fld c.ts 0x1A 5 1)
      r.2.ok c [⟨0x1B, r.1.flatMap (beBytes 4)⟩]

/-- May REG_WRITE write a register: all its fields are W1C or reserved (15 R582)? -/
def sicpWritable (a : Nat) : Bool := !(rowsAt a).isEmpty && (rowsAt a).all (fun r => r.acc = .w1c)

/-- 15 R582: REG_WRITE. -/
def execRegWrite (t : Time) (q : Req) (s : State) : Host.Outcome State Fault Refusal :=
  served t s fun s => s.request ⟨0x05, false, [one 0x1A, one 0x1B]⟩ q (regNeeds 9) fun s c =>
    let a := fld c.ts 0x1A 0 5
    if fld c.ts 0x1A 5 1 ≠ 1 || a % 4 ≠ 0 || !sicpWritable a then s.badValue c 0x1A
    else if (tlv c.ts 0x1B).length ≠ 4 then s.badValue c 0x1B
    else (s.writeReg a (fld c.ts 0x1B 0 4) (2 ^ 32 - 1)).ok c []

/-- A word as COUNTERS gives it: the total of a port counter, or the word (15 R582). -/
def State.countersRead (s : State) (a : Nat) : Nat × State :=
  match counterAt a with
  | some (p, i) => (lookD (portCounter p i).addr s.sicp.totals 0, s)
  | none => s.sicpRead a

/-- 15 R582: COUNTERS. -/
def execCounters (t : Time) (q : Req) (s : State) : Host.Outcome State Fault Refusal :=
  served t s fun s => s.request ⟨0x06, false, [one 0x1A]⟩ q (regNeeds 0) fun s c =>
    let a := fld c.ts 0x1A 0 5
    if a % 4 ≠ 0 then s.badValue c 0x1A
    else
      let r := s.readWords State.countersRead a (fld c.ts 0x1A 5 1)
      r.2.ok c [⟨0x1C, r.1.flatMap (beBytes 8)⟩]

end Sys2Proof.Machine
end

