-- ==== Sys2Proof/Machine/Dma.lean ====
section
/-! DEFINITION. The Spindle's DMA channels, and writes of registers (22 R757 to R774, R781). -/

namespace Sys2Proof.Machine

/-! ### Addresses (01 Table 1.5; 22 R757, R758, R777) -/

/-- The first address of Spindle SRAM. -/
def sramBase : Nat := 0x10000000

/-- Is an address in Spindle SRAM? -/
def inSram (a : Nat) : Bool := sramBase ≤ a && a < sramBase + 0x400000

/-- Is an address in bobbin space? -/
def inSpace (a : Nat) : Bool := 0x1000000000 ≤ a && a < 0x2F00000000

/-- The response to a DMA channel's access to `n` bytes from an address: DECERR outside every region, DENIED in the windows of KEY and AON, ABORT to an island
that is fenced, or to a data row of a DRAM group in reset (22 R777, Tables 22.1, 22.3). -/
def State.dmaResp (s : State) (a n : Nat) : Nat :=
  let isl := (a - 0x4000000000) / 0x100000
  if inSram a then 0
  else if inSpace a then
    (if s.groupDown && (rowsOver (a - spaceBase) n).any (fun r => s.lpDown (rowChannel s.dram.key r)) then 4 else 0)
  else if a < 0x4000000000 || 40 ≤ isl then 2
  else if isl = 35 || isl = 36 then 3
  else if s.has (rstNow isl) then 4
  else 0

/-- Read `n` words of registers from an aligned address. -/
def State.regBytes (s : State) (a n : Nat) : List Byte × State :=
  let r := s.readWords State.readReg a n
  (r.1.flatMap (leBytes 4), r.2)

/-- Channel `c` reads `n` bytes at rising addresses. -/
def State.dmaRead (s : State) (c a n : Nat) : List Byte × State :=
  if inSram a then (memRead s.spn.sram (a - sramBase) n, s)
  else if inSpace a then
    let r := s.dram.streamRead s.up c (a - spaceBase) n
    (r.1, { s with dram := r.2 })
  else
    let r := s.regBytes (a / 4 * 4) (ceilDiv (a % 4 + n) 4)
    ((r.1.drop (a % 4)).take n, r.2)

/-- Channel `c` writes bytes at rising addresses, register words under byte strobes; bytes of bobbins are gathered by data row (09 R339). -/
def State.dmaWrite (s : State) (c a : Nat) (v : List Byte) : State :=
  if inSram a then { s with spn.sram := memWrite s.spn.sram (a - sramBase) v }
  else if inSpace a then { s with dram := s.dram.streamWrite s.lpDown s.up c (a - spaceBase) v }
  else
    let strobed := List.replicate (a % 4) (none : Option Byte) ++ v.map some
    (List.range (ceilDiv (a % 4 + v.length) 4)).foldl (fun (s : State) k =>
      let part := (List.range 4).map (fun i => (strobed.getD (4 * k + i) none))
      let word := leAt (part.map (·.getD 0)) 0 4
      let mask := leAt (part.map (fun b => if b.isSome then 255 else 0)) 0 4
      s.writeReg (a / 4 * 4 + 4 * k) word mask) s

/-! ### Descriptors (22 Table 22.4, R774) -/

/-- A descriptor. -/
structure Desc where
  src : Nat
  dst : Nat
  len : Nat
  block : Nat
  ctrl : Nat
  period : Nat
  next : Nat
deriving DecidableEq, Repr

/-- A descriptor from its 32 bytes. -/
def descOf (v : List Byte) : Desc := ⟨leAt v 0 8, leAt v 8 8, leAt v 16 4, leAt v 20 4, leAt v 24 2, leAt v 26 2, leAt v 28 4⟩

/-- The fields of CTRL. -/
def Desc.sw (d : Desc) : Nat := 2 ^ bits d.ctrl 1 0
def Desc.dw (d : Desc) : Nat := 2 ^ bits d.ctrl 3 2
def Desc.sfix (d : Desc) : Bool := bit d.ctrl 4
def Desc.dfix (d : Desc) : Bool := bit d.ctrl 5
def Desc.trig (d : Desc) : Nat := bits d.ctrl 7 6
def Desc.chain (d : Desc) : Nat := bits d.ctrl 11 8
def Desc.barrier (d : Desc) : Bool := bit d.ctrl 12
def Desc.irq (d : Desc) : Bool := bit d.ctrl 13
def Desc.notify (d : Desc) : Bool := bit d.ctrl 14
def Desc.last (d : Desc) : Bool := bit d.ctrl 15

/-- Does a descriptor halt channel `c` before its first transfer (22 R774)? -/
def Desc.bad (d : Desc) (c : Nat) : Bool :=
  2 ^ 40 ≤ d.src || 2 ^ 40 ≤ d.dst || d.len = 0 || d.trig = 3 || (d.trig = 1 && d.period = 0) || (d.trig = 2 && d.chain = c) ||
    (!d.last && (0x400000 ≤ d.next || d.next % 32 ≠ 0))

/-! ### Channels -/

/-- A channel beside its registers. -/
def State.dma (s : State) (c : Nat) : Dma := lookD c s.spn.dma {}

/-- Change a channel. -/
def State.setDma (s : State) (c : Nat) (x : Dma) : State := { s with spn.dma := put c x s.spn.dma }

/-- The descriptor that a channel runs. -/
def State.desc (s : State) (c : Nat) : Desc := descOf (s.dma c).cur

/-- A channel goes to a state, with nothing held; what it gathered for a data row is written (09 R339). -/
def State.dmaRest (s : State) (c st : Nat) : State :=
  let s := ((s.set (R.DMA_STATE c) st).set (R.DMA_PENDING c) 0).set (R.DMA_BARRIER c) 0
  let s := { s with dram := s.dram.flush s.up c }
  s.setDma c { s.dma c with hold := [], chainDue := 0 }

/-- A channel halts (22 R773): what failed is latched, an interrupt is raised, and the matrix records the response (R763). -/
def State.dmaHalt (s : State) (c resp addr : Nat) (write : Bool) (typ : Nat) : State :=
  let s := s.dmaRest c 3
  let s := ((s.set (R.DMA_ERR_ADDR_LO c) addr).set (R.DMA_ERR_ADDR_HI c) (addr / 2 ^ 32)).set (R.DMA_ERR_RESP c) resp
  let s := ((s.set (R.DMA_ERR_DIR c) (b2n write)).set (R.DMA_ERR_DESC c) (s.get (R.DMA_CUR c))).bump (R.DMA_HALTS c) 1
  let s := s.setDma c { s.dma c with irq := (s.dma c).irq + 1 }
  if resp = 7 then s else s.matrixResponse resp typ (0x10 + c) addr

/-- Is an address in the register windows, which the matrix reaches by REG (22 R760)? -/
def inRegs (a : Nat) : Bool := !inSram a && !inSpace a

/-- One side of a descriptor: its address, the width of its elements, whether its address is fixed, and LENGTH. -/
structure Side where
  base : Nat
  width : Nat
  fixed : Bool
  len : Nat
deriving DecidableEq, Repr

/-- The two sides of a descriptor. -/
def Desc.from_ (d : Desc) : Side := ⟨d.src, d.sw, d.sfix, d.len⟩
def Desc.to (d : Desc) : Side := ⟨d.dst, d.dw, d.dfix, d.len⟩

/-- What an access to a side cannot cut: an element, and on REG a beat of four bytes at rising addresses (22 R760, R769). -/
def Side.grain (x : Side) : Nat := if !x.fixed && inRegs x.base then max x.width 4 else x.width

/-- The address of byte `p` of a side, where a burst that begins there goes. -/
def Side.at_ (x : Side) (p : Nat) : Nat := if x.fixed then x.base else x.base + p

/-- How far byte `p` of a side stands in its element. -/
def Side.phase (x : Side) (p : Nat) : Nat := (if x.fixed then p else x.base + p) % x.grain

/-- The last end of an element at or before byte `p`; the end of the descriptor is one. -/
def Side.down (x : Side) (p : Nat) : Nat := if p = x.len then p else p - x.phase p

/-- The first end of an element at or after byte `p`. -/
def Side.up (x : Side) (p : Nat) : Nat := if x.phase p = 0 then p else min x.len (p + (x.grain - x.phase p))

/-- The most bytes of a burst from byte `p` (22 R760, R768): 32 beats to SRAM and the DG ports, not across 256 bytes; 16 beats to REG, in one window. -/
def Side.cap (x : Side) (p : Nat) : Nat :=
  match x.fixed, inRegs x.base with
  | true, true => 16 * x.width
  | true, false => 32 * x.width
  | false, true => min (64 - (x.base + p) % 4) (0x100000 - (x.base + p) % 0x100000)
  | false, false => 256 - (x.base + p) % 256

/-- Where the read burst from byte `p` ends: whole elements while the holding register, which has room for `room` bytes, takes them, up to the
elements that hold the bytes before `till`. -/
def Side.readEnd (x : Side) (p room till : Nat) : Nat := x.down (min (x.up till) (min (p + room) (p + x.cap p)))

/-- Where the write burst from byte `p` ends: whole elements of the bytes before `till`. -/
def Side.writeEnd (x : Side) (p till : Nat) : Nat := x.down (min till (p + x.cap p))

/-- Channel `c` reads the bytes of a side from byte `p` to byte `q`; what a fixed side's last element holds beyond LENGTH is discarded (22 R769). -/
def State.dmaTake (s : State) (c : Nat) (x : Side) (p q : Nat) : List Byte × State :=
  if !x.fixed then s.dmaRead c (x.base + p) (q - p)
  else
    let r := (List.range (ceilDiv (q - p) x.width)).foldl (fun (r : List Byte × State) _ =>
      let e := r.2.dmaRead c x.base x.width
      (r.1 ++ e.1, e.2)) ([], s)
    (r.1.take (q - p), r.2)

/-- Write bytes to a side from byte `p` on: elements to a fixed side, of which the descriptor's last may carry byte strobes, or bytes at rising
addresses. -/
def State.dmaGive (s : State) (c : Nat) (x : Side) (p : Nat) (v : List Byte) : State :=
  if !x.fixed then s.dmaWrite c (x.base + p) v
  else (List.range (ceilDiv v.length x.width)).foldl (fun (s : State) i => s.dmaWrite c x.base ((v.drop (x.width * i)).take x.width)) s

/-- The response to the transaction of one side over the bytes up to `q`: what the environment answers to the one that holds byte `after`, or the
matrix's own. -/
def State.dmaAnswer (s : State) (fail : Option DmaFail) (write : Bool) (q a n : Nat) : Nat :=
  match fail with
  | some f => if f.write = write && f.after < q && f.resp ≠ 0 then f.resp else s.dmaResp a n
  | none => s.dmaResp a n

/-- Move bytes of the descriptor of channel `c` (22 R769): the channel reads a burst while the holding register has room and the events so far let
it, else writes a burst while it holds a whole element, or the end of the descriptor. A transaction that is not answered with OKAY halts the
channel, and what was written before it stays written (R773). -/
def State.dmaMove (s : State) (c : Nat) (d : Desc) (fail : Option DmaFail) : Nat → State
  | 0 => s
  | fuel + 1 =>
    let x := s.dma c
    let done := s.get (R.DMA_DONE c)
    let rp := done + x.hold.length
    let rq := d.from_.readEnd rp (256 - x.hold.length) x.till
    let wq := d.to.writeEnd done (min rp x.till)
    if rp < x.till && rp < rq then
      let a := d.from_.at_ rp
      let resp := s.dmaAnswer fail false rq a (rq - rp)
      if resp ≠ 0 then s.dmaHalt c resp a false (if rq - rp ≤ 4 then 0 else 2)
      else
        let r := s.dmaTake c d.from_ rp rq
        (r.2.setDma c { r.2.dma c with hold := x.hold ++ r.1 }).dmaMove c d fail fuel
    else if done < wq then
      let a := d.to.at_ done
      let resp := s.dmaAnswer fail true wq a (wq - done)
      if resp ≠ 0 then s.dmaHalt c resp a true (if wq - done ≤ 4 then 1 else 2)
      else
        let s := s.dmaGive c d.to done (x.hold.take (wq - done))
        let s := s.setDma c { s.dma c with hold := x.hold.drop (wq - done) }
        (s.set (R.DMA_DONE c) wq).dmaMove c d fail fuel
    else s

/-- One block of the running descriptor: BLOCK bytes, the whole descriptor where BLOCK is 0, or what is left of it (22 R770). After it the channel
waits for its next event, or runs to the completion of the descriptor (R771). Bytes of an element that the block's end cuts stay in the holding
register. -/
def State.dmaBlock (s : State) (c : Nat) (fail : Option DmaFail) : State :=
  let d := s.desc c
  let x := s.dma c
  let till := if d.block = 0 || d.trig = 0 then d.len else min d.len (x.till + d.block)
  let s := (s.set (R.DMA_STATE c) 1).setDma c { x with till := till }
  let s := s.dmaMove c d fail (2 * d.len + 2)
  if s.get (R.DMA_STATE c) = 3 then s
  else if s.get (R.DMA_DONE c) = d.len then s.set (R.DMA_BARRIER c) (b2n d.barrier)
  else s.set (R.DMA_STATE c) 2

/-- A channel fetches the descriptor at an SRAM offset (22 R770, R772, R774). -/
def State.dmaFetch (s : State) (c off : Nat) (fail : Option DmaFail) : State :=
  let v := memRead s.spn.sram off 32
  let d := descOf v
  let s := ((s.set (R.DMA_CUR c) off).set (R.DMA_DONE c) 0).set (R.DMA_BARRIER c) 0
  let s := s.setDma c { s.dma c with cur := v, hold := [], till := 0 }
  let s := { s with dram := s.dram.flush s.up c }
  if d.bad c then s.dmaHalt c 7 (sramBase + off) false 0
  else if d.trig = 0 then s.dmaBlock c fail
  else if s.has (R.DMA_PENDING c) then (s.set (R.DMA_PENDING c) 0).dmaBlock c fail
  else s.set (R.DMA_STATE c) 2

/-- GO: a channel that is IDLE or HALTED starts from DESC (22 R773, Table 22.9). -/
def State.dmaGo (s : State) (c : Nat) (fail : Option DmaFail) : State :=
  let s := s.set (R.DMA_CMD c) 1
  let st := s.get (R.DMA_STATE c)
  if st = 0 || st = 3 then (s.dmaRest c 1).dmaFetch c (s.get (R.DMA_DESC c)) fail else s

/-- STOP: a channel that runs or waits goes to IDLE (22 Table 22.9). -/
def State.dmaStop (s : State) (c : Nat) : State :=
  let s := s.set (R.DMA_CMD c) 2
  let st := s.get (R.DMA_STATE c)
  if st = 1 || st = 2 then s.dmaRest c 0 else s

/-- A TIMER or CHAIN event of a channel (22 R770). -/
def State.dmaEvent (s : State) (c : Nat) (fail : Option DmaFail) : State :=
  let st := s.get (R.DMA_STATE c)
  if st = 2 then s.dmaBlock c fail
  else if st ≠ 1 then s
  else if s.has (R.DMA_PENDING c) then s.bump (R.DMA_MISSED c) 1
  else s.set (R.DMA_PENDING c) 1

/-- The chain event of channel `c` goes to every channel whose descriptor waits for it (22 R772). -/
def State.notify (s : State) (c : Nat) : State :=
  (List.range 16).foldl (fun (s : State) x =>
    let st := s.get (R.DMA_STATE x)
    let d := s.desc x
    if (st = 1 || st = 2) && d.trig = 2 && d.chain = c then s.setDma x { s.dma x with chainDue := (s.dma x).chainDue + 1 } else s) s

/-- The descriptor of a channel completes (22 R771, R772). -/
def State.dmaDone (s : State) (c : Nat) (fail : Option DmaFail) : State :=
  let d := s.desc c
  if s.get (R.DMA_STATE c) ≠ 1 || s.get (R.DMA_DONE c) ≠ d.len || (s.dma c).cur = [] then s
  else
    let s := (s.set (R.DMA_BARRIER c) 0).bump (R.DMA_DESCS c) 1
    let s := if d.irq then s.setDma c { s.dma c with irq := (s.dma c).irq + 1 } else s
    let s := if d.notify then s.notify c else s
    if d.last then s.dmaRest c 0 else s.dmaFetch c d.next fail

/-! ### Commands -/

/-- 22 R773: GO is written to a channel. -/
def execDmaCmdGo (t : Time) (c : Fin 16) (fail : Option DmaFail) (s : State) : Host.Outcome State Fault Refusal :=
  released t s fun s => s.dmaGo c fail

/-- 22 R767, Table 22.9: STOP is written to a channel. -/
def execDmaCmdStop (t : Time) (c : Fin 16) (s : State) : Host.Outcome State Fault Refusal :=
  released t s fun s => s.dmaStop c

/-- 22 R770: a Whorl instant that is a multiple of PERIOD µs. -/
def execDmaTimerEvent (t : Time) (c : Fin 16) (fail : Option DmaFail) (s : State) : Host.Outcome State Fault Refusal :=
  released t s fun s =>
    let d := s.desc c
    if d.trig = 1 && s.now % (d.period * 1000) = 0 then s.dmaEvent c fail else s

/-- 22 R770: a chain event reaches a channel. -/
def execDmaChainEvent (t : Time) (c : Fin 16) (fail : Option DmaFail) (s : State) : Host.Outcome State Fault Refusal :=
  released t s fun s =>
    let x := s.dma c
    if x.chainDue = 0 then s else (s.setDma c { x with chainDue := x.chainDue - 1 }).dmaEvent c fail

/-- 22 R771, R772: the last write of a descriptor is accepted, or its barrier is complete. -/
def execDmaDescriptorDone (t : Time) (c : Fin 16) (fail : Option DmaFail) (s : State) : Host.Outcome State Fault Refusal :=
  released t s fun s => s.dmaDone c fail

/-- 22 R773, R781: a transaction of a running channel, or its barrier, completes with a response other than OKAY. -/
def execDmaHalt (t : Time) (c : Fin 16) (resp : Fin 6) (addr : Nat) (write : Bool) (s : State) : Host.Outcome State Fault Refusal :=
  released t s fun s => if s.get (R.DMA_STATE c) = 1 && resp.val ≠ 0 then s.dmaHalt c resp addr write (b2n write) else s

/-- 00 R16, R17: a register is written; a write of a channel's CMD acts (22 Table 22.9). -/
def execRegisterWrite (t : Time) (addr value : Nat) (s : State) : Host.Outcome State Fault Refusal :=
  released t s fun s =>
    let c := (addr - (R.DMA_CMD 0).addr) / 0x40
    let s' := s.writeReg addr value (2 ^ 32 - 1)
    if c < 16 && addr = (R.DMA_CMD c).addr then
      (if value % 4 = 1 then s'.dmaGo c none else if value % 4 = 2 then s'.dmaStop c else s')
    else s'

end Sys2Proof.Machine
end

