-- ==== Sys2Proof/Machine/Dispatch.lean ====
section
/-! DEFINITION. The dispatch of the commands: one arm for each constructor of Instr, each a direct call of its meaning. -/

namespace Sys2Proof.Machine

def exec (i : Instr) (s : State) : Host.Outcome State Fault Refusal :=
  match i with
  | .powerStart t w => Sys2Proof.Machine.execPowerStart t w s
  | .resetFall t torn report copy => Sys2Proof.Machine.execResetFall t torn report copy s
  | .imageCopyDone t good w => Sys2Proof.Machine.execImageCopyDone t good w s
  | .dramTrainingDone t failed => Sys2Proof.Machine.execDramTrainingDone t failed s
  | .whlRefWaitEnd t => Sys2Proof.Machine.execWhlRefWaitEnd t s
  | .chipServes t => Sys2Proof.Machine.execChipServes t s
  | .startWaitExpiry t => Sys2Proof.Machine.execStartWaitExpiry t s
  | .rejoin t => Sys2Proof.Machine.execRejoin t s
  | .dtlsClientHello t h => Sys2Proof.Machine.execDtlsClientHello t h s
  | .keyUpdate t sess => Sys2Proof.Machine.execKeyUpdate t sess s
  | .closeNotify t sess => Sys2Proof.Machine.execCloseNotify t sess s
  | .sessionIdleExpiry t sess => Sys2Proof.Machine.execSessionIdleExpiry t sess s
  | .certValidityCheck t => Sys2Proof.Machine.execCertValidityCheck t s
  | .sicpRecordUnparsable t sess => Sys2Proof.Machine.execSicpRecordUnparsable t sess s
  | .pairDatagramHandoff t => Sys2Proof.Machine.execPairDatagramHandoff t s
  | .ping t q => Sys2Proof.Machine.execPing t q s
  | .identity t q => Sys2Proof.Machine.execIdentity t q s
  | .routeQuery t q => Sys2Proof.Machine.execRouteQuery t q s
  | .regRead t q => Sys2Proof.Machine.execRegRead t q s
  | .regWrite t q => Sys2Proof.Machine.execRegWrite t q s
  | .counters t q => Sys2Proof.Machine.execCounters t q s
  | .logRead t q => Sys2Proof.Machine.execLogRead t q s
  | .subscribe t q => Sys2Proof.Machine.execSubscribe t q s
  | .unsubscribe t q => Sys2Proof.Machine.execUnsubscribe t q s
  | .faultClear t q => Sys2Proof.Machine.execFaultClear t q s
  | .take t q => Sys2Proof.Machine.execTake t q s
  | .salvoOpen t q => Sys2Proof.Machine.execSalvoOpen t q s
  | .salvoAdd t q => Sys2Proof.Machine.execSalvoAdd t q s
  | .salvoArm t q => Sys2Proof.Machine.execSalvoArm t q s
  | .salvoCommit t q => Sys2Proof.Machine.execSalvoCommit t q s
  | .salvoAbort t q => Sys2Proof.Machine.execSalvoAbort t q s
  | .delaySet t q => Sys2Proof.Machine.execDelaySet t q s
  | .flowSet t q => Sys2Proof.Machine.execFlowSet t q s
  | .flowRelease t q => Sys2Proof.Machine.execFlowRelease t q s
  | .audRoute t q => Sys2Proof.Machine.execAudRoute t q s
  | .busSet t q => Sys2Proof.Machine.execBusSet t q s
  | .audDelaySet t q => Sys2Proof.Machine.execAudDelaySet t q s
  | .windowSet t q => Sys2Proof.Machine.execWindowSet t q s
  | .windowClear t q => Sys2Proof.Machine.execWindowClear t q s
  | .layerOrder t q => Sys2Proof.Machine.execLayerOrder t q s
  | .bulkWrite t q => Sys2Proof.Machine.execBulkWrite t q s
  | .fence t q => Sys2Proof.Machine.execFence t q s
  | .timeRef t q => Sys2Proof.Machine.execTimeRef t q s
  | .timeRealign t q => Sys2Proof.Machine.execTimeRealign t q s
  | .timeSet t q => Sys2Proof.Machine.execTimeSet t q s
  | .tileDrain t q => Sys2Proof.Machine.execTileDrain t q s
  | .tileRestore t q => Sys2Proof.Machine.execTileRestore t q s
  | .islandReset t q => Sys2Proof.Machine.execIslandReset t q s
  | .pairSwap t q => Sys2Proof.Machine.execPairSwap t q s
  | .pairRestart t q => Sys2Proof.Machine.execPairRestart t q s
  | .pairRejoin t q => Sys2Proof.Machine.execPairRejoin t q s
  | .evacClear t q => Sys2Proof.Machine.execEvacClear t q s
  | .stageOpen t q => Sys2Proof.Machine.execStageOpen t q s
  | .stageWrite t q good plain => Sys2Proof.Machine.execStageWrite t q good plain s
  | .stageClose t q good w => Sys2Proof.Machine.execStageClose t q good w s
  | .keyGenerate t q => Sys2Proof.Machine.execKeyGenerate t q s
  | .keyImport t q w => Sys2Proof.Machine.execKeyImport t q w s
  | .keyDestroy t q => Sys2Proof.Machine.execKeyDestroy t q s
  | .keyAttest t q => Sys2Proof.Machine.execKeyAttest t q s
  | .lifecycleSet t q => Sys2Proof.Machine.execLifecycleSet t q s
  | .event t sess sub => Sys2Proof.Machine.execEvent t sess sub s
  | .cycleClose t => Sys2Proof.Machine.execCycleClose t s
  | .houseFrameBoundary t => Sys2Proof.Machine.execHouseFrameBoundary t s
  | .switchingPoint t dest => Sys2Proof.Machine.execSwitchingPoint t dest s
  | .journalRecordWrite t outcome => Sys2Proof.Machine.execJournalRecordWrite t outcome s
  | .cellCrcFail t tile isl conn seq be => Sys2Proof.Machine.execCellCrcFail t tile isl conn seq be s
  | .crcLimitExceeded t tile => Sys2Proof.Machine.execCrcLimitExceeded t tile s
  | .reorderTimeout t isl conn seq frame => Sys2Proof.Machine.execReorderTimeout t isl conn seq frame s
  | .tileDrainInstant t tile => Sys2Proof.Machine.execTileDrainInstant t tile s
  | .tileQueuesEmpty t tile => Sys2Proof.Machine.execTileQueuesEmpty t tile s
  | .tileFailure t tile cause src conn => Sys2Proof.Machine.execTileFailure t tile cause src conn s
  | .tileResetDone t tile good => Sys2Proof.Machine.execTileResetDone t tile good s
  | .tileRestoreInstant t tile => Sys2Proof.Machine.execTileRestoreInstant t tile s
  | .sdiSignalPresent t lane => Sys2Proof.Machine.execSdiSignalPresent t lane s
  | .sdiHuntDwellEnd t lane => Sys2Proof.Machine.execSdiHuntDwellEnd t lane s
  | .sdiClockRecovered t lane rate => Sys2Proof.Machine.execSdiClockRecovered t lane rate s
  | .sdiFrameReceived t lane f => Sys2Proof.Machine.execSdiFrameReceived t lane f s
  | .sdiEavLoss t lane => Sys2Proof.Machine.execSdiEavLoss t lane s
  | .sdiSignalAbsent t lane => Sys2Proof.Machine.execSdiSignalAbsent t lane s
  | .ethFrameRx t p f => Sys2Proof.Machine.execEthFrameRx t p f s
  | .mergeHoleTimeout t flow => Sys2Proof.Machine.execMergeHoleTimeout t flow s
  | .legDown t flow leg => Sys2Proof.Machine.execLegDown t flow leg s
  | .idleReleaseExpiry t flow leg => Sys2Proof.Machine.execIdleReleaseExpiry t flow leg s
  | .reportRepeat t => Sys2Proof.Machine.execReportRepeat t s
  | .portSignalLock t p => Sys2Proof.Machine.execPortSignalLock t p s
  | .portAligned t p => Sys2Proof.Machine.execPortAligned t p s
  | .portLockTimeout t p => Sys2Proof.Machine.execPortLockTimeout t p s
  | .portLockLost t p hi cut => Sys2Proof.Machine.execPortLockLost t p hi cut s
  | .portSignalLoss t p cut => Sys2Proof.Machine.execPortSignalLoss t p cut s
  | .octetPllUnlock t octet => Sys2Proof.Machine.execOctetPllUnlock t octet s
  | .pauseWatchdog t p q => Sys2Proof.Machine.execPauseWatchdog t p q s
  | .qignoreEnd t p q => Sys2Proof.Machine.execQignoreEnd t p q s
  | .beFrameAged t p q => Sys2Proof.Machine.execBeFrameAged t p q s
  | .counterHalf t p k => Sys2Proof.Machine.execCounterHalf t p k s
  | .counterSweep t => Sys2Proof.Machine.execCounterSweep t s
  | .ptpMessageTx t d p kind => Sys2Proof.Machine.execPtpMessageTx t d p kind s
  | .writePointerDeadline t lp dest => Sys2Proof.Machine.execWritePointerDeadline t lp dest s
  | .dramReadEcc t lp unc addr slot => Sys2Proof.Machine.execDramReadEcc t lp unc addr slot s
  | .dramScrub t lp found addr => Sys2Proof.Machine.execDramScrub t lp found addr s
  | .neighbourRefresh t lp bank row => Sys2Proof.Machine.execNeighbourRefresh t lp bank row s
  | .refreshWindowEnd t lp => Sys2Proof.Machine.execRefreshWindowEnd t lp s
  | .refreshRateRead t dg rates => Sys2Proof.Machine.execRefreshRateRead t dg rates s
  | .zqRecalibrate t dg good => Sys2Proof.Machine.execZqRecalibrate t dg good s
  | .pointChangeInstant t => Sys2Proof.Machine.execPointChangeInstant t s
  | .dgReset t dg cause => Sys2Proof.Machine.execDgReset t dg cause s
  | .audioTick t sdi far => Sys2Proof.Machine.execAudioTick t sdi far s
  | .audioSampleArrival t flow slot count v non => Sys2Proof.Machine.execAudioSampleArrival t flow slot count v non s
  | .inputGap t ic => Sys2Proof.Machine.execInputGap t ic s
  | .sdiAudioSlip t src margin => Sys2Proof.Machine.execSdiAudioSlip t src margin s
  | .busIdleEntry t bus => Sys2Proof.Machine.execBusIdleEntry t bus s
  | .tdmFsEdge t p periods ins => Sys2Proof.Machine.execTdmFsEdge t p periods ins s
  | .tdmSyncLoss t p cause => Sys2Proof.Machine.execTdmSyncLoss t p cause s
  | .tdmMutingEnd t p => Sys2Proof.Machine.execTdmMutingEnd t p s
  | .audReset t => Sys2Proof.Machine.execAudReset t s
  | .audReload t => Sys2Proof.Machine.execAudReload t s
  | .windowEngineWrite t win m crc => Sys2Proof.Machine.execWindowEngineWrite t win m crc s
  | .headFrameSelect t h => Sys2Proof.Machine.execHeadFrameSelect t h s
  | .winHoldExpiry t win => Sys2Proof.Machine.execWinHoldExpiry t win s
  | .servoSample t m => Sys2Proof.Machine.execServoSample t m s
  | .refQualify t ref => Sys2Proof.Machine.execRefQualify t ref s
  | .refDisqualify t ref cause => Sys2Proof.Machine.execRefDisqualify t ref cause s
  | .wtrExpiry t ref => Sys2Proof.Machine.execWtrExpiry t ref s
  | .whlLockReached t => Sys2Proof.Machine.execWhlLockReached t s
  | .whlOutOfLock t => Sys2Proof.Machine.execWhlOutOfLock t s
  | .holdoverExpiry t => Sys2Proof.Machine.execHoldoverExpiry t s
  | .whlNoref t => Sys2Proof.Machine.execWhlNoref t s
  | .timeStep t => Sys2Proof.Machine.execTimeStep t s
  | .xoLoss t => Sys2Proof.Machine.execXoLoss t s
  | .twinTimeExcess t => Sys2Proof.Machine.execTwinTimeExcess t s
  | .wireCalibrate t isl => Sys2Proof.Machine.execWireCalibrate t isl s
  | .wireLoss t isl => Sys2Proof.Machine.execWireLoss t isl s
  | .whlReset t => Sys2Proof.Machine.execWhlReset t s
  | .rtcMinuteWrite t => Sys2Proof.Machine.execRtcMinuteWrite t s
  | .strandUnitRx t p u => Sys2Proof.Machine.execStrandUnitRx t p u s
  | .strandPortUp t p => Sys2Proof.Machine.execStrandPortUp t p s
  | .strandHello t p h => Sys2Proof.Machine.execStrandHello t p h s
  | .strandMeasureDone t p trips => Sys2Proof.Machine.execStrandMeasureDone t p trips s
  | .strandEcho t p reply => Sys2Proof.Machine.execStrandEcho t p reply s
  | .strandDown t p => Sys2Proof.Machine.execStrandDown t p s
  | .strandCreditSend t p heldM heldC => Sys2Proof.Machine.execStrandCreditSend t p heldM heldC s
  | .linkState t op => Sys2Proof.Machine.execLinkState t op s
  | .skeinArm t port m => Sys2Proof.Machine.execSkeinArm t port m s
  | .skeinReport t port m => Sys2Proof.Machine.execSkeinReport t port m s
  | .skeinDecision t port m => Sys2Proof.Machine.execSkeinDecision t port m s
  | .skeinRelease t port m => Sys2Proof.Machine.execSkeinRelease t port m s
  | .claim t port pair => Sys2Proof.Machine.execClaim t port pair s
  | .skeinMessageRepeat t => Sys2Proof.Machine.execSkeinMessageRepeat t s
  | .mirrorHoldExpiry t p => Sys2Proof.Machine.execMirrorHoldExpiry t p s
  | .dblHello t h b => Sys2Proof.Machine.execDblHello t h b s
  | .dblBeat t h evac => Sys2Proof.Machine.execDblBeat t h evac s
  | .dblBeatSend t => Sys2Proof.Machine.execDblBeatSend t s
  | .dblCopy t h close effs whole agree => Sys2Proof.Machine.execDblCopy t h close effs whole agree s
  | .dblConfirm t h close => Sys2Proof.Machine.execDblConfirm t h close s
  | .dblNack t h close => Sys2Proof.Machine.execDblNack t h close s
  | .dblSnap t h part parts effs => Sys2Proof.Machine.execDblSnap t h part parts effs s
  | .dblBulk t h key off clear data => Sys2Proof.Machine.execDblBulk t h key off clear data s
  | .dblHandoff t h m => Sys2Proof.Machine.execDblHandoff t h m s
  | .dblEvent t h e => Sys2Proof.Machine.execDblEvent t h e s
  | .dblTime t diff held ref => Sys2Proof.Machine.execDblTime t diff held ref s
  | .dblYield t h => Sys2Proof.Machine.execDblYield t h s
  | .dblSwap t h reqs seqs => Sys2Proof.Machine.execDblSwap t h reqs seqs s
  | .dblLinkLoss t tie since => Sys2Proof.Machine.execDblLinkLoss t tie since s
  | .dblLaneDown t lane => Sys2Proof.Machine.execDblLaneDown t lane s
  | .tieInChange t edges => Sys2Proof.Machine.execTieInChange t edges s
  | .tieFault t => Sys2Proof.Machine.execTieFault t s
  | .settleEnd t => Sys2Proof.Machine.execSettleEnd t s
  | .handoffPeriodEnd t => Sys2Proof.Machine.execHandoffPeriodEnd t s
  | .errorLineOccurrence t isl cls cond code typ master addr => Sys2Proof.Machine.execErrorLineOccurrence t isl cls cond code typ master addr s
  | .currentBitExpiry t isl => Sys2Proof.Machine.execCurrentBitExpiry t isl s
  | .fltCheck t => Sys2Proof.Machine.execFltCheck t s
  | .islandError t isl off bit cls dropped => Sys2Proof.Machine.execIslandError t isl off bit cls dropped s
  | .logBlockWrite t outcome => Sys2Proof.Machine.execLogBlockWrite t outcome s
  | .tempSample t readings => Sys2Proof.Machine.execTempSample t readings s
  | .lockstep t pair addr => Sys2Proof.Machine.execLockstep t pair addr s
  | .sramEcc t unc addr => Sys2Proof.Machine.execSramEcc t unc addr s
  | .transactionTimeout t isl off master typ => Sys2Proof.Machine.execTransactionTimeout t isl off master typ s
  | .islandFence t isl => Sys2Proof.Machine.execIslandFence t isl s
  | .islandRearmed t isl good => Sys2Proof.Machine.execIslandRearmed t isl good s
  | .spnReset t good => Sys2Proof.Machine.execSpnReset t good s
  | .keyReset t => Sys2Proof.Machine.execKeyReset t s
  | .bootReset t => Sys2Proof.Machine.execBootReset t s
  | .dmaCmdGo t c fail => Sys2Proof.Machine.execDmaCmdGo t c fail s
  | .dmaCmdStop t c => Sys2Proof.Machine.execDmaCmdStop t c s
  | .dmaTimerEvent t c fail => Sys2Proof.Machine.execDmaTimerEvent t c fail s
  | .dmaChainEvent t c fail => Sys2Proof.Machine.execDmaChainEvent t c fail s
  | .dmaDescriptorDone t c fail => Sys2Proof.Machine.execDmaDescriptorDone t c fail s
  | .dmaHalt t c resp addr write => Sys2Proof.Machine.execDmaHalt t c resp addr write s
  | .xrdLenWrite t len => Sys2Proof.Machine.execXrdLenWrite t len s
  | .xrdDataRead t => Sys2Proof.Machine.execXrdDataRead t s
  | .rcFieldRead t addr => Sys2Proof.Machine.execRcFieldRead t addr s
  | .counterLowRead t addr => Sys2Proof.Machine.execCounterLowRead t addr s
  | .registerWrite t addr value => Sys2Proof.Machine.execRegisterWrite t addr value s
  | .stageIdleExpiry t => Sys2Proof.Machine.execStageIdleExpiry t s
  | .salvoHandleExpiry t => Sys2Proof.Machine.execSalvoHandleExpiry t s
  | .rngFail t => Sys2Proof.Machine.execRngFail t s
  | .tamper t input => Sys2Proof.Machine.execTamper t input s
  | .tamperRelease t => Sys2Proof.Machine.execTamperRelease t s
  | .gpiSample t levels => Sys2Proof.Machine.execGpiSample t levels s
  | .evacSample t a b => Sys2Proof.Machine.execEvacSample t a b s
  | .dblLaneUp t lane => Sys2Proof.Machine.execDblLaneUp t lane s
  | .strandHelloSend t p => Sys2Proof.Machine.execStrandHelloSend t p s
  | .leapSecond t => Sys2Proof.Machine.execLeapSecond t s
  | .remoteFault t p rf lf => Sys2Proof.Machine.execRemoteFault t p rf lf s
  | .gratuitousArpRepeat t => Sys2Proof.Machine.execGratuitousArpRepeat t s
  | .targetSetChange t key target add => Sys2Proof.Machine.execTargetSetChange t key target add s

end Sys2Proof.Machine
end

