-- ==== Sys2Proof/WellFormed.lean ====
section
/-! DEFINITION. Well-formed commands: the operands whose Lean type is wider than what reaches the chip are held to the widths of the spec. The
meanings do not rest on it: `exec` answers for any command. -/

namespace Sys2Proof.Machine

/-- An instant has 48 bits of seconds (12 R445; 15 Table 15.3). -/
def timeOk (t : Time) : Bool := t / 1000000000 < 2 ^ 48

/-- The header fields of Table 15.2 have their widths, and a datagram holds the body. -/
def Req.wf (q : Req) : Bool := q.version < 2 ^ 8 && q.flags < 2 ^ 16 && q.id < 2 ^ 32 && q.length < 2 ^ 32 && q.body.length < 2 ^ 16

/-- A record whose TYPE is no request's has a TYPE of one byte that Table 15.4 gives to no request (15 R570). -/
def OddRecord.wf : OddRecord → Bool
  | .typed typ q => typ < 2 ^ 8 && !requestTypes.contains typ && q.wf
  | _ => true

/-- An audio sample has 24 bits (10 R363). -/
def smpl (v : Int) : Bool := -(2 ^ 23) ≤ v && v < 2 ^ 23

/-- A received SDI frame has lines and words, and its data words have 10 bits (05 R183). -/
def SdiFrame.wf (f : SdiFrame) : Bool :=
  0 < f.lines && 0 < f.words && f.trsLines ≤ f.lines && f.picCrc < 2 ^ 32 && f.anc.all (fun a => a.did < 2 ^ 8 && a.sdid < 2 ^ 8)

/-- A received frame has a length of 16 bits and a tag of 16 bits (07 R279). -/
def EthFrame.wf (f : EthFrame) : Bool := f.len < 2 ^ 16 && f.tag.all (· < 2 ^ 16)

/-- A Strand unit has the widths of 13 Table 13.1. -/
def SkUnit.wf (u : SkUnit) : Bool :=
  u.sconn < 2 ^ 15 && u.typ < 2 ^ 3 && u.useq < 2 ^ 16 && u.freedM < 2 ^ 16 && u.freedC < 2 ^ 16 && u.hcrc < 2 ^ 16

/-- A Skein message has the widths of 13 Tables 13.5 and 13.8 (a pair's number is an even chip number below 1024, 13 R484). -/
def SkMsg.wf (m : SkMsg) : Bool :=
  m.id < 2 ^ 32 && m.target < 2 ^ 10 && m.target % 2 = 0 && m.coord < 2 ^ 10 && m.coord % 2 = 0 && m.num < 2 ^ 54

/-- A LINK_STATE message names a chip of the Skein (01 R46). -/
def LinkOp.wf : LinkOp → Bool
  | .send => true
  | .rx port _ chip _ => port < 256 && chip < 2 ^ 10
  | .twin chip _ => chip < 2 ^ 10

/-- A frame on the doubling link carries a role code (14 Table 14.2). -/
def DblHead.wf (h : DblHead) : Bool := h.role < 8

end Sys2Proof.Machine

namespace Sys2Proof

open Sys2Proof.Machine

/-- The instant of a command. -/
def Instr.time : Instr → Time
  | .powerStart t _ => t
  | .resetFall t _ _ _ => t
  | .imageCopyDone t _ _ => t
  | .dramTrainingDone t _ => t
  | .whlRefWaitEnd t => t
  | .chipServes t => t
  | .startWaitExpiry t => t
  | .rejoin t => t
  | .dtlsClientHello t _ => t
  | .keyUpdate t _ => t
  | .closeNotify t _ => t
  | .sessionIdleExpiry t _ => t
  | .certValidityCheck t => t
  | .sicpRecordUnparsable t _ => t
  | .pairDatagramHandoff t => t
  | .ping t _ => t
  | .identity t _ => t
  | .routeQuery t _ => t
  | .regRead t _ => t
  | .regWrite t _ => t
  | .counters t _ => t
  | .logRead t _ => t
  | .subscribe t _ => t
  | .unsubscribe t _ => t
  | .faultClear t _ => t
  | .take t _ => t
  | .salvoOpen t _ => t
  | .salvoAdd t _ => t
  | .salvoArm t _ => t
  | .salvoCommit t _ => t
  | .salvoAbort t _ => t
  | .delaySet t _ => t
  | .flowSet t _ => t
  | .flowRelease t _ => t
  | .audRoute t _ => t
  | .busSet t _ => t
  | .audDelaySet t _ => t
  | .windowSet t _ => t
  | .windowClear t _ => t
  | .layerOrder t _ => t
  | .bulkWrite t _ => t
  | .fence t _ => t
  | .timeRef t _ => t
  | .timeRealign t _ => t
  | .timeSet t _ => t
  | .tileDrain t _ => t
  | .tileRestore t _ => t
  | .islandReset t _ => t
  | .pairSwap t _ => t
  | .pairRestart t _ => t
  | .pairRejoin t _ => t
  | .evacClear t _ => t
  | .stageOpen t _ => t
  | .stageWrite t _ _ _ => t
  | .stageClose t _ _ _ => t
  | .keyGenerate t _ => t
  | .keyImport t _ _ => t
  | .keyDestroy t _ => t
  | .keyAttest t _ => t
  | .lifecycleSet t _ => t
  | .event t _ _ => t
  | .cycleClose t => t
  | .houseFrameBoundary t => t
  | .switchingPoint t _ => t
  | .journalRecordWrite t _ => t
  | .cellCrcFail t _ _ _ _ _ => t
  | .crcLimitExceeded t _ => t
  | .reorderTimeout t _ _ _ _ => t
  | .tileDrainInstant t _ => t
  | .tileQueuesEmpty t _ => t
  | .tileFailure t _ _ _ _ => t
  | .tileResetDone t _ _ => t
  | .tileRestoreInstant t _ => t
  | .sdiSignalPresent t _ => t
  | .sdiHuntDwellEnd t _ => t
  | .sdiClockRecovered t _ _ => t
  | .sdiFrameReceived t _ _ => t
  | .sdiEavLoss t _ => t
  | .sdiSignalAbsent t _ => t
  | .ethFrameRx t _ _ => t
  | .mergeHoleTimeout t _ => t
  | .legDown t _ _ => t
  | .idleReleaseExpiry t _ _ => t
  | .reportRepeat t => t
  | .portSignalLock t _ => t
  | .portAligned t _ => t
  | .portLockTimeout t _ => t
  | .portLockLost t _ _ _ => t
  | .portSignalLoss t _ _ => t
  | .octetPllUnlock t _ => t
  | .pauseWatchdog t _ _ => t
  | .qignoreEnd t _ _ => t
  | .beFrameAged t _ _ => t
  | .counterHalf t _ _ => t
  | .counterSweep t => t
  | .ptpMessageTx t _ _ _ => t
  | .writePointerDeadline t _ _ => t
  | .dramReadEcc t _ _ _ _ => t
  | .dramScrub t _ _ _ => t
  | .neighbourRefresh t _ _ _ => t
  | .refreshWindowEnd t _ => t
  | .refreshRateRead t _ _ => t
  | .zqRecalibrate t _ _ => t
  | .pointChangeInstant t => t
  | .dgReset t _ _ => t
  | .audioTick t _ _ => t
  | .audioSampleArrival t _ _ _ _ _ => t
  | .inputGap t _ => t
  | .sdiAudioSlip t _ _ => t
  | .busIdleEntry t _ => t
  | .tdmFsEdge t _ _ _ => t
  | .tdmSyncLoss t _ _ => t
  | .tdmMutingEnd t _ => t
  | .audReset t => t
  | .audReload t => t
  | .windowEngineWrite t _ _ _ => t
  | .headFrameSelect t _ => t
  | .winHoldExpiry t _ => t
  | .servoSample t _ => t
  | .refQualify t _ => t
  | .refDisqualify t _ _ => t
  | .wtrExpiry t _ => t
  | .whlLockReached t => t
  | .whlOutOfLock t => t
  | .holdoverExpiry t => t
  | .whlNoref t => t
  | .timeStep t => t
  | .xoLoss t => t
  | .twinTimeExcess t => t
  | .wireCalibrate t _ => t
  | .wireLoss t _ => t
  | .whlReset t => t
  | .rtcMinuteWrite t => t
  | .strandUnitRx t _ _ => t
  | .strandPortUp t _ => t
  | .strandHello t _ _ => t
  | .strandMeasureDone t _ _ => t
  | .strandEcho t _ _ => t
  | .strandDown t _ => t
  | .strandCreditSend t _ _ _ => t
  | .linkState t _ => t
  | .skeinArm t _ _ => t
  | .skeinReport t _ _ => t
  | .skeinDecision t _ _ => t
  | .skeinRelease t _ _ => t
  | .claim t _ _ => t
  | .skeinMessageRepeat t => t
  | .mirrorHoldExpiry t _ => t
  | .dblHello t _ _ => t
  | .dblBeat t _ _ => t
  | .dblBeatSend t => t
  | .dblCopy t _ _ _ _ _ => t
  | .dblConfirm t _ _ => t
  | .dblNack t _ _ => t
  | .dblSnap t _ _ _ _ => t
  | .dblBulk t _ _ _ _ _ => t
  | .dblHandoff t _ _ => t
  | .dblEvent t _ _ => t
  | .dblTime t _ _ _ => t
  | .dblYield t _ => t
  | .dblSwap t _ _ _ => t
  | .dblLinkLoss t _ _ => t
  | .dblLaneDown t _ => t
  | .tieInChange t _ => t
  | .tieFault t => t
  | .settleEnd t => t
  | .handoffPeriodEnd t => t
  | .errorLineOccurrence t _ _ _ _ _ _ _ => t
  | .currentBitExpiry t _ => t
  | .fltCheck t => t
  | .islandError t _ _ _ _ _ => t
  | .logBlockWrite t _ => t
  | .tempSample t _ => t
  | .lockstep t _ _ => t
  | .sramEcc t _ _ => t
  | .transactionTimeout t _ _ _ _ => t
  | .islandFence t _ => t
  | .islandRearmed t _ _ => t
  | .spnReset t _ => t
  | .keyReset t => t
  | .bootReset t => t
  | .dmaCmdGo t _ _ => t
  | .dmaCmdStop t _ => t
  | .dmaTimerEvent t _ _ => t
  | .dmaChainEvent t _ _ => t
  | .dmaDescriptorDone t _ _ => t
  | .dmaHalt t _ _ _ _ => t
  | .xrdLenWrite t _ => t
  | .xrdDataRead t => t
  | .rcFieldRead t _ => t
  | .counterLowRead t _ => t
  | .registerWrite t _ _ => t
  | .stageIdleExpiry t => t
  | .salvoHandleExpiry t => t
  | .rngFail t => t
  | .tamper t _ => t
  | .tamperRelease t => t
  | .gpiSample t _ => t
  | .evacSample t _ _ => t
  | .dblLaneUp t _ => t
  | .strandHelloSend t _ => t
  | .leapSecond t => t
  | .remoteFault t _ _ _ => t
  | .gratuitousArpRepeat t => t
  | .targetSetChange t _ _ _ => t

/-- Is every operand of a command within the widths of the spec? -/
def Instr.wf : Instr → Bool
  | .powerStart t w => timeOk t && w.service.all (fun x => x.1 + x.2.length ≤ w.density * 131072)
  | .resetFall t _ _ _ => timeOk t
  | .imageCopyDone t _ _ => timeOk t
  | .dramTrainingDone t _ => timeOk t
  | .whlRefWaitEnd t => timeOk t
  | .chipServes t => timeOk t
  | .startWaitExpiry t => timeOk t
  | .rejoin t => timeOk t
  | .dtlsClientHello t h => timeOk t && h.name.length ≤ 64 && h.addr < 2 ^ 128 && h.dport < 2 ^ 16 && h.port < 258
  | .keyUpdate t _ => timeOk t
  | .closeNotify t _ => timeOk t
  | .sessionIdleExpiry t _ => timeOk t
  | .certValidityCheck t => timeOk t
  | .sicpRecordUnparsable t r => timeOk t && r.wf
  | .pairDatagramHandoff t => timeOk t
  | .ping t q => timeOk t && q.wf
  | .identity t q => timeOk t && q.wf
  | .routeQuery t q => timeOk t && q.wf
  | .regRead t q => timeOk t && q.wf
  | .regWrite t q => timeOk t && q.wf
  | .counters t q => timeOk t && q.wf
  | .logRead t q => timeOk t && q.wf
  | .subscribe t q => timeOk t && q.wf
  | .unsubscribe t q => timeOk t && q.wf
  | .faultClear t q => timeOk t && q.wf
  | .take t q => timeOk t && q.wf
  | .salvoOpen t q => timeOk t && q.wf
  | .salvoAdd t q => timeOk t && q.wf
  | .salvoArm t q => timeOk t && q.wf
  | .salvoCommit t q => timeOk t && q.wf
  | .salvoAbort t q => timeOk t && q.wf
  | .delaySet t q => timeOk t && q.wf
  | .flowSet t q => timeOk t && q.wf
  | .flowRelease t q => timeOk t && q.wf
  | .audRoute t q => timeOk t && q.wf
  | .busSet t q => timeOk t && q.wf
  | .audDelaySet t q => timeOk t && q.wf
  | .windowSet t q => timeOk t && q.wf
  | .windowClear t q => timeOk t && q.wf
  | .layerOrder t q => timeOk t && q.wf
  | .bulkWrite t q => timeOk t && q.wf
  | .fence t q => timeOk t && q.wf
  | .timeRef t q => timeOk t && q.wf
  | .timeRealign t q => timeOk t && q.wf
  | .timeSet t q => timeOk t && q.wf
  | .tileDrain t q => timeOk t && q.wf
  | .tileRestore t q => timeOk t && q.wf
  | .islandReset t q => timeOk t && q.wf
  | .pairSwap t q => timeOk t && q.wf
  | .pairRestart t q => timeOk t && q.wf
  | .pairRejoin t q => timeOk t && q.wf
  | .evacClear t q => timeOk t && q.wf
  | .stageOpen t q => timeOk t && q.wf
  | .stageWrite t q _ plain => timeOk t && q.wf && plain.length ≤ q.body.length
  | .stageClose t q _ _ => timeOk t && q.wf
  | .keyGenerate t q => timeOk t && q.wf
  | .keyImport t q _ => timeOk t && q.wf
  | .keyDestroy t q => timeOk t && q.wf
  | .keyAttest t q => timeOk t && q.wf
  | .lifecycleSet t q => timeOk t && q.wf
  | .event t _ _ => timeOk t
  | .cycleClose t => timeOk t
  | .houseFrameBoundary t => timeOk t
  | .switchingPoint t _ => timeOk t
  | .journalRecordWrite t _ => timeOk t
  | .cellCrcFail t _ isl conn seq _ => timeOk t && isl < 40 && conn < 2 ^ 15 && seq < 2 ^ 32
  | .crcLimitExceeded t _ => timeOk t
  | .reorderTimeout t isl _ seq frame => timeOk t && isl < 40 && seq < 2 ^ 32 && frame < 2 ^ 16
  | .tileDrainInstant t _ => timeOk t
  | .tileQueuesEmpty t _ => timeOk t
  | .tileFailure t _ cause src conn => timeOk t && cause < 3 && src < 40 && conn < 2 ^ 15
  | .tileResetDone t _ _ => timeOk t
  | .tileRestoreInstant t _ => timeOk t
  | .sdiSignalPresent t _ => timeOk t
  | .sdiHuntDwellEnd t _ => timeOk t
  | .sdiClockRecovered t _ _ => timeOk t
  | .sdiFrameReceived t _ f => timeOk t && f.wf
  | .sdiEavLoss t _ => timeOk t
  | .sdiSignalAbsent t _ => timeOk t
  | .ethFrameRx t _ f => timeOk t && f.wf
  | .mergeHoleTimeout t _ => timeOk t
  | .legDown t _ _ => timeOk t
  | .idleReleaseExpiry t _ _ => timeOk t
  | .reportRepeat t => timeOk t
  | .portSignalLock t _ => timeOk t
  | .portAligned t _ => timeOk t
  | .portLockTimeout t _ => timeOk t
  | .portLockLost t _ _ _ => timeOk t
  | .portSignalLoss t _ _ => timeOk t
  | .octetPllUnlock t _ => timeOk t
  | .pauseWatchdog t _ _ => timeOk t
  | .qignoreEnd t _ _ => timeOk t
  | .beFrameAged t _ _ => timeOk t
  | .counterHalf t _ _ => timeOk t
  | .counterSweep t => timeOk t
  | .ptpMessageTx t _ _ _ => timeOk t
  | .writePointerDeadline t _ _ => timeOk t
  | .dramReadEcc t _ _ addr _ => timeOk t && addr < 2 ^ 40
  | .dramScrub t _ _ addr => timeOk t && addr < 2 ^ 40
  | .neighbourRefresh t _ _ row => timeOk t && row < 2 ^ 16
  | .refreshWindowEnd t _ => timeOk t
  | .refreshRateRead t _ rates => timeOk t && rates.length = 4
  | .zqRecalibrate t _ _ => timeOk t
  | .pointChangeInstant t => timeOk t
  | .dgReset t _ _ => timeOk t
  | .audioTick t sdi far => timeOk t && sdi.all (fun x => x.1 < 1024) && far.all (fun x => x.2.length = 6)
  | .audioSampleArrival t _ slot _ v _ => timeOk t && slot < 64 && smpl v
  | .inputGap t _ => timeOk t
  | .sdiAudioSlip t _ _ => timeOk t
  | .busIdleEntry t _ => timeOk t
  | .tdmFsEdge t _ _ ins => timeOk t && ins.all smpl
  | .tdmSyncLoss t _ _ => timeOk t
  | .tdmMutingEnd t _ => timeOk t
  | .audReset t => timeOk t
  | .audReload t => timeOk t
  | .windowEngineWrite t _ _ _ => timeOk t
  | .headFrameSelect t _ => timeOk t
  | .winHoldExpiry t _ => timeOk t
  | .servoSample t m => timeOk t && (m.map (·.1)).Nodup
  | .refQualify t _ => timeOk t
  | .refDisqualify t _ cause => timeOk t && cause < 16
  | .wtrExpiry t _ => timeOk t
  | .whlLockReached t => timeOk t
  | .whlOutOfLock t => timeOk t
  | .holdoverExpiry t => timeOk t
  | .whlNoref t => timeOk t
  | .timeStep t => timeOk t
  | .xoLoss t => timeOk t
  | .twinTimeExcess t => timeOk t
  | .wireCalibrate t _ => timeOk t
  | .wireLoss t _ => timeOk t
  | .whlReset t => timeOk t
  | .rtcMinuteWrite t => timeOk t
  | .strandUnitRx t _ u => timeOk t && u.wf
  | .strandPortUp t _ => timeOk t
  | .strandHello t _ h => timeOk t && h.chip < 2 ^ 10
  | .strandMeasureDone t _ trips => timeOk t && trips.all (fun x => x.1 < 2 ^ 32 && x.2 ≤ x.1)
  | .strandEcho t _ _ => timeOk t
  | .strandDown t _ => timeOk t
  | .strandCreditSend t _ heldM heldC => timeOk t && heldM < 2 ^ 16 && heldC < 2 ^ 16
  | .linkState t op => timeOk t && op.wf
  | .skeinArm t port m => timeOk t && port < 256 && m.wf
  | .skeinReport t port m => timeOk t && port < 256 && m.wf
  | .skeinDecision t port m => timeOk t && port < 256 && m.wf
  | .skeinRelease t port m => timeOk t && port < 256 && m.wf
  | .claim t port pair => timeOk t && port < 256 && pair < 2 ^ 10 && pair % 2 = 0
  | .skeinMessageRepeat t => timeOk t
  | .mirrorHoldExpiry t _ => timeOk t
  | .dblHello t h _ => timeOk t && h.wf
  | .dblBeat t h _ => timeOk t && h.wf
  | .dblBeatSend t => timeOk t
  | .dblCopy t h _ _ _ _ => timeOk t && h.wf
  | .dblConfirm t h _ => timeOk t && h.wf
  | .dblNack t h _ => timeOk t && h.wf
  | .dblSnap t h part parts _ => timeOk t && h.wf && part < parts
  | .dblBulk t h _ _ _ _ => timeOk t && h.wf
  | .dblHandoff t h _ => timeOk t && h.wf
  | .dblEvent t h _ => timeOk t && h.wf
  | .dblTime t _ _ ref => timeOk t && ref < 16
  | .dblYield t h => timeOk t && h.wf
  | .dblSwap t h _ _ => timeOk t && h.wf
  | .dblLinkLoss t _ _ => timeOk t
  | .dblLaneDown t _ => timeOk t
  | .tieInChange t _ => timeOk t
  | .tieFault t => timeOk t
  | .settleEnd t => timeOk t
  | .handoffPeriodEnd t => timeOk t
  | .errorLineOccurrence t _ _ _ code typ master addr => timeOk t && code < 2 ^ 16 && typ < 5 && master < 2 ^ 8 && addr < 2 ^ 40
  | .currentBitExpiry t _ => timeOk t
  | .fltCheck t => timeOk t
  | .islandError t _ off _ _ _ => timeOk t && off < 2 ^ 20 && off % 4 = 0
  | .logBlockWrite t _ => timeOk t
  | .tempSample t readings => timeOk t && readings.length = 8
  | .lockstep t _ addr => timeOk t && addr < 2 ^ 40
  | .sramEcc t _ addr => timeOk t && addr < 2 ^ 40
  | .transactionTimeout t _ off master typ => timeOk t && off < 2 ^ 20 && typ < 5 && master < 2 ^ 8
  | .islandFence t _ => timeOk t
  | .islandRearmed t _ _ => timeOk t
  | .spnReset t _ => timeOk t
  | .keyReset t => timeOk t
  | .bootReset t => timeOk t
  | .dmaCmdGo t _ _ => timeOk t
  | .dmaCmdStop t _ => timeOk t
  | .dmaTimerEvent t _ _ => timeOk t
  | .dmaChainEvent t _ _ => timeOk t
  | .dmaDescriptorDone t _ _ => timeOk t
  | .dmaHalt t _ _ addr _ => timeOk t && addr < 2 ^ 40
  | .xrdLenWrite t len => timeOk t && len < 2 ^ 32
  | .xrdDataRead t => timeOk t
  | .rcFieldRead t addr => timeOk t && addr < 2 ^ 40
  | .counterLowRead t addr => timeOk t && addr < 2 ^ 40
  | .registerWrite t addr value => timeOk t && addr < 2 ^ 40 && value < 2 ^ 32
  | .stageIdleExpiry t => timeOk t
  | .salvoHandleExpiry t => timeOk t
  | .rngFail t => timeOk t
  | .tamper t _ => timeOk t
  | .tamperRelease t => timeOk t
  | .gpiSample t levels => timeOk t && levels < 2 ^ 64
  | .evacSample t _ _ => timeOk t
  | .dblLaneUp t _ => timeOk t
  | .strandHelloSend t _ => timeOk t
  | .leapSecond t => timeOk t
  | .remoteFault t _ _ _ => timeOk t
  | .gratuitousArpRepeat t => timeOk t
  | .targetSetChange t _ _ _ => timeOk t

end Sys2Proof
end

