-- ==== Sys2Proof/Safety.lean ====
section
/-! DEFINITION. What a safe run of the block is, and the terms in which statements speak of it: when a command takes effect at all, when a SiCP
request is accepted and what its acceptance leaves, and the form that every state keeps. -/

namespace Sys2Proof

open Sys2Proof.Machine

/-- The commands that act on a stopped chip too: the pins that begin and end a start (18 R677). -/
def Instr.isPowerPin : Instr → Bool
  | .powerStart .. => true
  | .resetFall .. => true
  | _ => false

/-- The SiCP message of a command that is a request (15 Table 15.4). -/
def Instr.req : Instr → Option Req
  | .ping _ q => some q
  | .identity _ q => some q
  | .routeQuery _ q => some q
  | .regRead _ q => some q
  | .regWrite _ q => some q
  | .counters _ q => some q
  | .logRead _ q => some q
  | .subscribe _ q => some q
  | .unsubscribe _ q => some q
  | .faultClear _ q => some q
  | .take _ q => some q
  | .salvoOpen _ q => some q
  | .salvoAdd _ q => some q
  | .salvoArm _ q => some q
  | .salvoCommit _ q => some q
  | .salvoAbort _ q => some q
  | .delaySet _ q => some q
  | .flowSet _ q => some q
  | .flowRelease _ q => some q
  | .audRoute _ q => some q
  | .busSet _ q => some q
  | .audDelaySet _ q => some q
  | .windowSet _ q => some q
  | .windowClear _ q => some q
  | .layerOrder _ q => some q
  | .bulkWrite _ q => some q
  | .fence _ q => some q
  | .timeRef _ q => some q
  | .timeRealign _ q => some q
  | .timeSet _ q => some q
  | .tileDrain _ q => some q
  | .tileRestore _ q => some q
  | .islandReset _ q => some q
  | .pairSwap _ q => some q
  | .pairRestart _ q => some q
  | .pairRejoin _ q => some q
  | .evacClear _ q => some q
  | .stageOpen _ q => some q
  | .stageWrite _ q _ _ => some q
  | .stageClose _ q _ _ => some q
  | .keyGenerate _ q => some q
  | .keyImport _ q _ => some q
  | .keyDestroy _ q => some q
  | .keyAttest _ q => some q
  | .lifecycleSet _ q => some q
  | _ => none

end Sys2Proof

namespace Sys2Proof.Machine

/-- A step is safe when it answers a next state. -/
def safeStep (s : State) : Prop := ∃ s', step s = .next s'

/-! ### When a command takes effect -/

/-- The chip is not stopped and BOOT has released the islands (18 R677, Table 18.12; 20 R704). -/
def State.awake (s : State) : Bool := !s.flt.stopped && 5 ≤ s.get R.BOOT_STAT_STATUS

/-- The chip is not stopped and serves (18 R677, R679; 20 R704). -/
def State.inService (s : State) : Bool := !s.flt.stopped && s.serving

/-! ### The acceptance of a SiCP request (15 R566 to R573; 16 R597 to R607) -/

/-- A request when it leaves its tenant's queue: the session has its time and peer, its bucket has paid a token, and TEN.SERVED counts it. -/
def State.queued (s : State) (q : Req) (c : Session) : State :=
  ((s.setSess c.id (fun c => { c with lastRx := s.up, peer := q.peer })).spend c.princ !c.own).2.dequeued c.tenant q.backlog

/-- Is a request of the row `m` accepted: its session `c` exists and may command this chip, its size, ID, token and queue are in order, it
passes the message check with the TLVs `ts`, it is not stale, the principal lacks no right, its values hold and its scope is right? -/
def State.accepts (s : State) (m : Msg) (q : Req) (lacks : State → Session → List Tlv → Option Need) (c : Session) (ts : List Tlv) : Bool :=
  s.sess q.sess = some c && (c.own || s.dbl.role.holds) && 16 + q.body.length ≤ 1400 && !c.known q.id
    && (s.bucket c.princ !c.own).tokens ≠ 0 && q.backlog < 256 && !bit q.flags 0 && !bit q.flags 1 && checkMsg m.typ q m.slots = .inr ts
    && !c.stale q.id && (lacks (s.queued q c) c ts).isNone && ts.all tlvValOk && !(m.pair && c.own)

/-- The state in which an accepted request acts: its ID is in the window, REQUESTS counts it, and it has its place in the single order. -/
def State.accepted (s : State) (q : Req) (c : Session) : State :=
  let s := ((s.queued q c).setSess c.id (fun c => c.accept q.id)).bump R.SCP_REQUESTS 1
  { s with sicp.order := s.sicp.order + 1 }

/-- The context in which an accepted request of the row `m` acts. -/
def State.ctx (s : State) (m : Msg) (q : Req) (c : Session) (ts : List Tlv) : Ctx := ⟨c, m.typ, q.id, s.sicp.order, ts⟩

/-- A request of the row `m` finds a chip in service and is accepted, and acts in the state `u` with the context `x`. -/
def State.takes (s : State) (t : Time) (m : Msg) (q : Req) (lacks : State → Session → List Tlv → Option Need) (u : State) (x : Ctx) : Prop :=
  s.inService = true ∧ ∃ c ts, (s.at_ t).accepts m q lacks c ts = true ∧ u = (s.at_ t).accepted q c ∧ x = (s.at_ t).ctx m q c ts

/-! ### The form that every state keeps -/

/-- The register file, the 64-bit values and the memory stand in their one form. -/
def State.formed (s : State) : Bool := canonical s.regs && rising s.wide && Memory.wf s.boot.xspi

end Sys2Proof.Machine
end

