-- ==== Sys2Proof/Certificates/Slice0/Obligations.lean ====
section
/-! DEFINITION. The statements for the provers. Each docstring names the rules of the spec that the statement follows. In all of them `s.at_ t` is
the state at the command's instant `t`, before its effect (01 R27). -/

open Sys2Proof Sys2Proof.Machine

/-! ### The queue, reset, and the whole machine -/

/-- The queue of commands is first in, first out, and its front runs on the state with the queue's rest; a block with no command waiting idles (log
entry 5, the model's choice). -/
def Obligations.StepRunsFrontCommand : Prop :=
  (∀ (c : Instr) (rest : List Instr) (s : State), step { s with pending := c :: rest } = exec c { s with pending := rest }) ∧
  (∀ s : State, step { s with pending := [] } = .next { s with pending := [] }) ∧
  (∀ (s : State) (nbits w : Nat), decodeTableWord nbits w = none ∧ s.withFetchWord nbits w = s)

/-- After reset, before any start: every register reads the reset value of its table, BOOT.STAT.STATUS is 0x0, no fault bit is latched, the role is OFF
and nothing has left the chip. After reset the register file, the 64-bit values and the memory stand in their one form. -/
def Obligations.StateAfterReset : Prop :=
  ((∀ a : Nat, State.reset.word a = resetWord a) ∧
  State.reset.get R.BOOT_STAT_STATUS = 0 ∧ State.reset.get R.FLT_WORD_HI_CLASS = 0 ∧ (∀ n : Fin 40, State.reset.has (fltBit n) = false) ∧
  State.reset.has R.FLT_STAT_COPY_OK = true ∧ State.reset.dbl.role = .off ∧ State.reset.flt.stopped = false ∧ State.reset.inService = false ∧
  State.reset.out = [] ∧ State.reset.pending = []) ∧
  (State.reset.formed = true)

/-- Every step keeps the register file, the 64-bit values and the memory in their one form: addresses rise, and no entry repeats what an unlisted one
reads as. -/
def Obligations.EveryStepKeepsForm : Prop := ∀ s s' : State, step s = .next s' → s.formed = true → s'.formed = true

/-- A stopped chip (STATUS 0xF, or 0xB to 0xE) does nothing further until PWR_OK or RESET_N falls: whatever reaches it only moves time. No command but a
fall of PWR_OK or RESET_N brings a stopped chip out of its stop. -/
def Obligations.StoppedChip : Prop :=
  (∀ (c : Instr) (s : State), s.flt.stopped = true → c.isPowerPin = false → exec c s = .next (s.at_ c.time)) ∧
  (∀ (c : Instr) (s s' : State), s.flt.stopped = true → s.boot.pins = true → exec c s = .next s' → s'.flt.stopped = false → ∃ torn report copy, c = .resetFall c.time torn report copy)

/-- The life cycle changes only along Table 17.6 (R633), by LIFECYCLE_SET, and each change spends one of the changes left; every other command leaves
both. The rollback counter never falls, and only the start of service raises it. -/
def Obligations.FusesMoveForward : Prop :=
  (∀ (c : Instr) (s s' : State), exec c s = .next s' →
    (s'.keys.life = s.keys.life ∧ s'.keys.left = s.keys.left) ∨
    (lifeChange s.keys.life s'.keys.life = true ∧ s'.keys.left + 1 = s.keys.left ∧ ∃ q, c = .lifecycleSet c.time q)) ∧
  (∀ (c : Instr) (s s' : State), exec c s = .next s' →
    s.keys.rbSteps ≤ s'.keys.rbSteps ∧ (s'.keys.rbSteps = s.keys.rbSteps ∨ c = .chipServes c.time))

/-- No command takes another from the queue or puts one in, none takes back what has left the chip, and each stands at its own instant (or, for a step
of Whorl time, at the instant after the step). -/
def Obligations.CommandsOnlyAdd : Prop :=
  ∀ (c : Instr) (s s' : State), exec c s = .next s' →
    s'.pending = s.pending ∧ s.out <+: s'.out ∧ s'.up = s.up + (c.time - s.now)

/-- The commands that write the memory of the image and the staging region: a start (with what service access wrote and the header it erases), a copy
that completes or that a fall of the supply cuts short, and the requests of staging. -/
def Obligations.MemoryWriters : Prop :=
  ∀ (c : Instr) (s s' : State), exec c s = .next s' →
    (match c with
      | .powerStart .. => False | .resetFall .. => False | .imageCopyDone .. => False | .stageWrite .. => False | .stageClose .. => False
      | _ => True) →
    ∀ x : Nat, memByte s'.boot.xspi x = memByte s.boot.xspi x ∨
      (((0x1400000 ≤ x ∧ x < 0x1400040) ∨ (0x3000000 ≤ x ∧ x < 0x3000040)))

/-! ### When commands act, and how requests are received -/

/-- Until BOOT releases the islands (STATUS 0x5, Table 18.12), only the pins, the supplies, the copy of an image, KEY's random generator, AON and the
temperature act: every other command only moves time. No SiCP request, no message of a session, of the Skein's salvos or of a client acts on a chip that does not
serve. -/
def Obligations.CommandsNeedTheirStage : Prop :=
  (∀ (c : Instr) (s : State), s.get R.BOOT_STAT_STATUS < 5 →
    (match c with
      | .powerStart .. => False | .resetFall .. => False | .imageCopyDone .. => False | .rngFail .. => False | .tamper .. => False
      | .tamperRelease .. => False | .rtcMinuteWrite .. => False | .tempSample .. => False | _ => True) →
    exec c s = .next (s.at_ c.time)) ∧
  (∀ (c : Instr) (s : State), s.serving = false →
    (c.req.isSome = true ∨ match c with
      | .dtlsClientHello .. => True | .keyUpdate .. => True | .closeNotify .. => True | .event .. => True | .cycleClose .. => True
      | .houseFrameBoundary .. => True | .switchingPoint .. => True | .skeinArm .. => True | .skeinReport .. => True
      | .skeinDecision .. => True | .skeinRelease .. => True | .claim .. => True | .gpiSample .. => True | _ => False) →
    exec c s = .next (s.at_ c.time))

/-- A record that names no session is discarded and counted in SCP.RX_DISCARD, whatever request it holds. A chip that does not hold control carries out
no request of a pair session: it hands the datagram to its twin or drops it. A request ID that was accepted before is never carried out again: the
cached reply goes out with DUPLICATE set, or nothing while there is none. A request that finds no token is not carried out: it is answered BUSY with
a RETRY of at least 1 and counted in SCP.RATE_BUSY and in its tenant's BUSY counter. -/
def Obligations.RequestsTurnedAway : Prop :=
  (∀ (c : Instr) (q : Req) (s : State), c.req = some q → s.inService = true → s.sess q.sess = none →
    exec c s = .next ((s.at_ c.time).bump R.SCP_RX_DISCARD 1)) ∧
  (∀ (c : Instr) (q : Req) (x : Session) (s : State), c.req = some q → s.inService = true → s.sess q.sess = some x → x.own = false →
    s.dbl.role.holds = false → exec c s = .next (s.at_ c.time).handOff) ∧
  (∀ (c : Instr) (q : Req) (x : Session) (s : State), c.req = some q → s.inService = true → s.sess q.sess = some x →
    (x.own = true ∨ s.dbl.role.holds = true) → 16 + q.body.length ≤ 1400 → x.known q.id = true →
    exec c s = .next (((s.at_ c.time).setSess x.id (fun y => { y with lastRx := (s.at_ c.time).up, peer := q.peer })).duplicate x q.id)) ∧
  (∀ (c : Instr) (q : Req) (x : Session) (s : State), c.req = some q → s.inService = true → s.sess q.sess = some x →
    (x.own = true ∨ s.dbl.role.holds = true) → 16 + q.body.length ≤ 1400 → x.known q.id = false →
    ((s.at_ c.time).bucket x.princ (!x.own)).tokens = 0 →
    ∃ (m : Nat) (s1 : State), exec c s = .next ((s1.rateBusy x.tenant).refuse
        { sess := x.id, typ := m, req := q.id, code := 0x14, retry := s1.retryOf x.princ (!x.own) }) ∧
      1 ≤ s1.retryOf x.princ (!x.own) ∧ s1.regs = s.regs ∧ s1.sicp.order = s.sicp.order ∧ s1.sicp.cyc = s.sicp.cyc)

/-- An accepted request pays one token, is counted in SCP.REQUESTS and in its tenant's SERVED counter, takes the next place in the single order, and its
ID enters the window of its session. -/
def Obligations.AcceptanceIsCounted : Prop :=
  ∀ (t : Time) (m : Msg) (q : Req) (lacks : State → Session → List Tlv → Option Need) (s u : State) (x : Ctx), s.takes t m q lacks u x → s.formed = true →
    u.get R.SCP_REQUESTS = (s.get R.SCP_REQUESTS + 1) % 2 ^ 32 ∧ u.sicp.order = s.sicp.order + 1 ∧ x.order = s.sicp.order ∧
    x.id = q.id ∧ x.typ = m.typ ∧ (∃ c', u.sess x.sess.id = some c' ∧ c'.known q.id = true ∧ c'.lastRx = u.up ∧ c'.peer = q.peer) ∧
    u.out = s.out ∧ u.boot = s.boot ∧ u.xp = s.xp ∧ u.keys = s.keys ∧ u.dbl = s.dbl

/-! ### SiCP requests

In these statements `s.takes t m q lacks u x` says that the request of the row `m` (Table 15.4: type, scope and TLVs; Table 16.4: the rights it
needs) finds a chip in service and is accepted; it then acts in the state `u` with the context `x`. -/

/-- PING, IDENTITY, ROUTE_QUERY, REG_READ, COUNTERS and LOG_READ reply OK with what they ask for, and REG_WRITE writes one word of a register that SiCP
may write. BULK_WRITE of a bank that exists and is not fenced writes its data into the hidden bank and hands them to the twin while the doubling
link is up. -/
def Obligations.ReadsAndBulkWrites : Prop :=
  (∀ (t : Time) (q : Req) (s u : State) (x : Ctx),
    (s.takes t ⟨0x01, false, []⟩ q noNeeds u x → exec (.ping t q) s = .next (u.ok x [])) ∧
    (s.takes t ⟨0x02, false, []⟩ q noNeeds u x → exec (.identity t q) s = .next (u.ok x [u.ident])) ∧
    (s.takes t ⟨0x03, true, [one 4]⟩ q (firstLack (fun ts => [⟨0, 1, fld ts 4 0 4, 0⟩])) u x →
      u.ours (fld x.ts 4 0 4) = true → (u.dstRec (indexOfId (fld x.ts 4 0 4))).isSome = true →
      exec (.routeQuery t q) s = .next (u.ok x [u.routeTlv (indexOfId (fld x.ts 4 0 4)),
        ⟨0x0D, beBytes 1 (u.dst (indexOfId (fld x.ts 4 0 4))).frames ++ beBytes 1 0 ++ beBytes 2 (u.dst (indexOfId (fld x.ts 4 0 4))).lines⟩])) ∧
    (s.takes t ⟨0x04, false, [one 0x1A]⟩ q (regNeeds 0) u x → fld x.ts 0x1A 0 5 % 4 = 0 →
      exec (.regRead t q) s = .next ((u.readWords State.sicpRead (fld x.ts 0x1A 0 5) (fld x.ts 0x1A 5 1)).2.ok x
        [⟨0x1B, (u.readWords State.sicpRead (fld x.ts 0x1A 0 5) (fld x.ts 0x1A 5 1)).1.flatMap (beBytes 4)⟩])) ∧
    (s.takes t ⟨0x05, false, [one 0x1A, one 0x1B]⟩ q (regNeeds 9) u x → fld x.ts 0x1A 5 1 = 1 → fld x.ts 0x1A 0 5 % 4 = 0 →
      sicpWritable (fld x.ts 0x1A 0 5) = true → (tlv x.ts 0x1B).length = 4 →
      exec (.regWrite t q) s = .next ((u.writeReg (fld x.ts 0x1A 0 5) (fld x.ts 0x1B 0 4) (2 ^ 32 - 1)).ok x [])) ∧
    (s.takes t ⟨0x06, false, [one 0x1A]⟩ q (regNeeds 0) u x → fld x.ts 0x1A 0 5 % 4 = 0 →
      exec (.counters t q) s = .next ((u.readWords State.countersRead (fld x.ts 0x1A 0 5) (fld x.ts 0x1A 5 1)).2.ok x
        [⟨0x1C, (u.readWords State.countersRead (fld x.ts 0x1A 0 5) (fld x.ts 0x1A 5 1)).1.flatMap (beBytes 8)⟩])) ∧
    (s.takes t ⟨0x07, false, [one 0x2C]⟩ q (chipNeed 0) u x →
      exec (.logRead t q) s = .next (u.ok x (((List.range (fld x.ts 0x2C 4 2)).filterMap
        (fun i => u.logRecord ((fld x.ts 0x2C 0 4 + i) % 2 ^ 32))).map (fun r => ⟨0x1E, r.ev.bytes⟩))))) ∧
  (∀ (t : Time) (q : Req) (s u : State) (x : Ctx) (size : Nat),
    s.takes t ⟨0x33, true, [one 0x17, one 0x18, one 0x19]⟩ q targetLacks u x →
    u.bankSize (targetKey x.ts) = some size → fld x.ts 0x18 0 4 + (tlv x.ts 0x19).length ≤ size →
    (256 ≤ targetKey x.ts → fld x.ts 0x18 0 4 % 4 = 0 ∧ (tlv x.ts 0x19).length % 4 = 0) → (u.banks (targetKey x.ts)).fence = false →
    let w := u.hiddenWrite (targetKey x.ts) (fld x.ts 0x18 0 4) (bit (fld x.ts 0x17 3 1) 0) (tlv x.ts 0x19)
    let v := if w.dbl.linkUp then w.dblSend 7 0
      ([targetKey x.ts, fld x.ts 0x18 0 4, b2n (bit (fld x.ts 0x17 3 1) 0)] ++ (tlv x.ts 0x19).map (·.toNat)) else w
    exec (.bulkWrite t q) s = .next (if v.dbl.role = .active then { v with dbl.bulks := v.dbl.bulks ++ [(targetKey x.ts, x.re 0)] } else v.ok x []))

/-- FAULT_CLEAR with a mask of bits that exist clears what it names and logs FAULTS_CLEARED with its mask and principal; ISLAND_RESET of a tile that is
OUT, a DRAM group, a port cluster or AUD fences the island. TILE_DRAIN of a tile IN_SERVICE with every other tile IN_SERVICE and no drain outstanding
sets the drain instant and replies with it; with any tile out of service it is refused NO_CAPACITY, resource TILE_SPARE; TILE_RESTORE of an OUT tile sets the restore
instant and replies with it. The instant is the first multiple of 10 µs at least 50 µs on. -/
def Obligations.MaintenanceRequests : Prop :=
  (∀ (t : Time) (q : Req) (s u : State) (x : Ctx),
    (s.takes t ⟨0x0A, false, [one 0x28]⟩ q (chipNeed 9) u x → faultMaskOk (fld x.ts 0x28 0 8) = true →
      exec (.faultClear t q) s = .next
        (((u.faultClear (fld x.ts 0x28 0 8)).event 34 0 0x0003 (beBytes 8 (fld x.ts 0x28 0 8) ++ beBytes 2 x.sess.princ)).ok x [])) ∧
    (s.takes t ⟨0x52, false, [one 0x23]⟩ q (chipNeed 9) u x →
      (fld x.ts 0x23 0 1 < 16 ∨ fld x.ts 0x23 0 1 = 32 ∨ (24 ≤ fld x.ts 0x23 0 1 ∧ fld x.ts 0x23 0 1 < 32) ∨
        (16 ≤ fld x.ts 0x23 0 1 ∧ fld x.ts 0x23 0 1 < 24 ∧ u.tile (fld x.ts 0x23 0 1 - 16) = .out)) →
      exec (.islandReset t q) s = .next ((u.fence (fld x.ts 0x23 0 1)).ok x []))) ∧
  (∀ (t : Time) (q : Req) (s u : State) (x : Ctx),
    (s.takes t ⟨0x50, false, [one 0x22]⟩ q (chipNeed 9) u x →
      (u.othersServe (fld x.ts 0x22 0 1) = true ∧ u.tile (fld x.ts 0x22 0 1) = .inService ∧ u.xp.drainAt = none →
        exec (.tileDrain t q) s = .next
          ({ u with xp.drainAt := some (fld x.ts 0x22 0 1, u.tileInstant) }.ok x [effective u.tileInstant])) ∧
      (u.othersServe (fld x.ts 0x22 0 1) = false ∨ u.tile (fld x.ts 0x22 0 1) ≠ .inService →
        exec (.tileDrain t q) s = .next ((u.bump (R.ADM_REFUSED 0x0B) 1).reply { x.re 0x10 with resource := 0x0B, chip := u.chip }))) ∧
    (s.takes t ⟨0x51, false, [one 0x22]⟩ q (chipNeed 9) u x → u.tile (fld x.ts 0x22 0 1) = .out →
      exec (.tileRestore t q) s = .next
        ({ u with xp.restoreAt := put (fld x.ts 0x22 0 1) u.tileInstant u.xp.restoreAt }.ok x [effective u.tileInstant])) ∧
    u.tileInstant % 10000 = 0 ∧ u.now + 50000 ≤ u.tileInstant ∧ u.tileInstant < u.now + 60000)

/-- SALVO_OPEN gives a new handle of the session, and SALVO_ADD appends its entries to the staged salvo, up to 65 536 in one and 131 072 in all.
SALVO_ARM takes the staged salvo of its handle, or a stored one, to the arming of Table 4.4; SALVO_COMMIT before the decision close is kept for it;
SALVO_ABORT before it marks the salvo and joins the cycle. A staging handle on which no SALVO_ADD was accepted for 10 s is discarded, and every
other staged salvo stays. -/
def Obligations.SalvoRequests : Prop :=
  (∀ (t : Time) (q : Req) (s u : State) (x : Ctx),
    (s.takes t ⟨0x11, true, []⟩ q (fun s c _ => if s.holdsAny c.princ 1 then none else some ⟨1, 0, 0, 0⟩) u x →
      u.sicp.staged.length < 64 → (u.sicp.staged.filter (fun y => y.sess = x.sess.id)).length < 8 →
      exec (.salvoOpen t q) s = .next ({ u.newHandle.2 with
        sicp.staged := u.newHandle.2.sicp.staged ++
          [({ handle := u.newHandle.1, sess := x.sess.id, princ := x.sess.princ, lastAdd := u.newHandle.2.up } : Staged)] }.ok x
        [⟨0x08, beBytes 8 u.newHandle.1⟩])) ∧
    (s.takes t ⟨0x12, true, [one 0x08, one 0x0B]⟩ q (firstLack (fun ts =>
        (entriesOf (tlv ts 0x0B) ((tlv ts 0x0B).length / 12)).flatMap (fun e => routeNeeds e.dest e.src e.levels))) u x →
      ∀ g, u.sicp.staged.find? (fun y => y.handle = fld x.ts 0x08 0 8 && y.princ = x.sess.princ && !y.armed) = some g →
        g.entries.length + (tlv x.ts 0x0B).length / 12 ≤ 65536 →
        (u.sicp.staged.map (·.entries.length)).foldl (· + ·) 0 + (tlv x.ts 0x0B).length / 12 ≤ 131072 →
      exec (.salvoAdd t q) s = .next ({ u with
        sicp.staged := updFirst (fun y => y.handle = fld x.ts 0x08 0 8) (fun y =>
          { y with entries := y.entries ++ entriesOf (tlv x.ts 0x0B) ((tlv x.ts 0x0B).length / 12), lastAdd := u.up }) u.sicp.staged }.ok x []))) ∧
  (∀ (t : Time) (q : Req) (s u : State) (x : Ctx),
    (s.takes t ⟨0x13, true, [⟨[8, 9], 1, 1⟩, one 0x0A, opt 2]⟩ q armLacks u x →
      (∀ g, hasTlv x.ts 9 = false → u.sicp.staged.find? (fun y => y.handle = fld x.ts 8 0 8) = some g →
        exec (.salvoArm t q) s = .next (u.salvoArm x g.entries none (some g.handle))) ∧
      (∀ e, hasTlv x.ts 9 = true → u.stored (fld x.ts 9 0 2) = some e →
        exec (.salvoArm t q) s = .next (u.salvoArm x e.1 (some (fld x.ts 9 0 2)) none))) ∧
    (∀ v, s.takes t ⟨0x14, true, [one 8]⟩ q commitLacks u x → u.namedSalvo x.ts = some v → u.now < u.decisionClose v →
      exec (.salvoCommit t q) s = .next (u.onSalvo v.num (fun v => { v with commits := v.commits ++ [(x.sess.id, x.id)] }))) ∧
    (∀ v, s.takes t ⟨0x15, true, [one 8]⟩ q commitLacks u x → u.namedSalvo x.ts = some v → u.now < u.decisionClose v →
      exec (.salvoAbort t q) s = .next ((u.onSalvo v.num (fun v => { v with aborted := true })).enqueue x (.salvoAbort t q)))) ∧
  (∀ (t : Time) (s : State), s.inService = true → ∃ s', exec (.salvoHandleExpiry t) s = .next s' ∧
    (∀ g ∈ s.sicp.staged, g ∈ s'.sicp.staged ↔ (g.armed = true ∨ (s.at_ t).up < g.lastAdd + 10 * sec)) ∧
    (∀ g ∈ s'.sicp.staged, g ∈ s.sicp.staged) ∧ s' = { s.at_ t with sicp.staged := s'.sicp.staged })

/-- SUBSCRIBE, UNSUBSCRIBE, TIME_REF, TIME_REALIGN, TIME_SET, PAIR_SWAP, PAIR_RESTART, PAIR_REJOIN and EVAC_CLEAR, accepted with values in range, join
the requests of the running cycle, and change nothing else. TAKE of a source of this pair to a destination of this pair that is bound, DELAY_SET
within 127 frames and the lines of the format, and FENCE of a bank that exists and awaits no fence, join the running cycle; the fence closes the
bank at once. A TAKE whose source or destination lies on another pair is armed as a salvo. -/
def Obligations.RouteAndPairRequestsJoinCycle : Prop :=
  (∀ (t : Time) (q : Req) (s u : State) (x : Ctx),
    (s.takes t ⟨0x08, true, [one 0x1D]⟩ q (chipNeed 0) u x → fld x.ts 0x1D 0 2 = 0 →
      ((u.sess x.sess.id).map (·.subs.length)).getD 0 + (u.sicp.cyc.filter (fun r => r.sess = x.sess.id && (match r.cmd with
        | .subscribe _ _ => true
        | _ => false))).length < 8 →
      exec (.subscribe t q) s = .next (u.enqueue x (.subscribe t q))) ∧
    (∀ c v, s.takes t ⟨0x09, true, [one 0x1D]⟩ q noNeeds u x → u.sess x.sess.id = some c → v ∈ c.subs → v.num = fld x.ts 0x1D 0 2 →
      exec (.unsubscribe t q) s = .next (u.enqueue x (.unsubscribe t q))) ∧
    (s.takes t ⟨0x40, true, [one 0x25]⟩ q (chipNeed 7) u x → (fld x.ts 0x25 0 1 < 6 ∨ fld x.ts 0x25 0 1 = 0xFF) →
      exec (.timeRef t q) s = .next (u.enqueue x (.timeRef t q))) ∧
    (s.takes t ⟨0x41, true, []⟩ q (chipNeed 7) u x → exec (.timeRealign t q) s = .next (u.enqueue x (.timeRealign t q))) ∧
    (∀ y mo d h mi sc ns, s.takes t ⟨0x42, true, [one 0x26]⟩ q (chipNeed 7) u x → dateTlv x.ts = (y, mo, d, h, mi, sc, ns) → 1970 ≤ y →
      dateBad y mo d h mi sc ns = false → exec (.timeSet t q) s = .next (u.enqueue x (.timeSet t q))) ∧
    (s.takes t ⟨0x53, true, []⟩ q (chipNeed 9) u x → exec (.pairSwap t q) s = .next (u.enqueue x (.pairSwap t q))) ∧
    (s.takes t ⟨0x54, true, [one 0x24]⟩ q (chipNeed 9) u x → pairNoOf (fld x.ts 0x24 0 2) = u.pairNo →
      exec (.pairRestart t q) s = .next (u.enqueue x (.pairRestart t q))) ∧
    (s.takes t ⟨0x55, true, [one 0x24]⟩ q (chipNeed 9) u x → pairNoOf (fld x.ts 0x24 0 2) = u.pairNo →
      exec (.pairRejoin t q) s = .next (u.enqueue x (.pairRejoin t q))) ∧
    (s.takes t ⟨0x56, true, []⟩ q (chipNeed 8) u x → exec (.evacClear t q) s = .next (u.enqueue x (.evacClear t q)))) ∧
  (∀ (t : Time) (q : Req) (s u : State) (x : Ctx),
    (s.takes t ⟨0x10, true, [one 4, one 5, one 6, opt 7]⟩ q
        (firstLack (fun ts => routeNeeds (fld ts 4 0 4) (fld ts 5 0 4) (fld ts 6 0 1))) u x →
      let e : SEntry := ⟨fld x.ts 4 0 4, fld x.ts 5 0 4, fld x.ts 6 0 1, fld x.ts 6 1 1, 0⟩
      (u.ours e.dest = true → (u.dstRec (indexOfId e.dest)).isSome = true →
        (srcOpt e.src).all (fun g => u.ours g && (u.srcRec (indexOfId g)).isSome && !(e.video && u.formatBad (u.srcKey g) (indexOfId e.dest))) = true →
        exec (.take t q) s = .next (u.enqueue x (.take t q))) ∧
      ((u.ours e.dest && (srcOpt e.src).all u.ours) = false → (u.ours e.dest = true → (u.dstRec (indexOfId e.dest)).isSome = true) →
        (srcOpt e.src).all (fun g => (!u.ours g || (u.srcRec (indexOfId g)).isSome) &&
          !(u.ours e.dest && e.video && u.formatBad (u.srcKey g) (indexOfId e.dest))) = true →
        exec (.take t q) s = .next (u.armOne
          { num := 0, order := x.order, entries := [e], tc := 0, auto := true, prio := u.prio x.sess.princ, princ := x.sess.princ
            sess := some x.sess.id, req := x.id, typ := 0x10, items := [], acc := u.now, waits := min (fld x.ts 7 0 1) u.waitCap }))) ∧
    (∀ v, s.takes t ⟨0x16, true, [one 4, one 0x0D]⟩ q (firstLack (fun ts => [⟨1, 1, fld ts 4 0 4, 1⟩])) u x →
      u.ours (fld x.ts 4 0 4) = true → u.dstRec (indexOfId (fld x.ts 4 0 4)) = some v → fld x.ts 0x0D 0 1 ≤ 127 →
      fld x.ts 0x0D 2 2 < structLines (recFormat v) → exec (.delaySet t q) s = .next (u.enqueue x (.delaySet t q))) ∧
    (s.takes t ⟨0x34, true, [one 0x17]⟩ q targetLacks u x → (u.bankSize (targetKey x.ts)).isSome = true → (u.banks (targetKey x.ts)).fence = false →
      exec (.fence t q) s = .next ((u.setBanks (targetKey x.ts) { u.banks (targetKey x.ts) with fence := true }).enqueue x (.fence t q))))

/-- FLOW_SET and FLOW_RELEASE of a flow that the image defines, with legs that it has, join the running cycle. AUD_ROUTE, BUS_SET and AUD_DELAY_SET that
name channels, gains, buses and lines as the chip has them join the running cycle. WINDOW_SET, WINDOW_CLEAR and LAYER_ORDER of a head that is used,
with values that its rules allow, join the running cycle. -/
def Obligations.ConfigurationRequestsJoinCycle : Prop :=
  (∀ (t : Time) (q : Req) (s u : State) (x : Ctx) (v : List Byte), u.flowIn (fld x.ts 0x0E 0 2) = some v →
    (s.takes t ⟨0x17, true, [one 0x0E, ⟨[0x0F], 1, 2⟩]⟩ q State.flowNeeds u x →
      ((x.ts.filter (fun y => y.typ = 0x0F)).map (fun y => beAt y.val 0 1)).Nodup →
      (∀ l ∈ (x.ts.filter (fun y => y.typ = 0x0F)).map (fun y => beAt y.val 0 1), l ≤ 1 + byteAt v 3 % 2) →
      exec (.flowSet t q) s = .next (u.enqueue x (.flowSet t q))) ∧
    (s.takes t ⟨0x18, true, [one 0x0E]⟩ q State.flowNeeds u x → exec (.flowRelease t q) s = .next (u.enqueue x (.flowRelease t q)))) ∧
  (∀ (t : Time) (q : Req) (s u : State) (x : Ctx),
    (s.takes t ⟨0x20, true, [⟨[0x10], 1, 86⟩]⟩ q
        (firstLack (fun ts => (routesOf ts).flatMap (fun r => audioNeed true r.1 ++ audioNeed false r.2.1))) u x →
      (routesOf x.ts).all (fun r => !adBad .out r.1 && !adBad .inp r.2.1 && gainOk r.2.2 && (placeOf u.outAddrs r.1).isSome && !u.noInput r.2.1) = true →
      exec (.audRoute t q) s = .next (u.enqueue x (.audRoute t q))) ∧
    (s.takes t ⟨0x21, true, [one 0x11, ⟨[0x12], 0, 64⟩]⟩ q
        (firstLack (fun ts => ⟨4, 3, fld ts 0x11 0 2, 0⟩ :: (membersOf ts).flatMap (fun m => audioNeed false m.1))) u x →
      gainOk (fld x.ts 0x11 4 2) = true → ((membersOf x.ts).map (fun m => adForm m.1)).Nodup →
      (membersOf x.ts).all (fun m => !adBad .member m.1 && gainOk m.2 && !u.noInput m.1 && (!u.busLow (fld x.ts 0x11 0 2) || u.lowInput m.1)) = true →
      exec (.busSet t q) s = .next (u.enqueue x (.busSet t q))) ∧
    (s.takes t ⟨0x22, true, [one 0x13]⟩ q (firstLack (fun ts => [⟨4, 10, fld ts 0x13 0 2, 0⟩])) u x → fld x.ts 0x13 0 2 < 1024 →
      u.alineRec (fld x.ts 0x13 0 2) ≠ [] → exec (.audDelaySet t q) s = .next (u.enqueue x (.audDelaySet t q)))) ∧
  (∀ (t : Time) (q : Req) (s u : State) (x : Ctx),
    (s.takes t ⟨0x30, true, [one 0x14]⟩ q
        (firstLack (fun ts => [⟨5, 4, (winOfTlv ts).h, 0⟩, ⟨2, 2, (winOfTlv ts).src % 2 ^ 20, 0⟩])) u x →
      let r := winOfTlv x.ts
      r.h < 16 → r.k < 64 → r.z < 64 → r.src < 2 ^ 20 → fld x.ts 0x14 3 1 = 0 → (u.headSrc r.h).isSome = true →
      (u.ours r.src = true → (u.srcRec (indexOfId r.src)).isSome = true) → u.winFormatBad r = false → u.winBad r = false →
      exec (.windowSet t q) s = .next (u.enqueue x (.windowSet t q))) ∧
    (s.takes t ⟨0x31, true, [one 0x15]⟩ q (firstLack (fun ts => [⟨5, 4, fld ts 0x15 0 1, 0⟩])) u x →
      (u.headSrc (fld x.ts 0x15 0 1)).isSome = true → exec (.windowClear t q) s = .next (u.enqueue x (.windowClear t q))) ∧
    (s.takes t ⟨0x32, true, [one 0x16]⟩ q (firstLack (fun ts => [⟨5, 4, fld ts 0x16 0 1, 0⟩])) u x → orderOk (fld x.ts 0x16 1 1) = true →
      (u.headSrc (fld x.ts 0x16 0 1)).isSome = true → bit (byteAt (u.headRec (fld x.ts 0x16 0 1)) 1) 0 = false →
      exec (.layerOrder t q) s = .next (u.enqueue x (.layerOrder t q))))

/-- STAGE_OPEN within 234 bytes and the size of the image region opens staging and cancels a pending copy; STAGE_WRITE at the offset reached appends its
bytes, those past the header to the staging region; STAGE_CLOSE of a whole and good image writes its header. A STAGE_WRITE at another offset is
refused BAD_VALUE and changes nothing else. STAGE_IDLE_EXPIRY 60 s after the last STAGE_WRITE discards the staging with cause 3 and erases the
staged header. -/
def Obligations.StagingFollowsItsRules : Prop :=
  (∀ (t : Time) (q : Req) (good : Bool) (plain : List Byte) (w : ImgFacts) (s u : State) (x : Ctx),
    (s.takes t ⟨0x60, false, [one 0x29]⟩ q (chipNeed 10) u x → 234 ≤ fld x.ts 0x29 0 4 → fld x.ts 0x29 0 4 ≤ u.imageLimit →
      u.boot.staging.all (fun g => g.sess = x.sess.id) = true →
      exec (.stageOpen t q) s = .next (({ u.zeroStage with
        boot.staging := some { sess := x.sess.id, total := fld x.ts 0x29 0 4, bytes := [], lastWrite := u.up } } : State).stageShow.ok x [])) ∧
    (∀ g, s.takes t ⟨0x61, false, [one 0x18, one 0x19]⟩ q (chipNeed 10) u x → u.boot.staging = some g → g.sess = x.sess.id →
      (fld x.ts 0x18 0 4 = g.bytes.length → g.bytes.length + (tlv x.ts 0x19).length ≤ g.total → good = true →
        ({ u with boot.xspi := memWrite u.boot.xspi (u.stageBase + max g.bytes.length 64) ((tlv x.ts 0x19).drop (64 - g.bytes.length)) } : State).stagedBad
          (g.bytes ++ tlv x.ts 0x19) plain = none →
        exec (.stageWrite t q good plain) s = .next (({ u with
          boot.xspi := memWrite u.boot.xspi (u.stageBase + max g.bytes.length 64) ((tlv x.ts 0x19).drop (64 - g.bytes.length))
          boot.staging := some { g with bytes := g.bytes ++ tlv x.ts 0x19, lastWrite := u.up } } : State).stageShow.ok x [])) ∧
      (fld x.ts 0x18 0 4 ≠ g.bytes.length → exec (.stageWrite t q good plain) s = .next (u.badValue x 0x18))) ∧
    (∀ g, s.takes t ⟨0x62, false, []⟩ q (chipNeed 10) u x → u.boot.staging = some g → g.sess = x.sess.id → g.bytes.length = g.total →
      u.closeBad g.bytes w = none → good = true →
      exec (.stageClose t q good w) s = .next
        (({ u with boot.xspi := memWrite u.boot.xspi u.stageBase (g.bytes.take 64), boot.staging := none } : State).stageShow.ok x []))) ∧
  (∀ (t : Time) (g : Staging) (s : State), s.inService = true → s.boot.staging = some g →
    (g.lastWrite + 60 * sec ≤ (s.at_ t).up → exec (.stageIdleExpiry t) s = .next ((s.at_ t).stageDiscard 3) ∧
      ((s.at_ t).stageDiscard 3).boot.staging = none ∧
      (Memory.wf s.boot.xspi = true → ∀ i, i < 64 → memByte ((s.at_ t).stageDiscard 3).boot.xspi (s.stageBase + i) = 0)) ∧
    ((s.at_ t).up < g.lastWrite + 60 * sec → exec (.stageIdleExpiry t) s = .next (s.at_ t)))

/-- The states in which KEY carries out requests on slots: PROVISIONED or DEPLOYED, with KEK, and no reset of KEY under way (17 R626, R651). -/
def keyWorks (u : State) : Prop := u.keys.resetting = false ∧ (u.keys.life = 2 ∨ u.keys.life = 3) ∧ u.keys.kek.isSome = true

/-- KEY_GENERATE fills a slot with a new internal wrap key; KEY_IMPORT under a loaded wrap slot fills its target with the imported key where the tag
holds, and counts a failure otherwise; KEY_DESTROY empties a slot; KEY_ATTEST replies with the statement of a LOADED slot and its signature. -/
def Obligations.KeyRequests : Prop :=
  ∀ (t : Time) (q : Req) (w : ImportFacts) (s u : State) (x : Ctx),
    (s.takes t ⟨0x70, false, [one 0x2A]⟩ q (slotNeed 11) u x → keyWorks u → fld x.ts 0x2A 1 1 = 2 → u.mayFill (fld x.ts 0x2A 0 1) = true →
      u.keys.rngOk = true →
      exec (.keyGenerate t q) s = .next (((u.fillSlot (fld x.ts 0x2A 0 1) 2 0 1).bump R.KEY_GENERATES 1).ok x [keyTlv (fld x.ts 0x2A 0 1) 2 0])) ∧
    (s.takes t ⟨0x71, false, [one 0x2A, one 0x19]⟩ q (slotNeed 11) u x → keyWorks u → u.mayFill (fld x.ts 0x2A 0 1) = true →
      let d := tlv x.ts 0x19
      importShape d = true → ((u.kslot (beAt d 0 1)).kind ≠ 0 ∨ beAt d 4 65 = 0) → beAt d 0 1 ≠ fld x.ts 0x2A 0 1 → (u.kslot (beAt d 0 1)).state = 1 →
      (u.kslot (beAt d 0 1)).use = 2 → (u.kslot (beAt d 0 1)).until_ ≤ u.up →
      (if bit (beAt d 1 1) 0 then w.badDate = false ∧ w.signerGood = true else bit (byteAt (u.rec1 0x01F0) 3) 0 = false) →
      exec (.keyImport t q w) s = .next (u.unwrap x (fld x.ts 0x2A 0 1) (fld x.ts 0x2A 1 1) (beAt d 0 1) w.tagGood)) ∧
    (s.takes t ⟨0x72, false, [one 0x2A]⟩ q (slotNeed 11) u x → keyWorks u →
      exec (.keyDestroy t q) s = .next ((u.emptySlot (fld x.ts 0x2A 0 1)).consumers.ok x [])) ∧
    (s.takes t ⟨0x73, false, [one 0x2A]⟩ q (slotNeed 0) u x → u.keys.resetting = false → (u.kslot (fld x.ts 0x2A 0 1)).state = 1 →
      exec (.keyAttest t q) s = .next (u.ok x
        [⟨0x19, u.statement (fld x.ts 0x2A 0 1) ++ beBytes 64 (Config.identitySign (u.statement (fld x.ts 0x2A 0 1)))⟩]))

/-- LIFECYCLE_SET makes a change of Table 17.6 while changes are left, with the destruction that its row names, and replies OK; a change to RETIRED then
raises F4 with the event RETIRED; a change outside the table, with none left, or that needs a battery half which the random generator cannot draw is
refused BAD_STATE and changes nothing else. -/
def Obligations.LifeCycleSet : Prop :=
  State.reset.keys.left + 1 = 64 ∧
  (∀ a b : Nat, lifeChange a b = true ↔ (a, b) ∈ [(1, 2), (2, 3), (3, 2), (2, 1), (3, 1), (1, 4), (2, 4), (3, 4)]) ∧
  ∀ (t : Time) (q : Req) (s u : State) (x : Ctx), s.takes t ⟨0x74, false, [one 0x2B]⟩ q (chipNeed 11) u x → u.keys.resetting = false →
    let n := fld x.ts 0x2B 0 1
    (lifeChange u.keys.life n = true → (2 ≤ u.keys.left ∨ (u.keys.left = 1 ∧ n = 4)) → (u.keys.life = 1 → n = 2 → u.keys.rngOk = true) →
      let v := { u.lifeEffects n with keys.life := n, keys.left := (u.lifeEffects n).keys.left - 1 }.ok x []
      exec (.lifecycleSet t q) s = .next (if n = 4 then v.raise 35 4 0x000A 13 [] {} (13, 3) else v.consumers)) ∧
    ((lifeChange u.keys.life n = false ∨ u.keys.left = 0 ∨ (u.keys.left = 1 ∧ n ≠ 4) ∨ (u.keys.life = 1 ∧ n = 2 ∧ u.keys.rngOk = false)) →
      exec (.lifecycleSet t q) s = .next (u.badState x))

/-! ### Start -/

/-- POWER_START on a chip whose pins were low, with a good memory, KEY in order, no staged image and an active image that passes its checks, applies the
image's records and releases the islands; with a good staged image it stops before the copy at STATUS 0x4. While the pins are high it changes
nothing. The stops of a start: a memory below 512 Mbit gives STATUS 0xB, a RETIRED chip 0xD with detail 3, a wrong identity 0xD with detail 1, a
failed random generator 0xD with detail 2, and an image that fails its checks 0xC with the detail of the check; in each the chip does nothing
further. IMAGE_COPY_DONE at STATUS 0x4 with a copy that reads back as written and an image that passes its checks zeroes the staged header and
applies the records; a copy that does not read back stops the start with STATUS 0xC, detail 12. -/
def Obligations.StartVerifies : Prop :=
  (∀ (t : Time) (w : StartFacts) (s : State),
    let u := ((s.at_ t).sampled w).opened w
    (s.boot.pins = true → exec (.powerStart t w) s = .next (s.at_ t)) ∧
    (s.boot.pins = false → 512 ≤ w.density → u.keys.life ≠ 4 → w.idOk = true → w.rngOk = true →
      (∀ l, headerValid (memRead u.boot.xspi u.stageBase 64) = false → u.imageCheck (u.imageAt 0) w.active = .inr l →
        ({ u with boot.recs := (l.filter (fun x => knownRecord x.2.typ)).map (·.2) } : State).imageSound = true →
        exec (.powerStart t w) s = .next (u.configure l)) ∧
      (∀ l, headerValid (memRead u.boot.xspi u.stageBase 64) = true → headerValid (memRead u.boot.xspi 0 64) = true →
        memRead u.boot.xspi u.stageBase 64 ≠ memRead u.boot.xspi 0 64 → u.imageCheck (u.imageAt u.stageBase) w.staged = .inr l →
        exec (.powerStart t w) s = .next (u.status 4 0)))) ∧
  (∀ (t : Time) (w : StartFacts) (s : State), s.boot.pins = false →
    let u := ((s.at_ t).sampled w).opened w
    let stops (code detail : Nat) : Prop := ∃ s', exec (.powerStart t w) s = .next s' ∧ s'.flt.stopped = true ∧
      s'.get R.BOOT_STAT_STATUS = code ∧ s'.get R.BOOT_STAT_DETAIL = detail % 16
    (w.density < 512 → stops 11 0) ∧
    (512 ≤ w.density → u.keys.life = 4 → stops 13 3) ∧
    (512 ≤ w.density → u.keys.life ≠ 4 → w.idOk = false → stops 13 1) ∧
    (512 ≤ w.density → u.keys.life ≠ 4 → w.idOk = true → w.rngOk = false → stops 13 2) ∧
    (∀ e, 512 ≤ w.density → u.keys.life ≠ 4 → w.idOk = true → w.rngOk = true → headerValid (memRead u.boot.xspi u.stageBase 64) = false →
      u.imageCheck (u.imageAt 0) w.active = .inl e → stops 12 e.1)) ∧
  (∀ (t : Time) (w : ImgFacts) (s : State), s.flt.stopped = false → s.get R.BOOT_STAT_STATUS = 4 →
    let u := (s.at_ t).copied ((s.at_ t).copyWrites.length - 64)
    let v : State := { u with boot.fw := imageFw (u.imageAt 0), boot.secver := hdrSecver (u.imageAt 0) }
    let x : State := { v.zeroStage with boot.copyDone := some (imageFw ((s.at_ t).imageAt 0), imageFw (u.imageAt 0),
      hdrSecver ((s.at_ t).imageAt 0), hdrSecver (u.imageAt 0)) }
    (∀ l l', v.imageCheck (u.imageAt 0) w = .inr l → x.imageCheck (x.imageAt 0) w = .inr l' →
      ({ x with boot.recs := (l'.filter (fun y => knownRecord y.2.typ)).map (·.2) } : State).imageSound = true →
      exec (.imageCopyDone t true w) s = .next (x.configure l')) ∧
    ∃ s', exec (.imageCopyDone t false w) s = .next s' ∧ s'.flt.stopped = true ∧ s'.get R.BOOT_STAT_STATUS = 12 ∧ s'.get R.BOOT_STAT_DETAIL = 12)

/-- RESET_FALL resets every island except AON and KEY's fuses and store: the chip stands with STATUS 0x0, the role OFF, no session and no route, and the
memory as it stood (or as far as a copy had come); what the always-on domain holds stays, its registers too. A start report being written is not
whole. While the pins are low it changes nothing. -/
def Obligations.ResetFallClearsAllButAon : Prop :=
  ∀ (t : Time) (torn report : Bool) (copy : Nat) (s : State), (s.boot.pins = false → exec (.resetFall t torn report copy) s = .next (s.at_ t)) ∧
    (s.boot.pins = true → s.formed = true → ∃ s', exec (.resetFall t torn report copy) s = .next s' ∧ s'.get R.BOOT_STAT_STATUS = 0 ∧ s'.dbl = {} ∧ s'.sicp = {} ∧ s'.xp = {} ∧
      s'.whl = {} ∧ s'.ip = {} ∧ s'.boot.pins = false ∧ s'.boot.recs = [] ∧ s'.flt.stopped = false ∧ s'.flt.ring = [] ∧
      s'.rtc = s.rtc ∧ s'.keys.life = s.keys.life ∧ s'.keys.rbSteps = s.keys.rbSteps ∧ s'.keys.battery = s.keys.battery ∧
      s'.keys.kek = none ∧ s'.flt.blocks = s.flt.blocks ∧
      (s.get R.BOOT_STAT_STATUS ≠ 4 → s'.boot.xspi = s.boot.xspi) ∧
      s'.boot.startReport = (if report then s.boot.startReport.map (fun r => { r with whole := false }) else s.boot.startReport) ∧
      ((torn = false ∨ s.serving = false) → s'.boot.jrecs = s.boot.jrecs) ∧
      (∀ a, 0x4000000000 + 36 * 0x100000 ≤ a → a < 0x4000000000 + 37 * 0x100000 → s'.word a = s.word a))

/-- DRAM_TRAINING_DONE at STATUS 0x5 draws the interleave key, shows every group in service, applies group G, replays the journal and books what stands,
to STATUS 0x7; a channel that fails raises F4 with STATUS 0xE. WHL_REF_WAIT_END makes a Whorl that was not ready ready: time is stepped to the
twin's where the twin serves and its time is known, else to a qualified PTP instance, the first in PRIO, else by the phase of the first qualified
phase reference in PRIO, and otherwise not; a reference is then selected. -/
def Obligations.StartReachesService : Prop :=
  (∀ (t : Time) (s : State), s.awake = true → s.formed = true → s.get R.BOOT_STAT_STATUS = 5 →
    let u := (s.at_ t).fresh
    let v := (List.range 8).foldl (fun (v : State) g => (v.set (R.DG_STAT_STATE g) 2).set (R.DG_STAT_TRAINED g) 15) { u.2 with dram.key := u.1 }
    (∃ s', exec (.dramTrainingDone t none) s = .next s' ∧
      s' = (((v.tierMask.groupG.status 6 0).replay.syncBobbins.syncMeters).syncJoins).status 7 0 ∧ s'.get R.BOOT_STAT_STATUS = 7) ∧
    (∀ c : Fin 32, ∃ s', exec (.dramTrainingDone t (some c)) s = .next s' ∧ s'.flt.stopped = true ∧ s'.get R.BOOT_STAT_STATUS = 14)) ∧
  (∀ (t : Time) (s : State), s.awake = true → (s.whl.ready = true → exec (.whlRefWaitEnd t) s = .next (s.at_ t)) ∧
    (s.whl.ready = false → ∃ s', exec (.whlRefWaitEnd t) s = .next s' ∧ s'.whl.ready = true ∧
      (∀ d, s.whl.twinOffset = some d → s.twinServes = true → s'.now = moved t d ∧ s'.whl.held = s.whl.twinHeld) ∧
      ((s.whl.twinOffset = none ∨ s.twinServes = false) →
        (∀ r, (s.prioList ++ [0, 1]).find? (fun k => decide (k < 2) && s.qualified k) = some r → s'.now = moved t ((s.at_ t).phi r)) ∧
        ((s.prioList ++ [0, 1]).find? (fun k => decide (k < 2) && s.qualified k) = none →
          (∀ r, s.prioList.find? (fun k => decide (2 ≤ k) && hasPhase k && s.qualified k) = some r → s'.now = moved t ((s.at_ t).phi r)) ∧
          (s.prioList.find? (fun k => decide (2 ≤ k) && hasPhase k && s.qualified k) = none → s'.now = t)))))

/-- CHIP_SERVES at STATUS 0x7 with a ready Whorl brings the chip into service: the rollback counter is raised where the image advances it, the start
report written, and the role taken: side A without HOLD on TIE_IN becomes SOLO, a chip that reads HOLD becomes JOINING, and side B otherwise waits.
START_WAIT_EXPIRY: side B that has not read HOLD for START_WAIT takes control in SOLO. REJOIN: a DETACHED or YIELDED chip that may rejoin becomes
JOINING and sends HELLO. -/
def Obligations.ChipTakesItsRole : Prop :=
  (∀ (t : Time) (s : State), s.flt.stopped = false → s.get R.BOOT_STAT_STATUS = 7 → s.whl.ready = true → s.dbl.role = .off →
    ∃ s', exec (.chipServes t) s = .next s' ∧ s'.boot.served = some (s.at_ t).up ∧ s'.boot.startReport.isSome = true ∧
      s'.keys.rbSteps = (if bit s.boot.flags 1 && s.keys.rbSteps < s.boot.secver then s.boot.secver else s.keys.rbSteps) ∧
      (s.dbl.tieIn = .hold → s'.dbl.role = .joining) ∧
      (s.dbl.tieIn ≠ .hold → s.dbl.side = false → s'.dbl.role = .solo ∧ s'.dbl.tieOut = .hold) ∧
      (s.dbl.tieIn ≠ .hold → s.dbl.side = true → s'.dbl.role = .off ∧ s'.dbl.startWait = some (s.at_ t).up)) ∧
  (∀ (t : Time) (s : State), s.inService = true →
    (∀ v, s.dbl.startWait = some v → s.dbl.role = .off → s.dbl.tieIn ≠ .hold → v + s.startWait ≤ (s.at_ t).up →
      ∃ s', exec (.startWaitExpiry t) s = .next s' ∧ s'.dbl.role = .solo ∧ s'.dbl.tieOut = .hold ∧ s'.dbl.startWait = none) ∧
    ((s.dbl.role = .detached ∨ s.dbl.role = .yielded) → (s.at_ t).mayRejoin = true →
      ∃ s', exec (.rejoin t) s = .next s' ∧ s'.dbl.role = .joining ∧ s'.dbl.rejoinAsked = false ∧ s'.dbl.snapped = false ∧
        ((s.at_ t).setRole .joining).dblOut 1 0 (s.at_ t).helloBody ∈ s'.out))

/-! ### Sessions, the cycle and switching -/

/-- DTLS_CLIENT_HELLO: a hello that offers no value of Table 15.1 is answered with an alert and counted; one without a cookie of the last 2 s gets a
cookie and keeps no other state; one that returns its cookie goes on to the handshake. KEY_UPDATE changes the client's keys of its session.
CLOSE_NOTIFY, SESSION_IDLE_EXPIRY after IDLE seconds without a record and CERT_VALIDITY_CHECK with an expired certificate end a session: no session
has its ID afterwards, no staged salvo and no waiting take is left of it. SICP_RECORD_UNPARSABLE counts RX_DISCARD, and a record that authenticated
keeps its session alive; PAIR_DATAGRAM_HANDOFF at a chip that does not hold control hands the datagram to the twin while the link is up; EVENT sends
up to 14 queued events of a subscription and counts them. What a session sends leaves by its port, and is discarded while that port cannot send. -/
def Obligations.SessionsBeginAndEnd : Prop :=
  (∀ (t : Time) (h : Hello) (id : Nat) (c : Session) (s : State), s.inService = true → (s.at_ t).listens h = true →
    ((s.at_ t).toPair h = false ∨ s.dbl.role.holds = true) →
    let u := s.at_ t
    let fresh := u.sicp.cookies.filter (fun k => u.up ≤ k.2.2 + 2 * sec)
    (h.offers = false → exec (.dtlsClientHello t h) s = .next ((u.bump R.SCP_HS_FAIL 1).sendVia h.port (.dtlsAlert h.peer 40))) ∧
    (h.offers = true → s.keys.rngOk = true → fresh.any (fun k => k.1 = h.peer && h.cookie = some k.2.1) = false →
      exec (.dtlsClientHello t h) s = .next
        (({ u with free := u.free + 1, sicp.cookies := fresh ++ [(h.peer, Config.freeNat u.free, u.up)] } : State).sendVia h.port
          (.dtlsRetry h.peer (Config.freeNat u.free)))) ∧
    (h.offers = true → s.keys.rngOk = true → fresh.any (fun k => k.1 = h.peer && h.cookie = some k.2.1) = true →
      exec (.dtlsClientHello t h) s = .next (({ u with sicp.cookies := fresh } : State).handshake h)) ∧
    (s.sess id = some c → exec (.keyUpdate t id) s = .next ((u.authenticated c).setSess id (fun c => { c with rxKeys := c.rxKeys + 1 })))) ∧
  (∀ (t : Time) (id : Nat) (c : Session) (s : State), s.inService = true → s.sess id = some c →
    let gone (s' : State) : Prop := s'.sess id = none ∧ (∀ g ∈ s'.sicp.staged, g.sess ≠ id) ∧ (∀ w ∈ s'.xp.waiting, w.sess ≠ id)
    (∃ s', exec (.closeNotify t id) s = .next s' ∧ gone s') ∧
    (c.lastRx + s.idle * sec ≤ (s.at_ t).up → ∃ s', exec (.sessionIdleExpiry t id) s = .next s' ∧ gone s' ∧
      (c.port < 258 → s.canSend c.port = true → .msg c.port (.dtlsClose id) ∈ s'.out)) ∧
    ((∃ x ∈ c.certs, x.notAfter < (s.at_ t).utcSeconds) → ∃ s', exec (.certValidityCheck t) s = .next s' ∧ gone s' ∧
      (c.port < 258 → s.canSend c.port = true → .msg c.port (.dtlsClose id) ∈ s'.out)) ∧
    (s.idle * sec + c.lastRx > (s.at_ t).up → exec (.sessionIdleExpiry t id) s = .next (s.at_ t))) ∧
  (∀ (t : Time) (s : State), s.inService = true → s.formed = true →
    (exec (.sicpRecordUnparsable t .stray) s = .next ((s.at_ t).bump R.SCP_RX_DISCARD 1)) ∧
    (∀ id c, s.sess id = some c → exec (.sicpRecordUnparsable t (.size id)) s = .next (((s.at_ t).bump R.SCP_RX_DISCARD 1).authenticated c)) ∧
    (s.dbl.role.holds = false → s.dbl.linkUp = true → s.dbl.role ≠ .detached → s.dbl.role ≠ .yielded →
      exec (.pairDatagramHandoff t) s = .next (((s.at_ t).bump R.DBL_HANDOFFS 1).dblSend 8 0 [])) ∧
    (∀ id c sub v, s.sess id = some c → c.subs.find? (fun y => y.num = sub) = some v → v.queue ≠ [] →
      ∃ s', exec (.event t id sub) s = .next s' ∧
        (c.port < 258 → s.canSend c.port = true → ∃ n, s'.out = s.out ++ [.msg c.port (.event id sub v.gap (v.queue.take 14) n)]) ∧
        (c.port < 258 → s.canSend c.port = false → s'.out = s.out ∧ s'.get (R.PORT_TX_DISCARD c.port) = (s.get (R.PORT_TX_DISCARD c.port) + 1) % 2 ^ 32) ∧
        s'.get R.SCP_EV_SENT = (s.get R.SCP_EV_SENT + (v.queue.take 14).length) % 2 ^ 32 ∧
        (∃ c', s'.sess id = some c' ∧ c'.subs = c.subs.map (fun y => if y.num = sub then { y with queue := y.queue.drop 14, gap := 0 } else y))))

/-- CYCLE_CLOSE at a close not yet taken: the holder admits the cycle's requests, settles what they book and sends the state copy; with YIELD_PEND and a
ready twin it yields instead; a chip without control keeps its journal and, unless the copies of an active twin reach it, settles what it books itself.
Tiers that hold no extent are masked first. A close happens once. HOUSE_FRAME_BOUNDARY carries out, in this order,
the flips of audio parameters, of flows and of shown banks, the selections of hysteresis that the twin's copy brought, what is due in time, in the override machine and in the pair, the outputs that go quiet,
the tallies, and a restart that is due. -/
def Obligations.CycleAndBoundaryAct : Prop :=
  (∀ (t : Time) (s : State), s.inService = true →
    let u := s.at_ t
    let b := u.cycleEnd (t - 1)
    let v : State := ({ u with dbl.lastClose := t } : State).tierMask
    (s.dbl.lastClose = t → exec (.cycleClose t) s = .next u) ∧
    (u.closeOf b = t → s.dbl.lastClose ≠ t → s.dbl.settleEnd = none →
      (s.dbl.role.holds = true → (s.dbl.yieldPend = true → v.twinReady = false) → exec (.cycleClose t) s = .next (v.closeCycle b)) ∧
      (s.dbl.role.holds = true → s.dbl.yieldPend = true → v.twinReady = true → exec (.cycleClose t) s = .next v.yield ∧ v.yield.dbl.role = .yielded) ∧
      (s.dbl.role.holds = false → exec (.cycleClose t) s =
        .next (if s.dbl.linkUp && (s.dbl.role = .standby || s.dbl.role = .joining) then v else v.settle b).checkpoint))) ∧
  (∀ (t : Time) (s : State), s.inService = true →
    exec (.houseFrameBoundary t) s = .next (((((({ s.at_ t with xp.seqAt := s.xp.seqCtr } : State).dropMarks.flipHouse.flowBoundary).flipBanks).hystDue.timeDue.clearDue).swapDue).freeQuiet.tallies.pointLate).restartDue.strandSends)

/-- SWITCHING_POINT of a destination that the image defines, at an alignment point it has not passed and outside a reset of its cluster, switches what
is due there; a point already passed changes nothing. TARGET_SET_CHANGE adds a target of a connection only where a switching point within 20 µs needs
it, and removes one only where no booking uses it; every other target stays. -/
def Obligations.SwitchingAndTargets : Prop :=
  (∀ (t : Time) (d : Fin 1024) (v : List Byte) (s : State), s.inService = true → s.dstRec d = some v →
    (frameAt (fmtRate (recFormat v)) t ≠ (s.dst d).frame → s.has (rstNow (s.dstCluster d)) = false →
      exec (.switchingPoint t d) s = .next ((s.at_ t).switch d (frameAt (fmtRate (recFormat v)) t)
        (alignPoint (fmtRate (recFormat v)) (frameAt (fmtRate (recFormat v)) t)) v)) ∧
    (frameAt (fmtRate (recFormat v)) t = (s.dst d).frame → exec (.switchingPoint t d) s = .next (s.at_ t))) ∧
  (∀ (t : Time) (key : ConnKey) (n : Fin 25) (s : State), s.inService = true →
    (targetOf (s.at_ t).soonBks key n = true → ∃ s', exec (.targetSetChange t key n true) s = .next s' ∧
      (∀ y, y ∈ s'.xp.targets ↔ y ∈ s.xp.targets ∨ y = (key, n.val))) ∧
    (targetOf (s.at_ t).soonBks key n = false → exec (.targetSetChange t key n true) s = .next (s.at_ t)) ∧
    ((s.at_ t).targetBooked key n = true → exec (.targetSetChange t key n false) s = .next (s.at_ t)) ∧
    ((s.at_ t).targetBooked key n = false → ∃ s', exec (.targetSetChange t key n false) s = .next s' ∧
      (∀ y, y ∈ s'.xp.targets ↔ y ∈ s.xp.targets ∧ y ≠ (key, n.val))))

/-! ### The crosspoint -/

/-- CELL_CRC_FAIL of a best-effort cell, or of a cell that the rotation sent through the tile on a connection that exists, counts the failure against
its tile and, at a port cluster, in its own counter, and sets the tile's CRC bit as an F1 notice; of another cell it changes nothing.
CRC_LIMIT_EXCEEDED on a tile that serves with every other tile in service drains it and raises F2, and with another tile out holds the drain and
raises F3; once its drain awaits its instant it changes nothing. REORDER_TIMEOUT marks the frame of the connection as one with one more lost cell, and
counts the loss at a port cluster, where a best-effort frame is dropped once. -/
def Obligations.CellLossAndCrc : Prop :=
  (∀ (t : Time) (n : Fin 8) (isl conn seq : Nat) (be : Bool) (s : State), s.awake = true →
    let u := s.at_ t
    let rest := u.xp.crcSecond.filter (fun c => c.1 ≠ n.val)
    let v := ({ u with xp.crcSecond := rest ++ [(n.val, u.second, u.crcCount n + 1)] } : State).bump (R.XT_CRC_CNT n) 1
    let w := if isl < 16 then v.bump (R.PC_XPR_CRC isl) 1 else v
    let sent : Bool := be || (s.xp.conns.any (fun c => c.1 = conn) && u.passed conn seq n)
    (sent = true → exec (.cellCrcFail t n isl conn seq be) s = .next (w.err (R.XT_ERR_CRC n) 1)) ∧
    (sent = false → exec (.cellCrcFail t n isl conn seq be) s = .next u) ∧
    (u.crcLimit < u.crcCount n → u.tile n = .inService → u.othersServe n = true →
      s.flt.conds.any (fun c => c.isl = 16 + n.val) = true → s.xp.drainAt.map (·.1) = some n.val → exec (.crcLimitExceeded t n) s = .next u) ∧
    (u.crcLimit < u.crcCount n → u.tile n = .inService → u.othersServe n = true →
      (s.flt.conds.any (fun c => c.isl = 16 + n.val) = false ∨ s.xp.drainAt.map (·.1) ≠ some n.val) →
      exec (.crcLimitExceeded t n) s = .next ((u.drainFailing n).raise (16 + n) 2 0x0002 tagCrcDrain
        (beBytes 4 4 ++ beBytes 4 1 ++ beBytes 4 0) { typ := 4, master := 0x40 + 16 + n })) ∧
    (u.crcLimit < u.crcCount n → u.tile n = .inService → u.othersServe n = false →
      exec (.crcLimitExceeded t n) s = .next (({ u with
        xp.crcPending := u.xp.crcPending.filter (· ≠ n.val) ++ [n.val] } : State).raise (16 + n) 3 0x0002 tagCrcHeld
          (beBytes 4 4 ++ beBytes 4 1 ++ beBytes 4 0) { typ := 4, master := 0x40 + 16 + n })) ∧
    (u.crcCount n ≤ u.crcLimit → exec (.crcLimitExceeded t n) s = .next u)) ∧
  (∀ (t : Time) (isl : Nat) (c : ConnKey) (seq f : Nat) (s : State), s.awake = true → s.formed = true →
    let on : List LostMark → List LostMark := List.filter (·.on isl c f)
    let be : Bool := match c with
      | .bestEffort _ _ => true
      | _ => false
    ∃ s', exec (.reorderTimeout t isl c seq f) s = .next s' ∧ (∃ m ∈ s'.xp.lostMarks, m.on isl c f = true) ∧
      total ((on s'.xp.lostMarks).map (·.cells)) = total ((on s.xp.lostMarks).map (·.cells)) + 1 ∧
      s'.xp.lostMarks.filter (fun m => !m.on isl c f) = s.xp.lostMarks.filter (fun m => !m.on isl c f) ∧
      (isl < 16 → s'.get (R.PC_XPR_LOST isl) = (s.get (R.PC_XPR_LOST isl) + 1) % 2 ^ 32 ∧
        s'.get (R.PC_XPR_BE_DROP isl) = (if be && (on s.xp.lostMarks).isEmpty then (s.get (R.PC_XPR_BE_DROP isl) + 1) % 2 ^ 32
          else s.get (R.PC_XPR_BE_DROP isl))) ∧
      (16 ≤ isl → s'.regs = s.regs))

/-- The states of a tile (Table 3.9): IN_SERVICE to DRAINING at its drain instant while every other tile is in service, DRAINING to OUT when its queues
are empty, any state but LOST to LOST when it fails, LOST to OUT after a good reset, and OUT to IN_SERVICE at its restore instant; the other tiles
keep their states. -/
def Obligations.TileStateTable : Prop :=
  ∀ (t : Time) (n : Fin 8) (s : State), s.awake = true → s.xp.tiles.length = 8 →
    let u := s.at_ t
    let goes (c : Instr) (x : TileSt) : Prop := ∃ s', exec c s = .next s' ∧ s'.tile n = x ∧ ∀ m : Fin 8, m ≠ n → s'.tile m = s.tile m
    (∀ td, s.xp.drainAt = some (n.val, td) → td ≤ t → s.tile n = .inService → s.othersServe n = true → goes (.tileDrainInstant t n) .draining) ∧
    (s.tile n = .draining → goes (.tileQueuesEmpty t n) .out) ∧
    (∀ cause src conn, s.tile n ≠ .lost → goes (.tileFailure t n cause src conn) .lost) ∧
    (s.tile n = .lost → s.has (rstNow (16 + n)) = true → goes (.tileResetDone t n true) .out ∧ goes (.tileResetDone t n false) .lost) ∧
    (∀ tr, look n.val s.xp.restoreAt = some tr → tr ≤ t → s.tile n = .out → goes (.tileRestoreInstant t n) .inService) ∧
    (∀ td, s.xp.drainAt = some (n.val, td) → td ≤ t → s.tile n = .inService → s.othersServe n = false →
      exec (.tileDrainInstant t n) s = .next { u with xp.drainAt := none })

/-- Every step keeps eight tiles. -/
def Obligations.EightTilesStay : Prop :=
  ∀ s s' : State, step s = .next s' → s.xp.tiles.length = 8 → s'.xp.tiles.length = 8

/-! ### Serial digital video -/

/-- The states of an SDI receiver (Table 5.3): DARK to HUNT on signal, HUNT to FRAMING when the clock is recovered at the rate being tried, FRAMING or
RUNNING to HUNT when EAVs are lost, and any but OFF and DARK to DARK when the signal is gone; the end of a dwell leaves HUNT and tries the next
rate. SDI_FRAME_RECEIVED on a lane in FRAMING or RUNNING that an SDI source uses is checked, de-embedded and placed for its source; on a lane in
another state it changes nothing. -/
def Obligations.SdiReceivers : Prop :=
  (∀ (t : Time) (lane : Fin 256) (s : State), s.awake = true → s.formed = true →
    let goes (c : Instr) (x : Nat) : Prop := ∃ s', exec c s = .next s' ∧ s'.rxState lane = x ∧ ∀ m : Fin 256, m ≠ lane → s'.rxState m = s.rxState m
    (s.rxState lane = 1 → goes (.sdiSignalPresent t lane) 2) ∧
    (s.rxState lane = 2 → goes (.sdiHuntDwellEnd t lane) 2) ∧
    (∀ rate : Fin 8, s.rxState lane = 2 → (s.rx lane).trying = some rate.val →
      goes (.sdiClockRecovered t lane rate) 3 ∧ ∃ s', exec (.sdiClockRecovered t lane rate) s = .next s' ∧ s'.get (R.RX_STAT_LRATE lane) = rate.val) ∧
    ((s.rxState lane = 3 ∨ s.rxState lane = 4) → goes (.sdiEavLoss t lane) 2) ∧
    (2 ≤ s.rxState lane → s.rxState lane ≤ 4 → goes (.sdiSignalAbsent t lane) 1) ∧
    (∀ r l, s.rxState lane = 2 → (s.rx lane).toTry = r :: l → ∃ s', exec (.sdiHuntDwellEnd t lane) s = .next s' ∧ (s'.rx lane).trying = some r ∧
      (s'.rx lane).toTry = l) ∧
    (s.rxState lane = 2 → (s.rx lane).toTry = [] → ∃ s', exec (.sdiHuntDwellEnd t lane) s = .next s' ∧
      s'.get (R.RX_HUNT_SWEEPS lane) = (s.get (R.RX_HUNT_SWEEPS lane) + 1) % 2 ^ 32)) ∧
  (∀ (t : Time) (lane : Fin 256) (f : SdiFrame) (s : State), s.awake = true →
    (∀ v k, (s.rxState lane = 3 ∨ s.rxState lane = 4) → s.rxSource lane = some (v, k) →
      exec (.sdiFrameReceived t lane f) s = .next (((s.at_ t).sdiFrame lane f v).strandSends)) ∧
    (s.rxState lane ≠ 3 → s.rxState lane ≠ 4 → exec (.sdiFrameReceived t lane f) s = .next (s.at_ t)))

/-! ### Ethernet ports and flows -/

/-- ETH_FRAME_RX on an UP Ethernet port: a frame that fails the MAC's checks is only counted in the counter of its fault; a good frame is counted in
RX_FRAMES and RX_OCTETS and goes to pause handling, to the stages of the management port, to the control class, or to the flow filter. A port that
is not UP receives nothing. -/
def Obligations.EthernetReception : Prop :=
  ∀ (t : Time) (p : Fin 258) (f : EthFrame) (s : State), s.awake = true →
    let u := ((s.at_ t).beArrive.phyCounts p f.fecCor f.fecUnc f.blockErr).pausesEnd p
    let v := (u.bump (R.PORT_RX_FRAMES p) 1).bump64 (R.PORT_RX_OCTETS_LO p) f.len
    (s.portState p ≠ 3 → exec (.ethFrameRx t p f) s = .next (s.at_ t)) ∧
    (s.portState p = 3 → s.portKind p = 1 →
      (∀ c, u.macFault p f = some c → exec (.ethFrameRx t p f) s = .next (u.bump c 1)) ∧
      (∀ q, u.macFault p f = none → f.body = .pause q → exec (.ethFrameRx t p f) s = .next (v.pauseFrame p (.pause q))) ∧
      (∀ l, u.macFault p f = none → f.body = .pfc l → exec (.ethFrameRx t p f) s = .next (v.pauseFrame p (.pfc l))) ∧
      (u.macFault p f = none → (∀ q, f.body ≠ .pause q) → (∀ l, f.body ≠ .pfc l) →
        exec (.ethFrameRx t p f) s = .next
          (if 256 ≤ p.val then v.mgmtFrame p f else if v.stage2 p f then v.control p f else (v.flowFilter p f).payAll.strandSends)))

/-- A frame that an Ethernet port receives is dropped and counted in RX_RUNT when shorter than 64 bytes, in RX_OVERSIZE when longer than MAX_FRAME, and
in RX_FCS_ERR when its FCS is wrong or the FEC marked a block of it. -/
def Obligations.BadEthernetFramesAreDropped : Prop :=
  ∀ (t : Time) (p : Fin 258) (f : EthFrame) (s : State), s.awake = true → s.portState p = 3 → s.portKind p = 1 →
    let u := ((s.at_ t).beArrive.phyCounts p f.fecCor f.fecUnc f.blockErr).pausesEnd p
    (f.len < 64 → exec (.ethFrameRx t p f) s = .next (u.bump (R.PORT_RX_RUNT p) 1)) ∧
    (64 ≤ f.len → s.maxFrame p < f.len → exec (.ethFrameRx t p f) s = .next (u.bump (R.PORT_RX_OVERSIZE p) 1)) ∧
    (64 ≤ f.len → f.len ≤ s.maxFrame p → f.good = false → exec (.ethFrameRx t p f) s = .next (u.bump (R.PORT_RX_FCS_ERR p) 1))

/-- The states of a port (R275): DOWN to LOCK on signal, LOCK to UP when aligned, LOCK to DOWN after 500 ms, UP to LOCK when lock is lost, LOCK or UP to
DOWN when the signal is gone; every other port keeps its state. OCTET_PLL_UNLOCK takes every port of its octet that is in LOCK or UP to DOWN and
latches F2 for the cluster of each port that the image uses. -/
def Obligations.PortStates : Prop :=
  (∀ (t : Time) (p : Fin 258) (s : State), s.awake = true → s.formed = true →
    let goes (c : Instr) (x : Nat) : Prop := ∃ s', exec c s = .next s' ∧ s'.portState p = x ∧ ∀ m : Fin 258, m ≠ p → s'.portState m = s.portState m
    (s.portKind p ≠ 0 → s.portState p = 1 → goes (.portSignalLock t p) 2) ∧
    (s.portState p = 2 → goes (.portAligned t p) 3) ∧
    (s.portState p = 2 → (s.port p).lockAt + 500 * ms ≤ t → goes (.portLockTimeout t p) 1) ∧
    (∀ hi cut, s.portState p = 3 → goes (.portLockLost t p hi cut) 2) ∧
    (∀ cut, 2 ≤ s.portState p → goes (.portSignalLoss t p cut) 1) ∧
    (∀ rf lf, s.portState p = 3 → goes (.remoteFault t p rf lf) 3)) ∧
  (∀ (t : Time) (octet : Fin 32) (s : State), s.awake = true → s.formed = true → ∃ s', exec (.octetPllUnlock t octet) s = .next s' ∧
    (∀ j : Fin 8, s.portKind (8 * octet.val + j) ≠ 0 → s.portState (8 * octet.val + j) ≠ 0 →
      s'.portState (8 * octet.val + j) = 1 ∧ s'.has (R.PORT_ERR_PLL (8 * octet.val + j)) = true ∧
      s'.has (fltBit ((8 * octet.val + j) / 16)) = true) ∧
    (∀ m : Fin 256, m.val / 8 ≠ octet.val → s'.portState m = s.portState m))

/-- PAUSE_WATCHDOG after WD without a break resumes the queue, counts it and makes the port ignore later pause for it; QIGNORE_END after WD without
pause ends that; BE_FRAME_AGED drops and counts the frames that waited 1 ms; REMOTE_FAULT shows what the port receives. COUNTER_HALF and
COUNTER_SWEEP move port counters into the totals that COUNTERS reads: the total grows by what the counter held, the counter is 0 and its HALF bit clear;
a HALF bit of a counter past half range that is written 1 is clear too, and the others stay.
The pauses whose quanta have passed end first. MERGE_HOLE_TIMEOUT declares holes what is missing for 8 µs, and frames owed for it leave; LEG_DOWN marks a leg without a packet for
10 ms, and a flow whose legs are all down has no frames; in a reset of the flow's cluster both change nothing; IDLE_RELEASE_EXPIRY releases the
ownership of a leg whose owner sent nothing for IDLE_RELEASE ms; REPORT_REPEAT sends again, once, the reports of 1 s ago. -/
def Obligations.PortAndFlowTimers : Prop :=
  (∀ (t : Time) (p : Fin 256) (q : Fin 8) (s : State), s.awake = true → s.formed = true →
    let u := (s.at_ t).pausesEnd p
    (∀ from_, look q.val (u.port p).pauseFrom = some from_ → bit (u.get (R.PORT_QPAUSED p)) q = true → from_ + u.watchdog p ≤ u.now →
      let x := (u.resume p q).bump (R.PORT_PAUSE_WD p) 1
      let v := x.setPort p { x.port p with lastPause := put q.val x.now (x.port p).lastPause }
      exec (.pauseWatchdog t p q) s = .next
        ((v.set (R.PORT_QIGNORE p) (v.get (R.PORT_QIGNORE p) ||| 2 ^ q.val)).event (portIsland p) 1 0x0304 (beBytes 2 p ++ beBytes 1 q))) ∧
    (bit (s.get (R.PORT_QIGNORE p)) q = true → lookD q.val (s.port p).lastPause 0 + s.watchdog p ≤ t →
      ∃ s', exec (.qignoreEnd t p q) s = .next s' ∧ bit (s'.get (R.PORT_QIGNORE p)) q = false) ∧
    (∃ s', exec (.beFrameAged t p q) s = .next s' ∧
      lookD q.val (s'.port p).queues [] = (lookD q.val (u.port p).queues []).filter (fun f => u.now < f.1 + ms) ∧
      s'.get (R.PORT_BE_TX_DROP p) = (u.get (R.PORT_BE_TX_DROP p) +
        ((lookD q.val (u.port p).queues []).length - ((lookD q.val (u.port p).queues []).filter (fun f => u.now < f.1 + ms)).length)) % 2 ^ 32)) ∧
  (∀ (t : Time) (p : Fin 258) (k : Fin 16) (s : State), s.awake = true → s.formed = true →
    (2 ^ 31 ≤ s.get (portCounter p k) → ∃ s', exec (.counterHalf t p k) s = .next s' ∧ s'.get (portCounter p k) = 0 ∧ k.val ∉ (s'.port p).halfSeen ∧
      lookD (portCounter p k).addr s'.sicp.totals 0 = (lookD (portCounter p k).addr s.sicp.totals 0 + s.get (portCounter p k)) % 2 ^ 64) ∧
    (∀ w, k.val ∈ ((s.halfClear p w).port p).halfSeen ↔ 2 ^ 31 ≤ s.get (portCounter p k) ∧ (bit w k = true ∨ k.val ∈ (s.port p).halfSeen)) ∧
    exec (.counterSweep t) s = .next
      (((s.at_ t).regs.filterMap (fun r => counterAt r.1)).foldl (fun s c => s.readCounter c.1 c.2) (s.at_ t))) ∧
  (∀ (t : Time) (flow : Fin 8192) (leg : Fin 2) (s : State), s.awake = true →
    let u := s.at_ t
    (s.has (rstNow (s.flow flow).cluster) = false → exec (.mergeHoleTimeout t flow) s = .next (u.expireHoles flow).payAll) ∧
    (s.has (rstNow (s.flow flow).cluster) = true → exec (.mergeHoleTimeout t flow) s = .next u ∧ exec (.legDown t flow leg) s = .next u) ∧
    ((s.flow flow).awaited.all (fun r => r.2.2.all (t < ·)) = true → u.expireHoles flow = u) ∧
    (∀ l, (s.flow flow).legs[leg.val]? = some l → (s.flow flow).joined = true → s.has (rstNow (s.flow flow).cluster) = false →
      l.down = false → l.lastRx + 10 * ms ≤ u.up →
      let v := u.setFlow flow ((u.flow flow).setLeg leg (fun l => { l with down := true }))
      exec (.legDown t flow leg) s = .next
        ((if (v.flow flow).legs.all (·.down) then (v.flowAbandon flow).flowStops flow else v).flowChecks flow (u.curChecks flow)).payAll) ∧
    (∀ l v, (s.flow flow).legs[leg.val]? = some l → s.flowIn flow = some v → leAt v 8 2 ≠ 0 → l.owner.isSome = true → l.ownerAt + leAt v 8 2 * ms ≤ u.up →
      exec (.idleReleaseExpiry t flow leg) s = .next (u.ownLeg flow leg none)) ∧
    exec (.reportRepeat t) s = .next ((u.ip.repeats.filter (fun r => r.2.1 ≤ u.up)).foldl (fun s r => s.sendReport r.1 r.2.2)
      { u with ip.repeats := u.ip.repeats.filter (fun r => u.up < r.2.1) }))

/-! ### Bobbins and the memory controller -/

/-- Errors of a DRAM word: a corrected one is counted and logged as F1, and its burst is written back; one that could not be corrected is F2 and marks the ring frame, or
the bank of a still or plane, whose cell it was; the scrub opens and counts its row and treats what it finds alike; a group in reset is neither read nor scrubbed; a write
pointer that misses its deadline marks the destination's frame as abandoned. -/
def Obligations.DramErrors : Prop :=
  ∀ (t : Time) (lp : Fin 32) (d : Fin 1024) (addr : Nat) (s : State), s.awake = true → s.formed = true →
    let u := s.at_ t
    (s.lpDown lp = true → (∀ unc x, exec (.dramReadEcc t lp unc addr x) s = .next u) ∧ ∀ n, exec (.dramScrub t lp n addr) s = .next u) ∧
    (s.lpDown lp = false →
      (∀ x, exec (.dramReadEcc t lp false addr x) s = .next ((u.dramError lp false addr).rowOpened lp addr)) ∧
      (∀ src k, src < 2 ^ 22 → exec (.dramReadEcc t lp true addr (some (src, k))) s =
        .next (((u.dramError lp true addr).ringAmendAt src k (fun x => { x with lost := true })).lostCells 1)) ∧
      (∀ key k, ∃ s', exec (.dramReadEcc t lp true addr (some (2 ^ 22 + key, k))) s = .next s' ∧ k ∈ (s'.banks key).spoilt ∧
        (s'.banks key).shown = (s.banks key).shown ∧ s'.has R.BOB_ERR_LOST_CELL = true) ∧
      (exec (.dramReadEcc t lp true addr none) s = .next (u.dramError lp true addr)) ∧
      (exec (.dramScrub t lp 0 addr) s = .next ((u.bump (R.LP_SCRUB_ROWS lp) 1).rowOpened lp addr)) ∧
      (exec (.dramScrub t lp 1 addr) s = .next (((u.bump (R.LP_SCRUB_ROWS lp) 1).rowOpened lp addr).dramError lp false addr)) ∧
      (exec (.dramScrub t lp 2 addr) s = .next (((u.bump (R.LP_SCRUB_ROWS lp) 1).rowOpened lp addr).dramError lp true addr))) ∧
    (∃ s', exec (.writePointerDeadline t lp d) s = .next s' ∧ (s'.dst d).abandoned = true ∧ (∀ m : Fin 1024, m ≠ d → s'.dst m = s.dst m) ∧
      s'.has (R.DG_ERR_DEADLINE (lp / 4)) = true ∧ s'.get (R.LP_DEADLINE lp) = (s.get (R.LP_DEADLINE lp) + 1) % 2 ^ 32) ∧
    (u.dramError lp true addr).get (R.LP_ECC_UNC lp) = (s.get (R.LP_ECC_UNC lp) + 1) % 2 ^ 32 ∧
    (u.dramError lp true addr).has (R.DG_ERR_ECC_UNC (lp / 4)) = true ∧ (u.dramError lp true addr).has (fltBit (24 + lp / 4)) = true ∧
    (u.dramError lp true addr).xp = u.xp ∧ (u.dramError lp true addr).bob = u.bob

/-- Refresh: outside a reset of its group a neighbour refresh sets the row's count to 0 and counts; the end of the refresh window forgets the channel's rows; a read of the rates
writes REFRATE and HOT, and a channel that turns hot latches F2; a failed ZQ calibration and a reset take the group to RESET, with its fault bit,
and no other group. POINT_CHANGE_INSTANT at its instant, with every group in service, moves the operating point; while a group is in reset it is put
off and counted once, and past the switching points of its cycle that is F2; before its instant it changes nothing. -/
def Obligations.DramGroups : Prop :=
  (∀ (t : Time) (lp : Fin 32) (bank : Fin 16) (row : Nat) (g : Fin 8) (s : State), s.awake = true → s.formed = true →
    let u := s.at_ t
    (s.lpDown lp = true → exec (.neighbourRefresh t lp bank row) s = .next u) ∧
    (s.lpDown lp = false → ∃ s', exec (.neighbourRefresh t lp bank row) s = .next s' ∧ (lp.val, bank.val, row, 0) ∈ s'.dram.act ∧
      (∀ n, n ≠ 0 → (lp.val, bank.val, row, n) ∉ s'.dram.act) ∧ s'.get (R.LP_NREF lp) = (s.get (R.LP_NREF lp) + 1) % 2 ^ 32 ∧
      1024 ≤ s'.get (R.LP_ACT_PEAK lp)) ∧
    (exec (.refreshWindowEnd t lp) s = .next { u with dram.act := u.dram.act.filter (fun a => a.1 ≠ lp.val) }) ∧
    (∀ r0 r1 r2 r3 : Fin 3, s.get (R.DG_STAT_STATE g) = 2 → ∃ s', exec (.refreshRateRead t g [r0, r1, r2, r3]) s = .next s' ∧
      s'.get (R.LP_REFRATE (4 * g)) = r0 ∧ s'.get (R.LP_REFRATE (4 * g + 1)) = r1 ∧ s'.get (R.LP_REFRATE (4 * g + 2)) = r2 ∧
      s'.get (R.LP_REFRATE (4 * g + 3)) = r3 ∧
      (∀ c : Fin 4, bit (s'.get (R.DG_STAT_HOT g)) c = decide ([r0, r1, r2, r3][c.val] = 2)) ∧
      ((∃ c : Fin 4, [r0, r1, r2, r3][c.val] = 2 ∧ bit (s.get (R.DG_STAT_HOT g)) c = false) →
        s'.has (R.DG_ERR_HOT g) = true ∧ s'.has (fltBit (24 + g)) = true)) ∧
    (exec (.zqRecalibrate t g true) s = .next u) ∧ (exec (.zqRecalibrate t g false) s = .next (u.dgDown g 4)) ∧
    (∀ cause, exec (.dgReset t g cause) s = .next (u.dgDown g cause)) ∧
    (∀ cause, s.get (R.DG_STAT_STATE g) ≠ 4 → (u.dgDown g cause).get (R.DG_STAT_STATE g) = 4 ∧ (u.dgDown g cause).has (rstNow (24 + g)) = true ∧
      (u.dgDown g cause).has (fltBit (24 + g)) = true ∧ ∀ k : Fin 8, k ≠ g → (u.dgDown g cause).get (R.DG_STAT_STATE k) = s.get (R.DG_STAT_STATE k))) ∧
  (∀ (t at_ : Time) (p : Nat) (late : Option Time) (s : State), s.awake = true → s.formed = true → s.dram.change = some (p, at_, late) →
    (at_ ≤ t → s.groupDown = false → exec (.pointChangeInstant t) s = .next ((s.at_ t).movePoint p) ∧
      ((s.at_ t).movePoint p).dram.change = none ∧ ((s.at_ t).movePoint p).get R.MEM_LAST_NS = t % sec ∧
      ((s.at_ t).movePoint p).get R.MEM_CHANGES = (s.get R.MEM_CHANGES + 1) % 2 ^ 32) ∧
    (at_ ≤ t → s.groupDown = true → late.any (· ≤ t) = false →
      (s.dram.deferred = false → exec (.pointChangeInstant t) s = .next (({ s.at_ t with dram.deferred := true } : State).bump R.MEM_DEFERRED 1)) ∧
      (s.dram.deferred = true → exec (.pointChangeInstant t) s = .next (s.at_ t))) ∧
    (at_ ≤ t → s.groupDown = true → late.any (· ≤ t) = true → ∃ s', exec (.pointChangeInstant t) s = .next s' ∧
      s'.has (fltBit 34) = true ∧ s'.dram.change = some (p, at_, none) ∧ s'.dram.deferred = true ∧
      s'.get R.MEM_DEFERRED = (if s.dram.deferred then s.get R.MEM_DEFERRED else (s.get R.MEM_DEFERRED + 1) % 2 ^ 32)) ∧
    (t < at_ → exec (.pointChangeInstant t) s = .next (s.at_ t)))

/-! ### Audio and the multiviewer -/

/-- An audio tick brings the sample count to the six samples that end at its instant, once; while the engine is off every output carries zeros. A sample of a flow is placed at its count where it is
neither too late nor too early, and counted where it is; a channel without a sample for 48 counts in a row is counted in GAPS, once, and from the 49th count it ramps to zero; a
slip of embedded audio moves its source's offset to a margin of 24 samples; a bus whose members have been still for 4,800 samples goes idle. -/
def Obligations.AudioTicksAndSamples : Prop :=
  ∀ (t : Time) (s : State), s.awake = true → s.formed = true →
    let u := s.at_ t
    (∀ sdi far, s.aud.count < countAt t / 6 * 6 → ∃ s', exec (.audioTick t sdi far) s = .next s' ∧ s'.aud.count = countAt t / 6 * 6 ∧
      (s.aud.on = false → ∀ o : Fin s.outAddrs.length, (s'.outCh o).hist.take 6 = [0, 0, 0, 0, 0, 0] ∧ (s'.outCh o).sel = (s.outCh o).sel)) ∧
    (∀ sdi far, countAt t / 6 * 6 ≤ s.aud.count → exec (.audioTick t sdi far) s = .next u) ∧
    (∀ (f : Fin 8192) slot count v non i, s.inAddrs.findIdx? (fun a => s.feed a = .flow f slot) = some i →
      (s.aud.count ≤ count + s.inDelay f → count + s.inDelay f ≤ s.aud.count + 1919 →
        exec (.audioSampleArrival t f slot count v non) s =
          .next (u.setIn i { s.inCh i with placed := put (count + s.inDelay f) (v, non) (s.inCh i).placed })) ∧
      (count + s.inDelay f < s.aud.count → exec (.audioSampleArrival t f slot count v non) s = .next (u.bump R.AUD_LATE_SMP 1)) ∧
      (s.aud.count + 1919 < count + s.inDelay f → exec (.audioSampleArrival t f slot count v non) s = .next (u.bump R.AUD_EARLY_SMP 1))) ∧
    (∀ ic : Fin 32768, (s.inCh ic).gap = true → exec (.inputGap t ic) s = .next ((u.setIn ic { s.inCh ic with gap := false }).bump R.AUD_GAPS 1)) ∧
    (∀ ic : Fin 32768, (s.inCh ic).gap = false → exec (.inputGap t ic) s = .next u) ∧
    (∀ (c : InCh) (up down k : Nat), look k c.placed = none →
      ((c.next up down k).1.gap = true ↔ c.gap = true ∨ c.miss = 47) ∧
      (c.miss = 48 → c.down = false → c.ramp = none → 1 < down → (c.next up down k).1.ramp = some (false, 1))) ∧
    (∀ (src : Fin 1024) margin d, look src.val s.aud.delta = some d → (margin < 8 ∨ 40 < margin) →
      ∃ s', exec (.sdiAudioSlip t src margin) s = .next s' ∧ look src.val s'.aud.delta = some (d + (24 - margin)) ∧
        s'.get R.AUD_SLIPS = (s.get R.AUD_SLIPS + 1) % 2 ^ 32) ∧
    (∀ (src : Fin 1024) margin, 8 ≤ margin → margin ≤ 40 → exec (.sdiAudioSlip t src margin) s = .next u) ∧
    (∀ bus : Fin 1024, s.busIdleOff = false → (∀ m, m < (s.abus bus).members.length → 4800 ≤ (s.abus bus).run m) →
      exec (.busIdleEntry t bus) s = .next (u.setBus bus { s.abus bus with idle := true }))

/-- The states of a TDM port: WAIT_SYNC to RUNNING at a frame sync of the right length, RUNNING to MUTING when its sync is lost, MUTING to WAIT_SYNC
when its ramp has ended; the other ports keep their states. A reset of the audio engine stops it, with its fault bit, and its reload brings it back. -/
def Obligations.TdmStateTable : Prop :=
  ∀ (t : Time) (p : Fin 8) (s : State), s.awake = true → s.formed = true →
    let u := s.at_ t
    let goes (c : Instr) (x : Nat) : Prop := ∃ s', exec c s = .next s' ∧ (s'.tdmSt p).state = x ∧ s'.get (R.TDM_STATE p) = x ∧
      ∀ m : Fin 8, m ≠ p → s'.tdmSt m = s.tdmSt m
    (∀ ins, (s.tdmSt p).state = 1 → goes (.tdmFsEdge t p (byteAt (s.tdmRec p) 1 * 32) ins) 2) ∧
    (∀ ins n, (s.tdmSt p).state = 2 → n ≠ byteAt (s.tdmRec p) 1 * 32 → goes (.tdmFsEdge t p n ins) 3) ∧
    (∀ ins, (s.tdmSt p).state = 2 → goes (.tdmFsEdge t p (byteAt (s.tdmRec p) 1 * 32) ins) 2) ∧
    (∀ cause, (s.tdmSt p).state = 2 → goes (.tdmSyncLoss t p cause) 3) ∧
    (∀ cause, (s.tdmSt p).state ≠ 2 → exec (.tdmSyncLoss t p cause) s = .next u) ∧
    ((s.tdmSt p).state = 3 → (s.tdmSt p).since + min s.ramp 48 * sec / 48000 ≤ u.up → goes (.tdmMutingEnd t p) 1) ∧
    (s.serving = true → exec (.audReset t) s = .next u.audDown ∧ exec (.audReload t) s = .next u.audUp) ∧
    (s.has (rstNow 32) = false → u.audDown.aud.on = false ∧ u.audDown.has (rstNow 32) = true ∧ u.audDown.has (fltBit 32) = true)

/-- HEAD_FRAME_SELECT composes one frame of a head that is on, once for each frame: HEAD FRAMES counts it. A window engine writes a frame of its source
into the window's buffer from its first frame on, and into the buffer of a change from its instant on; a window whose source gave no frame for HOLD frames shows NO_SIGNAL. -/
def Obligations.HeadsComposeFrames : Prop :=
  ∀ (t : Time) (h : Fin 16) (win : Fin 1024) (s : State), s.awake = true → s.formed = true →
    let u := s.at_ t
    let n := frameAt (s.headRate h) (t + 100000)
    ((s.headSrc h).isSome = true → (s.head h).on = true → (s.head h).from_ ≤ alignPoint (s.headRate h) n → (s.head h).lastFrame.any (n ≤ ·) = false →
      s.has (rstNow h) = false →
      ∃ s', exec (.headFrameSelect t h) s = .next s' ∧ (s'.head h).lastFrame = some n ∧ s'.get (R.HD_FRAMES h) = (s.get (R.HD_FRAMES h) + 1) % 2 ^ 32 ∧
        ∀ k : Fin 16, k ≠ h → s'.get (R.HD_FRAMES k) = s.get (R.HD_FRAMES k)) ∧
    ((s.head h).lastFrame.any (n ≤ ·) = true → exec (.headFrameSelect t h) s = .next u) ∧
    (∀ m crc w, look win.val s.mv.wins = some w → w.change = none → w.from_ ≤ t → s.winWrites w.buf = true →
      exec (.windowEngineWrite t win m crc) s =
        .next (({ u with mv.wins := put win.val { w with buf := w.buf.write w.shown m crc } u.mv.wins } : State).winWritten win w.buf)) ∧
    (∀ m crc w b g at_ k, look win.val s.mv.wins = some w → w.change = some (b, g, at_, k) → at_ ≤ t → s.winWrites b = true →
      exec (.windowEngineWrite t win m crc) s =
        .next (({ u with mv.wins := put win.val { w with change := some (b.write none m crc, g, at_, k) } u.mv.wins } : State).winWritten win b)) ∧
    (∀ m crc, look win.val s.mv.wins = none → exec (.windowEngineWrite t win m crc) s = .next u) ∧
    (∀ w, look win.val s.mv.wins = some w → s.winHold (win.val / 64) ≤ w.gap → w.noSignal = false →
      ∃ s', exec (.winHoldExpiry t win) s = .next s' ∧ look win.val s'.mv.wins = some { w with noSignal := true } ∧
        ∀ k : Fin 1024, k ≠ win → look k.val s'.mv.wins = look k.val s.mv.wins) ∧
    (∀ w, look win.val s.mv.wins = some w → w.gap < s.winHold (win.val / 64) → exec (.winHoldExpiry t win) s = .next u)

/-! ### The Whorl -/

/-- REF_QUALIFY of an enabled reference that is not qualified (a PTP instance whose records allow it) qualifies it; the first of PRIO to do so while
nothing is selected is selected, and FREE_RUN becomes ACQUIRING. REF_DISQUALIFY of the last qualified reference, selected, ends its qualification
and LOCKED becomes HOLDOVER. WTR_EXPIRY of a reference earlier in PRIO than the selected one, qualified for WTR, selects it where REVERT is set. -/
def Obligations.ReferencesAreSelected : Prop :=
  ∀ (t : Time) (r : Fin 6) (s : State), s.awake = true → s.formed = true →
    let u := s.at_ t
    (s.refEnabled r = true → s.qualified r = false → (r.val < 2 → s.ptpFit r = true) →
      exec (.refQualify t r) s = .next (u.qualify r) ∧ (u.qualify r).qualified r = true ∧
      (s.whlCur = 0 → s.whl.selected = none → s.whl.forced = none → r.val ∈ s.prioList → (∀ k ∈ s.prioList, k ≠ r.val → s.qualified k = false) →
        (u.qualify r).whl.selected = some r.val ∧ (u.qualify r).whlCur = 1)) ∧
    ((s.refEnabled r = false ∨ s.qualified r = true) → exec (.refQualify t r) s = .next u) ∧
    (∀ cause, 2 ≤ r.val → s.qualified r = true → s.whl.selected = some r.val → s.whl.forced = none → s.whlCur = 2 →
      (∀ k ∈ s.prioList, k ≠ r.val → s.qualified k = false) →
      ∃ s', exec (.refDisqualify t r cause) s = .next s' ∧ s'.qualified r = false ∧ s'.whl.selected = none ∧ s'.whlCur = 3 ∧
        s'.get R.WHL_STATE_PREV = 2 ∧ s'.get (R.REF_DISQUAL r) = (s.get (R.REF_DISQUAL r) + 1) % 2 ^ 32) ∧
    (∀ k f, s.revert = true → s.whl.forced = none → s.qualified r = true → s.whl.selected = some k → k ≠ r.val →
      (s.prioList.takeWhile (fun y => s.whl.selected ≠ some y)).contains r.val = true → look r.val s.whl.qualSince = some f → f + s.wtr * sec ≤ u.up →
      exec (.wtrExpiry t r) s = .next (u.switchRef (some r.val)) ∧ (u.switchRef (some r.val)).whl.selected = some r.val)

/-- The states of the Whorl: ACQUIRING to LOCKED after 4 s within its limits, LOCKED to ACQUIRING after 2 s outside them, HOLDOVER to LOST with F2 after
HOLDOVER seconds; each shows the state left in PREV and keeps the selected reference. In any other state these commands change nothing. Without a
reference 60 s after the wait of the start, a Whorl that needs one raises F2, NOREF. A sample drives the NCO word while ACQUIRING or LOCKED. -/
def Obligations.WhorlStateTable : Prop :=
  ∀ (t : Time) (s : State), s.awake = true → s.formed = true →
    let u := s.at_ t
    let goes (c : Instr) (x : Nat) : Prop := ∃ s', exec c s = .next s' ∧ s'.whlCur = x ∧ s'.get R.WHL_STATE_PREV = s.whlCur ∧
      s'.whl.selected = s.whl.selected ∧ s'.whl.lockFrom = none ∧ s'.whl.outFrom = none
    (∀ v, s.whl.lockFrom = some v → s.whlCur = 1 → v + 4 * sec ≤ u.up → goes (.whlLockReached t) 2) ∧
    (∀ v, s.whl.outFrom = some v → s.whlCur = 2 → v + 2 * sec ≤ u.up → goes (.whlOutOfLock t) 1) ∧
    (s.whlCur = 3 → s.whl.holdSince + s.holdover * sec ≤ u.up → u.qualifiesNow t = false → goes (.holdoverExpiry t) 4 ∧
      ∃ s', exec (.holdoverExpiry t) s = .next s' ∧ s'.has (fltBit 33) = true) ∧
    (s.whlCur ≠ 1 → exec (.whlLockReached t) s = .next u) ∧ (s.whlCur ≠ 2 → exec (.whlOutOfLock t) s = .next u) ∧
    (s.whlCur ≠ 3 ∨ u.qualifiesNow t = true → exec (.holdoverExpiry t) s = .next u) ∧
    (s.refRequired = true → s.whlCur = 0 → s.whl.startAt + s.refWait + 60 * sec ≤ u.up →
      exec (.whlNoref t) s = .next (u.raise 33 2 0x0404 2 [])) ∧
    (∀ (r : Fin 6) (edge freq : Int), s.whl.ready = true → 2 ≤ r.val → s.refEnabled r = true →
      let v := (u.bump (R.REF_SAMPLES r) 1).seeRef r
      let w : State := { v with
        whl.phi := if hasPhase r then put r.val (v.edgePhi r edge) v.whl.phi else v.whl.phi
        whl.freq := put r.val freq v.whl.freq }
      (s.whl.selected = some r.val → (s.whlCur = 1 ∨ s.whlCur = 2) →
        exec (.servoSample t [(r, edge, freq)]) s = .next ((w.writeNco (w.servoWord r)).lockSpans.whlShow)) ∧
      ((s.whlCur = 0 ∨ s.whlCur = 3 ∨ s.whlCur = 4) →
        exec (.servoSample t [(r, edge, freq)]) s = .next (w.lockSpans.whlShow)))

/-- TIME_STEP at its instant moves Whorl time by the step: no phase is held any more, no step is pending, STEPS counts it, and no placed salvo is left
at an instant that the step leaps over. -/
def Obligations.TimeStepMovesTime : Prop :=
  ∀ (t x : Time) (d : Int) (aon : Bool) (s : State), s.inService = true → s.formed = true → s.whl.step = some (x, d, aon) →
    (x ≤ t → s.houseRate ≤ 12 → ∃ s', exec (.timeStep t) s = .next s' ∧ s'.now = moved t d ∧ s'.whl.step = none ∧ s'.whl.held = 0 ∧
      s'.get R.WHL_STEPS = (s.get R.WHL_STEPS + 1) % 2 ^ 16 ∧ s'.get R.WHL_STATE_REALIGN_PEND = 0 ∧
      (∀ v ∈ s'.xp.salvos, v.tc < x ∨ (x : Int) + d ≤ v.tc) ∧ s'.xp.salvos.length = s.xp.salvos.length ∧ (∀ y ∈ s'.xp.dst, y.2.live = false)) ∧
    (t < x → exec (.timeStep t) s = .next (s.at_ t))

/-- The losses and the faults of time: XO_LOSS is an F4 that stops the chip at STATUS 0xF, detail 2; a twin's time that differs too far for 1 s, and the
loss of an island's time wire, are F2; the wire's loss fences the island. The twin's time is taken while the doubling link is up. The calendar and
PTP: a leap second moves the offset of UTC by one second and ends its announcement; the always-on clock takes Whorl time each minute while LOCKED or
HOLDOVER; a PTP port in MASTER sends Sync (with Follow_Up where the record is two-step), and one in SLAVE asks for its delay; a reset of the Whorl
is taken while the chip serves. -/
def Obligations.TimeAndCalendar : Prop :=
  (∀ (t : Time) (isl : Fin 40) (s : State), s.awake = true → s.formed = true →
    let u := s.at_ t
    (∃ s', exec (.xoLoss t) s = .next s' ∧ s'.flt.stopped = true ∧ s'.get R.BOOT_STAT_STATUS = 15 ∧ s'.get R.BOOT_STAT_DETAIL = 2 ∧
      s'.has R.WHL_ERR_XO = true ∧ s'.dbl.role = .off) ∧
    (∀ v, s.whl.twinOver = some v → v + sec ≤ u.up → s.has R.WHL_TWIN_VALID = true →
      exec (.twinTimeExcess t) s = .next (u.err R.WHL_ERR_TWIN_TIME 2 { typ := 3, master := 0x40 + 33 } (lasts := true))) ∧
    (s.has (rstNow isl) = false → exec (.wireCalibrate t isl) s = .next (u.set (wireFld isl) 1) ∧ (u.set (wireFld isl) 1).has (wireFld isl) = true) ∧
    (s.has (wireFld isl) = true → exec (.wireLoss t isl) s =
      .next { (({ u.set (wireFld isl) 0 with flt.lostWire := some isl.val }).raise isl 2 0x0405 0x20000 (beBytes 1 isl)
        { typ := 3, master := 0x40 + isl }).fence isl with flt.lostWire := none }) ∧
    (s.has (wireFld isl) = false → exec (.wireLoss t isl) s = .next u) ∧
    (∀ diff held ref, s.dbl.linkUp = true → ∃ s', exec (.dblTime t diff held ref) s = .next s' ∧ s'.whl.twinOffset = some diff ∧ s'.whl.twinHeld = held ∧
      s'.get R.WHL_TWIN_VALID = 1 ∧ s'.get R.WHL_TWIN_OFFSET = satur 31 diff ∧
      s'.whl.twinOver = (if s.twinLimit < diff.natAbs then some (s.whl.twinOver.getD u.up) else none)) ∧
    (∀ diff held ref, s.dbl.linkUp = false → exec (.dblTime t diff held ref) s = .next u)) ∧
  (∀ (t : Time) (s : State), s.awake = true →
    let u := s.at_ t
    (∀ o, s.whl.utc = some o → s.whl.leap61 = true →
      exec (.leapSecond t) s = .next ({ u with whl.utc := some (o + 1), whl.leap61 := false } : State).utcShow) ∧
    (∀ o, s.whl.utc = some o → s.whl.leap61 = false → s.whl.leap59 = true →
      exec (.leapSecond t) s = .next ({ u with whl.utc := some (o - 1), whl.leap59 := false } : State).utcShow) ∧
    (s.boot.pins = true → s.whl.ready = true → (s.whlCur = 2 ∨ s.whlCur = 3) →
      exec (.rtcMinuteWrite t) s = .next { u with rtc := some ⟨u.now, u.up⟩ }) ∧
    (s.boot.pins = true → s.whlCur ≠ 2 → s.whlCur ≠ 3 → exec (.rtcMinuteWrite t) s = .next u) ∧
    (s.serving = true → exec (.whlReset t) s = .next u.whlDown) ∧
    (∀ (d : Fin 2) (p : Fin 256) (c : Nat × Int × Nat), (s.ptpPorts d).find? (fun r => r.1 = p.val) = some c →
      let k := if (s.inst d).ports.any (fun y => y.port = p.val) then u else u.setInst d ((s.inst d).setPort { port := p })
      let v := (k.bmca d).ptpShow d
      let y := (v.inst d).port p
      let origin : Int := (v.now : Int) - (if (v.inst d).slave.isSome then (v.inst d).offset else 0)
      let w := (v.setInst d ((v.inst d).setPort { y with syncSeq := (y.syncSeq + 1) % 65536 })).bump (R.PTP_SYNC_TX d) 1
      let sync (one : Bool) : State := w.sendEth p (.ptp (w.ptpHead d p true y.syncSeq none) (.sync one origin))
      (y.state = .master → bit (byteAt ((v.ptpRec d).getD []) 2) 1 = true → exec (.ptpMessageTx t d p 0) s = .next (sync true)) ∧
      (y.state = .master → bit (byteAt ((v.ptpRec d).getD []) 2) 1 = false →
        exec (.ptpMessageTx t d p 0) s =
          .next ((sync false).sendEth p (.ptp ((sync false).ptpHead d p false y.syncSeq none) (.follow origin)))) ∧
      (y.state = .slave →
        let q := v.setInst d ((v.inst d).setPort { y with req := some (y.reqSeq, (v.now : Int) - c.2.1), reqSeq := (y.reqSeq + 1) % 65536 })
        exec (.ptpMessageTx t d p 2) s = .next (q.sendEth p (.ptp (q.ptpHead d p true y.reqSeq none) .delayReq))) ∧
      (y.state ≠ .master → exec (.ptpMessageTx t d p 0) s = .next v)))

/-! ### The Skein -/

/-- The states of a Strand: LINKING to HELLO when its port is up, HELLO to MEASURE on a fitting HELLO and to MISMATCH on another, MEASURE to SERVING
with its latency, or to MISMATCH without one, SERVING to LINKING when its port is down or its peer silent for 10 µs, and MISMATCH to LINKING with
its port; every other Strand keeps its state. A SERVING Strand takes the units it receives and returns credits; in HELLO it sends HELLO and it
answers an echo from HELLO to SERVING; the hold of a mirror that is past leaves the port in the list the next close acts on. LINK_STATE of another
chip is noted once, and its links enter the plane's map. -/
def Obligations.Strands : Prop :=
  (∀ (t : Time) (p : Fin 256) (s : State), s.awake = true → s.formed = true →
    let u := s.at_ t
    let goes (c : Instr) (x : Nat) : Prop := ∃ s', exec c s = .next s' ∧ s'.strandState p = x ∧ ∀ m : Fin 256, m ≠ p → s'.strandState m = s.strandState m
    (s.isStrand p = true → s.strandState p = 1 → s.portState p = 3 → goes (.strandPortUp t p) 2) ∧
    (∀ h, s.strandState p = 2 → (u.set (R.PORT_STR_PEER p) h.chip).helloBad p h = 0 → goes (.strandHello t p h) 3) ∧
    (∀ h, s.strandState p = 2 → (u.set (R.PORT_STR_PEER p) h.chip).helloBad p h ≠ 0 → goes (.strandHello t p h) 5) ∧
    (∀ trips l, s.strandState p = 3 → lambdaOf trips = some l → l ≤ 20000 → goes (.strandMeasureDone t p trips) 4 ∧
      ∃ s', exec (.strandMeasureDone t p trips) s = .next s' ∧ s'.get (R.PORT_STR_LAMBDA p) = l) ∧
    (∀ trips, s.strandState p = 3 → (lambdaOf trips).all (20000 < ·) = true → goes (.strandMeasureDone t p trips) 5) ∧
    (s.strandState p = 4 → (s.portState p ≠ 3 ∨ (s.strand p).lastRx + 10000 ≤ u.up) → goes (.strandDown t p) 1) ∧
    (s.strandState p = 5 → s.portState p ≠ 3 → goes (.strandDown t p) 1) ∧
    (s.strandState p = 4 → s.portState p = 3 → u.up < (s.strand p).lastRx + 10000 → exec (.strandDown t p) s = .next u)) ∧
  (∀ (t : Time) (p : Fin 256) (s : State), s.awake = true →
    let u := s.at_ t
    (∀ x, s.strandState p = 4 → exec (.strandUnitRx t p x) s = .next ((u.phyCounts p x.fecCor x.fecUnc x.blockErr).strandUnit p x)) ∧
    (∀ x, s.strandState p ≠ 4 → exec (.strandUnitRx t p x) s = .next u) ∧
    (∀ m c, s.strandState p = 4 → exec (.strandCreditSend t p m c) s = .next (u.emit (.credit p
      (unitHeader 0 2 false 0 (((s.strand p).nextM + 65536 - m % 65536) % 65536) (((s.strand p).nextC + 65536 - c % 65536) % 65536))))) ∧
    (s.strandState p = 2 → exec (.strandHelloSend t p) s = .next (u.emit (.hello p (s.ownHello.body 0 0)))) ∧
    (s.strandState p = 3 → exec (.strandHelloSend t p) s = .next (u.emit (.echo p (s.ownHello.body t 0)))) ∧
    (2 ≤ s.strandState p → s.strandState p ≤ 4 → exec (.strandEcho t p false) s = .next (u.emit (.echo p (s.ownHello.body t t)))) ∧
    (exec (.strandEcho t p true) s = .next u) ∧
    (s.isStrand p = true → s.strandState p ≠ 4 → (s.strand p).downAt.any (fun v => v + s.mirrorHold ≤ u.up) = true →
      exec (.mirrorHoldExpiry t p) s = .next { u with skn.expired := s.skn.expired.filter (· ≠ p.val) ++ [p.val] }) ∧
    (s.recs 0x01B0 ≠ [] → exec (.linkState t .send) s = .next u.sendLinks) ∧
    (∀ port id chip links, u.seen id = true → exec (.linkState t (.rx port id chip links)) s = .next (u.bump R.SKN_MSG_DUP 1)) ∧
    (∀ port id chip links, u.seen id = false → ∃ s', exec (.linkState t (.rx port id chip links)) s = .next s' ∧
      look chip s'.skn.map = some links ∧ s'.seen id = true ∧ (s.dbl.linkUp = true → .planeMap chip links ∈ s'.out)) ∧
    (∀ chip links, s.dbl.linkUp = true → exec (.linkState t (.twin chip links)) s =
      .next ({ u with skn.twinMap := put chip links s.skn.twinMap } : State).noteMirrors.noteSteps.clearStrandDown) ∧
    (∀ chip links, s.dbl.linkUp = false → exec (.linkState t (.twin chip links)) s = .next u))

/-- A Skein message acts once: a repeated ID is counted in MSG_DUP; one for another pair is forwarded and counted; one for this pair acts on the chip
that holds control and is handed to the twin by the other. ARM and RELEASE join the cycle, REPORT counts an answer, and DECISION is kept for the
decision close. -/
def Obligations.SkeinMessagesActOnce : Prop :=
  ∀ (t : Time) (port : Nat) (m : SkMsg) (s : State), s.inService = true →
    let u := s.at_ t
    let w := u.note m.id
    (∀ c ∈ [Instr.skeinArm t port m, .skeinReport t port m, .skeinDecision t port m, .skeinRelease t port m],
      (u.seen m.id = true → exec c s = .next (u.bump R.SKN_MSG_DUP 1)) ∧
      (u.seen m.id = false → m.target ≠ s.pairNo → exec c s = .next ((w.bump R.SKN_MSG_FWD 1).sendMsg m)) ∧
      (u.seen m.id = false → m.target = s.pairNo → s.dbl.role.holds = false →
        exec c s = .next (if s.dbl.linkUp then w.emit (.handOver m) else w))) ∧
    (u.seen m.id = false → m.target = s.pairNo → s.dbl.role.holds = true →
      (∀ tc auto prio princ items, m.body = .arm tc auto prio princ items → exec (.skeinArm t port m) s = .next { w with
        sicp.order := s.sicp.order + 1, sicp.cyc := s.sicp.cyc ++ [⟨s.sicp.order, t, 0, princ, prio, .skeinArm t port m⟩] }) ∧
      (∀ routes, m.body = .release routes → exec (.skeinRelease t port m) s = .next { w with
        sicp.order := s.sicp.order + 1, sicp.cyc := s.sicp.cyc ++ [⟨s.sicp.order, t, 0, 0, 0, .skeinRelease t port m⟩] }) ∧
      (∀ commit tc, m.body = .decision commit tc → exec (.skeinDecision t port m) s = .next { w with
        skn.decisions := s.skn.decisions ++ [(m.coord, m.num, commit)] }) ∧
      exec (.skeinReport t port m) s = .next (w.reportAct m)) ∧
    exec (.skeinMessageRepeat t) s = .next
      ((s.skn.sends.filter (fun x => t < x.msg.close)).foldl (fun (v : State) (x : SkSend) => v.sendMsg x.msg) { u with skn.sends := [] })

/-! ### The doubled pair -/

/-- A frame of the doubling link whose check fails is only counted. Good frames of the doubling link: a HELLO of a twin that does not fit stops the chip
at STATUS 0xF, detail 1, and one that fits brings the link up; a beat brings the twin's role, and a chip that cannot go on in its role beside it
takes the role of Table 14.3; a NACK has the copy sent once more; a snapshot part is applied, and the last one ends the snapshot; the hidden bank
takes what BULK_WRITE wrote at the twin, and a STANDBY confirms it; hand-offs act, and events are logged and sent to the holder's subscriptions as the
twin's. -/
def Obligations.DoublingFrames : Prop :=
  (∀ (t : Time) (h : DblHead) (s : State), s.awake = true → h.good = false → ∀ c : Instr,
    ((∃ b, c = .dblHello t h b) ∨ (∃ e, c = .dblBeat t h e) ∨ (∃ a b d e, c = .dblCopy t h a b d e) ∨ (∃ a, c = .dblConfirm t h a) ∨
      (∃ a, c = .dblNack t h a) ∨ (∃ a b d, c = .dblSnap t h a b d) ∨ (∃ a b d e, c = .dblBulk t h a b d e) ∨ (∃ m, c = .dblHandoff t h m) ∨
      (∃ e, c = .dblEvent t h e) ∨ c = .dblYield t h ∨ (∃ a b, c = .dblSwap t h a b)) →
    exec c s = .next ((s.at_ t).bump R.DBL_FRAME_ERR 1)) ∧
  (∀ (t : Time) (h : DblHead) (s : State), s.awake = true → h.good = true →
    let u := s.at_ t
    (∀ b, s.twinUnfit b = true → ∃ s', exec (.dblHello t h b) s = .next s' ∧ s'.flt.stopped = true ∧ s'.get R.BOOT_STAT_STATUS = 15 ∧
      s'.get R.BOOT_STAT_DETAIL = 1) ∧
    (∀ b, s.twinUnfit b = false → ∃ s', exec (.dblHello t h b) s = .next s' ∧ s'.dbl.linkUp = true ∧ s'.dbl.twinImage = digestDiff s.digest b.digest) ∧
    (s.dbl.linkUp = true → exec (.dblBeat t h none) s = .next (u.twinSays h) ∧
      (s.dbl.role = .standby → h.role ≠ 3 → h.role ≠ 4 → (u.twinSays h).dbl.role = .solo ∧ (u.twinSays h).dbl.tieOut = .hold) ∧
      (s.dbl.role = .active → h.role ≠ 2 → (u.twinSays h).dbl.role = .solo) ∧
      (s.dbl.role = .active → h.role = 2 → (u.twinSays h).dbl.role = .active)) ∧
    (s.dbl.linkUp = false → ∀ e, exec (.dblBeat t h e) s = .next u) ∧
    (∀ c, s.dbl.linkUp = true → s.dbl.held = some c → c.tries = 1 → exec (.dblNack t h c.close) s =
      .next (({ u.bump R.DBL_COPY_RETRY 1 with dbl.held := some { c with tries := 2 } } : State).dblData
        (32 + total (c.effs.map Eff.size)) (.dblCopy c.close c.effs))) ∧
    (∀ part parts effs, s.dbl.role = .joining → s.dbl.linkUp = true → part + 1 < parts → ∃ s', exec (.dblSnap t h part parts effs) s = .next s' ∧
      s'.dbl.catchup = min 100 ((part + 1) * 100 / max 1 parts)) ∧
    (∀ part parts effs, s.dbl.role = .joining → s.dbl.linkUp = true → parts ≤ part + 1 → ∃ s', exec (.dblSnap t h part parts effs) s = .next s' ∧
      s'.dbl.snapped = true ∧ s'.dbl.queued = []) ∧
    (∀ key off clear data n, s.dbl.linkUp = true → (s.dbl.role = .standby ∨ s.dbl.role = .joining) → s.bankSize key = some n → off + data.length ≤ n →
      let v := u.hiddenWrite key off clear data
      exec (.dblBulk t h key off clear data) s = .next (if s.dbl.role = .standby then v.dblSend 4 0 [] else v)) ∧
    (s.dbl.linkUp = true → s.serving = true → exec (.dblHandoff t h .datagram) s = .next (u.bump R.DBL_HANDOFFS 1)) ∧
    (∀ port m, s.dbl.linkUp = true → s.serving = true → s.dbl.role.holds = true →
      exec (.dblHandoff t h (.skein port m)) s = .next (u.skeinIn m (fun v => v.skeinAct port m))) ∧
    (∀ port pair, s.dbl.linkUp = true → s.serving = true → s.strandState port = 4 →
      exec (.dblHandoff t h (.claim port pair)) s = .next (u.emit (.claim port pair))) ∧
    (∀ e, s.dbl.linkUp = true → exec (.dblEvent t h e) s =
      .next ((if s.dbl.role.holds then u.publish { e with eflags := e.eflags ||| 2 } else u).event 37 1 0x0502
        (beBytes 2 e.code ++ beBytes 1 e.isl ++ beBytes 1 0 ++ e.detail.take 60))))

/-- State copies: a STANDBY applies a whole copy whose digest agrees and confirms it, and answers NACK to another; the holder that reads the
confirmation of the copy it holds acts on it, sends its replies, and in SOLO becomes ACTIVE; a confirmation without a close answers the oldest
BULK_WRITE that waits (log entry 90, the model's choice). -/
def Obligations.CopiesAreConfirmed : Prop :=
  ∀ (t close : Time) (h : DblHead) (s : State), s.inService = true → h.good = true → s.dbl.linkUp = true →
    let u := s.at_ t
    (∀ effs, s.dbl.role = .standby → exec (.dblCopy t h close effs true true) s = .next (u.confirmCopy effs close)) ∧
    (∀ effs agree, s.dbl.role = .standby → exec (.dblCopy t h close effs false agree) s = .next (u.copyFailed close)) ∧
    (∀ effs, s.dbl.role = .joining → s.dbl.snapped = true → ∃ s', exec (.dblCopy t h close effs true true) s = .next s' ∧ s'.dbl.role = .standby ∧
      s'.dbl.caughtUp = true) ∧
    (∀ effs agree, s.dbl.role = .active → exec (.dblCopy t h close effs true agree) s = .next u) ∧
    (∀ c, s.dbl.role = .active → s.dbl.held = some c → c.close = close → close ≠ 0 → exec (.dblConfirm t h close) s =
      .next (({ u.peak R.DBL_COPY_TIME (ceilDiv (t - close) 1000) with dbl.held := none } : State).confirm c.effs c.replies)) ∧
    (s.dbl.role = .solo → s.dbl.yieldPend = false → close ≠ 0 → ∃ s', exec (.dblConfirm t h close) s = .next s' ∧ s'.dbl.role = .active ∧
      s'.dbl.tieOut = .hold ∧ s'.dbl.twinRole = 2) ∧
    (∀ k r l, s.dbl.bulks = (k, r) :: l → exec (.dblConfirm t h 0) s = .next (({ u with dbl.bulks := l } : State).reply r)) ∧
    (s.dbl.bulks = [] → exec (.dblConfirm t h 0) s = .next u) ∧
    (exec (.dblBeatSend t) s = .next (u.dblSend 2 0 []))

/-- CLAIM for this pair at a chip that holds control without the doubling link makes it DETACHED and is counted; for another pair it is handed to the
twin while the link is up, and otherwise changes nothing. Control changes hands: a STANDBY whose twin yields takes control, ACTIVE where the twin
can stand by and SOLO else; a STANDBY with a pending swap becomes ACTIVE when the swap's frame comes; each takeover of a yield is counted, and
TIE_OUT then reads HOLD. -/
def Obligations.ControlIsHandedOver : Prop :=
  (∀ (t : Time) (port pair : Nat) (s : State), s.inService = true → s.formed = true →
    (pair = s.pairNo → s.dbl.role.holds = true → s.dbl.linkUp = false → ∃ s', exec (.claim t port pair) s = .next s' ∧ s'.dbl.role = .detached ∧
      s'.dbl.tieOut = .none ∧ s'.get R.DBL_CLAIMS = (s.get R.DBL_CLAIMS + 1) % 2 ^ 16 ∧ s'.get R.DBL_YIELDS = (s.get R.DBL_YIELDS + 1) % 2 ^ 16 ∧
      s'.sicp.cyc = []) ∧
    (pair = s.pairNo → (s.dbl.role.holds = false ∨ s.dbl.linkUp = true) → exec (.claim t port pair) s = .next ((s.at_ t).bump R.DBL_CLAIMS 1)) ∧
    (pair ≠ s.pairNo → s.dbl.linkUp = true → exec (.claim t port pair) s = .next ((s.at_ t).emit (.handClaim port pair))) ∧
    (pair ≠ s.pairNo → s.dbl.linkUp = false → exec (.claim t port pair) s = .next (s.at_ t))) ∧
  (∀ (t : Time) (h : DblHead) (s : State), s.inService = true → s.formed = true → h.good = true → s.dbl.role = .standby →
    (∃ s', exec (.dblYield t h) s = .next s' ∧ s'.dbl.role = (if h.role = 1 ∨ h.role = 2 then .active else .solo) ∧ s'.dbl.tieOut = .hold ∧
      s'.get R.DBL_TAKEOVERS = (s.get R.DBL_TAKEOVERS + 1) % 2 ^ 16) ∧
    (∀ x, s.dbl.linkUp = true → s.dbl.swapPend = some x → ∃ s', exec (.dblSwap t h [] []) s = .next s' ∧ s'.dbl.role = .active ∧
      s'.dbl.tieOut = .hold ∧ s'.dbl.swapPend = none ∧ s'.get R.DBL_SWAPS = (s.get R.DBL_SWAPS + 1) % 2 ^ 16))

/-- The roles when the doubling link is lost (14 Table 14.3): a STANDBY or a holder that reads HOLD on TIE_IN becomes DETACHED; a STANDBY that does not
takes control in SOLO; a holder that does not stays in control in SOLO. Each loss raises F2 on DBL. A change of TIE_IN that leaves a STANDBY alone
makes it SOLO, and HOLD read by a SOLO chip before the end of its settling makes it DETACHED. -/
def Obligations.RolesAtLinkLoss : Prop :=
  ∀ (t : Time) (tie : Tie) (since : Nat) (s : State), s.inService = true → s.formed = true →
    let u := s.at_ t
    let goes (c : Instr) (r : Role) : Prop := ∃ s', exec c s = .next s' ∧ s'.dbl.role = r ∧ s'.dbl.tieOut = r.tie ∧ s'.dbl.tieIn = tie
    (s.dbl.linkUp = true →
      (s.dbl.role = .standby ∨ s.dbl.role = .active ∨ s.dbl.role = .solo → tie = .hold → goes (.dblLinkLoss t tie since) .detached) ∧
      (s.dbl.role = .standby → tie ≠ .hold → goes (.dblLinkLoss t tie since) .solo) ∧
      (s.dbl.role = .active → tie ≠ .hold → goes (.dblLinkLoss t tie since) .solo) ∧
      ∃ s', exec (.dblLinkLoss t tie since) s = .next s' ∧ s'.dbl.linkUp = false ∧ s'.has R.DBL_ERR_DOWN = true ∧ s'.has (fltBit 37) = true) ∧
    (s.dbl.linkUp = false → exec (.dblLinkLoss t tie since) s = .next u) ∧
    (∀ w, tieRead w = some tie →
      (s.dbl.role = .standby → s.dbl.linkUp = true → (tie = .none ∨ tie = .invalid) → goes (.tieInChange t w) .solo) ∧
      (s.dbl.role = .solo → s.dbl.linkUp = false → tie = .hold → s.dbl.settleEnd.isSome = true → goes (.tieInChange t w) .detached) ∧
      (s.dbl.role = .active → ∃ s', exec (.tieInChange t w) s = .next s' ∧ s'.dbl.role = .active ∧ s'.dbl.tieOut = s.dbl.tieOut ∧ s'.dbl.tieIn = tie))

/-- The lanes of the doubling link, its pins and its timers: a lane lost is F2, its return with the other ends the condition; TIE_IN that disagrees with
the twin is F2; the end of the settling lets the deferred copy act; the hand-off of datagrams ends, and the gratuitous ARP is repeated twice. -/
def Obligations.DoublingLanesAndTimers : Prop :=
  ∀ (t : Time) (lane : Fin 2) (s : State), s.inService = true →
    let u := s.at_ t
    (bit s.dbl.lanes lane = true → exec (.dblLaneDown t lane) s =
      .next (({ u with dbl.lanes := s.dbl.lanes - 2 ^ lane.val } : State).err R.DBL_ERR_LANE 2 { typ := 3, master := 0x40 + 37 } (lasts := true))) ∧
    (bit s.dbl.lanes lane = false → exec (.dblLaneDown t lane) s = .next u) ∧
    (s.dbl.lanes + 2 ^ lane.val = 3 → bit s.dbl.lanes lane = false →
      exec (.dblLaneUp t lane) s = .next (({ u with dbl.lanes := 3 } : State).errDone R.DBL_ERR_LANE)) ∧
    (s.tieWrong = true → exec (.tieFault t) s = .next (u.err R.DBL_ERR_TIE_FAULT 2 { typ := 3, master := 0x40 + 37 } (lasts := true))) ∧
    (s.tieWrong = false → exec (.tieFault t) s = .next u) ∧
    (∀ e, s.dbl.settleEnd = some e → t < e → exec (.settleEnd t) s = .next u) ∧
    (∀ e, s.dbl.settleEnd = some e → e ≤ t → s.dbl.deferred = none → exec (.settleEnd t) s = .next { u with dbl.settleEnd := none }) ∧
    (∀ e c, s.dbl.settleEnd = some e → e ≤ t → s.dbl.deferred = some c → s.dbl.role.holds = true → exec (.settleEnd t) s =
      .next (({ u with dbl.settleEnd := none, dbl.deferred := none } : State).confirm c.effs c.replies)) ∧
    (∀ v, s.dbl.handoffUntil = some v → v ≤ u.up → exec (.handoffPeriodEnd t) s = .next { u with dbl.handoffUntil := none }) ∧
    (s.dbl.role.holds = true → s.dbl.arpsSent = 1 → s.dbl.claimAt + ms ≤ u.up →
      exec (.gratuitousArpRepeat t) s = .next ({ u with dbl.arpsSent := 2 } : State).announce) ∧
    (s.dbl.role.holds = true → s.dbl.arpsSent = 2 → s.dbl.claimAt + 10 * ms ≤ u.up →
      exec (.gratuitousArpRepeat t) s = .next ({ u with dbl.arpsSent := 3 } : State).announce) ∧
    (3 ≤ s.dbl.arpsSent → exec (.gratuitousArpRepeat t) s = .next u)

/-! ### Faults, resets, keys -/

/-- An occurrence on an island's error line latches the island's bit with at least its class (F2, F3 or F4 for `cls` 0, 1, 2): F3 makes a STANDBY
YIELDED and keeps a holder without a ready twin in SOLO, with a yield pending; F4 stops the chip at STATUS 0xF, detail 4. FLT_CHECK is F4. -/
def Obligations.FaultClassesReact : Prop :=
  ∀ (t : Time) (isl : Fin 40) (cond code typ master addr : Nat) (s : State), s.awake = true → s.formed = true →
    let goes (cls : Fin 3) (r : Role) : Prop := ∃ s', exec (.errorLineOccurrence t isl cls cond code typ master addr) s = .next s' ∧ s'.dbl.role = r
    (∀ cls : Fin 3, ∃ s', exec (.errorLineOccurrence t isl cls cond code typ master addr) s = .next s' ∧ s'.has (fltBit isl) = true ∧
      cls.val + 2 ≤ s'.latchedClass isl ∧ cls.val + 2 ≤ s'.get R.FLT_WORD_HI_CLASS ∧ (cls.val = 2 ↔ s'.flt.stopped = true)) ∧
    exec (.errorLineOccurrence t isl 0 cond code typ master addr) s = .next
      (((s.at_ t).hold isl (2 ^ 40 + 2 * cond) 2).latch isl 2 code { typ := typ, master := master, addr := addr }) ∧
    goes 0 s.dbl.role ∧ (s.dbl.role = .standby → goes 1 .yielded) ∧
    ((s.dbl.role = .active ∨ s.dbl.role = .solo) → s.twinReady = false → goes 1 .solo) ∧
    ((s.dbl.role = .active ∨ s.dbl.role = .solo) → s.twinReady = true → goes 1 .yielded) ∧ goes 2 .off ∧
    (∃ s', exec (.fltCheck t) s = .next s' ∧ s'.flt.stopped = true ∧ s'.get R.BOOT_STAT_STATUS = 15 ∧ s'.get R.BOOT_STAT_DETAIL = 4)

/-- An occurrence latched while no capture is held is captured with its island, class, code, type, master, address, time stamp and island sequence; one
latched while a capture is held leaves it, counts in MERGES up to 255, sets MULTIPLE and raises the capture's class; a FAULT_CLEAR that leaves no
bit latched clears the capture, and the next occurrence starts a new one. -/
def Obligations.OccurrencesAreCaptured : Prop :=
  ∀ (s : State) (isl : Fin 40) (cls : Fin 5) (code m : Nat) (a : Acc), s.formed = true → 2 ≤ cls.val →
    let v := s.latch isl cls code a
    let w := s.faultClear m
    let addr := if 3 ≤ a.typ then a.addr % 2 ^ 15 else a.addr
    (s.has R.FLT_CAP_VALID = false → v.has R.FLT_CAP_VALID = true ∧ v.get R.FLT_CAP_ISLAND = isl ∧ v.get R.FLT_CAP_CLASS = cls ∧
      v.get R.FLT_CAP_CODE = code % 2 ^ 16 ∧ v.get R.FLT_CAP_TYPE = a.typ % 8 ∧ v.get R.FLT_CAP_MASTER = a.master % 2 ^ 8 ∧
      v.get R.FLT_CAP_ADDR_LO = addr % 2 ^ 32 ∧ v.get R.FLT_CAP_ADDR_HI = addr / 2 ^ 32 % 2 ^ 8 ∧ v.get R.FLT_CAP_STAMP = s.now % 2 ^ 32 ∧
      v.get R.FLT_CAP_ISEQ = lookD isl.val s.flt.iseq 0 % 2 ^ 32) ∧
    (s.has R.FLT_CAP_VALID = true → v.has R.FLT_CAP_VALID = true ∧
      (∀ f ∈ [R.FLT_CAP_ISLAND, R.FLT_CAP_CODE, R.FLT_CAP_TYPE, R.FLT_CAP_MASTER, R.FLT_CAP_ADDR_LO, R.FLT_CAP_ADDR_HI, R.FLT_CAP_STAMP, R.FLT_CAP_ISEQ],
        v.get f = s.get f) ∧
      v.get R.FLT_CAP_MERGES = min 255 (s.get R.FLT_CAP_MERGES + 1) ∧ v.has R.FLT_CAP_MULTIPLE = true ∧
      v.get R.FLT_CAP_CLASS = max cls.val (s.get R.FLT_CAP_CLASS)) ∧
    (w.anyLatched = false → w.has R.FLT_CAP_VALID = false ∧ w.get R.FLT_CAP_MERGES = 0 ∧ w.has R.FLT_CAP_MULTIPLE = false ∧
      (w.latch isl cls code a).has R.FLT_CAP_VALID = true ∧ (w.latch isl cls code a).get R.FLT_CAP_ISLAND = isl)

/-- An event of class F2 or above goes to the twin as an EVENT frame while the doubling link is up, and one of a lower class does not; the twin logs it
as TWIN_EVENT of class F1, which changes no bit of its fault word, and as the holder sends it to its subscriptions marked as the twin's. -/
def Obligations.EventsGoToTheTwin : Prop :=
  (∀ (s : State) (isl cls code : Nat) (detail : List Byte), s.dbl.linkUp = true →
    (2 ≤ cls → ∃ e : Event, .dblEvent e ∈ (s.event isl cls code detail).out ∧ e.isl = isl ∧ e.cls = cls ∧ e.code = code ∧ e.detail = detail ∧ e.time = s.now) ∧
    (cls < 2 → (s.event isl cls code detail).out = s.out)) ∧
  (∀ (t : Time) (h : DblHead) (e : Event) (s : State), s.awake = true → h.good = true → s.dbl.linkUp = true →
    ∃ s', exec (.dblEvent t h e) s = .next s' ∧
      s' = (if s.dbl.role.holds then (s.at_ t).publish { e with eflags := e.eflags ||| 2 } else s.at_ t).event 37 1 0x0502
        (beBytes 2 e.code ++ beBytes 1 e.isl ++ beBytes 1 0 ++ e.detail.take 60) ∧
      ∀ n : Fin 40, s'.get (fltBit n) = s.get (fltBit n))

/-- The current bit of a one-shot condition ends after 1 ms; a named ERR bit sets and its occurrence is logged, at most RATE times in a second; an ECC
error of the Spindle's SRAM is F1 where corrected and F3 where not; a transaction without response is captured and sets the target's HS_TIMEOUT, or
is an ABORT at a fenced island. LOCKSTEP stops the pair of cores whose copies disagree, latches its number, and is F3. The highest valid temperature
is shown; 120 °C or more for 1 ms is F4. -/
def Obligations.ErrorsAndTemperature : Prop :=
  (∀ (t : Time) (isl : Fin 40) (off : Nat) (k : Fin 32) (cls : Fin 4) (addr master typ : Nat) (s : State), s.awake = true →
    let u := s.at_ t
    (s.has (rstNow isl) = false → exec (.currentBitExpiry t isl) s = .next { u with
      flt.conds := s.flt.conds.filter (fun c => !(c.isl = isl && oneShot c.tag && c.at_ + ms ≤ u.up)) }) ∧
    (s.has (rstNow isl) = true → exec (.currentBitExpiry t isl) s = .next u) ∧
    (accessOf ⟨isl, off, k, k⟩ = some .w1c → exec (.islandError t isl off k cls 0) s = .next (((u.errorEffect ⟨isl, off, k, k⟩).set ⟨isl, off, k, k⟩ 1).islandError ⟨isl, off, k, k⟩ cls)) ∧
    (accessOf ⟨isl, off, k, k⟩ ≠ some .w1c → exec (.islandError t isl off k cls 0) s = .next u) ∧
    exec (.sramEcc t false addr) s = .next ((u.bump R.CORE_SRAM_COR 1).err R.CORE_ERR_SRAM_COR 1) ∧
    exec (.sramEcc t true addr) s = .next ((u.ringHit addr).err R.CORE_ERR_SRAM_UNC 3 { typ := 0, addr := addr }) ∧
    (s.has (rstNow isl) = true → exec (.transactionTimeout t isl off master typ) s =
      .next (u.matrixResponse 4 typ master (0x4000000000 + isl.val * 0x100000 + off))) ∧
    (∀ f, s.has (rstNow isl) = false → hsTimeout isl off = some f → exec (.transactionTimeout t isl off master typ) s =
      .next ((u.matrixResponse 5 typ master (0x4000000000 + isl.val * 0x100000 + off)).handshakeLost f { typ := 3, master := master, addr := 0 })) ∧
    (s.has (rstNow isl) = false → hsTimeout isl off = none → exec (.transactionTimeout t isl off master typ) s =
      .next (u.matrixResponse 5 typ master (0x4000000000 + isl.val * 0x100000 + off)))) ∧
  (∀ (t : Time) (pair : Fin 4) (addr : Nat) (s : State), s.awake = true → s.formed = true →
    (∃ s', exec (.lockstep t pair addr) s = .next s' ∧ s'.has R.CORE_ERR_LOCKSTEP = true ∧ bit (s'.get R.CORE_STOPPED) pair = true ∧
      bit (s'.get R.CORE_RUN) pair = false ∧ s'.get R.CORE_LS_PAIR = pair ∧ s'.get R.CORE_LS_ADDR_LO = addr % 2 ^ 32 ∧ s'.has (fltBit 34) = true ∧
      s'.hasF3 = true ∧ ∀ k : Fin 4, k ≠ pair → bit (s'.get R.CORE_STOPPED) k = bit (s.get R.CORE_STOPPED) k) ∧
    (∀ c : Int, -128 ≤ c → c < 128 → s.spn.failed = [] →
      ∃ s', exec (.tempSample t (List.replicate 8 (some c))) s = .next s' ∧ s'.get R.TEMP_NOW = unsigned 8 c ∧
        (∀ v, 120 ≤ c → s.spn.trip = some v → v + ms ≤ (s.at_ t).up → s'.flt.stopped = true ∧ s'.get R.BOOT_STAT_STATUS = 15) ∧
        (c ≤ 100 → s'.flt.stopped = false ∧ s'.spn.hot = none ∧ s'.spn.trip = none)))

/-- A fence takes an island to reset, but for AON, FLT and an island that is in reset already; a re-arm ends its reset. A Spindle that does not come
back is F4. -/
def Obligations.IslandsFenceAndRearm : Prop :=
  ∀ (t : Time) (isl : Fin 40) (good : Bool) (s : State), s.inService = true → s.formed = true →
    let u := s.at_ t
    (exec (.islandFence t isl) s = .next (u.fence isl)) ∧ (exec (.islandRearmed t isl good) s = .next (u.rearm isl good)) ∧
    (isl.val ≠ 36 → isl.val ≠ 38 → (16 ≤ isl.val → isl.val < 24 → s.tile (isl - 16) ≠ .lost) →
      (24 ≤ isl.val → isl.val < 32 → s.get (R.DG_STAT_STATE (isl - 24)) ≠ 4) → (u.fence isl).has (rstNow isl) = true) ∧
    ((isl.val = 36 ∨ isl.val = 38 ∨ s.has (rstNow isl) = true) → u.fence isl = u) ∧
    (s.has (rstNow isl) = false → u.rearm isl good = u) ∧
    (s.has (rstNow 34) = true → exec (.spnReset t good) s = .next (u.spnUp good)) ∧
    (s.has (rstNow 34) = false → exec (.spnReset t good) s = .next (u.spnDown.spnUp good)) ∧
    (∃ s', exec (.spnReset t false) s = .next s' ∧ s'.flt.stopped = true ∧ s'.get R.BOOT_STAT_STATUS = 15 ∧ s'.get R.BOOT_STAT_DETAIL = 4) ∧
    (s.has (rstNow 39) = false → exec (.bootReset t) s = .next
      ((u.beginReset 39).bootDown.raise 39 2 0x0704 tagBootReset [] { typ := 3, master := 0x40 + 39 })) ∧
    (s.has (rstNow 39) = true → exec (.bootReset t) s = .next u)

/-- KEY and tamper: a reset of KEY drops the KEK and keeps the life cycle and the slots; a tamper of an armed and enabled input zeroes the battery half,
and on a powered chip leaves no LOADED slot and no KEK; one of an input not armed is only shown; its release draws a new half where the random
generator and KEY can. A random generator that fails is F3 in service. -/
def Obligations.TamperZeroes : Prop :=
  ∀ (t : Time) (input : Fin 2) (s : State), s.inService = true → s.formed = true →
    let u := s.at_ t
    (s.keys.resetting = false → ∃ s', exec (.keyReset t) s = .next s' ∧ s'.keys.kek = none ∧ s'.keys.resetting = true ∧ s'.keys.life = s.keys.life ∧
      s'.keys.slots = s.keys.slots ∧ s'.keys.battery = s.keys.battery ∧ s'.has (rstNow 35) = true) ∧
    (s.keys.resetting = true → exec (.keyReset t) s = .next u) ∧
    (s.has R.AON_STAT_ARMED = true → bit (s.get R.AON_STAT_TAMPER_EN) input = true → ∃ s', exec (.tamper t input) s = .next s' ∧ s'.keys.battery = none ∧
      s'.has R.AON_STAT_ZEROED = true ∧ bit (s'.get R.AON_STAT_LATCH) input = true ∧ bit (s'.get R.AON_STAT_PIN) input = true ∧
      (s.boot.pins = true → s'.keys.kek = none ∧ (∀ k, (s'.kslot k).state ≠ 1) ∧ s'.has R.FLT_WORD_HI_AON_LOST = true)) ∧
    ((s.has R.AON_STAT_ARMED = false ∨ bit (s.get R.AON_STAT_TAMPER_EN) input = false) →
      exec (.tamper t input) s = .next (u.set R.AON_STAT_PIN (s.get R.AON_STAT_PIN ||| 2 ^ input.val))) ∧
    (s.boot.pins = true → s.keys.battery = none → (s.keys.life = 2 ∨ s.keys.life = 3) → s.keys.rngOk = true → s.keys.resetting = false →
      exec (.tamperRelease t) s = .next (u.set R.AON_STAT_PIN 0).drawHalf) ∧
    ((s.keys.battery ≠ none ∨ s.keys.rngOk = false ∨ s.keys.resetting = true) → exec (.tamperRelease t) s = .next (u.set R.AON_STAT_PIN 0)) ∧
    (exec (.rngFail t) s = .next (({ u with keys.rngOk := false } : State).err R.KEY_ERR_RNG_FAIL 3 {} (lasts := true)))

/-! ### Memory, registers, DMA and pins -/

/-- The next record of the journal that fits is written at its place and counted, while no service access is open and BOOT is not in reset; a log block of up to
42 records that is due is written, and one that fails is counted; a write of XRD.LEN opens the access and each read of XRD.DATA shows the next word.
A read of a word with read-to-clear fields, or of the low word of a 64-bit value, answers the word that stands and has the effect of its read; a
write of a register that is not a DMA command writes its RW and W1C fields, and nothing in an island in reset. -/
def Obligations.RecordsReachTheMemory : Prop :=
  (∀ (t : Time) (s : State), s.awake = true → s.boot.xrd = none → s.has (rstNow 39) = false →
    let u := s.at_ t
    (∀ b ckpt at_, s.journals = true → s.nextRecord = some (b, ckpt, at_) → s.journalFits b.size = true →
      exec (.journalRecordWrite t 0) s = .next ((u.putRecord b ckpt at_ true).recordDone b) ∧
      exec (.journalRecordWrite t 2) s =
        .next ((u.err R.BOOT_ERR_XSPI_TIMEOUT 2 { typ := 3, master := 0x40 + 39 }).logLost 3 (s.journalBase + s.recordPlace b.size))) ∧
    (s.nextRecord = none → ∀ o, exec (.journalRecordWrite t o) s = .next u) ∧
    (s.has R.BOOT_STAT_NOR = false → s.mayWrite s.logSlot = true → u.blockDue = true →
      exec (.logBlockWrite t 0) s = .next { ((({ u with flt.tried := u.up } : State).bump R.LOG_BLOCKS 1).putBlocks 1) with
        flt.blockFails := 0, flt.logFailed := false } ∧
      ∃ s', exec (.logBlockWrite t 1) s = .next s' ∧ s'.flt.blocks = s.flt.blocks ∧ s'.flt.blockFails = s.flt.blockFails + 1 ∧
        s'.flt.bslot = (s.flt.bslot + 1) % s.logBlocks) ∧
    (s.flt.waits = [] → ∀ o, exec (.logBlockWrite t o) s = .next u) ∧
    (∀ n, exec (.xrdLenWrite t n) s = .next (u.xrdOpen n)) ∧
    (∀ (a n : Nat), exec (.xrdDataRead t) { s with boot.xrd := some (a, n + 5) } =
      .next (({ u with boot.xrd := some (a + 4, n + 1) } : State).emit
        (.word R.BOOT_XRD_DATA.addr (leAt ((List.range 4).map (fun i => s.xspiByte (a + i))) 0 4))))) ∧
  (∀ (t : Time) (a v : Nat) (s : State), s.awake = true →
    let u := s.at_ t
    (rcRows a ≠ [] → exec (.rcFieldRead t a) s = .next ((u.readReg a).2.emit (.word a (u.readReg a).1))) ∧
    (rcRows a = [] → exec (.rcFieldRead t a) s = .next u) ∧
    ((u.highOf a).isSome = true → exec (.counterLowRead t a) s = .next ((u.readReg a).2.emit (.word a (u.readReg a).1))) ∧
    (∀ h w, a ≠ R.BOOT_XRD_DATA.addr → s.has (rstNow ((a - 0x4000000000) / 0x100000)) = false → (u.rcTake a).highOf a = some (h, w) →
      (u.readReg a).2 = (u.rcTake a).setWord h w) ∧
    ((∀ c : Fin 16, a ≠ (R.DMA_CMD c).addr) → exec (.registerWrite t a v) s = .next (u.writeReg a v (2 ^ 32 - 1)) ∧
      (s.has (rstNow ((a - 0x4000000000) / 0x100000)) = true → exec (.registerWrite t a v) s = .next u)))

/-- A DMA channel: GO starts an IDLE or HALTED channel at its descriptor and is only shown by one at work; STOP ends RUNNING and WAITING at IDLE; a
timer event whose period divides the instant, and an event of the chain, move a block or wait their turn. -/
def Obligations.DmaChannelStates : Prop :=
  ∀ (t : Time) (c : Fin 16) (fail : Option DmaFail) (s : State), s.awake = true → s.formed = true →
    let u := s.at_ t
    let v := u.set (R.DMA_CMD c) 1
    ((s.get (R.DMA_STATE c) = 0 ∨ s.get (R.DMA_STATE c) = 3) →
      exec (.dmaCmdGo t c fail) s = .next ((v.dmaRest c 1).dmaFetch c (s.get (R.DMA_DESC c)) fail)) ∧
    ((s.get (R.DMA_STATE c) = 1 ∨ s.get (R.DMA_STATE c) = 2) → exec (.dmaCmdGo t c fail) s = .next v) ∧
    ((s.get (R.DMA_STATE c) = 1 ∨ s.get (R.DMA_STATE c) = 2) → ∃ s', exec (.dmaCmdStop t c) s = .next s' ∧ s'.get (R.DMA_STATE c) = 0 ∧
      s'.get (R.DMA_PENDING c) = 0 ∧ ∀ k : Fin 16, k ≠ c → s'.get (R.DMA_STATE k) = s.get (R.DMA_STATE k)) ∧
    ((s.get (R.DMA_STATE c) = 0 ∨ s.get (R.DMA_STATE c) = 3) → exec (.dmaCmdStop t c) s = .next (u.set (R.DMA_CMD c) 2)) ∧
    (s.get (R.DMA_STATE c) = 1 → s.get (R.DMA_DONE c) = (s.desc c).len → (s.dma c).cur ≠ [] →
      exec (.dmaDescriptorDone t c fail) s = .next (u.dmaDone c fail) ∧
      ((s.desc c).last = true → (u.dmaDone c fail).get (R.DMA_STATE c) = 0 ∧
        (u.dmaDone c fail).get (R.DMA_DESCS c) = (s.get (R.DMA_DESCS c) + 1) % 2 ^ (R.DMA_DESCS c).width)) ∧
    ((s.desc c).trig = 1 → t % ((s.desc c).period * 1000) = 0 → exec (.dmaTimerEvent t c fail) s = .next (u.dmaEvent c fail)) ∧
    ((s.desc c).trig ≠ 1 → exec (.dmaTimerEvent t c fail) s = .next u) ∧
    ((s.dma c).chainDue ≠ 0 → exec (.dmaChainEvent t c fail) s =
      .next ((u.setDma c { s.dma c with chainDue := (s.dma c).chainDue - 1 }).dmaEvent c fail)) ∧
    ((s.dma c).chainDue = 0 → exec (.dmaChainEvent t c fail) s = .next u) ∧
    (s.get (R.DMA_STATE c) = 1 → s.has (R.DMA_PENDING c) = false → u.dmaEvent c fail = u.set (R.DMA_PENDING c) 1)

/-- A transaction of a running DMA channel that completes with a response other than OKAY halts it: the channel is HALTED, its holding register is
empty, it latches the failing address, the direction, the response and the SRAM offset of its descriptor, and raises an interrupt; the other
channels go on. -/
def Obligations.FailedTransactionHaltsChannel : Prop :=
  ∀ (t : Time) (c : Fin 16) (resp : Fin 6) (addr : Nat) (w : Bool) (s : State), s.awake = true → s.formed = true → s.get (R.DMA_STATE c) = 1 →
    resp.val ≠ 0 → ∃ s', exec (.dmaHalt t c resp addr w) s = .next s' ∧ s'.get (R.DMA_STATE c) = 3 ∧ (s'.dma c).hold = [] ∧
      s'.get (R.DMA_ERR_ADDR_LO c) = addr % 2 ^ 32 ∧ s'.get (R.DMA_ERR_ADDR_HI c) = addr / 2 ^ 32 % 2 ^ 8 ∧ s'.get (R.DMA_ERR_DIR c) = b2n w ∧
      s'.get (R.DMA_ERR_RESP c) = resp ∧ s'.get (R.DMA_ERR_DESC c) = s.get (R.DMA_CUR c) ∧ (s'.dma c).irq = (s.dma c).irq + 1 ∧
      ∀ k : Fin 16, k ≠ c → s'.get (R.DMA_STATE k) = s.get (R.DMA_STATE k) ∧ s'.dma k = s.dma k

/-- The transitions of the override's machine (Table 21.4) for the levels of EVAC_A and EVAC_B at a sample: asserted levels are high and low, idle ones
low and high, and two that agree in level are a discrepancy; with the override disabled the machine is NORMAL. EVAC.STATE shows the state.
GPI_SAMPLE takes the levels of the 64 pins, one after another, each through its filter. -/
def Obligations.PinsAndOverride : Prop :=
  (∀ (t : Time) (a b : Bool) (s : State), s.awake = true → s.formed = true →
    let goes (x : EvacSt) : Prop := ∃ s', exec (.evacSample t a b) s = .next s' ∧ s'.probe.evac = x ∧ s'.get R.EVAC_STATE = x.code
    let n := s.probe.count + 1
    (s.evacDisabled = true → goes .normal) ∧
    (s.evacDisabled = false →
      (a = true → b = false → goes .asserted) ∧
      (a = false → b = true →
        ((s.probe.evac = .normal ∨ s.probe.evac = .discrepant) → goes .normal) ∧ (s.probe.evac = .asserted → goes .holding) ∧
        (s.probe.evac = .holding → n < s.evacTd → goes .holding) ∧ (s.probe.evac = .holding → s.evacTd ≤ n → goes .clearable) ∧
        (s.probe.evac = .clearable → goes .clearable)) ∧
      (a = b →
        (s.probe.evac = .normal → goes .discrepant) ∧ (s.probe.evac = .discrepant → n < s.evacTd → goes .discrepant) ∧
        (s.probe.evac = .discrepant → s.evacTd ≤ n → goes .asserted ∧
          ∃ s', exec (.evacSample t a b) s = .next s' ∧ s'.probe.disc = true ∧ s'.has (fltBit 38) = true) ∧
        ((s.probe.evac = .asserted ∨ s.probe.evac = .holding ∨ s.probe.evac = .clearable) → goes .asserted)))) ∧
  (∀ (t : Time) (levels : Nat) (s : State), s.inService = true →
    exec (.gpiSample t levels) s = .next ((List.range 64).foldl (fun (v : State) (p : Nat) => v.pinSample p (bit levels p)) (s.at_ t)) ∧
    ∀ (u : State) (p : Fin 64) (level : Bool), u.has (rstNow (p / 4)) = false → byteAt (u.pinRec p) 1 = 1 →
      (u.has (R.GPIO_ACCEPTED p) = level → u.formed = true → (u.pinSample p level).get (R.GPIO_EDGES p) = u.get (R.GPIO_EDGES p)) ∧
      (u.formed = true → (u.pinSample p level).get (R.GPIO_LEVEL p) = b2n level))

/-! ### Completion -/

/-- Each of these commands completes, with the effect that its rule gives it, in every state that meets the conditions of that rule: the fall of the pins
(18 R676), the ends of training and of the reference wait (18 R666, 12 R467), the timers of flows and ports (06 R230, R233, R241; 07 R285, R290, R294), the
audio tick, samples, gaps, slips and idle buses (10 R369 to R376), windows (11 R417, R423), references (12 R451, R453), errors of islands (20 R705, R707,
R708, R717; 22 R754, R755, R764), the temperature (23 R798), the frames of the doubling link (14 R532, R535, R553), DRAM (09 R353, R359), the loss of the doubling link and a change of TIE_IN (14 R544, R548), a fence and
a re-arm (22 R776, R780), and the resets of SPN and BOOT (22 R756, 18 R682). -/
def Obligations.EventsComplete : Prop :=
  (∀ (t : Time) (torn report : Bool) (copy : Nat) (s : State), s.boot.pins = true → ∃ s', exec (.resetFall t torn report copy) s = .next s' ∧
    s'.boot.pins = false ∧ s'.dbl.role = .off ∧ s'.now = t ∧ s'.pending = s.pending ∧ s'.out = s.out) ∧
  (∀ (t : Time) (s : State), s.awake = true → let u := s.at_ t
    (s.get R.BOOT_STAT_STATUS = 5 → ∃ s', exec (.dramTrainingDone t none) s = .next s' ∧ s'.get R.BOOT_STAT_STATUS = 7 ∧ s'.dram.key = Config.freeNat s.free) ∧
    (s.whl.ready = false → ∃ s', exec (.whlRefWaitEnd t) s = .next s' ∧ s'.whl.ready = true) ∧
    (∀ flow : Fin 8192, s.has (rstNow (s.flow flow).cluster) = false → exec (.mergeHoleTimeout t flow) s = .next (u.expireHoles flow).payAll) ∧
    (∀ (flow : Fin 8192) (leg : Fin 2) l, (s.flow flow).legs[leg.val]? = some l → (s.flow flow).joined = true →
      s.has (rstNow (s.flow flow).cluster) = false → l.down = false → l.lastRx + 10 * ms ≤ u.up → let v := u.setFlow flow ((u.flow flow).setLeg leg (fun l => { l with down := true }))
      exec (.legDown t flow leg) s = .next
        ((if (v.flow flow).legs.all (·.down) then (v.flowAbandon flow).flowStops flow else v).flowChecks flow (u.curChecks flow)).payAll) ∧
    (∀ (flow : Fin 8192) (leg : Fin 2) l v, (s.flow flow).legs[leg.val]? = some l → s.flowIn flow = some v → leAt v 8 2 ≠ 0 → l.owner.isSome = true →
      l.ownerAt + leAt v 8 2 * ms ≤ u.up → exec (.idleReleaseExpiry t flow leg) s = .next (u.ownLeg flow leg none)) ∧
    exec (.reportRepeat t) s = .next ((u.ip.repeats.filter (fun r => r.2.1 ≤ u.up)).foldl (fun s r => s.sendReport r.1 r.2.2)
      { u with ip.repeats := u.ip.repeats.filter (fun r => u.up < r.2.1) })) ∧
  (∀ (t : Time) (p : Fin 256) (q : Fin 8) (k : Fin 258) (i : Fin 16) (s : State), s.awake = true → let u := s.at_ t
    let v := u.pausesEnd p
    (∀ f, look q.val (v.port p).pauseFrom = some f → bit (v.get (R.PORT_QPAUSED p)) q = true → f + v.watchdog p ≤ v.now →
      let x := (v.resume p q).bump (R.PORT_PAUSE_WD p) 1
      let w := x.setPort p { x.port p with lastPause := put q.val x.now (x.port p).lastPause }
      exec (.pauseWatchdog t p q) s =
        .next ((w.set (R.PORT_QIGNORE p) (w.get (R.PORT_QIGNORE p) ||| 2 ^ q.val)).event (portIsland p) 1 0x0304 (beBytes 2 p ++ beBytes 1 q))) ∧
    (bit (s.get (R.PORT_QIGNORE p)) q = true → lookD q.val (s.port p).lastPause 0 + s.watchdog p ≤ t →
      exec (.qignoreEnd t p q) s = .next (u.set (R.PORT_QIGNORE p) (u.get (R.PORT_QIGNORE p) &&& (255 - 2 ^ q.val)))) ∧
    (let old := lookD q.val (v.port p).queues []
     let young := old.filter (fun f => v.now < f.1 + ms)
     exec (.beFrameAged t p q) s =
      .next ((v.setPort p { v.port p with queues := put q.val young (v.port p).queues }).bump (R.PORT_BE_TX_DROP p) (old.length - young.length))) ∧
    (2 ^ 31 ≤ s.get (portCounter k i) → exec (.counterHalf t k i) s = .next (u.readCounter k i)) ∧
    exec (.counterSweep t) s = .next ((u.regs.filterMap (fun r => counterAt r.1)).foldl (fun s c => s.readCounter c.1 c.2) u)) ∧
  (∀ (t : Time) (s : State), s.awake = true → let u := s.at_ t
    (∀ sdi far, s.aud.count < countAt t / 6 * 6 → exec (.audioTick t sdi far) s = .next (((u.audioTick sdi far).slotSends (countAt t / 6 * 6)).strandSends).beArrive) ∧
    (∀ (f : Fin 8192) slot count v non i, s.inAddrs.findIdx? (fun a => s.feed a = .flow f slot) = some i → s.aud.count ≤ count + s.inDelay f →
      count + s.inDelay f ≤ s.aud.count + 1919 → exec (.audioSampleArrival t f slot count v non) s =
        .next (u.setIn i { s.inCh i with placed := put (count + s.inDelay f) (v, non) (s.inCh i).placed })) ∧
    (∀ ic : Fin 32768, (s.inCh ic).gap = true → exec (.inputGap t ic) s = .next ((u.setIn ic { s.inCh ic with gap := false }).bump R.AUD_GAPS 1)) ∧
    (∀ (src : Fin 1024) margin d, look src.val s.aud.delta = some d → (margin < 8 ∨ 40 < margin) →
      ∃ s', exec (.sdiAudioSlip t src margin) s = .next s' ∧ s'.aud.delta = put src.val (d + (24 - margin)) s.aud.delta) ∧
    (∀ bus : Fin 1024, s.busIdleOff = false → (∀ m, m < (s.abus bus).members.length → 4800 ≤ (s.abus bus).run m) →
      exec (.busIdleEntry t bus) s = .next (u.setBus bus { s.abus bus with idle := true })) ∧
    (∀ (win : Fin 1024) m crc w, look win.val s.mv.wins = some w → w.change = none → w.from_ ≤ t → s.winWrites w.buf = true →
      exec (.windowEngineWrite t win m crc) s =
        .next (({ u with mv.wins := put win.val { w with buf := w.buf.write w.shown m crc } u.mv.wins } : State).winWritten win w.buf)) ∧
    (∀ (win : Fin 1024) w, look win.val s.mv.wins = some w → s.winHold (win.val / 64) ≤ w.gap → w.noSignal = false →
      exec (.winHoldExpiry t win) s = .next (u.winSignal win w true)) ∧
    (∀ r : Fin 6, s.mayQualify r = true → exec (.refQualify t r) s = .next (u.qualify r)) ∧
    (∀ (r : Fin 6) cause, 2 ≤ r.val → exec (.refDisqualify t r cause) s = .next (u.disqualify r).utcShow) ∧
    (∀ (r : Fin 6) f, s.revert = true → s.whl.forced = none → s.qualified r = true → s.whl.selected.isSome = true →
      (s.prioList.takeWhile (fun y => s.whl.selected ≠ some y)).contains r.val = true → look r.val s.whl.qualSince = some f → f + s.wtr * sec ≤ u.up →
      exec (.wtrExpiry t r) s = .next (u.switchRef (some r.val)))) ∧
  (∀ (t : Time) (isl : Fin 40) (s : State), s.awake = true → let u := s.at_ t
    (∀ (cls : Fin 3) (cond code typ master addr : Nat), exec (.errorLineOccurrence t isl cls cond code typ master addr) s =
      .next ((((u.hold isl (2 ^ 40 + 2 * cond) (cls + 2)).latch isl (cls + 2) code { typ := typ, master := master, addr := addr }).react (cls + 2) 15 4))) ∧
    (s.has (rstNow isl) = false → exec (.currentBitExpiry t isl) s =
      .next { u with flt.conds := s.flt.conds.filter (fun c => !(c.isl = isl && oneShot c.tag && c.at_ + ms ≤ u.up)) }) ∧
    exec (.fltCheck t) s = .next ((u.set R.FLT_STAT_COPY_OK 0).raise 38 4 0x0007 3 [] { typ := 3, master := 0x40 + 38 }) ∧
    (∀ (off : Nat) (k : Fin 32) (cls : Fin 4), accessOf ⟨isl, off, k, k⟩ = some .w1c → ∃ s', exec (.islandError t isl off k cls 0) s = .next s' ∧
      s' = ((u.bump (R.FLT_EVQ_DROP isl) 0).errorEffect ⟨isl, off, k, k⟩ |>.set ⟨isl, off, k, k⟩ 1).islandError ⟨isl, off, k, k⟩ cls) ∧
    (∀ readings, exec (.tempSample t readings) s = .next (u.temperature readings)) ∧
    (∀ (pair : Fin 4) addr, ∃ s', exec (.lockstep t pair addr) s = .next s' ∧ s'.has R.CORE_ERR_LOCKSTEP = true) ∧
    (∀ addr, exec (.sramEcc t false addr) s = .next ((u.bump R.CORE_SRAM_COR 1).err R.CORE_ERR_SRAM_COR 1) ∧
      exec (.sramEcc t true addr) s = .next ((u.ringHit addr).err R.CORE_ERR_SRAM_UNC 3 { typ := 0, addr := addr })) ∧
    (∀ (off master typ : Nat) f, s.has (rstNow isl) = false → hsTimeout isl off = some f → exec (.transactionTimeout t isl off master typ) s =
      .next ((u.matrixResponse 5 typ master (0x4000000000 + isl.val * 0x100000 + off)).handshakeLost f { typ := 3, master := master, addr := 0 })) ∧
    (∀ g : Fin 8, exec (.zqRecalibrate t g false) s = .next (u.dgDown g 4) ∧ (∀ cause, exec (.dgReset t g cause) s = .next (u.dgDown g cause))) ∧
    (∀ p at_ late, s.dram.change = some (p, at_, late) → at_ ≤ t → s.groupDown = false → exec (.pointChangeInstant t) s = .next (u.movePoint p))) ∧
  (∀ (t close : Time) (h : DblHead) (s : State), s.inService = true → h.good = true → s.dbl.linkUp = true → let u := s.at_ t
    (∀ effs, s.dbl.role = .standby → exec (.dblCopy t h close effs true true) s = .next (u.confirmCopy effs close)) ∧
    (∀ k r l, s.dbl.bulks = (k, r) :: l → exec (.dblConfirm t h 0) s = .next (({ u with dbl.bulks := l } : State).reply r)) ∧
    (∀ c, s.dbl.role = .active → s.dbl.held = some c → c.close = close → close ≠ 0 → ∃ s', exec (.dblConfirm t h close) s = .next s') ∧
    (∀ c, s.dbl.held = some c → c.tries = 1 → exec (.dblNack t h c.close) s =
      .next (({ u.bump R.DBL_COPY_RETRY 1 with dbl.held := some { c with tries := 2 } } : State).dblData
        (32 + total (c.effs.map Eff.size)) (.dblCopy c.close c.effs))) ∧
    (∀ b, s.twinUnfit b = false → ∃ s', exec (.dblHello t h b) s = .next s' ∧ s'.dbl.linkUp = true) ∧
    exec (.dblBeat t h none) s = .next (u.twinSays h) ∧ exec (.dblBeatSend t) s = .next (u.dblSend 2 0 []) ∧
    (∀ key off clear data n, s.dbl.role = .joining → s.bankSize key = some n → off + data.length ≤ n →
      exec (.dblBulk t h key off clear data) s = .next (u.hiddenWrite key off clear data)) ∧
    exec (.dblHandoff t h .datagram) s = .next (u.bump R.DBL_HANDOFFS 1) ∧
    (∀ e, s.dbl.role.holds = false → exec (.dblEvent t h e) s =
      .next (u.event 37 1 0x0502 (beBytes 2 e.code ++ beBytes 1 e.isl ++ beBytes 1 0 ++ e.detail.take 60))) ∧
    (s.dbl.role = .standby → exec (.dblYield t h) s =
      .next (({ u with dbl.twinRole := h.role % 8, dbl.twinF3 := h.f3 } : State).takeControl (if h.role = 1 ∨ h.role = 2 then .active else .solo) true)) ∧
    (∀ port pair, pair ≠ s.pairNo → exec (.claim t port pair) s = .next (u.emit (.handClaim port pair)))) ∧
  (∀ (t : Time) (tie : Tie) (since : Nat) (w : Nat × Nat) (s : State), s.inService = true → let u := s.at_ t
    let v : State := ({ u.linkDown with dbl.tieIn := tie } : State).errNamed R.DBL_ERR_DOWN 2 0x0501 [] { typ := 3, master := 0x40 + 37 } true
    let x : State := if v.serving then { v with dbl.settleEnd := some (t - min since 24000 + 2 * ms) } else v
    let y : State := { u with dbl.tieIn := tie }
    let z : State := if y.tieWrong then y else y.errDone R.DBL_ERR_TIE_FAULT
    (s.dbl.linkUp = true →
      (s.dbl.role = .standby → exec (.dblLinkLoss t tie since) s = .next (if tie = .hold then x.detach else (x.takeControl .solo true).sendClaim)) ∧
      (s.dbl.role = .active → exec (.dblLinkLoss t tie since) s =
        .next (if tie = .hold then (x.peak R.DBL_DUAL x.dualSpan).detach else ((x.setRole .solo).defer (t - min since 24000 + 2 * ms)).bulkDone)) ∧
      (s.dbl.role = .solo → exec (.dblLinkLoss t tie since) s =
        .next (if tie = .hold then (x.peak R.DBL_DUAL x.dualSpan).detach else (x.defer (t - min since 24000 + 2 * ms)).bulkDone))) ∧
    (tieRead w = some tie →
      (s.dbl.role = .active → exec (.tieInChange t w) s = .next z) ∧
      (s.dbl.role = .standby → s.dbl.linkUp = true → (tie = .none ∨ tie = .invalid) →
        exec (.tieInChange t w) s = .next (z.takeControl .solo true)))) ∧
  (∀ (t : Time) (isl : Fin 40) (good : Bool) (s : State), s.inService = true → let u := s.at_ t
    (isl.val ≠ 36 → isl.val ≠ 38 → s.has (rstNow isl) = false → exec (.islandFence t isl) s = .next (u.fence isl)) ∧
    (s.has (rstNow isl) = true → exec (.islandRearmed t isl good) s = .next (u.rearm isl good)) ∧
    (s.has (rstNow 34) = true → exec (.spnReset t good) s = .next (u.spnUp good)) ∧
    (s.has (rstNow 34) = false → exec (.spnReset t good) s = .next (u.spnDown.spnUp good)) ∧
    (s.has (rstNow 39) = false → exec (.bootReset t) s =
      .next ((u.beginReset 39).bootDown.raise 39 2 0x0704 tagBootReset [] { typ := 3, master := 0x40 + 39 })))
end

