-- ==== Sys2Proof/Laws/Accept.lean ====
section
/-! SUPPORT. When a command acts, and the one lemma on the acceptance of a SiCP request: an accepted request acts in `State.accepted`. -/

namespace Sys2Proof.Machine

/-! ### The shells of the meanings -/

@[simp] theorem State.at_serving (s : State) (t : Time) : (s.at_ t).serving = s.serving := rfl

@[simp] theorem State.at_get (s : State) (t : Time) (f : Fld) : (s.at_ t).get f = s.get f := rfl

@[simp] theorem State.at_has (s : State) (t : Time) (f : Fld) : (s.at_ t).has f = s.has f := rfl

@[simp] theorem State.at_sess (s : State) (t : Time) (id : Nat) : (s.at_ t).sess id = s.sess id := rfl

/-- A command that needs a serving chip has its effect on one in service. -/
theorem served_of_inService {s : State} (h : s.inService = true) (t : Time) (f : State → State) : served t s f = .next (f (s.at_ t)) := by
  simp only [State.inService, Bool.and_eq_true, Bool.not_eq_true'] at h
  simp [served, live, h.1, h.2]

/-- A command that needs a released chip has its effect on one that is awake. -/
theorem released_of_awake {s : State} (h : s.awake = true) (t : Time) (f : State → State) : released t s f = .next (f (s.at_ t)) := by
  simp only [State.awake, Bool.and_eq_true, Bool.not_eq_true', decide_eq_true_eq] at h
  simp [released, live, h.1, h.2]

/-- A chip in service is awake. -/
theorem State.awake_of_inService {s : State} (h : s.inService = true) : s.awake = true := by
  simp only [State.inService, State.serving, Bool.and_eq_true, Bool.not_eq_true', decide_eq_true_eq] at h
  simp only [State.awake, Bool.and_eq_true, Bool.not_eq_true', decide_eq_true_eq]
  exact ⟨h.1, by omega⟩

/-! ### Acceptance -/

/-- An accepted request acts in the state and the context of its acceptance. -/
theorem State.request_of_accepts {s : State} {m : Msg} {q : Req} {lacks : State → Session → List Tlv → Option Need} {c : Session}
    {ts : List Tlv} (h : s.accepts m q lacks c ts = true) (body : State → Ctx → State) :
    s.request m q lacks body = body (s.accepted q c) (s.ctx m q c ts) := by
  simp only [State.accepts, Bool.and_eq_true, Bool.or_eq_true, decide_eq_true_eq, Bool.not_eq_true', Option.isNone_iff_eq_none, ne_eq,
    Bool.and_eq_false_iff] at h
  obtain ⟨⟨⟨⟨⟨⟨⟨⟨⟨⟨⟨⟨hs, ho⟩, hl⟩, hk⟩, ht⟩, hb⟩, hf0⟩, hf1⟩, hm⟩, hst⟩, hr⟩, hv⟩, hp⟩ := h
  have ht' : ((s.setSess c.id (fun c => { c with lastRx := s.up, peer := q.peer })).bucket c.princ !c.own).tokens ≠ 0 := ht
  have ho' : (!c.own && !s.dbl.role.holds) = false := by rcases ho with ho | ho <;> simp [ho]
  have hl' : ¬1400 < 16 + q.body.length := by omega
  have hb' : ¬256 ≤ q.backlog := by omega
  have hv' : ts.find? (fun v => !tlvValOk v) = none := by
    simp only [List.find?_eq_none, Bool.not_eq_true', Bool.not_eq_false]
    exact List.all_eq_true.mp hv
  have hp' : (m.pair && c.own) = false := by rcases hp with hp | hp <;> simp [hp]
  have ho2 : ((((s.queued q c).setSess c.id (fun c => c.accept q.id)).bump R.SCP_REQUESTS 1).sicp.order) = s.sicp.order := by
    simp [State.queued, State.spend, State.dequeued, State.bump, State.set, State.setWord, State.setSess, State.setBucket]
    split <;> rfl
  simp only [State.request, hs, ho', hl', hk, if_false, Bool.false_eq_true]
  have hsp : ((s.setSess c.id (fun c => { c with lastRx := s.up, peer := q.peer })).spend c.princ !c.own).1 = true := by
    simp [State.spend, ht']
  simp only [hsp, Bool.not_true, Bool.false_eq_true, if_false, hb', State.fromQueue, hf0, hf1, Bool.or_false, hm, State.judge, hst]
  have hr2 : lacks ((((s.setSess c.id (fun c => { c with lastRx := s.up, peer := q.peer })).spend c.princ !c.own).2.dequeued c.tenant q.backlog)) c ts =
    none := hr
  simp only [hr2, hv', hp', Bool.false_eq_true, if_false]
  have e1 : s.accepted q c = { (((s.queued q c).setSess c.id (fun c => c.accept q.id)).bump R.SCP_REQUESTS 1) with
    sicp.order := (((s.queued q c).setSess c.id (fun c => c.accept q.id)).bump R.SCP_REQUESTS 1).sicp.order + 1 } := rfl
  have e2 : s.ctx m q c ts = ⟨c, m.typ, q.id, (((s.queued q c).setSess c.id (fun c => c.accept q.id)).bump R.SCP_REQUESTS 1).sicp.order, ts⟩ := by
    simp only [State.ctx, ho2]
  rw [e1, e2]
  rfl

/-- A request that a chip in service accepts acts in the state and the context of its acceptance. -/
theorem State.served_of_takes {s u : State} {t : Time} {m : Msg} {q : Req} {lacks : State → Session → List Tlv → Option Need} {x : Ctx}
    (h : s.takes t m q lacks u x) (body : State → Ctx → State) :
    served t s (fun s => s.request m q lacks body) = .next (body u x) := by
  obtain ⟨hi, c, ts, ha, rfl, rfl⟩ := h
  rw [served_of_inService hi, State.request_of_accepts ha]

end Sys2Proof.Machine
end

