-- ==== Sys2Proof/Laws/Maps.lean ====
section
/-! SUPPORT. Laws of the sorted maps, of byte memory and of the register file: what is read after a write, and that every write keeps the one
form. -/

namespace Sys2Proof.Machine

variable {α : Type}

/-! ### Sorted maps -/

theorem rising_iff {m : List (Nat × α)} : rising m = true ↔ m.Pairwise (fun a b => a.1 < b.1) := by
  induction m with
  | nil => simp [rising]
  | cons a m ih =>
    cases m with
    | nil => simp [rising]
    | cons b m =>
      simp only [rising, Bool.and_eq_true, decide_eq_true_eq, ih, List.pairwise_cons]
      constructor
      · rintro ⟨hab, hb, hm⟩
        refine ⟨fun c hc => ?_, hb, hm⟩
        rcases List.mem_cons.mp hc with rfl | hc
        · exact hab
        · exact hab.trans (hb c hc)
      · rintro ⟨ha, hb, hm⟩
        exact ⟨ha b (by simp), hb, hm⟩

theorem mem_put {k : Nat} {v : α} {m : List (Nat × α)} {c : Nat × α} (h : c ∈ put k v m) : c = (k, v) ∨ c ∈ m := by
  induction m with
  | nil => simp [put] at h; exact .inl h
  | cons a m ih =>
    obtain ⟨j, w⟩ := a
    simp only [put] at h
    split at h
    · simpa using h
    · split at h
      · rcases List.mem_cons.mp h with h | h
        · exact .inl h
        · exact .inr (List.mem_cons_of_mem _ h)
      · rcases List.mem_cons.mp h with h | h
        · exact .inr (by simp [h])
        · exact (ih h).imp id (List.mem_cons_of_mem _)

theorem drop_sublist (k : Nat) (m : List (Nat × α)) : (drop k m).Sublist m := by
  induction m with
  | nil => simp [drop]
  | cons a m ih =>
    obtain ⟨j, w⟩ := a
    simp only [drop]
    split
    · exact List.sublist_cons_self _ _
    · exact ih.cons_cons _

theorem rising_sublist {m n : List (Nat × α)} (h : m.Sublist n) (hn : rising n = true) : rising m = true :=
  rising_iff.mpr ((rising_iff.mp hn).sublist h)

theorem rising_drop {k : Nat} {m : List (Nat × α)} (h : rising m = true) : rising (drop k m) = true :=
  rising_sublist (drop_sublist k m) h

theorem rising_filter {p : Nat × α → Bool} {m : List (Nat × α)} (h : rising m = true) : rising (m.filter p) = true :=
  rising_sublist List.filter_sublist h

theorem rising_put {k : Nat} {v : α} {m : List (Nat × α)} (h : rising m = true) : rising (put k v m) = true := by
  rw [rising_iff] at h ⊢
  induction m with
  | nil => simp [put]
  | cons a m ih =>
    obtain ⟨j, w⟩ := a
    obtain ⟨ha, hm⟩ := List.pairwise_cons.mp h
    simp only [put]
    split
    · rename_i hk
      refine List.pairwise_cons.mpr ⟨fun c hc => ?_, h⟩
      rcases List.mem_cons.mp hc with rfl | hc
      · exact hk
      · exact hk.trans (ha c hc)
    · split
      · rename_i hk; subst hk
        exact List.pairwise_cons.mpr ⟨ha, hm⟩
      · rename_i hk hj
        refine List.pairwise_cons.mpr ⟨fun c hc => ?_, ih hm⟩
        rcases mem_put hc with rfl | hc
        · show j < k; omega
        · exact ha c hc

@[simp] theorem look_put_same (k : Nat) (v : α) (m : List (Nat × α)) : look k (put k v m) = some v := by
  induction m with
  | nil => simp [put, look]
  | cons a m ih =>
    obtain ⟨j, w⟩ := a
    simp only [put]
    split
    · simp [look]
    · split
      · simp [look]
      · rename_i h1 h2; simp [look, h2, ih]

theorem look_put_other {k j : Nat} (h : j ≠ k) (v : α) (m : List (Nat × α)) : look j (put k v m) = look j m := by
  induction m with
  | nil => simp [put, look, h]
  | cons a m ih =>
    obtain ⟨i, w⟩ := a
    simp only [put]
    split
    · simp [look, h]
    · split
      · rename_i h2; subst h2; simp [look, h]
      · simp [look, ih]

theorem look_drop_other {k j : Nat} (h : j ≠ k) (m : List (Nat × α)) : look j (drop k m) = look j m := by
  induction m with
  | nil => rfl
  | cons a m ih =>
    obtain ⟨i, w⟩ := a
    simp only [drop]
    split
    · rename_i h2; subst h2; simp [look, h]
    · simp [look, ih]

theorem look_none_of_lt {k : Nat} {m : List (Nat × α)} (h : ∀ c ∈ m, k < c.1) : look k m = none := by
  induction m with
  | nil => rfl
  | cons a m ih =>
    obtain ⟨i, w⟩ := a
    have := h (i, w) (by simp)
    simp only [look]
    rw [if_neg (by show k ≠ i; exact Nat.ne_of_lt this)]
    exact ih (fun c hc => h c (List.mem_cons_of_mem _ hc))

theorem look_drop_same {k : Nat} {m : List (Nat × α)} (h : rising m = true) : look k (drop k m) = none := by
  rw [rising_iff] at h
  induction m with
  | nil => rfl
  | cons a m ih =>
    obtain ⟨i, w⟩ := a
    obtain ⟨ha, hm⟩ := List.pairwise_cons.mp h
    simp only [drop]
    split
    · rename_i h2; subst h2; exact look_none_of_lt ha
    · rename_i h2; simp [look, h2, ih hm]

/-! ### Byte memory -/

theorem memPut_wf {m : List Host.Cell} (h : Memory.wf m = true) (a : Nat) (b : Byte) : Memory.wf (memPut m a b) = true := by
  simp only [Memory.wf, Bool.and_eq_true, List.all_eq_true, decide_eq_true_eq] at h ⊢
  obtain ⟨hr, hb⟩ := h
  unfold memPut
  split
  · exact ⟨rising_drop hr, fun c hc => hb c ((drop_sublist a m).subset hc)⟩
  · refine ⟨rising_put hr, fun c hc => ?_⟩
    rcases mem_put hc with rfl | hc
    · assumption
    · exact hb c hc

theorem memWrite_wf {m : List Host.Cell} (h : Memory.wf m = true) (a : Nat) (v : List Byte) : Memory.wf (memWrite m a v) = true := by
  induction v generalizing m a with
  | nil => exact h
  | cons b v ih => exact ih (memPut_wf h a b) (a + 1)

theorem memByte_memPut_same {m : List Host.Cell} (h : Memory.wf m = true) (a : Nat) (b : Byte) : memByte (memPut m a b) a = b := by
  unfold memPut
  split
  · rename_i hb
    simp only [Memory.wf, Bool.and_eq_true] at h
    simp [memByte, lookD, look_drop_same h.1, hb]
  · simp [memByte, lookD]

theorem memByte_memPut_other {m : List Host.Cell} {a x : Nat} (h : x ≠ a) (b : Byte) : memByte (memPut m a b) x = memByte m x := by
  unfold memPut
  split
  · simp [memByte, lookD, look_drop_other h]
  · simp [memByte, lookD, look_put_other h]

theorem memByte_memWrite_other {m : List Host.Cell} {a x : Nat} {v : List Byte} (h : x < a ∨ a + v.length ≤ x) :
    memByte (memWrite m a v) x = memByte m x := by
  induction v generalizing m a with
  | nil => rfl
  | cons b v ih =>
    simp only [List.length_cons] at h
    rw [memWrite, ih (by omega), memByte_memPut_other (by omega)]

/-- A byte written reads as the byte given (18 Table 18.1; the memory's one form is assumed). -/
theorem memByte_memWrite {m : List Host.Cell} (hm : Memory.wf m = true) {a : Nat} {v : List Byte} {i : Nat} (hi : i < v.length) :
    memByte (memWrite m a v) (a + i) = v[i] := by
  induction v generalizing m a i with
  | nil => simp at hi
  | cons b v ih =>
    rw [memWrite]
    cases i with
    | zero => rw [memByte_memWrite_other (by omega)]; simpa using memByte_memPut_same hm a b
    | succ i =>
      have := ih (m := memPut m a b) (memPut_wf hm a b) (a := a + 1) (i := i) (by simpa using hi)
      rw [show a + (i + 1) = a + 1 + i by omega, this]; rfl

/-! ### The register file -/

theorem canonical_filter {p : Nat × Word → Bool} {l : List (Nat × Word)} (h : canonical l = true) : canonical (l.filter p) = true := by
  simp only [canonical, Bool.and_eq_true, List.all_eq_true, decide_eq_true_eq] at h ⊢
  exact ⟨rising_filter h.1, fun r hr => h.2 r (List.mem_filter.mp hr).1⟩

theorem setWord_canonical {s : State} (h : canonical s.regs = true) (a v : Nat) : canonical (s.setWord a v).regs = true := by
  simp only [canonical, Bool.and_eq_true, List.all_eq_true, decide_eq_true_eq] at h ⊢
  unfold State.setWord
  dsimp only
  split
  · exact ⟨rising_drop h.1, fun r hr => h.2 r ((drop_sublist a s.regs).subset hr)⟩
  · rename_i hv
    refine ⟨rising_put h.1, fun r hr => ?_⟩
    rcases mem_put hr with rfl | hr
    · simpa using hv
    · exact h.2 r hr

theorem setWord_regs (s : State) (a v : Nat) :
    (s.setWord a v).regs = if v % 2 ^ 32 = resetWord a then drop a s.regs else put a (BitVec.ofNat 32 v) s.regs := rfl

/-- A word written reads as written, modulo 2^32 (00 R16). -/
theorem word_setWord_same {s : State} (h : canonical s.regs = true) (a v : Nat) : (s.setWord a v).word a = v % 2 ^ 32 := by
  simp only [canonical, Bool.and_eq_true] at h
  rw [State.word, setWord_regs]
  by_cases hv : v % 2 ^ 32 = resetWord a
  · rw [if_pos hv, look_drop_same h.1, hv]
  · rw [if_neg hv, look_put_same]; exact BitVec.toNat_ofNat ..

theorem word_setWord_other {s : State} {a b : Nat} (h : b ≠ a) (v : Nat) : (s.setWord a v).word b = s.word b := by
  have e : look b (s.setWord a v).regs = look b s.regs := by
    rw [setWord_regs]
    by_cases hv : v % 2 ^ 32 = resetWord a
    · rw [if_pos hv, look_drop_other h]
    · rw [if_neg hv, look_put_other h]
  rw [State.word, e, State.word]

end Sys2Proof.Machine
end

