-- ==== Sys2Proof/Laws/Keeps.lean ====
section
/-! SUPPORT. What every operation of the block keeps, in one relation: elapsed time, the queue, the one form of the register file, of the 64-bit
values and of the memory, the record of what left the chip, the life cycle and the rollback counter, and every byte of the memory outside the
header of the staging region. -/

namespace Sys2Proof.Machine

/-- The header of the staging region, in either layout of the memory (18 Table 18.1). -/
def stageHeader (x : Nat) : Prop := (0x1400000 ≤ x ∧ x < 0x1400000 + 64) ∨ (0x3000000 ≤ x ∧ x < 0x3000000 + 64)

/-- The parts of a state that `Keeps` speaks of, against a state before. -/
structure KeepsParts (a : State) (up : Nat) (pending : List Instr) (regs : List (Nat × Word)) (wide : List (Nat × Nat)) (out : List Out)
    (xspi : List Host.Cell) (life left rb : Nat) : Prop where
  up_eq : up = a.up
  pending_eq : pending = a.pending
  regs_ok : canonical a.regs = true → canonical regs = true
  wide_ok : rising a.wide = true → rising wide = true
  out_ok : a.out <+: out
  mem_ok : Memory.wf a.boot.xspi = true → Memory.wf xspi = true
  mem_eq : ∀ x, ¬stageHeader x → memByte xspi x = memByte a.boot.xspi x
  life_eq : life = a.keys.life
  left_eq : left = a.keys.left
  rb_eq : rb = a.keys.rbSteps

/-- What every operation of the block keeps. -/
def Keeps (a s : State) : Prop :=
  KeepsParts a s.up s.pending s.regs s.wide s.out s.boot.xspi s.keys.life s.keys.left s.keys.rbSteps

@[simp] theorem Keeps.refl (a : State) : Keeps a a := ⟨rfl, rfl, id, id, List.prefix_refl _, id, fun _ _ => rfl, rfl, rfl, rfl⟩

theorem Keeps.trans {a b c : State} (h : Keeps a b) (k : Keeps b c) : Keeps a c :=
  ⟨k.up_eq.trans h.up_eq, k.pending_eq.trans h.pending_eq, k.regs_ok ∘ h.regs_ok, k.wide_ok ∘ h.wide_ok, h.out_ok.trans k.out_ok,
    k.mem_ok ∘ h.mem_ok, fun x hx => (k.mem_eq x hx).trans (h.mem_eq x hx), k.life_eq.trans h.life_eq, k.left_eq.trans h.left_eq,
    k.rb_eq.trans h.rb_eq⟩

@[simp] theorem keeps_mk {a : State} {now up free : Nat} {pending regs wide out boot flt sicp xp sdi dbl bob dram aud mv probe eth ip whl keys spn skn rtc} :
    Keeps a ⟨now, up, free, pending, regs, wide, out, boot, flt, sicp, xp, sdi, dbl, bob, dram, aud, mv, probe, eth, ip, whl, keys, spn, skn, rtc⟩ ↔
      KeepsParts a up pending regs wide out boot.xspi keys.life keys.left keys.rbSteps := Iff.rfl

@[simp] theorem keepsParts_self {a s : State} :
    KeepsParts a s.up s.pending s.regs s.wide s.out s.boot.xspi s.keys.life s.keys.left s.keys.rbSteps ↔ Keeps a s := Iff.rfl

@[simp] theorem keeps_ite {a x y : State} {p : Prop} [Decidable p] : Keeps a (if p then x else y) ↔ (p → Keeps a x) ∧ (¬p → Keeps a y) := by
  split <;> simp_all

/-- A fold keeps what each of its steps keeps. -/
@[simp] theorem keeps_foldl {α : Type} {a : State} {f : State → α → State} (hf : ∀ s x, Keeps a s → Keeps a (f s x)) {s : State} (l : List α)
    (h : Keeps a s) : Keeps a (l.foldl f s) := by
  induction l generalizing s with
  | nil => exact h
  | cons x l ih => exact ih (hf s x h)

/-- A fold over a state with something beside it keeps what each of its steps keeps. -/
theorem keeps_foldl_of {α β : Type} {a : State} (π : β → State) {f : β → α → β} (hf : ∀ b x, Keeps a (π b) → Keeps a (π (f b x))) {b : β}
    (l : List α) (h : Keeps a (π b)) : Keeps a (π (l.foldl f b)) := by
  induction l generalizing b with
  | nil => exact h
  | cons x l ih => exact ih (hf b x h)

/-! ### The operations that change a part -/

/-- A 64-bit value is put among the others. -/
@[simp] theorem KeepsParts.put_wide {a : State} {up pending regs wide out xspi life left rb}
    (h : KeepsParts a up pending regs wide out xspi life left rb) (k v : Nat) : KeepsParts a up pending regs (put k v wide) out xspi life left rb :=
  { h with wide_ok := fun r => rising_put (h.wide_ok r) }

/-- Words are taken out of the register file. -/
@[simp] theorem KeepsParts.filter_regs {a : State} {up pending regs wide out xspi life left rb}
    (h : KeepsParts a up pending regs wide out xspi life left rb) (p : Nat × Word → Bool) :
    KeepsParts a up pending (regs.filter p) wide out xspi life left rb :=
  { h with regs_ok := fun r => canonical_filter (h.regs_ok r) }

@[simp] theorem State.setWord_keeps {a s : State} (h : Keeps a s) (k v : Nat) : Keeps a (s.setWord k v) :=
  { h with regs_ok := fun r => setWord_canonical (h.regs_ok r) k v }

@[simp] theorem State.bump64_keeps {a s : State} (h : Keeps a s) (f : Fld) (n : Nat) : Keeps a (s.bump64 f n) := by
  unfold State.bump64
  split
  · exact h
  · exact { h with wide_ok := fun r => rising_put (h.wide_ok r) }

@[simp] theorem State.clearWindow_keeps {a s : State} (h : Keeps a s) (isl : Nat) : Keeps a (s.clearWindow isl) :=
  { h with regs_ok := fun r => canonical_filter (h.regs_ok r), wide_ok := fun r => rising_filter (h.wide_ok r) }

@[simp] theorem State.emit_keeps {a s : State} (h : Keeps a s) (o : Out) : Keeps a (s.emit o) :=
  { h with out_ok := h.out_ok.trans (List.prefix_append ..) }

end Sys2Proof.Machine
end

