-- ==== Sys2Proof/Laws/Memory.lean ====
section
/-! SUPPORT. Laws of the memory controllers: the interleave draws permutations, a row write changes its own bytes alone, and every operation of
the channels keeps the one form of the bytes that they hold. -/

namespace Sys2Proof.Machine

/-! ### The interleave -/

theorem drawn_perm (draw : Nat → Nat) {n : Nat} {l : List Nat} (h : l.length = n) : (drawn draw n l).Perm l := by
  induction n generalizing l with
  | zero => simp [List.length_eq_zero_iff.mp h, drawn]
  | succ n ih =>
    have hlt : draw n % l.length < l.length := Nat.mod_lt _ (by omega)
    have hm : l.getD (draw n % l.length) 0 ∈ l := by simp [List.getD, List.getElem?_eq_getElem hlt]
    refine ((ih (l := l.erase (l.getD (draw n % l.length) 0)) ?_).cons _).trans (List.perm_cons_erase hm).symm
    rw [List.length_erase_of_mem hm]; omega

theorem sigma_perm (key g : Nat) : (sigma key g).Perm (List.range 32) := drawn_perm _ (by simp)

theorem phi_perm (key c : Nat) : (phi key c).Perm (List.range (2 ^ 18)) := drawn_perm _ (by simp)

/-- Every row lies on one of the 32 channels. -/
theorem rowChannel_lt (key r : Nat) : rowChannel key r < 32 := by
  have hp := sigma_perm key (rowGroup r)
  unfold rowChannel List.getD
  cases h : (sigma key (rowGroup r))[rowPos r]? with
  | none => simp
  | some c => exact List.mem_range.mp (hp.mem_iff.mp (List.mem_of_getElem? h))

/-! ### The bytes of the channels -/

theorem foldl_memPut_wf {m : List Host.Cell} (h : Memory.wf m = true) (cells : List Host.Cell) :
    Memory.wf (cells.foldl (fun (m : List Host.Cell) (x : Host.Cell) => memPut m x.1 x.2) m) = true := by
  induction cells generalizing m with
  | nil => exact h
  | cons c cells ih => exact ih (memPut_wf h c.1 c.2)

theorem memByte_foldl_memPut {m : List Host.Cell} {cells : List Host.Cell} {a : Nat} (h : ∀ c ∈ cells, c.1 ≠ a) :
    memByte (cells.foldl (fun (m : List Host.Cell) (x : Host.Cell) => memPut m x.1 x.2) m) a = memByte m a := by
  induction cells generalizing m with
  | nil => rfl
  | cons c cells ih =>
    rw [List.foldl_cons, ih (fun x hx => h x (List.mem_cons_of_mem _ hx)), memByte_memPut_other (h c (by simp)).symm]

/-- A row write changes no byte but those it is given (09 R333). -/
theorem Dram.rowWrite_byte (d : Dram) (r : Nat) {cells : List Host.Cell} {a : Nat} (h : ∀ c ∈ cells, c.1 ≠ a) :
    memByte (d.rowWrite r cells).data a = memByte d.data a := memByte_foldl_memPut h

theorem Dram.rowWrite_wf {d : Dram} (h : Memory.wf d.data = true) (r : Nat) (cells : List Host.Cell) : Memory.wf (d.rowWrite r cells).data = true :=
  foldl_memPut_wf h cells

@[simp] theorem Dram.setCount_data (d : Dram) (lp : Nat) (x : LpCount) (n : Nat) : (d.setCount lp x n).data = d.data := rfl
@[simp] theorem Dram.tally_data (d : Dram) (lp : Nat) (x : LpCount) : (d.tally lp x).data = d.data := rfl
@[simp] theorem Dram.activate_data (d : Dram) (p : RowPlace) : (d.activate p).data = d.data := rfl
@[simp] theorem Dram.request_data (d : Dram) (up : Nat) (p : RowPlace) (n : Nat) : (d.request up p n).2.data = d.data := by
  simp only [Dram.request]; split <;> [rfl; split <;> rfl]
@[simp] theorem Dram.opened_data (d : Dram) (up : Nat) (p : RowPlace) (n : Nat) : (d.opened up p n).data = d.data := by
  simp only [Dram.opened]; split <;> simp
@[simp] theorem Dram.rowRun_data (d : Dram) (up r : Nat) (write : Bool) (n : Nat) : (d.rowRun up r write n).data = d.data := by
  simp [Dram.rowRun]

theorem Dram.commit_wf {d : Dram} (h : Memory.wf d.data = true) (up : Nat) (g : Gather) : Memory.wf (d.commit up g).data = true := by
  unfold Dram.commit
  rw [Dram.rowRun_data]
  exact Dram.rowWrite_wf h g.row g.cells

theorem Dram.foldl_wf {α : Type} (f : Dram → α → Dram) (hf : ∀ d x, Memory.wf d.data = true → Memory.wf (f d x).data = true) {d : Dram}
    (h : Memory.wf d.data = true) (l : List α) : Memory.wf (l.foldl f d).data = true := by
  induction l generalizing d with
  | nil => exact h
  | cons x l ih => exact ih (hf d x h)

theorem Dram.drain_wf {d : Dram} (h : Memory.wf d.data = true) (up : Nat) : Memory.wf (d.drain up).data = true := by
  unfold Dram.drain
  split
  · exact h
  · exact Dram.foldl_wf _ (fun _ g hd => Dram.commit_wf hd up g) (d := { d with queue := [] }) h _

theorem Dram.flush_wf {d : Dram} (h : Memory.wf d.data = true) (up stream : Nat) : Memory.wf (d.flush up stream).data = true := by
  unfold Dram.flush
  split
  · exact h
  · dsimp only
    split
    · exact h
    · exact Dram.commit_wf (Dram.drain_wf (d := { d with gather := drop stream d.gather }) h up) up _

theorem Dram.gatherRow_wf {d : Dram} (h : Memory.wf d.data = true) (up stream r : Nat) (cells : List Host.Cell) :
    Memory.wf (d.gatherRow up stream r cells).data = true := by
  have h1 : Memory.wf (if (look stream d.gather).any (fun g => g.row ≠ r) then d.flush up stream else d).data = true := by
    split <;> [exact Dram.flush_wf h up stream; exact h]
  unfold Dram.gatherRow
  generalize (if (look stream d.gather).any (fun g => g.row ≠ r) then d.flush up stream else d) = d' at h1 ⊢
  have h2 := Dram.foldl_wf (fun (d : Dram) (g : Nat × Gather) => d.flush up g.1) (fun _ g hd => Dram.flush_wf hd up g.1) h1
    (d'.gather.filter (fun g => g.1 ≠ stream && g.2.row = r))
  dsimp only
  generalize (d'.gather.filter (fun g => g.1 ≠ stream && g.2.row = r)).foldl (fun (d : Dram) g => d.flush up g.1) d' = e at h2 ⊢
  split
  · exact Dram.flush_wf (d := { e with gather := put stream _ e.gather }) h2 up stream
  · exact h2

/-- What a stream writes keeps the form (09 R339). -/
theorem Dram.streamWrite_wf {d : Dram} (h : Memory.wf d.data = true) (down : Nat → Bool) (up stream a : Nat) (v : List Byte) :
    Memory.wf (d.streamWrite down up stream a v).data = true := by
  refine Dram.foldl_wf _ (fun d r hd => ?_) (Dram.drain_wf h up) _
  split
  · exact hd
  · exact Dram.gatherRow_wf hd up stream r _

theorem Dram.readRow_wf {d : Dram} (h : Memory.wf d.data = true) (up r : Nat) : Memory.wf (d.readRow up r).data = true := by
  have h1 := Dram.foldl_wf _ (fun _ g hd => Dram.commit_wf hd up g) (d := { d with queue := [] }) h d.queue
  unfold Dram.readRow
  simp only [Dram.rowRun_data]
  generalize d.queue.foldl (fun (d : Dram) g => d.commit up g) { d with queue := [] } = e at h1 ⊢
  have h2 : ∀ l : List (Nat × Gather), Memory.wf (l.foldl (fun (d : Dram) g => d.commit up g.2)
      { e with gather := e.gather.filter (fun g => g.2.row ≠ r) }).data = true :=
    fun l => Dram.foldl_wf (fun (d : Dram) (g : Nat × Gather) => d.commit up g.2) (fun _ g hd => Dram.commit_wf hd up g.2)
      (d := { e with gather := e.gather.filter (fun g => g.2.row ≠ r) }) h1 l
  split <;> exact h2 _

/-- A read of a stream, which may first write what was gathered, keeps the form (09 R343). -/
theorem Dram.streamRead_wf {d : Dram} (h : Memory.wf d.data = true) (up stream a n : Nat) :
    Memory.wf (d.streamRead up stream a n).2.data = true := by
  refine Dram.foldl_wf _ (fun d r hd => ?_) h _
  split
  · exact hd
  · exact Dram.readRow_wf hd up r

end Sys2Proof.Machine
end

