-- ==== Sys2Proof/Laws/RegMap.lean ====
section
/-! SUPPORT. Facts of the register map: the rows with a reset value other than 0 are listed apart whole, and every row is a field of a word in its
island's window. -/

namespace Sys2Proof.Machine

/-- `resetRows` are the rows of the register tables whose Reset column is not 0, and no others. -/
theorem resetRows_eq : resetRows = regRows.filter (fun r => r.rst ≠ 0) := by decide +kernel

/-- Every row is a field of one 32-bit word, at an offset that is a multiple of 4 within the window of an island. -/
theorem regRows_shape : regRows.all (fun r => r.lo ≤ r.hi && r.hi < 32 && r.off % 4 = 0 && r.stride % 4 = 0 && r.isl + r.islands ≤ 40 &&
    r.off + r.stride * (r.count - 1) + 4 ≤ 0x100000) = true := by decide +kernel

/-! ### Bits of a word -/

theorem placeBits_get (w lo n v : Nat) : placeBits w lo n v / 2 ^ lo % 2 ^ n = v % 2 ^ n := by
  have hw : w % 2 ^ lo < 2 ^ lo := Nat.mod_lt _ (by positivity)
  have e : placeBits w lo n v = w % 2 ^ lo + 2 ^ lo * (v % 2 ^ n + 2 ^ n * (w / 2 ^ (lo + n))) := by
    simp only [placeBits, pow_add]; ring
  rw [e, Nat.add_mul_div_left _ _ (by positivity), Nat.div_eq_of_lt hw, Nat.zero_add, Nat.add_mul_mod_self_left, Nat.mod_mod]

theorem placeBits_below (w lo n v : Nat) {k : Nat} (h : k ≤ lo) : placeBits w lo n v % 2 ^ k = w % 2 ^ k := by
  obtain ⟨m, rfl⟩ := Nat.exists_eq_add_of_le h
  have e : placeBits w (k + m) n v = w % 2 ^ (k + m) + 2 ^ k * (2 ^ m * (v % 2 ^ n + 2 ^ n * (w / 2 ^ (k + m + n)))) := by
    simp only [placeBits, pow_add]; ring
  rw [e, Nat.add_mul_mod_self_left, Nat.mod_mod_of_dvd _ (Dvd.intro _ (pow_add 2 k m).symm)]

theorem placeBits_above (w lo n v : Nat) : placeBits w lo n v / 2 ^ (lo + n) = w / 2 ^ (lo + n) := by
  have hw : w % 2 ^ lo < 2 ^ lo := Nat.mod_lt _ (by positivity)
  have hv : v % 2 ^ n < 2 ^ n := Nat.mod_lt _ (by positivity)
  have hlt : w % 2 ^ lo + v % 2 ^ n * 2 ^ lo < 2 ^ (lo + n) := by
    rw [pow_add]; nlinarith [Nat.pow_pos (n := lo) (show 0 < 2 by decide)]
  have e : placeBits w lo n v = (w % 2 ^ lo + v % 2 ^ n * 2 ^ lo) + 2 ^ (lo + n) * (w / 2 ^ (lo + n)) := by
    simp only [placeBits]; ring
  rw [e, Nat.add_mul_div_left _ _ (by positivity), Nat.div_eq_of_lt hlt, Nat.zero_add]

theorem placeBits_lt {w lo n : Nat} (v : Nat) (hw : w < 2 ^ 32) (h : lo + n ≤ 32) : placeBits w lo n v < 2 ^ 32 := by
  have h1 := placeBits_above w lo n v
  obtain ⟨m, hm⟩ := Nat.exists_eq_add_of_le h
  have h2 : placeBits w lo n v / 2 ^ (lo + n) < 2 ^ m := by
    rw [h1]; refine Nat.div_lt_of_lt_mul ?_; rw [← pow_add, ← hm]; exact hw
  rw [hm, pow_add]
  exact (Nat.div_lt_iff_lt_mul (by positivity)).mp h2 |>.trans_eq (Nat.mul_comm _ _)

/-- A reset value is a word. -/
theorem resetWord_lt (a : Nat) : resetWord a < 2 ^ 32 := by
  have rows : ∀ r ∈ resetRows, r.lo + (r.hi + 1 - r.lo) ≤ 32 := by
    have h : resetRows.all (fun r => r.lo + (r.hi + 1 - r.lo) ≤ 32) = true := by decide +kernel
    simpa using h
  have fold (l : List RegRow) (hl : ∀ r ∈ l, r.lo + (r.hi + 1 - r.lo) ≤ 32) (w : Nat) (hw : w < 2 ^ 32) :
      l.foldl (fun w r => placeBits w r.lo (r.hi + 1 - r.lo) r.rst) w < 2 ^ 32 := by
    induction l generalizing w with
    | nil => exact hw
    | cons r l ih => exact ih (fun x hx => hl x (List.mem_cons_of_mem _ hx)) _ (placeBits_lt _ hw (hl r List.mem_cons_self))
  exact fold _ (fun r hr => rows r (List.mem_filter.mp hr).1) 0 (by decide)

end Sys2Proof.Machine
end

