-- ==== Sys2Proof/Laws/State.lean ====
section
/-! SUPPORT. What each plain update of the state leaves and what it sets, one lemma for each part of the state, and what a register field reads
after a field is written. -/

namespace Sys2Proof.Machine

/-! ### `State.setWord` -/

@[simp] theorem State.setWord_now (s : State) (a v : Nat) : (s.setWord a v).now = s.now := rfl
@[simp] theorem State.setWord_up (s : State) (a v : Nat) : (s.setWord a v).up = s.up := rfl
@[simp] theorem State.setWord_free (s : State) (a v : Nat) : (s.setWord a v).free = s.free := rfl
@[simp] theorem State.setWord_pending (s : State) (a v : Nat) : (s.setWord a v).pending = s.pending := rfl
@[simp] theorem State.setWord_wide (s : State) (a v : Nat) : (s.setWord a v).wide = s.wide := rfl
@[simp] theorem State.setWord_out (s : State) (a v : Nat) : (s.setWord a v).out = s.out := rfl
@[simp] theorem State.setWord_boot (s : State) (a v : Nat) : (s.setWord a v).boot = s.boot := rfl
@[simp] theorem State.setWord_flt (s : State) (a v : Nat) : (s.setWord a v).flt = s.flt := rfl
@[simp] theorem State.setWord_sicp (s : State) (a v : Nat) : (s.setWord a v).sicp = s.sicp := rfl
@[simp] theorem State.setWord_xp (s : State) (a v : Nat) : (s.setWord a v).xp = s.xp := rfl
@[simp] theorem State.setWord_sdi (s : State) (a v : Nat) : (s.setWord a v).sdi = s.sdi := rfl
@[simp] theorem State.setWord_dbl (s : State) (a v : Nat) : (s.setWord a v).dbl = s.dbl := rfl
@[simp] theorem State.setWord_bob (s : State) (a v : Nat) : (s.setWord a v).bob = s.bob := rfl
@[simp] theorem State.setWord_dram (s : State) (a v : Nat) : (s.setWord a v).dram = s.dram := rfl
@[simp] theorem State.setWord_aud (s : State) (a v : Nat) : (s.setWord a v).aud = s.aud := rfl
@[simp] theorem State.setWord_mv (s : State) (a v : Nat) : (s.setWord a v).mv = s.mv := rfl
@[simp] theorem State.setWord_probe (s : State) (a v : Nat) : (s.setWord a v).probe = s.probe := rfl
@[simp] theorem State.setWord_eth (s : State) (a v : Nat) : (s.setWord a v).eth = s.eth := rfl
@[simp] theorem State.setWord_ip (s : State) (a v : Nat) : (s.setWord a v).ip = s.ip := rfl
@[simp] theorem State.setWord_whl (s : State) (a v : Nat) : (s.setWord a v).whl = s.whl := rfl
@[simp] theorem State.setWord_keys (s : State) (a v : Nat) : (s.setWord a v).keys = s.keys := rfl
@[simp] theorem State.setWord_spn (s : State) (a v : Nat) : (s.setWord a v).spn = s.spn := rfl
@[simp] theorem State.setWord_skn (s : State) (a v : Nat) : (s.setWord a v).skn = s.skn := rfl
@[simp] theorem State.setWord_rtc (s : State) (a v : Nat) : (s.setWord a v).rtc = s.rtc := rfl

/-! ### `State.set` -/

@[simp] theorem State.set_now (s : State) (f : Fld) (v : Nat) : (s.set f v).now = s.now := rfl
@[simp] theorem State.set_up (s : State) (f : Fld) (v : Nat) : (s.set f v).up = s.up := rfl
@[simp] theorem State.set_free (s : State) (f : Fld) (v : Nat) : (s.set f v).free = s.free := rfl
@[simp] theorem State.set_pending (s : State) (f : Fld) (v : Nat) : (s.set f v).pending = s.pending := rfl
@[simp] theorem State.set_wide (s : State) (f : Fld) (v : Nat) : (s.set f v).wide = s.wide := rfl
@[simp] theorem State.set_out (s : State) (f : Fld) (v : Nat) : (s.set f v).out = s.out := rfl
@[simp] theorem State.set_boot (s : State) (f : Fld) (v : Nat) : (s.set f v).boot = s.boot := rfl
@[simp] theorem State.set_flt (s : State) (f : Fld) (v : Nat) : (s.set f v).flt = s.flt := rfl
@[simp] theorem State.set_sicp (s : State) (f : Fld) (v : Nat) : (s.set f v).sicp = s.sicp := rfl
@[simp] theorem State.set_xp (s : State) (f : Fld) (v : Nat) : (s.set f v).xp = s.xp := rfl
@[simp] theorem State.set_sdi (s : State) (f : Fld) (v : Nat) : (s.set f v).sdi = s.sdi := rfl
@[simp] theorem State.set_dbl (s : State) (f : Fld) (v : Nat) : (s.set f v).dbl = s.dbl := rfl
@[simp] theorem State.set_bob (s : State) (f : Fld) (v : Nat) : (s.set f v).bob = s.bob := rfl
@[simp] theorem State.set_dram (s : State) (f : Fld) (v : Nat) : (s.set f v).dram = s.dram := rfl
@[simp] theorem State.set_aud (s : State) (f : Fld) (v : Nat) : (s.set f v).aud = s.aud := rfl
@[simp] theorem State.set_mv (s : State) (f : Fld) (v : Nat) : (s.set f v).mv = s.mv := rfl
@[simp] theorem State.set_probe (s : State) (f : Fld) (v : Nat) : (s.set f v).probe = s.probe := rfl
@[simp] theorem State.set_eth (s : State) (f : Fld) (v : Nat) : (s.set f v).eth = s.eth := rfl
@[simp] theorem State.set_ip (s : State) (f : Fld) (v : Nat) : (s.set f v).ip = s.ip := rfl
@[simp] theorem State.set_whl (s : State) (f : Fld) (v : Nat) : (s.set f v).whl = s.whl := rfl
@[simp] theorem State.set_keys (s : State) (f : Fld) (v : Nat) : (s.set f v).keys = s.keys := rfl
@[simp] theorem State.set_spn (s : State) (f : Fld) (v : Nat) : (s.set f v).spn = s.spn := rfl
@[simp] theorem State.set_skn (s : State) (f : Fld) (v : Nat) : (s.set f v).skn = s.skn := rfl
@[simp] theorem State.set_rtc (s : State) (f : Fld) (v : Nat) : (s.set f v).rtc = s.rtc := rfl

/-! ### `State.emit` -/

@[simp] theorem State.emit_now (s : State) (o : Out) : (s.emit o).now = s.now := rfl
@[simp] theorem State.emit_up (s : State) (o : Out) : (s.emit o).up = s.up := rfl
@[simp] theorem State.emit_free (s : State) (o : Out) : (s.emit o).free = s.free := rfl
@[simp] theorem State.emit_pending (s : State) (o : Out) : (s.emit o).pending = s.pending := rfl
@[simp] theorem State.emit_regs (s : State) (o : Out) : (s.emit o).regs = s.regs := rfl
@[simp] theorem State.emit_wide (s : State) (o : Out) : (s.emit o).wide = s.wide := rfl
@[simp] theorem State.emit_boot (s : State) (o : Out) : (s.emit o).boot = s.boot := rfl
@[simp] theorem State.emit_flt (s : State) (o : Out) : (s.emit o).flt = s.flt := rfl
@[simp] theorem State.emit_sicp (s : State) (o : Out) : (s.emit o).sicp = s.sicp := rfl
@[simp] theorem State.emit_xp (s : State) (o : Out) : (s.emit o).xp = s.xp := rfl
@[simp] theorem State.emit_sdi (s : State) (o : Out) : (s.emit o).sdi = s.sdi := rfl
@[simp] theorem State.emit_dbl (s : State) (o : Out) : (s.emit o).dbl = s.dbl := rfl
@[simp] theorem State.emit_bob (s : State) (o : Out) : (s.emit o).bob = s.bob := rfl
@[simp] theorem State.emit_dram (s : State) (o : Out) : (s.emit o).dram = s.dram := rfl
@[simp] theorem State.emit_aud (s : State) (o : Out) : (s.emit o).aud = s.aud := rfl
@[simp] theorem State.emit_mv (s : State) (o : Out) : (s.emit o).mv = s.mv := rfl
@[simp] theorem State.emit_probe (s : State) (o : Out) : (s.emit o).probe = s.probe := rfl
@[simp] theorem State.emit_eth (s : State) (o : Out) : (s.emit o).eth = s.eth := rfl
@[simp] theorem State.emit_ip (s : State) (o : Out) : (s.emit o).ip = s.ip := rfl
@[simp] theorem State.emit_whl (s : State) (o : Out) : (s.emit o).whl = s.whl := rfl
@[simp] theorem State.emit_keys (s : State) (o : Out) : (s.emit o).keys = s.keys := rfl
@[simp] theorem State.emit_spn (s : State) (o : Out) : (s.emit o).spn = s.spn := rfl
@[simp] theorem State.emit_skn (s : State) (o : Out) : (s.emit o).skn = s.skn := rfl
@[simp] theorem State.emit_rtc (s : State) (o : Out) : (s.emit o).rtc = s.rtc := rfl
@[simp] theorem State.emit_out (s : State) (o : Out) : (s.emit o).out = s.out ++ [o] := rfl
@[simp] theorem State.emit_get (s : State) (o : Out) (k : Fld) : (s.emit o).get k = s.get k := rfl
@[simp] theorem State.emit_has (s : State) (o : Out) (k : Fld) : (s.emit o).has k = s.has k := rfl

/-! ### `State.clearWindow` -/

@[simp] theorem State.clearWindow_now (s : State) (isl : Nat) : (s.clearWindow isl).now = s.now := rfl
@[simp] theorem State.clearWindow_up (s : State) (isl : Nat) : (s.clearWindow isl).up = s.up := rfl
@[simp] theorem State.clearWindow_free (s : State) (isl : Nat) : (s.clearWindow isl).free = s.free := rfl
@[simp] theorem State.clearWindow_pending (s : State) (isl : Nat) : (s.clearWindow isl).pending = s.pending := rfl
@[simp] theorem State.clearWindow_out (s : State) (isl : Nat) : (s.clearWindow isl).out = s.out := rfl
@[simp] theorem State.clearWindow_boot (s : State) (isl : Nat) : (s.clearWindow isl).boot = s.boot := rfl
@[simp] theorem State.clearWindow_flt (s : State) (isl : Nat) : (s.clearWindow isl).flt = s.flt := rfl
@[simp] theorem State.clearWindow_sicp (s : State) (isl : Nat) : (s.clearWindow isl).sicp = s.sicp := rfl
@[simp] theorem State.clearWindow_xp (s : State) (isl : Nat) : (s.clearWindow isl).xp = s.xp := rfl
@[simp] theorem State.clearWindow_sdi (s : State) (isl : Nat) : (s.clearWindow isl).sdi = s.sdi := rfl
@[simp] theorem State.clearWindow_dbl (s : State) (isl : Nat) : (s.clearWindow isl).dbl = s.dbl := rfl
@[simp] theorem State.clearWindow_bob (s : State) (isl : Nat) : (s.clearWindow isl).bob = s.bob := rfl
@[simp] theorem State.clearWindow_dram (s : State) (isl : Nat) : (s.clearWindow isl).dram = s.dram := rfl
@[simp] theorem State.clearWindow_aud (s : State) (isl : Nat) : (s.clearWindow isl).aud = s.aud := rfl
@[simp] theorem State.clearWindow_mv (s : State) (isl : Nat) : (s.clearWindow isl).mv = s.mv := rfl
@[simp] theorem State.clearWindow_probe (s : State) (isl : Nat) : (s.clearWindow isl).probe = s.probe := rfl
@[simp] theorem State.clearWindow_eth (s : State) (isl : Nat) : (s.clearWindow isl).eth = s.eth := rfl
@[simp] theorem State.clearWindow_ip (s : State) (isl : Nat) : (s.clearWindow isl).ip = s.ip := rfl
@[simp] theorem State.clearWindow_whl (s : State) (isl : Nat) : (s.clearWindow isl).whl = s.whl := rfl
@[simp] theorem State.clearWindow_keys (s : State) (isl : Nat) : (s.clearWindow isl).keys = s.keys := rfl
@[simp] theorem State.clearWindow_spn (s : State) (isl : Nat) : (s.clearWindow isl).spn = s.spn := rfl
@[simp] theorem State.clearWindow_skn (s : State) (isl : Nat) : (s.clearWindow isl).skn = s.skn := rfl
@[simp] theorem State.clearWindow_rtc (s : State) (isl : Nat) : (s.clearWindow isl).rtc = s.rtc := rfl

/-! ### `State.at_` -/

@[simp] theorem State.at_free (s : State) (t : Time) : (s.at_ t).free = s.free := rfl
@[simp] theorem State.at_pending (s : State) (t : Time) : (s.at_ t).pending = s.pending := rfl
@[simp] theorem State.at_regs (s : State) (t : Time) : (s.at_ t).regs = s.regs := rfl
@[simp] theorem State.at_wide (s : State) (t : Time) : (s.at_ t).wide = s.wide := rfl
@[simp] theorem State.at_out (s : State) (t : Time) : (s.at_ t).out = s.out := rfl
@[simp] theorem State.at_boot (s : State) (t : Time) : (s.at_ t).boot = s.boot := rfl
@[simp] theorem State.at_flt (s : State) (t : Time) : (s.at_ t).flt = s.flt := rfl
@[simp] theorem State.at_sicp (s : State) (t : Time) : (s.at_ t).sicp = s.sicp := rfl
@[simp] theorem State.at_xp (s : State) (t : Time) : (s.at_ t).xp = s.xp := rfl
@[simp] theorem State.at_sdi (s : State) (t : Time) : (s.at_ t).sdi = s.sdi := rfl
@[simp] theorem State.at_dbl (s : State) (t : Time) : (s.at_ t).dbl = s.dbl := rfl
@[simp] theorem State.at_bob (s : State) (t : Time) : (s.at_ t).bob = s.bob := rfl
@[simp] theorem State.at_dram (s : State) (t : Time) : (s.at_ t).dram = s.dram := rfl
@[simp] theorem State.at_aud (s : State) (t : Time) : (s.at_ t).aud = s.aud := rfl
@[simp] theorem State.at_mv (s : State) (t : Time) : (s.at_ t).mv = s.mv := rfl
@[simp] theorem State.at_probe (s : State) (t : Time) : (s.at_ t).probe = s.probe := rfl
@[simp] theorem State.at_eth (s : State) (t : Time) : (s.at_ t).eth = s.eth := rfl
@[simp] theorem State.at_ip (s : State) (t : Time) : (s.at_ t).ip = s.ip := rfl
@[simp] theorem State.at_whl (s : State) (t : Time) : (s.at_ t).whl = s.whl := rfl
@[simp] theorem State.at_keys (s : State) (t : Time) : (s.at_ t).keys = s.keys := rfl
@[simp] theorem State.at_spn (s : State) (t : Time) : (s.at_ t).spn = s.spn := rfl
@[simp] theorem State.at_skn (s : State) (t : Time) : (s.at_ t).skn = s.skn := rfl
@[simp] theorem State.at_rtc (s : State) (t : Time) : (s.at_ t).rtc = s.rtc := rfl
@[simp] theorem State.at_now (s : State) (t : Time) : (s.at_ t).now = t := rfl
@[simp] theorem State.at_up (s : State) (t : Time) : (s.at_ t).up = s.up + (t - s.now) := rfl

/-! ### `State.setSess` -/

@[simp] theorem State.setSess_now (s : State) (id : Nat) (f : Session → Session) : (s.setSess id f).now = s.now := rfl
@[simp] theorem State.setSess_up (s : State) (id : Nat) (f : Session → Session) : (s.setSess id f).up = s.up := rfl
@[simp] theorem State.setSess_free (s : State) (id : Nat) (f : Session → Session) : (s.setSess id f).free = s.free := rfl
@[simp] theorem State.setSess_pending (s : State) (id : Nat) (f : Session → Session) : (s.setSess id f).pending = s.pending := rfl
@[simp] theorem State.setSess_regs (s : State) (id : Nat) (f : Session → Session) : (s.setSess id f).regs = s.regs := rfl
@[simp] theorem State.setSess_wide (s : State) (id : Nat) (f : Session → Session) : (s.setSess id f).wide = s.wide := rfl
@[simp] theorem State.setSess_out (s : State) (id : Nat) (f : Session → Session) : (s.setSess id f).out = s.out := rfl
@[simp] theorem State.setSess_boot (s : State) (id : Nat) (f : Session → Session) : (s.setSess id f).boot = s.boot := rfl
@[simp] theorem State.setSess_flt (s : State) (id : Nat) (f : Session → Session) : (s.setSess id f).flt = s.flt := rfl
@[simp] theorem State.setSess_xp (s : State) (id : Nat) (f : Session → Session) : (s.setSess id f).xp = s.xp := rfl
@[simp] theorem State.setSess_sdi (s : State) (id : Nat) (f : Session → Session) : (s.setSess id f).sdi = s.sdi := rfl
@[simp] theorem State.setSess_dbl (s : State) (id : Nat) (f : Session → Session) : (s.setSess id f).dbl = s.dbl := rfl
@[simp] theorem State.setSess_bob (s : State) (id : Nat) (f : Session → Session) : (s.setSess id f).bob = s.bob := rfl
@[simp] theorem State.setSess_dram (s : State) (id : Nat) (f : Session → Session) : (s.setSess id f).dram = s.dram := rfl
@[simp] theorem State.setSess_aud (s : State) (id : Nat) (f : Session → Session) : (s.setSess id f).aud = s.aud := rfl
@[simp] theorem State.setSess_mv (s : State) (id : Nat) (f : Session → Session) : (s.setSess id f).mv = s.mv := rfl
@[simp] theorem State.setSess_probe (s : State) (id : Nat) (f : Session → Session) : (s.setSess id f).probe = s.probe := rfl
@[simp] theorem State.setSess_eth (s : State) (id : Nat) (f : Session → Session) : (s.setSess id f).eth = s.eth := rfl
@[simp] theorem State.setSess_ip (s : State) (id : Nat) (f : Session → Session) : (s.setSess id f).ip = s.ip := rfl
@[simp] theorem State.setSess_whl (s : State) (id : Nat) (f : Session → Session) : (s.setSess id f).whl = s.whl := rfl
@[simp] theorem State.setSess_keys (s : State) (id : Nat) (f : Session → Session) : (s.setSess id f).keys = s.keys := rfl
@[simp] theorem State.setSess_spn (s : State) (id : Nat) (f : Session → Session) : (s.setSess id f).spn = s.spn := rfl
@[simp] theorem State.setSess_skn (s : State) (id : Nat) (f : Session → Session) : (s.setSess id f).skn = s.skn := rfl
@[simp] theorem State.setSess_rtc (s : State) (id : Nat) (f : Session → Session) : (s.setSess id f).rtc = s.rtc := rfl
@[simp] theorem State.setSess_get (s : State) (id : Nat) (f : Session → Session) (k : Fld) : (s.setSess id f).get k = s.get k := rfl
@[simp] theorem State.setSess_has (s : State) (id : Nat) (f : Session → Session) (k : Fld) : (s.setSess id f).has k = s.has k := rfl

/-! ### `State.setDst` -/

@[simp] theorem State.setDst_now (s : State) (i : Nat) (d : DstSt) : (s.setDst i d).now = s.now := rfl
@[simp] theorem State.setDst_up (s : State) (i : Nat) (d : DstSt) : (s.setDst i d).up = s.up := rfl
@[simp] theorem State.setDst_free (s : State) (i : Nat) (d : DstSt) : (s.setDst i d).free = s.free := rfl
@[simp] theorem State.setDst_pending (s : State) (i : Nat) (d : DstSt) : (s.setDst i d).pending = s.pending := rfl
@[simp] theorem State.setDst_regs (s : State) (i : Nat) (d : DstSt) : (s.setDst i d).regs = s.regs := rfl
@[simp] theorem State.setDst_wide (s : State) (i : Nat) (d : DstSt) : (s.setDst i d).wide = s.wide := rfl
@[simp] theorem State.setDst_out (s : State) (i : Nat) (d : DstSt) : (s.setDst i d).out = s.out := rfl
@[simp] theorem State.setDst_boot (s : State) (i : Nat) (d : DstSt) : (s.setDst i d).boot = s.boot := rfl
@[simp] theorem State.setDst_flt (s : State) (i : Nat) (d : DstSt) : (s.setDst i d).flt = s.flt := rfl
@[simp] theorem State.setDst_sicp (s : State) (i : Nat) (d : DstSt) : (s.setDst i d).sicp = s.sicp := rfl
@[simp] theorem State.setDst_sdi (s : State) (i : Nat) (d : DstSt) : (s.setDst i d).sdi = s.sdi := rfl
@[simp] theorem State.setDst_dbl (s : State) (i : Nat) (d : DstSt) : (s.setDst i d).dbl = s.dbl := rfl
@[simp] theorem State.setDst_bob (s : State) (i : Nat) (d : DstSt) : (s.setDst i d).bob = s.bob := rfl
@[simp] theorem State.setDst_dram (s : State) (i : Nat) (d : DstSt) : (s.setDst i d).dram = s.dram := rfl
@[simp] theorem State.setDst_aud (s : State) (i : Nat) (d : DstSt) : (s.setDst i d).aud = s.aud := rfl
@[simp] theorem State.setDst_mv (s : State) (i : Nat) (d : DstSt) : (s.setDst i d).mv = s.mv := rfl
@[simp] theorem State.setDst_probe (s : State) (i : Nat) (d : DstSt) : (s.setDst i d).probe = s.probe := rfl
@[simp] theorem State.setDst_eth (s : State) (i : Nat) (d : DstSt) : (s.setDst i d).eth = s.eth := rfl
@[simp] theorem State.setDst_ip (s : State) (i : Nat) (d : DstSt) : (s.setDst i d).ip = s.ip := rfl
@[simp] theorem State.setDst_whl (s : State) (i : Nat) (d : DstSt) : (s.setDst i d).whl = s.whl := rfl
@[simp] theorem State.setDst_keys (s : State) (i : Nat) (d : DstSt) : (s.setDst i d).keys = s.keys := rfl
@[simp] theorem State.setDst_spn (s : State) (i : Nat) (d : DstSt) : (s.setDst i d).spn = s.spn := rfl
@[simp] theorem State.setDst_skn (s : State) (i : Nat) (d : DstSt) : (s.setDst i d).skn = s.skn := rfl
@[simp] theorem State.setDst_rtc (s : State) (i : Nat) (d : DstSt) : (s.setDst i d).rtc = s.rtc := rfl
@[simp] theorem State.setDst_get (s : State) (i : Nat) (d : DstSt) (k : Fld) : (s.setDst i d).get k = s.get k := rfl
@[simp] theorem State.setDst_has (s : State) (i : Nat) (d : DstSt) (k : Fld) : (s.setDst i d).has k = s.has k := rfl

/-! ### `State.setRing` -/

@[simp] theorem State.setRing_now (s : State) (src : Nat) (r : Ring) : (s.setRing src r).now = s.now := rfl
@[simp] theorem State.setRing_up (s : State) (src : Nat) (r : Ring) : (s.setRing src r).up = s.up := rfl
@[simp] theorem State.setRing_free (s : State) (src : Nat) (r : Ring) : (s.setRing src r).free = s.free := rfl
@[simp] theorem State.setRing_pending (s : State) (src : Nat) (r : Ring) : (s.setRing src r).pending = s.pending := rfl
@[simp] theorem State.setRing_regs (s : State) (src : Nat) (r : Ring) : (s.setRing src r).regs = s.regs := rfl
@[simp] theorem State.setRing_wide (s : State) (src : Nat) (r : Ring) : (s.setRing src r).wide = s.wide := rfl
@[simp] theorem State.setRing_out (s : State) (src : Nat) (r : Ring) : (s.setRing src r).out = s.out := rfl
@[simp] theorem State.setRing_boot (s : State) (src : Nat) (r : Ring) : (s.setRing src r).boot = s.boot := rfl
@[simp] theorem State.setRing_flt (s : State) (src : Nat) (r : Ring) : (s.setRing src r).flt = s.flt := rfl
@[simp] theorem State.setRing_sicp (s : State) (src : Nat) (r : Ring) : (s.setRing src r).sicp = s.sicp := rfl
@[simp] theorem State.setRing_xp (s : State) (src : Nat) (r : Ring) : (s.setRing src r).xp = s.xp := rfl
@[simp] theorem State.setRing_sdi (s : State) (src : Nat) (r : Ring) : (s.setRing src r).sdi = s.sdi := rfl
@[simp] theorem State.setRing_dbl (s : State) (src : Nat) (r : Ring) : (s.setRing src r).dbl = s.dbl := rfl
@[simp] theorem State.setRing_dram (s : State) (src : Nat) (r : Ring) : (s.setRing src r).dram = s.dram := rfl
@[simp] theorem State.setRing_aud (s : State) (src : Nat) (r : Ring) : (s.setRing src r).aud = s.aud := rfl
@[simp] theorem State.setRing_mv (s : State) (src : Nat) (r : Ring) : (s.setRing src r).mv = s.mv := rfl
@[simp] theorem State.setRing_probe (s : State) (src : Nat) (r : Ring) : (s.setRing src r).probe = s.probe := rfl
@[simp] theorem State.setRing_eth (s : State) (src : Nat) (r : Ring) : (s.setRing src r).eth = s.eth := rfl
@[simp] theorem State.setRing_ip (s : State) (src : Nat) (r : Ring) : (s.setRing src r).ip = s.ip := rfl
@[simp] theorem State.setRing_whl (s : State) (src : Nat) (r : Ring) : (s.setRing src r).whl = s.whl := rfl
@[simp] theorem State.setRing_keys (s : State) (src : Nat) (r : Ring) : (s.setRing src r).keys = s.keys := rfl
@[simp] theorem State.setRing_spn (s : State) (src : Nat) (r : Ring) : (s.setRing src r).spn = s.spn := rfl
@[simp] theorem State.setRing_skn (s : State) (src : Nat) (r : Ring) : (s.setRing src r).skn = s.skn := rfl
@[simp] theorem State.setRing_rtc (s : State) (src : Nat) (r : Ring) : (s.setRing src r).rtc = s.rtc := rfl
@[simp] theorem State.setRing_get (s : State) (src : Nat) (r : Ring) (k : Fld) : (s.setRing src r).get k = s.get k := rfl
@[simp] theorem State.setRing_has (s : State) (src : Nat) (r : Ring) (k : Fld) : (s.setRing src r).has k = s.has k := rfl

/-! ### `State.setBanks` -/

@[simp] theorem State.setBanks_now (s : State) (k : Nat) (b : Banks) : (s.setBanks k b).now = s.now := rfl
@[simp] theorem State.setBanks_up (s : State) (k : Nat) (b : Banks) : (s.setBanks k b).up = s.up := rfl
@[simp] theorem State.setBanks_free (s : State) (k : Nat) (b : Banks) : (s.setBanks k b).free = s.free := rfl
@[simp] theorem State.setBanks_pending (s : State) (k : Nat) (b : Banks) : (s.setBanks k b).pending = s.pending := rfl
@[simp] theorem State.setBanks_regs (s : State) (k : Nat) (b : Banks) : (s.setBanks k b).regs = s.regs := rfl
@[simp] theorem State.setBanks_wide (s : State) (k : Nat) (b : Banks) : (s.setBanks k b).wide = s.wide := rfl
@[simp] theorem State.setBanks_out (s : State) (k : Nat) (b : Banks) : (s.setBanks k b).out = s.out := rfl
@[simp] theorem State.setBanks_boot (s : State) (k : Nat) (b : Banks) : (s.setBanks k b).boot = s.boot := rfl
@[simp] theorem State.setBanks_flt (s : State) (k : Nat) (b : Banks) : (s.setBanks k b).flt = s.flt := rfl
@[simp] theorem State.setBanks_sicp (s : State) (k : Nat) (b : Banks) : (s.setBanks k b).sicp = s.sicp := rfl
@[simp] theorem State.setBanks_xp (s : State) (k : Nat) (b : Banks) : (s.setBanks k b).xp = s.xp := rfl
@[simp] theorem State.setBanks_sdi (s : State) (k : Nat) (b : Banks) : (s.setBanks k b).sdi = s.sdi := rfl
@[simp] theorem State.setBanks_dbl (s : State) (k : Nat) (b : Banks) : (s.setBanks k b).dbl = s.dbl := rfl
@[simp] theorem State.setBanks_dram (s : State) (k : Nat) (b : Banks) : (s.setBanks k b).dram = s.dram := rfl
@[simp] theorem State.setBanks_aud (s : State) (k : Nat) (b : Banks) : (s.setBanks k b).aud = s.aud := rfl
@[simp] theorem State.setBanks_mv (s : State) (k : Nat) (b : Banks) : (s.setBanks k b).mv = s.mv := rfl
@[simp] theorem State.setBanks_probe (s : State) (k : Nat) (b : Banks) : (s.setBanks k b).probe = s.probe := rfl
@[simp] theorem State.setBanks_eth (s : State) (k : Nat) (b : Banks) : (s.setBanks k b).eth = s.eth := rfl
@[simp] theorem State.setBanks_ip (s : State) (k : Nat) (b : Banks) : (s.setBanks k b).ip = s.ip := rfl
@[simp] theorem State.setBanks_whl (s : State) (k : Nat) (b : Banks) : (s.setBanks k b).whl = s.whl := rfl
@[simp] theorem State.setBanks_keys (s : State) (k : Nat) (b : Banks) : (s.setBanks k b).keys = s.keys := rfl
@[simp] theorem State.setBanks_spn (s : State) (k : Nat) (b : Banks) : (s.setBanks k b).spn = s.spn := rfl
@[simp] theorem State.setBanks_skn (s : State) (k : Nat) (b : Banks) : (s.setBanks k b).skn = s.skn := rfl
@[simp] theorem State.setBanks_rtc (s : State) (k : Nat) (b : Banks) : (s.setBanks k b).rtc = s.rtc := rfl
@[simp] theorem State.setBanks_get (s : State) (k : Nat) (b : Banks) (y : Fld) : (s.setBanks k b).get y = s.get y := rfl
@[simp] theorem State.setBanks_has (s : State) (k : Nat) (b : Banks) (y : Fld) : (s.setBanks k b).has y = s.has y := rfl

/-! ### `State.setRx` -/

@[simp] theorem State.setRx_now (s : State) (lane : Nat) (x : RxLane) : (s.setRx lane x).now = s.now := rfl
@[simp] theorem State.setRx_up (s : State) (lane : Nat) (x : RxLane) : (s.setRx lane x).up = s.up := rfl
@[simp] theorem State.setRx_free (s : State) (lane : Nat) (x : RxLane) : (s.setRx lane x).free = s.free := rfl
@[simp] theorem State.setRx_pending (s : State) (lane : Nat) (x : RxLane) : (s.setRx lane x).pending = s.pending := rfl
@[simp] theorem State.setRx_regs (s : State) (lane : Nat) (x : RxLane) : (s.setRx lane x).regs = s.regs := rfl
@[simp] theorem State.setRx_wide (s : State) (lane : Nat) (x : RxLane) : (s.setRx lane x).wide = s.wide := rfl
@[simp] theorem State.setRx_out (s : State) (lane : Nat) (x : RxLane) : (s.setRx lane x).out = s.out := rfl
@[simp] theorem State.setRx_boot (s : State) (lane : Nat) (x : RxLane) : (s.setRx lane x).boot = s.boot := rfl
@[simp] theorem State.setRx_flt (s : State) (lane : Nat) (x : RxLane) : (s.setRx lane x).flt = s.flt := rfl
@[simp] theorem State.setRx_sicp (s : State) (lane : Nat) (x : RxLane) : (s.setRx lane x).sicp = s.sicp := rfl
@[simp] theorem State.setRx_xp (s : State) (lane : Nat) (x : RxLane) : (s.setRx lane x).xp = s.xp := rfl
@[simp] theorem State.setRx_dbl (s : State) (lane : Nat) (x : RxLane) : (s.setRx lane x).dbl = s.dbl := rfl
@[simp] theorem State.setRx_bob (s : State) (lane : Nat) (x : RxLane) : (s.setRx lane x).bob = s.bob := rfl
@[simp] theorem State.setRx_dram (s : State) (lane : Nat) (x : RxLane) : (s.setRx lane x).dram = s.dram := rfl
@[simp] theorem State.setRx_aud (s : State) (lane : Nat) (x : RxLane) : (s.setRx lane x).aud = s.aud := rfl
@[simp] theorem State.setRx_mv (s : State) (lane : Nat) (x : RxLane) : (s.setRx lane x).mv = s.mv := rfl
@[simp] theorem State.setRx_probe (s : State) (lane : Nat) (x : RxLane) : (s.setRx lane x).probe = s.probe := rfl
@[simp] theorem State.setRx_eth (s : State) (lane : Nat) (x : RxLane) : (s.setRx lane x).eth = s.eth := rfl
@[simp] theorem State.setRx_ip (s : State) (lane : Nat) (x : RxLane) : (s.setRx lane x).ip = s.ip := rfl
@[simp] theorem State.setRx_whl (s : State) (lane : Nat) (x : RxLane) : (s.setRx lane x).whl = s.whl := rfl
@[simp] theorem State.setRx_keys (s : State) (lane : Nat) (x : RxLane) : (s.setRx lane x).keys = s.keys := rfl
@[simp] theorem State.setRx_spn (s : State) (lane : Nat) (x : RxLane) : (s.setRx lane x).spn = s.spn := rfl
@[simp] theorem State.setRx_skn (s : State) (lane : Nat) (x : RxLane) : (s.setRx lane x).skn = s.skn := rfl
@[simp] theorem State.setRx_rtc (s : State) (lane : Nat) (x : RxLane) : (s.setRx lane x).rtc = s.rtc := rfl
@[simp] theorem State.setRx_get (s : State) (lane : Nat) (x : RxLane) (k : Fld) : (s.setRx lane x).get k = s.get k := rfl
@[simp] theorem State.setRx_has (s : State) (lane : Nat) (x : RxLane) (k : Fld) : (s.setRx lane x).has k = s.has k := rfl

/-! ### `State.setPort` -/

@[simp] theorem State.setPort_now (s : State) (p : Nat) (x : EthPort) : (s.setPort p x).now = s.now := rfl
@[simp] theorem State.setPort_up (s : State) (p : Nat) (x : EthPort) : (s.setPort p x).up = s.up := rfl
@[simp] theorem State.setPort_free (s : State) (p : Nat) (x : EthPort) : (s.setPort p x).free = s.free := rfl
@[simp] theorem State.setPort_pending (s : State) (p : Nat) (x : EthPort) : (s.setPort p x).pending = s.pending := rfl
@[simp] theorem State.setPort_regs (s : State) (p : Nat) (x : EthPort) : (s.setPort p x).regs = s.regs := rfl
@[simp] theorem State.setPort_wide (s : State) (p : Nat) (x : EthPort) : (s.setPort p x).wide = s.wide := rfl
@[simp] theorem State.setPort_out (s : State) (p : Nat) (x : EthPort) : (s.setPort p x).out = s.out := rfl
@[simp] theorem State.setPort_boot (s : State) (p : Nat) (x : EthPort) : (s.setPort p x).boot = s.boot := rfl
@[simp] theorem State.setPort_flt (s : State) (p : Nat) (x : EthPort) : (s.setPort p x).flt = s.flt := rfl
@[simp] theorem State.setPort_sicp (s : State) (p : Nat) (x : EthPort) : (s.setPort p x).sicp = s.sicp := rfl
@[simp] theorem State.setPort_xp (s : State) (p : Nat) (x : EthPort) : (s.setPort p x).xp = s.xp := rfl
@[simp] theorem State.setPort_sdi (s : State) (p : Nat) (x : EthPort) : (s.setPort p x).sdi = s.sdi := rfl
@[simp] theorem State.setPort_dbl (s : State) (p : Nat) (x : EthPort) : (s.setPort p x).dbl = s.dbl := rfl
@[simp] theorem State.setPort_bob (s : State) (p : Nat) (x : EthPort) : (s.setPort p x).bob = s.bob := rfl
@[simp] theorem State.setPort_dram (s : State) (p : Nat) (x : EthPort) : (s.setPort p x).dram = s.dram := rfl
@[simp] theorem State.setPort_aud (s : State) (p : Nat) (x : EthPort) : (s.setPort p x).aud = s.aud := rfl
@[simp] theorem State.setPort_mv (s : State) (p : Nat) (x : EthPort) : (s.setPort p x).mv = s.mv := rfl
@[simp] theorem State.setPort_probe (s : State) (p : Nat) (x : EthPort) : (s.setPort p x).probe = s.probe := rfl
@[simp] theorem State.setPort_ip (s : State) (p : Nat) (x : EthPort) : (s.setPort p x).ip = s.ip := rfl
@[simp] theorem State.setPort_whl (s : State) (p : Nat) (x : EthPort) : (s.setPort p x).whl = s.whl := rfl
@[simp] theorem State.setPort_keys (s : State) (p : Nat) (x : EthPort) : (s.setPort p x).keys = s.keys := rfl
@[simp] theorem State.setPort_spn (s : State) (p : Nat) (x : EthPort) : (s.setPort p x).spn = s.spn := rfl
@[simp] theorem State.setPort_skn (s : State) (p : Nat) (x : EthPort) : (s.setPort p x).skn = s.skn := rfl
@[simp] theorem State.setPort_rtc (s : State) (p : Nat) (x : EthPort) : (s.setPort p x).rtc = s.rtc := rfl
@[simp] theorem State.setPort_get (s : State) (p : Nat) (x : EthPort) (k : Fld) : (s.setPort p x).get k = s.get k := rfl
@[simp] theorem State.setPort_has (s : State) (p : Nat) (x : EthPort) (k : Fld) : (s.setPort p x).has k = s.has k := rfl

/-! ### `State.setIn` -/

@[simp] theorem State.setIn_now (s : State) (i : Nat) (c : InCh) : (s.setIn i c).now = s.now := rfl
@[simp] theorem State.setIn_up (s : State) (i : Nat) (c : InCh) : (s.setIn i c).up = s.up := rfl
@[simp] theorem State.setIn_free (s : State) (i : Nat) (c : InCh) : (s.setIn i c).free = s.free := rfl
@[simp] theorem State.setIn_pending (s : State) (i : Nat) (c : InCh) : (s.setIn i c).pending = s.pending := rfl
@[simp] theorem State.setIn_regs (s : State) (i : Nat) (c : InCh) : (s.setIn i c).regs = s.regs := rfl
@[simp] theorem State.setIn_wide (s : State) (i : Nat) (c : InCh) : (s.setIn i c).wide = s.wide := rfl
@[simp] theorem State.setIn_out (s : State) (i : Nat) (c : InCh) : (s.setIn i c).out = s.out := rfl
@[simp] theorem State.setIn_boot (s : State) (i : Nat) (c : InCh) : (s.setIn i c).boot = s.boot := rfl
@[simp] theorem State.setIn_flt (s : State) (i : Nat) (c : InCh) : (s.setIn i c).flt = s.flt := rfl
@[simp] theorem State.setIn_sicp (s : State) (i : Nat) (c : InCh) : (s.setIn i c).sicp = s.sicp := rfl
@[simp] theorem State.setIn_xp (s : State) (i : Nat) (c : InCh) : (s.setIn i c).xp = s.xp := rfl
@[simp] theorem State.setIn_sdi (s : State) (i : Nat) (c : InCh) : (s.setIn i c).sdi = s.sdi := rfl
@[simp] theorem State.setIn_dbl (s : State) (i : Nat) (c : InCh) : (s.setIn i c).dbl = s.dbl := rfl
@[simp] theorem State.setIn_bob (s : State) (i : Nat) (c : InCh) : (s.setIn i c).bob = s.bob := rfl
@[simp] theorem State.setIn_dram (s : State) (i : Nat) (c : InCh) : (s.setIn i c).dram = s.dram := rfl
@[simp] theorem State.setIn_mv (s : State) (i : Nat) (c : InCh) : (s.setIn i c).mv = s.mv := rfl
@[simp] theorem State.setIn_probe (s : State) (i : Nat) (c : InCh) : (s.setIn i c).probe = s.probe := rfl
@[simp] theorem State.setIn_eth (s : State) (i : Nat) (c : InCh) : (s.setIn i c).eth = s.eth := rfl
@[simp] theorem State.setIn_ip (s : State) (i : Nat) (c : InCh) : (s.setIn i c).ip = s.ip := rfl
@[simp] theorem State.setIn_whl (s : State) (i : Nat) (c : InCh) : (s.setIn i c).whl = s.whl := rfl
@[simp] theorem State.setIn_keys (s : State) (i : Nat) (c : InCh) : (s.setIn i c).keys = s.keys := rfl
@[simp] theorem State.setIn_spn (s : State) (i : Nat) (c : InCh) : (s.setIn i c).spn = s.spn := rfl
@[simp] theorem State.setIn_skn (s : State) (i : Nat) (c : InCh) : (s.setIn i c).skn = s.skn := rfl
@[simp] theorem State.setIn_rtc (s : State) (i : Nat) (c : InCh) : (s.setIn i c).rtc = s.rtc := rfl
@[simp] theorem State.setIn_get (s : State) (i : Nat) (c : InCh) (k : Fld) : (s.setIn i c).get k = s.get k := rfl
@[simp] theorem State.setIn_has (s : State) (i : Nat) (c : InCh) (k : Fld) : (s.setIn i c).has k = s.has k := rfl

/-! ### `State.setOut` -/

@[simp] theorem State.setOut_now (s : State) (o : Nat) (c : OutCh) : (s.setOut o c).now = s.now := rfl
@[simp] theorem State.setOut_up (s : State) (o : Nat) (c : OutCh) : (s.setOut o c).up = s.up := rfl
@[simp] theorem State.setOut_free (s : State) (o : Nat) (c : OutCh) : (s.setOut o c).free = s.free := rfl
@[simp] theorem State.setOut_pending (s : State) (o : Nat) (c : OutCh) : (s.setOut o c).pending = s.pending := rfl
@[simp] theorem State.setOut_regs (s : State) (o : Nat) (c : OutCh) : (s.setOut o c).regs = s.regs := rfl
@[simp] theorem State.setOut_wide (s : State) (o : Nat) (c : OutCh) : (s.setOut o c).wide = s.wide := rfl
@[simp] theorem State.setOut_out (s : State) (o : Nat) (c : OutCh) : (s.setOut o c).out = s.out := rfl
@[simp] theorem State.setOut_boot (s : State) (o : Nat) (c : OutCh) : (s.setOut o c).boot = s.boot := rfl
@[simp] theorem State.setOut_flt (s : State) (o : Nat) (c : OutCh) : (s.setOut o c).flt = s.flt := rfl
@[simp] theorem State.setOut_sicp (s : State) (o : Nat) (c : OutCh) : (s.setOut o c).sicp = s.sicp := rfl
@[simp] theorem State.setOut_xp (s : State) (o : Nat) (c : OutCh) : (s.setOut o c).xp = s.xp := rfl
@[simp] theorem State.setOut_sdi (s : State) (o : Nat) (c : OutCh) : (s.setOut o c).sdi = s.sdi := rfl
@[simp] theorem State.setOut_dbl (s : State) (o : Nat) (c : OutCh) : (s.setOut o c).dbl = s.dbl := rfl
@[simp] theorem State.setOut_bob (s : State) (o : Nat) (c : OutCh) : (s.setOut o c).bob = s.bob := rfl
@[simp] theorem State.setOut_dram (s : State) (o : Nat) (c : OutCh) : (s.setOut o c).dram = s.dram := rfl
@[simp] theorem State.setOut_mv (s : State) (o : Nat) (c : OutCh) : (s.setOut o c).mv = s.mv := rfl
@[simp] theorem State.setOut_probe (s : State) (o : Nat) (c : OutCh) : (s.setOut o c).probe = s.probe := rfl
@[simp] theorem State.setOut_eth (s : State) (o : Nat) (c : OutCh) : (s.setOut o c).eth = s.eth := rfl
@[simp] theorem State.setOut_ip (s : State) (o : Nat) (c : OutCh) : (s.setOut o c).ip = s.ip := rfl
@[simp] theorem State.setOut_whl (s : State) (o : Nat) (c : OutCh) : (s.setOut o c).whl = s.whl := rfl
@[simp] theorem State.setOut_keys (s : State) (o : Nat) (c : OutCh) : (s.setOut o c).keys = s.keys := rfl
@[simp] theorem State.setOut_spn (s : State) (o : Nat) (c : OutCh) : (s.setOut o c).spn = s.spn := rfl
@[simp] theorem State.setOut_skn (s : State) (o : Nat) (c : OutCh) : (s.setOut o c).skn = s.skn := rfl
@[simp] theorem State.setOut_rtc (s : State) (o : Nat) (c : OutCh) : (s.setOut o c).rtc = s.rtc := rfl
@[simp] theorem State.setOut_get (s : State) (o : Nat) (c : OutCh) (k : Fld) : (s.setOut o c).get k = s.get k := rfl
@[simp] theorem State.setOut_has (s : State) (o : Nat) (c : OutCh) (k : Fld) : (s.setOut o c).has k = s.has k := rfl

/-! ### `State.setBus` -/

@[simp] theorem State.setBus_now (s : State) (b : Nat) (c : ABus) : (s.setBus b c).now = s.now := rfl
@[simp] theorem State.setBus_up (s : State) (b : Nat) (c : ABus) : (s.setBus b c).up = s.up := rfl
@[simp] theorem State.setBus_free (s : State) (b : Nat) (c : ABus) : (s.setBus b c).free = s.free := rfl
@[simp] theorem State.setBus_pending (s : State) (b : Nat) (c : ABus) : (s.setBus b c).pending = s.pending := rfl
@[simp] theorem State.setBus_regs (s : State) (b : Nat) (c : ABus) : (s.setBus b c).regs = s.regs := rfl
@[simp] theorem State.setBus_wide (s : State) (b : Nat) (c : ABus) : (s.setBus b c).wide = s.wide := rfl
@[simp] theorem State.setBus_out (s : State) (b : Nat) (c : ABus) : (s.setBus b c).out = s.out := rfl
@[simp] theorem State.setBus_boot (s : State) (b : Nat) (c : ABus) : (s.setBus b c).boot = s.boot := rfl
@[simp] theorem State.setBus_flt (s : State) (b : Nat) (c : ABus) : (s.setBus b c).flt = s.flt := rfl
@[simp] theorem State.setBus_sicp (s : State) (b : Nat) (c : ABus) : (s.setBus b c).sicp = s.sicp := rfl
@[simp] theorem State.setBus_xp (s : State) (b : Nat) (c : ABus) : (s.setBus b c).xp = s.xp := rfl
@[simp] theorem State.setBus_sdi (s : State) (b : Nat) (c : ABus) : (s.setBus b c).sdi = s.sdi := rfl
@[simp] theorem State.setBus_dbl (s : State) (b : Nat) (c : ABus) : (s.setBus b c).dbl = s.dbl := rfl
@[simp] theorem State.setBus_bob (s : State) (b : Nat) (c : ABus) : (s.setBus b c).bob = s.bob := rfl
@[simp] theorem State.setBus_dram (s : State) (b : Nat) (c : ABus) : (s.setBus b c).dram = s.dram := rfl
@[simp] theorem State.setBus_mv (s : State) (b : Nat) (c : ABus) : (s.setBus b c).mv = s.mv := rfl
@[simp] theorem State.setBus_probe (s : State) (b : Nat) (c : ABus) : (s.setBus b c).probe = s.probe := rfl
@[simp] theorem State.setBus_eth (s : State) (b : Nat) (c : ABus) : (s.setBus b c).eth = s.eth := rfl
@[simp] theorem State.setBus_ip (s : State) (b : Nat) (c : ABus) : (s.setBus b c).ip = s.ip := rfl
@[simp] theorem State.setBus_whl (s : State) (b : Nat) (c : ABus) : (s.setBus b c).whl = s.whl := rfl
@[simp] theorem State.setBus_keys (s : State) (b : Nat) (c : ABus) : (s.setBus b c).keys = s.keys := rfl
@[simp] theorem State.setBus_spn (s : State) (b : Nat) (c : ABus) : (s.setBus b c).spn = s.spn := rfl
@[simp] theorem State.setBus_skn (s : State) (b : Nat) (c : ABus) : (s.setBus b c).skn = s.skn := rfl
@[simp] theorem State.setBus_rtc (s : State) (b : Nat) (c : ABus) : (s.setBus b c).rtc = s.rtc := rfl
@[simp] theorem State.setBus_get (s : State) (b : Nat) (c : ABus) (k : Fld) : (s.setBus b c).get k = s.get k := rfl
@[simp] theorem State.setBus_has (s : State) (b : Nat) (c : ABus) (k : Fld) : (s.setBus b c).has k = s.has k := rfl

/-! ### `State.setHead` -/

@[simp] theorem State.setHead_now (s : State) (h : Nat) (x : Head) : (s.setHead h x).now = s.now := rfl
@[simp] theorem State.setHead_up (s : State) (h : Nat) (x : Head) : (s.setHead h x).up = s.up := rfl
@[simp] theorem State.setHead_free (s : State) (h : Nat) (x : Head) : (s.setHead h x).free = s.free := rfl
@[simp] theorem State.setHead_pending (s : State) (h : Nat) (x : Head) : (s.setHead h x).pending = s.pending := rfl
@[simp] theorem State.setHead_regs (s : State) (h : Nat) (x : Head) : (s.setHead h x).regs = s.regs := rfl
@[simp] theorem State.setHead_wide (s : State) (h : Nat) (x : Head) : (s.setHead h x).wide = s.wide := rfl
@[simp] theorem State.setHead_out (s : State) (h : Nat) (x : Head) : (s.setHead h x).out = s.out := rfl
@[simp] theorem State.setHead_boot (s : State) (h : Nat) (x : Head) : (s.setHead h x).boot = s.boot := rfl
@[simp] theorem State.setHead_flt (s : State) (h : Nat) (x : Head) : (s.setHead h x).flt = s.flt := rfl
@[simp] theorem State.setHead_sicp (s : State) (h : Nat) (x : Head) : (s.setHead h x).sicp = s.sicp := rfl
@[simp] theorem State.setHead_xp (s : State) (h : Nat) (x : Head) : (s.setHead h x).xp = s.xp := rfl
@[simp] theorem State.setHead_sdi (s : State) (h : Nat) (x : Head) : (s.setHead h x).sdi = s.sdi := rfl
@[simp] theorem State.setHead_dbl (s : State) (h : Nat) (x : Head) : (s.setHead h x).dbl = s.dbl := rfl
@[simp] theorem State.setHead_bob (s : State) (h : Nat) (x : Head) : (s.setHead h x).bob = s.bob := rfl
@[simp] theorem State.setHead_dram (s : State) (h : Nat) (x : Head) : (s.setHead h x).dram = s.dram := rfl
@[simp] theorem State.setHead_aud (s : State) (h : Nat) (x : Head) : (s.setHead h x).aud = s.aud := rfl
@[simp] theorem State.setHead_probe (s : State) (h : Nat) (x : Head) : (s.setHead h x).probe = s.probe := rfl
@[simp] theorem State.setHead_eth (s : State) (h : Nat) (x : Head) : (s.setHead h x).eth = s.eth := rfl
@[simp] theorem State.setHead_ip (s : State) (h : Nat) (x : Head) : (s.setHead h x).ip = s.ip := rfl
@[simp] theorem State.setHead_whl (s : State) (h : Nat) (x : Head) : (s.setHead h x).whl = s.whl := rfl
@[simp] theorem State.setHead_keys (s : State) (h : Nat) (x : Head) : (s.setHead h x).keys = s.keys := rfl
@[simp] theorem State.setHead_spn (s : State) (h : Nat) (x : Head) : (s.setHead h x).spn = s.spn := rfl
@[simp] theorem State.setHead_skn (s : State) (h : Nat) (x : Head) : (s.setHead h x).skn = s.skn := rfl
@[simp] theorem State.setHead_rtc (s : State) (h : Nat) (x : Head) : (s.setHead h x).rtc = s.rtc := rfl
@[simp] theorem State.setHead_get (s : State) (h : Nat) (x : Head) (k : Fld) : (s.setHead h x).get k = s.get k := rfl
@[simp] theorem State.setHead_has (s : State) (h : Nat) (x : Head) (k : Fld) : (s.setHead h x).has k = s.has k := rfl

/-! ### `State.setKslot` -/

@[simp] theorem State.setKslot_now (s : State) (k : Nat) (x : KSlot) : (s.setKslot k x).now = s.now := rfl
@[simp] theorem State.setKslot_up (s : State) (k : Nat) (x : KSlot) : (s.setKslot k x).up = s.up := rfl
@[simp] theorem State.setKslot_free (s : State) (k : Nat) (x : KSlot) : (s.setKslot k x).free = s.free := rfl
@[simp] theorem State.setKslot_pending (s : State) (k : Nat) (x : KSlot) : (s.setKslot k x).pending = s.pending := rfl
@[simp] theorem State.setKslot_regs (s : State) (k : Nat) (x : KSlot) : (s.setKslot k x).regs = s.regs := rfl
@[simp] theorem State.setKslot_wide (s : State) (k : Nat) (x : KSlot) : (s.setKslot k x).wide = s.wide := rfl
@[simp] theorem State.setKslot_out (s : State) (k : Nat) (x : KSlot) : (s.setKslot k x).out = s.out := rfl
@[simp] theorem State.setKslot_boot (s : State) (k : Nat) (x : KSlot) : (s.setKslot k x).boot = s.boot := rfl
@[simp] theorem State.setKslot_flt (s : State) (k : Nat) (x : KSlot) : (s.setKslot k x).flt = s.flt := rfl
@[simp] theorem State.setKslot_sicp (s : State) (k : Nat) (x : KSlot) : (s.setKslot k x).sicp = s.sicp := rfl
@[simp] theorem State.setKslot_xp (s : State) (k : Nat) (x : KSlot) : (s.setKslot k x).xp = s.xp := rfl
@[simp] theorem State.setKslot_sdi (s : State) (k : Nat) (x : KSlot) : (s.setKslot k x).sdi = s.sdi := rfl
@[simp] theorem State.setKslot_dbl (s : State) (k : Nat) (x : KSlot) : (s.setKslot k x).dbl = s.dbl := rfl
@[simp] theorem State.setKslot_bob (s : State) (k : Nat) (x : KSlot) : (s.setKslot k x).bob = s.bob := rfl
@[simp] theorem State.setKslot_dram (s : State) (k : Nat) (x : KSlot) : (s.setKslot k x).dram = s.dram := rfl
@[simp] theorem State.setKslot_aud (s : State) (k : Nat) (x : KSlot) : (s.setKslot k x).aud = s.aud := rfl
@[simp] theorem State.setKslot_mv (s : State) (k : Nat) (x : KSlot) : (s.setKslot k x).mv = s.mv := rfl
@[simp] theorem State.setKslot_probe (s : State) (k : Nat) (x : KSlot) : (s.setKslot k x).probe = s.probe := rfl
@[simp] theorem State.setKslot_eth (s : State) (k : Nat) (x : KSlot) : (s.setKslot k x).eth = s.eth := rfl
@[simp] theorem State.setKslot_ip (s : State) (k : Nat) (x : KSlot) : (s.setKslot k x).ip = s.ip := rfl
@[simp] theorem State.setKslot_whl (s : State) (k : Nat) (x : KSlot) : (s.setKslot k x).whl = s.whl := rfl
@[simp] theorem State.setKslot_spn (s : State) (k : Nat) (x : KSlot) : (s.setKslot k x).spn = s.spn := rfl
@[simp] theorem State.setKslot_skn (s : State) (k : Nat) (x : KSlot) : (s.setKslot k x).skn = s.skn := rfl
@[simp] theorem State.setKslot_rtc (s : State) (k : Nat) (x : KSlot) : (s.setKslot k x).rtc = s.rtc := rfl
@[simp] theorem State.setKslot_get (s : State) (k : Nat) (x : KSlot) (y : Fld) : (s.setKslot k x).get y = s.get y := rfl
@[simp] theorem State.setKslot_has (s : State) (k : Nat) (x : KSlot) (y : Fld) : (s.setKslot k x).has y = s.has y := rfl

/-! ### `State.setStrand` -/

@[simp] theorem State.setStrand_now (s : State) (p : Nat) (x : Strand) : (s.setStrand p x).now = s.now := rfl
@[simp] theorem State.setStrand_up (s : State) (p : Nat) (x : Strand) : (s.setStrand p x).up = s.up := rfl
@[simp] theorem State.setStrand_free (s : State) (p : Nat) (x : Strand) : (s.setStrand p x).free = s.free := rfl
@[simp] theorem State.setStrand_pending (s : State) (p : Nat) (x : Strand) : (s.setStrand p x).pending = s.pending := rfl
@[simp] theorem State.setStrand_regs (s : State) (p : Nat) (x : Strand) : (s.setStrand p x).regs = s.regs := rfl
@[simp] theorem State.setStrand_wide (s : State) (p : Nat) (x : Strand) : (s.setStrand p x).wide = s.wide := rfl
@[simp] theorem State.setStrand_out (s : State) (p : Nat) (x : Strand) : (s.setStrand p x).out = s.out := rfl
@[simp] theorem State.setStrand_boot (s : State) (p : Nat) (x : Strand) : (s.setStrand p x).boot = s.boot := rfl
@[simp] theorem State.setStrand_flt (s : State) (p : Nat) (x : Strand) : (s.setStrand p x).flt = s.flt := rfl
@[simp] theorem State.setStrand_sicp (s : State) (p : Nat) (x : Strand) : (s.setStrand p x).sicp = s.sicp := rfl
@[simp] theorem State.setStrand_xp (s : State) (p : Nat) (x : Strand) : (s.setStrand p x).xp = s.xp := rfl
@[simp] theorem State.setStrand_sdi (s : State) (p : Nat) (x : Strand) : (s.setStrand p x).sdi = s.sdi := rfl
@[simp] theorem State.setStrand_dbl (s : State) (p : Nat) (x : Strand) : (s.setStrand p x).dbl = s.dbl := rfl
@[simp] theorem State.setStrand_bob (s : State) (p : Nat) (x : Strand) : (s.setStrand p x).bob = s.bob := rfl
@[simp] theorem State.setStrand_dram (s : State) (p : Nat) (x : Strand) : (s.setStrand p x).dram = s.dram := rfl
@[simp] theorem State.setStrand_aud (s : State) (p : Nat) (x : Strand) : (s.setStrand p x).aud = s.aud := rfl
@[simp] theorem State.setStrand_mv (s : State) (p : Nat) (x : Strand) : (s.setStrand p x).mv = s.mv := rfl
@[simp] theorem State.setStrand_probe (s : State) (p : Nat) (x : Strand) : (s.setStrand p x).probe = s.probe := rfl
@[simp] theorem State.setStrand_eth (s : State) (p : Nat) (x : Strand) : (s.setStrand p x).eth = s.eth := rfl
@[simp] theorem State.setStrand_ip (s : State) (p : Nat) (x : Strand) : (s.setStrand p x).ip = s.ip := rfl
@[simp] theorem State.setStrand_whl (s : State) (p : Nat) (x : Strand) : (s.setStrand p x).whl = s.whl := rfl
@[simp] theorem State.setStrand_keys (s : State) (p : Nat) (x : Strand) : (s.setStrand p x).keys = s.keys := rfl
@[simp] theorem State.setStrand_spn (s : State) (p : Nat) (x : Strand) : (s.setStrand p x).spn = s.spn := rfl
@[simp] theorem State.setStrand_rtc (s : State) (p : Nat) (x : Strand) : (s.setStrand p x).rtc = s.rtc := rfl
@[simp] theorem State.setStrand_get (s : State) (p : Nat) (x : Strand) (k : Fld) : (s.setStrand p x).get k = s.get k := rfl
@[simp] theorem State.setStrand_has (s : State) (p : Nat) (x : Strand) (k : Fld) : (s.setStrand p x).has k = s.has k := rfl

/-! ### `State.setDma` -/

@[simp] theorem State.setDma_now (s : State) (c : Nat) (x : Dma) : (s.setDma c x).now = s.now := rfl
@[simp] theorem State.setDma_up (s : State) (c : Nat) (x : Dma) : (s.setDma c x).up = s.up := rfl
@[simp] theorem State.setDma_free (s : State) (c : Nat) (x : Dma) : (s.setDma c x).free = s.free := rfl
@[simp] theorem State.setDma_pending (s : State) (c : Nat) (x : Dma) : (s.setDma c x).pending = s.pending := rfl
@[simp] theorem State.setDma_regs (s : State) (c : Nat) (x : Dma) : (s.setDma c x).regs = s.regs := rfl
@[simp] theorem State.setDma_wide (s : State) (c : Nat) (x : Dma) : (s.setDma c x).wide = s.wide := rfl
@[simp] theorem State.setDma_out (s : State) (c : Nat) (x : Dma) : (s.setDma c x).out = s.out := rfl
@[simp] theorem State.setDma_boot (s : State) (c : Nat) (x : Dma) : (s.setDma c x).boot = s.boot := rfl
@[simp] theorem State.setDma_flt (s : State) (c : Nat) (x : Dma) : (s.setDma c x).flt = s.flt := rfl
@[simp] theorem State.setDma_sicp (s : State) (c : Nat) (x : Dma) : (s.setDma c x).sicp = s.sicp := rfl
@[simp] theorem State.setDma_xp (s : State) (c : Nat) (x : Dma) : (s.setDma c x).xp = s.xp := rfl
@[simp] theorem State.setDma_sdi (s : State) (c : Nat) (x : Dma) : (s.setDma c x).sdi = s.sdi := rfl
@[simp] theorem State.setDma_dbl (s : State) (c : Nat) (x : Dma) : (s.setDma c x).dbl = s.dbl := rfl
@[simp] theorem State.setDma_bob (s : State) (c : Nat) (x : Dma) : (s.setDma c x).bob = s.bob := rfl
@[simp] theorem State.setDma_dram (s : State) (c : Nat) (x : Dma) : (s.setDma c x).dram = s.dram := rfl
@[simp] theorem State.setDma_aud (s : State) (c : Nat) (x : Dma) : (s.setDma c x).aud = s.aud := rfl
@[simp] theorem State.setDma_mv (s : State) (c : Nat) (x : Dma) : (s.setDma c x).mv = s.mv := rfl
@[simp] theorem State.setDma_probe (s : State) (c : Nat) (x : Dma) : (s.setDma c x).probe = s.probe := rfl
@[simp] theorem State.setDma_eth (s : State) (c : Nat) (x : Dma) : (s.setDma c x).eth = s.eth := rfl
@[simp] theorem State.setDma_ip (s : State) (c : Nat) (x : Dma) : (s.setDma c x).ip = s.ip := rfl
@[simp] theorem State.setDma_whl (s : State) (c : Nat) (x : Dma) : (s.setDma c x).whl = s.whl := rfl
@[simp] theorem State.setDma_keys (s : State) (c : Nat) (x : Dma) : (s.setDma c x).keys = s.keys := rfl
@[simp] theorem State.setDma_skn (s : State) (c : Nat) (x : Dma) : (s.setDma c x).skn = s.skn := rfl
@[simp] theorem State.setDma_rtc (s : State) (c : Nat) (x : Dma) : (s.setDma c x).rtc = s.rtc := rfl
@[simp] theorem State.setDma_get (s : State) (c : Nat) (x : Dma) (k : Fld) : (s.setDma c x).get k = s.get k := rfl
@[simp] theorem State.setDma_has (s : State) (c : Nat) (x : Dma) (k : Fld) : (s.setDma c x).has k = s.has k := rfl

/-! ### What a part reads after it is written -/

@[simp] theorem State.dst_setDst_same (s : State) (i : Nat) (d : DstSt) : (s.setDst i d).dst i = d := by simp [State.dst, State.setDst, lookD]

theorem State.dst_setDst_other (s : State) {i j : Nat} (h : j ≠ i) (d : DstSt) : (s.setDst i d).dst j = s.dst j := by
  simp [State.dst, State.setDst, lookD, look_put_other h]

@[simp] theorem State.banks_setBanks_same (s : State) (k : Nat) (b : Banks) : (s.setBanks k b).banks k = b := by
  simp [State.banks, State.setBanks, lookD]

theorem State.banks_setBanks_other (s : State) {k j : Nat} (h : j ≠ k) (b : Banks) : (s.setBanks k b).banks j = s.banks j := by
  simp [State.banks, State.setBanks, lookD, look_put_other h]

@[simp] theorem State.rx_setRx_same (s : State) (lane : Nat) (x : RxLane) : (s.setRx lane x).rx lane = x := by simp [State.rx, State.setRx, lookD]

theorem State.rx_setRx_other (s : State) {i j : Nat} (h : j ≠ i) (x : RxLane) : (s.setRx i x).rx j = s.rx j := by
  simp [State.rx, State.setRx, lookD, look_put_other h]

@[simp] theorem State.port_setPort_same (s : State) (p : Nat) (x : EthPort) : (s.setPort p x).port p = x := by simp [State.port, State.setPort, lookD]

theorem State.port_setPort_other (s : State) {i j : Nat} (h : j ≠ i) (x : EthPort) : (s.setPort i x).port j = s.port j := by
  simp [State.port, State.setPort, lookD, look_put_other h]

@[simp] theorem State.strand_setStrand_same (s : State) (p : Nat) (x : Strand) : (s.setStrand p x).strand p = x := by
  simp [State.strand, State.setStrand, lookD]

theorem State.strand_setStrand_other (s : State) {i j : Nat} (h : j ≠ i) (x : Strand) : (s.setStrand i x).strand j = s.strand j := by
  simp [State.strand, State.setStrand, lookD, look_put_other h]

@[simp] theorem State.dma_setDma_same (s : State) (c : Nat) (x : Dma) : (s.setDma c x).dma c = x := by simp [State.dma, State.setDma, lookD]

theorem State.dma_setDma_other (s : State) {i j : Nat} (h : j ≠ i) (x : Dma) : (s.setDma i x).dma j = s.dma j := by
  simp [State.dma, State.setDma, lookD, look_put_other h]

/-! ### Register fields -/

theorem State.word_lt (s : State) (a : Nat) : s.word a < 2 ^ 32 := by
  unfold State.word
  split
  · exact BitVec.isLt _
  · exact resetWord_lt a

/-- A field written reads what was written, modulo its width (00 R14, R16). -/
theorem State.get_set_same {s : State} (hc : canonical s.regs = true) (f : Fld) (hf : f.lo ≤ f.hi) (hh : f.hi < 32) (v : Nat) : (s.set f v).get f = v % 2 ^ f.width := by
  have hlt : placeBits (s.word f.addr) f.lo f.width v < 2 ^ 32 :=
    placeBits_lt v (s.word_lt _) (by simp only [Fld.width]; omega)
  rw [State.get, State.set, word_setWord_same hc, Nat.mod_eq_of_lt hlt, bits]
  exact placeBits_get _ _ _ _

/-- A field of another word is left as it was. -/
theorem State.get_set_word {s : State} {f g : Fld} (h : g.addr ≠ f.addr) (v : Nat) : (s.set f v).get g = s.get g := by
  rw [State.get, State.set, word_setWord_other h, State.get]

/-- A field of the same word that lies below the one written is left as it was. -/
theorem State.get_set_below {s : State} (hc : canonical s.regs = true) {f g : Fld} (ha : g.addr = f.addr) (hg : g.lo ≤ g.hi) (h : g.hi < f.lo)
    (hf : f.lo ≤ f.hi) (hh : f.hi < 32) (v : Nat) : (s.set f v).get g = s.get g := by
  have hlt : placeBits (s.word f.addr) f.lo f.width v < 2 ^ 32 :=
    placeBits_lt v (s.word_lt _) (by simp only [Fld.width]; omega)
  rw [State.get, ha, State.set, word_setWord_same hc, Nat.mod_eq_of_lt hlt, State.get, ha, bits, bits]
  have e (x : Nat) : x / 2 ^ g.lo % 2 ^ (g.hi + 1 - g.lo) = x % 2 ^ (g.hi + 1) / 2 ^ g.lo := by
    rw [← Nat.mod_mul_right_div_self, ← pow_add, show g.lo + (g.hi + 1 - g.lo) = g.hi + 1 by omega]
  rw [e, e, placeBits_below _ _ _ _ (by omega)]

/-- A field of the same word that lies above the one written is left as it was. -/
theorem State.get_set_above {s : State} (hc : canonical s.regs = true) {f g : Fld} (ha : g.addr = f.addr) (h : f.hi < g.lo)
    (hf : f.lo ≤ f.hi) (hh : f.hi < 32) (v : Nat) : (s.set f v).get g = s.get g := by
  have hlt : placeBits (s.word f.addr) f.lo f.width v < 2 ^ 32 :=
    placeBits_lt v (s.word_lt _) (by simp only [Fld.width]; omega)
  rw [State.get, ha, State.set, word_setWord_same hc, Nat.mod_eq_of_lt hlt, State.get, ha, bits, bits]
  obtain ⟨m, hm⟩ := Nat.exists_eq_add_of_le (show f.lo + f.width ≤ g.lo by simp only [Fld.width]; omega)
  rw [hm, pow_add, ← Nat.div_div_eq_div_mul, ← Nat.div_div_eq_div_mul, placeBits_above]

end Sys2Proof.Machine
end

