-- ==== Sys2Proof/Tests/Slice0.lean ====
section
/-! SUPPORT. The model's own tests. The worked examples of the spec give the expected values of the first part; the second shows that the form check
refuses what it should; the third shows for each statement a state and operands that meet the hypotheses of each of its clauses. -/

namespace Sys2Proof.Machine

set_option Elab.async false

/-! ### Worked examples of the spec -/

/-- 02 R63 to R82, Example: frame 1 at 59.94 Hz is acted on at 16 683 334 ns, and its frame count is exactly 1. -/
theorem test_alignPoint_5994 : alignPoint 8 1 = 16683334 ∧ frameAt 8 16683334 = 1 ∧ frameAt 8 16683333 = 0 := by decide

/-- 05 R208, Example: the frame at 1 700 000 000 s at 50 Hz is frame 85 000 000 000. -/
theorem test_frameAt_50 : frameAt 7 (1700000000 * sec) = 85000000000 := by decide

/-- 02 R80, Example: at 25 Hz with a lead of 2 ms, the cycle of T + 145 ms ends at T + 160 ms and closes at T + 158 ms. -/
theorem test_cycleClose :
    let s : State := { State.reset with boot.recs := [⟨0x0100, [2, 2, 0, 0]⟩] }
    let t := 1700000000 * sec
    s.cycleEnd (t + 145 * ms) = t + 160 * ms ∧ s.closeOf (t + 160 * ms) = t + 158 * ms ∧ s.cycleEnd (t + 158 * ms) = t + 200 * ms := by decide

/-- 15 R587, Example: at 50 Hz a take accepted at T + 145 ms is due at T + 160 ms. -/
theorem test_cycleEnd_50 : State.reset.cycleEnd (1700000000 * sec + 145 * ms) = 1700000000 * sec + 160 * ms := by decide

/-- 01 R46, Example: source S37 of chip 600 has global ID 614 437. -/
theorem test_globalId : ({ State.reset with boot.recs := [⟨0x01B0, leBytes 2 600 ++ [0, 0, 0, 0, 0, 0]⟩] } : State).gid 37 = 614437 := by decide

/-- 17 R645, R646, Example: 2100-02-29 does not exist, 2100-01-01 is day 47 482 and 2100-03-01 day 47 541. -/
theorem test_calendar : dateBad 2100 2 29 0 0 0 0 = true ∧ dateBad 2100 2 28 0 0 0 0 = false ∧ daysTo 2100 1 1 = 47482 ∧ daysTo 2100 3 1 = 47541 := by
  decide

/-- 03 R91, Example: cell 5 of connection 1000 goes to tile 5, with all tiles in service and with tile 2 out. -/
theorem test_rotation :
    let s : State := { State.reset with xp.tiles := List.replicate 8 .inService }
    s.tileOf 1000 5 = some 5 ∧ (s.setTile 2 .out).tileOf 1000 5 = some 5 ∧ (s.setTile 2 .out).rotation = [0, 1, 3, 4, 5, 6, 7] := by decide +kernel

/-- 18 R663: the CRC-32C of the nine digits is 0xE306 9283 (the check value of the polynomial). -/
theorem test_crc32c : crc32c [0x31, 0x32, 0x33, 0x34, 0x35, 0x36, 0x37, 0x38, 0x39] = 0xE3069283 := by decide +kernel

/-- 02 R54, Example: a 3G quad-link group on C36 occupies C36 to C39. -/
theorem test_lanes : recLanes [0, 0, 0, 2, 0, 0, 36, 0] = [36, 37, 38, 39] := by decide

/-- 19 R695: versions fit when the major fields agree and the minor fields differ by at most 1. -/
theorem test_fwCompatible : fwCompatible 0x02040000 0x02050007 = true ∧ fwCompatible 0x02040000 0x02060000 = false ∧
    fwCompatible 0x02040000 0x03040000 = false := by decide

/-- 00 R16, 20 Table 20.11: a one-bit W1C field of an ERR register is found with its access, and reserved bits have none. -/
theorem test_access : accessOf R.WHL_ERR_XO = some .w1c ∧ accessOf ⟨38, 0x20, 7, 7⟩ = none := by decide +kernel

/-! ### The form check refuses what is ill formed -/

/-- A request with a 16-bit LENGTH and a body of two bytes, used in the tests of the form check. -/
def okReq : Req := { sess := 1, peer := (0, 0), backlog := 0, version := 1, flags := 0, id := 1, length := 2, body := [0, 0] }

/-- An instant past 48 bits of seconds is refused, and the last one before it is not. -/
theorem test_wf_time : Instr.wf (.timeStep (2 ^ 48 * 1000000000)) = false ∧ Instr.wf (.timeStep (2 ^ 48 * 1000000000 - 1)) = true := by decide

/-- A request whose version, flags, ID or length does not fit its field is refused. -/
theorem test_wf_request : Instr.wf (.ping 0 okReq) = true ∧ Instr.wf (.ping 0 { okReq with version := 256 }) = false ∧
    Instr.wf (.take 0 { okReq with flags := 2 ^ 16 }) = false ∧ Instr.wf (.fence 0 { okReq with id := 2 ^ 32 }) = false ∧
    Instr.wf (.evacClear 0 { okReq with length := 2 ^ 32 }) = false := by decide

/-- A STAGE_WRITE has no more plain bytes than its body. -/
theorem test_wf_stageWrite : Instr.wf (.stageWrite 0 okReq true [1, 2]) = true ∧ Instr.wf (.stageWrite 0 okReq true [1, 2, 3]) = false := by decide

/-- A service write past the end of the device is refused; the last byte of it is not. -/
theorem test_wf_service :
    let w : StartFacts := ⟨false, 1, [], none, none, ⟨true, true, true, true, [], true⟩, ⟨true, true, true, true, [], true⟩, false, true, true⟩
    Instr.wf (.powerStart 0 { w with service := [(131071, [0])] }) = true ∧ Instr.wf (.powerStart 0 { w with service := [(131072, [0])] }) = false := by
  decide

/-- A certificate's name has at most 64 bytes. -/
theorem test_wf_hello :
    let h : Hello := ⟨(0, 0), 256, 0, 0, none, true, none, [], true, true, true, false, List.replicate 65 0⟩
    Instr.wf (.dtlsClientHello 0 h) = false ∧ Instr.wf (.dtlsClientHello 0 { h with name := List.replicate 64 0 }) = true := by decide

/-- A frame of an SDI source without lines, or with more marked lines than lines, is refused; so is an ANC identifier of 9 bits. -/
theorem test_wf_sdiFrame :
    let f : SdiFrame := ⟨1125, 2200, 1, 0, 1, none, false, 0, 0, 0, false, 0, 0, [], [], 0, [], 0, [], []⟩
    Instr.wf (.sdiFrameReceived 0 0 f) = true ∧ Instr.wf (.sdiFrameReceived 0 0 { f with lines := 0 }) = false ∧
    Instr.wf (.sdiFrameReceived 0 0 { f with words := 0 }) = false ∧ Instr.wf (.sdiFrameReceived 0 0 { f with trsLines := 1126 }) = false ∧
    Instr.wf (.sdiFrameReceived 0 0 { f with picCrc := 2 ^ 32 }) = false := by decide

/-- An Ethernet frame has a length and a tag of 16 bits. -/
theorem test_wf_ethFrame :
    let f : EthFrame := { len := 64, good := true, badTag := false, tag := none, fecCor := 0, fecUnc := 0, blockErr := 0, body := .pause 0 }
    Instr.wf (.ethFrameRx 0 0 f) = true ∧ Instr.wf (.ethFrameRx 0 0 { f with len := 2 ^ 16 }) = false ∧
    Instr.wf (.ethFrameRx 0 0 { f with tag := some (2 ^ 16) }) = false := by decide

/-- A Strand unit keeps the widths of its type, sequence number and credit counts. -/
theorem test_wf_unit :
    let u : SkUnit := { sconn := 32767, typ := 7, aligned := true, useq := 65535, freedM := 65535, freedC := 65535, hcrc := 65535, held := 0, cellOk := true, frame := none }
    Instr.wf (.strandUnitRx 0 0 u) = true ∧ Instr.wf (.strandUnitRx 0 0 { u with typ := 8 }) = false ∧
    Instr.wf (.strandUnitRx 0 0 { u with useq := 65536 }) = false ∧ Instr.wf (.strandUnitRx 0 0 { u with freedM := 65536 }) = false ∧
    Instr.wf (.strandUnitRx 0 0 { u with freedC := 65536 }) = false := by decide

/-- A Skein message names pairs by even numbers below 1024 and comes on a port that exists; a chip's number has 10 bits. -/
theorem test_wf_skein :
    let m : SkMsg := { id := 0, target := 1022, coord := 1022, num := 0, close := 0, body := .decision true 0 }
    Instr.wf (.skeinDecision 0 255 m) = true ∧ Instr.wf (.skeinDecision 0 256 m) = false ∧ Instr.wf (.skeinDecision 0 0 { m with target := 1024 }) = false ∧
    Instr.wf (.skeinArm 0 0 { m with coord := 511 }) = false ∧ Instr.wf (.skeinReport 0 0 { m with id := 2 ^ 32 }) = false ∧
    Instr.wf (.skeinRelease 0 0 { m with num := 2 ^ 54 }) = false ∧ Instr.wf (.claim 0 0 1024) = false ∧ Instr.wf (.claim 0 256 0) = false ∧
    Instr.wf (.linkState 0 (.twin 1024 [])) = false ∧ Instr.wf (.linkState 0 (.rx 256 0 0 [])) = false ∧ Instr.wf (.linkState 0 (.rx 0 0 1024 [])) = false ∧
    Instr.wf (.linkState 0 .send) = true := by decide

/-- A frame of the doubling link carries a role code of 3 bits; a snapshot part lies below the number of parts; a reference has 4 bits. -/
theorem test_wf_doubling : Instr.wf (.dblYield 0 ⟨true, 7, false⟩) = true ∧ Instr.wf (.dblYield 0 ⟨true, 8, false⟩) = false ∧
    Instr.wf (.dblSnap 0 ⟨true, 1, false⟩ 1 1 []) = false ∧ Instr.wf (.dblSnap 0 ⟨true, 1, false⟩ 0 1 []) = true ∧ Instr.wf (.dblTime 0 0 0 16) = false ∧
    Instr.wf (.dblTime 0 0 0 15) = true := by decide

/-- Islands, connections, addresses, causes and levels keep their ranges. -/
theorem test_wf_ranges : Instr.wf (.cellCrcFail 0 0 40 0 0 false) = false ∧ Instr.wf (.cellCrcFail 0 0 39 (2 ^ 15) 0 false) = false ∧
    Instr.wf (.cellCrcFail 0 0 39 0 (2 ^ 32) false) = false ∧ Instr.wf (.cellCrcFail 0 0 39 (2 ^ 15 - 1) (2 ^ 32 - 1) true) = true ∧
    Instr.wf (.tileFailure 0 0 3 0 0) = false ∧ Instr.wf (.tileFailure 0 0 0 40 0) = false ∧ Instr.wf (.tileFailure 0 0 0 0 (2 ^ 15)) = false ∧
    Instr.wf (.dramReadEcc 0 0 true (2 ^ 40) none) = false ∧ Instr.wf (.dramScrub 0 0 0 (2 ^ 40)) = false ∧
    Instr.wf (.neighbourRefresh 0 0 0 (2 ^ 16)) = false ∧ Instr.wf (.refDisqualify 0 0 16) = false ∧
    Instr.wf (.strandMeasureDone 0 0 [(2 ^ 32, 0)]) = false ∧ Instr.wf (.strandMeasureDone 0 0 [(1, 2)]) = false ∧ Instr.wf (.strandCreditSend 0 0 65536 0) = false ∧
    Instr.wf (.strandCreditSend 0 0 0 65536) = false := by decide

/-- Samples, readings and the lists of an audio tick keep their ranges: 24-bit samples, eight temperature sensors, four rates, six samples a tick. -/
theorem test_wf_samples : Instr.wf (.audioSampleArrival 0 0 63 0 (2 ^ 23 - 1) false) = true ∧ Instr.wf (.audioSampleArrival 0 0 64 0 0 false) = false ∧
    Instr.wf (.audioSampleArrival 0 0 0 0 (2 ^ 23) false) = false ∧ Instr.wf (.audioSampleArrival 0 0 0 0 (-(2 ^ 23) - 1) false) = false ∧
    Instr.wf (.tdmFsEdge 0 0 0 [2 ^ 23]) = false ∧ Instr.wf (.tempSample 0 (List.replicate 7 none)) = false ∧
    Instr.wf (.refreshRateRead 0 0 [0, 1, 2]) = false ∧ Instr.wf (.audioTick 0 [] [(0, [1, 2])]) = false ∧
    Instr.wf (.audioTick 0 [] [(0, [1, 2, 3, 4, 5, 6])]) = true ∧ Instr.wf (.servoSample 0 [(0, 0, 0), (0, 1, 1)]) = false := by decide

/-- Register addresses and words, codes, masters and response types keep their widths. -/
theorem test_wf_registers : Instr.wf (.registerWrite 0 (2 ^ 40) 0) = false ∧ Instr.wf (.registerWrite 0 0 (2 ^ 32)) = false ∧
    Instr.wf (.registerWrite 0 (2 ^ 40 - 1) (2 ^ 32 - 1)) = true ∧ Instr.wf (.rcFieldRead 0 (2 ^ 40)) = false ∧
    Instr.wf (.counterLowRead 0 (2 ^ 40)) = false ∧ Instr.wf (.xrdLenWrite 0 (2 ^ 32)) = false ∧ Instr.wf (.islandError 0 0 (2 ^ 20) 0 0 0) = false ∧
    Instr.wf (.islandError 0 0 2 0 0 0) = false ∧ Instr.wf (.errorLineOccurrence 0 0 0 0 (2 ^ 16) 0 0 0) = false ∧
    Instr.wf (.errorLineOccurrence 0 0 0 0 0 5 0 0) = false ∧ Instr.wf (.errorLineOccurrence 0 0 0 0 0 4 256 0) = false ∧
    Instr.wf (.errorLineOccurrence 0 0 0 0 0 4 255 (2 ^ 40)) = false ∧ Instr.wf (.transactionTimeout 0 0 (2 ^ 20) 0 0) = false ∧
    Instr.wf (.transactionTimeout 0 0 0 256 0) = false ∧ Instr.wf (.lockstep 0 0 (2 ^ 40)) = false ∧ Instr.wf (.sramEcc 0 true (2 ^ 40)) = false ∧
    Instr.wf (.dmaHalt 0 0 0 (2 ^ 40) false) = false ∧ Instr.wf (.gpiSample 0 (2 ^ 64)) = false ∧ Instr.wf (.gpiSample 0 (2 ^ 64 - 1)) = true := by
  decide

/-! ### Witnesses: for each clause of a statement a state and operands that meet its hypotheses -/

/-- A chip whose start has reached a status. -/
def atS (n : Nat) : State := State.reset.set R.BOOT_STAT_STATUS n

/-- Does a command answer a next state with a property? -/
def ends (c : Instr) (s : State) (p : State → Bool) : Bool :=
  match exec c s with
  | .next s' => p s'
  | _ => false

/-- What `ends` says. -/
theorem ends_next {c : Instr} {s : State} {p : State → Bool} (h : ends c s p = true) : ∃ s', exec c s = .next s' ∧ p s' = true := by
  unfold ends at h
  cases e : exec c s with
  | next s' => rw [e] at h; exact ⟨s', rfl, h⟩
  | fault f => rw [e] at h; cases h
  | refused r => rw [e] at h; cases h

/-- A session of a principal, on the pair address unless `own`. -/
def cli (own : Bool) : Session :=
  ⟨1, own, false, 0, 0, [], [], [⟨0, 0, []⟩], (0, 0), 256, 0, none, [], 0, 0, 0, 0, []⟩

/-- A TLV: its type, its length and its value (15 R571). -/
def tl (typ : Nat) (val : List Byte) : List Byte := beBytes 2 typ ++ beBytes 2 val.length ++ val

/-- A request of session 1 with a body of TLVs. -/
def rq (body : List Byte) : Req := ⟨1, (0, 0), 0, 1, 0, 1, body.length, body⟩

/-- A GRANT record of principal 0 with one right over `n` objects of a kind from `first` on (16 Table 16.9). -/
def grant (right kind first n : Nat) : Rec :=
  ⟨0x01E3, [0, 0, 0, 0, 1, 0, 0, 0, BitVec.ofNat 8 right, BitVec.ofNat 8 kind, 0, 0] ++ leBytes 4 first ++ leBytes 4 n⟩

/-- A chip in service in a role, with a session of principal 0 and some records. -/
def srv (own : Bool) (recs : List Rec) : State :=
  { atS 8 with dbl.role := .active, sicp.sessions := [cli own], boot.recs := recs }

/-- A request is accepted, and the state and the context in which it acts have a property. -/
def meets (s : State) (t : Time) (m : Msg) (q : Req) (lacks : State → Session → List Tlv → Option Need) (p : State → Ctx → Bool) : Bool :=
  s.inService && (match (s.at_ t).sess q.sess with
    | none => false
    | some c => match checkMsg m.typ q m.slots with
      | .inl _ => false
      | .inr ts => (s.at_ t).accepts m q lacks c ts && p ((s.at_ t).accepted q c) ((s.at_ t).ctx m q c ts))

/-- What `meets` says. -/
theorem meets_takes {s : State} {t : Time} {m : Msg} {q : Req} {lacks : State → Session → List Tlv → Option Need} {p : State → Ctx → Bool}
    (h : meets s t m q lacks p = true) : ∃ u x, s.takes t m q lacks u x ∧ p u x = true := by
  unfold meets at h
  simp only [Bool.and_eq_true] at h
  obtain ⟨hs, h⟩ := h
  split at h
  · cases h
  · split at h
    · cases h
    · rename_i c _ _ ts _
      simp only [Bool.and_eq_true] at h
      exact ⟨_, _, ⟨hs, c, ts, h.1, rfl, rfl⟩, h.2⟩

/-- EveryStepKeepsForm, EightTilesStay: a step from reset. -/
theorem test_EveryStepKeepsForm_met : step State.reset = .next State.reset ∧ State.reset.formed = true ∧ State.reset.xp.tiles.length = 8 :=
  ⟨rfl, by decide +kernel, rfl⟩

/-- StoppedChip: a stopped chip and a command that is no pin; and the fall of the pins that ends the stop. -/
theorem test_StoppedChip_met :
    let s : State := { atS 15 with flt.stopped := true, boot.pins := true }
    s.flt.stopped = true ∧ (Instr.cycleClose 0).isPowerPin = false ∧ ends (.resetFall 5 false false 0) s (fun s' => !s'.flt.stopped) = true := by
  decide +kernel

/-- FusesMoveForward, CommandsOnlyAdd, MemoryWriters: commands that answer a next state; the change of the life cycle and the raise of the rollback
counter among them. -/
theorem test_FusesMoveForward_met :
    ends (.lifecycleSet 9 (rq (tl 0x2B [2, 0, 0, 0]))) { srv true [grant 11 0 0 1] with keys.rngOk := true } (fun s' => s'.keys.life == 2) = true ∧
    ends (.chipServes 9) { atS 7 with whl.ready := true, boot.flags := 2, boot.secver := 3 } (fun s' => s'.keys.rbSteps == 3) = true ∧
    ends (.cycleClose 9) State.reset (fun _ => true) = true := by decide +kernel

/-- CommandsNeedTheirStage: STATUS 0x4 is below 0x5, and a chip at STATUS 0x7 does not serve; a request, a message of a session and a Skein message. -/
theorem test_CommandsNeedTheirStage_met : (atS 4).get R.BOOT_STAT_STATUS < 5 ∧ (atS 0).get R.BOOT_STAT_STATUS < 5 ∧ (atS 7).serving = false ∧
    (atS 11).serving = false ∧ (Instr.ping 0 okReq).req.isSome = true := by decide +kernel

/-- RequestsTurnedAway: a record of no session; a session of the pair at a chip without control; an ID that is known; a bucket without a token. -/
theorem test_RequestsTurnedAway_met :
    (let s := srv true []
     s.inService = true ∧ s.sess 2 = none) ∧
    (let s : State := { srv false [] with dbl.role := .standby }
     s.inService = true ∧ s.sess 1 = some (cli false) ∧ (cli false).own = false ∧ s.dbl.role.holds = false) ∧
    (let c : Session := { cli false with high := some 1, window := [(1, none)] }
     let s : State := { srv false [] with sicp.sessions := [c] }
     s.inService = true ∧ s.sess 1 = some c ∧ s.dbl.role.holds = true ∧ 16 + (rq []).body.length ≤ 1400 ∧ c.known (rq []).id = true) ∧
    (let s : State := { srv true [] with sicp.buckets := [⟨0, false, 0, 0⟩] }
     s.inService = true ∧ s.sess 1 = some (cli true) ∧ (cli true).known (rq []).id = false ∧ 16 + (rq (List.replicate 1384 0)).body.length ≤ 1400 ∧
       ((s.at_ 0).bucket (cli true).princ false).tokens = 0) := by decide +kernel

/-- AcceptanceIsCounted and the first clause of ReadsAndBulkWrites: a PING is accepted. -/
theorem test_AcceptanceIsCounted_met : ∃ u x, (srv true []).takes 9 ⟨0x01, false, []⟩ (rq []) noNeeds u x ∧ (srv true []).formed = true := by
  obtain ⟨u, x, h, _⟩ := meets_takes (s := srv true []) (t := 9) (m := ⟨0x01, false, []⟩) (q := rq []) (lacks := noNeeds) (p := fun _ _ => true)
    (by decide +kernel)
  exact ⟨u, x, h, by decide +kernel⟩

/-- A register address in a TLV, with a number of words. -/
def regTlv (f : Fld) (n : Nat) : List Byte := tl 0x1A (beBytes 5 f.addr ++ beBytes 1 n ++ [0, 0])

/-- Records of a 1080-line picture at 50 Hz: source `n` of a kind with a binding, destination `n`, still `n` (02 Tables 2.10 and 2.11, 08 Table 8.6). -/
def srcR (n kind bind : Nat) : Rec := ⟨0x0101, leBytes 2 n ++ leBytes 1 kind ++ [0] ++ leBytes 2 0x2007 ++ leBytes 2 bind ++ [0, 0, 0, 0]⟩
def dstR (n : Nat) : Rec := ⟨0x0102, leBytes 2 n ++ [0, 0] ++ leBytes 2 0x2007 ++ [0, 0, 0, 0, 0, 0]⟩
def stillR (n : Nat) : Rec := ⟨0x0161, leBytes 2 n ++ leBytes 2 0x2007⟩

/-- ReadsAndBulkWrites: a query of a destination; each request over registers with its first and last number of words; a log read; BULK_WRITE that
ends at the end of a still's bank, and of a plane. -/
theorem test_ReadsAndBulkWrites_met :
    (meets (srv false [dstR 1023, grant 0 0 0 1]) 9 ⟨0x03, true, [one 4]⟩ (rq (tl 4 [0, 0, 3, 255])) (firstLack (fun ts => [⟨0, 1, fld ts 4 0 4, 0⟩]))
      (fun u x => u.ours (fld x.ts 4 0 4) = true ∧ (u.dstRec (indexOfId (fld x.ts 4 0 4))).isSome = true) = false) ∧
    meets (srv false [dstR 1023, grant 0 1 1023 1]) 9 ⟨0x03, true, [one 4]⟩ (rq (tl 4 [0, 0, 3, 255])) (firstLack (fun ts => [⟨0, 1, fld ts 4 0 4, 0⟩]))
      (fun u x => u.ours (fld x.ts 4 0 4) = true ∧ (u.dstRec (indexOfId (fld x.ts 4 0 4))).isSome = true) = true ∧
    meets (srv true [grant 0 0 0 1]) 9 ⟨0x04, false, [one 0x1A]⟩ (rq (regTlv R.SCP_REQUESTS 1)) (regNeeds 0) (fun _ x => fld x.ts 0x1A 0 5 % 4 = 0) = true ∧
    meets (srv true [grant 0 0 0 1]) 9 ⟨0x04, false, [one 0x1A]⟩ (rq (regTlv R.SCP_REQUESTS 64)) (regNeeds 0) (fun _ x => fld x.ts 0x1A 0 5 % 4 = 0) = true ∧
    meets (srv true [grant 9 0 0 1]) 9 ⟨0x05, false, [one 0x1A, one 0x1B]⟩ (rq (regTlv R.WHL_ERR_XO 1 ++ tl 0x1B [0, 0, 0, 1])) (regNeeds 9)
      (fun _ x => fld x.ts 0x1A 5 1 = 1 ∧ fld x.ts 0x1A 0 5 % 4 = 0 ∧ sicpWritable (fld x.ts 0x1A 0 5) = true ∧ (tlv x.ts 0x1B).length = 4) = true ∧
    meets (srv true [grant 0 0 0 1]) 9 ⟨0x06, false, [one 0x1A]⟩ (rq (regTlv R.SCP_REQUESTS 64)) (regNeeds 0) (fun _ x => fld x.ts 0x1A 0 5 % 4 = 0) = true ∧
    meets (srv true [grant 0 0 0 1]) 9 ⟨0x07, false, [one 0x2C]⟩ (rq (tl 0x2C [0, 0, 0, 0, 0, 14, 0, 0])) (chipNeed 0) (fun _ _ => true) = true ∧
    meets (srv false [stillR 255, grant 6 6 255 1]) 9 ⟨0x33, true, [one 0x17, one 0x18, one 0x19]⟩
      (rq (tl 0x17 [1, 255, 0, 1] ++ tl 0x18 (beBytes 4 5183999) ++ tl 0x19 [7])) targetLacks
      (fun u x => u.bankSize (targetKey x.ts) = some 5184000 ∧ fld x.ts 0x18 0 4 + (tlv x.ts 0x19).length ≤ 5184000 ∧ targetKey x.ts < 256 ∧
        (u.banks (targetKey x.ts)).fence = false) = true ∧
    meets (srv false [srcR 3 4 15, ⟨0x0190, [15, 4]⟩, grant 6 5 30 1]) 9 ⟨0x33, true, [one 0x17, one 0x18, one 0x19]⟩
      (rq (tl 0x17 [2, 15, 0, 0] ++ tl 0x18 (beBytes 4 0) ++ tl 0x19 [1, 2, 3, 4])) targetLacks
      (fun u x => 256 ≤ targetKey x.ts ∧ fld x.ts 0x18 0 4 % 4 = 0 ∧ (tlv x.ts 0x19).length % 4 = 0 ∧ (u.bankSize (targetKey x.ts)).isSome = true ∧
        (u.banks (targetKey x.ts)).fence = false) = true := by decide +kernel

/-- MaintenanceRequests: a mask without a bit and one of every bit; the first and last island of each kind; a drain of the first and the last tile with
the others in service, and one with another out; a restore of a tile that is OUT. -/
theorem test_MaintenanceRequests_met :
    let s := srv true [grant 9 0 0 1]
    let full : State := { s with xp.tiles := List.replicate 8 .inService }
    (∀ b ∈ [[0, 0, 0, 0, 0, 0, 0, 0], [0, 0, 0x30, 0xFF, 0xFF, 0xFF, 0xFF, 0xFF]],
      meets s 9 ⟨0x0A, false, [one 0x28]⟩ (rq (tl 0x28 b)) (chipNeed 9) (fun _ x => faultMaskOk (fld x.ts 0x28 0 8)) = true) ∧
    (∀ n ∈ [0, 15, 16, 23, 24, 31, 32], meets s 9 ⟨0x52, false, [one 0x23]⟩ (rq (tl 0x23 [n, 0, 0, 0])) (chipNeed 9)
      (fun u x => fld x.ts 0x23 0 1 < 16 ∨ fld x.ts 0x23 0 1 = 32 ∨ (24 ≤ fld x.ts 0x23 0 1 ∧ fld x.ts 0x23 0 1 < 32) ∨
        (16 ≤ fld x.ts 0x23 0 1 ∧ fld x.ts 0x23 0 1 < 24 ∧ u.tile (fld x.ts 0x23 0 1 - 16) = .out)) = true) ∧
    (∀ n ∈ [0, 7], meets full 9 ⟨0x50, false, [one 0x22]⟩ (rq (tl 0x22 [n, 0, 0, 0])) (chipNeed 9)
      (fun u x => u.othersServe (fld x.ts 0x22 0 1) ∧ u.xp.drainAt = none) = true) ∧
    meets s 9 ⟨0x50, false, [one 0x22]⟩ (rq (tl 0x22 [7, 0, 0, 0])) (chipNeed 9) (fun u x => u.othersServe (fld x.ts 0x22 0 1) = false) = true ∧
    meets s 9 ⟨0x51, false, [one 0x22]⟩ (rq (tl 0x22 [7, 0, 0, 0])) (chipNeed 9) (fun u x => u.tile (fld x.ts 0x22 0 1) = .out) = true := by
  decide +kernel

/-- A salvo of session 1 that is due at 10 s. -/
def sv : Salvo := { num := 5, order := 0, entries := [], tc := 10 * sec, auto := true, prio := 0, princ := 0, sess := some 1, items := [] }

/-- SalvoRequests: the last handle of a session; an entry added to a staged salvo; the arming of a staged and of a stored salvo; a salvo that may still
be committed or aborted; staging handles at the end of their 10 s. -/
theorem test_SalvoRequests_met :
    let g (n sess at_ : Nat) : Staged := { handle := n, sess := sess, princ := 0, lastAdd := at_ }
    let s := srv false [grant 1 1 0 1]
    meets { s with sicp.staged := (List.range 7).map (fun i => g i 1 0) ++ (List.range 56).map (fun i => g (100 + i) 2 0) } 9 ⟨0x11, true, []⟩ (rq [])
      (fun s c _ => if s.holdsAny c.princ 1 then none else some ⟨1, 0, 0, 0⟩)
      (fun u x => u.sicp.staged.length = 63 ∧ (u.sicp.staged.filter (fun y => y.sess = x.sess.id)).length = 7) = true ∧
    meets { s with sicp.staged := [g 5 1 0] } 9 ⟨0x12, true, [one 0x08, one 0x0B]⟩
      (rq (tl 8 (beBytes 8 5) ++ tl 0x0B (leBytes 4 0 ++ leBytes 4 0xFFFFFFFF ++ [7, 0, 0, 0]))) (firstLack (fun ts =>
        (entriesOf (tlv ts 0x0B) ((tlv ts 0x0B).length / 12)).flatMap (fun e => routeNeeds e.dest e.src e.levels)))
      (fun u x => u.sicp.staged.find? (fun y => y.handle = fld x.ts 0x08 0 8 && y.princ = x.sess.princ && !y.armed) = some (g 5 1 0)) = true ∧
    meets { s with sicp.staged := [g 5 1 0] } 9 ⟨0x13, true, [⟨[8, 9], 1, 1⟩, one 0x0A, opt 2]⟩ (rq (tl 8 (beBytes 8 5) ++ tl 0x0A [0, 0, 0, 1])) armLacks
      (fun u x => hasTlv x.ts 9 = false ∧ u.sicp.staged.find? (fun y => y.handle = fld x.ts 8 0 8) = some (g 5 1 0)) = true ∧
    meets (srv false [grant 1 1 0 1, ⟨0x0121, leBytes 2 255 ++ leBytes 2 1 ++ [0, 0, 0, 0] ++ leBytes 4 0 ++ leBytes 4 0xFFFFFFFF ++ [7, 0, 0, 0]⟩]) 9
      ⟨0x13, true, [⟨[8, 9], 1, 1⟩, one 0x0A, opt 2]⟩ (rq (tl 9 [0, 255, 0, 0] ++ tl 0x0A [0, 0, 0, 0])) armLacks
      (fun u x => hasTlv x.ts 9 = true ∧ (u.stored (fld x.ts 9 0 2)).isSome = true) = true ∧
    meets { srv false [] with xp.salvos := [sv] } 9 ⟨0x14, true, [one 8]⟩ (rq (tl 8 (beBytes 8 5120))) commitLacks
      (fun u x => u.namedSalvo x.ts = some sv ∧ u.now < u.decisionClose sv) = true ∧
    meets { srv false [] with xp.salvos := [sv] } 9 ⟨0x15, true, [one 8]⟩ (rq (tl 8 (beBytes 8 5120))) commitLacks
      (fun u x => u.namedSalvo x.ts = some sv ∧ u.now < u.decisionClose sv) = true ∧
    (let s : State := { srv false [] with sicp.staged := [g 1 1 0, g 2 1 1] }
     s.inService = true ∧ (s.at_ (10 * sec)).up = 10 * sec) := by decide +kernel

/-- RouteAndPairRequestsJoinCycle: the eighth subscription of a session; an end of one; the last reference and NONE; the first date; the requests of
the pair; a take within the pair, with and without a source, and one to another pair; the largest delay; a fence of a still's bank. -/
theorem test_RouteAndPairRequestsJoinCycle_met :
    let c7 : Session := { cli false with subs := (List.range 7).map (fun i => ⟨i + 1, 0, 0, [], 0⟩) }
    meets { srv false [grant 0 0 0 1] with sicp.sessions := [c7] } 9 ⟨0x08, true, [one 0x1D]⟩ (rq (tl 0x1D [0, 0, 4, 0, 0, 0, 0, 255])) (chipNeed 0)
      (fun u x => fld x.ts 0x1D 0 2 = 0 ∧ ((u.sess x.sess.id).map (·.subs.length)).getD 0 + (u.sicp.cyc.filter (fun r => r.sess = x.sess.id &&
        (match r.cmd with | .subscribe _ _ => true | _ => false))).length = 7) = true ∧
    meets { srv false [] with sicp.sessions := [c7] } 9 ⟨0x09, true, [one 0x1D]⟩ (rq (tl 0x1D [0, 7, 0, 0, 0, 0, 0, 0])) noNeeds
      (fun u x => (u.sess x.sess.id).any (fun c => c.subs.any (fun v => v.num = fld x.ts 0x1D 0 2))) = true ∧
    (∀ n ∈ [0, 5, 255], meets (srv false [grant 7 0 0 1]) 9 ⟨0x40, true, [one 0x25]⟩ (rq (tl 0x25 [n, 0, 0, 0])) (chipNeed 7)
      (fun _ x => fld x.ts 0x25 0 1 < 6 ∨ fld x.ts 0x25 0 1 = 0xFF) = true) ∧
    meets (srv false [grant 7 0 0 1]) 9 ⟨0x41, true, []⟩ (rq []) (chipNeed 7) (fun _ _ => true) = true ∧
    meets (srv false [grant 7 0 0 1]) 9 ⟨0x42, true, [one 0x26]⟩ (rq (tl 0x26 (beBytes 2 1970 ++ [1, 1, 0, 0, 0, 0, 0, 0, 0, 0]))) (chipNeed 7)
      (fun _ x => dateTlv x.ts = (1970, 1, 1, 0, 0, 0, 0) ∧ dateBad 1970 1 1 0 0 0 0 = false) = true ∧
    meets (srv false [grant 9 0 0 1]) 9 ⟨0x53, true, []⟩ (rq []) (chipNeed 9) (fun _ _ => true) = true ∧
    meets (srv false [grant 9 0 0 1]) 9 ⟨0x54, true, [one 0x24]⟩ (rq (tl 0x24 [0, 1, 0, 0])) (chipNeed 9)
      (fun u x => pairNoOf (fld x.ts 0x24 0 2) = u.pairNo) = true ∧
    meets (srv false [grant 9 0 0 1]) 9 ⟨0x55, true, [one 0x24]⟩ (rq (tl 0x24 [0, 0, 0, 0])) (chipNeed 9)
      (fun u x => pairNoOf (fld x.ts 0x24 0 2) = u.pairNo) = true ∧
    meets (srv false [grant 8 0 0 1]) 9 ⟨0x56, true, []⟩ (rq []) (chipNeed 8) (fun _ _ => true) = true ∧
    (let need := firstLack (fun ts => routeNeeds (fld ts 4 0 4) (fld ts 5 0 4) (fld ts 6 0 1))
     let m : Msg := ⟨0x10, true, [one 4, one 5, one 6, opt 7]⟩
     let ok (u : State) (x : Ctx) : Bool :=
       let e : SEntry := ⟨fld x.ts 4 0 4, fld x.ts 5 0 4, fld x.ts 6 0 1, fld x.ts 6 1 1, 0⟩
       u.ours e.dest && (u.dstRec (indexOfId e.dest)).isSome &&
         (srcOpt e.src).all (fun g => u.ours g && (u.srcRec (indexOfId g)).isSome && !(e.video && u.formatBad (u.srcKey g) (indexOfId e.dest)))
     meets (srv false [dstR 0, srcR 1023 0 0, grant 1 1 0 1, grant 1 2 1023 1]) 9 m (rq (tl 4 [0, 0, 0, 0] ++ tl 5 [0, 0, 3, 255] ++ tl 6 [7, 0, 0, 0])) need ok = true ∧
     meets (srv false [dstR 0, grant 1 1 0 1]) 9 m (rq (tl 4 [0, 0, 0, 0] ++ tl 5 [255, 255, 255, 255] ++ tl 6 [1, 0, 0, 0])) need ok = true ∧
     meets (srv false [grant 1 1 2048 1]) 9 m (rq (tl 4 [0, 0, 8, 0] ++ tl 5 [255, 255, 255, 255] ++ tl 6 [1, 0, 0, 0] ++ tl 7 [9, 0, 0, 0])) need
      (fun u x => u.ours (fld x.ts 4 0 4) = false ∧ (srcOpt (fld x.ts 5 0 4)).all (fun g => !u.ours g || (u.srcRec (indexOfId g)).isSome) = true) = true) ∧
    meets (srv false [dstR 0, grant 1 1 0 1]) 9 ⟨0x16, true, [one 4, one 0x0D]⟩ (rq (tl 4 [0, 0, 0, 0] ++ tl 0x0D [127, 0, 4, 100]))
      (firstLack (fun ts => [⟨1, 1, fld ts 4 0 4, 1⟩])) (fun u x => u.ours (fld x.ts 4 0 4) = true ∧
        (u.dstRec (indexOfId (fld x.ts 4 0 4))).any (fun v => fld x.ts 0x0D 2 2 = 1124 && fld x.ts 0x0D 2 2 < structLines (recFormat v)) = true ∧
        fld x.ts 0x0D 0 1 ≤ 127) = true ∧
    meets (srv false [stillR 255, grant 6 6 255 1]) 9 ⟨0x34, true, [one 0x17]⟩ (rq (tl 0x17 [1, 255, 0, 0])) targetLacks
      (fun u x => (u.bankSize (targetKey x.ts)).isSome = true ∧ (u.banks (targetKey x.ts)).fence = false) = true := by decide +kernel

/-- ConfigurationRequestsJoinCycle: a flow with both legs; an output and an input of a TDM port; a bus with and without a member; the last delay line; the
last window and the last layer of the last head. -/
theorem test_ConfigurationRequestsJoinCycle_met :
    let flowR : Rec := ⟨0x0141, [0xFF, 0x1F, 0, 1, 0, 0, 0, 0, 0, 0]⟩
    let tdmR : Rec := ⟨0x0184, [0, 1, 0, 32, 32]⟩
    let leg (l : Nat) : List Byte := tl 0x0F (beBytes 1 l ++ List.replicate 39 0)
    meets (srv false [flowR, grant 3 7 8191 1]) 9 ⟨0x17, true, [one 0x0E, ⟨[0x0F], 1, 2⟩]⟩ (rq (tl 0x0E [31, 255, 0, 0] ++ leg 1 ++ leg 2)) State.flowNeeds
      (fun u x => (u.flowIn (fld x.ts 0x0E 0 2)).any (fun v => ((x.ts.filter (fun y => y.typ = 0x0F)).map (fun y => beAt y.val 0 1)).Nodup &&
        ((x.ts.filter (fun y => y.typ = 0x0F)).map (fun y => beAt y.val 0 1)).all (fun l => l ≤ 1 + byteAt v 3 % 2))) = true ∧
    meets (srv false [flowR, grant 3 7 8191 1]) 9 ⟨0x18, true, [one 0x0E]⟩ (rq (tl 0x0E [31, 255, 0, 0])) State.flowNeeds
      (fun u x => (u.flowIn (fld x.ts 0x0E 0 2)).isSome) = true ∧
    meets (srv false [tdmR, grant 4 9 0 1]) 9 ⟨0x20, true, [⟨[0x10], 1, 86⟩]⟩ (rq (tl 0x10 [0x20, 0, 0, 31, 0x20, 0, 0, 31, 0x80, 0, 0, 0]))
      (firstLack (fun ts => (routesOf ts).flatMap (fun r => audioNeed true r.1 ++ audioNeed false r.2.1)))
      (fun u x => (routesOf x.ts).all (fun r => !adBad .out r.1 && !adBad .inp r.2.1 && gainOk r.2.2 && (placeOf u.outAddrs r.1).isSome && !u.noInput r.2.1)) =
      true ∧
    (let need := firstLack (fun ts => ⟨4, 3, fld ts 0x11 0 2, 0⟩ :: (membersOf ts).flatMap (fun m => audioNeed false m.1))
     let ok (u : State) (x : Ctx) : Bool := gainOk (fld x.ts 0x11 4 2) && ((membersOf x.ts).map (fun m => adForm m.1)).Nodup &&
       (membersOf x.ts).all (fun m => !adBad .member m.1 && gainOk m.2 && !u.noInput m.1 && (!u.busLow (fld x.ts 0x11 0 2) || u.lowInput m.1))
     meets (srv false [grant 4 3 1023 1]) 9 ⟨0x21, true, [one 0x11, ⟨[0x12], 0, 64⟩]⟩ (rq (tl 0x11 [3, 255, 0, 0, 0, 240, 0, 0])) need ok = true ∧
     meets (srv false [tdmR, ⟨0x0182, [0, 0, 1]⟩, grant 4 3 0 1, grant 4 9 0 1]) 9 ⟨0x21, true, [one 0x11, ⟨[0x12], 0, 64⟩]⟩
       (rq (tl 0x11 [0, 0, 0, 0, 0xFC, 0x40, 0, 0] ++ tl 0x12 [0x20, 0, 0, 0, 0, 0, 0, 0])) need ok = true) ∧
    meets (srv false [⟨0x0183, [255, 3, 1]⟩, grant 4 10 1023 1]) 9 ⟨0x22, true, [one 0x13]⟩ (rq (tl 0x13 ([3, 255, 0, 0] ++ beBytes 4 480000)))
      (firstLack (fun ts => [⟨4, 10, fld ts 0x13 0 2, 0⟩])) (fun u x => fld x.ts 0x13 0 2 < 1024 ∧ u.alineRec (fld x.ts 0x13 0 2) ≠ []) = true ∧
    (let recs := [srcR 3 4 15, srcR 4 0 0, grant 5 4 15 1, grant 2 2 4 1]
     meets (srv false recs) 9 ⟨0x30, true, [one 0x14]⟩
       (rq (tl 0x14 ([15, 63, 63, 0, 0, 0, 0, 4, 0, 0, 0, 0] ++ beBytes 2 1920 ++ beBytes 2 1080 ++ [0, 0, 0, 0, 0, 0, 0, 0])))
       (firstLack (fun ts => [⟨5, 4, (winOfTlv ts).h, 0⟩, ⟨2, 2, (winOfTlv ts).src % 2 ^ 20, 0⟩]))
       (fun u x => let r := winOfTlv x.ts
         r.h < 16 && r.k < 64 && r.z < 64 && r.src < 2 ^ 20 && fld x.ts 0x14 3 1 == 0 && (u.headSrc r.h).isSome && u.ours r.src &&
           (u.srcRec (indexOfId r.src)).isSome && !u.winFormatBad r && !u.winBad r) = true ∧
     meets (srv false recs) 9 ⟨0x31, true, [one 0x15]⟩ (rq (tl 0x15 [15, 63, 0, 0])) (firstLack (fun ts => [⟨5, 4, fld ts 0x15 0 1, 0⟩]))
       (fun u x => (u.headSrc (fld x.ts 0x15 0 1)).isSome) = true ∧
     meets (srv false recs) 9 ⟨0x32, true, [one 0x16]⟩ (rq (tl 0x16 [15, 0x1B, 0, 0])) (firstLack (fun ts => [⟨5, 4, fld ts 0x16 0 1, 0⟩]))
       (fun u x => orderOk (fld x.ts 0x16 1 1) = true ∧ (u.headSrc (fld x.ts 0x16 0 1)).isSome = true ∧
         bit (byteAt (u.headRec (fld x.ts 0x16 0 1)) 1) 0 = false) = true) := by decide +kernel

/-- The smallest image: a header, a firmware of one byte and a configuration without records (18 Tables 18.3 to 18.5). -/
def img (fw : Nat) : List Byte :=
  leBytes 4 imageMagic ++ leBytes 2 2 ++ List.replicate 6 0 ++ leBytes 4 64 ++ leBytes 4 73 ++ leBytes 4 137 ++ leBytes 4 97 ++ leBytes 4 234 ++
    List.replicate 32 0 ++ leBytes 4 fw ++ leBytes 4 1 ++ List.replicate 65 0 ++ leBytes 2 1 ++ List.replicate 95 0

/-- The facts of an image whose signatures hold. -/
def goodImg : ImgFacts := ⟨true, true, true, true, [], true⟩

/-- StagingFollowsItsRules: the smallest and the largest image; the header of an image written at offset 0, and a write at another offset; a whole
image closed; staging at and just before the end of its 60 s. -/
theorem test_StagingFollowsItsRules_met :
    let s := srv true [grant 10 0 0 1]
    let g (v : List Byte) : Staging := ⟨1, 234, v, 0⟩
    let put (v : List Byte) : State := { s with boot.staging := some (g v) }
    (∀ n ∈ [234, 16777216], meets s 9 ⟨0x60, false, [one 0x29]⟩ (rq (tl 0x29 (beBytes 4 n ++ [0, 0, 0, 0]))) (chipNeed 10)
      (fun u x => 234 ≤ fld x.ts 0x29 0 4 ∧ fld x.ts 0x29 0 4 ≤ u.imageLimit ∧ u.boot.staging.all (fun g => g.sess = x.sess.id) = true) = true) ∧
    meets (put []) 9 ⟨0x61, false, [one 0x18, one 0x19]⟩ (rq (tl 0x18 [0, 0, 0, 0] ++ tl 0x19 ((img 0).take 64))) (chipNeed 10)
      (fun u x => u.boot.staging = some (g []) ∧ (g []).sess = x.sess.id ∧ fld x.ts 0x18 0 4 = 0 ∧ (tlv x.ts 0x19).length ≤ 234 ∧
        ({ u with boot.xspi := memWrite u.boot.xspi (u.stageBase + max 0 64) ((tlv x.ts 0x19).drop 64) } : State).stagedBad (tlv x.ts 0x19) [] = none) = true ∧
    meets (put [0]) 9 ⟨0x61, false, [one 0x18, one 0x19]⟩ (rq (tl 0x18 [0, 0, 0, 0] ++ tl 0x19 [1])) (chipNeed 10)
      (fun u x => u.boot.staging = some (g [0]) ∧ fld x.ts 0x18 0 4 ≠ (g [0]).bytes.length) = true ∧
    meets (put (img 0)) 9 ⟨0x62, false, []⟩ (rq []) (chipNeed 10)
      (fun u x => u.boot.staging = some (g (img 0)) ∧ (img 0).length = 234 ∧ (g []).sess = x.sess.id ∧ u.closeBad (img 0) goodImg = none) = true ∧
    ((put []).inService = true ∧ ((put []).at_ (60 * sec)).up = 60 * sec ∧ ((put []).at_ (60 * sec - 1)).up < (g []).lastWrite + 60 * sec ∧
      Memory.wf (put []).boot.xspi = true) := by decide +kernel

/-- KeyRequests: the first slot generated, imported into (under an unsigned and a signed wrap), destroyed and attested. -/
theorem test_KeyRequests_met :
    let wrap : KSlot := { state := 1, use := 2, kind := 1 }
    let on (life : Nat) (recs : List Rec) : State := { srv true recs with keys := { life := life, kek := some 1, rngOk := true, slots := [(2, wrap)] } }
    let works (u : State) : Bool := !u.keys.resetting && (u.keys.life == 2 || u.keys.life == 3) && u.keys.kek.isSome
    let blob (flags sig : Nat) : List Byte := [2] ++ beBytes 1 flags ++ List.replicate 127 0 ++ beBytes 2 sig ++ List.replicate (64 + sig) 0
    let imported (u : State) (x : Ctx) : Bool :=
      let d := tlv x.ts 0x19
      works u && u.mayFill (fld x.ts 0x2A 0 1) && importShape d && ((u.kslot (beAt d 0 1)).kind != 0 || beAt d 4 65 == 0) && beAt d 0 1 != fld x.ts 0x2A 0 1 &&
        (u.kslot (beAt d 0 1)).state == 1 && (u.kslot (beAt d 0 1)).use == 2 && (u.kslot (beAt d 0 1)).until_ ≤ u.up &&
        (bit (beAt d 1 1) 0 || !bit (byteAt (u.rec1 0x01F0) 3) 0)
    (∀ life ∈ [2, 3], meets (on life [grant 11 11 1 1]) 9 ⟨0x70, false, [one 0x2A]⟩ (rq (tl 0x2A [1, 2, 0, 0])) (slotNeed 11)
      (fun u x => works u && fld x.ts 0x2A 1 1 == 2 && u.mayFill (fld x.ts 0x2A 0 1) && u.keys.rngOk) = true) ∧
    meets (on 2 [grant 11 11 254 1]) 9 ⟨0x71, false, [one 0x2A, one 0x19]⟩ (rq (tl 0x2A [254, 1, 0, 0] ++ tl 0x19 (blob 0 0))) (slotNeed 11) imported = true ∧
    meets (on 3 [grant 11 11 1 1]) 9 ⟨0x71, false, [one 0x2A, one 0x19]⟩ (rq (tl 0x2A [1, 1, 0, 0] ++ tl 0x19 (blob 1 1))) (slotNeed 11) imported = true ∧
    meets (on 2 [grant 11 11 2 1]) 9 ⟨0x72, false, [one 0x2A]⟩ (rq (tl 0x2A [2, 0, 0, 0])) (slotNeed 11) (fun u _ => works u) = true ∧
    meets (on 2 [grant 0 11 2 1]) 9 ⟨0x73, false, [one 0x2A]⟩ (rq (tl 0x2A [2, 0, 0, 0])) (slotNeed 0)
      (fun u x => !u.keys.resetting && (u.kslot (fld x.ts 0x2A 0 1)).state == 1) = true := by decide +kernel

/-- LifeCycleSet: the eight changes of Table 17.6; the last change left, to RETIRED; a change outside the table; a chip with none left; one
whose random generator failed. -/
theorem test_LifeCycleSet_met :
    let at_ (life left : Nat) : State := { srv true [grant 11 0 0 1] with keys.life := life, keys.left := left, keys.rngOk := true }
    let q (n : Nat) : Req := rq (tl 0x2B (beBytes 1 n ++ [0, 0, 0]))
    (∀ p ∈ [(1, 2), (2, 3), (3, 2), (2, 1), (3, 1), (1, 4), (2, 4), (3, 4)], meets (at_ p.1 2) 9 ⟨0x74, false, [one 0x2B]⟩ (q p.2) (chipNeed 11)
      (fun u x => u.keys.resetting = false ∧ lifeChange u.keys.life (fld x.ts 0x2B 0 1) = true ∧ 2 ≤ u.keys.left ∧ u.keys.rngOk = true) = true) ∧
    meets { at_ 1 9 with keys.rngOk := false } 9 ⟨0x74, false, [one 0x2B]⟩ (q 2) (chipNeed 11)
      (fun u x => u.keys.life = 1 ∧ fld x.ts 0x2B 0 1 = 2 ∧ u.keys.rngOk = false) = true ∧
    meets (at_ 3 1) 9 ⟨0x74, false, [one 0x2B]⟩ (q 4) (chipNeed 11)
      (fun u x => lifeChange u.keys.life (fld x.ts 0x2B 0 1) = true ∧ u.keys.left = 1 ∧ fld x.ts 0x2B 0 1 = 4) = true ∧
    meets (at_ 1 63) 9 ⟨0x74, false, [one 0x2B]⟩ (q 3) (chipNeed 11) (fun u x => lifeChange u.keys.life (fld x.ts 0x2B 0 1) = false) = true ∧
    meets (at_ 1 0) 9 ⟨0x74, false, [one 0x2B]⟩ (q 2) (chipNeed 11) (fun u _ => u.keys.left = 0) = true ∧
    meets (at_ 1 1) 9 ⟨0x74, false, [one 0x2B]⟩ (q 2) (chipNeed 11) (fun u x => u.keys.left = 1 ∧ fld x.ts 0x2B 0 1 ≠ 4) = true := by decide +kernel

/-! ### Witnesses of a start, of sessions and of the cycle -/

/-- The facts of a start whose identity, generator and images are in order, on a device of a density in Mbit. -/
def facts (density : Nat) : StartFacts := ⟨false, density, [], none, none, goodImg, goodImg, false, true, true⟩

/-- StartVerifies: an active image alone on the smallest device; a staged image beside it; each stop; a copy that is complete. -/
theorem test_StartVerifies_met :
    let one_ : State := { State.reset with boot.xspi := memWrite [] 0 (img 0) }
    let two : State := { State.reset with boot.xspi := memWrite (memWrite [] 0 (img 0)) 0x1400000 (img 0x10000 |>.set 6 1) }
    let u (s : State) (w : StartFacts) : State := ((s.at_ 9).sampled w).opened w
    let w := facts 512
    (one_.boot.pins = false ∧ ({ one_ with boot.pins := true } : State).boot.pins = true ∧ (u one_ w).keys.life ≠ 4 ∧ w.idOk = true ∧ w.rngOk = true ∧
      headerValid (memRead (u one_ w).boot.xspi (u one_ w).stageBase 64) = false ∧ (u one_ w).imageCheck ((u one_ w).imageAt 0) w.active = .inr [] ∧
      ({ u one_ w with boot.recs := [] } : State).imageSound = true) ∧
    (headerValid (memRead (u two w).boot.xspi (u two w).stageBase 64) = true ∧ headerValid (memRead (u two w).boot.xspi 0 64) = true ∧
      memRead (u two w).boot.xspi (u two w).stageBase 64 ≠ memRead (u two w).boot.xspi 0 64 ∧
      (u two w).imageCheck ((u two w).imageAt (u two w).stageBase) w.staged = .inr []) ∧
    ((facts 511).density < 512 ∧ (u { one_ with keys.life := 4 } w).keys.life = 4 ∧ ({ w with idOk := false } : StartFacts).idOk = false ∧
      ({ w with rngOk := false } : StartFacts).rngOk = false ∧
      headerValid (memRead (u State.reset w).boot.xspi (u State.reset w).stageBase 64) = false ∧
      (u State.reset w).imageCheck ((u State.reset w).imageAt 0) w.active = .inl (1, 0)) ∧
    (let s : State := two.set R.BOOT_STAT_STATUS 4
     let c := (s.at_ 9).copied ((s.at_ 9).copyWrites.length - 64)
     let v : State := { c with boot.fw := imageFw (c.imageAt 0), boot.secver := hdrSecver (c.imageAt 0) }
     let x : State := { v.zeroStage with boot.copyDone := some (imageFw ((s.at_ 9).imageAt 0), imageFw (c.imageAt 0),
       hdrSecver ((s.at_ 9).imageAt 0), hdrSecver (c.imageAt 0)) }
     s.flt.stopped = false ∧ s.get R.BOOT_STAT_STATUS = 4 ∧ v.imageCheck (c.imageAt 0) goodImg = .inr [] ∧ x.imageCheck (x.imageAt 0) goodImg = .inr [] ∧
       ({ x with boot.recs := [] } : State).imageSound = true) := by decide +kernel

/-- ResetFallClearsAllButAon: a chip whose pins are low; a serving chip, and one whose copy is under way, with the start report torn and not; a serving
chip whose record is torn, and one below 0x8. -/
theorem test_ResetFall_met :
    State.reset.boot.pins = false ∧
    (∀ n ∈ [8, 4, 7], let s : State := { atS n with boot.pins := true, boot.startReport := some ⟨8, 0, 0, 1, 2, 3, 4, true⟩ }
     s.boot.pins = true ∧ s.formed = true ∧ (s.get R.BOOT_STAT_STATUS ≠ 4 ↔ n ≠ 4) ∧ (s.serving = true ↔ n = 8) ∧
       s.boot.startReport.map (fun r => { r with whole := false }) ≠ s.boot.startReport) := by decide +kernel

/-- StartReachesService: STATUS 0x5; a Whorl that is ready and one that waits: with the twin's time from each of its roles, with a twin that does not
serve beside a qualified PTP instance, with no twin beside a qualified phase reference, and with nothing. -/
theorem test_StartReachesService_met :
    ((atS 5).awake = true ∧ (atS 5).formed = true ∧ (atS 5).get R.BOOT_STAT_STATUS = 5 ∧ (atS 5).whl.ready = false ∧
      ({ atS 6 with whl.ready := true } : State).whl.ready = true ∧ (atS 6).awake = true) ∧
    (∀ r ∈ [2, 6], let s : State := { atS 6 with whl.twinOffset := some (-5), dbl.linkUp := true, dbl.twinRole := r }
     s.awake = true ∧ s.whl.ready = false ∧ s.whl.twinOffset = some (-5) ∧ s.twinServes = true) ∧
    (∀ k ∈ [0, 1], let s : State := { (atS 6).set (R.REF_QUALIFIED k) 1 with whl.twinOffset := some 5, dbl.linkUp := true, dbl.twinRole := 7 }
     s.awake = true ∧ s.whl.ready = false ∧ s.twinServes = false ∧
       (s.prioList ++ [0, 1]).find? (fun r => decide (r < 2) && s.qualified r) = some k) ∧
    (let s : State := { (atS 6).set (R.REF_QUALIFIED 5) 1 with boot.recs := [⟨0x01A2, [3, 1, 0, 0]⟩] }
     s.whl.ready = false ∧ s.whl.twinOffset = none ∧ (s.prioList ++ [0, 1]).find? (fun r => decide (r < 2) && s.qualified r) = none ∧
       s.prioList.find? (fun r => decide (2 ≤ r) && hasPhase r && s.qualified r) = some 5) ∧
    ((atS 6).whl.twinOffset = none ∧ ((atS 6).prioList ++ [0, 1]).find? (fun r => decide (r < 2) && (atS 6).qualified r) = none ∧
      (atS 6).prioList.find? (fun r => decide (2 ≤ r) && hasPhase r && (atS 6).qualified r) = none) := by decide +kernel

/-- ChipTakesItsRole: each reading of TIE_IN and each side; the end of START_WAIT; a chip that may rejoin from each role. -/
theorem test_ChipTakesItsRole_met :
    (∀ x ∈ [(Tie.hold, false), (.hold, true), (.none, false), (.none, true), (.invalid, false)],
      let s : State := { atS 7 with whl.ready := true, dbl.tieIn := x.1, dbl.side := x.2 }
      s.flt.stopped = false ∧ s.get R.BOOT_STAT_STATUS = 7 ∧ s.whl.ready = true ∧ s.dbl.role = .off) ∧
    (let s : State := { atS 8 with dbl.startWait := some 0, dbl.tieIn := .none }
     s.inService = true ∧ s.dbl.role = .off ∧ s.dbl.tieIn ≠ .hold ∧ 0 + s.startWait ≤ (s.at_ (200 * ms)).up) ∧
    (∀ r ∈ [Role.detached, .yielded], let s : State := { atS 8 with dbl.role := r, dbl.linkUp := true }
     s.inService = true ∧ (s.at_ 9).mayRejoin = true) := by decide +kernel

/-- A client's hello that offers the values of Table 15.1. -/
def hi (offers : Bool) (cookie : Option Nat) : Hello := ⟨(1, 2), 256, 0xFFFF0A000001, 47610, cookie, offers, none, [], true, true, true, false, []⟩

/-- The MGMT record of MA on side A: own address 10.0.0.1, pair address 10.0.0.2. -/
def mgmt : Rec := ⟨0x0154, [0, 0, 0, 0, 1, 0, 0, 0, 10, 0, 0, 1, 10, 0, 0, 2] ++ List.replicate 32 0⟩

/-- A hello to the pair address reaches a chip on MA at the port of SiCP only (15 R559). -/
theorem test_hello_addresses :
    let s : State := { atS 8 with boot.recs := [mgmt] }
    let h : Hello := { hi true none with addr := 0xFFFF0A000002 }
    s.toPair h = true ∧ s.listens h = true ∧ s.listens { h with dport := 47611 } = false ∧ s.listens { h with addr := 0xFFFF0A000003 } = false := by
  decide +kernel

/-- 15 Table 15.9: the reply to the take of the example, byte for byte. -/
theorem test_reply_bytes :
    let r : Reply := { sess := 1, typ := 0x10, req := 0x2A41, code := 0, tlvs := [effective (1700000000 * sec + 160000000)] }
    r.bytes 0x3E8 = [0x01, 0x10, 0x00, 0x09, 0x00, 0x00, 0x03, 0xE8, 0x00, 0x00, 0x2A, 0x41, 0x00, 0x00, 0x00, 0x20] ++
      [0x00, 0x01, 0x00, 0x0C, 0x00, 0x00, 0x00, 0x00, 0xFF, 0xFF, 0x00, 0x00, 0x00, 0x00, 0x00, 0x00] ++
      [0x00, 0x03, 0x00, 0x0C, 0x00, 0x00, 0x65, 0x53, 0xF1, 0x00, 0x09, 0x89, 0x68, 0x00, 0x00, 0x00] := by
  decide +kernel

/-- SessionsBeginAndEnd: a hello that offers nothing, one without a cookie, one with; a session at the end of its idle time and just before it; an
expired certificate; a record that authenticated and one that did not; a hand-off; a subscription with events. -/
theorem test_SessionsBeginAndEnd_met :
    (let s : State := { atS 8 with keys.rngOk := true, sicp.cookies := [((1, 2), 7, 0)], boot.recs := [mgmt] }
     s.inService = true ∧ (s.at_ (2 * sec)).listens (hi false none) = true ∧ (s.at_ (2 * sec)).toPair (hi false none) = false ∧ (hi false none).offers = false ∧ (hi true none).offers = true ∧ s.keys.rngOk = true ∧
     (let f := (s.at_ (2 * sec)).sicp.cookies.filter (fun k => (s.at_ (2 * sec)).up ≤ k.2.2 + 2 * sec)
      f.any (fun k => k.1 = (hi true none).peer && (hi true none).cookie = some k.2.1) = false ∧
      f.any (fun k => k.1 = (hi true (some 7)).peer && (hi true (some 7)).cookie = some k.2.1) = true) ∧
     (let f := (s.at_ (2 * sec + 1)).sicp.cookies.filter (fun k => (s.at_ (2 * sec + 1)).up ≤ k.2.2 + 2 * sec)
      f.any (fun k => k.1 = (hi true (some 7)).peer && (hi true (some 7)).cookie = some k.2.1) = false)) ∧
    (let s := srv true []
     s.inService = true ∧ s.sess 1 = some (cli true) ∧ (cli true).lastRx + s.idle * sec ≤ (s.at_ (60 * sec)).up ∧
     s.idle * sec + (cli true).lastRx > (s.at_ (60 * sec - 1)).up ∧
     (∃ x ∈ (cli true).certs, x.notAfter < (s.at_ (38 * sec)).utcSeconds) ∧ s.formed = true ∧
     (cli true).port < 258 ∧ s.canSend (cli true).port = false ∧ (s.set (R.PORT_STATE 256) 3).canSend (cli true).port = true ∧
     (s.set (R.PORT_STATE 256) 3).inService = true ∧ (s.set (R.PORT_STATE 256) 3).sess 1 = some (cli true)) ∧
    (let s : State := { srv false [] with dbl.role := .standby, dbl.linkUp := true }
     s.inService = true ∧ s.formed = true ∧ s.dbl.role.holds = false ∧ s.dbl.linkUp = true ∧ s.dbl.role ≠ .detached ∧ s.dbl.role ≠ .yielded) ∧
    (let ev : Event := ⟨0, 0, 0, 0, 0, 0, []⟩
     let v : Sub := ⟨3, 0, 0, List.replicate 15 ev, 0⟩
     let c : Session := { cli true with subs := [v] }
     let s : State := { srv true [] with sicp.sessions := [c] }
     s.sess 1 = some c ∧ c.subs.find? (fun y => y.num = 3) = some v ∧ v.queue ≠ []) := by decide +kernel

/-- CycleAndBoundaryAct: at 50 Hz with a lead of 2 ms the first close is at 18 ms: the holder, one that yields, one without control; and a close taken. -/
theorem test_CycleAndBoundaryAct_met :
    let s : State := { atS 8 with dbl.role := .active }
    let t := 18 * ms
    (s.inService = true ∧ (s.at_ t).closeOf ((s.at_ t).cycleEnd (t - 1)) = t ∧ s.dbl.lastClose ≠ t ∧ s.dbl.settleEnd = none ∧ s.dbl.role.holds = true ∧
      s.dbl.yieldPend = false ∧ ({ s with dbl.lastClose := t } : State).dbl.lastClose = t) ∧
    (let y : State := { s with dbl.yieldPend := true, dbl.linkUp := true, dbl.twinRole := 2 }
     (y.at_ t).closeOf ((y.at_ t).cycleEnd (t - 1)) = t ∧ y.dbl.lastClose ≠ t ∧ y.dbl.settleEnd = none ∧ y.dbl.role.holds = true ∧ y.dbl.yieldPend = true ∧
       ({ y.at_ t with dbl.lastClose := t } : State).tierMask.twinReady = true) ∧
    (let y : State := { s with dbl.yieldPend := true, dbl.linkUp := true, dbl.twinRole := 2, dbl.twinF3 := true }
     y.dbl.role.holds = true ∧ y.dbl.yieldPend = true ∧ ({ y.at_ t with dbl.lastClose := t } : State).tierMask.twinReady = false) ∧
    (let y : State := { s with dbl.role := .standby }
     (y.at_ t).closeOf ((y.at_ t).cycleEnd (t - 1)) = t ∧ y.dbl.role.holds = false ∧ y.dbl.settleEnd = none ∧ y.dbl.lastClose ≠ t) := by decide +kernel

/-- SwitchingAndTargets: the first and the last destination at a new frame and at one already passed; a target that no booking asks for, and one that a
connection of a bound source asks for; a target needed at once, and one that a later take alone will need. -/
theorem test_SwitchingAndTargets_met :
    (let s := srv true [dstR 0, dstR 1023]
     ∀ d ∈ [(0 : Fin 1024), 1023], s.inService = true ∧ (s.dstRec d).isSome = true ∧ frameAt (fmtRate 0x2007) (20 * ms) ≠ (s.dst d).frame ∧
       frameAt (fmtRate 0x2007) (20 * ms - 1) = (s.dst d).frame ∧ s.has (rstNow (s.dstCluster d)) = false) ∧
    (let s : State := { srv true [dstR 0, srcR 1 0 16] with xp.dst := [(0, { video := { src := some 1 } })] }
     let key := ConnKey.media 1 1 .video
     s.inService = true ∧ (s.at_ 9).targetBooked key 0 = true ∧ (s.at_ 9).targetBooked key 15 = false ∧ (s.at_ 9).targetBooked key 16 = true ∧
       (s.at_ 9).targetBooked key 24 = true ∧ (s.at_ 9).targetBooked (.media 1 2 .video) 24 = false ∧
       targetOf (s.at_ 9).soonBks key 0 = true ∧ targetOf (s.at_ 9).soonBks key 15 = false) ∧
    (let p : PTake := { src := some 1, mode := .direct, bobbin := false, prio := 0, princ := 0, due := 40 * ms, order := 1 }
     let s : State := { srv true [dstR 0, srcR 1 0 16] with xp.dst := [(0, { video := { pend := [p] } })] }
     (s.at_ (40 * ms - 20001)).targetBooked (.media 1 1 .video) 0 = true ∧ targetOf (s.at_ (40 * ms - 20001)).soonBks (.media 1 1 .video) 0 = false ∧
       targetOf (s.at_ (40 * ms - 20000)).soonBks (.media 1 1 .video) 0 = true) := by decide +kernel

/-! ### Witnesses of the crosspoint, the receivers and the ports -/

/-- Eight tiles, with tile `n` in a state and the others in service. -/
def tiles (n : Nat) (x : TileSt) : List TileSt := (List.replicate 8 TileSt.inService).set n x

/-- CellLossAndCrc: a cell that the rotation sent through a tile on a connection that exists, a best-effort cell, and two that it did not send; a tile at
its limit and just past it, with the others in service, with one out, with its drain under way, and with another tile's drain accepted; a frame
without a lost cell and one with. -/
theorem test_CellLossAndCrc_met :
    let s (k : Nat) (ts : List TileSt) : State := { atS 5 with xp.tiles := ts, xp.crcSecond := [(7, 0, k)], xp.conns := [(5, { key := .winRead 0 })] }
    let u (k : Nat) (ts : List TileSt) : State := (s k ts).at_ 9
    let key := ConnKey.bestEffort 3 4
    ((s 0 (tiles 7 .inService)).xp.conns.any (fun c => c.1 = 5) = true ∧ (s 0 (tiles 7 .inService)).xp.conns.any (fun c => c.1 = 6) = false ∧
      (List.range 8).countP (fun n => (u 0 (tiles 7 .inService)).passed 5 2 n) = 1 ∧ (u 0 (tiles 7 .inService)).passed 5 2 7 = true) ∧
    ((atS 5).awake = true ∧ (atS 5).formed = true ∧ (s 17 (tiles 7 .inService)).awake = true) ∧
    ((u 17 (tiles 7 .inService)).crcLimit < (u 17 (tiles 7 .inService)).crcCount 7 ∧ (u 17 (tiles 7 .inService)).tile 7 = .inService ∧
      (u 17 (tiles 7 .inService)).othersServe 7 = true ∧ (s 17 (tiles 7 .inService)).flt.conds.any (fun c => c.isl = 16 + 7) = false ∧
      (s 17 (tiles 7 .inService)).xp.drainAt = none) ∧
    (let y : State := { s 17 (tiles 7 .inService) with flt.conds := [⟨23, tagCrcDrain, 2, 0, 2, []⟩], xp.drainAt := some (7, 60000) }
     y.flt.conds.any (fun c => c.isl = 16 + 7) = true ∧ y.xp.drainAt.map (·.1) = some 7 ∧
       ({ y with xp.drainAt := some (0, 60000) } : State).xp.drainAt.map (·.1) ≠ some 7) ∧
    ((u 17 (tiles 0 .out)).crcLimit < (u 17 (tiles 0 .out)).crcCount 7 ∧ (u 17 (tiles 0 .out)).tile 7 = .inService ∧
      (u 17 (tiles 0 .out)).othersServe 7 = false) ∧
    (u 16 (tiles 7 .inService)).crcCount 7 ≤ (u 16 (tiles 7 .inService)).crcLimit ∧
    (let m : LostMark := { isl := 4, key := key, frame := 8, at_ := 0 }
     m.on 4 key 8 = true ∧ m.on 4 key 9 = false ∧ m.on 16 key 8 = false) := by decide +kernel

/-- TileStateTable: the first and the last tile in each state from which a transition leaves. -/
theorem test_TileStateTable_met :
    ∀ n ∈ [(0 : Fin 8), 7],
    (let s : State := { atS 5 with xp.tiles := tiles n .inService, xp.drainAt := some (n.val, 9) }
     s.awake = true ∧ s.xp.tiles.length = 8 ∧ s.xp.drainAt = some (n.val, 9) ∧ s.tile n = .inService ∧ s.othersServe n = true ∧ s.tile n ≠ .lost) ∧
    (let s : State := { atS 5 with xp.tiles := tiles (7 - n.val) .out, xp.drainAt := some (n.val, 9) }
     s.tile n = .inService ∧ s.othersServe n = false ∧ s.xp.tiles.length = 8) ∧
    ({ atS 5 with xp.tiles := tiles n .draining } : State).tile n = .draining ∧
    (let s : State := ({ atS 5 with xp.tiles := tiles n .lost } : State).set (rstNow (16 + n)) 1
     s.awake = true ∧ s.tile n = .lost ∧ s.has (rstNow (16 + n)) = true) ∧
    (let s : State := { atS 5 with xp.tiles := tiles n .out, xp.restoreAt := [(n.val, 9)] }
     look n.val s.xp.restoreAt = some 9 ∧ s.tile n = .out) := by decide +kernel

/-- SdiReceivers: the first and the last lane in each state, with and without a rate left to try; a frame on a lane that a source uses. -/
theorem test_SdiReceivers_met :
    (∀ lane ∈ [(0 : Fin 256), 255], ∀ x ∈ [1, 2, 3, 4, 0],
      let s := (atS 5).set (R.RX_STAT_STATE lane) x
      s.awake = true ∧ s.formed = true ∧ s.rxState lane = x) ∧
    (let s : State := { (atS 5).set (R.RX_STAT_STATE 0) 2 with sdi.rx := [(0, { trying := some 7, toTry := [1] })] }
     s.rxState 0 = 2 ∧ (s.rx 0).trying = some 7 ∧ (s.rx 0).toTry = [1]) ∧
    (let s : State := (atS 5).set (R.RX_STAT_STATE 0) 2
     s.rxState 0 = 2 ∧ (s.rx 0).toTry = []) ∧
    (∀ x ∈ [3, 4], let s : State := { (atS 5).set (R.RX_STAT_STATE 255) x with boot.recs := [srcR 0 0 255] }
     s.awake = true ∧ s.rxState 255 = x ∧ s.rxSource 255 = some ((srcR 0 0 255).val, 0)) := by decide +kernel

/-- An Ethernet frame of a length. -/
def eth (len : Nat) (good : Bool) (body : EthBody) : EthFrame := ⟨len, good, false, none, 0, 0, 0, body⟩

/-- The record of an octet whose lanes are ports: Ethernet, or Strands (07 Table 7.7). -/
def octR (octet strands : Nat) : Rec := ⟨0x0150, [BitVec.ofNat 8 octet, 0, 255, 255, BitVec.ofNat 8 strands, 0, 0, 0]⟩

/-- EthernetReception and BadEthernetFramesAreDropped: the first lane port and the last management port; frames at the limits of length, with a wrong FCS,
a pause of either kind and another frame. -/
theorem test_EthernetReception_met :
    (let s : State := { (atS 5).set (R.PORT_STATE 0) 3 with boot.recs := [octR 0 0] }
     s.awake = true ∧ s.portState 0 = 3 ∧ s.portKind 0 = 1 ∧ s.maxFrame 0 = 9216 ∧ (eth 63 true (.pause 0)).len < 64 ∧
       64 ≤ (eth 64 true (.pause 0)).len ∧ s.maxFrame 0 < (eth 9217 true (.pause 0)).len ∧ (eth 9216 false (.pause 0)).len ≤ s.maxFrame 0 ∧
       s.macFault 0 (eth 63 true (.pause 0)) = some (R.PORT_RX_RUNT 0) ∧ s.macFault 0 (eth 9217 true (.pause 0)) = some (R.PORT_RX_OVERSIZE 0) ∧
       s.macFault 0 (eth 9216 false (.pause 0)) = some (R.PORT_RX_FCS_ERR 0) ∧ s.macFault 0 (eth 64 true (.pause 0)) = none) ∧
    (let s : State := (atS 5).set (R.PORT_STATE 257) 3
     s.awake = true ∧ s.portState 257 = 3 ∧ s.portKind 257 = 1 ∧ s.maxFrame 257 = 1522 ∧ s.macFault 257 (eth 1522 true (.pfc [])) = none ∧
       s.macFault 257 (eth 1523 true (.pfc [])) = some (R.PORT_RX_OVERSIZE 257)) ∧
    (atS 5).portState 0 ≠ 3 := by decide +kernel

/-- PortStates: the first and the last port, management ports among them, in each state; LOCK for 500 ms. -/
theorem test_PortStates_met :
    (∀ p ∈ [(0 : Fin 258), 255, 256, 257], ∀ x ∈ [1, 2, 3],
      let s : State := { (atS 5).set (R.PORT_STATE p) x with boot.recs := [octR 0 0, octR 31 255] }
      s.awake = true ∧ s.formed = true ∧ s.portKind p ≠ 0 ∧ s.portState p = x ∧ (s.port p).lockAt + 500 * ms ≤ 500 * ms) ∧
    (let s : State := { (atS 5).set (R.PORT_STATE 255) 3 with boot.recs := [octR 31 255] }
     s.portKind (8 * 31 + 7) ≠ 0 ∧ s.portState (8 * 31 + 7) ≠ 0) := by decide +kernel

/-- PortAndFlowTimers: a queue paused for WD, and one whose quanta end first; one that ignores pause; a counter at half its range. -/
theorem test_PortAndFlowTimers_met :
    (∀ e ∈ [none, some 3000000], let x : EthPort := { pauseFrom := [(7, 0)], pauseEnd := (e.map (fun v => [(7, v)])).getD [] }
     let s : State := { (atS 5).set (R.PORT_QPAUSED 255) 128 with eth := [(255, x)] }
     let u := (s.at_ 2000000).pausesEnd 255
     s.awake = true ∧ s.formed = true ∧ look 7 (u.port 255).pauseFrom = some 0 ∧ bit (u.get (R.PORT_QPAUSED 255)) 7 = true ∧ 0 + u.watchdog 255 ≤ u.now) ∧
    (let s : State := { (atS 5).set (R.PORT_QPAUSED 255) 128 with eth := [(255, { pauseFrom := [(7, 0)], pauseEnd := [(7, 5)] })] }
     look 7 (((s.at_ 4).pausesEnd 255).port 255).pauseFrom = some 0 ∧ look 7 (((s.at_ 5).pausesEnd 255).port 255).pauseFrom = none) ∧
    (let s : State := (atS 5).set (R.PORT_QIGNORE 0) 1
     bit (s.get (R.PORT_QIGNORE 0)) 0 = true ∧ lookD 0 (s.port 0).lastPause 0 + s.watchdog 0 ≤ 2000000) ∧
    (∀ p ∈ [(0 : Fin 258), 255, 257], ∀ k ∈ [(0 : Fin 16), 15],
      let s := (atS 5).set (portCounter p k) (2 ^ 31)
      s.awake = true ∧ s.formed = true ∧ 2 ^ 31 ≤ s.get (portCounter p k)) := by decide +kernel

/-- PortAndFlowTimers: a leg at the end of its 10 ms, and an owner at the end of IDLE_RELEASE; numbers awaited whose deadline is to come, and past. -/
theorem test_PortAndFlowTimers_legs :
    let l : InLeg := { key := ⟨0, 0, 0, 0⟩, saddr := 0, ssm := false, owner := some (1, 2) }
    let s : State := { atS 5 with
      ip.flows := [(8191, { legs := [l, l], joined := true, awaited := [(3, 2, some 8000), (9, 1, none)] })]
      boot.recs := [⟨0x0141, [255, 31, 0, 1, 0, 0, 0, 0, 20, 0]⟩] }
    s.awake = true ∧ s.has (rstNow (s.flow 8191).cluster) = false ∧ ((s.set (rstNow 0) 1).has (rstNow ((s.set (rstNow 0) 1).flow 8191).cluster) = true) ∧
      (s.flow 8191).legs[1]? = some l ∧ (s.flow 8191).joined = true ∧ l.down = false ∧ l.lastRx + 10 * ms ≤ (s.at_ (10 * ms)).up ∧
      (s.flowIn 8191).any (fun v => leAt v 8 2 = 20) = true ∧ l.owner.isSome = true ∧ l.ownerAt + 20 * ms ≤ (s.at_ (20 * ms)).up ∧
      (s.flow 8191).awaited.all (fun r => r.2.2.all (7999 < ·)) = true ∧ (s.flow 8191).awaited.all (fun r => r.2.2.all (8000 < ·)) = false := by
  decide +kernel

/-- DramErrors and DramGroups: a chip awake; a channel that turns hot, a group not in reset, and a change of the operating point at its instant, before it,
and with a group in reset: not yet counted and counted, before and after the last instant. -/
theorem test_DramGroups_met :
    (atS 5).awake = true ∧ (atS 5).formed = true ∧ (atS 5).get (R.DG_STAT_STATE 0) ≠ 4 ∧
    (∀ lp ∈ [(0 : Fin 32), 31], (atS 5).lpDown lp = false ∧ ((atS 5).set (R.DG_STAT_STATE (lp / 4)) 4).lpDown lp = true ∧
      ((atS 5).set (R.DG_STAT_STATE (lp / 4)) 4).awake = true ∧ ((atS 5).set (R.DG_STAT_STATE (lp / 4)) 4).formed = true) ∧
    (∀ g ∈ [(0 : Fin 8), 7], let s := (atS 5).set (R.DG_STAT_STATE g) 2
     s.awake = true ∧ s.formed = true ∧ s.get (R.DG_STAT_STATE g) = 2 ∧ bit (s.get (R.DG_STAT_HOT g)) 3 = false) ∧
    (let s : State := { atS 5 with dram.change := some (1, 9, none) }
     s.awake = true ∧ s.formed = true ∧ s.dram.change = some (1, 9, none) ∧ s.groupDown = false) ∧
    (let s : State := { (atS 5).set (R.DG_STAT_STATE 7) 4 with dram.change := some (1, 9, some 10) }
     s.dram.change = some (1, 9, some 10) ∧ s.groupDown = true ∧ s.dram.deferred = false ∧ ({ s with dram.deferred := true } : State).groupDown = true ∧ (some 10 : Option Time).any (· ≤ 9) = false ∧
       (some 10 : Option Time).any (· ≤ 10) = true) := by decide +kernel

/-! ### Witnesses of audio, the multiviewer and the Whorl -/

/-- AudioTicksAndSamples: a tick that is due, with the engine on and off, and one that is not; a sample at the first and the last place and one before and
one after them; a channel whose gap is to be counted, and one without; the 48th and the 49th missing sample; a bus without members, and one whose members are still. -/
theorem test_AudioTicksAndSamples_met :
    let inR : Rec := ⟨0x0141, [255, 31, 2, 0, 0, 1, 0, 0, 0, 0]⟩
    let s : State := { atS 5 with aud.on := true, aud.count := 6, boot.recs := [inR, ⟨0x0186, [255, 31, 0, 0, 10, 0]⟩] }
    (s.awake = true ∧ s.formed = true ∧ s.aud.on = true ∧ s.aud.count < countAt (250000) / 6 * 6 ∧ countAt 249999 / 6 * 6 ≤ s.aud.count ∧
      (atS 5).aud.on = false ∧ (atS 5).aud.count < countAt (250000) / 6 * 6 ∧ (srv true [⟨0x0184, [0, 1, 0, 32, 32]⟩]).outAddrs.length = 32) ∧
    (s.inAddrs.findIdx? (fun a => s.feed a = .flow 8191 0) = some 0 ∧ s.inDelay 8191 = 10 ∧ s.aud.count + 1919 = 1915 + s.inDelay 8191 ∧
      s.aud.count ≤ 0 + s.inDelay 8191 ∧ ({ s with aud.count := 11 } : State).aud.count = 0 + s.inDelay 8191 + 1 ∧
      s.aud.count + 1919 < 1916 + s.inDelay 8191) ∧
    (let c : InCh := { miss := 48, down := false, gap := true }
     let v : State := { s with aud.ins := [(32767, c), (0, { miss := 47 })] }
     (v.inCh 32767).gap = true ∧ (v.inCh 0).gap = false ∧ look 7 c.placed = none ∧ (v.inCh 0).miss = 47 ∧ c.miss = 48 ∧ c.down = false ∧ c.ramp = none ∧ 1 < s.ramp) ∧
    (let v : State := { s with aud.delta := [(1023, -3)], aud.buses := [(1023, { members := [(5, 0x8000)], runs := [4800] })] }
     look 1023 v.aud.delta = some (-3) ∧ v.busIdleOff = false ∧ (v.abus 0).members = [] ∧
       (∀ m, m < (v.abus 1023).members.length → 4800 ≤ (v.abus 1023).run m)) := by decide +kernel

/-- TdmStateTable: the first and the last port in each state, at and off the length of its frame, and at the end of its ramp. -/
theorem test_TdmStateTable_met :
    ∀ p ∈ [(0 : Fin 8), 7], ∀ x ∈ [1, 2, 3],
      let s : State := { atS 8 with aud.tdm := [(p.val, { state := x })], boot.recs := [⟨0x0184, [BitVec.ofNat 8 p, 8, 0, 8, 8]⟩] }
      s.awake = true ∧ s.serving = true ∧ s.formed = true ∧ (s.tdmSt p).state = x ∧ byteAt (s.tdmRec p) 1 * 32 = 256 ∧
        (s.tdmSt p).since + min s.ramp 48 * sec / 48000 ≤ (s.at_ ms).up ∧ s.has (rstNow 32) = false := by decide +kernel

/-- HeadsComposeFrames: the last head with its window at a frame, composed and not; a window at its source's frame, with a change at its instant; one at
the end of its HOLD and one before it. -/
theorem test_HeadsComposeFrames_met :
    let b : WinBuf := { src := 2048, crop := (0, 0, 0, 0), w := 1920, h := 1080, engine := none }
    let w (gap : Nat) : Win := { z := 0, x := 0, y := 0, buf := b, from_ := 0, gap := gap }
    let s : State := { atS 5 with
      boot.recs := [srcR 3 4 15]
      mv.heads := [(15, { on := true })]
      mv.wins := [(1023, w 10), (960, w 9)] }
    (s.awake = true ∧ s.formed = true ∧ (s.headSrc 15).isSome = true ∧ (s.head 15).on = true ∧
      (s.head 15).from_ ≤ alignPoint (s.headRate 15) (frameAt (s.headRate 15) (9 + 100000)) ∧ (s.head 15).lastFrame = none ∧ s.has (rstNow 15) = false) ∧
    (let v : State := { s with mv.heads := [(15, { on := true, lastFrame := some 1 })] }
     (v.head 15).lastFrame.any (frameAt (v.headRate 15) (9 + 100000) ≤ ·) = true) ∧
    (look 1023 s.mv.wins = some (w 10) ∧ (w 10).change = none ∧ (w 10).from_ ≤ 9 ∧ s.winFrameOk (w 10).buf.src = true ∧ look 0 s.mv.wins = none ∧
      s.winHold (1023 / 64) ≤ (w 10).gap ∧ (w 10).noSignal = false ∧ look 960 s.mv.wins = some (w 9) ∧ (w 9).gap < s.winHold (960 / 64)) ∧
    (let v : Win := { w 0 with change := some (b, (0, 0, 1), 9, 0) }
     let u : State := { s with mv.wins := [(1023, v)] }
     look 1023 u.mv.wins = some v ∧ v.change = some (b, (0, 0, 1), 9, 0) ∧ u.winFrameOk b.src = true) := by decide +kernel

/-- A record of a reference input that is enabled (12 Table 12.13), and of TIMING with flags. -/
def refR (input : Nat) : Rec := ⟨0x01A2, [BitVec.ofNat 8 input, 1, 0, 0]⟩
def timR (flags : Nat) : Rec := ⟨0x01A0, [0, 0, 0, 0, BitVec.ofNat 8 flags] ++ List.replicate 19 0⟩

/-- A Whorl in a state, with the last reference input enabled. -/
def whl (cur flags : Nat) : State := { (atS 5).set R.WHL_STATE_CUR cur with boot.recs := [refR 3, timR flags], whl.ready := true }

/-- ReferencesAreSelected: a PTP instance that may qualify. -/
theorem test_ReferencesAreSelected_ptp :
    let best : Ann := ⟨128, 6, 0x21, 0, 128, 1, 0, 0x20, 37, true, false, false⟩
    let s : State := { atS 5 with
      boot.recs := [⟨0x01A1, [0, 0, 0, 0, 0, 0, 0, 0, 0, 1] ++ List.replicate 14 0⟩]
      whl.inst0 := { ports := [{ port := 0, state := .slave, best := some best }], last := [0, 0, 0, 0] } }
    s.refEnabled 0 = true ∧ s.qualified 0 = false ∧ s.ptpFit 0 = true := by
  have steady0 : steady [0, 0, 0, 0] = true := by decide +kernel
  have fit (s : State) (a : Ann) (h1 : s.whl.inst0.ports = [{ port := 0, state := .slave, best := some a }])
      (h2 : s.whl.inst0.last = [0, 0, 0, 0]) (h3 : a.cls ≤ s.maxClass 0) : s.ptpFit 0 = true := by
    simp [State.ptpFit, State.inst, PtpInst.slave, h1, h2, h3, steady0]
  exact ⟨by decide +kernel, by decide +kernel, fit _ _ rfl rfl (by decide +kernel)⟩

/-- ReferencesAreSelected: the last reference qualifies, one that is not enabled does not; the last qualified one is lost;
one of higher priority takes over. -/
theorem test_ReferencesAreSelected_met :
    (let s := whl 0 0
     s.awake = true ∧ s.formed = true ∧ s.refEnabled 5 = true ∧ s.qualified 5 = false ∧ s.whlCur = 0 ∧ s.whl.selected = none ∧ s.whl.forced = none ∧
       5 ∈ s.prioList ∧ (∀ k ∈ s.prioList, k ≠ 5 → s.qualified k = false) ∧ s.refEnabled 2 = false) ∧
    (let s : State := { (whl 2 0).set (R.REF_QUALIFIED 5) 1 with whl.selected := some 5 }
     s.awake = true ∧ s.formed = true ∧ s.qualified 5 = true ∧ s.whl.selected = some 5 ∧ s.whl.forced = none ∧ s.whlCur = 2 ∧
       (∀ k ∈ s.prioList, k ≠ 5 → s.qualified k = false)) ∧
    (let s : State := { (whl 2 2).set (R.REF_QUALIFIED 2) 1 with whl.selected := some 5, whl.qualSince := [(2, 0)] }
     s.revert = true ∧ s.whl.forced = none ∧ s.qualified 2 = true ∧
       (s.prioList.takeWhile (fun y => s.whl.selected ≠ some y)).contains 2 = true ∧ look 2 s.whl.qualSince = some 0 ∧
       0 + s.wtr * sec ≤ (s.at_ (60 * sec)).up) := by decide +kernel

/-- WhorlStateTable: each state at the end of its time; a Whorl that needs a reference; the last reference, selected and not. -/
theorem test_WhorlStateTable_met :
    (let s : State := { whl 1 0 with whl.lockFrom := some 0, whl.selected := some 5 }
     s.awake = true ∧ s.formed = true ∧ s.whl.lockFrom = some 0 ∧ s.whlCur = 1 ∧ 0 + 4 * sec ≤ (s.at_ (4 * sec)).up ∧ s.whl.ready = true ∧
       s.refEnabled 5 = true ∧ s.whl.selected = some 5) ∧
    (let s : State := { whl 2 0 with whl.outFrom := some 0 }
     s.awake = true ∧ s.formed = true ∧ s.whl.outFrom = some 0 ∧ s.whlCur = 2 ∧ 0 + 2 * sec ≤ (s.at_ (2 * sec)).up) ∧
    (let s := whl 3 0
     s.awake = true ∧ s.formed = true ∧ s.whlCur = 3 ∧ s.whl.holdSince + s.holdover * sec ≤ (s.at_ (3600 * sec)).up) ∧
    (let s := whl 0 4
     s.awake = true ∧ s.formed = true ∧ s.refRequired = true ∧ s.whlCur = 0 ∧ s.whl.startAt + s.refWait + 60 * sec ≤ (s.at_ (61 * sec)).up ∧
       s.whl.ready = true ∧ s.refEnabled 5 = true) ∧
    (whl 4 0).whlCur = 4 := by decide +kernel

/-- TimeStepMovesTime: a step forward and a step back, at the instant and just before it. -/
theorem test_TimeStepMovesTime_met :
    ∀ d ∈ [(1000000 : Int), -1000000],
      let s : State := { atS 8 with whl.step := some (40 * ms, d, false) }
      s.inService = true ∧ s.formed = true ∧ s.whl.step = some (40 * ms, d, false) ∧ s.houseRate ≤ 12 := by decide +kernel

/-- TimeAndCalendar: the twin out of limits for 1 s; a time wire calibrated and not, of the first and the last island; a leap second of either kind; the
minute of the always-on clock in each state; a PTP port in MASTER (one-step and two-step) and one in SLAVE. -/
theorem test_TimeAndCalendar_met :
    (let s : State := { (whl 2 0).set R.WHL_TWIN_VALID 1 with whl.twinOver := some 0, dbl.linkUp := true }
     s.awake = true ∧ s.formed = true ∧ s.whl.twinOver = some 0 ∧ 0 + sec ≤ (s.at_ sec).up ∧ s.has R.WHL_TWIN_VALID = true ∧ s.dbl.linkUp = true ∧
       (whl 2 0).dbl.linkUp = false) ∧
    (∀ isl ∈ [(0 : Fin 40), 31, 32, 39], (whl 2 0).has (rstNow isl) = false ∧ ((whl 2 0).set (wireFld isl) 1).has (wireFld isl) = true ∧
      (whl 2 0).has (wireFld isl) = false) ∧
    (∀ x ∈ [(true, false), (false, true)], let s : State := { whl 2 0 with whl.utc := some 37, whl.leap61 := x.1, whl.leap59 := x.2 }
     s.whl.utc = some 37 ∧ s.whl.leap61 = x.1 ∧ s.whl.leap59 = x.2) ∧
    (∀ c ∈ [1, 2, 3], let s : State := { whl c 0 with boot.pins := true }
     s.boot.pins = true ∧ s.whl.ready = true ∧ s.whlCur = c) ∧
    (atS 8).serving = true ∧ (atS 8).awake = true := by decide +kernel

/-- TimeAndCalendar: the ports of a PTP instance. -/
theorem test_TimeAndCalendar_ports :
    let recs (flags : Nat) : List Rec := [⟨0x01A1, [1, 0, BitVec.ofNat 8 flags, 0, 0, 0, 0, 0, 0, 1, 0, 0, 0, 0, 0, 0, 255, 0, 0, 0, 0, 0, 0, 0]⟩]
    let best : Ann := ⟨128, 6, 0x21, 0, 128, 1, 0, 0x20, 37, true, false, false⟩
    let s (flags : Nat) (b : Option Ann) : State := { atS 5 with boot.recs := recs flags, whl.inst1 := { ports := [{ port := 255, best := b }] } }
    let y (u : State) : PtpPort := (((u.at_ 9).bmca 1).ptpShow 1 |>.inst 1).port 255
    (((s 1 none).ptpPorts 1).find? (fun r => r.1 = 255) = some (255, 0, 0) ∧ (y (s 1 none)).state = .master ∧
      bit (byteAt (((s 1 none).ptpRec 1).getD []) 2) 1 = false) ∧
    ((y (s 3 none)).state = .master ∧ bit (byteAt (((s 3 none).ptpRec 1).getD []) 2) 1 = true) ∧
    ((y (s 0 (some best))).state = .slave ∧ (y (s 0 (some best))).state ≠ .master) := by decide +kernel

/-! ### Witnesses of the Skein and of the doubled pair -/

/-- A chip of Skein 5, pair 0, with Strand port `p`, whose peer's pair is 2. -/
def skn (p : Nat) : List Rec := [octR (p / 8) 255, ⟨0x01B0, [0, 0, 5, 0, 0, 0, 0, 0]⟩, ⟨0x01B1, leBytes 2 p ++ [2, 0, 0, 0, 0, 0]⟩]

/-- Strands: the first and the last port in each state, with a HELLO that fits and one that does not, at the end of 10 µs and before it. -/
theorem test_Strands_met :
    ∀ p ∈ [(0 : Fin 256), 255],
      let s (st po : Nat) : State := { ((atS 5).set (R.PORT_STR_STATE p) st).set (R.PORT_STATE p) po with boot.recs := skn p }
      let h : SkHello := ⟨2, 5, 0, 7, 0⟩
      ((s 1 3).awake = true ∧ (s 1 3).formed = true ∧ (s 1 3).isStrand p = true ∧ (s 1 3).strandState p = 1 ∧ (s 1 3).portState p = 3) ∧
      ((s 2 3).strandState p = 2 ∧ ((((s 2 3).at_ 9).set (R.PORT_STR_PEER p) h.chip).helloBad p h = 0) ∧
        (((s 2 3).at_ 9).set (R.PORT_STR_PEER p) h.chip).helloBad p { h with skein := 6 } ≠ 0) ∧
      ((s 3 3).strandState p = 3 ∧ (s 4 1).strandState p = 4 ∧ (s 4 1).portState p ≠ 3 ∧ (s 5 2).strandState p = 5 ∧ (s 5 2).portState p ≠ 3) ∧
      ((s 4 3).portState p = 3 ∧ ((s 4 3).strand p).lastRx + 10000 ≤ ((s 4 3).at_ 10000).up ∧ ((s 4 3).at_ 9999).up < ((s 4 3).strand p).lastRx + 10000) := by
  decide +kernel

/-- Strands: 64 round trips give a λ at the bound and just beyond it; 63 give none. -/
theorem test_Strands_lambda : lambdaOf (List.replicate 64 (40100, 100)) = some 20000 ∧ lambdaOf (List.replicate 64 (40102, 100)) = some 20001 ∧
    lambdaOf (List.replicate 63 (40100, 100)) = none := by decide +kernel

/-- Strands: the hold of a mirror at its end; the own links; a message seen and not seen; the twin's map with the link up and down. -/
theorem test_Strands_maps :
    (let s : State := { (atS 5).set (R.PORT_STATE 255) 1 with boot.recs := skn 255, skn.strands := [(255, { downAt := some 0 })] }
     s.awake = true ∧ s.isStrand 255 = true ∧ s.strandState 255 ≠ 4 ∧ (s.strand 255).downAt.any (fun v => v + s.mirrorHold ≤ (s.at_ (10 * sec)).up) = true ∧
       s.recs 0x01B0 ≠ []) ∧
    (let s : State := { atS 5 with skn.seen := [(77, 0)], dbl.linkUp := true }
     (s.at_ (2 * sec - 1)).seen 77 = true ∧ (s.at_ (2 * sec)).seen 77 = false ∧ s.dbl.linkUp = true ∧ (atS 5).dbl.linkUp = false) := by decide +kernel

/-- SkeinMessagesActOnce: a message seen, one for another pair, and one for this pair at a chip with and without control. -/
theorem test_SkeinMessages_met :
    let m (target : Nat) : SkMsg := ⟨77, target, 2, 1, 0, .decision true 0⟩
    let s (r : Role) : State := { atS 8 with dbl.role := r, skn.seen := [(77, 0)] }
    (s .active).inService = true ∧ ((s .active).at_ 9).seen (m 0).id = true ∧ ((s .active).at_ (2 * sec)).seen (m 0).id = false ∧
      (m 2).target ≠ (s .active).pairNo ∧ (m 0).target = (s .active).pairNo ∧ (s .active).dbl.role.holds = true ∧ (s .standby).dbl.role.holds = false := by
  decide +kernel

/-- A good frame of the doubling link from a twin in a role. -/
def dh (role : Nat) : DblHead := ⟨true, role, false⟩

/-- DoublingFrames: a bad frame; a twin that fits and one on the same side; the roles beside which each role stays or leaves; a copy held once; the last
part of a snapshot and one before it; a bank that takes the last byte at a STANDBY and a JOINING chip; hand-offs, a CLAIM on a serving Strand among
them; an event at the holder and at the standby. -/
theorem test_DoublingFrames_met :
    let up (r : Role) : State := { atS 8 with dbl.role := r, dbl.linkUp := true, boot.recs := [stillR 0] }
    let hello (side : Nat) : DblHello := ⟨side, 0, 0, 7, 0, 0, true, []⟩
    ((atS 5).awake = true ∧ ({ dh 2 with good := false } : DblHead).good = false ∧ (dh 2).good = true) ∧
    ((up .solo).twinUnfit (hello 0) = true ∧ (up .solo).twinUnfit (hello 1) = false) ∧
    ((up .standby).dbl.role = .standby ∧ (up .standby).dbl.linkUp = true ∧ (dh 2).role ≠ 3 ∧ (dh 2).role ≠ 4 ∧ (dh 7).role ≠ 3 ∧
      (up .active).dbl.role = .active ∧ (dh 1).role ≠ 2 ∧ (dh 2).role = 2) ∧
    (let c : HeldCopy := ⟨9, [], [], 1⟩
     ({ up .active with dbl.held := some c } : State).dbl.held = some c ∧ c.tries = 1) ∧
    ((up .joining).dbl.role = .joining ∧ 0 + 1 < 2 ∧ 2 ≤ 1 + 1) ∧
    (∀ r ∈ [Role.standby, .joining], (up r).bankSize 0 = some 5184000 ∧ 5183999 + [(7 : Byte)].length ≤ 5184000 ∧ (up r).dbl.role = r) ∧
    ((up .active).serving = true ∧ (up .active).dbl.role.holds = true ∧ (up .standby).dbl.role.holds = false ∧
      ((up .active).set (R.PORT_STR_STATE 255) 4).strandState 255 = 4) := by
  decide +kernel

/-- CopiesAreConfirmed: a STANDBY, a JOINING chip that has its snapshot, a holder with the copy, and one in SOLO; a BULK_WRITE that waits, and none. -/
theorem test_Copies_met :
    let up (r : Role) : State := { atS 8 with dbl.role := r, dbl.linkUp := true, dbl.snapped := true, dbl.held := some ⟨9, [], [], 1⟩ }
    let r : Reply := { sess := 1, typ := 0x33, req := 1, code := 0, tlvs := [] }
    (∀ r ∈ [Role.standby, .joining, .active, .solo], (up r).inService = true ∧ (dh 3).good = true ∧ (up r).dbl.linkUp = true ∧ (up r).dbl.role = r ∧
      (up r).dbl.snapped = true ∧ (up r).dbl.held = some ⟨9, [], [], 1⟩ ∧ (up r).dbl.yieldPend = false ∧ (9 : Time) ≠ 0 ∧ (up r).dbl.bulks = []) ∧
    ({ up .active with dbl.bulks := [(0, r)] } : State).dbl.bulks = (0, r) :: [] := by decide +kernel

/-- ControlIsHandedOver: a CLAIM at each chip of the pair, with the link down and up, and one for another pair; a yield of a twin that can stand by and of
one that cannot; a swap that is due. -/
theorem test_Control_met :
    (∀ r ∈ [Role.active, .solo], let s : State := { atS 8 with dbl.role := r }
     s.inService = true ∧ s.formed = true ∧ 0 = s.pairNo ∧ s.dbl.role.holds = true ∧ s.dbl.linkUp = false) ∧
    (let s : State := { atS 8 with dbl.role := .standby, dbl.linkUp := true, dbl.swapPend := some 9 }
     s.inService = true ∧ s.formed = true ∧ 510 ≠ s.pairNo ∧ s.dbl.role.holds = false ∧ s.dbl.linkUp = true ∧ (dh 1).role = 1 ∧ ¬((dh 6).role = 1 ∨ (dh 6).role = 2) ∧
       (dh 1).good = true ∧ s.dbl.role = .standby ∧ s.dbl.swapPend = some 9) := by decide +kernel

/-- RolesAtLinkLoss: each role and each reading of TIE_IN; a settling chip. -/
theorem test_RolesAtLinkLoss_met :
    (∀ r ∈ [Role.standby, .active, .solo], let s : State := { atS 8 with dbl.role := r, dbl.linkUp := true }
     s.inService = true ∧ s.formed = true ∧ s.dbl.linkUp = true ∧ s.dbl.role = r) ∧
    (Tie.none ≠ .hold ∧ Tie.invalid ≠ .hold ∧ Tie.follow ≠ .hold) ∧
    (let s : State := { atS 8 with dbl.role := .solo, dbl.settleEnd := some 9 }
     s.inService = true ∧ s.dbl.role = .solo ∧ s.dbl.linkUp = false ∧ s.dbl.settleEnd.isSome = true) := by decide +kernel

/-- DoublingLanesAndTimers: each lane up and down; TIE_IN that disagrees; a settling at and before its end, with and without a deferred copy; the two
repeats of the ARP, and after them. -/
theorem test_DoublingLanes_met :
    (∀ lane ∈ [(0 : Fin 2), 1], let s : State := { atS 8 with dbl.lanes := 3 }
     let d : State := { atS 8 with dbl.lanes := 3 - 2 ^ lane.val }
     s.inService = true ∧ bit s.dbl.lanes lane = true ∧ bit d.dbl.lanes lane = false ∧ d.dbl.lanes + 2 ^ lane.val = 3) ∧
    (({ atS 8 with dbl.tieIn := .invalid } : State).tieWrong = true ∧ (atS 8).tieWrong = false) ∧
    (let c : HeldCopy := ⟨9, [], [], 1⟩
     let s : State := { atS 8 with dbl.role := .solo, dbl.settleEnd := some 9, dbl.deferred := some c, dbl.handoffUntil := some 9 }
     s.dbl.settleEnd = some 9 ∧ s.dbl.deferred = some c ∧ s.dbl.role.holds = true ∧ (atS 8).dbl.deferred = none ∧ s.dbl.handoffUntil = some 9 ∧ 9 ≤ (s.at_ 9).up) ∧
    (∀ n ∈ [1, 2, 3], let s : State := { atS 8 with dbl.role := .active, dbl.arpsSent := n }
     s.dbl.role.holds = true ∧ s.dbl.arpsSent = n ∧ s.dbl.claimAt + 10 * ms ≤ (s.at_ (10 * ms)).up ∧ s.dbl.claimAt + ms ≤ (s.at_ ms).up) := by decide +kernel

/-! ### Witnesses of faults, resets, memory, DMA and pins -/

/-- FaultClassesReact: each role, with a ready twin and without one. -/
theorem test_FaultClasses_met :
    (∀ r ∈ [Role.standby, .active, .solo], let s : State := { atS 5 with dbl.role := r }
     s.awake = true ∧ s.formed = true ∧ s.dbl.role = r ∧ s.twinReady = false) ∧
    ({ atS 5 with dbl.role := .active, dbl.linkUp := true, dbl.twinRole := 2 } : State).twinReady = true := by decide +kernel

/-- OccurrencesAreCaptured: no capture, a capture held, and a clear that leaves no bit latched. -/
theorem test_Occurrences_met :
    State.reset.formed = true ∧ 2 ≤ (2 : Fin 5).val ∧ State.reset.has R.FLT_CAP_VALID = false ∧
    (State.reset.latch 39 4 1 {}).has R.FLT_CAP_VALID = true ∧ (State.reset.latch 39 4 1 {}).formed = true ∧
    ((State.reset.latch 39 2 1 {}).faultClear (2 ^ 39)).anyLatched = false := by decide +kernel

/-- EventsGoToTheTwin: a chip with the doubling link up, which holds control and not; the classes 1 and 2 lie on either side of the bound. -/
theorem test_EventsGoToTheTwin_met :
    ∀ r ∈ [Role.active, .standby], let s : State := { atS 5 with dbl.linkUp := true, dbl.role := r }
      s.dbl.linkUp = true ∧ s.awake = true ∧ (s.dbl.role.holds = true ↔ r = .active) ∧ (dh 2).good = true := by
  decide +kernel

/-- ErrorsAndTemperature: a named ERR bit and one that is not; a fenced island and one that is not, with an HS_TIMEOUT bit and without; readings at both
ends and at the trip. -/
theorem test_ErrorsAndTemperature_met :
    (atS 5).awake = true ∧ (atS 5).formed = true ∧
    (accessOf ⟨33, R.WHL_ERR_XO.off, R.WHL_ERR_XO.lo, R.WHL_ERR_XO.lo⟩ = some .w1c ∧ accessOf ⟨38, 0x20, 7, 7⟩ ≠ some .w1c) ∧
    (∀ isl ∈ [(0 : Fin 40), 31, 35, 39], ((atS 5).set (rstNow isl) 1).has (rstNow isl) = true ∧ (atS 5).has (rstNow isl) = false ∧
      (hsTimeout isl 0).isSome = true) ∧
    ((atS 5).has (rstNow 36) = false ∧ hsTimeout 36 0 = none) ∧
    (let s : State := { atS 5 with spn.trip := some 0 }
     s.awake = true ∧ s.formed = true ∧ s.spn.failed = [] ∧ s.spn.trip = some 0 ∧ 0 + ms ≤ (s.at_ ms).up ∧ (-128 : Int) < 128 ∧ (120 : Int) ≤ 127) := by
  decide +kernel

/-- IslandsFenceAndRearm: an island of each kind, in reset and not. -/
theorem test_Islands_met :
    let s := atS 8
    s.inService = true ∧ s.formed = true ∧ s.tile 0 ≠ .lost ∧ s.tile 7 ≠ .lost ∧ s.get (R.DG_STAT_STATE 0) ≠ 4 ∧ s.get (R.DG_STAT_STATE 7) ≠ 4 ∧
    (∀ isl ∈ [(0 : Fin 40), 34, 39], s.has (rstNow isl) = false ∧ (s.set (rstNow isl) 1).has (rstNow isl) = true ∧
      (s.set (rstNow isl) 1).inService = true ∧ (s.set (rstNow isl) 1).formed = true) := by decide +kernel

/-- TamperZeroes: KEY out of reset and in it; each input armed and not; a powered chip whose half is gone, in both working states;
a random generator that failed. -/
theorem test_Tamper_met :
    let on (life : Nat) (half : Option Nat) : State := { atS 8 with boot.pins := true, keys.life := life, keys.battery := half, keys.rngOk := true }
    (on 2 none).inService = true ∧ (on 2 none).formed = true ∧ (on 2 none).keys.resetting = false ∧
    ({ on 2 none with keys.resetting := true } : State).keys.resetting = true ∧
    (∀ i ∈ [(0 : Fin 2), 1], let s := ((on 2 (some 1)).set R.AON_STAT_ARMED 1).set R.AON_STAT_TAMPER_EN 3
     s.inService = true ∧ s.formed = true ∧ s.has R.AON_STAT_ARMED = true ∧ bit (s.get R.AON_STAT_TAMPER_EN) i = true ∧ s.boot.pins = true) ∧
    ((atS 8).has R.AON_STAT_ARMED = false ∧ bit ((atS 8).get R.AON_STAT_TAMPER_EN) 1 = false) ∧
    (∀ l ∈ [2, 3], (on l none).boot.pins = true ∧ (on l none).keys.battery = none ∧ (on l none).keys.life = l ∧ (on l none).keys.rngOk = true ∧
      (on l none).keys.resetting = false) ∧ (on 2 (some 1)).keys.battery ≠ none ∧ (atS 8).keys.rngOk = false := by
  decide +kernel

/-- RecordsReachTheMemory: a record that waits and none; 42 log records and none; a register whose fields are cleared by a read, and one not; the low
and the high word of a 64-bit value; a write of a register in an island in reset and not. -/
theorem test_Records_met :
    (let s : State := { (atS 8).set R.BOOT_STAT_NOR 0 with dbl.role := .active, boot.jpend := [(.aline 0 1, 9)], flt.waits := List.replicate 42 0 }
     s.awake = true ∧ s.boot.xrd = none ∧ s.has (rstNow 39) = false ∧ s.journals = true ∧ s.nextRecord = some (.item (.aline 0 1), false, 9) ∧
       s.journalFits (JBody.item (.aline 0 1)).size = true ∧ s.has R.BOOT_STAT_NOR = false ∧ s.mayWrite s.logSlot = true ∧ (s.at_ 9).blockDue = true ∧
       (atS 8).nextRecord = none ∧ (atS 8).flt.waits = []) ∧
    (rcRows 0x4001000008 ≠ [] ∧ rcRows R.BOOT_STAT_STATUS.addr = []) ∧
    (let a := R.WHL_HELD_LO.addr
     ((atS 5).at_ 9).highOf a = some (a + 4, 0) ∧ a ≠ R.BOOT_XRD_DATA.addr ∧ (atS 5).has (rstNow ((a - 0x4000000000) / 0x100000)) = false ∧
       (((atS 5).at_ 9).rcTake a).highOf a = some (a + 4, 0)) ∧
    (let a := (R.DMA_DESC 0).addr
     (∀ c : Fin 16, a ≠ (R.DMA_CMD c).addr) ∧ ((atS 5).set (rstNow 34) 1).has (rstNow ((a - 0x4000000000) / 0x100000)) = true) := by
  decide +kernel

/-- DmaChannelStates: the first and the last channel in each state, with descriptors of each trigger, and a chain event due. -/
theorem test_DmaChannels_met :
    ∀ c ∈ [(0 : Fin 16), 15],
      let desc (ctrl period : Nat) : List Byte := leBytes 8 0 ++ leBytes 8 0 ++ leBytes 4 64 ++ leBytes 4 64 ++ leBytes 2 ctrl ++ leBytes 2 period ++ leBytes 4 0
      let s (x ctrl : Nat) : State := { ((atS 5).set (R.DMA_STATE c) x).set (R.DMA_DONE c) 64 with spn.dma := [(c.val, { cur := desc ctrl 3, chainDue := 1 })] }
      (∀ x ∈ [0, 1, 2, 3], (s x 0).awake = true ∧ (s x 0).formed = true ∧ (s x 0).get (R.DMA_STATE c) = x) ∧
      ((s 1 0x8000).get (R.DMA_DONE c) = ((s 1 0x8000).desc c).len ∧ ((s 1 0x8000).dma c).cur ≠ [] ∧ ((s 1 0x8000).desc c).last = true) ∧
      (((s 1 0x40).desc c).trig = 1 ∧ 3000 % (((s 1 0x40).desc c).period * 1000) = 0 ∧ ((s 1 0).desc c).trig ≠ 1 ∧ ((s 1 0).dma c).chainDue ≠ 0 ∧
        ((atS 5).dma c).chainDue = 0 ∧ (s 1 0).has (R.DMA_PENDING c) = false) := by decide +kernel

/-- FailedTransactionHaltsChannel: a running channel and the first and the last response other than OKAY. -/
theorem test_FailedTransaction_met :
    ∀ c ∈ [(0 : Fin 16), 15], let s := (atS 5).set (R.DMA_STATE c) 1
      s.awake = true ∧ s.formed = true ∧ s.get (R.DMA_STATE c) = 1 ∧ (1 : Fin 6).val ≠ 0 ∧ (5 : Fin 6).val ≠ 0 := by decide +kernel

/-- PinsAndOverride: every state of the override, at the last sample before Td and at Td; the override disabled; a pin that is an input, first and last. -/
theorem test_Pins_met :
    (∀ x ∈ [EvacSt.normal, .discrepant, .asserted, .holding, .clearable], ∀ n ∈ [98, 99],
      let s : State := { atS 5 with probe.evac := x, probe.count := n }
      s.awake = true ∧ s.formed = true ∧ s.evacDisabled = false ∧ s.probe.evac = x ∧ (s.probe.count + 1 < s.evacTd ↔ n = 98)) ∧
    ({ atS 5 with boot.recs := [⟨0x0230, [0, 0, 0, 0, 1, 0, 0, 0]⟩] } : State).evacDisabled = true ∧
    (∀ p ∈ [(0 : Fin 64), 63], let s : State := { atS 8 with boot.recs := [⟨0x0220, [BitVec.ofNat 8 p, 1, 0, 0]⟩] }
     s.inService = true ∧ s.formed = true ∧ s.has (rstNow (p / 4)) = false ∧ byteAt (s.pinRec p) 1 = 1 ∧ s.has (R.GPIO_ACCEPTED p) = false) := by
  decide +kernel

/-- EventsComplete: the conditions of its clauses beside those shown above for the same commands: a reference that may qualify; the last one beside a
selected one; an island out of reset; each part of a doubled pair. -/
theorem test_EventsComplete_met :
    (({ atS 8 with boot.pins := true } : State).boot.pins = true ∧ (atS 5).awake = true ∧ (atS 5).get R.BOOT_STAT_STATUS = 5 ∧ (atS 5).whl.ready = false) ∧
    ((whl 0 0).awake = true ∧ (whl 0 0).mayQualify 5 = true) ∧
    (let s : State := { (whl 2 2).set (R.REF_QUALIFIED 2) 1 with whl.selected := some 5, whl.qualSince := [(2, 0)] }
     s.revert = true ∧ s.whl.forced = none ∧ s.qualified 2 = true ∧ s.whl.selected.isSome = true ∧
       (s.prioList.takeWhile (fun y => s.whl.selected ≠ some y)).contains 2 = true ∧ look 2 s.whl.qualSince = some 0 ∧
       0 + s.wtr * sec ≤ (s.at_ (60 * sec)).up) ∧
    ((atS 5).has (rstNow 39) = false ∧ accessOf ⟨33, R.WHL_ERR_XO.off, R.WHL_ERR_XO.lo, R.WHL_ERR_XO.lo⟩ = some .w1c ∧ (hsTimeout 35 0).isSome = true) ∧
    (∀ r ∈ [Role.standby, .active, .joining], let s : State := { atS 8 with
       dbl.role := r, dbl.linkUp := true, dbl.held := some ⟨9, [], [], 1⟩, boot.recs := [stillR 0] }
     s.inService = true ∧ s.dbl.linkUp = true ∧ s.dbl.role = r ∧ s.dbl.held.any (fun c => c.close = 9 && c.tries = 1) = true ∧ s.pairNo ≠ 2 ∧
       s.bankSize 0 = some 5184000 ∧ (s.dbl.role.holds = true ↔ r = .active)) ∧
    (∃ b, ({ atS 8 with dbl.role := .solo, dbl.linkUp := true } : State).twinUnfit b = false) := by
  exact ⟨by decide +kernel, by decide +kernel, by decide +kernel, by decide +kernel, by decide +kernel, ⟨⟨1, 0, 0, 7, 0, 0, true, []⟩, by decide +kernel⟩⟩

/-- EventsComplete: the loss of the link and a change of TIE_IN in each role, islands in and out of reset at the ends of their range, SPN and BOOT. -/
theorem test_EventsComplete_pair_met :
    (∀ r ∈ [Role.standby, .active, .solo], let s : State := { atS 8 with dbl.role := r, dbl.linkUp := true }
     s.inService = true ∧ s.dbl.linkUp = true ∧ s.dbl.role = r) ∧
    (∀ x ∈ [Tie.hold, .none, .invalid], ∃ w ∈ [(56, 72), (0, 0), (1, 11)], tieRead w = some x) ∧
    (∀ isl ∈ [(0 : Fin 40), 35, 37, 39], (atS 8).has (rstNow isl) = false ∧ ((atS 8).set (rstNow isl) 1).has (rstNow isl) = true ∧
      ((atS 8).set (rstNow isl) 1).inService = true) ∧
    (atS 8).inService = true := by decide +kernel

/-! ### One command on a small state -/

/-- 18 Table 18.12: a start without an image stops at STATUS 0xC, detail 1. -/
theorem test_powerStart :
    ends (.powerStart 9 (facts 512)) State.reset (fun s => s.get R.BOOT_STAT_STATUS == 12 && s.get R.BOOT_STAT_DETAIL == 1 && s.flt.stopped) = true := by
  decide +kernel

/-- 18 Table 18.12: training done, the chip stands at STATUS 0x7; a channel that fails stops it at 0xE. -/
theorem test_dramTrainingDone :
    ends (.dramTrainingDone 9 none) (atS 5) (fun s => s.get R.BOOT_STAT_STATUS == 7 && s.get (R.DG_STAT_STATE 7) == 2) = true ∧
    ends (.dramTrainingDone 9 (some 31)) (atS 5) (fun s => s.get R.BOOT_STAT_STATUS == 14 && s.flt.stopped) = true := by decide +kernel

/-- 14 R531, 18 Table 18.12: side A that does not read HOLD takes control in SOLO (STATUS 0x9), and drives HOLD. -/
theorem test_chipServes :
    ends (.chipServes 9) { atS 7 with whl.ready := true } (fun s => s.get R.BOOT_STAT_STATUS == 9 && s.dbl.role == .solo && s.dbl.tieOut == .hold) = true ∧
    ends (.chipServes 9) { atS 7 with whl.ready := true, dbl.tieIn := .hold } (fun s => s.dbl.role == .joining) = true := by decide +kernel

/-- 15 Table 15.4, 07 R276: PING is carried out, and its reply discarded where the session's port is not UP; a request of a session that does not exist is counted in RX_DISCARD. -/
theorem test_ping :
    ends (.ping 9 (rq [])) (srv true []) (fun s => s.out.length == 0 && s.get R.SCP_REQUESTS == 1 && s.get (R.PORT_TX_DISCARD 256) == 1) = true ∧
    ends (.ping 9 { rq [] with sess := 2 }) (srv true []) (fun s => s.out.length == 0 && s.get R.SCP_RX_DISCARD == 1) = true := by decide +kernel

/-- 17 Table 17.6: PERSONALISED to PROVISIONED is carried out; PERSONALISED to DEPLOYED is refused, and nothing is spent. -/
theorem test_lifecycleSet :
    ends (.lifecycleSet 9 (rq (tl 0x2B [2, 0, 0, 0]))) { srv true [grant 11 0 0 1] with keys.rngOk := true } (fun s => s.keys.life == 2 && s.keys.left == 62) = true ∧
    ends (.lifecycleSet 9 (rq (tl 0x2B [3, 0, 0, 0]))) (srv true [grant 11 0 0 1]) (fun s => s.keys.life == 1 && s.keys.left == 63) = true := by
  decide +kernel

/-- 17 R640, R641: a tamper of an armed input zeroes the battery half; of one not armed it does not. -/
theorem test_tamper :
    let s : State := { atS 8 with boot.pins := true, keys.battery := some 5, keys.life := 2 }
    ends (.tamper 9 1) ((s.set R.AON_STAT_ARMED 1).set R.AON_STAT_TAMPER_EN 2) (fun s => s.keys.battery.isNone && s.has R.AON_STAT_ZEROED) = true ∧
    ends (.tamper 9 1) s (fun s => s.keys.battery == some 5) = true := by decide +kernel

/-- 03 R124: a drain begins at the first multiple of 10 µs at least 50 µs on: 9 ns gives 60 µs. -/
theorem test_tileDrain :
    ends (.tileDrain 9 (rq (tl 0x22 [7, 0, 0, 0]))) { srv true [grant 9 0 0 1] with xp.tiles := List.replicate 8 .inService }
      (fun s => s.xp.drainAt == some (7, 60000)) = true ∧
    ends (.tileDrain 50000 (rq (tl 0x22 [0, 0, 0, 0]))) { srv true [grant 9 0 0 1] with xp.tiles := List.replicate 8 .inService }
      (fun s => s.xp.drainAt == some (0, 100000)) = true := by decide +kernel

/-- 03 R89, R90: a failed cell counts against its tile, and in the cluster's own counter; the frame that it was part of is dropped when it is declared
lost. -/
theorem test_cellCrcFail :
    ends (.cellCrcFail 9 3 15 0 0 true) (atS 5) (fun s => s.get (R.XT_CRC_CNT 3) == 1 && s.get (R.PC_XPR_CRC 15) == 1 && s.get (R.PC_XPR_BE_DROP 15) == 0) =
      true ∧
    ends (.cellCrcFail 9 3 16 0 0 true) (atS 5) (fun s => s.get (R.XT_CRC_CNT 3) == 1 && s.get (R.PC_XPR_CRC 15) == 0) = true := by decide +kernel

/-- 05 Table 5.3: signal takes a DARK lane to HUNT. -/
theorem test_sdiSignalPresent :
    ends (.sdiSignalPresent 9 255) ((atS 5).set (R.RX_STAT_STATE 255) 1) (fun s => s.rxState 255 == 2 && s.rxState 254 == 0) = true := by decide +kernel

/-- 07 R279: a frame of 63 bytes is a runt and nothing else is counted. -/
theorem test_ethFrameRx :
    ends (.ethFrameRx 9 257 (eth 63 true (.pause 0))) ((atS 5).set (R.PORT_STATE 257) 3)
      (fun s => s.get (R.PORT_RX_RUNT 257) == 1 && s.get (R.PORT_RX_FRAMES 257) == 0) = true ∧
    ends (.ethFrameRx 9 257 (eth 64 false (.pause 0))) ((atS 5).set (R.PORT_STATE 257) 3)
      (fun s => s.get (R.PORT_RX_FCS_ERR 257) == 1 && s.get (R.PORT_RX_RUNT 257) == 0) = true := by decide +kernel

/-- 12 Table 12.2: after 4 s within its limits an ACQUIRING Whorl is LOCKED; a nanosecond earlier it is not. -/
theorem test_whlLockReached :
    ends (.whlLockReached (4 * sec)) { whl 1 0 with whl.lockFrom := some 0 } (fun s => s.whlCur == 2 && s.get R.WHL_STATE_PREV == 1) = true ∧
    ends (.whlLockReached (4 * sec - 1)) { whl 1 0 with whl.lockFrom := some 0 } (fun s => s.whlCur == 1) = true := by decide +kernel

/-- 12 R446: a loss of XO_IN is F4: STATUS 0xF, detail 2. -/
theorem test_xoLoss :
    ends (.xoLoss 9) (atS 8) (fun s => s.flt.stopped && s.get R.BOOT_STAT_STATUS == 15 && s.get R.BOOT_STAT_DETAIL == 2) = true := by decide +kernel

/-- 14 Table 14.3: a STANDBY that loses the link and does not read HOLD takes control in SOLO; with HOLD it is DETACHED. -/
theorem test_dblLinkLoss :
    let s : State := { atS 8 with dbl.role := .standby, dbl.linkUp := true }
    ends (.dblLinkLoss 9 .none 0) s (fun s => s.dbl.role == .solo && s.has (fltBit 37)) = true ∧
    ends (.dblLinkLoss 9 .hold 0) s (fun s => s.dbl.role == .detached) = true := by decide +kernel

/-- 20 R710: an occurrence of class F2 latches its island and is captured. -/
theorem test_errorLine :
    ends (.errorLineOccurrence 9 12 0 3 0x0704 3 0x4C 0x123) (atS 5)
      (fun s => s.has (fltBit 12) && s.get R.FLT_CAP_ISLAND == 12 && s.get R.FLT_CAP_CODE == 0x0704 && s.get R.FLT_CAP_MASTER == 0x4C) = true := by
  decide +kernel

/-- 21 Table 21.4: one sample of the asserted levels takes the override from NORMAL to ASSERTED; levels that agree take it to DISCREPANT. -/
theorem test_evacSample :
    ends (.evacSample 9 true false) (atS 5) (fun s => s.probe.evac == .asserted && s.get R.EVAC_STATE == EvacSt.asserted.code) = true ∧
    ends (.evacSample 9 true true) (atS 5) (fun s => s.probe.evac == .discrepant) = true := by decide +kernel

/-- 22 R773: a failed transaction halts a running channel and latches the response. -/
theorem test_dmaHalt :
    ends (.dmaHalt 9 15 4 0x1234 true) ((atS 5).set (R.DMA_STATE 15) 1)
      (fun s => s.get (R.DMA_STATE 15) == 3 && s.get (R.DMA_ERR_RESP 15) == 4 && s.get (R.DMA_ERR_ADDR_LO 15) == 0x1234 && s.get (R.DMA_ERR_DIR 15) == 1) =
      true := by decide +kernel

/-- 00 R16: a write of ones clears a W1C bit that is set, and a write of a read-only register changes nothing. -/
theorem test_registerWrite :
    ends (.registerWrite 9 R.WHL_ERR_XO.addr (2 ^ R.WHL_ERR_XO.lo)) ((atS 5).set R.WHL_ERR_XO 1) (fun s => !s.has R.WHL_ERR_XO) = true ∧
    ends (.registerWrite 9 R.BOOT_STAT_STATUS.addr 0xFFFFFFFF) (atS 5) (fun s => s.get R.BOOT_STAT_STATUS == 5) = true := by decide +kernel
end Sys2Proof.Machine
end

/-! The proofs of the scope's statements: that every command keeps the form of the state, who writes the memory, the state after reset, and what
reaches the memory and the registers. The bulk is one rule `Keeps.f` for each operation `f` of the model that a command can reach: what `Keeps`
says of the state before still holds of the state after it. -/

namespace Sys2Proof.Machine

/-! ### `Keeps` by rewriting -/

/-- `Keeps` under a name that no rule rewrites: the alternative that `via` leaves aside. -/
def KeepsElse (a s : State) : Prop := Keeps a s

/-- `simp` does not look into the alternative that is left aside. -/
@[congr] theorem keepsElse_congr (a s : State) : KeepsElse a s = KeepsElse a s := rfl

/-- A rule for `Keeps` as an equivalence. `simp` nests side conditions two deep only, and a meaning chains many operations; equivalences chain
without side conditions. -/
theorem via {P : Prop} {a s : State} (h : P → Keeps a s) : Keeps a s ↔ P ∨ KeepsElse a s := ⟨.inr, fun k => k.elim h id⟩

section
variable {s₀ s : State} {α β γ δ : Type}

/-! ### The forms that meanings are built from -/

theorem Keeps.ite {x y : State} {p : Prop} [Decidable p] (h : Keeps s₀ x ∧ Keeps s₀ y) : Keeps s₀ (if p then x else y) := by
  split <;> [exact h.1; exact h.2]

theorem Keeps.ite_snd {x y : α × State} {p : Prop} [Decidable p] (h : Keeps s₀ x.2 ∧ Keeps s₀ y.2) : Keeps s₀ (if p then x else y).2 := by
  split <;> [exact h.1; exact h.2]

theorem Keeps.ite_snd₂ {x y : α × β × State} {p : Prop} [Decidable p] (h : Keeps s₀ x.2.2 ∧ Keeps s₀ y.2.2) :
    Keeps s₀ (if p then x else y).2.2 := by
  split <;> [exact h.1; exact h.2]

theorem Keeps.foldl {f : State → α → State} {l : List α} (h : Keeps s₀ s ∧ ∀ s x, Keeps s (f s x)) : Keeps s₀ (l.foldl f s) :=
  keeps_foldl (fun s x hs => hs.trans (h.2 s x)) l h.1

theorem Keeps.foldl_snd {f : β × State → α → β × State} {b : β × State} {l : List α} (h : Keeps s₀ b.2 ∧ ∀ b x, Keeps b.2 (f b x).2) :
    Keeps s₀ (l.foldl f b).2 :=
  keeps_foldl_of (·.2) (fun b x hb => hb.trans (h.2 b x)) l h.1

theorem Keeps.foldl_snd₃ {f : β × γ × δ × State → α → β × γ × δ × State} {b : β × γ × δ × State} {l : List α}
    (h : Keeps s₀ b.2.2.2 ∧ ∀ b x, Keeps b.2.2.2 (f b x).2.2.2) : Keeps s₀ (l.foldl f b).2.2.2 :=
  keeps_foldl_of (·.2.2.2) (fun b x hb => hb.trans (h.2 b x)) l h.1

/-- A fold over a state with something after it keeps what each of its steps keeps. -/
theorem Keeps.foldl_fst {f : State × β → α → State × β} {b : State × β} (hf : ∀ b x, Keeps b.1 (f b x).1) (l : List α) (hs : Keeps s₀ b.1) :
    Keeps s₀ (l.foldl f b).1 :=
  keeps_foldl_of (·.1) (fun b x hb => hb.trans (hf b x)) l hs

/-- The state beside a value, once the pair has been taken apart. -/
theorem Keeps.of_snd {x : α} {u : State} {p : α × State} (h : p = (x, u)) (hp : Keeps s₀ p.2) : Keeps s₀ u := by
  subst h; exact hp

/-- A record update that sets none of the parts that `Keeps` speaks of. -/
theorem Keeps.record {now free boot flt sicp xp sdi dbl bob dram aud mv probe eth ip whl keys spn skn rtc}
    (h : Keeps s₀ s ∧ boot.xspi = s.boot.xspi ∧ keys.life = s.keys.life ∧ keys.left = s.keys.left ∧ keys.rbSteps = s.keys.rbSteps) :
    Keeps s₀ ⟨now, s.up, free, s.pending, s.regs, s.wide, s.out, boot, flt, sicp, xp, sdi, dbl, bob, dram, aud, mv, probe, eth, ip, whl, keys, spn,
      skn, rtc⟩ := by
  obtain ⟨hs, hb, hl, hn, hr⟩ := h
  simpa only [keeps_mk, hb, hl, hn, hr, keepsParts_self] using hs

theorem keeps_record {now free boot flt sicp xp sdi dbl bob dram aud mv probe eth ip whl keys spn skn rtc} :
    Keeps s₀ ⟨now, s.up, free, s.pending, s.regs, s.wide, s.out, boot, flt, sicp, xp, sdi, dbl, bob, dram, aud, mv, probe, eth, ip, whl, keys, spn,
      skn, rtc⟩ ↔
      (Keeps s₀ s ∧ boot.xspi = s.boot.xspi ∧ keys.life = s.keys.life ∧ keys.left = s.keys.left ∧ keys.rbSteps = s.keys.rbSteps) ∨
        KeepsElse s₀ ⟨now, s.up, free, s.pending, s.regs, s.wide, s.out, boot, flt, sicp, xp, sdi, dbl, bob, dram, aud, mv, probe, eth, ip, whl,
          keys, spn, skn, rtc⟩ :=
  via Keeps.record

theorem Keeps.putWide {k v} (hs : Keeps s₀ s) : Keeps s₀ { s with wide := put k v s.wide } :=
  { hs with wide_ok := fun r => rising_put (hs.wide_ok r) }

/-! ### Registers, numbers and what is sent -/

theorem Keeps.setWord {k v} (hs : Keeps s₀ s) : Keeps s₀ (s.setWord k v) := State.setWord_keeps hs k v

theorem Keeps.set {f v} (hs : Keeps s₀ s) : Keeps s₀ (s.set f v) := hs.setWord

theorem Keeps.bump {f n} (hs : Keeps s₀ s) : Keeps s₀ (s.bump f n) := by
  simp only [State.bump, ↓via Keeps.set, ↓via Keeps.ite, hs, true_or, and_true]

theorem Keeps.peak {f v} (hs : Keeps s₀ s) : Keeps s₀ (s.peak f v) := by
  simp only [State.peak, ↓via Keeps.set, ↓via Keeps.ite, hs, true_or, and_true]

theorem Keeps.bump64 {f n} (hs : Keeps s₀ s) : Keeps s₀ (s.bump64 f n) := State.bump64_keeps hs f n

theorem Keeps.clearWindow {isl} (hs : Keeps s₀ s) : Keeps s₀ (s.clearWindow isl) := State.clearWindow_keeps hs isl

theorem Keeps.fresh (hs : Keeps s₀ s) : Keeps s₀ (s.fresh).2 := .record ⟨hs, rfl, rfl, rfl, rfl⟩

theorem Keeps.freshNot {n used} (hs : Keeps s₀ s) : Keeps s₀ (s.freshNot n used).2 := .record ⟨hs, rfl, rfl, rfl, rfl⟩

theorem Keeps.emit {o} (hs : Keeps s₀ s) : Keeps s₀ (s.emit o) := State.emit_keeps hs o

/-! ### The log blocks and staging -/

theorem Keeps.putBlocks {n} (hs : Keeps s₀ s) : Keeps s₀ (s.putBlocks n) := .record ⟨hs, rfl, rfl, rfl, rfl⟩

theorem Keeps.stageShow (hs : Keeps s₀ s) : Keeps s₀ s.stageShow := by
  simp only [State.stageShow, ↓via Keeps.set, hs, true_or]

/-- The bytes of a stage's header are not among those that `Keeps` speaks of. -/
theorem Keeps.writeStageHeader {d : List Byte} (hd : d.length ≤ 64) (hs : Keeps s₀ s) :
    Keeps s₀ { s with boot.xspi := memWrite s.boot.xspi s.stageBase d } := by
  have hx : ∀ x, ¬stageHeader x → x < s.stageBase ∨ s.stageBase + d.length ≤ x := by
    intro x hx
    unfold stageHeader at hx
    unfold State.stageBase
    split <;> omega
  exact { hs with
    mem_ok := fun m => memWrite_wf (hs.mem_ok m) _ _
    mem_eq := fun x h => (memByte_memWrite_other (hx x h)).trans (hs.mem_eq x h) }

theorem Keeps.zeroStage (hs : Keeps s₀ s) :
    Keeps s₀ s.zeroStage := hs.writeStageHeader (d := List.replicate 64 (0 : Byte)) (List.length_replicate.trans_le le_rfl)

/-! ### Faults, roles and events -/

theorem Keeps.sendVia {p m} (hs : Keeps s₀ s) : Keeps s₀ (s.sendVia p m) := by
  simp only [State.sendVia, ↓via Keeps.bump, ↓via Keeps.bump64, ↓via Keeps.fresh, ↓via Keeps.emit, ↓via Keeps.ite, hs, true_or, and_true]

theorem Keeps.dblData {n m} (hs : Keeps s₀ s) : Keeps s₀ (s.dblData n m) := by
  simp only [State.dblData, ↓via Keeps.emit, ↓keeps_record, hs, true_or, and_true]

theorem Keeps.publish {e} (hs : Keeps s₀ s) : Keeps s₀ (s.publish e) := by
  simp only [State.publish, ↓via Keeps.bump, ↓keeps_record, hs, true_or, and_true]

theorem Keeps.nextSeq {isl} (hs : Keeps s₀ s) : Keeps s₀ (s.nextSeq isl).2 := .record ⟨hs, rfl, rfl, rfl, rfl⟩

theorem Keeps.logRec {e} (hs : Keeps s₀ s) : Keeps s₀ (s.logRec e) := by
  simp only [State.logRec, ↓via Keeps.bump, ↓keeps_record, hs, true_or, and_true]

theorem Keeps.logOne {isl cls code detail extra} (hs : Keeps s₀ s) : Keeps s₀ (s.logOne isl cls code detail extra) := by
  simp only [State.logOne, ↓via Keeps.dblData, ↓via Keeps.publish, ↓via Keeps.nextSeq, ↓via Keeps.logRec, ↓via Keeps.ite, hs, true_or, and_true]

theorem Keeps.event {isl cls code detail} (hs : Keeps s₀ s) : Keeps s₀ (s.event isl cls code detail) := by
  simp only [State.event, ↓via Keeps.logOne, ↓via Keeps.ite, ↓keeps_record, hs, true_or, and_true]

theorem Keeps.fltSync (hs : Keeps s₀ s) : Keeps s₀ s.fltSync := by
  simp only [State.fltSync, ↓via Keeps.set, hs, true_or]

theorem Keeps.capture {isl cls code a} (hs : Keeps s₀ s) : Keeps s₀ (s.capture isl cls code a) := by
  simp only [State.capture, ↓via Keeps.set, ↓via Keeps.ite, hs, true_or, and_true]

theorem Keeps.latch {isl cls code a} (hs : Keeps s₀ s) : Keeps s₀ (s.latch isl cls code a) := by
  simp only [State.latch, ↓via Keeps.set, ↓via Keeps.fltSync, ↓via Keeps.capture, hs, true_or]

theorem Keeps.hold {isl tag cls code detail} (hs : Keeps s₀ s) : Keeps s₀ (s.hold isl tag cls code detail) := .record ⟨hs, rfl, rfl, rfl, rfl⟩

theorem Keeps.resolve {isl tag} (hs : Keeps s₀ s) : Keeps s₀ (s.resolve isl tag) := .record ⟨hs, rfl, rfl, rfl, rfl⟩

theorem Keeps.quietAll (hs : Keeps s₀ s) : Keeps s₀ s.quietAll := by
  simp only [State.quietAll, ↓via Keeps.setWord, ↓via Keeps.foldl, ↓keeps_record, hs, Keeps.refl, true_or, and_true, implies_true]

theorem Keeps.stageDiscard {cause} (hs : Keeps s₀ s) : Keeps s₀ (s.stageDiscard cause) := by
  fun_cases State.stageDiscard <;> simp only [↓via Keeps.stageShow, ↓via Keeps.zeroStage, ↓via Keeps.event, ↓keeps_record, hs, true_or, and_true]

theorem Keeps.sessShow {tenant} (hs : Keeps s₀ s) : Keeps s₀ (s.sessShow tenant) := by
  simp only [State.sessShow, ↓via Keeps.set, hs, true_or]

theorem Keeps.endSession {id} (hs : Keeps s₀ s) : Keeps s₀ (s.endSession id) := by
  unfold State.endSession
  split <;> simp only [↓via Keeps.stageDiscard, ↓via Keeps.sessShow, ↓via Keeps.ite, ↓keeps_record, hs, true_or, and_true]

theorem Keeps.ownSessionsEnd (hs : Keeps s₀ s) : Keeps s₀ s.ownSessionsEnd := by
  simp only [State.ownSessionsEnd, ↓via Keeps.sendVia, ↓via Keeps.stageDiscard, ↓via Keeps.sessShow, ↓via Keeps.ite, ↓via Keeps.foldl, ↓keeps_record,
    hs, Keeps.refl, true_or, and_true, implies_true]

theorem Keeps.setRole {r} (hs : Keeps s₀ s) : Keeps s₀ (s.setRole r) := by
  simp only [State.setRole, ↓via Keeps.set, ↓via Keeps.event, ↓via Keeps.sessShow, ↓via Keeps.ownSessionsEnd, ↓via Keeps.ite, ↓via Keeps.foldl,
    ↓keeps_record, hs, Keeps.refl, true_or, and_true, implies_true]

theorem Keeps.countYield (hs : Keeps s₀ s) : Keeps s₀ s.countYield := by
  simp only [State.countYield, ↓via Keeps.bump, ↓keeps_record, hs, true_or, and_true]

theorem Keeps.quietLater (hs : Keeps s₀ s) : Keeps s₀ s.quietLater := .record ⟨hs, rfl, rfl, rfl, rfl⟩

theorem Keeps.dblSend {typ close body} (hs : Keeps s₀ s) : Keeps s₀ (s.dblSend typ close body) := by
  simp only [State.dblSend, ↓via Keeps.emit, ↓keeps_record, hs, true_or, and_true]

theorem Keeps.yield (hs : Keeps s₀ s) : Keeps s₀ s.yield := by
  simp only [State.yield, ↓via Keeps.setRole, ↓via Keeps.countYield, ↓via Keeps.quietLater, ↓via Keeps.dblSend, ↓keeps_record, hs, true_or, and_true]

theorem Keeps.f3 (hs : Keeps s₀ s) : Keeps s₀ s.f3 := by
  unfold State.f3
  split <;> simp only [↓via Keeps.setRole, ↓via Keeps.countYield, ↓via Keeps.quietLater, ↓via Keeps.yield, ↓via Keeps.ite, ↓keeps_record, hs,
    true_or, and_true]

theorem Keeps.status {code detail} (hs : Keeps s₀ s) : Keeps s₀ (s.status code detail) := by
  simp only [State.status, ↓via Keeps.set, ↓via Keeps.fltSync, hs, true_or]

theorem Keeps.report {offset} (hs : Keeps s₀ s) : Keeps s₀ (s.report offset) := .record ⟨hs, rfl, rfl, rfl, rfl⟩

theorem Keeps.lastWrites {before} (hs : Keeps s₀ s) : Keeps s₀ (s.lastWrites before) := by
  simp only [State.lastWrites, ↓via Keeps.fresh, ↓via Keeps.putBlocks, ↓keeps_record, hs, true_or, and_true]

theorem Keeps.f4 {status detail} (hs : Keeps s₀ s) : Keeps s₀ (s.f4 status detail) := by
  simp only [State.f4, ↓via Keeps.quietAll, ↓via Keeps.status, ↓via Keeps.report, ↓via Keeps.lastWrites, ↓via Keeps.ite, ↓keeps_record, hs, true_or,
    and_true]

theorem Keeps.react {cls status detail} (hs : Keeps s₀ s) : Keeps s₀ (s.react cls status detail) := by
  simp only [State.react, ↓via Keeps.f3, ↓via Keeps.f4, ↓via Keeps.ite, hs, true_or, and_true]

theorem Keeps.raise {isl cls code tag detail a stop} (hs : Keeps s₀ s) : Keeps s₀ (s.raise isl cls code tag detail a stop) := by
  simp only [State.raise, ↓via Keeps.event, ↓via Keeps.latch, ↓via Keeps.hold, ↓via Keeps.react, hs, true_or]

theorem Keeps.islandError {f cls} (hs : Keeps s₀ s) : Keeps s₀ (s.islandError f cls) := by
  simp only [State.islandError, ↓via Keeps.event, ↓via Keeps.ite, ↓keeps_record, hs, true_or, and_true]

theorem Keeps.err {f cls a lasts stop} (hs : Keeps s₀ s) : Keeps s₀ (s.err f cls a lasts stop) := by
  simp only [State.err, ↓via Keeps.set, ↓via Keeps.latch, ↓via Keeps.hold, ↓via Keeps.react, ↓via Keeps.islandError, ↓via Keeps.ite, hs, true_or,
    and_true]

theorem Keeps.errNamed {f cls code detail a lasts} (hs : Keeps s₀ s) : Keeps s₀ (s.errNamed f cls code detail a lasts) := by
  simp only [State.errNamed, ↓via Keeps.set, ↓via Keeps.event, ↓via Keeps.raise, ↓via Keeps.ite, hs, true_or, and_true]

theorem Keeps.errDone {f} (hs : Keeps s₀ s) : Keeps s₀ (s.errDone f) := by
  simp only [State.errDone, ↓via Keeps.resolve, hs, true_or]

/-! ### Cells -/

theorem Keeps.setTile {n x} (hs : Keeps s₀ s) : Keeps s₀ (s.setTile n x) := by
  simp only [State.setTile, ↓via Keeps.set, ↓keeps_record, hs, true_or, and_true]

theorem Keeps.syncConns {keys} (hs : Keeps s₀ s) : Keeps s₀ (s.syncConns keys) := by
  simp only [State.syncConns, ↓via Keeps.foldl, ↓keeps_record, hs, Keeps.refl, true_or, and_true, implies_true]

theorem Keeps.countCells {from_ n} (hs : Keeps s₀ s) : Keeps s₀ (s.countCells from_ n) := by
  simp only [State.countCells, ↓via Keeps.bump64, ↓via Keeps.foldl, hs, Keeps.refl, true_or, and_true, implies_true]

theorem Keeps.beClear {c} (hs : Keeps s₀ s) : Keeps s₀ (s.beClear c) := by
  simp only [State.beClear, ↓via Keeps.bump, ↓via Keeps.ite, ↓keeps_record, hs, true_or, and_true]

theorem Keeps.overload {q e n} (hs : Keeps s₀ s) : Keeps s₀ (s.overload q e n).2 := by
  unfold State.overload
  (repeat' split) <;> simp only [↓via Keeps.bump, ↓via Keeps.peak, ↓via Keeps.beClear, ↓keeps_record, hs, true_or, and_true]

theorem Keeps.markLost {isl k frame n idx} (hs : Keeps s₀ s) : Keeps s₀ (s.markLost isl k frame n idx) := by
  simp only [State.markLost, ↓via Keeps.ite, ↓keeps_record, hs, true_or, and_true]

theorem Keeps.lostCells {n} (hs : Keeps s₀ s) : Keeps s₀ (s.lostCells n) := by
  simp only [State.lostCells, ↓via Keeps.bump, ↓via Keeps.err, ↓via Keeps.ite, hs, true_or, and_true]

theorem Keeps.dropMarks (hs : Keeps s₀ s) : Keeps s₀ s.dropMarks := .record ⟨hs, rfl, rfl, rfl, rfl⟩

theorem Keeps.freePeak {f bound} (hs : Keeps s₀ s) : Keeps s₀ (s.freePeak f bound) := hs.fresh.peak

theorem Keeps.queuePeaks {k} (hs : Keeps s₀ s) : Keeps s₀ (s.queuePeaks k) := by
  unfold State.queuePeaks
  split <;> simp only [↓via Keeps.freePeak, ↓via Keeps.foldl, hs, Keeps.refl, true_or, and_true, implies_true]

theorem Keeps.sendCells {k frame n} (hs : Keeps s₀ s) : Keeps s₀ (s.sendCells k frame n) := by
  unfold State.sendCells
  dsimp only
  (repeat' split) <;> simp only [↓via Keeps.countCells, ↓via Keeps.overload, ↓via Keeps.markLost, ↓via Keeps.queuePeaks, ↓via Keeps.ite,
    ↓via Keeps.foldl, ↓keeps_record, hs, Keeps.refl, true_or, and_true, implies_true]

theorem Keeps.fillCells {k samples} (hs : Keeps s₀ s) : Keeps s₀ (s.fillCells k samples).2 := by
  fun_cases State.fillCells <;> simp only [↓keeps_record, hs, true_or, and_true]

theorem Keeps.sendSlots {k samples} (hs : Keeps s₀ s) : Keeps s₀ (s.sendSlots k samples) := hs.fillCells.sendCells

theorem Keeps.meter {k cells spread} (hs : Keeps s₀ s) : Keeps s₀ (s.meter k cells spread).2 := by
  fun_cases State.meter <;> simp only [↓keeps_record, hs, true_or, and_true]

theorem Keeps.enterCells {k c frame cells spread} (hs : Keeps s₀ s) : Keeps s₀ (s.enterCells k c frame cells spread) := by
  simp only [State.enterCells, ↓via Keeps.bump, ↓via Keeps.markLost, ↓via Keeps.sendCells, ↓via Keeps.meter, ↓via Keeps.ite, ↓via Keeps.foldl, hs,
    Keeps.refl, true_or, and_true, implies_true]

theorem Keeps.enterSlots {k c samples spread} (hs : Keeps s₀ s) : Keeps s₀ (s.enterSlots k c samples spread) := by
  simp only [State.enterSlots, ↓via Keeps.fillCells, ↓via Keeps.enterCells, ↓via Keeps.ite, hs, true_or, and_true]

theorem Keeps.bePut {q size cells} (hs : Keeps s₀ s) : Keeps s₀ (s.bePut q size cells).2 := .record ⟨hs, rfl, rfl, rfl, rfl⟩

theorem Keeps.beEnter {c cells} (hs : Keeps s₀ s) : Keeps s₀ (s.beEnter c cells).2 := by
  simp only [State.beEnter, ↓via Keeps.bump, ↓via Keeps.bePut, ↓via Keeps.ite_snd, hs, true_or, and_true]

theorem Keeps.beCross {target from_ cells} (hs : Keeps s₀ s) : Keeps s₀ (s.beCross target from_ cells).2 := by
  simp only [State.beCross, ↓via Keeps.bump, ↓via Keeps.bump64, ↓via Keeps.bePut, ↓via Keeps.ite, ↓via Keeps.foldl_snd, hs, Keeps.refl, true_or,
    and_true, implies_true]

theorem Keeps.beSend {c target cells ports f} (hs : Keeps s₀ s) : Keeps s₀ (s.beSend c target cells ports f) := .record ⟨hs, rfl, rfl, rfl, rfl⟩

theorem Keeps.beLost {c target seq} (hs : Keeps s₀ s) : Keeps s₀ (s.beLost c target seq) := .record ⟨hs, rfl, rfl, rfl, rfl⟩

/-! ### Operands -/

theorem Keeps.setDst {i d} (hs : Keeps s₀ s) : Keeps s₀ (s.setDst i d) := .record ⟨hs, rfl, rfl, rfl, rfl⟩

/-! ### Rows of external memory -/

theorem Keeps.rowsMoved {write bytes} (hs : Keeps s₀ s) : Keeps s₀ (s.rowsMoved write bytes) := by
  simp only [State.rowsMoved, ↓via Keeps.fresh, ↓keeps_record, hs, true_or, and_true]

theorem Keeps.foldCount {a} (hs : Keeps s₀ s) : Keeps s₀ (s.foldCount a) := by
  unfold State.foldCount
  (repeat' split) <;> simp only [↓via Keeps.bump, ↓via Keeps.peak, ↓keeps_record, hs, true_or, and_true]

/-! ### Video probes -/

theorem Keeps.probeOne {v ys} (hs : Keeps s₀ s) : Keeps s₀ (s.probeOne v ys) := by
  simp only [State.probeOne, ↓via Keeps.set, ↓via Keeps.event, ↓via Keeps.ite, ↓keeps_record, hs, true_or, and_true]

theorem Keeps.measure {dest idx ys} (hs : Keeps s₀ s) : Keeps s₀ (s.measure dest idx ys) := by
  simp only [State.measure, ↓via Keeps.probeOne, ↓via Keeps.ite, ↓via Keeps.foldl, hs, Keeps.refl, true_or, and_true, implies_true]

/-! ### Frame synchronisers and source frames -/

theorem Keeps.countInner {key n inside} (hs : Keeps s₀ s) : Keeps s₀ (s.countInner key n inside) := .record ⟨hs, rfl, rfl, rfl, rfl⟩

theorem Keeps.freePic {format} (hs : Keeps s₀ s) : Keeps s₀ (s.freePic format).2 := .record ⟨hs, rfl, rfl, rfl, rfl⟩

theorem Keeps.countFrame {src f} (hs : Keeps s₀ s) : Keeps s₀ (s.countFrame src f) := by
  simp only [State.countFrame, ↓via Keeps.countInner, ↓via Keeps.foldl, hs, Keeps.refl, true_or, and_true, implies_true]

theorem Keeps.joinFrame {src n a same m first pic anc} (hs : Keeps s₀ s) : Keeps s₀ (s.joinFrame src n a same m first pic anc) := by
  unfold State.joinFrame
  dsimp only
  (repeat' split) <;> simp only [↓via Keeps.countFrame, ↓keeps_record, hs, true_or, and_true]

theorem Keeps.amendFrame {src f} (hs : Keeps s₀ s) : Keeps s₀ (s.amendFrame src f) := by
  fun_cases State.amendFrame <;> simp only [↓keeps_record, hs, true_or, and_true]

theorem Keeps.amendAt {src n f} (hs : Keeps s₀ s) : Keeps s₀ (s.amendAt src n f) := by
  fun_cases State.amendAt <;> simp only [↓keeps_record, hs, true_or, and_true]

theorem Keeps.setRing {src r} (hs : Keeps s₀ s) : Keeps s₀ (s.setRing src r) := .record ⟨hs, rfl, rfl, rfl, rfl⟩

theorem Keeps.ringStore {src r sl} (hs : Keeps s₀ s) : Keeps s₀ (s.ringStore src r sl) := by
  simp only [State.ringStore, ↓via Keeps.rowsMoved, ↓via Keeps.setRing, ↓via Keeps.ite, hs, true_or, and_true]

theorem Keeps.ringWrite {src measured sl} (hs : Keeps s₀ s) : Keeps s₀ (s.ringWrite src measured sl) := by
  fun_cases State.ringWrite <;> simp only [↓via Keeps.bump, ↓via Keeps.err, ↓via Keeps.ringStore, hs, true_or]

theorem Keeps.farWrite {src sl} (hs : Keeps s₀ s) : Keeps s₀ (s.farWrite src sl) := by
  fun_cases State.farWrite <;> simp only [↓via Keeps.err, ↓via Keeps.ringStore, hs, true_or]

theorem Keeps.ringAmend {src f} (hs : Keeps s₀ s) : Keeps s₀ (s.ringAmend src f) := by
  fun_cases State.ringAmend <;> simp only [↓via Keeps.setRing, hs, true_or]

theorem Keeps.ringAmendAt {src k f} (hs : Keeps s₀ s) : Keeps s₀ (s.ringAmendAt src k f) := by
  fun_cases State.ringAmendAt <;> simp only [↓via Keeps.setRing, hs, true_or]

theorem Keeps.readSlot {src n f l sl} (hs : Keeps s₀ s) : Keeps s₀ (s.readSlot src n f l sl) := by
  simp only [State.readSlot, ↓via Keeps.lostCells, ↓via Keeps.sendCells, ↓via Keeps.rowsMoved, hs, true_or]

theorem Keeps.selectFrame {src rate lines n f l} (hs : Keeps s₀ s) : Keeps s₀ (s.selectFrame src rate lines n f l) := by
  unfold State.selectFrame
  (repeat' split) <;> simp only [↓via Keeps.bump, ↓via Keeps.setRing, ↓via Keeps.readSlot, hs, true_or]

theorem Keeps.setBanks {k b} (hs : Keeps s₀ s) : Keeps s₀ (s.setBanks k b) := .record ⟨hs, rfl, rfl, rfl, rfl⟩

theorem Keeps.bankWrite {k n o v} (hs : Keeps s₀ s) : Keeps s₀ (s.bankWrite k n o v) := by
  simp only [State.bankWrite, ↓via Keeps.rowsMoved, ↓via Keeps.setBanks, ↓via Keeps.ite, ↓keeps_record, hs, true_or, and_true]

theorem Keeps.bankClear {k n} (hs : Keeps s₀ s) : Keeps s₀ (s.bankClear k n) := by
  simp only [State.bankClear, ↓via Keeps.setBanks, ↓keeps_record, hs, true_or, and_true]

theorem Keeps.stillRead {i rate n} (hs : Keeps s₀ s) : Keeps s₀ (s.stillRead i rate n) := by
  fun_cases State.stillRead <;> simp +zetaDelta only [↓via Keeps.sendCells, ↓via Keeps.rowsMoved, ↓via Keeps.setBanks, hs, true_or]

/-! ### The reception of requests -/

theorem Keeps.setBucket {b} (hs : Keeps s₀ s) : Keeps s₀ (s.setBucket b) := .record ⟨hs, rfl, rfl, rfl, rfl⟩

theorem Keeps.spend {p pair} (hs : Keeps s₀ s) : Keeps s₀ (s.spend p pair).2 := by
  simp only [State.spend, ↓via Keeps.setBucket, ↓via Keeps.ite_snd, hs, true_or, and_true]

theorem Keeps.setSess {id f} (hs : Keeps s₀ s) : Keeps s₀ (s.setSess id f) := .record ⟨hs, rfl, rfl, rfl, rfl⟩

theorem Keeps.reply {r} (hs : Keeps s₀ s) : Keeps s₀ (s.reply r) := by
  unfold State.reply
  split <;> simp only [↓via Keeps.sendVia, ↓via Keeps.setSess, hs, true_or]

theorem Keeps.refuse {r} (hs : Keeps s₀ s) : Keeps s₀ (s.refuse r) := by
  fun_cases State.refuse <;> simp only [↓via Keeps.sendVia, ↓via Keeps.setSess, hs, true_or]

theorem Keeps.replyC {r} (hs : Keeps s₀ s) : Keeps s₀ (s.replyC r) := .record ⟨hs, rfl, rfl, rfl, rfl⟩

theorem Keeps.badValue {c typ} (hs : Keeps s₀ s) : Keeps s₀ (s.badValue c typ) := hs.reply

theorem Keeps.badState {c} (hs : Keeps s₀ s) : Keeps s₀ (s.badState c) := hs.reply

theorem Keeps.busy {c retry} (hs : Keeps s₀ s) : Keeps s₀ (s.busy c retry) := hs.reply

theorem Keeps.noSignal {c typ} (hs : Keeps s₀ s) : Keeps s₀ (s.noSignal c typ) := hs.reply

theorem Keeps.ok {c ts} (hs : Keeps s₀ s) : Keeps s₀ (s.ok c ts) := hs.reply

theorem Keeps.enqueue {c cmd} (hs : Keeps s₀ s) : Keeps s₀ (s.enqueue c cmd) := .record ⟨hs, rfl, rfl, rfl, rfl⟩

theorem Keeps.handOff (hs : Keeps s₀ s) : Keeps s₀ s.handOff := by
  simp only [State.handOff, ↓via Keeps.bump, ↓via Keeps.dblSend, ↓via Keeps.ite, hs, true_or, and_true]

theorem Keeps.rateBusy {tenant} (hs : Keeps s₀ s) : Keeps s₀ (s.rateBusy tenant) := by
  simp only [State.rateBusy, ↓via Keeps.bump, hs, true_or]

theorem Keeps.rightsRefused {c m id w} (hs : Keeps s₀ s) : Keeps s₀ (s.rightsRefused c m id w) := by
  simp only [State.rightsRefused, ↓via Keeps.bump, ↓via Keeps.event, ↓via Keeps.refuse, hs, true_or]

theorem Keeps.duplicate {c id} (hs : Keeps s₀ s) : Keeps s₀ (s.duplicate c id) := by
  unfold State.duplicate
  split <;> simp only [↓via Keeps.bump, ↓via Keeps.spend, ↓via Keeps.refuse, hs, true_or]

theorem Keeps.judge_cases {m c q ts lacks} {body : State → Ctx → State} (hs : Keeps s₀ s) :
    Keeps s₀ (s.judge m c q ts lacks body) ∨ ∃ u x, Keeps s₀ u ∧ s.judge m c q ts lacks body = body u x := by
  fun_cases State.judge
  case case1 => exact .inl hs.bump.refuse
  case case2 => exact .inl hs.rightsRefused
  case case3 => exact .inl (Keeps.badValue (.record ⟨hs.setSess.bump, rfl, rfl, rfl, rfl⟩))
  case case4 => exact .inl (Keeps.badState (.record ⟨hs.setSess.bump, rfl, rfl, rfl, rfl⟩))
  case case5 => exact .inr ⟨_, _, .record ⟨hs.setSess.bump, rfl, rfl, rfl, rfl⟩, rfl⟩

theorem Keeps.dequeued {tenant n} (hs : Keeps s₀ s) : Keeps s₀ (s.dequeued tenant n) := hs.bump.set

theorem Keeps.fromQueue_cases {m c q lacks} {body : State → Ctx → State} (hs : Keeps s₀ s) :
    Keeps s₀ (s.fromQueue m c q lacks body) ∨ ∃ u x, Keeps s₀ u ∧ s.fromQueue m c q lacks body = body u x := by
  fun_cases State.fromQueue
  case case1 => exact .inl hs.dequeued.bump
  case case2 => exact .inl hs.dequeued.bump.refuse
  case case3 => exact Keeps.judge_cases hs.dequeued

/-- A request is answered by its reception alone, or it is accepted and acts. -/
theorem Keeps.request_cases {m q lacks} {body : State → Ctx → State} (hs : Keeps s₀ s) :
    Keeps s₀ (s.request m q lacks body) ∨ ∃ u x, Keeps s₀ u ∧ s.request m q lacks body = body u x := by
  fun_cases State.request
  case case1 => exact .inl hs.bump
  case case2 => exact .inl hs.handOff
  case case3 => exact .inl hs.setSess.spend.bump
  case case4 => exact .inl hs.setSess.duplicate
  case case5 hp _ _ => exact .inl (Keeps.of_snd hp hs.setSess.spend).rateBusy.refuse
  case case6 hp _ _ _ => exact .inl (Keeps.of_snd hp hs.setSess.spend).set.rateBusy.refuse
  case case7 hp _ _ => exact Keeps.fromQueue_cases (.of_snd hp hs.setSess.spend)

theorem Keeps.request {m q lacks} {body : State → Ctx → State} (h : Keeps s₀ s ∧ ∀ s x, Keeps s (body s x)) :
    Keeps s₀ (s.request m q lacks body) := by
  obtain h' | ⟨u, x, hu, e⟩ := Keeps.request_cases (m := m) (q := q) (lacks := lacks) (body := body) h.1
  · exact h'
  · exact e ▸ hu.trans (h.2 u x)

/-! ### The crosspoint -/

theorem Keeps.cellBad {tile isl} (hs : Keeps s₀ s) : Keeps s₀ (s.cellBad tile isl) := by
  simp only [State.cellBad, ↓via Keeps.bump, ↓via Keeps.err, ↓via Keeps.ite, ↓keeps_record, hs, true_or, and_true]

theorem Keeps.drainFailing {n} (hs : Keeps s₀ s) : Keeps s₀ (s.drainFailing n) := by
  unfold State.drainFailing
  split <;> simp only [↓via Keeps.resolve, ↓via Keeps.ite, ↓keeps_record, hs, true_or, and_true]

theorem Keeps.noSpare {c} (hs : Keeps s₀ s) : Keeps s₀ (s.noSpare c) := hs.bump.reply

theorem Keeps.crcEnded {n} (hs : Keeps s₀ s) : Keeps s₀ (s.crcEnded n) := by
  simp only [State.crcEnded, ↓via Keeps.resolve, ↓keeps_record, hs, true_or, and_true]

theorem Keeps.beginReset {isl} (hs : Keeps s₀ s) : Keeps s₀ (s.beginReset isl) := by
  simp only [State.beginReset, ↓via Keeps.set, ↓via Keeps.bump, ↓via Keeps.ite, ↓keeps_record, hs, true_or, and_true]

theorem Keeps.tileErr {n cause} (hs : Keeps s₀ s) : Keeps s₀ (s.tileErr n cause) := by
  simp only [State.tileErr, ↓via Keeps.set, ↓via Keeps.ite, hs, true_or, and_true]

theorem Keeps.tileFail {n cause a} (hs : Keeps s₀ s) : Keeps s₀ (s.tileFail n cause a) := by
  unfold State.tileFail
  (repeat' split) <;> simp only [↓via Keeps.latch, ↓via Keeps.hold, ↓via Keeps.resolve, ↓via Keeps.react, ↓via Keeps.setTile, ↓via Keeps.crcEnded,
    ↓via Keeps.beginReset, ↓via Keeps.tileErr, ↓via Keeps.ite, ↓keeps_record, hs, true_or, and_true]

theorem Keeps.tileDone {n good} (hs : Keeps s₀ s) : Keeps s₀ (s.tileDone n good) := by
  simp only [State.tileDone, ↓via Keeps.set, ↓via Keeps.clearWindow, ↓via Keeps.event, ↓via Keeps.resolve, ↓via Keeps.setTile, ↓via Keeps.ite, hs,
    true_or, and_true]

theorem Keeps.endTwoOut (hs : Keeps s₀ s) : Keeps s₀ s.endTwoOut := by
  simp only [State.endTwoOut, ↓via Keeps.resolve, ↓via Keeps.ite, ↓via Keeps.foldl, hs, Keeps.refl, true_or, and_true, implies_true]

theorem Keeps.drainHeld (hs : Keeps s₀ s) : Keeps s₀ s.drainHeld := by
  fun_cases State.drainHeld <;> simp only [↓via Keeps.drainFailing, hs, true_or]

/-! ### Faults found by the chip -/

theorem Keeps.errorEffect {f} (hs : Keeps s₀ s) : Keeps s₀ (s.errorEffect f) := by
  unfold State.errorEffect
  dsimp only
  (repeat' split) <;> simp only [↓via Keeps.bump, ↓via Keeps.fresh, ↓via Keeps.sendVia, ↓via Keeps.endSession, ↓keeps_record, hs, true_or, and_true]

theorem Keeps.logLost {cause offset} (hs : Keeps s₀ s) : Keeps s₀ (s.logLost cause offset) := by
  simp only [State.logLost, ↓via Keeps.set, ↓via Keeps.event, ↓via Keeps.fltSync, ↓via Keeps.capture, ↓keeps_record, hs, true_or, and_true]

theorem Keeps.ringHit {addr} (hs : Keeps s₀ s) : Keeps s₀ (s.ringHit addr) := by
  simp only [State.ringHit, ↓via Keeps.fresh, ↓via Keeps.logLost, ↓via Keeps.ite, ↓keeps_record, hs, true_or, and_true]

theorem Keeps.matrixResponse {resp typ master addr} (hs : Keeps s₀ s) : Keeps s₀ (s.matrixResponse resp typ master addr) := by
  simp only [State.matrixResponse, ↓via Keeps.set, ↓via Keeps.bump, ↓via Keeps.err, ↓via Keeps.ite, hs, true_or, and_true]

theorem Keeps.sensor {i r} (hs : Keeps s₀ s) : Keeps s₀ (s.sensor i r) := by
  fun_cases State.sensor <;> simp only [↓via Keeps.set, ↓via Keeps.err, ↓keeps_record, hs, true_or, and_true]

theorem Keeps.heat {top} (hs : Keeps s₀ s) : Keeps s₀ (s.heat top) := .record ⟨hs, rfl, rfl, rfl, rfl⟩

theorem Keeps.temperature {readings} (hs : Keeps s₀ s) : Keeps s₀ (s.temperature readings) := by
  fun_cases State.temperature <;> simp +zetaDelta only [↓via Keeps.set, ↓via Keeps.err, ↓via Keeps.errDone, ↓via Keeps.sensor, ↓via Keeps.heat,
    ↓via Keeps.ite, ↓via Keeps.foldl, hs, Keeps.refl, true_or, and_true, implies_true]

/-! ### External memory -/

theorem Keeps.setMask {m} (hs : Keeps s₀ s) : Keeps s₀ (s.setMask m) := by
  simp only [State.setMask, ↓via Keeps.set, ↓via Keeps.ite, ↓via Keeps.foldl, ↓keeps_record, hs, Keeps.refl, true_or, and_true, implies_true]

theorem Keeps.tierMask (hs : Keeps s₀ s) : Keeps s₀ s.tierMask := hs.setMask

theorem Keeps.tierOpen (hs : Keeps s₀ s) : Keeps s₀ s.tierOpen := hs.setMask

theorem Keeps.dramError {lp unc addr} (hs : Keeps s₀ s) : Keeps s₀ (s.dramError lp unc addr) := by
  simp only [State.dramError, ↓via Keeps.set, ↓via Keeps.bump, ↓via Keeps.err, ↓via Keeps.errNamed, ↓via Keeps.ite, hs, true_or, and_true]

theorem Keeps.rowOpened {lp addr} (hs : Keeps s₀ s) : Keeps s₀ (s.rowOpened lp addr) := by
  simp only [State.rowOpened, ↓via Keeps.ite, ↓keeps_record, hs, true_or, and_true]

theorem Keeps.changeTo {p b late} (hs : Keeps s₀ s) : Keeps s₀ (s.changeTo p b late) := by
  simp only [State.changeTo, ↓via Keeps.set, ↓keeps_record, hs, true_or, and_true]

theorem Keeps.selectPoint {booked b} (hs : Keeps s₀ s) : Keeps s₀ (s.selectPoint booked b) := by
  simp only [State.selectPoint, ↓via Keeps.changeTo, ↓via Keeps.ite, ↓keeps_record, hs, true_or, and_true]

theorem Keeps.movePoint {p} (hs : Keeps s₀ s) : Keeps s₀ (s.movePoint p) := by
  simp only [State.movePoint, ↓via Keeps.set, ↓via Keeps.bump, ↓via Keeps.foldl, ↓keeps_record, hs, Keeps.refl, true_or, and_true, implies_true]

theorem Keeps.pointLate (hs : Keeps s₀ s) : Keeps s₀ s.pointLate := by
  fun_cases State.pointLate <;> simp only [↓via Keeps.raise, ↓keeps_record, hs, true_or, and_true]

theorem Keeps.loadStill {i} (hs : Keeps s₀ s) : Keeps s₀ (s.loadStill i) := by
  simp only [State.loadStill, ↓via Keeps.setBanks, ↓via Keeps.bankWrite, ↓via Keeps.bankClear, ↓via Keeps.ite, ↓via Keeps.foldl, hs, Keeps.refl,
    true_or, and_true, implies_true]

theorem Keeps.loadSafety {h} (hs : Keeps s₀ s) : Keeps s₀ (s.loadSafety h) := .record ⟨hs, rfl, rfl, rfl, rfl⟩

theorem Keeps.loseBobbins (hs : Keeps s₀ s) : Keeps s₀ s.loseBobbins := .record ⟨hs, rfl, rfl, rfl, rfl⟩

theorem Keeps.recoverBobbins (hs : Keeps s₀ s) : Keeps s₀ s.recoverBobbins := by
  simp only [State.recoverBobbins, ↓via Keeps.set, ↓via Keeps.event, ↓via Keeps.loadStill, ↓via Keeps.loadSafety, ↓via Keeps.ite, ↓via Keeps.foldl,
    hs, Keeps.refl, true_or, and_true, implies_true]

theorem Keeps.dgDown {g cause} (hs : Keeps s₀ s) : Keeps s₀ (s.dgDown g cause) := by
  simp only [State.dgDown, ↓via Keeps.set, ↓via Keeps.clearWindow, ↓via Keeps.resolve, ↓via Keeps.raise, ↓via Keeps.beginReset,
    ↓via Keeps.loseBobbins, ↓via Keeps.ite, ↓keeps_record, hs, true_or, and_true]

theorem Keeps.dgUp {g good} (hs : Keeps s₀ s) : Keeps s₀ (s.dgUp g good) := by
  fun_cases State.dgUp <;> simp +zetaDelta only [↓via Keeps.set, ↓via Keeps.resolve, ↓via Keeps.err, ↓via Keeps.movePoint, ↓via Keeps.loseBobbins,
    ↓via Keeps.recoverBobbins, hs, true_or]

/-! ### Ports -/

theorem Keeps.setPort {p x} (hs : Keeps s₀ s) : Keeps s₀ (s.setPort p x) := .record ⟨hs, rfl, rfl, rfl, rfl⟩

theorem Keeps.portOn {p} (hs : Keeps s₀ s) : Keeps s₀ (s.portOn p) := hs.set.emit

theorem Keeps.sendEth {p f} (hs : Keeps s₀ s) : Keeps s₀ (s.sendEth p f) := by
  simp only [State.sendEth, ↓via Keeps.bump, ↓via Keeps.bump64, ↓via Keeps.fresh, ↓via Keeps.emit, ↓via Keeps.ite, hs, true_or, and_true]

theorem Keeps.sendBe {p lens} (hs : Keeps s₀ s) : Keeps s₀ (s.sendBe p lens) := by
  simp only [State.sendBe, ↓via Keeps.bump, ↓via Keeps.bump64, ↓via Keeps.emit, ↓via Keeps.ite, ↓via Keeps.foldl, hs, Keeps.refl, true_or, and_true,
    implies_true]

theorem Keeps.resume {p q} (hs : Keeps s₀ s) : Keeps s₀ (s.resume p q) := hs.set.setPort.sendBe

theorem Keeps.pausesEnd {p} (hs : Keeps s₀ s) : Keeps s₀ (s.pausesEnd p) := by
  simp only [State.pausesEnd, ↓via Keeps.resume, ↓via Keeps.foldl, hs, Keeps.refl, true_or, and_true, implies_true]

theorem Keeps.pauseQueue {p q quanta} (hs : Keeps s₀ s) : Keeps s₀ (s.pauseQueue p q quanta) := by
  simp only [State.pauseQueue, ↓via Keeps.set, ↓via Keeps.setPort, ↓via Keeps.resume, ↓via Keeps.ite, hs, true_or, and_true]

theorem Keeps.pauseFrame {p body} (hs : Keeps s₀ s) : Keeps s₀ (s.pauseFrame p body) := by
  unfold State.pauseFrame
  dsimp only
  split
  · simp only [↓via Keeps.bump, ↓via Keeps.pauseQueue, ↓via Keeps.ite, ↓via Keeps.foldl, hs, Keeps.refl, true_or, and_true, implies_true]
  · split
    · refine .foldl ⟨hs.bump, fun s q => ?_⟩
      split <;> simp only [↓via Keeps.pauseQueue, Keeps.refl, true_or]
    · exact hs.bump
  · exact hs.bump

theorem Keeps.forwardBe {p f} (hs : Keeps s₀ s) : Keeps s₀ (s.forwardBe p f) := by
  simp only [State.forwardBe, ↓via Keeps.bump, ↓via Keeps.setPort, ↓via Keeps.sendBe, ↓via Keeps.pausesEnd, ↓via Keeps.ite, hs, true_or, and_true]

theorem Keeps.phyCounts {p cor unc err} (hs : Keeps s₀ s) : Keeps s₀ (s.phyCounts p cor unc err) := by
  simp only [State.phyCounts, ↓via Keeps.bump, ↓via Keeps.fresh, ↓via Keeps.ite, ↓via Keeps.foldl, hs, Keeps.refl, true_or, and_true, implies_true]

theorem Keeps.ctrlMeter {p len} (hs : Keeps s₀ s) : Keeps s₀ (s.ctrlMeter p len).2 := by
  simp only [State.ctrlMeter, ↓via Keeps.bump, ↓via Keeps.setPort, ↓via Keeps.ite_snd, hs, true_or, and_true]

theorem Keeps.answer {p f} (hs : Keeps s₀ s) : Keeps s₀ (s.answer p f) := by
  fun_cases State.answer <;> simp only [↓via Keeps.sendEth, hs, true_or]

theorem Keeps.setPortState {p st} (hs : Keeps s₀ s) : Keeps s₀ (s.setPortState p st) := by
  simp only [State.setPortState, ↓via Keeps.set, ↓via Keeps.bump, ↓via Keeps.event, ↓via Keeps.pausesEnd, ↓via Keeps.ite, hs, true_or, and_true]

theorem Keeps.laneFlags {p sig cdr lock} (hs : Keeps s₀ s) : Keeps s₀ (s.laneFlags p sig cdr lock) := by
  simp only [State.laneFlags, ↓via Keeps.set, ↓via Keeps.foldl, hs, Keeps.refl, true_or, and_true, implies_true]

theorem Keeps.cut {p cut} (hs : Keeps s₀ s) : Keeps s₀ (s.cut p cut) := hs.bump

theorem Keeps.lanesLost {p} (hs : Keeps s₀ s) : Keeps s₀ (s.lanesLost p) := by
  simp only [State.lanesLost, ↓via Keeps.set, ↓via Keeps.fresh, ↓via Keeps.ite, ↓via Keeps.foldl, hs, Keeps.refl, true_or, and_true, implies_true]

theorem Keeps.readCounter {p i} (hs : Keeps s₀ s) : Keeps s₀ (s.readCounter p i) := by
  simp only [State.readCounter, ↓via Keeps.set, ↓via Keeps.setPort, ↓via Keeps.ite, ↓keeps_record, hs, true_or, and_true]

theorem Keeps.halfClear {p w} (hs : Keeps s₀ s) : Keeps s₀ (s.halfClear p w) := hs.setPort

/-! ### The Whorl -/

theorem Keeps.whlShow (hs : Keeps s₀ s) : Keeps s₀ s.whlShow := by
  simp only [State.whlShow, ↓via Keeps.set, ↓via Keeps.foldl, hs, Keeps.refl, true_or, and_true, implies_true]

theorem Keeps.foldPulse {k t} (hs : Keeps s₀ s) : Keeps s₀ (s.foldPulse k t) := by
  unfold State.foldPulse
  split <;> simp only [↓via Keeps.bump, ↓keeps_record, hs, true_or, and_true]

theorem Keeps.pulseShow (hs : Keeps s₀ s) : Keeps s₀ s.pulseShow := by
  simp only [State.pulseShow, ↓via Keeps.set, ↓via Keeps.foldPulse, ↓via Keeps.ite, ↓via Keeps.foldl, ↓keeps_record, hs, Keeps.refl, true_or,
    and_true, implies_true]

theorem Keeps.pulseStop (hs : Keeps s₀ s) : Keeps s₀ s.pulseStop := by
  simp only [State.pulseStop, ↓via Keeps.foldPulse, ↓via Keeps.foldl, ↓keeps_record, hs, Keeps.refl, true_or, and_true, implies_true]

theorem Keeps.setWhl {new} (hs : Keeps s₀ s) : Keeps s₀ (s.setWhl new) := by
  simp only [State.setWhl, ↓via Keeps.set, ↓via Keeps.event, ↓via Keeps.resolve, ↓via Keeps.raise, ↓via Keeps.whlShow, ↓via Keeps.pulseShow,
    ↓via Keeps.ite, ↓keeps_record, hs, true_or, and_true]

theorem Keeps.whlNone (hs : Keeps s₀ s) : Keeps s₀ s.whlNone := by
  simp only [State.whlNone, ↓via Keeps.setWhl, ↓via Keeps.ite, hs, true_or, and_true]

theorem Keeps.whlNew (hs : Keeps s₀ s) : Keeps s₀ s.whlNew := by
  simp only [State.whlNew, ↓via Keeps.setWhl, ↓via Keeps.ite, ↓keeps_record, hs, true_or, and_true]

theorem Keeps.utcTake (hs : Keeps s₀ s) : Keeps s₀ s.utcTake := by
  fun_cases State.utcTake <;> simp only [↓keeps_record, hs, true_or, and_true]

theorem Keeps.switchRef {r} (hs : Keeps s₀ s) : Keeps s₀ (s.switchRef r) := by
  unfold State.switchRef
  (repeat' split) <;> simp only [↓via Keeps.bump, ↓via Keeps.event, ↓via Keeps.whlShow, ↓via Keeps.whlNone, ↓via Keeps.whlNew, ↓via Keeps.utcTake,
    ↓keeps_record, hs, true_or, and_true]

theorem Keeps.reselect (hs : Keeps s₀ s) : Keeps s₀ s.reselect := by
  fun_cases State.reselect <;> simp only [↓via Keeps.switchRef, hs, true_or]

theorem Keeps.setInst {d x} (hs : Keeps s₀ s) : Keeps s₀ (s.setInst d x) := by
  simp only [State.setInst, ↓via Keeps.ite, ↓keeps_record, hs, true_or, and_true]

theorem Keeps.seeRef {r} (hs : Keeps s₀ s) : Keeps s₀ (s.seeRef r) := .record ⟨hs, rfl, rfl, rfl, rfl⟩

theorem Keeps.qualify {r} (hs : Keeps s₀ s) : Keeps s₀ (s.qualify r) := by
  simp only [State.qualify, ↓via Keeps.set, ↓via Keeps.whlShow, ↓via Keeps.reselect, ↓via Keeps.seeRef, ↓keeps_record, hs, true_or, and_true]

theorem Keeps.disqualify {r} (hs : Keeps s₀ s) : Keeps s₀ (s.disqualify r) := by
  simp only [State.disqualify, ↓via Keeps.set, ↓via Keeps.bump, ↓via Keeps.whlShow, ↓via Keeps.reselect, ↓via Keeps.ite, ↓keeps_record, hs, true_or,
    and_true]

theorem Keeps.annTimeout {d} (hs : Keeps s₀ s) : Keeps s₀ (s.annTimeout d) := hs.setInst.bump

theorem Keeps.bmca {d} (hs : Keeps s₀ s) : Keeps s₀ (s.bmca d) := by
  simp only [State.bmca, ↓via Keeps.setInst, ↓via Keeps.disqualify, ↓via Keeps.ite, hs, true_or, and_true]

theorem Keeps.ptpShow {d} (hs : Keeps s₀ s) : Keeps s₀ (s.ptpShow d) := by
  simp only [State.ptpShow, ↓via Keeps.set, ↓via Keeps.utcTake, ↓via Keeps.ite, hs, true_or, and_true]

theorem Keeps.utcShow (hs : Keeps s₀ s) : Keeps s₀ s.utcShow := by
  simp only [State.utcShow, ↓via Keeps.set, hs, true_or]

theorem Keeps.ptpOffset {d raw} (hs : Keeps s₀ s) : Keeps s₀ (s.ptpOffset d raw) := by
  simp only [State.ptpOffset, ↓via Keeps.bump, ↓via Keeps.setInst, ↓keeps_record, hs, true_or, and_true]

theorem Keeps.ptpMs {d p t1 t2} (hs : Keeps s₀ s) : Keeps s₀ (s.ptpMs d p t1 t2) := hs.setInst.bump.ptpOffset

theorem Keeps.ptpOne {d p asym m} (hs : Keeps s₀ s) : Keeps s₀ (s.ptpOne d p asym m) := by
  fun_cases State.ptpOne <;> simp +zetaDelta only [↓via Keeps.bump, ↓via Keeps.sendEth, ↓via Keeps.setInst, ↓via Keeps.bmca, ↓via Keeps.ptpShow,
    ↓via Keeps.utcShow, ↓via Keeps.ptpMs, ↓via Keeps.ite, hs, true_or, and_true]

theorem Keeps.ptpRx {p m} (hs : Keeps s₀ s) : Keeps s₀ (s.ptpRx p m) := by
  fun_cases State.ptpRx <;> simp only [↓via Keeps.bump, ↓via Keeps.seeRef, ↓via Keeps.ptpOne, ↓via Keeps.foldl, hs, Keeps.refl, true_or, and_true,
    implies_true]

theorem Keeps.writeNco {w} (hs : Keeps s₀ s) : Keeps s₀ (s.writeNco w) := by
  simp only [State.writeNco, ↓via Keeps.err, ↓via Keeps.errDone, ↓via Keeps.ite, ↓keeps_record, hs, true_or, and_true]

theorem Keeps.lockSpans (hs : Keeps s₀ s) : Keeps s₀ s.lockSpans := by
  fun_cases State.lockSpans <;> simp only [↓keeps_record, hs, true_or, and_true]

theorem Keeps.recount {d} (hs : Keeps s₀ s) : Keeps s₀ (s.recount d) := .record ⟨hs, rfl, rfl, rfl, rfl⟩

theorem Keeps.setTime {t} (hs : Keeps s₀ s) : Keeps s₀ (s.setTime t) := by
  simp only [State.setTime, ↓via Keeps.recount, ↓keeps_record, hs, true_or, and_true]

theorem Keeps.firstTime (hs : Keeps s₀ s) : Keeps s₀ s.firstTime := by
  fun_cases State.firstTime <;> simp +zetaDelta only [↓via Keeps.setTime, ↓keeps_record, hs, true_or, and_true]

theorem Keeps.phaseStep (hs : Keeps s₀ s) : Keeps s₀ s.phaseStep := by
  unfold State.phaseStep
  split <;> simp only [↓via Keeps.setTime, ↓keeps_record, hs, true_or, and_true]

theorem Keeps.ptpStep (hs : Keeps s₀ s) : Keeps s₀ s.ptpStep := by
  unfold State.ptpStep
  split <;> simp only [↓via Keeps.setTime, ↓via Keeps.phaseStep, ↓keeps_record, hs, true_or, and_true]

theorem Keeps.whlDown (hs : Keeps s₀ s) : Keeps s₀ s.whlDown := by
  simp only [State.whlDown, ↓via Keeps.clearWindow, ↓via Keeps.quietAll, ↓via Keeps.raise, ↓via Keeps.beginReset, ↓via Keeps.pulseShow,
    ↓via Keeps.ite, ↓keeps_record, hs, true_or, and_true]

theorem Keeps.whlUp {good} (hs : Keeps s₀ s) : Keeps s₀ (s.whlUp good) := by
  simp only [State.whlUp, ↓via Keeps.set, ↓via Keeps.resolve, ↓via Keeps.f4, ↓via Keeps.whlShow, ↓via Keeps.firstTime, ↓via Keeps.ite, hs, true_or,
    and_true]

/-! ### Sessions and requests of chip scope -/

theorem Keeps.authFail {reason peer} (hs : Keeps s₀ s) : Keeps s₀ (s.authFail reason peer) := hs.event

theorem Keeps.hsFail {h alert} (hs : Keeps s₀ s) : Keeps s₀ (s.hsFail h alert) := hs.bump.sendVia

theorem Keeps.hsDrop {h} (hs : Keeps s₀ s) : Keeps s₀ (s.hsDrop h) := hs.bump.sendVia

theorem Keeps.openSession {h tenant princ} (hs : Keeps s₀ s) : Keeps s₀ (s.openSession h tenant princ) := by
  simp only [State.openSession, ↓via Keeps.bump, ↓via Keeps.freshNot, ↓via Keeps.sendVia, ↓via Keeps.sessShow, ↓keeps_record, hs, true_or, and_true]

theorem Keeps.handshake {h} (hs : Keeps s₀ s) : Keeps s₀ (s.handshake h) := by
  fun_cases State.handshake <;> simp only [↓via Keeps.authFail, ↓via Keeps.hsFail, ↓via Keeps.hsDrop, ↓via Keeps.openSession, hs, true_or]

theorem Keeps.authenticated {c} (hs : Keeps s₀ s) : Keeps s₀ (s.authenticated c) := hs.setSess.spend

theorem Keeps.clearIsland {n} (hs : Keeps s₀ s) : Keeps s₀ (s.clearIsland n) := by
  simp only [State.clearIsland, ↓via Keeps.set, ↓via Keeps.event, ↓via Keeps.latch, ↓via Keeps.ite, ↓keeps_record, hs, true_or, and_true]

theorem Keeps.clearCapture (hs : Keeps s₀ s) : Keeps s₀ s.clearCapture := by
  simp only [State.clearCapture, ↓via Keeps.set, ↓via Keeps.foldl, hs, Keeps.refl, true_or, and_true, implies_true]

theorem Keeps.faultClear {m} (hs : Keeps s₀ s) : Keeps s₀ (s.faultClear m) := by
  simp only [State.faultClear, ↓via Keeps.set, ↓via Keeps.event, ↓via Keeps.fltSync, ↓via Keeps.capture, ↓via Keeps.clearIsland,
    ↓via Keeps.clearCapture, ↓via Keeps.ite, ↓via Keeps.foldl, ↓keeps_record, hs, Keeps.refl, true_or, and_true, implies_true]

theorem Keeps.newHandle (hs : Keeps s₀ s) : Keeps s₀ (s.newHandle).2 := hs.freshNot

/-! ### Keys and the always-on domain -/

theorem Keeps.setKslot {k x} (hs : Keeps s₀ s) : Keeps s₀ (s.setKslot k x) := .record ⟨hs, rfl, rfl, rfl, rfl⟩

theorem Keeps.consumers (hs : Keeps s₀ s) : Keeps s₀ s.consumers := by
  simp only [State.consumers, ↓via Keeps.resolve, ↓via Keeps.raise, ↓via Keeps.ite, ↓keeps_record, hs, true_or, and_true]

theorem Keeps.unusableAll (hs : Keeps s₀ s) : Keeps s₀ s.unusableAll := .record ⟨hs, rfl, rfl, rfl, rfl⟩

theorem Keeps.drawHalf (hs : Keeps s₀ s) : Keeps s₀ s.drawHalf := .record ⟨hs, rfl, rfl, rfl, rfl⟩

theorem Keeps.loadSlots (hs : Keeps s₀ s) : Keeps s₀ s.loadSlots := .record ⟨hs, rfl, rfl, rfl, rfl⟩

theorem Keeps.emptySlot {k} (hs : Keeps s₀ s) : Keeps s₀ (s.emptySlot k) := by
  simp only [State.emptySlot, ↓via Keeps.bump, ↓via Keeps.setKslot, ↓via Keeps.ite, hs, true_or, and_true]

theorem Keeps.emptySlots {p} (hs : Keeps s₀ s) : Keeps s₀ (s.emptySlots p) := by
  simp only [State.emptySlots, ↓via Keeps.emptySlot, ↓via Keeps.ite, ↓via Keeps.foldl, hs, Keeps.refl, true_or, and_true, implies_true]

theorem Keeps.keyReady {c body} (h : Keeps s₀ s ∧ ∀ s, Keeps s (body s)) : Keeps s₀ (s.keyReady c body) := by
  obtain ⟨hs, hb⟩ := h
  fun_cases State.keyReady
  case case1 => exact hs.busy
  case case2 => exact hs.badState
  case case3 => exact hs.badState
  case case4 => exact hs.trans (hb s)

theorem Keeps.fillSlot {k use origin kind} (hs : Keeps s₀ s) : Keeps s₀ (s.fillSlot k use origin kind) := hs.fresh.setKslot.consumers

theorem Keeps.unwrap {c k use w good} (hs : Keeps s₀ s) : Keeps s₀ (s.unwrap c k use w good) := by
  simp only [State.unwrap, ↓via Keeps.bump, ↓via Keeps.badValue, ↓via Keeps.ok, ↓via Keeps.setKslot, ↓via Keeps.fillSlot, ↓via Keeps.ite, hs,
    true_or, and_true]

theorem Keeps.lifeEffects {to_} (hs : Keeps s₀ s) : Keeps s₀ (s.lifeEffects to_) := by
  simp only [State.lifeEffects, ↓via Keeps.set, ↓via Keeps.drawHalf, ↓via Keeps.emptySlots, ↓via Keeps.ite, ↓keeps_record, hs, true_or, and_true]

theorem Keeps.aonLost {code detail} (hs : Keeps s₀ s) : Keeps s₀ (s.aonLost code detail) := by
  simp only [State.aonLost, ↓via Keeps.set, ↓via Keeps.event, ↓via Keeps.fltSync, ↓via Keeps.capture, hs, true_or]

theorem Keeps.rtcSeconds (hs : Keeps s₀ s) : Keeps s₀ (s.rtcSeconds).2 := by
  fun_cases State.rtcSeconds <;> simp only [↓via Keeps.fresh, hs, true_or]

theorem Keeps.keyDown (hs : Keeps s₀ s) : Keeps s₀ s.keyDown := by
  simp only [State.keyDown, ↓via Keeps.clearWindow, ↓keeps_record, hs, true_or, and_true]

theorem Keeps.keyUp (hs : Keeps s₀ s) : Keeps s₀ s.keyUp := by
  simp only [State.keyUp, ↓via Keeps.errDone, ↓via Keeps.consumers, ↓via Keeps.drawHalf, ↓via Keeps.loadSlots, ↓via Keeps.ite, ↓keeps_record, hs,
    true_or, and_true]

/-! ### The journal and the log in the memory -/

theorem Keeps.journalShow (hs : Keeps s₀ s) : Keeps s₀ s.journalShow := by
  simp only [State.journalShow, ↓via Keeps.set, hs, true_or]

theorem Keeps.journalAdd {i} (hs : Keeps s₀ s) : Keeps s₀ (s.journalAdd i) := by
  simp only [State.journalAdd, ↓via Keeps.bump, ↓via Keeps.journalShow, ↓via Keeps.ite, ↓keeps_record, hs, true_or, and_true]

theorem Keeps.beginCheckpoint {items} (hs : Keeps s₀ s) : Keeps s₀ (s.beginCheckpoint items) := by
  simp only [State.beginCheckpoint, ↓via Keeps.journalShow, ↓keeps_record, hs, true_or, and_true]

theorem Keeps.putRecord {b ckpt t whole} (hs : Keeps s₀ s) : Keeps s₀ (s.putRecord b ckpt t whole) := .record ⟨hs, rfl, rfl, rfl, rfl⟩

theorem Keeps.recordDone {b} (hs : Keeps s₀ s) : Keeps s₀ (s.recordDone b) := by
  unfold State.recordDone
  dsimp only
  (repeat' split) <;> simp only [↓via Keeps.bump, ↓via Keeps.journalShow, ↓keeps_record, hs, true_or, and_true]

theorem Keeps.xrdOpen {len} (hs : Keeps s₀ s) : Keeps s₀ (s.xrdOpen len) := by
  simp only [State.xrdOpen, ↓via Keeps.set, ↓via Keeps.ite, ↓keeps_record, hs, true_or, and_true]

theorem Keeps.xrdNext (hs : Keeps s₀ s) : Keeps s₀ (s.xrdNext).2 := by
  fun_cases State.xrdNext <;> simp only [↓via Keeps.set, ↓via Keeps.ite, ↓keeps_record, hs, true_or, and_true]

theorem Keeps.bootDown (hs : Keeps s₀ s) : Keeps s₀ s.bootDown := by
  unfold State.bootDown
  have h1 := hs.stageDiscard (cause := 4)
  generalize s.stageDiscard 4 = u at h1
  exact Keeps.journalShow (Keeps.stageShow { h1 with regs_ok := fun r => canonical_filter (h1.regs_ok r) })

/-! ### The evacuation override -/

theorem Keeps.evacShow (hs : Keeps s₀ s) : Keeps s₀ s.evacShow := by
  simp only [State.evacShow, ↓via Keeps.set, ↓via Keeps.ite, hs, true_or, and_true]

theorem Keeps.evacReport (hs : Keeps s₀ s) : Keeps s₀ s.evacReport := by
  simp only [State.evacReport, ↓via Keeps.dblSend, ↓via Keeps.ite, hs, true_or, and_true]

theorem Keeps.evacAssert {count} (hs : Keeps s₀ s) : Keeps s₀ (s.evacAssert count) := by
  simp only [State.evacAssert, ↓via Keeps.bump, ↓via Keeps.ite, ↓keeps_record, hs, true_or, and_true]

theorem Keeps.latchDisc {a b} (hs : Keeps s₀ s) : Keeps s₀ (s.latchDisc a b) := by
  simp only [State.latchDisc, ↓via Keeps.bump, ↓via Keeps.raise, ↓keeps_record, hs, true_or, and_true]

theorem Keeps.evacStep {a b} (hs : Keeps s₀ s) : Keeps s₀ (s.evacStep a b) := by
  unfold State.evacStep
  split <;> simp only [↓via Keeps.event, ↓via Keeps.evacAssert, ↓via Keeps.latchDisc, ↓via Keeps.ite, ↓keeps_record, hs, true_or, and_true]

theorem Keeps.twinEvac {st disc low} (hs : Keeps s₀ s) : Keeps s₀ (s.twinEvac st disc low) := by
  simp only [State.twinEvac, ↓via Keeps.event, ↓via Keeps.evacShow, ↓via Keeps.ite, ↓keeps_record, hs, true_or, and_true]

theorem Keeps.evacCleared {princ} (hs : Keeps s₀ s) : Keeps s₀ (s.evacCleared princ) := by
  simp only [State.evacCleared, ↓via Keeps.event, ↓via Keeps.resolve, ↓via Keeps.evacShow, ↓via Keeps.evacReport, ↓via Keeps.ite, ↓keeps_record, hs,
    true_or, and_true]

/-! ### IP flows -/

theorem Keeps.flowShow {i} (hs : Keeps s₀ s) : Keeps s₀ (s.flowShow i) := by
  simp only [State.flowShow, ↓via Keeps.set, hs, true_or]

theorem Keeps.setFlow {i x} (hs : Keeps s₀ s) : Keeps s₀ (s.setFlow i x) := by
  simp only [State.setFlow, ↓via Keeps.flowShow, ↓keeps_record, hs, true_or, and_true]

theorem Keeps.setTable {c t} (hs : Keeps s₀ s) : Keeps s₀ (s.setTable c t) := by
  simp only [State.setTable, ↓via Keeps.set, ↓keeps_record, hs, true_or, and_true]

theorem Keeps.placeEntry {k w on} (hs : Keeps s₀ s) : Keeps s₀ (s.placeEntry k w on).2 := by
  fun_cases State.placeEntry <;> simp only [↓via Keeps.bump, ↓via Keeps.setTable, ↓keeps_record, hs, true_or, and_true]

theorem Keeps.removeLeg {c flow leg on} (hs : Keeps s₀ s) : Keeps s₀ (s.removeLeg c flow leg on) := hs.setTable

theorem Keeps.enableLeg {c flow leg} (hs : Keeps s₀ s) : Keeps s₀ (s.enableLeg c flow leg) := hs.setTable

theorem Keeps.sendReport {p r} (hs : Keeps s₀ s) : Keeps s₀ (s.sendReport p r) := hs.bump.sendEth

theorem Keeps.changeReport {k saddr ssm leave} (hs : Keeps s₀ s) : Keeps s₀ (s.changeReport k saddr ssm leave) := by
  simp only [State.changeReport, ↓via Keeps.sendReport, ↓via Keeps.ite, ↓keeps_record, hs, true_or, and_true]

theorem Keeps.joinLeg {k saddr ssm} (hs : Keeps s₀ s) : Keeps s₀ (s.joinLeg k saddr ssm) := by
  simp only [State.joinLeg, ↓via Keeps.changeReport, ↓via Keeps.ite, hs, true_or, and_true]

theorem Keeps.leaveLeg {k saddr ssm} (hs : Keeps s₀ s) : Keeps s₀ (s.leaveLeg k saddr ssm) := by
  simp only [State.leaveLeg, ↓via Keeps.changeReport, ↓via Keeps.ite, hs, true_or, and_true]

theorem Keeps.membershipQuery {p v6 version group sources} (hs : Keeps s₀ s) : Keeps s₀ (s.membershipQuery p v6 version group sources) := by
  simp only [State.membershipQuery, ↓via Keeps.bump, ↓via Keeps.sendReport, ↓via Keeps.ite, ↓via Keeps.foldl, ↓keeps_record, hs, Keeps.refl, true_or,
    and_true, implies_true]

theorem Keeps.ownLeg {i k o} (hs : Keeps s₀ s) : Keeps s₀ (s.ownLeg i k o) := hs.setFlow

theorem Keeps.joinFlow {i} (hs : Keeps s₀ s) : Keeps s₀ (s.joinFlow i) := by
  simp only [State.joinFlow, ↓via Keeps.setFlow, ↓via Keeps.joinLeg, ↓via Keeps.ite, ↓via Keeps.foldl, hs, Keeps.refl, true_or, and_true,
    implies_true]

theorem Keeps.flowStops {i} (hs : Keeps s₀ s) : Keeps s₀ (s.flowStops i) := by
  simp only [State.flowStops, ↓via Keeps.set, ↓via Keeps.ite, hs, true_or, and_true]

theorem Keeps.leaveFlow {i} (hs : Keeps s₀ s) : Keeps s₀ (s.leaveFlow i) := by
  simp only [State.leaveFlow, ↓via Keeps.setFlow, ↓via Keeps.leaveLeg, ↓via Keeps.flowStops, ↓via Keeps.ite, ↓via Keeps.foldl, hs, Keeps.refl,
    true_or, and_true, implies_true]

theorem Keeps.placeFlow {i x} (hs : Keeps s₀ s) : Keeps s₀ (s.placeFlow i x) := by
  have hu {k : Nat} (b : Bool × State) : Keeps b.2 (match x.legs[k]? with
      | some l => (b.1 && (b.2.placeEntry l.key (.leg i k) true).1, (b.2.placeEntry l.key (.leg i k) true).2)
      | none => b).2 := by
    split
    · exact (Keeps.refl _).placeEntry
    · exact .refl _
  fun_cases State.placeFlow
  case case1 hp _ => exact (Keeps.of_snd hp (.foldl_snd ⟨hs, fun b _ => hu b⟩)).setFlow
  case case2 hp _ _ _ =>
    exact Keeps.event (.foldl ⟨(Keeps.of_snd hp (.foldl_snd ⟨hs, fun b _ => hu b⟩)).setFlow, fun s k => (Keeps.refl s).removeLeg⟩)

theorem Keeps.joinPlaced {i} (hs : Keeps s₀ s) : Keeps s₀ (s.joinPlaced i) := by
  simp only [State.joinPlaced, ↓via Keeps.joinFlow, ↓via Keeps.ite, hs, true_or, and_true]

theorem Keeps.flowStart (hs : Keeps s₀ s) : Keeps s₀ s.flowStart := by
  simp only [State.flowStart, ↓via Keeps.placeEntry, ↓via Keeps.placeFlow, ↓via Keeps.joinPlaced, ↓via Keeps.ite_snd, ↓via Keeps.foldl_snd, hs,
    Keeps.refl, true_or, and_true, implies_true]

theorem Keeps.buildTable {c l} (hs : Keeps s₀ s) : Keeps s₀ (s.buildTable c l) := by
  refine .foldl ⟨hs.setTable, fun s e => ?_⟩
  dsimp only
  have h1 := (Keeps.refl s).placeEntry (k := e.1) (w := e.2.1) (on := e.2.2)
  split
  · simpa only [*] using h1
  · rename_i heq
    rw [heq] at h1
    split
    · exact (h1.setFlow).event
    · exact h1

theorem Keeps.flowRebuild {c} (hs : Keeps s₀ s) : Keeps s₀ (s.flowRebuild c) := by
  simp only [State.flowRebuild, ↓via Keeps.setFlow, ↓via Keeps.joinFlow, ↓via Keeps.buildTable, ↓via Keeps.foldl, hs, Keeps.refl, true_or, and_true,
    implies_true]

theorem Keeps.bindPlaced (hs : Keeps s₀ s) : Keeps s₀ s.bindPlaced := by
  simp only [State.bindPlaced, ↓via Keeps.setFlow, ↓via Keeps.joinPlaced, ↓via Keeps.foldl, hs, Keeps.refl, true_or, and_true, implies_true]

theorem Keeps.takeTable {key entries legs} (hs : Keeps s₀ s) : Keeps s₀ (s.takeTable key entries legs) := by
  simp only [State.takeTable, ↓via Keeps.setFlow, ↓via Keeps.joinFlow, ↓via Keeps.leaveFlow, ↓via Keeps.buildTable, ↓via Keeps.bindPlaced,
    ↓via Keeps.ite, ↓via Keeps.foldl, ↓keeps_record, hs, Keeps.refl, true_or, and_true, implies_true]

theorem Keeps.flowInsert {i ch} (hs : Keeps s₀ s) : Keeps s₀ (s.flowInsert i ch).2 := by
  simp only [State.flowInsert, ↓via Keeps.bump, ↓via Keeps.placeEntry, ↓via Keeps.removeLeg, ↓via Keeps.ite_snd, ↓via Keeps.foldl,
    ↓via Keeps.foldl_snd, hs, Keeps.refl, true_or, and_true, implies_true]

theorem Keeps.flowSetApply {i legs at_} (hs : Keeps s₀ s) : Keeps s₀ (s.flowSetApply i legs at_) := by
  simp only [State.flowSetApply, ↓via Keeps.setFlow, ↓via Keeps.joinLeg, ↓via Keeps.flowInsert, ↓via Keeps.ite, ↓via Keeps.foldl, hs, Keeps.refl,
    true_or, and_true, implies_true]

theorem Keeps.flowBad {i} (hs : Keeps s₀ s) : Keeps s₀ (s.flowBad i) := by
  simp only [State.flowBad, ↓via Keeps.amendFrame, ↓via Keeps.foldl, hs, Keeps.refl, true_or, and_true, implies_true]

theorem Keeps.flowSwitch {i} (hs : Keeps s₀ s) : Keeps s₀ (s.flowSwitch i) := by
  unfold State.flowSwitch
  extract_lets x olds u v legs placed flow w y
  have hu : Keeps s₀ u := .ite ⟨hs, hs.flowBad⟩
  have hv : Keeps s₀ v := .foldl ⟨hu, fun s k => by
    split
    · exact (Keeps.refl s).removeLeg.enableLeg
    · exact .refl s⟩
  have hw : Keeps s₀ w := hv.setFlow
  have hy : Keeps s₀ y := .ite ⟨.foldl ⟨hw, fun s l => (Keeps.refl s).leaveLeg⟩, hw⟩
  exact hy.joinPlaced

theorem Keeps.flowBoundary (hs : Keeps s₀ s) : Keeps s₀ s.flowBoundary := by
  refine .foldl ⟨hs, fun s x => ?_⟩
  dsimp only
  (repeat' split) <;> simp only [↓via Keeps.bump, ↓via Keeps.setFlow, ↓via Keeps.ownLeg, ↓via Keeps.flowSwitch, ↓via Keeps.ite, ↓via Keeps.foldl,
    Keeps.refl, true_or, and_true, implies_true]

/-! ### Received frames -/

theorem Keeps.flowChecks {i mask} (hs : Keeps s₀ s) : Keeps s₀ (s.flowChecks i mask) := by
  simp only [State.flowChecks, ↓via Keeps.set, ↓via Keeps.event, ↓via Keeps.setFlow, ↓via Keeps.ite, hs, true_or, and_true]

theorem Keeps.flowFrameTo {i c v f src num} (hs : Keeps s₀ s) : Keeps s₀ (s.flowFrameTo i c v f src num) := by
  unfold State.flowFrameTo
  dsimp only
  (repeat' split) <;> simp only [↓via Keeps.set, ↓via Keeps.measure, ↓via Keeps.amendAt, ↓via Keeps.ringAmendAt, hs, true_or]

theorem Keeps.flowFrameDone {i v f} (hs : Keeps s₀ s) : Keeps s₀ (s.flowFrameDone i v f) := by
  unfold State.flowFrameDone
  split <;> simp only [↓via Keeps.set, ↓via Keeps.bump, ↓via Keeps.peak, ↓via Keeps.setFlow, ↓via Keeps.flowChecks, ↓via Keeps.flowFrameTo,
    ↓via Keeps.ite, ↓via Keeps.foldl, hs, Keeps.refl, true_or, and_true, implies_true]

theorem Keeps.settleFrames {i v} (hs : Keeps s₀ s) : Keeps s₀ (s.settleFrames i v) := by
  simp only [State.settleFrames, ↓via Keeps.setFlow, ↓via Keeps.flowFrameDone, ↓via Keeps.foldl, hs, Keeps.refl, true_or, and_true, implies_true]

theorem Keeps.flowAbandon {i} (hs : Keeps s₀ s) : Keeps s₀ (s.flowAbandon i) := by
  fun_cases State.flowAbandon <;> simp only [↓via Keeps.setFlow, ↓via Keeps.flowFrameDone, ↓via Keeps.foldl, hs, Keeps.refl, true_or, and_true,
    implies_true]

theorem Keeps.expireHoles {i} (hs : Keeps s₀ s) : Keeps s₀ (s.expireHoles i) := by
  fun_cases State.expireHoles <;> simp +zetaDelta only [↓via Keeps.bump, ↓via Keeps.setFlow, ↓via Keeps.flowBad, ↓via Keeps.settleFrames,
    ↓via Keeps.ite, hs, true_or, and_true]

theorem Keeps.offsets {c i d} (hs : Keeps s₀ s) : Keeps s₀ (s.offsets c i d) := by
  simp only [State.offsets, ↓via Keeps.set, ↓via Keeps.ite, hs, true_or, and_true]

theorem Keeps.videoOpen {src num v rec_ whole anc} (hs : Keeps s₀ s) : Keeps s₀ (s.videoOpen src num v rec_ whole anc).2.2 := by
  simp only [State.videoOpen, ↓via Keeps.freePic, ↓via Keeps.joinFrame, ↓via Keeps.amendFrame, ↓via Keeps.ringWrite, hs, true_or]

theorem Keeps.ancOpen {src num rec_ ts whole anc} (hs : Keeps s₀ s) : Keeps s₀ (s.ancOpen src num rec_ ts whole anc).2.2 := by
  fun_cases State.ancOpen <;> simp +zetaDelta only [↓via Keeps.joinFrame, ↓via Keeps.amendAt, ↓via Keeps.ringWrite, ↓via Keeps.ringAmendAt,
    ↓via Keeps.ite, hs, true_or, and_true]

theorem Keeps.flowOpen {src num v ts whole anc} (hs : Keeps s₀ s) : Keeps s₀ (s.flowOpen src num v ts whole anc).2.2 := by
  simp only [State.flowOpen, ↓via Keeps.videoOpen, ↓via Keeps.ancOpen, ↓via Keeps.ite_snd₂, hs, true_or, and_true]

theorem Keeps.flowLater {i v r} (hs : Keeps s₀ s) : Keeps s₀ (s.flowLater i v r) := by
  refine .foldl ⟨hs, fun s x => ?_⟩
  dsimp only
  (repeat' split) <;> simp only [↓via Keeps.amendAt, ↓via Keeps.ringAmendAt, Keeps.refl, true_or]

theorem Keeps.frameBegin {i n v r start} (hs : Keeps s₀ s) : Keeps s₀ (s.frameBegin i n v r start) := by
  simp only [State.frameBegin, ↓via Keeps.setFlow, ↓via Keeps.flowOpen, ↓via Keeps.foldl_snd₃, hs, Keeps.refl, true_or, and_true, implies_true]

theorem Keeps.frameEarlier {i n f start} (hs : Keeps s₀ s) : Keeps s₀ (s.frameEarlier i n f start) := by
  simp only [State.frameEarlier, ↓via Keeps.setFlow, ↓via Keeps.ite, ↓via Keeps.foldl, hs, true_or, true_and]
  exact .inl (.inl fun s x => by (repeat' split) <;> simp only [↓via Keeps.amendAt, Keeps.refl, true_or])

theorem Keeps.framePacket {i n v r} (hs : Keeps s₀ s) : Keeps s₀ (s.framePacket i n v r) := by
  unfold State.framePacket
  dsimp only
  (repeat' split) <;> simp only [↓via Keeps.setFlow, ↓via Keeps.flowBad, ↓via Keeps.flowLater, ↓via Keeps.frameBegin, ↓via Keeps.frameEarlier, hs,
    true_or]

theorem Keeps.legMeasure {i n v r} (hs : Keeps s₀ s) : Keeps s₀ (s.legMeasure i n v r).2 := by
  simp only [State.legMeasure, ↓via Keeps.offsets, ↓via Keeps.ite, ↓via Keeps.ite_snd, hs, true_or, and_true]

theorem Keeps.legOther {i n v r} (hs : Keeps s₀ s) : Keeps s₀ (s.legOther i n v r) := by
  simp only [State.legOther, ↓via Keeps.setFlow, ↓via Keeps.flowChecks, ↓via Keeps.legMeasure, ↓via Keeps.ite, hs, true_or, and_true]

theorem Keeps.audioPacket {i v r} (hs : Keeps s₀ s) : Keeps s₀ (s.audioPacket i v r) := by
  simp only [State.audioPacket, ↓via Keeps.set, ↓via Keeps.bump, ↓via Keeps.joinFrame, ↓via Keeps.setFlow, ↓via Keeps.flowChecks,
    ↓via Keeps.legMeasure, ↓via Keeps.ite, ↓via Keeps.foldl, hs, Keeps.refl, true_or, and_true, implies_true]

theorem Keeps.flowMeter {i v r} (hs : Keeps s₀ s) : Keeps s₀ (s.flowMeter i v r).2.2 := by
  fun_cases State.flowMeter
  case case1 hp goes =>
    have hu := Keeps.of_snd hp (.foldl_snd ⟨hs, fun b k => by
      dsimp only
      split
      case isTrue => exact (Keeps.refl _).meter
      case isFalse =>
        dsimp only
        split
        · exact (Keeps.refl _).meter.bump.amendFrame
        · exact (Keeps.refl _).meter.bump⟩)
    exact .ite ⟨hu, hu.bump⟩

theorem Keeps.flowCells {v r takers} (hs : Keeps s₀ s) : Keeps s₀ (s.flowCells v r takers) := by
  simp only [State.flowCells, ↓via Keeps.sendCells, ↓via Keeps.sendSlots, ↓via Keeps.ite, ↓via Keeps.foldl, hs, Keeps.refl, true_or, and_true,
    implies_true]

theorem Keeps.foreign {i} (hs : Keeps s₀ s) : Keeps s₀ (s.foreign i) := hs.setFlow.bump

theorem Keeps.flowMerge {i k v r takers} (hs : Keeps s₀ s) : Keeps s₀ (s.flowMerge i k v r takers) := by
  unfold State.flowMerge
  dsimp only
  (repeat' split) <;> simp only [↓via Keeps.bump, ↓via Keeps.peak, ↓via Keeps.setFlow, ↓via Keeps.settleFrames, ↓via Keeps.expireHoles,
    ↓via Keeps.framePacket, ↓via Keeps.legMeasure, ↓via Keeps.legOther, ↓via Keeps.audioPacket, ↓via Keeps.flowCells, hs, true_or]

theorem Keeps.flowPacket {i k src rtp} (hs : Keeps s₀ s) : Keeps s₀ (s.flowPacket i k src rtp) := by
  unfold State.flowPacket
  dsimp only
  split
  · split
    · exact hs
    · split
      · exact hs.foreign
      · split
        · exact hs.setFlow.bump
        · simp only [↓via Keeps.bump, ↓via Keeps.setFlow, ↓via Keeps.flowChecks, ↓via Keeps.flowAbandon, ↓via Keeps.flowMeter, ↓via Keeps.foreign,
          ↓via Keeps.flowMerge, ↓via Keeps.ite, hs, true_or, and_true]
  · exact hs

theorem Keeps.beArrive (hs : Keeps s₀ s) : Keeps s₀ s.beArrive := by
  simp only [State.beArrive, ↓via Keeps.forwardBe, ↓via Keeps.ite, ↓via Keeps.foldl, ↓keeps_record, hs, Keeps.refl, true_or, and_true, implies_true]

theorem Keeps.forwardAll {c n f} (hs : Keeps s₀ s) : Keeps s₀ (s.forwardAll c n f) := by
  fun_cases State.forwardAll
  case case1 u he => exact .of_snd he hs.beEnter
  case case2 u he from_ v hf =>
    have hv : Keeps s₀ v := .of_snd hf (Keeps.of_snd he hs.beEnter).fresh
    refine .foldl ⟨hv, fun s e => ?_⟩
    split <;> rename_i heq
    · exact (Keeps.of_snd heq (Keeps.refl s).beCross).beSend
    · exact .of_snd heq (Keeps.refl s).beCross

theorem Keeps.flowFilter {p f} (hs : Keeps s₀ s) : Keeps s₀ (s.flowFilter p f) := by
  unfold State.flowFilter
  dsimp only
  (repeat' split) <;> simp only [↓via Keeps.bump, ↓via Keeps.flowPacket, ↓via Keeps.forwardAll, hs, true_or]

theorem Keeps.control {p f} (hs : Keeps s₀ s) : Keeps s₀ (s.control p f) := by
  unfold State.control
  dsimp only
  (repeat' split) <;> simp only [↓via Keeps.ctrlMeter, ↓via Keeps.answer, ↓via Keeps.ptpRx, ↓via Keeps.membershipQuery, hs, true_or]

theorem Keeps.mgmtFrame {p f} (hs : Keeps s₀ s) : Keeps s₀ (s.mgmtFrame p f) := by
  simp only [State.mgmtFrame, ↓via Keeps.bump, ↓via Keeps.answer, ↓via Keeps.ite, hs, true_or, and_true]

/-! ### SDI receivers -/

theorem Keeps.setRx {lane x} (hs : Keeps s₀ s) : Keeps s₀ (s.setRx lane x) := .record ⟨hs, rfl, rfl, rfl, rfl⟩

theorem Keeps.startSweep {lane} (hs : Keeps s₀ s) : Keeps s₀ (s.startSweep lane) := hs.setRx

theorem Keeps.showFormat {lanes} (hs : Keeps s₀ s) : Keeps s₀ (s.showFormat lanes) := by
  simp only [State.showFormat, ↓via Keeps.set, ↓via Keeps.foldl, hs, Keeps.refl, true_or, and_true, implies_true]

theorem Keeps.setRxState {lane st} (hs : Keeps s₀ s) : Keeps s₀ (s.setRxState lane st) := by
  fun_cases State.setRxState <;> simp +zetaDelta only [↓via Keeps.set, ↓via Keeps.setRx, ↓via Keeps.showFormat, ↓via Keeps.ite, hs, true_or, and_true]

theorem Keeps.countChecks {lane first reads skew f m} (hs : Keeps s₀ s) : Keeps s₀ (s.countChecks lane first reads skew f m) := by
  simp only [State.countChecks, ↓via Keeps.bump, ↓via Keeps.ite, hs, true_or, and_true]

theorem Keeps.showChecks {lane m whole} (hs : Keeps s₀ s) : Keeps s₀ (s.showChecks lane m whole) := by
  simp only [State.showChecks, ↓via Keeps.set, ↓via Keeps.event, ↓via Keeps.ite, hs, true_or, and_true]

theorem Keeps.reassign {src lanes} (hs : Keeps s₀ s) : Keeps s₀ (s.reassign src lanes) := by
  simp only [State.reassign, ↓via Keeps.amendFrame, ↓via Keeps.ringAmend, ↓keeps_record, hs, true_or, and_true]

theorem Keeps.runningFrame {lane v st} (hs : Keeps s₀ s) : Keeps s₀ (s.runningFrame lane v st).2 := by
  simp only [State.runningFrame, ↓via Keeps.bump, ↓via Keeps.setRx, ↓via Keeps.showFormat, ↓via Keeps.setRxState, ↓via Keeps.ite_snd, hs, true_or,
    and_true]

theorem Keeps.framingFrame {lane lrate st fmt whole} (hs : Keeps s₀ s) : Keeps s₀ (s.framingFrame lane lrate st fmt whole) := by
  unfold State.framingFrame
  (repeat' split) <;> simp only [↓via Keeps.setRx, ↓via Keeps.setRxState, ↓via Keeps.ite, hs, true_or, and_true]

theorem Keeps.frameState {lane v f} (hs : Keeps s₀ s) : Keeps s₀ (s.frameState lane v f).2 := by
  simp only [State.frameState, ↓via Keeps.runningFrame, ↓via Keeps.framingFrame, ↓via Keeps.ite_snd, hs, true_or, and_true]

theorem Keeps.showPid {lane f} (hs : Keeps s₀ s) : Keeps s₀ (s.showPid lane f) := by
  simp only [State.showPid, ↓via Keeps.set, ↓via Keeps.setRx, hs, true_or]

theorem Keeps.laneFrame {src place n v m f anc} (hs : Keeps s₀ s) : Keeps s₀ (s.laneFrame src place n v m f anc) := by
  simp only [State.laneFrame, ↓via Keeps.joinFrame, ↓via Keeps.ringWrite, ↓via Keeps.ringAmend, ↓via Keeps.ite, hs, true_or, and_true]

theorem Keeps.sdiCells {v n video anc} (hs : Keeps s₀ s) : Keeps s₀ (s.sdiCells v n video anc) := by
  simp only [State.sdiCells, ↓via Keeps.enterCells, ↓via Keeps.ite, hs, true_or, and_true]

theorem Keeps.setDelta {src a inWin} (hs : Keeps s₀ s) : Keeps s₀ (s.setDelta src a inWin) := .record ⟨hs, rfl, rfl, rfl, rfl⟩

theorem Keeps.sdiFrame {lane f v} (hs : Keeps s₀ s) : Keeps s₀ (s.sdiFrame lane f v) := by
  simp only [State.sdiFrame, ↓via Keeps.set, ↓via Keeps.bump, ↓via Keeps.measure, ↓via Keeps.countChecks, ↓via Keeps.showChecks, ↓via Keeps.reassign,
    ↓via Keeps.frameState, ↓via Keeps.showPid, ↓via Keeps.laneFrame, ↓via Keeps.sdiCells, ↓via Keeps.setDelta, ↓via Keeps.ite, ↓keeps_record, hs,
    true_or, and_true]

/-! ### Audio channels -/

theorem Keeps.setIn {i c} (hs : Keeps s₀ s) : Keeps s₀ (s.setIn i c) := .record ⟨hs, rfl, rfl, rfl, rfl⟩

theorem Keeps.setOut {o c} (hs : Keeps s₀ s) : Keeps s₀ (s.setOut o c) := .record ⟨hs, rfl, rfl, rfl, rfl⟩

theorem Keeps.setBus {b c} (hs : Keeps s₀ s) : Keeps s₀ (s.setBus b c) := .record ⟨hs, rfl, rfl, rfl, rfl⟩

/-! ### The legs of egress flows -/

theorem Keeps.emitPkts {v b} (hs : Keeps s₀ s) : Keeps s₀ (s.emitPkts v b) := by
  simp only [State.emitPkts, ↓via Keeps.bump, ↓via Keeps.bump64, ↓via Keeps.emit, ↓via Keeps.ite, ↓via Keeps.foldl, hs, Keeps.refl, true_or,
    and_true, implies_true]

theorem Keeps.flowQuiet {v live} (hs : Keeps s₀ s) : Keeps s₀ (s.flowQuiet v live) := by
  simp only [State.flowQuiet, ↓via Keeps.set, ↓via Keeps.ite, hs, true_or, and_true]

/-! ### The audio engine -/

theorem Keeps.audioProbe {a out silent zero} (hs : Keeps s₀ s) : Keeps s₀ (s.audioProbe a out silent zero) := by
  simp only [State.audioProbe, ↓via Keeps.event, ↓via Keeps.ite, hs, true_or, and_true]

theorem Keeps.inFlags {i a c present} (hs : Keeps s₀ s) : Keeps s₀ (s.inFlags i a c present) := by
  simp only [State.inFlags, ↓via Keeps.set, ↓via Keeps.bump, ↓via Keeps.peak, ↓via Keeps.audioProbe, ↓via Keeps.ite, hs, true_or, and_true]

theorem Keeps.inTick {i a k0} (hs : Keeps s₀ s) : Keeps s₀ (s.inTick i a k0) := hs.setIn.inFlags

theorem Keeps.headTick {i a} (hs : Keeps s₀ s) : Keeps s₀ (s.headTick i a) := hs.setIn.inFlags

theorem Keeps.placeSdi {x} (hs : Keeps s₀ s) : Keeps s₀ (s.placeSdi x) := by
  fun_cases State.placeSdi
  case case1 => exact hs
  case case2 =>
    refine .foldl ⟨hs.enterSlots, fun s j => ?_⟩
    dsimp only
    split
    · exact .refl s
    · exact (Keeps.refl s).setIn
  case case3 => exact hs

theorem Keeps.busTick {b x} (hs : Keeps s₀ s) : Keeps s₀ (s.busTick b x) := by
  simp only [State.busTick, ↓via Keeps.bump, ↓via Keeps.setBus, ↓via Keeps.ite, hs, true_or, and_true]

theorem Keeps.outFlags {o a peak c} (hs : Keeps s₀ s) : Keeps s₀ (s.outFlags o a peak c) := by
  simp only [State.outFlags, ↓via Keeps.set, ↓via Keeps.peak, ↓via Keeps.audioProbe, ↓via Keeps.ite, hs, true_or, and_true]

theorem Keeps.outTick {o a ctls} (hs : Keeps s₀ s) : Keeps s₀ (s.outTick o a ctls) := by
  fun_cases State.outTick
  case case1 line _ _ _ _ _ _ _ _ _ _ _ u v =>
    have hu : Keeps s₀ u := hs.setOut.bump
    have hv : Keeps s₀ v := by
      simp only [v]
      clear_value line
      split
      · split
        · exact .record ⟨hu, rfl, rfl, rfl, rfl⟩
        · exact hu
      · exact hu
    exact hv.outFlags

theorem Keeps.outTurn {o a c sel gain order at_} (hs : Keeps s₀ s) : Keeps s₀ (s.outTurn o a c sel gain order at_) := hs.setOut.bump.journalAdd

theorem Keeps.outFlip {o a c p} (hs : Keeps s₀ s) : Keeps s₀ (s.outFlip o a c p) := hs.outTurn

theorem Keeps.audioTake {dest order salvo b gid slots} (hs : Keeps s₀ s) : Keeps s₀ (s.audioTake dest order salvo b gid slots) := by
  refine .foldl ⟨hs, fun s x => ?_⟩
  dsimp only
  (repeat' split) <;> simp only [↓via Keeps.bump, ↓via Keeps.setOut, ↓via Keeps.outTurn, Keeps.refl, true_or]

theorem Keeps.flipOuts {pick} (hs : Keeps s₀ s) : Keeps s₀ (s.flipOuts pick) := by
  refine .foldl ⟨hs, fun s x => ?_⟩
  dsimp only
  (repeat' split) <;> simp only [↓via Keeps.outFlip, Keeps.refl, true_or]

theorem Keeps.busMembers {old new} (hs : Keeps s₀ s) : Keeps s₀ (s.busMembers old new) := hs.bump

theorem Keeps.flipBuses (hs : Keeps s₀ s) : Keeps s₀ s.flipBuses := by
  refine .foldl ⟨hs, fun s x => ?_⟩
  dsimp only
  (repeat' split) <;> simp only [↓via Keeps.bump, ↓via Keeps.journalAdd, ↓via Keeps.setBus, ↓via Keeps.busMembers, Keeps.refl, true_or]

theorem Keeps.flipDest {dest} (hs : Keeps s₀ s) : Keeps s₀ (s.flipDest dest) := hs.flipOuts

theorem Keeps.flipHouse (hs : Keeps s₀ s) : Keeps s₀ s.flipHouse := hs.flipOuts.flipBuses

theorem Keeps.flipLate {due} (hs : Keeps s₀ s) : Keeps s₀ (s.flipLate due) := by
  simp only [State.flipLate, ↓via Keeps.err, ↓via Keeps.ite, hs, true_or, and_true]

theorem Keeps.writeOut {a sel gain due order} (hs : Keeps s₀ s) : Keeps s₀ (s.writeOut a sel gain due order) := by
  unfold State.writeOut
  split <;> simp only [↓via Keeps.bump, ↓via Keeps.setOut, ↓via Keeps.flipLate, hs, true_or]

theorem Keeps.writeBus {b gain members due} (hs : Keeps s₀ s) : Keeps s₀ (s.writeBus b gain members due) := hs.bump.setBus.flipLate

theorem Keeps.writeLine {l n due} (hs : Keeps s₀ s) : Keeps s₀ (s.writeLine l n due) := by
  unfold State.writeLine
  split <;> simp only [↓via Keeps.bump, ↓via Keeps.flipLate, ↓keeps_record, hs, true_or, and_true]

theorem Keeps.matchedTick (hs : Keeps s₀ s) : Keeps s₀ s.matchedTick := .record ⟨hs, rfl, rfl, rfl, rfl⟩

theorem Keeps.evacFree (hs : Keeps s₀ s) : Keeps s₀ s.evacFree := by
  simp only [State.evacFree, ↓via Keeps.setOut, ↓via Keeps.ite, ↓via Keeps.foldl, hs, Keeps.refl, true_or, and_true, implies_true]

theorem Keeps.lineMoved {q bytes reads} (hs : Keeps s₀ s) : Keeps s₀ (s.lineMoved q bytes reads) := by
  simp only [State.lineMoved, ↓via Keeps.rowsMoved, ↓via Keeps.ite, ↓via Keeps.foldl, hs, Keeps.refl, true_or, and_true, implies_true]

theorem Keeps.lineRows {q} (hs : Keeps s₀ s) : Keeps s₀ (s.lineRows q) := by
  simp only [State.lineRows, ↓via Keeps.lineMoved, ↓via Keeps.foldl, hs, Keeps.refl, true_or, and_true, implies_true]

theorem Keeps.embedTick {dest slots} (hs : Keeps s₀ s) : Keeps s₀ (s.embedTick dest slots) := by
  simp only [State.embedTick, ↓via Keeps.emit, ↓via Keeps.ite, ↓via Keeps.foldl, hs, Keeps.refl, true_or, and_true, implies_true]

theorem Keeps.audioPackets {q} (hs : Keeps s₀ s) : Keeps s₀ (s.audioPackets q) := by
  simp only [State.audioPackets, ↓via Keeps.set, ↓via Keeps.emitPkts, ↓via Keeps.ite, ↓via Keeps.foldl, hs, Keeps.refl, true_or, and_true,
    implies_true]

theorem Keeps.audioOut (hs : Keeps s₀ s) : Keeps s₀ s.audioOut := by
  simp only [State.audioOut, ↓via Keeps.embedTick, ↓via Keeps.ite, ↓via Keeps.foldl, hs, Keeps.refl, true_or, true_and, and_true, implies_true]
  exact .inl (.inl fun s x => by (repeat' split) <;> simp only [↓via Keeps.sendSlots, Keeps.refl, true_or])

theorem Keeps.deadTick {q} (hs : Keeps s₀ s) : Keeps s₀ (s.deadTick q) := by
  simp only [State.deadTick, ↓via Keeps.audioPackets, ↓via Keeps.audioOut, ↓keeps_record, hs, true_or, and_true]

theorem Keeps.meterTick {out} (hs : Keeps s₀ s) : Keeps s₀ (s.meterTick out) := by
  simp only [State.meterTick, ↓via Keeps.ite, ↓via Keeps.foldl, ↓keeps_record, hs, Keeps.refl, true_or, and_true, implies_true]

theorem Keeps.lineTick {q} (hs : Keeps s₀ s) : Keeps s₀ (s.lineTick q).2 := by
  simp only [State.lineTick, ↓via Keeps.bump, ↓via Keeps.journalAdd, ↓via Keeps.ite, ↓via Keeps.foldl_snd, ↓keeps_record, hs, Keeps.refl, true_or,
    and_true, implies_true]

theorem Keeps.audStat (hs : Keeps s₀ s) : Keeps s₀ s.audStat := by
  simp only [State.audStat, ↓via Keeps.set, hs, true_or]

theorem Keeps.fillSlots {dest from_ bad} (hs : Keeps s₀ s) : Keeps s₀ (s.fillSlots dest from_ bad) := by
  simp only [State.fillSlots, ↓via Keeps.setOut, ↓via Keeps.ite, ↓via Keeps.foldl, hs, Keeps.refl, true_or, and_true, implies_true]

theorem Keeps.fillDue (hs : Keeps s₀ s) : Keeps s₀ s.fillDue := by
  refine .foldl ⟨hs, fun s x => ?_⟩
  dsimp only
  (repeat' split) <;> simp only [↓via Keeps.fillSlots, Keeps.refl, true_or]

theorem Keeps.farTick {far k0} (hs : Keeps s₀ s) : Keeps s₀ (s.farTick far k0) := by
  unfold State.farTick
  extract_lets srcs u is all
  have hu : Keeps s₀ u := .foldl ⟨hs, fun s k => .foldl ⟨.refl s, fun s c => by split <;> simp only [↓via Keeps.enterSlots, ↓via Keeps.ite,
    Keeps.refl, true_or, and_true]⟩⟩
  exact .record ⟨hu, rfl, rfl, rfl, rfl⟩

theorem Keeps.audioTick {sdi far} (hs : Keeps s₀ s) : Keeps s₀ (s.audioTick sdi far) := by
  simp only [State.audioTick, ↓via Keeps.inTick, ↓via Keeps.headTick, ↓via Keeps.placeSdi, ↓via Keeps.busTick, ↓via Keeps.outTick,
    ↓via Keeps.flipOuts, ↓via Keeps.flipBuses, ↓via Keeps.matchedTick, ↓via Keeps.evacFree, ↓via Keeps.lineRows, ↓via Keeps.audioPackets,
    ↓via Keeps.audioOut, ↓via Keeps.deadTick, ↓via Keeps.meterTick, ↓via Keeps.lineTick, ↓via Keeps.audStat, ↓via Keeps.fillDue, ↓via Keeps.farTick,
    ↓via Keeps.ite, ↓via Keeps.foldl, ↓keeps_record, hs, Keeps.refl, true_or, and_true, implies_true]

theorem Keeps.matchSlots {dest n shown} (hs : Keeps s₀ s) : Keeps s₀ (s.matchSlots dest n shown) := by
  refine .foldl ⟨hs, fun s x => ?_⟩
  dsimp only
  (repeat' split) <;> simp only [↓via Keeps.setOut, Keeps.refl, true_or]

theorem Keeps.evacSlots {dest on} (hs : Keeps s₀ s) : Keeps s₀ (s.evacSlots dest on) := by
  simp only [State.evacSlots, ↓via Keeps.setOut, ↓via Keeps.ite, ↓via Keeps.foldl, hs, Keeps.refl, true_or, and_true, implies_true]

theorem Keeps.setTdm {p x} (hs : Keeps s₀ s) : Keeps s₀ (s.setTdm p x) := by
  simp only [State.setTdm, ↓via Keeps.set, ↓keeps_record, hs, true_or, and_true]

theorem Keeps.tdmMute {p} (hs : Keeps s₀ s) : Keeps s₀ (s.tdmMute p) := by
  simp only [State.tdmMute, ↓via Keeps.setIn, ↓via Keeps.setTdm, ↓via Keeps.foldl, hs, Keeps.refl, true_or, and_true, implies_true]

theorem Keeps.tdmSend {p} (hs : Keeps s₀ s) : Keeps s₀ (s.tdmSend p) := hs.setTdm.emit

theorem Keeps.audServe (hs : Keeps s₀ s) : Keeps s₀ s.audServe := by
  simp only [State.audServe, ↓via Keeps.set, ↓via Keeps.audStat, ↓via Keeps.setTdm, ↓via Keeps.ite, ↓via Keeps.foldl, ↓keeps_record, hs, Keeps.refl,
    true_or, and_true, implies_true]

theorem Keeps.audStart (hs : Keeps s₀ s) : Keeps s₀ s.audStart := by
  unfold State.audStart
  refine .foldl ⟨.foldl ⟨.foldl ⟨.record ⟨hs, rfl, rfl, rfl, rfl⟩, fun s r => .foldl ⟨.refl s, fun s i => ?_⟩⟩, fun s r => (Keeps.refl s).setBus⟩,
    fun s r => .record ⟨.refl s, rfl, rfl, rfl, rfl⟩⟩
  split <;> simp only [↓via Keeps.setOut, Keeps.refl, true_or]

theorem Keeps.audDown (hs : Keeps s₀ s) : Keeps s₀ s.audDown := by
  simp only [State.audDown, ↓via Keeps.clearWindow, ↓via Keeps.raise, ↓via Keeps.beginReset, ↓via Keeps.ite, ↓via Keeps.foldl, ↓keeps_record, hs,
    Keeps.refl, true_or, and_true, implies_true]

theorem Keeps.audUp (hs : Keeps s₀ s) : Keeps s₀ s.audUp := by
  simp only [State.audUp, ↓via Keeps.set, ↓via Keeps.resolve, ↓via Keeps.audServe, ↓via Keeps.ite, ↓keeps_record, hs, true_or, and_true]

/-! ### The multiviewer -/

theorem Keeps.setHead {h x} (hs : Keeps s₀ s) : Keeps s₀ (s.setHead h x) := .record ⟨hs, rfl, rfl, rfl, rfl⟩

theorem Keeps.applyWindow {v engine due} (hs : Keeps s₀ s) : Keeps s₀ (s.applyWindow v engine due) := by
  simp only [State.applyWindow, ↓via Keeps.journalAdd, ↓keeps_record, hs, true_or, and_true]

theorem Keeps.applyClear {win due} (hs : Keeps s₀ s) : Keeps s₀ (s.applyClear win due) := by
  fun_cases State.applyClear <;> simp only [↓via Keeps.journalAdd, ↓keeps_record, hs, true_or, and_true]

theorem Keeps.applyOrder {h o due} (hs : Keeps s₀ s) : Keeps s₀ (s.applyOrder h o due) := hs.setHead.journalAdd

theorem Keeps.headStates {named b} (hs : Keeps s₀ s) : Keeps s₀ (s.headStates named b) := by
  simp only [State.headStates, ↓via Keeps.setHead, ↓via Keeps.ite, ↓via Keeps.foldl, hs, Keeps.refl, true_or, and_true, implies_true]

theorem Keeps.winWritten {win b} (hs : Keeps s₀ s) : Keeps s₀ (s.winWritten win b) := hs.enterCells.rowsMoved

theorem Keeps.winRead {win n w} (hs : Keeps s₀ s) : Keeps s₀ (s.winRead win n w) := hs.rowsMoved.sendCells.lostCells

theorem Keeps.winSignal {win w no} (hs : Keeps s₀ s) : Keeps s₀ (s.winSignal win w no) := by
  simp only [State.winSignal, ↓via Keeps.event, ↓via Keeps.ite, ↓keeps_record, hs, true_or, and_true]

theorem Keeps.winSelect {win w a} (hs : Keeps s₀ s) : Keeps s₀ (s.winSelect win w a) := by
  fun_cases State.winSelect <;> simp only [↓via Keeps.bump, ↓via Keeps.winSignal, hs, true_or]

theorem Keeps.winFrame {win w a} (hs : Keeps s₀ s) : Keeps s₀ (s.winFrame win w a) := by
  fun_cases State.winFrame <;> simp only [↓via Keeps.winSelect, ↓keeps_record, hs, true_or, and_true]

theorem Keeps.meterFrame {h} (hs : Keeps s₀ s) : Keeps s₀ (s.meterFrame h) := by
  simp only [State.meterFrame, ↓via Keeps.setHead, ↓keeps_record, hs, true_or, and_true]

theorem Keeps.winShow {h} (hs : Keeps s₀ s) : Keeps s₀ (s.winShow h) := by
  refine .foldl ⟨hs, fun s x => ?_⟩
  dsimp only
  (repeat' split) <;> simp only [↓via Keeps.set, ↓via Keeps.foldl, Keeps.refl, true_or, and_true, implies_true]

theorem Keeps.headShow {h} (hs : Keeps s₀ s) : Keeps s₀ (s.headShow h) := by
  simp only [State.headShow, ↓via Keeps.set, hs, true_or]

theorem Keeps.enginesShow (hs : Keeps s₀ s) : Keeps s₀ s.enginesShow := hs.set

theorem Keeps.headEmit {h a} (hs : Keeps s₀ s) : Keeps s₀ (s.headEmit h a) := by
  unfold State.headEmit
  split <;> simp only [↓via Keeps.enterCells, ↓via Keeps.measure, ↓via Keeps.joinFrame, ↓via Keeps.ringWrite, hs, true_or]

theorem Keeps.headReads {h n} (hs : Keeps s₀ s) : Keeps s₀ (s.headReads h n) := by
  simp only [State.headReads, ↓via Keeps.rowsMoved, ↓via Keeps.winRead, ↓via Keeps.foldl, hs, Keeps.refl, true_or, and_true, implies_true]

theorem Keeps.headStart (hs : Keeps s₀ s) : Keeps s₀ s.headStart := by
  simp only [State.headStart, ↓via Keeps.setHead, ↓via Keeps.headShow, ↓via Keeps.ite, ↓via Keeps.foldl, hs, Keeps.refl, true_or, and_true,
    implies_true]

/-! ### Budgets -/

theorem Keeps.syncBobbins (hs : Keeps s₀ s) : Keeps s₀ s.syncBobbins := by
  unfold State.syncBobbins
  extract_lets needs is bob u v rings keep bob' w lines aud y
  have hu : Keeps s₀ u := .record ⟨hs, rfl, rfl, rfl, rfl⟩
  have hv : Keeps s₀ v := .foldl ⟨hu, fun s n => by
    dsimp only
    split <;> exact .record ⟨.refl s, rfl, rfl, rfl, rfl⟩⟩
  have hw : Keeps s₀ w := .foldl ⟨.record ⟨hv, rfl, rfl, rfl, rfl⟩, fun s n => by
    split <;> exact (Keeps.refl s).setRing⟩
  have hy : Keeps s₀ y := .record ⟨hw, rfl, rfl, rfl, rfl⟩
  exact hy.peak.tierOpen

theorem Keeps.syncMeters (hs : Keeps s₀ s) : Keeps s₀ s.syncMeters := by
  simp only [State.syncMeters, ↓via Keeps.syncConns, ↓keeps_record, hs, true_or, and_true]

theorem Keeps.syncJoins (hs : Keeps s₀ s) : Keeps s₀ s.syncJoins := by
  simp only [State.syncJoins, ↓via Keeps.joinFlow, ↓via Keeps.leaveFlow, ↓via Keeps.ite, ↓via Keeps.foldl, hs, Keeps.refl, true_or, and_true,
    implies_true]

theorem Keeps.settle {b} (hs : Keeps s₀ s) : Keeps s₀ (s.settle b) := by
  simp only [State.settle, ↓via Keeps.selectPoint, ↓via Keeps.headStates, ↓via Keeps.syncBobbins, ↓via Keeps.syncMeters, ↓via Keeps.syncJoins, hs,
    true_or]

/-! ### Strands and the Skein -/

theorem Keeps.setStrand {p x} (hs : Keeps s₀ s) : Keeps s₀ (s.setStrand p x) := .record ⟨hs, rfl, rfl, rfl, rfl⟩

theorem Keeps.skeinBudget (hs : Keeps s₀ s) : Keeps s₀ s.skeinBudget := by
  simp only [State.skeinBudget, ↓via Keeps.resolve, ↓via Keeps.raise, ↓via Keeps.ite, ↓keeps_record, hs, true_or, and_true]

theorem Keeps.strandRun {p} (hs : Keeps s₀ s) : Keeps s₀ (s.strandRun p) := hs.setStrand

theorem Keeps.sendUnits {p n} (hs : Keeps s₀ s) : Keeps s₀ (s.sendUnits p n) := hs.strandRun.bump.setStrand

theorem Keeps.sendMedia {p f} (hs : Keeps s₀ s) : Keeps s₀ (s.sendMedia p f) := hs.emit.strandRun.setStrand

theorem Keeps.newMsgId (hs : Keeps s₀ s) : Keeps s₀ (s.newMsgId).2 := .record ⟨hs, rfl, rfl, rfl, rfl⟩

theorem Keeps.sendMsg {m} (hs : Keeps s₀ s) : Keeps s₀ (s.sendMsg m) := by
  unfold State.sendMsg
  (repeat' split) <;> simp only [↓via Keeps.emit, ↓via Keeps.sendUnits, ↓via Keeps.ite, ↓keeps_record, hs, true_or, and_true]

theorem Keeps.note {id} (hs : Keeps s₀ s) : Keeps s₀ (s.note id) := .record ⟨hs, rfl, rfl, rfl, rfl⟩

theorem Keeps.skeinIn {m act} (h : Keeps s₀ s ∧ ∀ s, Keeps s (act s)) : Keeps s₀ (s.skeinIn m act) := by
  obtain ⟨hs, ha⟩ := h
  fun_cases State.skeinIn
  case case1 => exact hs.bump
  case case2 => exact hs.note.bump.sendMsg
  case case3 => exact hs.note.trans (ha _)
  case case4 => exact hs.note.emit
  case case5 => exact hs.note

theorem Keeps.noteSteps (hs : Keeps s₀ s) : Keeps s₀ s.noteSteps := .record ⟨hs, rfl, rfl, rfl, rfl⟩

theorem Keeps.sendLinks (hs : Keeps s₀ s) : Keeps s₀ s.sendLinks := by
  simp only [State.sendLinks, ↓via Keeps.emit, ↓via Keeps.dblData, ↓via Keeps.skeinBudget, ↓via Keeps.sendUnits, ↓via Keeps.newMsgId,
    ↓via Keeps.note, ↓via Keeps.noteSteps, ↓via Keeps.ite, ↓via Keeps.foldl, ↓keeps_record, hs, Keeps.refl, true_or, and_true, implies_true]

theorem Keeps.strandTo {p st} (hs : Keeps s₀ s) : Keeps s₀ (s.strandTo p st) := hs.set.sendLinks

theorem Keeps.clearStrandDown (hs : Keeps s₀ s) : Keeps s₀ s.clearStrandDown := by
  simp only [State.clearStrandDown, ↓via Keeps.resolve, ↓via Keeps.ite, ↓via Keeps.foldl, hs, Keeps.refl, true_or, and_true, implies_true]

theorem Keeps.noteMirrors (hs : Keeps s₀ s) : Keeps s₀ s.noteMirrors := by
  simp only [State.noteMirrors, ↓via Keeps.setStrand, ↓via Keeps.foldl, hs, Keeps.refl, true_or, and_true, implies_true]

theorem Keeps.strandDown {p next} (hs : Keeps s₀ s) : Keeps s₀ (s.strandDown p next) := by
  simp only [State.strandDown, ↓via Keeps.set, ↓via Keeps.event, ↓via Keeps.raise, ↓via Keeps.setStrand, ↓via Keeps.sendLinks, ↓via Keeps.ite, hs,
    true_or, and_true]

theorem Keeps.strandsOn {c} (hs : Keeps s₀ s) : Keeps s₀ (s.strandsOn c) := by
  simp only [State.strandsOn, ↓via Keeps.strandTo, ↓via Keeps.foldl, hs, Keeps.refl, true_or, and_true, implies_true]

theorem Keeps.strandMismatch {p why} (hs : Keeps s₀ s) : Keeps s₀ (s.strandMismatch p why) := hs.strandTo.set.raise

theorem Keeps.acked {p} (hs : Keeps s₀ s) : Keeps s₀ (s.acked p) := .record ⟨hs, rfl, rfl, rfl, rfl⟩

theorem Keeps.farStill {k f} (hs : Keeps s₀ s) : Keeps s₀ (s.farStill k f) := .record ⟨hs, rfl, rfl, rfl, rfl⟩

theorem Keeps.farJoin {k n f} (hs : Keeps s₀ s) : Keeps s₀ (s.farJoin k n f) := by
  simp only [State.farJoin, ↓via Keeps.joinFrame, ↓via Keeps.amendFrame, ↓via Keeps.farWrite, ↓via Keeps.ringAmend, ↓via Keeps.ite, hs, true_or,
    and_true]

theorem Keeps.farFrame {p f} (hs : Keeps s₀ s) : Keeps s₀ (s.farFrame p f) := by
  unfold State.farFrame
  split <;> simp only [↓via Keeps.enterCells, ↓via Keeps.sendMedia, ↓via Keeps.farStill, ↓via Keeps.farJoin, ↓via Keeps.ite, ↓via Keeps.foldl, hs,
    Keeps.refl, true_or, and_true, implies_true]

theorem Keeps.creditViolation {p} (hs : Keeps s₀ s) : Keeps s₀ (s.creditViolation p) := hs.err.strandDown

theorem Keeps.farCellBad {p cell} (hs : Keeps s₀ s) : Keeps s₀ (s.farCellBad p cell) := by
  fun_cases State.farCellBad <;> simp only [↓via Keeps.bump, ↓via Keeps.cellBad, hs, true_or]

theorem Keeps.strandUnit {p u} (hs : Keeps s₀ s) : Keeps s₀ (s.strandUnit p u) := by
  unfold State.strandUnit
  (repeat' split) <;> simp only [↓via Keeps.bump, ↓via Keeps.setStrand, ↓via Keeps.strandDown, ↓via Keeps.acked, ↓via Keeps.farFrame,
    ↓via Keeps.creditViolation, ↓via Keeps.farCellBad, ↓via Keeps.ite, hs, true_or, and_true]

/-! ### The state copy -/

theorem Keeps.onLevel {dest lv f} (hs : Keeps s₀ s) : Keeps s₀ (s.onLevel dest lv f) := hs.setDst

theorem Keeps.superseded {dest} (hs : Keeps s₀ s) : Keeps s₀ (s.superseded dest) := by
  simp only [State.superseded, ↓via Keeps.bump, ↓via Keeps.ite, hs, true_or, and_true]

theorem Keeps.addTake {dest lv p} (hs : Keeps s₀ s) : Keeps s₀ (s.addTake dest lv p) := by
  fun_cases State.addTake <;> simp only [↓via Keeps.onLevel, ↓via Keeps.superseded, hs, true_or]

theorem Keeps.armAll (hs : Keeps s₀ s) : Keeps s₀ s.armAll := .record ⟨hs, rfl, rfl, rfl, rfl⟩

theorem Keeps.applyDecision {coord num commit} (hs : Keeps s₀ s) : Keeps s₀ (s.applyDecision coord num commit) := by
  simp only [State.applyDecision, ↓via Keeps.bump, ↓via Keeps.ite, ↓keeps_record, hs, true_or, and_true]

theorem Keeps.applyEff {e} (hs : Keeps s₀ s) : Keeps s₀ (s.applyEff e) := by
  unfold State.applyEff
  (repeat' split) <;> simp only [↓via Keeps.bump, ↓via Keeps.setDst, ↓via Keeps.setRing, ↓via Keeps.setBanks, ↓via Keeps.whlShow,
    ↓via Keeps.journalAdd, ↓via Keeps.setFlow, ↓via Keeps.takeTable, ↓via Keeps.flowSetApply, ↓via Keeps.writeOut, ↓via Keeps.writeBus,
    ↓via Keeps.writeLine, ↓via Keeps.applyWindow, ↓via Keeps.applyClear, ↓via Keeps.applyOrder, ↓via Keeps.clearStrandDown, ↓via Keeps.onLevel,
    ↓via Keeps.addTake, ↓via Keeps.applyDecision, ↓via Keeps.ite, ↓via Keeps.foldl, ↓keeps_record, hs, Keeps.refl, true_or, and_true, implies_true]

theorem Keeps.applyEffs {l} (hs : Keeps s₀ s) : Keeps s₀ (s.applyEffs l) := by
  simp only [State.applyEffs, ↓via Keeps.applyEff, ↓via Keeps.foldl, hs, Keeps.refl, true_or, and_true, implies_true]

theorem Keeps.out_ {e} (hs : Keeps s₀ s) : Keeps s₀ (s.out_ e) := by
  simp only [State.out_, ↓via Keeps.applyEff, ↓keeps_record, hs, true_or, and_true]

theorem Keeps.outDecision {num commit} (hs : Keeps s₀ s) : Keeps s₀ (s.outDecision num commit) := by
  simp only [State.outDecision, ↓via Keeps.applyEff, ↓keeps_record, hs, true_or, and_true]

theorem Keeps.outs {l} (hs : Keeps s₀ s) : Keeps s₀ (s.outs l) := by
  simp only [State.outs, ↓via Keeps.out_, ↓via Keeps.foldl, hs, Keeps.refl, true_or, and_true, implies_true]

theorem Keeps.tryEffs {l u} (hs : Keeps s₀ s) (h : s.tryEffs l = .inr u) : Keeps s₀ u := by
  unfold State.tryEffs at h
  dsimp only at h
  split at h
  · exact Sum.inr.inj h ▸ hs.outs
  · cases h

/-! ### Requests of takes and salvos -/

theorem Keeps.newSalvoNum (hs : Keeps s₀ s) : Keeps s₀ (s.newSalvoNum).2 := .record ⟨hs, rfl, rfl, rfl, rfl⟩

theorem Keeps.armSalvo {v} (hs : Keeps s₀ s) : Keeps s₀ (s.armSalvo v) := by
  simp only [State.armSalvo, ↓via Keeps.newMsgId, ↓via Keeps.sendMsg, ↓via Keeps.note, ↓via Keeps.foldl, ↓keeps_record, hs, Keeps.refl, true_or,
    and_true, implies_true]

theorem Keeps.salvoReply {v r wait} (hs : Keeps s₀ s) : Keeps s₀ (s.salvoReply v r wait) := by
  fun_cases State.salvoReply <;> simp only [↓via Keeps.event, ↓via Keeps.reply, ↓via Keeps.replyC, hs, true_or]

theorem Keeps.onSalvo {num f} (hs : Keeps s₀ s) : Keeps s₀ (s.onSalvo num f) := .record ⟨hs, rfl, rfl, rfl, rfl⟩

theorem Keeps.salvoArmed {v wait} (hs : Keeps s₀ s) : Keeps s₀ (s.salvoArmed v wait) := by
  simp only [State.salvoArmed, ↓via Keeps.salvoReply, ↓via Keeps.onSalvo, ↓via Keeps.ite, hs, true_or, and_true]

theorem Keeps.refuseSalvo {v code res chip retry wait} (hs : Keeps s₀ s) : Keeps s₀ (s.refuseSalvo v code res chip retry wait) := by
  simp only [State.refuseSalvo, ↓via Keeps.bump, ↓via Keeps.peak, ↓via Keeps.fresh, ↓via Keeps.salvoReply, ↓via Keeps.onSalvo, ↓via Keeps.ite,
    ↓via Keeps.ite_snd, hs, true_or, and_true]

theorem Keeps.armOne {v} (hs : Keeps s₀ s) : Keeps s₀ (s.armOne v) := by
  unfold State.armOne
  dsimp only
  (repeat' split) <;> simp only [↓via Keeps.newSalvoNum, ↓via Keeps.armSalvo, ↓via Keeps.refuseSalvo, ↓keeps_record, hs, true_or, and_true]

theorem Keeps.reportAct {m} (hs : Keeps s₀ s) : Keeps s₀ (s.reportAct m) := by
  fun_cases State.reportAct <;> simp only [↓via Keeps.onSalvo, ↓via Keeps.salvoArmed, ↓via Keeps.refuseSalvo, hs, true_or]

theorem Keeps.salvoArm {c entries stored handle} (hs : Keeps s₀ s) : Keeps s₀ (s.salvoArm c entries stored handle) := by
  fun_cases State.salvoArm
  case case6 hn _ => exact Keeps.armSalvo (.record ⟨.of_snd hn hs.newSalvoNum, rfl, rfl, rfl, rfl⟩)
  all_goals simp only [↓via Keeps.bump, ↓via Keeps.reply, ↓via Keeps.badValue, ↓via Keeps.busy, hs, true_or]

theorem Keeps.hiddenWrite {k o clear v} (hs : Keeps s₀ s) : Keeps s₀ (s.hiddenWrite k o clear v) := by
  simp only [State.hiddenWrite, ↓via Keeps.setBanks, ↓via Keeps.bankWrite, ↓via Keeps.bankClear, ↓via Keeps.ite, hs, true_or, and_true]

/-! ### The cycle close -/

theorem Keeps.answerC {r typ q code tlvs} (hs : Keeps s₀ s) : Keeps s₀ (s.answerC r typ q code tlvs) := hs.replyC

theorem Keeps.refuseC {r typ q res chip} (hs : Keeps s₀ s) : Keeps s₀ (s.refuseC r typ q res chip) := hs.bump.replyC

theorem Keeps.tryAnswer {r typ q l tlvs} (hs : Keeps s₀ s) : Keeps s₀ (s.tryAnswer r typ q l tlvs) := by
  unfold State.tryAnswer
  split
  · rename_i heq
    exact (hs.tryEffs heq).answerC
  · exact hs.refuseC

theorem Keeps.withdraw {later} (hs : Keeps s₀ s) : Keeps s₀ (s.withdraw later) := by
  simp only [State.withdraw, ↓via Keeps.replyC, ↓via Keeps.out_, ↓via Keeps.foldl, hs, Keeps.refl, true_or, and_true, implies_true]

theorem Keeps.withdrawDelayed {p} (hs : Keeps s₀ s) : Keeps s₀ (s.withdrawDelayed p) := by
  simp only [State.withdrawDelayed, ↓via Keeps.salvoReply, ↓via Keeps.onSalvo, ↓via Keeps.foldl, hs, Keeps.refl, true_or, and_true, implies_true]

theorem Keeps.withdrawRights (hs : Keeps s₀ s) : Keeps s₀ s.withdrawRights := by
  simp only [State.withdrawRights, ↓via Keeps.replyC, ↓via Keeps.out_, ↓via Keeps.withdrawDelayed, ↓via Keeps.ite, ↓via Keeps.foldl, ↓keeps_record,
    hs, Keeps.refl, true_or, and_true, implies_true]

theorem Keeps.withdrawSalvos {later} (hs : Keeps s₀ s) : Keeps s₀ (s.withdrawSalvos later) := hs.withdrawDelayed

theorem Keeps.evalTake {w first later due} (hs : Keeps s₀ s) : Keeps s₀ (s.evalTake w first later due) := by
  unfold State.evalTake
  dsimp only
  split
  · rename_i heq
    have h1 := hs.tryEffs heq
    simp only [↓via Keeps.replyC, ↓via Keeps.out_, ↓via Keeps.ite, h1, true_or, and_self]
  · simp only [↓via Keeps.bump, ↓via Keeps.peak, ↓via Keeps.replyC, ↓via Keeps.out_, ↓via Keeps.ite, hs, true_or, and_true]

theorem Keeps.evalWindow {r q b} (hs : Keeps s₀ s) : Keeps s₀ (s.evalWindow r q b) := by
  fun_cases State.evalWindow <;> simp only [↓via Keeps.replyC, ↓via Keeps.out_, ↓via Keeps.answerC, ↓via Keeps.refuseC, ↓via Keeps.tryAnswer, hs,
    true_or]

theorem Keeps.evalStep {r typ q b d aon} (hs : Keeps s₀ s) : Keeps s₀ (s.evalStep r typ q b d aon) := by
  fun_cases State.evalStep <;> simp only [↓via Keeps.replyC, ↓via Keeps.out_, ↓via Keeps.answerC, hs, true_or]

theorem Keeps.evalRestart {r q b} (hs : Keeps s₀ s) : Keeps s₀ (s.evalRestart r q b) := by
  simp only [State.evalRestart, ↓via Keeps.out_, ↓via Keeps.outs, ↓via Keeps.answerC, ↓via Keeps.ite, hs, true_or, and_true]

theorem Keeps.serveReq {r later b} (hs : Keeps s₀ s) : Keeps s₀ (s.serveReq r later b) := by
  unfold State.serveReq
  (repeat' split) <;> simp only [↓via Keeps.freshNot, ↓via Keeps.setSess, ↓via Keeps.replyC, ↓via Keeps.flowInsert, ↓via Keeps.out_, ↓via Keeps.outs,
    ↓via Keeps.answerC, ↓via Keeps.tryAnswer, ↓via Keeps.evalTake, ↓via Keeps.evalWindow, ↓via Keeps.evalStep, ↓via Keeps.evalRestart,
    ↓via Keeps.ite, hs, true_or, and_true]

theorem Keeps.admitShare {x own u} (hs : Keeps s₀ s) (h : s.admitShare x own = .inr u) : Keeps s₀ u := by
  revert h
  fun_cases State.admitShare
  case case5 v hv => intro h; exact Sum.inr.inj h ▸ hs.tryEffs hv
  all_goals simp only [reduceCtorEq, false_implies]

theorem Keeps.sendLater {target coord num close body} (hs : Keeps s₀ s) : Keeps s₀ (s.sendLater target coord num close body) := hs.newMsgId.out_

theorem Keeps.serveArm {r m} (hs : Keeps s₀ s) : Keeps s₀ (s.serveArm r m) := by
  unfold State.serveArm
  split
  · dsimp only
    split
    · rename_i heq
      exact (hs.admitShare heq).sendLater
    · simp only [↓via Keeps.bump, ↓via Keeps.sendLater, ↓via Keeps.ite, hs, true_or, and_true]
  · exact hs

theorem Keeps.serveSalvo {num} (hs : Keeps s₀ s) : Keeps s₀ (s.serveSalvo num) := by
  unfold State.serveSalvo
  split
  · exact hs
  · dsimp only
    split
    · rename_i u heq
      have h1 : Keeps s₀ u := by
        split at heq
        · exact Sum.inr.inj heq ▸ hs
        · exact hs.admitShare heq
      exact h1.onSalvo.salvoArmed
    · exact hs.onSalvo.refuseSalvo

theorem Keeps.doWork {later due x3} (hs : Keeps s₀ s) : Keeps s₀ (s.doWork later due x3) := by
  fun_cases State.doWork <;> simp only [↓via Keeps.evalTake, ↓via Keeps.serveReq, ↓via Keeps.serveArm, ↓via Keeps.serveSalvo, hs, true_or]

theorem Keeps.decide {v commit} (hs : Keeps s₀ s) : Keeps s₀ (s.decide v commit) := by
  simp only [State.decide, ↓via Keeps.replyC, ↓via Keeps.out_, ↓via Keeps.outDecision, ↓via Keeps.salvoReply, ↓via Keeps.sendLater, ↓via Keeps.ite,
    ↓via Keeps.foldl, hs, Keeps.refl, true_or, and_true, implies_true]

theorem Keeps.moveFailed {v b res chip} (hs : Keeps s₀ s) : Keeps s₀ (s.moveFailed v b res chip) := by
  simp only [State.moveFailed, ↓via Keeps.bump, ↓via Keeps.event, ↓via Keeps.raise, ↓via Keeps.outs, ↓via Keeps.ite, ↓via Keeps.foldl, hs,
    Keeps.refl, true_or, and_true, implies_true]

theorem Keeps.salvoRefused {v code res chip b} (hs : Keeps s₀ s) : Keeps s₀ (s.salvoRefused v code res chip b) := by
  simp only [State.salvoRefused, ↓via Keeps.armOne, ↓via Keeps.decide, ↓via Keeps.moveFailed, ↓via Keeps.ite, hs, true_or, and_true]

theorem Keeps.decideSalvos {b} (hs : Keeps s₀ s) : Keeps s₀ (s.decideSalvos b) := by
  refine .foldl ⟨hs, fun s x => ?_⟩
  dsimp only
  (repeat' split) <;> simp only [↓via Keeps.bump, ↓via Keeps.event, ↓via Keeps.decide, ↓via Keeps.moveFailed, ↓via Keeps.salvoRefused,
    ↓via Keeps.foldl, Keeps.refl, true_or, and_true, implies_true]

theorem Keeps.takeDecisions (hs : Keeps s₀ s) : Keeps s₀ s.takeDecisions := by
  simp only [State.takeDecisions, ↓via Keeps.out_, ↓via Keeps.foldl, ↓keeps_record, hs, Keeps.refl, true_or, and_true, implies_true]

theorem Keeps.carryShare {x b} (hs : Keeps s₀ s) : Keeps s₀ (s.carryShare x b) := by
  simp only [State.carryShare, ↓via Keeps.out_, ↓via Keeps.ite, ↓via Keeps.foldl, hs, Keeps.refl, true_or, and_true, implies_true]

theorem Keeps.commitShares {b} (hs : Keeps s₀ s) : Keeps s₀ (s.commitShares b) := by
  simp only [State.commitShares, ↓via Keeps.foldl, hs, true_and]
  exact .inl fun s x => by (repeat' split) <;> simp only [↓via Keeps.raise, ↓via Keeps.out_, ↓via Keeps.carryShare, Keeps.refl, true_or]

theorem Keeps.freeRoute {r levels b} (hs : Keeps s₀ s) : Keeps s₀ (s.freeRoute r levels b) := by
  simp only [State.freeRoute, ↓via Keeps.out_, ↓via Keeps.sendLater, ↓via Keeps.foldl, hs, Keeps.refl, true_or, and_true, implies_true]

theorem Keeps.freeRoutes {b} (hs : Keeps s₀ s) : Keeps s₀ (s.freeRoutes b) := by
  simp only [State.freeRoutes, ↓via Keeps.freeRoute, ↓via Keeps.ite, ↓via Keeps.foldl, hs, Keeps.refl, true_or, and_true, implies_true]

theorem Keeps.lostRoutes {b} (hs : Keeps s₀ s) : Keeps s₀ (s.lostRoutes b) := by
  simp only [State.lostRoutes, ↓via Keeps.noteSteps, ↓via Keeps.armOne, ↓via Keeps.freeRoute, ↓via Keeps.foldl, ↓keeps_record, hs, Keeps.refl,
    true_or, and_true, implies_true]

theorem Keeps.dropMoves (hs : Keeps s₀ s) : Keeps s₀ s.dropMoves := .record ⟨hs, rfl, rfl, rfl, rfl⟩

theorem Keeps.armRestored (hs : Keeps s₀ s) : Keeps s₀ s.armRestored := by
  simp only [State.armRestored, ↓via Keeps.armOne, ↓via Keeps.foldl, ↓keeps_record, hs, Keeps.refl, true_or, and_true, implies_true]

theorem Keeps.catchPaths {due} (hs : Keeps s₀ s) : Keeps s₀ (s.catchPaths due) := by
  refine .foldl ⟨hs, fun s d => .foldl ⟨.refl s, fun s lv => ?_⟩⟩
  dsimp only
  (repeat' split) <;> simp only [↓via Keeps.out_, Keeps.refl, true_or]

theorem Keeps.closeRest {b} (hs : Keeps s₀ s) : Keeps s₀ (s.closeRest b) := by
  simp only [State.closeRest, ↓via Keeps.outs, ↓via Keeps.decideSalvos, ↓via Keeps.commitShares, ↓via Keeps.catchPaths, ↓keeps_record, hs, true_or,
    and_true]

theorem Keeps.doWorks {due b} (hs : Keeps s₀ s) : Keeps s₀ (s.doWorks due b) := by
  fun_cases State.doWorks
  case case1 u left x he held =>
    have hu : Keeps s₀ u := by
      rw [show u = (u, left, x).1 from rfl, ← he]
      refine .foldl_fst (fun b w => ?_) _ hs
      dsimp only
      split
      · exact .refl _
      · split
        · exact .refl _
        · exact (Keeps.refl _).doWork
    exact Keeps.bump (.record ⟨hu, rfl, rfl, rfl, rfl⟩)

theorem Keeps.checkpoint (hs : Keeps s₀ s) : Keeps s₀ s.checkpoint := by
  simp only [State.checkpoint, ↓via Keeps.beginCheckpoint, ↓via Keeps.ite, hs, true_or, and_true]

theorem Keeps.confirm {effs replies} (hs : Keeps s₀ s) : Keeps s₀ (s.confirm effs replies) := by
  simp only [State.confirm, ↓via Keeps.reply, ↓via Keeps.armAll, ↓via Keeps.foldl, hs, Keeps.refl, true_or, true_and, and_true, implies_true]
  exact .inl fun s x => by (repeat' split) <;> simp only [↓via Keeps.sendMsg, ↓via Keeps.note, Keeps.refl, true_or]

theorem Keeps.admission {due b} (hs : Keeps s₀ s) : Keeps s₀ (s.admission due b) := by
  simp only [State.admission, ↓via Keeps.withdraw, ↓via Keeps.withdrawRights, ↓via Keeps.withdrawSalvos, ↓via Keeps.decideSalvos,
    ↓via Keeps.takeDecisions, ↓via Keeps.freeRoutes, ↓via Keeps.lostRoutes, ↓via Keeps.dropMoves, ↓via Keeps.armRestored, ↓via Keeps.closeRest,
    ↓via Keeps.doWorks, ↓keeps_record, hs, true_or, and_true]

theorem Keeps.sendCopy {close} (hs : Keeps s₀ s) : Keeps s₀ (s.sendCopy close) := by
  fun_cases State.sendCopy <;> simp +zetaDelta only [↓via Keeps.bump, ↓via Keeps.peak, ↓via Keeps.dblData, ↓via Keeps.confirm, ↓keeps_record, hs,
    true_or, and_true]

theorem Keeps.closeCycle {b} (hs : Keeps s₀ s) : Keeps s₀ (s.closeCycle b) := by
  simp only [State.closeCycle, ↓via Keeps.settle, ↓via Keeps.checkpoint, ↓via Keeps.admission, ↓via Keeps.sendCopy, ↓via Keeps.ite, hs, true_or,
    and_true]

/-! ### Pins -/

theorem Keeps.gpoShow {p level} (hs : Keeps s₀ s) : Keeps s₀ (s.gpoShow p level) := by
  unfold State.gpoShow
  split <;> simp only [↓via Keeps.set, ↓via Keeps.bump, ↓via Keeps.ite, hs, true_or, and_true]

theorem Keeps.tallies (hs : Keeps s₀ s) : Keeps s₀ s.tallies := by
  simp only [State.tallies, ↓via Keeps.gpoShow, ↓via Keeps.ite, ↓via Keeps.foldl, hs, Keeps.refl, true_or, and_true, implies_true]

theorem Keeps.fireRefused {n res chip} (hs : Keeps s₀ s) : Keeps s₀ (s.fireRefused n res chip).2 := hs.event

theorem Keeps.fire {n} (hs : Keeps s₀ s) : Keeps s₀ (s.fire n).2 := by
  fun_cases State.fire
  case case7 hn => exact (Keeps.of_snd hn (Keeps.newSalvoNum (.record ⟨hs, rfl, rfl, rfl, rfl⟩))).armSalvo
  all_goals simp only [↓via Keeps.bump, ↓via Keeps.fireRefused, hs, true_or]

theorem Keeps.gpiEdge {p level} (hs : Keeps s₀ s) : Keeps s₀ (s.gpiEdge p level) := by
  unfold State.gpiEdge
  dsimp only
  (repeat' split) <;> simp only [↓via Keeps.set, ↓via Keeps.bump, ↓via Keeps.event, ↓via Keeps.fire, hs, true_or]

theorem Keeps.pinSample {p level} (hs : Keeps s₀ s) : Keeps s₀ (s.pinSample p level) := by
  simp only [State.pinSample, ↓via Keeps.set, ↓via Keeps.gpoShow, ↓via Keeps.gpiEdge, ↓via Keeps.ite, ↓keeps_record, hs, true_or, and_true]

/-! ### The doubled pair -/

theorem Keeps.roleFromOff (hs : Keeps s₀ s) : Keeps s₀ s.roleFromOff := by
  simp only [State.roleFromOff, ↓via Keeps.setRole, ↓via Keeps.ite, ↓keeps_record, hs, true_or, and_true]

theorem Keeps.recheck (hs : Keeps s₀ s) : Keeps s₀ s.recheck := by
  simp only [State.recheck, ↓via Keeps.foldl, hs, true_and]
  exact .inl fun s x => by (repeat' split) <;> simp only [↓via Keeps.sendVia, ↓via Keeps.endSession, ↓via Keeps.setSess, Keeps.refl, true_or]

theorem Keeps.announce (hs : Keeps s₀ s) : Keeps s₀ s.announce := by
  simp only [State.announce, ↓via Keeps.sendEth, hs, true_or]

theorem Keeps.takeControl {role advance} (hs : Keeps s₀ s) : Keeps s₀ (s.takeControl role advance) := by
  simp only [State.takeControl, ↓via Keeps.bump, ↓via Keeps.setRole, ↓via Keeps.recheck, ↓via Keeps.announce, ↓via Keeps.ite, ↓keeps_record, hs,
    true_or, and_true]

theorem Keeps.dropUnarmed (hs : Keeps s₀ s) : Keeps s₀ s.dropUnarmed := .record ⟨hs, rfl, rfl, rfl, rfl⟩

theorem Keeps.detach (hs : Keeps s₀ s) : Keeps s₀ s.detach := by
  simp only [State.detach, ↓via Keeps.setRole, ↓via Keeps.countYield, ↓via Keeps.quietLater, ↓via Keeps.dropUnarmed, ↓keeps_record, hs, true_or,
    and_true]

theorem Keeps.dualControl (hs : Keeps s₀ s) : Keeps s₀ s.dualControl := by
  simp only [State.dualControl, ↓via Keeps.peak, ↓via Keeps.errNamed, ↓via Keeps.detach, ↓via Keeps.ite, hs, true_or, and_true]

theorem Keeps.alone (hs : Keeps s₀ s) : Keeps s₀ s.alone := by
  fun_cases State.alone <;> simp only [↓via Keeps.confirm, ↓keeps_record, hs, true_or, and_true]

theorem Keeps.bulkDone (hs : Keeps s₀ s) : Keeps s₀ s.bulkDone := by
  simp only [State.bulkDone, ↓via Keeps.reply, ↓via Keeps.foldl, ↓keeps_record, hs, Keeps.refl, true_or, and_true, implies_true]

theorem Keeps.twinSays {h} (hs : Keeps s₀ s) : Keeps s₀ (s.twinSays h) := by
  fun_cases State.twinSays <;> simp +zetaDelta only [↓via Keeps.setRole, ↓via Keeps.roleFromOff, ↓via Keeps.takeControl, ↓via Keeps.alone,
    ↓via Keeps.bulkDone, ↓via Keeps.ite, ↓keeps_record, hs, true_or, and_true]

theorem Keeps.applyCopy {effs close} (hs : Keeps s₀ s) : Keeps s₀ (s.applyCopy effs close) := by
  simp only [State.applyCopy, ↓via Keeps.settle, ↓via Keeps.applyEffs, ↓keeps_record, hs, true_or, and_true]

theorem Keeps.confirmCopy {effs close} (hs : Keeps s₀ s) : Keeps s₀ (s.confirmCopy effs close) := by
  simp only [State.confirmCopy, ↓via Keeps.bump, ↓via Keeps.peak, ↓via Keeps.dblSend, ↓via Keeps.confirm, ↓via Keeps.applyCopy, ↓keeps_record, hs,
    true_or, and_true]

theorem Keeps.copyFailed {close} (hs : Keeps s₀ s) : Keeps s₀ (s.copyFailed close) := by
  simp only [State.copyFailed, ↓via Keeps.setRole, ↓via Keeps.countYield, ↓via Keeps.quietLater, ↓via Keeps.dblSend, ↓via Keeps.errNamed,
    ↓via Keeps.ite, ↓keeps_record, hs, true_or, and_true]

theorem Keeps.snapBase (hs : Keeps s₀ s) : Keeps s₀ s.snapBase := by
  simp only [State.snapBase, ↓via Keeps.setDst, ↓via Keeps.setOut, ↓via Keeps.setHead, ↓via Keeps.ite, ↓via Keeps.foldl, ↓keeps_record, hs,
    Keeps.refl, true_or, and_true, implies_true]

theorem Keeps.skeinAct {port m} (hs : Keeps s₀ s) : Keeps s₀ (s.skeinAct port m) := by
  fun_cases State.skeinAct <;> simp only [↓via Keeps.reportAct, ↓keeps_record, hs, true_or, and_true]

theorem Keeps.swapAccept {reqs} (hs : Keeps s₀ s) : Keeps s₀ (s.swapAccept reqs) := by
  simp only [State.swapAccept, ↓via Keeps.foldl, ↓keeps_record, hs, Keeps.refl, true_or, true_and, and_true, implies_true]
  exact .inl (.inl fun s x => by (repeat' split) <;> simp only [↓via Keeps.setSess, ↓via Keeps.skeinAct, ↓keeps_record, Keeps.refl, true_or,
    and_true])

theorem Keeps.swapInstant (hs : Keeps s₀ s) : Keeps s₀ s.swapInstant := by
  unfold State.swapInstant
  split <;> simp only [↓via Keeps.bump, ↓via Keeps.emit, ↓via Keeps.setRole, ↓via Keeps.takeControl, ↓keeps_record, hs, true_or, and_true]

theorem Keeps.redate {b} (hs : Keeps s₀ s) : Keeps s₀ (s.redate b) := .record ⟨hs, rfl, rfl, rfl, rfl⟩

theorem Keeps.defer {end_} (hs : Keeps s₀ s) : Keeps s₀ (s.defer end_) := by
  unfold State.defer
  split <;> simp only [↓via Keeps.redate, ↓keeps_record, hs, true_or, and_true]

theorem Keeps.sendClaim (hs : Keeps s₀ s) : Keeps s₀ s.sendClaim := by
  simp only [State.sendClaim, ↓via Keeps.emit, ↓via Keeps.sendUnits, ↓via Keeps.foldl, hs, Keeps.refl, true_or, and_true, implies_true]

theorem Keeps.linkDown (hs : Keeps s₀ s) : Keeps s₀ s.linkDown := by
  simp only [State.linkDown, ↓via Keeps.set, ↓via Keeps.noteMirrors, ↓keeps_record, hs, true_or, and_true]

theorem Keeps.dblDown (hs : Keeps s₀ s) : Keeps s₀ s.dblDown := by
  simp only [State.dblDown, ↓via Keeps.quietAll, ↓via Keeps.setRole, ↓via Keeps.dropUnarmed, ↓via Keeps.linkDown, ↓via Keeps.ite, ↓keeps_record, hs,
    true_or, and_true]

theorem Keeps.dblUp (hs : Keeps s₀ s) : Keeps s₀ s.dblUp := by
  simp only [State.dblUp, ↓via Keeps.roleFromOff, ↓via Keeps.ite, hs, true_or, and_true]

/-! ### Staging -/

theorem Keeps.badImage {c detail} (hs : Keeps s₀ s) : Keeps s₀ (s.badImage c detail) := hs.stageDiscard.set.reply

/-! ### The start -/

theorem Keeps.fallen (hs : Keeps s₀ s) : Keeps s₀ s.fallen := by
  exact { hs with regs_ok := fun r => canonical_filter (hs.regs_ok r), wide_ok := fun _ => rfl }

theorem Keeps.tornRecord (hs : Keeps s₀ s) : Keeps s₀ s.tornRecord := by
  fun_cases State.tornRecord <;> simp only [↓via Keeps.putRecord, hs, true_or]

theorem Keeps.halt {code detail offset} (hs : Keeps s₀ s) : Keeps s₀ (s.halt code detail offset) := by
  simp only [State.halt, ↓via Keeps.status, ↓via Keeps.report, ↓via Keeps.ite, ↓keeps_record, hs, true_or, and_true]

theorem Keeps.startKeys {w} (hs : Keeps s₀ s) : Keeps s₀ (s.startKeys w) := by
  simp only [State.startKeys, ↓via Keeps.set, ↓via Keeps.clearWindow, ↓via Keeps.drawHalf, ↓via Keeps.loadSlots, ↓via Keeps.ite, ↓keeps_record, hs,
    true_or, and_true]

theorem Keeps.journalEnd (hs : Keeps s₀ s) : Keeps s₀ s.journalEnd := .record ⟨hs, rfl, rfl, rfl, rfl⟩

theorem Keeps.logEnd (hs : Keeps s₀ s) : Keeps s₀ s.logEnd := .record ⟨hs, rfl, rfl, rfl, rfl⟩

theorem Keeps.startEvents {skipped} (hs : Keeps s₀ s) : Keeps s₀ (s.startEvents skipped) := by
  simp only [State.startEvents, ↓via Keeps.event, ↓via Keeps.aonLost, ↓via Keeps.ite, ↓via Keeps.foldl, ↓keeps_record, hs, Keeps.refl, true_or,
    and_true, implies_true]

theorem Keeps.clusterOn {c} (hs : Keeps s₀ s) : Keeps s₀ (s.clusterOn c) := by
  simp only [State.clusterOn, ↓via Keeps.portOn, ↓via Keeps.setRxState, ↓via Keeps.strandsOn, ↓via Keeps.ite, ↓via Keeps.foldl, hs, Keeps.refl,
    true_or, and_true, implies_true]

theorem Keeps.mgmtOn (hs : Keeps s₀ s) : Keeps s₀ s.mgmtOn := by
  simp only [State.mgmtOn, ↓via Keeps.portOn, ↓via Keeps.foldl, hs, Keeps.refl, true_or, and_true, implies_true]

theorem Keeps.destStart (hs : Keeps s₀ s) : Keeps s₀ s.destStart := by
  simp only [State.destStart, ↓via Keeps.setDst, ↓via Keeps.foldl, hs, Keeps.refl, true_or, and_true, implies_true]

theorem Keeps.configure {l} (hs : Keeps s₀ s) : Keeps s₀ (s.configure l) := by
  simp only [State.configure, ↓via Keeps.set, ↓via Keeps.fresh, ↓via Keeps.stageShow, ↓via Keeps.fltSync, ↓via Keeps.status, ↓via Keeps.err,
    ↓via Keeps.setTile, ↓via Keeps.whlShow, ↓via Keeps.pulseShow, ↓via Keeps.utcShow, ↓via Keeps.firstTime, ↓via Keeps.consumers,
    ↓via Keeps.evacShow, ↓via Keeps.flowStart, ↓via Keeps.audServe, ↓via Keeps.journalEnd, ↓via Keeps.logEnd, ↓via Keeps.startEvents,
    ↓via Keeps.clusterOn, ↓via Keeps.mgmtOn, ↓via Keeps.destStart, ↓via Keeps.ite, ↓via Keeps.foldl, ↓keeps_record, hs, Keeps.refl, true_or,
    and_true, implies_true]

theorem Keeps.opened {w} (hs : Keeps s₀ s) : Keeps s₀ (s.opened w) := by
  simp only [State.opened, ↓via Keeps.set, ↓via Keeps.zeroStage, ↓via Keeps.startKeys, ↓via Keeps.ite, ↓keeps_record, hs, true_or, and_true]

theorem Keeps.startWindow {v} (hs : Keeps s₀ s) : Keeps s₀ (s.startWindow v) := by
  simp only [State.startWindow, ↓via Keeps.fresh, ↓via Keeps.ite_snd, ↓keeps_record, hs, true_or, and_true]

theorem Keeps.delayStart (hs : Keeps s₀ s) : Keeps s₀ s.delayStart := by
  simp only [State.delayStart, ↓via Keeps.setDst, ↓via Keeps.foldl, hs, Keeps.refl, true_or, and_true, implies_true]

theorem Keeps.storeStart (hs : Keeps s₀ s) : Keeps s₀ s.storeStart := by
  simp only [State.storeStart, ↓via Keeps.bankClear, ↓via Keeps.loadStill, ↓via Keeps.loadSafety, ↓via Keeps.ite, ↓via Keeps.foldl, hs, Keeps.refl,
    true_or, and_true, implies_true]

theorem Keeps.groupG (hs : Keeps s₀ s) : Keeps s₀ s.groupG := by
  simp only [State.groupG, ↓via Keeps.audStart, ↓via Keeps.headStart, ↓via Keeps.syncBobbins, ↓via Keeps.startWindow, ↓via Keeps.delayStart,
    ↓via Keeps.storeStart, ↓via Keeps.foldl, hs, Keeps.refl, true_or, and_true, implies_true]

theorem Keeps.dropFar {dest lv} (hs : Keeps s₀ s) : Keeps s₀ (s.dropFar dest lv) := .record ⟨hs, rfl, rfl, rfl, rfl⟩

theorem Keeps.levelFill {dest lv mode prio} (hs : Keeps s₀ s) : Keeps s₀ (s.levelFill dest lv mode prio) := hs.dropFar.applyEff

theorem Keeps.replayLevel {dest lv mode src prio u} (hs : Keeps s₀ s) (h : s.replayLevel dest lv mode src prio = .inl u) : Keeps s₀ u := by
  revert h
  fun_cases State.replayLevel
  case case2 => intro h; exact Sum.inl.inj h ▸ hs.levelFill
  case case3 => rintro ⟨⟩; exact Keeps.record ⟨hs.levelFill, rfl, rfl, rfl, rfl⟩
  case case5 v _ => intro h; exact Sum.inl.inj h ▸ hs.dropFar.applyEff
  all_goals rintro ⟨⟩

theorem Keeps.replayWindow {v u} (hs : Keeps s₀ s) (h : s.replayWindow v = .inl u) : Keeps s₀ u := by
  revert h
  fun_cases State.replayWindow
  case case4 v _ _ => intro h; exact Sum.inl.inj h ▸ Keeps.startWindow (s := { s with mv.wins := _ }) hs
  all_goals rintro ⟨⟩

theorem Keeps.replayFlow {i legs u} (hs : Keeps s₀ s) (h : s.replayFlow i legs = .inl u) : Keeps s₀ u := by
  revert h
  fun_cases State.replayFlow
  case case1 => rintro ⟨⟩
  case case2 hi _ => rintro ⟨⟩; exact (Keeps.of_snd hi hs.flowInsert).event
  case case3 v hi _ w x =>
    rintro ⟨⟩
    have hv : Keeps s₀ v := .of_snd hi hs.flowInsert
    have hw : Keeps s₀ w := .ite ⟨.foldl ⟨hv, fun s l => (Keeps.refl s).joinLeg⟩, hv⟩
    exact hw.setFlow.flowSwitch

theorem Keeps.replayItem {i u} (hs : Keeps s₀ s) (h : s.replayItem i = .inl u) : Keeps s₀ u := by
  revert h
  fun_cases State.replayItem
  case case1 => exact hs.replayLevel
  case case3 fits _ _ _ _ =>
    intro h
    simp only [fits] at h
    split at h
    · exact Sum.inl.inj h ▸ hs.setDst
    · cases h
  case case5 => rintro ⟨⟩; exact hs.setOut
  case case8 => rintro ⟨⟩; exact hs.setBus
  case case10 fits _ _ _ _ _ =>
    intro h
    simp only [fits] at h
    split at h
    · exact Sum.inl.inj h ▸ .record ⟨hs, rfl, rfl, rfl, rfl⟩
    · cases h
  case case12 => exact hs.replayWindow
  case case14 => rintro ⟨⟩; exact .record ⟨hs, rfl, rfl, rfl, rfl⟩
  case case16 => rintro ⟨⟩; exact hs.setHead
  case case17 => exact hs.replayFlow
  all_goals rintro ⟨⟩

theorem Keeps.itemDropped {i} (hs : Keeps s₀ s) : Keeps s₀ (s.itemDropped i) := by
  fun_cases State.itemDropped <;> simp only [↓via Keeps.levelFill, hs, true_or]

theorem Keeps.notRestored {i res chip} (hs : Keeps s₀ s) : Keeps s₀ (s.notRestored i res chip) := by
  simp only [State.notRestored, ↓via Keeps.bump, ↓via Keeps.fresh, ↓via Keeps.event, hs, true_or]

theorem Keeps.replay (hs : Keeps s₀ s) : Keeps s₀ s.replay := by
  unfold State.replay
  split
  · exact hs
  · split
    · exact hs
    · split
      · exact hs.event
      · refine .foldl ⟨hs, fun s i => ?_⟩
        split
        · rename_i heq
          exact (Keeps.replayItem (.refl s) heq).bump
        · exact (Keeps.refl s).itemDropped.notRestored

theorem Keeps.copyEvents (hs : Keeps s₀ s) : Keeps s₀ s.copyEvents := by
  unfold State.copyEvents
  dsimp only
  (repeat' split) <;> simp only [↓via Keeps.event, ↓via Keeps.raise, ↓keeps_record, hs, true_or, and_true]

/-! ### The switching point -/

theorem Keeps.mixedShot {format under paced lost size gone} (hs : Keeps s₀ s) :
    Keeps s₀ (s.mixedShot format under paced lost size gone).2 := hs.freePic

theorem Keeps.ringShot {c format n d k num} (hs : Keeps s₀ s) : Keeps s₀ (s.ringShot c format n d k num).2 := by
  fun_cases State.ringShot <;> simp only [↓via Keeps.mixedShot, hs, true_or]

theorem Keeps.directShot {c format n d k rate} (hs : Keeps s₀ s) : Keeps s₀ (s.directShot c format n d k rate).2 := by
  fun_cases State.directShot <;> simp only [↓via Keeps.mixedShot, hs, true_or]

theorem Keeps.videoOf {dest d n} (hs : Keeps s₀ s) : Keeps s₀ (s.videoOf dest d n).2 := by
  fun_cases State.videoOf <;> simp only [↓via Keeps.mixedShot, ↓via Keeps.ringShot, ↓via Keeps.directShot, hs, true_or]

theorem Keeps.ancLeft {l lost gone} (hs : Keeps s₀ s) : Keeps s₀ (s.ancLeft l lost gone).2 := by
  fun_cases State.ancLeft <;> simp only [↓keeps_record, hs, true_or, and_true]

theorem Keeps.ancOf {dest d n} (hs : Keeps s₀ s) : Keeps s₀ (s.ancOf dest d n).2 := by
  unfold State.ancOf
  dsimp only
  (repeat' split) <;> simp only [↓via Keeps.ancLeft, hs, true_or]

theorem Keeps.emitSdi {dest n v d f} (hs : Keeps s₀ s) : Keeps s₀ (s.emitSdi dest n v d f) := by
  fun_cases State.emitSdi
  case case1 rest k hp lanes u v w =>
    have hu : Keeps s₀ u := .foldl ⟨hs, fun s l => (Keeps.refl s).bump.set.set⟩
    have hv : Keeps s₀ v := hu.bump
    have hw : Keeps s₀ w := by
      simp only [w]
      split
      · exact hv
      · exact hv.putWide
    exact hw.emit

theorem Keeps.countSeq {v b} (hs : Keeps s₀ s) : Keeps s₀ (s.countSeq v b) := by
  simp only [State.countSeq, ↓via Keeps.set, ↓via Keeps.emitPkts, ↓keeps_record, hs, true_or, and_true]

theorem Keeps.typeOut {v paced} (hs : Keeps s₀ s) : Keeps s₀ (s.typeOut v paced) := by
  simp only [State.typeOut, ↓via Keeps.set, ↓via Keeps.fresh, ↓via Keeps.ite, hs, true_or, and_true]

theorem Keeps.withheld {x p hit} (hs : Keeps s₀ s) : Keeps s₀ (s.withheld x p hit).2 := by
  unfold State.withheld
  split <;> simp only [↓via Keeps.fresh, hs, true_or]

theorem Keeps.emitVideo {format n x v} (hs : Keeps s₀ s) : Keeps s₀ (s.emitVideo format n x v) := by
  simp only [State.emitVideo, ↓via Keeps.set, ↓via Keeps.bump, ↓via Keeps.emitPkts, ↓via Keeps.typeOut, ↓via Keeps.withheld, hs, true_or]

theorem Keeps.emitXs {format n x v} (hs : Keeps s₀ s) : Keeps s₀ (s.emitXs format n x v) := by
  simp only [State.emitXs, ↓via Keeps.bump, ↓via Keeps.fresh, ↓via Keeps.countSeq, ↓via Keeps.typeOut, ↓via Keeps.withheld, ↓via Keeps.ite_snd, hs,
    true_or, and_true]

theorem Keeps.emitAnc {format n f first v} (hs : Keeps s₀ s) : Keeps s₀ (s.emitAnc format n f first v) := by
  simp only [State.emitAnc, ↓via Keeps.bump, ↓via Keeps.countSeq, hs, true_or]

theorem Keeps.emitFlow {format n f first v} (hs : Keeps s₀ s) : Keeps s₀ (s.emitFlow format n f first v) := by
  fun_cases State.emitFlow <;> simp only [↓via Keeps.emitVideo, ↓via Keeps.emitXs, ↓via Keeps.emitAnc, hs, true_or]

theorem Keeps.emitIp {dest n v f} (hs : Keeps s₀ s) : Keeps s₀ (s.emitIp dest n v f) := by
  simp only [State.emitIp, ↓via Keeps.emit, ↓via Keeps.emitFlow, ↓via Keeps.foldl, hs, Keeps.refl, true_or, and_true, implies_true]

theorem Keeps.finish {dest n v d} (hs : Keeps s₀ s) : Keeps s₀ (s.finish dest n v d) := by
  simp only [State.finish, ↓via Keeps.bump, ↓via Keeps.setDst, ↓via Keeps.measure, ↓via Keeps.videoOf, ↓via Keeps.ancOf, ↓via Keeps.emitSdi,
    ↓via Keeps.emitIp, ↓via Keeps.ite, hs, true_or, and_true]

theorem Keeps.cutShort {dest d} (hs : Keeps s₀ s) : Keeps s₀ (s.cutShort dest d) := by
  simp only [State.cutShort, ↓via Keeps.foldl, hs, true_and]
  exact .inl fun s x => by (repeat' split) <;> simp only [↓via Keeps.amendAt, ↓via Keeps.ite, ↓via Keeps.foldl, Keeps.refl, true_or, and_true,
    implies_true]

theorem Keeps.pay {dest} (hs : Keeps s₀ s) : Keeps s₀ (s.pay dest) := by
  unfold State.pay
  split <;> simp only [↓via Keeps.finish, ↓via Keeps.cutShort, ↓via Keeps.ite, ↓keeps_record, hs, true_or, and_true]

theorem Keeps.payAll (hs : Keeps s₀ s) : Keeps s₀ s.payAll := by
  simp only [State.payAll, ↓via Keeps.pay, ↓via Keeps.ite, ↓via Keeps.foldl, hs, Keeps.refl, true_or, and_true, implies_true]

theorem Keeps.endFrame {dest v} (hs : Keeps s₀ s) : Keeps s₀ (s.endFrame dest v) := by
  simp only [State.endFrame, ↓via Keeps.finish, ↓via Keeps.pay, ↓via Keeps.ite, ↓keeps_record, hs, true_or, and_true]

theorem Keeps.openRead {k f l prev} (hs : Keeps s₀ s) : Keeps s₀ (s.openRead k f l prev) := by
  fun_cases State.openRead <;> simp only [↓via Keeps.setRing, hs, true_or]

theorem Keeps.closeWrite {k} (hs : Keeps s₀ s) : Keeps s₀ (s.closeWrite k) := by
  fun_cases State.closeWrite <;> simp only [↓via Keeps.setRing, hs, true_or]

theorem Keeps.switchLevel {dest lv a p} (hs : Keeps s₀ s) : Keeps s₀ (s.switchLevel dest lv a p) := by
  unfold State.switchLevel
  dsimp only
  (repeat' split) <;> simp only [↓via Keeps.setDst, ↓via Keeps.journalAdd, ↓via Keeps.audioTake, ↓via Keeps.openRead, ↓via Keeps.closeWrite, hs,
    true_or]

theorem Keeps.switchDue {dest a} (hs : Keeps s₀ s) : Keeps s₀ (s.switchDue dest a).2 := by
  simp only [State.switchDue, ↓via Keeps.err, ↓via Keeps.onLevel, ↓via Keeps.switchLevel, ↓via Keeps.ite_snd, ↓via Keeps.foldl_snd, hs, Keeps.refl,
    true_or, and_true, implies_true]

theorem Keeps.switchEvents {dest l} (hs : Keeps s₀ s) : Keeps s₀ (s.switchEvents dest l) := by
  simp only [State.switchEvents, ↓via Keeps.bump, ↓via Keeps.event, ↓via Keeps.foldl, hs, Keeps.refl, true_or, and_true, implies_true]

theorem Keeps.switchDelay {dest a} (hs : Keeps s₀ s) : Keeps s₀ (s.switchDelay dest a) := by
  fun_cases State.switchDelay
  case case1 => exact hs
  case case2 u v =>
    have hu : Keeps s₀ u := hs.setDst
    have hv : Keeps s₀ v := .foldl ⟨hu, fun s y => by
      split
      · exact .ite ⟨.refl s, (Keeps.refl s).openRead⟩
      · exact .refl s⟩
    exact hv.journalAdd
  case case3 => exact hs

theorem Keeps.switchPath {dest a} (hs : Keeps s₀ s) : Keeps s₀ (s.switchPath dest a) := by
  refine .foldl ⟨hs, fun s x => ?_⟩
  dsimp only
  (repeat' split) <;> simp only [↓via Keeps.bump, ↓via Keeps.setDst, ↓via Keeps.onLevel, Keeps.refl, true_or]

theorem Keeps.readNext {k dest n} (hs : Keeps s₀ s) : Keeps s₀ (s.readNext k dest n) := hs.openRead.selectFrame

theorem Keeps.choose {dest n lv y x} (hs : Keeps s₀ s) : Keeps s₀ (s.choose dest n lv y x).2.2 := by
  unfold State.choose
  split <;> simp only [↓via Keeps.stillRead, ↓via Keeps.readNext, ↓via Keeps.ite, ↓via Keeps.ite_snd₂, hs, true_or, and_true]

theorem Keeps.setLive {dest v live} (hs : Keeps s₀ s) : Keeps s₀ (s.setLive dest v live) := by
  simp only [State.setLive, ↓via Keeps.set, ↓via Keeps.setDst, ↓via Keeps.flowQuiet, ↓via Keeps.ite, ↓via Keeps.foldl, hs, Keeps.refl, true_or,
    and_true, implies_true]

theorem Keeps.switch {dest n a v} (hs : Keeps s₀ s) : Keeps s₀ (s.switch dest n a v) := by
  simp only [State.switch, ↓via Keeps.setDst, ↓via Keeps.flipDest, ↓via Keeps.matchSlots, ↓via Keeps.evacSlots, ↓via Keeps.tallies,
    ↓via Keeps.endFrame, ↓via Keeps.switchDue, ↓via Keeps.switchEvents, ↓via Keeps.switchDelay, ↓via Keeps.switchPath, ↓via Keeps.choose,
    ↓via Keeps.setLive, hs, true_or]

/-! ### Frames of own sources -/

theorem Keeps.strandSend {p k lv rate} (hs : Keeps s₀ s) : Keeps s₀ (s.strandSend p k lv rate) := by
  fun_cases State.strandSend <;> simp +zetaDelta only [↓via Keeps.sendMedia, ↓keeps_record, hs, true_or, and_true]

theorem Keeps.strandSends (hs : Keeps s₀ s) : Keeps s₀ s.strandSends := by
  simp only [State.strandSends, ↓via Keeps.strandSend, ↓via Keeps.foldl, hs, Keeps.refl, true_or, and_true, implies_true]

theorem Keeps.slotsSend {q p k} (hs : Keeps s₀ s) : Keeps s₀ (s.slotsSend q p k) := by
  unfold State.slotsSend
  extract_lets addrs n u v x
  have hu : Keeps s₀ u := .foldl ⟨hs, fun s j => by
    split
    · exact (Keeps.refl s).emit
    · exact .refl s⟩
  exact hu.strandRun.setStrand

theorem Keeps.slotSends {q} (hs : Keeps s₀ s) : Keeps s₀ (s.slotSends q) := by
  simp only [State.slotSends, ↓via Keeps.slotsSend, ↓via Keeps.foldl, hs, Keeps.refl, true_or, and_true, implies_true]

/-! ### The house frame boundary -/

theorem Keeps.flipBank {k} (hs : Keeps s₀ s) : Keeps s₀ (s.flipBank k) := by
  simp only [State.flipBank, ↓via Keeps.bump, ↓via Keeps.setBanks, ↓via Keeps.ite, hs, true_or, and_true]

theorem Keeps.flipBanks (hs : Keeps s₀ s) : Keeps s₀ s.flipBanks := by
  simp only [State.flipBanks, ↓via Keeps.flipBank, ↓via Keeps.foldl, hs, Keeps.refl, true_or, and_true, implies_true]

theorem Keeps.timeDue (hs : Keeps s₀ s) : Keeps s₀ s.timeDue := by
  unfold State.timeDue
  dsimp only
  (repeat' split) <;> simp only [↓via Keeps.whlShow, ↓via Keeps.switchRef, ↓via Keeps.reselect, ↓keeps_record, hs, true_or, and_true]

theorem Keeps.clearDue (hs : Keeps s₀ s) : Keeps s₀ s.clearDue := by
  fun_cases State.clearDue <;> simp only [↓via Keeps.evacCleared, ↓keeps_record, hs, true_or, and_true]

theorem Keeps.swapDue (hs : Keeps s₀ s) : Keeps s₀ s.swapDue := by
  simp only [State.swapDue, ↓via Keeps.swapInstant, ↓via Keeps.ite, hs, true_or, and_true]

theorem Keeps.freeQuiet (hs : Keeps s₀ s) : Keeps s₀ s.freeQuiet := by
  simp only [State.freeQuiet, ↓via Keeps.flowQuiet, ↓via Keeps.foldl, hs, Keeps.refl, true_or, and_true, implies_true]

theorem Keeps.restartDue (hs : Keeps s₀ s) : Keeps s₀ s.restartDue := by
  fun_cases State.restartDue <;> simp only [↓via Keeps.fallen, ↓keeps_record, hs, true_or, and_true]

theorem Keeps.hystDue (hs : Keeps s₀ s) : Keeps s₀ s.hystDue := by
  simp only [State.hystDue, ↓via Keeps.applyEffs, ↓keeps_record, hs, true_or, and_true]

/-! ### Island resets -/

theorem Keeps.resetResolve {isl} (hs : Keeps s₀ s) : Keeps s₀ (s.resetResolve isl) := .record ⟨hs, rfl, rfl, rfl, rfl⟩

theorem Keeps.linksDown {ps} (hs : Keeps s₀ s) : Keeps s₀ (s.linksDown ps) := by
  simp only [State.linksDown, ↓via Keeps.setPortState, ↓via Keeps.ite, ↓via Keeps.foldl, hs, Keeps.refl, true_or, and_true, implies_true]

theorem Keeps.pcDown {c} (hs : Keeps s₀ s) : Keeps s₀ (s.pcDown c) := by
  simp only [State.pcDown, ↓via Keeps.clearWindow, ↓via Keeps.setDst, ↓via Keeps.beginReset, ↓via Keeps.setHead, ↓via Keeps.sendLinks,
    ↓via Keeps.strandDown, ↓via Keeps.linksDown, ↓via Keeps.ite, ↓via Keeps.foldl, ↓keeps_record, hs, Keeps.refl, true_or, and_true, implies_true]

theorem Keeps.seqBack {c} (hs : Keeps s₀ s) : Keeps s₀ (s.seqBack c) := .record ⟨hs, rfl, rfl, rfl, rfl⟩

theorem Keeps.pcUp {c} (hs : Keeps s₀ s) : Keeps s₀ (s.pcUp c) := by
  simp only [State.pcUp, ↓via Keeps.set, ↓via Keeps.flowRebuild, ↓via Keeps.setHead, ↓via Keeps.winShow, ↓via Keeps.headShow, ↓via Keeps.gpoShow,
    ↓via Keeps.clusterOn, ↓via Keeps.seqBack, ↓via Keeps.ite, ↓via Keeps.foldl, hs, Keeps.refl, true_or, and_true, implies_true]

theorem Keeps.spnKept (hs : Keeps s₀ s) : Keeps s₀ s.spnKept := by
  simp only [State.spnKept, ↓via Keeps.setWord, ↓via Keeps.clearWindow, ↓via Keeps.foldl, hs, Keeps.refl, true_or, and_true, implies_true]

theorem Keeps.spnDown (hs : Keeps s₀ s) : Keeps s₀ s.spnDown := by
  simp only [State.spnDown, ↓via Keeps.set, ↓via Keeps.bump, ↓via Keeps.quietAll, ↓via Keeps.stageDiscard, ↓via Keeps.setRole, ↓via Keeps.beginReset,
    ↓via Keeps.dropUnarmed, ↓via Keeps.linksDown, ↓via Keeps.spnKept, ↓via Keeps.ite, ↓keeps_record, hs, true_or, and_true]

theorem Keeps.logNext (hs : Keeps s₀ s) : Keeps s₀ s.logNext := .record ⟨hs, rfl, rfl, rfl, rfl⟩

theorem Keeps.spnUp {good} (hs : Keeps s₀ s) : Keeps s₀ (s.spnUp good) := by
  simp only [State.spnUp, ↓via Keeps.set, ↓via Keeps.stageShow, ↓via Keeps.logOne, ↓via Keeps.f4, ↓via Keeps.roleFromOff, ↓via Keeps.mgmtOn,
    ↓via Keeps.resetResolve, ↓via Keeps.logNext, ↓via Keeps.ite, ↓keeps_record, hs, true_or, and_true]

theorem Keeps.fence {isl} (hs : Keeps s₀ s) : Keeps s₀ (s.fence isl) := by
  simp only [State.fence, ↓via Keeps.set, ↓via Keeps.clearWindow, ↓via Keeps.fresh, ↓via Keeps.raise, ↓via Keeps.beginReset, ↓via Keeps.tileFail,
    ↓via Keeps.dgDown, ↓via Keeps.whlDown, ↓via Keeps.keyDown, ↓via Keeps.bootDown, ↓via Keeps.audDown, ↓via Keeps.dblDown, ↓via Keeps.pcDown,
    ↓via Keeps.spnDown, ↓via Keeps.ite, hs, true_or, and_true]

theorem Keeps.handshakeLost {f a} (hs : Keeps s₀ s) : Keeps s₀ (s.handshakeLost f a) := by
  simp only [State.handshakeLost, ↓via Keeps.err, ↓via Keeps.tileFail, ↓via Keeps.dgDown, ↓via Keeps.fence, ↓via Keeps.ite, hs, true_or, and_true]

theorem Keeps.rearm {isl good} (hs : Keeps s₀ s) : Keeps s₀ (s.rearm isl good) := by
  simp only [State.rearm, ↓via Keeps.set, ↓via Keeps.clearWindow, ↓via Keeps.resolve, ↓via Keeps.tileDone, ↓via Keeps.dgUp, ↓via Keeps.whlUp,
    ↓via Keeps.keyUp, ↓via Keeps.audUp, ↓via Keeps.dblUp, ↓via Keeps.resetResolve, ↓via Keeps.pcUp, ↓via Keeps.spnUp, ↓via Keeps.ite, hs, true_or,
    and_true]

/-! ### What registers show -/

theorem Keeps.foldAll {a} (hs : Keeps s₀ s) : Keeps s₀ (s.foldAll a) := by
  fun_cases State.foldAll <;> simp only [↓via Keeps.foldCount, ↓via Keeps.foldPulse, hs, true_or]

/-! ### Register reads -/

theorem Keeps.rcTake {a} (hs : Keeps s₀ s) : Keeps s₀ (s.rcTake a) := by
  unfold State.rcTake
  split <;> simp only [↓via Keeps.setWord, ↓via Keeps.readCounter, ↓via Keeps.foldAll, ↓via Keeps.ite, ↓keeps_record, hs, true_or, and_true]

/-! The two cases of `latchHigh`, got from its equation as a function: with its arguments in place the kernel evaluates the address arithmetic of
`highOf` in unary. -/

theorem State.latchHigh_of_some {s : State} {a k v : Nat} (h : s.highOf a = some (k, v)) : s.latchHigh a = s.setWord k v := by
  have e : State.latchHigh = State.latchHigh := rfl
  conv_rhs at e => delta State.latchHigh
  have e' := congrFun (congrFun e s) a
  simp only [h] at e'
  exact e'

theorem State.latchHigh_of_none {s : State} {a : Nat} (h : s.highOf a = none) : s.latchHigh a = s := by
  have e : State.latchHigh = State.latchHigh := rfl
  conv_rhs at e => delta State.latchHigh
  have e' := congrFun (congrFun e s) a
  simp only [h] at e'
  exact e'

theorem Keeps.latchHigh {a} (hs : Keeps s₀ s) : Keeps s₀ (s.latchHigh a) := by
  rcases h : s.highOf a with _ | ⟨k, v⟩
  · rw [State.latchHigh_of_none h]; exact hs
  · rw [State.latchHigh_of_some h]; exact hs.setWord

theorem Keeps.readReg {a} (hs : Keeps s₀ s) : Keeps s₀ (s.readReg a).2 := by
  simp only [State.readReg, ↓via Keeps.xrdNext, ↓via Keeps.rcTake, ↓via Keeps.latchHigh, ↓via Keeps.ite_snd, hs, true_or, and_true]

theorem Keeps.sicpRead {a} (hs : Keeps s₀ s) : Keeps s₀ (s.sicpRead a).2 := by
  simp only [State.sicpRead, ↓via Keeps.readReg, ↓keeps_record, hs, true_or, and_true]

theorem Keeps.writeReg {a v mask} (hs : Keeps s₀ s) : Keeps s₀ (s.writeReg a v mask) := by
  simp only [State.writeReg, ↓via Keeps.setWord, ↓via Keeps.halfClear, ↓via Keeps.xrdOpen, ↓via Keeps.ite, hs, true_or, and_true]

theorem Keeps.readWords {one a n} (h : Keeps s₀ s ∧ ∀ s a, Keeps s (one s a).2) : Keeps s₀ (s.readWords one a n).2 := by
  obtain ⟨hs, ho⟩ := h
  induction n generalizing s a with
  | zero => exact hs
  | succ n ih => exact ih (hs.trans (ho s a))

theorem Keeps.countersRead {a} (hs : Keeps s₀ s) : Keeps s₀ (s.countersRead a).2 := by
  fun_cases State.countersRead <;> simp only [↓via Keeps.sicpRead, hs, true_or]

/-! ### DMA channels and register writes -/

theorem Keeps.regBytes {a n} (hs : Keeps s₀ s) : Keeps s₀ (s.regBytes a n).2 := by
  simp only [State.regBytes, ↓via Keeps.readReg, ↓via Keeps.readWords, hs, Keeps.refl, true_or, and_true, implies_true]

theorem Keeps.dmaRead {c a n} (hs : Keeps s₀ s) : Keeps s₀ (s.dmaRead c a n).2 := by
  simp only [State.dmaRead, ↓via Keeps.regBytes, ↓via Keeps.ite_snd, ↓keeps_record, hs, true_or, and_true]

theorem Keeps.dmaWrite {c a v} (hs : Keeps s₀ s) : Keeps s₀ (s.dmaWrite c a v) := by
  simp only [State.dmaWrite, ↓via Keeps.writeReg, ↓via Keeps.ite, ↓via Keeps.foldl, ↓keeps_record, hs, Keeps.refl, true_or, and_true, implies_true]

theorem Keeps.setDma {c x} (hs : Keeps s₀ s) : Keeps s₀ (s.setDma c x) := .record ⟨hs, rfl, rfl, rfl, rfl⟩

theorem Keeps.dmaRest {c st} (hs : Keeps s₀ s) : Keeps s₀ (s.dmaRest c st) := by
  simp only [State.dmaRest, ↓via Keeps.set, ↓via Keeps.setDma, ↓keeps_record, hs, true_or, and_true]

theorem Keeps.dmaHalt {c resp addr write typ} (hs : Keeps s₀ s) : Keeps s₀ (s.dmaHalt c resp addr write typ) := by
  simp only [State.dmaHalt, ↓via Keeps.set, ↓via Keeps.bump, ↓via Keeps.matrixResponse, ↓via Keeps.setDma, ↓via Keeps.dmaRest, ↓via Keeps.ite, hs,
    true_or, and_true]

theorem Keeps.dmaTake {c x p q} (hs : Keeps s₀ s) : Keeps s₀ (s.dmaTake c x p q).2 := by
  simp only [State.dmaTake, ↓via Keeps.dmaRead, ↓via Keeps.ite_snd, ↓via Keeps.foldl_snd, hs, Keeps.refl, true_or, and_true, implies_true]

theorem Keeps.dmaGive {c x p v} (hs : Keeps s₀ s) : Keeps s₀ (s.dmaGive c x p v) := by
  simp only [State.dmaGive, ↓via Keeps.dmaWrite, ↓via Keeps.ite, ↓via Keeps.foldl, hs, Keeps.refl, true_or, and_true, implies_true]

theorem Keeps.dmaMove {c d fail x4} (hs : Keeps s₀ s) : Keeps s₀ (s.dmaMove c d fail x4) := by
  refine hs.trans ?_
  clear hs
  fun_induction State.dmaMove
  case case1 => exact .refl _
  case case2 => exact (Keeps.refl _).dmaHalt
  case case3 ih => exact (Keeps.refl _).dmaTake.setDma.trans ih
  case case4 => exact (Keeps.refl _).dmaHalt
  case case5 ih => exact (Keeps.refl _).dmaGive.setDma.set.trans ih
  case case6 => exact .refl _

theorem Keeps.dmaBlock {c fail} (hs : Keeps s₀ s) : Keeps s₀ (s.dmaBlock c fail) := by
  simp only [State.dmaBlock, ↓via Keeps.set, ↓via Keeps.setDma, ↓via Keeps.dmaMove, ↓via Keeps.ite, hs, true_or, and_true]

theorem Keeps.dmaFetch {c off fail} (hs : Keeps s₀ s) : Keeps s₀ (s.dmaFetch c off fail) := by
  simp only [State.dmaFetch, ↓via Keeps.set, ↓via Keeps.setDma, ↓via Keeps.dmaHalt, ↓via Keeps.dmaBlock, ↓via Keeps.ite, ↓keeps_record, hs, true_or,
    and_true]

theorem Keeps.dmaGo {c fail} (hs : Keeps s₀ s) : Keeps s₀ (s.dmaGo c fail) := by
  simp only [State.dmaGo, ↓via Keeps.set, ↓via Keeps.dmaRest, ↓via Keeps.dmaFetch, ↓via Keeps.ite, hs, true_or, and_true]

theorem Keeps.dmaStop {c} (hs : Keeps s₀ s) : Keeps s₀ (s.dmaStop c) := by
  simp only [State.dmaStop, ↓via Keeps.set, ↓via Keeps.dmaRest, ↓via Keeps.ite, hs, true_or, and_true]

theorem Keeps.dmaEvent {c fail} (hs : Keeps s₀ s) : Keeps s₀ (s.dmaEvent c fail) := by
  simp only [State.dmaEvent, ↓via Keeps.set, ↓via Keeps.bump, ↓via Keeps.dmaBlock, ↓via Keeps.ite, hs, true_or, and_true]

theorem Keeps.notify {c} (hs : Keeps s₀ s) : Keeps s₀ (s.notify c) := by
  simp only [State.notify, ↓via Keeps.setDma, ↓via Keeps.ite, ↓via Keeps.foldl, hs, Keeps.refl, true_or, and_true, implies_true]

theorem Keeps.dmaDone {c fail} (hs : Keeps s₀ s) : Keeps s₀ (s.dmaDone c fail) := by
  simp only [State.dmaDone, ↓via Keeps.set, ↓via Keeps.bump, ↓via Keeps.setDma, ↓via Keeps.dmaRest, ↓via Keeps.dmaFetch, ↓via Keeps.notify,
    ↓via Keeps.ite, hs, true_or, and_true]
end

/-! ### What a command keeps -/

/-- The outcome of a command, where it is a next state, keeps what `Keeps` says of `a`. -/
def KeepsNext (a : State) (o : Host.Outcome State Fault Refusal) : Prop := ∀ s', o = .next s' → Keeps a s'

section
variable {s₀ s : State} {t : Time} {f : State → State}

theorem KeepsNext.next (h : Keeps s₀ s) : KeepsNext s₀ (.next s) := fun _ e => Host.Outcome.next.inj e ▸ h

theorem KeepsNext.ite {o o' : Host.Outcome State Fault Refusal} {p : Prop} [Decidable p] (h : KeepsNext s₀ o) (h' : KeepsNext s₀ o') :
    KeepsNext s₀ (if p then o else o') := by
  split <;> assumption

theorem KeepsNext.live (hf : ∀ s, Keeps s (f s)) : KeepsNext (s.at_ t) (live t s f) := .ite (.next (.refl _)) (.next (hf _))

theorem KeepsNext.released (hf : ∀ s, Keeps s (f s)) : KeepsNext (s.at_ t) (released t s f) := .live fun s => .ite ⟨hf s, .refl s⟩

theorem KeepsNext.served (hf : ∀ s, Keeps s (f s)) : KeepsNext (s.at_ t) (served t s f) := .live fun s => .ite ⟨hf s, .refl s⟩

theorem KeepsNext.dblFrame {h : DblHead} (hf : ∀ s, Keeps s (f s)) : KeepsNext (s.at_ t) (dblFrame t h s f) :=
  .released fun s => .ite ⟨hf s, (Keeps.refl s).bump⟩

/-- A lemma of its own: applied to the state that the close of a copy gives, the record update is too deep for the kernel. -/
theorem Keeps.caughtUp (hs : Keeps s₀ s) : Keeps s₀ { s with dbl.caughtUp := true, boot.ckptDue := true } :=
  .record ⟨hs, rfl, rfl, rfl, rfl⟩

/-! ### Commands: the crosspoint -/

theorem KeepsNext.execCellCrcFail {tile isl conn seq be} : KeepsNext (s.at_ t) (execCellCrcFail t tile isl conn seq be s) := by
  refine .released fun s => ?_
  simp only [↓via Keeps.cellBad, ↓via Keeps.ite, Keeps.refl, true_or, and_true]

theorem KeepsNext.execCrcLimitExceeded {tile} : KeepsNext (s.at_ t) (execCrcLimitExceeded t tile s) := by
  refine .released fun s => ?_
  simp only [↓via Keeps.raise, ↓via Keeps.drainFailing, ↓via Keeps.ite, ↓keeps_record, Keeps.refl, true_or, and_true]

theorem KeepsNext.execReorderTimeout {isl conn seq frame} : KeepsNext (s.at_ t) (execReorderTimeout t isl conn seq frame s) := by
  refine .released fun s => ?_
  dsimp only
  (repeat' split) <;> simp only [↓via Keeps.bump, ↓via Keeps.peak, ↓via Keeps.markLost, ↓via Keeps.beLost, Keeps.refl, true_or]

theorem KeepsNext.execTileDrain {q} : KeepsNext (s.at_ t) (execTileDrain t q s) := by
  refine .served fun s => .request ⟨.refl s, fun s c => ?_⟩
  simp only [↓via Keeps.ok, ↓via Keeps.noSpare, ↓via Keeps.ite, ↓keeps_record, Keeps.refl, true_or, and_true]

theorem KeepsNext.execTileRestore {q} : KeepsNext (s.at_ t) (execTileRestore t q s) := by
  refine .served fun s => .request ⟨.refl s, fun s c => ?_⟩
  simp only [↓via Keeps.badState, ↓via Keeps.ok, ↓via Keeps.ite, ↓keeps_record, Keeps.refl, true_or, and_true]

theorem KeepsNext.execTileDrainInstant {tile} : KeepsNext (s.at_ t) (execTileDrainInstant t tile s) := by
  refine .released fun s => ?_
  dsimp only
  (repeat' split) <;> simp only [↓via Keeps.setTile, ↓keeps_record, Keeps.refl, true_or, and_true]

theorem KeepsNext.execTileQueuesEmpty {tile} : KeepsNext (s.at_ t) (execTileQueuesEmpty t tile s) := by
  refine .released fun s => ?_
  simp only [↓via Keeps.event, ↓via Keeps.setTile, ↓via Keeps.crcEnded, ↓via Keeps.ite, Keeps.refl, true_or, and_true]

theorem KeepsNext.execTileFailure {tile cause src conn} :
    KeepsNext (s.at_ t) (execTileFailure t tile cause src conn s) := .released fun s => (Keeps.refl s).tileFail

theorem KeepsNext.execTileResetDone {tile good} : KeepsNext (s.at_ t) (execTileResetDone t tile good s) := by
  refine .released fun s => ?_
  simp only [↓via Keeps.tileDone, ↓via Keeps.ite, Keeps.refl, true_or, and_true]

theorem KeepsNext.execTileRestoreInstant {tile} : KeepsNext (s.at_ t) (execTileRestoreInstant t tile s) := by
  refine .released fun s => ?_
  dsimp only
  (repeat' split) <;> simp only [↓via Keeps.setTile, ↓via Keeps.endTwoOut, ↓via Keeps.drainHeld, ↓keeps_record, Keeps.refl, true_or, and_true]

/-! ### Commands: faults found by the chip -/

theorem KeepsNext.execErrorLineOccurrence {isl cls cond code typ master addr} :
    KeepsNext (s.at_ t) (execErrorLineOccurrence t isl cls cond code typ master addr s) := .released fun s => (Keeps.refl s).hold.latch.react

theorem KeepsNext.execCurrentBitExpiry {isl} : KeepsNext (s.at_ t) (execCurrentBitExpiry t isl s) := by
  refine .released fun s => ?_
  simp only [↓via Keeps.ite, ↓keeps_record, Keeps.refl, true_or, and_true]

theorem KeepsNext.execFltCheck : KeepsNext (s.at_ t) (execFltCheck t s) := .released fun s => (Keeps.refl s).set.raise

theorem KeepsNext.execIslandError {isl off bit cls dropped} : KeepsNext (s.at_ t) (execIslandError t isl off bit cls dropped s) := by
  refine .released fun s => ?_
  simp only [↓via Keeps.set, ↓via Keeps.bump, ↓via Keeps.islandError, ↓via Keeps.errorEffect, ↓via Keeps.ite, ↓keeps_record, Keeps.refl, true_or,
    and_true]

theorem KeepsNext.execLockstep {pair addr} : KeepsNext (s.at_ t) (execLockstep t pair addr s) := by
  refine .released fun s => ?_
  simp only [↓via Keeps.set, ↓via Keeps.errNamed, Keeps.refl, true_or]

theorem KeepsNext.execSramEcc {unc addr} : KeepsNext (s.at_ t) (execSramEcc t unc addr s) := by
  refine .released fun s => ?_
  simp only [↓via Keeps.bump, ↓via Keeps.err, ↓via Keeps.ringHit, ↓via Keeps.ite, Keeps.refl, true_or, and_true]

theorem KeepsNext.execTempSample {readings} : KeepsNext (s.at_ t) (execTempSample t readings s) := by
  refine .live fun s => ?_
  simp only [↓via Keeps.heat, ↓via Keeps.temperature, ↓via Keeps.ite, Keeps.refl, true_or, and_true]

/-! ### Commands: external memory -/

theorem KeepsNext.execDramReadEcc {lp unc addr slot} : KeepsNext (s.at_ t) (execDramReadEcc t lp unc addr slot s) := by
  refine .released fun s => ?_
  dsimp only
  (repeat' split) <;> simp only [↓via Keeps.lostCells, ↓via Keeps.ringAmendAt, ↓via Keeps.setBanks, ↓via Keeps.dramError, ↓via Keeps.rowOpened,
    Keeps.refl, true_or]

theorem KeepsNext.execDramScrub {lp found addr} : KeepsNext (s.at_ t) (execDramScrub t lp found addr s) := by
  refine .released fun s => ?_
  simp only [↓via Keeps.bump, ↓via Keeps.dramError, ↓via Keeps.rowOpened, ↓via Keeps.ite, Keeps.refl, true_or, and_true]

theorem KeepsNext.execWritePointerDeadline {lp dest} : KeepsNext (s.at_ t) (execWritePointerDeadline t lp dest s) := by
  refine .released fun s => ?_
  simp only [↓via Keeps.set, ↓via Keeps.bump, ↓via Keeps.islandError, ↓via Keeps.setDst, Keeps.refl, true_or]

theorem KeepsNext.execNeighbourRefresh {lp bank row} : KeepsNext (s.at_ t) (execNeighbourRefresh t lp bank row s) := by
  refine .released fun s => ?_
  simp only [↓via Keeps.bump, ↓via Keeps.peak, ↓via Keeps.ite, ↓keeps_record, Keeps.refl, true_or, and_true]

theorem KeepsNext.execRefreshWindowEnd {lp} : KeepsNext (s.at_ t) (execRefreshWindowEnd t lp s) := by
  refine .released fun s => ?_
  simp only [↓keeps_record, Keeps.refl, true_or, and_true]

theorem KeepsNext.execRefreshRateRead {dg rates} : KeepsNext (s.at_ t) (execRefreshRateRead t dg rates s) := by
  refine .released fun s => ?_
  simp only [↓via Keeps.set, ↓via Keeps.errNamed, ↓via Keeps.errDone, ↓via Keeps.ite, ↓via Keeps.foldl, Keeps.refl, true_or, and_true, implies_true]

theorem KeepsNext.execPointChangeInstant : KeepsNext (s.at_ t) (execPointChangeInstant t s) := by
  refine .released fun s => ?_
  dsimp only
  (repeat' split) <;> simp only [↓via Keeps.bump, ↓via Keeps.movePoint, ↓via Keeps.pointLate, ↓keeps_record, Keeps.refl, true_or, and_true]

theorem KeepsNext.execDgReset {dg cause} : KeepsNext (s.at_ t) (execDgReset t dg cause s) := .released fun s => (Keeps.refl s).dgDown

theorem KeepsNext.execZqRecalibrate {dg good} : KeepsNext (s.at_ t) (execZqRecalibrate t dg good s) := by
  refine .released fun s => ?_
  simp only [↓via Keeps.dgDown, ↓via Keeps.ite, Keeps.refl, true_or, and_true]

/-! ### Commands: ports -/

theorem KeepsNext.execPortSignalLock {p} : KeepsNext (s.at_ t) (execPortSignalLock t p s) := by
  refine .released fun s => ?_
  simp only [↓via Keeps.errDone, ↓via Keeps.setPort, ↓via Keeps.setPortState, ↓via Keeps.laneFlags, ↓via Keeps.ite, Keeps.refl, true_or, and_true]

theorem KeepsNext.execPortAligned {p} : KeepsNext (s.at_ t) (execPortAligned t p s) := by
  refine .released fun s => ?_
  simp only [↓via Keeps.setPortState, ↓via Keeps.laneFlags, ↓via Keeps.ite, Keeps.refl, true_or, and_true]

theorem KeepsNext.execPortLockTimeout {p} : KeepsNext (s.at_ t) (execPortLockTimeout t p s) := by
  refine .released fun s => ?_
  simp only [↓via Keeps.setPortState, ↓via Keeps.ite, Keeps.refl, true_or, and_true]

theorem KeepsNext.execPortLockLost {p hi cut} : KeepsNext (s.at_ t) (execPortLockLost t p hi cut s) := by
  refine .released fun s => ?_
  simp only [↓via Keeps.set, ↓via Keeps.setPort, ↓via Keeps.setPortState, ↓via Keeps.laneFlags, ↓via Keeps.cut, ↓via Keeps.ite, Keeps.refl, true_or,
    and_true]

theorem KeepsNext.execPortSignalLoss {p cut} : KeepsNext (s.at_ t) (execPortSignalLoss t p cut s) := by
  refine .released fun s => ?_
  simp only [↓via Keeps.setPortState, ↓via Keeps.cut, ↓via Keeps.lanesLost, ↓via Keeps.ite, Keeps.refl, true_or, and_true]

theorem KeepsNext.execOctetPllUnlock {octet} : KeepsNext (s.at_ t) (execOctetPllUnlock t octet s) := by
  refine .released fun s => ?_
  simp only [↓via Keeps.fresh, ↓via Keeps.err, ↓via Keeps.setPortState, ↓via Keeps.laneFlags, ↓via Keeps.cut, ↓via Keeps.ite, ↓via Keeps.ite_snd,
    ↓via Keeps.foldl, Keeps.refl, true_or, and_true, implies_true]

theorem KeepsNext.execRemoteFault {p rf lf} : KeepsNext (s.at_ t) (execRemoteFault t p rf lf s) := by
  refine .released fun s => ?_
  simp only [↓via Keeps.set, ↓via Keeps.ite, Keeps.refl, true_or, and_true]

theorem KeepsNext.execPauseWatchdog {p q} : KeepsNext (s.at_ t) (execPauseWatchdog t p q s) := by
  refine .released fun s => ?_
  dsimp only
  (repeat' split) <;> simp only [↓via Keeps.set, ↓via Keeps.bump, ↓via Keeps.event, ↓via Keeps.setPort, ↓via Keeps.resume, ↓via Keeps.pausesEnd,
    Keeps.refl, true_or]

theorem KeepsNext.execQignoreEnd {p q} : KeepsNext (s.at_ t) (execQignoreEnd t p q s) := by
  refine .released fun s => ?_
  simp only [↓via Keeps.set, ↓via Keeps.ite, Keeps.refl, true_or, and_true]

theorem KeepsNext.execBeFrameAged {p q} : KeepsNext (s.at_ t) (execBeFrameAged t p q s) := .released fun s => (Keeps.refl s).pausesEnd.setPort.bump

theorem KeepsNext.execCounterHalf {p i} : KeepsNext (s.at_ t) (execCounterHalf t p i s) := by
  refine .released fun s => ?_
  simp only [↓via Keeps.readCounter, ↓via Keeps.ite, Keeps.refl, true_or, and_true]

theorem KeepsNext.execCounterSweep : KeepsNext (s.at_ t) (execCounterSweep t s) := by
  refine .released fun s => ?_
  simp only [↓via Keeps.readCounter, ↓via Keeps.foldl, Keeps.refl, true_or, and_true, implies_true]

/-! ### Commands: the Whorl -/

theorem KeepsNext.execRefQualify {ref} : KeepsNext (s.at_ t) (execRefQualify t ref s) := by
  refine .released fun s => ?_
  simp only [↓via Keeps.qualify, ↓via Keeps.ite, Keeps.refl, true_or, and_true]

theorem KeepsNext.execPtpMessageTx {d p kind} : KeepsNext (s.at_ t) (execPtpMessageTx t d p kind s) := by
  refine .released fun s => ?_
  dsimp only
  (repeat' split) <;> simp only [↓via Keeps.bump, ↓via Keeps.sendEth, ↓via Keeps.setInst, ↓via Keeps.bmca, ↓via Keeps.ptpShow, Keeps.refl, true_or]

theorem KeepsNext.execRefDisqualify {ref cause} : KeepsNext (s.at_ t) (execRefDisqualify t ref cause s) := by
  refine .released fun s => ?_
  simp only [↓via Keeps.disqualify, ↓via Keeps.annTimeout, ↓via Keeps.bmca, ↓via Keeps.ptpShow, ↓via Keeps.utcShow, ↓via Keeps.ite, Keeps.refl,
    true_or, and_true]

theorem KeepsNext.execServoSample {m} : KeepsNext (s.at_ t) (execServoSample t m s) := by
  refine .released fun s => ?_
  dsimp only
  (repeat' split) <;> simp only [↓via Keeps.bump, ↓via Keeps.whlShow, ↓via Keeps.seeRef, ↓via Keeps.writeNco, ↓via Keeps.lockSpans, ↓via Keeps.ite,
    ↓via Keeps.foldl, ↓keeps_record, Keeps.refl, true_or, and_true, implies_true]

theorem KeepsNext.execWtrExpiry {ref} : KeepsNext (s.at_ t) (execWtrExpiry t ref s) := by
  refine .released fun s => ?_
  dsimp only
  (repeat' split) <;> simp only [↓via Keeps.switchRef, Keeps.refl, true_or]

theorem KeepsNext.execWhlLockReached : KeepsNext (s.at_ t) (execWhlLockReached t s) := by
  refine .released fun s => ?_
  (repeat' split) <;> simp only [↓via Keeps.setWhl, Keeps.refl, true_or]

theorem KeepsNext.execWhlOutOfLock : KeepsNext (s.at_ t) (execWhlOutOfLock t s) := by
  refine .released fun s => ?_
  (repeat' split) <;> simp only [↓via Keeps.setWhl, Keeps.refl, true_or]

theorem KeepsNext.execHoldoverExpiry : KeepsNext (s.at_ t) (execHoldoverExpiry t s) := by
  refine .released fun s => ?_
  simp only [↓via Keeps.setWhl, ↓via Keeps.ite, Keeps.refl, true_or, and_true]

theorem KeepsNext.execWhlNoref : KeepsNext (s.at_ t) (execWhlNoref t s) := by
  refine .released fun s => ?_
  simp only [↓via Keeps.raise, ↓via Keeps.ite, Keeps.refl, true_or, and_true]

theorem KeepsNext.execWhlRefWaitEnd : KeepsNext (s.at_ t) (execWhlRefWaitEnd t s) := by
  refine .released fun s => ?_
  dsimp only
  (repeat' split) <;> simp only [↓via Keeps.whlShow, ↓via Keeps.pulseShow, ↓via Keeps.switchRef, ↓via Keeps.reselect, ↓via Keeps.utcShow,
    ↓via Keeps.setTime, ↓via Keeps.ptpStep, ↓keeps_record, Keeps.refl, true_or, and_true]

theorem KeepsNext.execDblTime {diff held ref} : KeepsNext (s.at_ t) (execDblTime t diff held ref s) := by
  refine .released fun s => ?_
  simp only [↓via Keeps.set, ↓via Keeps.errDone, ↓via Keeps.ite, ↓keeps_record, Keeps.refl, true_or, and_true]

theorem KeepsNext.execTwinTimeExcess : KeepsNext (s.at_ t) (execTwinTimeExcess t s) := by
  refine .released fun s => ?_
  (repeat' split) <;> simp only [↓via Keeps.err, Keeps.refl, true_or]

theorem KeepsNext.execWireCalibrate {isl} : KeepsNext (s.at_ t) (execWireCalibrate t isl s) := by
  refine .released fun s => ?_
  simp only [↓via Keeps.set, ↓via Keeps.ite, Keeps.refl, true_or, and_true]

theorem KeepsNext.execXoLoss : KeepsNext (s.at_ t) (execXoLoss t s) := .released fun s => (Keeps.refl s).err

theorem KeepsNext.execTimeStep : KeepsNext (s.at_ t) (execTimeStep t s) := by
  refine .served fun s => ?_
  dsimp only
  (repeat' split) <;> simp only [↓via Keeps.bump, ↓via Keeps.event, ↓via Keeps.whlShow, ↓via Keeps.pulseShow, ↓via Keeps.pulseStop,
    ↓via Keeps.recount, ↓keeps_record, Keeps.refl, true_or, and_true]

theorem KeepsNext.execLeapSecond : KeepsNext (s.at_ t) (execLeapSecond t s) := by
  refine .released fun s => ?_
  dsimp only
  (repeat' split) <;> simp only [↓via Keeps.utcShow, ↓keeps_record, Keeps.refl, true_or, and_true]

theorem KeepsNext.execTimeRef {q} : KeepsNext (s.at_ t) (execTimeRef t q s) := by
  refine .served fun s => .request ⟨.refl s, fun s c => ?_⟩
  simp only [↓via Keeps.badValue, ↓via Keeps.enqueue, ↓via Keeps.ite, Keeps.refl, true_or, and_true]

theorem KeepsNext.execTimeRealign {q} :
    KeepsNext (s.at_ t) (execTimeRealign t q s) := .served fun s => .request ⟨.refl s, fun s _ => (Keeps.refl s).enqueue⟩

theorem KeepsNext.execTimeSet {q} : KeepsNext (s.at_ t) (execTimeSet t q s) := by
  refine .served fun s => .request ⟨.refl s, fun s c => ?_⟩
  simp only [↓via Keeps.reply, ↓via Keeps.enqueue, ↓via Keeps.ite, Keeps.refl, true_or, and_true]

theorem KeepsNext.execWhlReset : KeepsNext (s.at_ t) (execWhlReset t s) := .served fun s => (Keeps.refl s).whlDown

/-! ### Commands: sessions and requests of chip scope -/

theorem KeepsNext.execDtlsClientHello {h} : KeepsNext (s.at_ t) (execDtlsClientHello t h s) := by
  refine .served fun s => ?_
  simp only [↓via Keeps.fresh, ↓via Keeps.sendVia, ↓via Keeps.handOff, ↓via Keeps.hsFail, ↓via Keeps.handshake, ↓via Keeps.ite, ↓keeps_record,
    Keeps.refl, true_or, and_true]

theorem KeepsNext.execKeyUpdate {sess} : KeepsNext (s.at_ t) (execKeyUpdate t sess s) := by
  refine .served fun s => ?_
  split <;> simp only [↓via Keeps.bump, ↓via Keeps.setSess, ↓via Keeps.authenticated, Keeps.refl, true_or]

theorem KeepsNext.execCloseNotify {sess} : KeepsNext (s.at_ t) (execCloseNotify t sess s) := by
  refine .served fun s => ?_
  split <;> simp only [↓via Keeps.bump, ↓via Keeps.endSession, ↓via Keeps.authenticated, Keeps.refl, true_or]

theorem KeepsNext.execSessionIdleExpiry {sess} : KeepsNext (s.at_ t) (execSessionIdleExpiry t sess s) := by
  refine .served fun s => ?_
  (repeat' split) <;> simp only [↓via Keeps.sendVia, ↓via Keeps.endSession, Keeps.refl, true_or]

theorem KeepsNext.execCertValidityCheck : KeepsNext (s.at_ t) (execCertValidityCheck t s) := by
  refine .served fun s => ?_
  simp only [↓via Keeps.sendVia, ↓via Keeps.endSession, ↓via Keeps.authFail, ↓via Keeps.foldl, Keeps.refl, true_or, and_true, implies_true]

theorem KeepsNext.execSicpRecordUnparsable {sess} : KeepsNext (s.at_ t) (execSicpRecordUnparsable t sess s) := by
  refine .served fun s => ?_
  cases sess with
  | stray => exact (Keeps.refl s).bump
  | size id =>
    dsimp only
    split
    · exact (Keeps.refl s).bump.authenticated
    · exact (Keeps.refl s).bump
  | typed typ q => exact .request ⟨.refl s, fun u _ => .refl u⟩

theorem KeepsNext.execPairDatagramHandoff : KeepsNext (s.at_ t) (execPairDatagramHandoff t s) := by
  refine .served fun s => ?_
  simp only [↓via Keeps.handOff, ↓via Keeps.ite, Keeps.refl, true_or, and_true]

theorem KeepsNext.execPing {q} : KeepsNext (s.at_ t) (execPing t q s) := .served fun s => .request ⟨.refl s, fun s _ => (Keeps.refl s).ok⟩

theorem KeepsNext.execIdentity {q} : KeepsNext (s.at_ t) (execIdentity t q s) := .served fun s => .request ⟨.refl s, fun s _ => (Keeps.refl s).ok⟩

theorem KeepsNext.execFaultClear {q} : KeepsNext (s.at_ t) (execFaultClear t q s) := by
  refine .served fun s => .request ⟨.refl s, fun s c => ?_⟩
  simp only [↓via Keeps.event, ↓via Keeps.badValue, ↓via Keeps.ok, ↓via Keeps.faultClear, ↓via Keeps.ite, Keeps.refl, true_or, and_true]

theorem KeepsNext.execSubscribe {q} : KeepsNext (s.at_ t) (execSubscribe t q s) := by
  refine .served fun s => .request ⟨.refl s, fun s c => ?_⟩
  simp only [↓via Keeps.badValue, ↓via Keeps.busy, ↓via Keeps.enqueue, ↓via Keeps.ite, Keeps.refl, true_or, and_true]

theorem KeepsNext.execUnsubscribe {q} : KeepsNext (s.at_ t) (execUnsubscribe t q s) := by
  refine .served fun s => .request ⟨.refl s, fun s c => ?_⟩
  simp only [↓via Keeps.badValue, ↓via Keeps.enqueue, ↓via Keeps.ite, Keeps.refl, true_or, and_true]

theorem KeepsNext.execEvent {sess sub} : KeepsNext (s.at_ t) (execEvent t sess sub s) := by
  refine .served fun s => ?_
  dsimp only
  (repeat' split) <;> simp only [↓via Keeps.bump, ↓via Keeps.sendVia, ↓via Keeps.setSess, Keeps.refl, true_or]

theorem KeepsNext.execSalvoOpen {q} : KeepsNext (s.at_ t) (execSalvoOpen t q s) := by
  refine .served fun s => .request ⟨.refl s, fun s c => ?_⟩
  simp only [↓via Keeps.busy, ↓via Keeps.ok, ↓via Keeps.newHandle, ↓via Keeps.ite, ↓keeps_record, Keeps.refl, true_or, and_true]

theorem KeepsNext.execSalvoAdd {q} : KeepsNext (s.at_ t) (execSalvoAdd t q s) := by
  refine .served fun s => .request ⟨.refl s, fun s c => ?_⟩
  dsimp only
  split <;> simp only [↓via Keeps.badState, ↓via Keeps.busy, ↓via Keeps.ok, ↓via Keeps.ite, ↓keeps_record, Keeps.refl, true_or, and_true]

theorem KeepsNext.execSalvoHandleExpiry : KeepsNext (s.at_ t) (execSalvoHandleExpiry t s) := by
  refine .served fun s => ?_
  simp only [↓keeps_record, Keeps.refl, true_or, and_true]

/-! ### Commands: keys and the always-on domain -/

theorem KeepsNext.execKeyGenerate {q} : KeepsNext (s.at_ t) (execKeyGenerate t q s) := by
  refine .served fun s => .request ⟨.refl s, fun s c => ?_⟩
  simp only [↓via Keeps.bump, ↓via Keeps.badValue, ↓via Keeps.badState, ↓via Keeps.ok, ↓via Keeps.keyReady, ↓via Keeps.fillSlot, ↓via Keeps.ite,
    Keeps.refl, true_or, and_true, implies_true]

theorem KeepsNext.execKeyImport {q w} : KeepsNext (s.at_ t) (execKeyImport t q w s) := by
  refine .served fun s => .request ⟨.refl s, fun s c => ?_⟩
  simp only [↓via Keeps.reply, ↓via Keeps.badValue, ↓via Keeps.badState, ↓via Keeps.busy, ↓via Keeps.keyReady, ↓via Keeps.unwrap, ↓via Keeps.ite,
    Keeps.refl, true_or, and_true, implies_true]

theorem KeepsNext.execKeyDestroy {q} : KeepsNext (s.at_ t) (execKeyDestroy t q s) := by
  refine .served fun s => .request ⟨.refl s, fun s c => ?_⟩
  simp only [↓via Keeps.ok, ↓via Keeps.consumers, ↓via Keeps.emptySlot, ↓via Keeps.keyReady, Keeps.refl, true_or, and_true, implies_true]

theorem KeepsNext.execKeyAttest {q} : KeepsNext (s.at_ t) (execKeyAttest t q s) := by
  refine .served fun s => .request ⟨.refl s, fun s c => ?_⟩
  simp only [↓via Keeps.badState, ↓via Keeps.busy, ↓via Keeps.ok, ↓via Keeps.ite, Keeps.refl, true_or, and_true]

theorem KeepsNext.execRngFail : KeepsNext (s.at_ t) (execRngFail t s) := by
  refine .live fun s => ?_
  simp only [↓via Keeps.set, ↓via Keeps.f4, ↓via Keeps.err, ↓via Keeps.ite, ↓keeps_record, Keeps.refl, true_or, and_true]

theorem KeepsNext.execTamper {input} : KeepsNext (s.at_ t) (execTamper t input s) := by
  refine .live fun s => ?_
  simp only [↓via Keeps.set, ↓via Keeps.consumers, ↓via Keeps.unusableAll, ↓via Keeps.aonLost, ↓via Keeps.rtcSeconds, ↓via Keeps.ite, ↓keeps_record,
    Keeps.refl, true_or, and_true]

theorem KeepsNext.execTamperRelease : KeepsNext (s.at_ t) (execTamperRelease t s) := by
  refine .live fun s => ?_
  simp only [↓via Keeps.set, ↓via Keeps.drawHalf, ↓via Keeps.ite, Keeps.refl, true_or, and_true]

theorem KeepsNext.execRtcMinuteWrite : KeepsNext (s.at_ t) (execRtcMinuteWrite t s) := by
  refine .live fun s => ?_
  simp only [↓via Keeps.ite, ↓keeps_record, Keeps.refl, true_or, and_true]

theorem KeepsNext.execKeyReset : KeepsNext (s.at_ t) (execKeyReset t s) := by
  refine .served fun s => ?_
  simp only [↓via Keeps.beginReset, ↓via Keeps.keyDown, ↓via Keeps.ite, Keeps.refl, true_or, and_true]

/-! ### Commands: the journal and the log in the memory -/

theorem KeepsNext.execJournalRecordWrite {outcome} : KeepsNext (s.at_ t) (execJournalRecordWrite t outcome s) := by
  refine .released fun s => ?_
  dsimp only
  (repeat' split) <;> simp only [↓via Keeps.err, ↓via Keeps.errNamed, ↓via Keeps.logLost, ↓via Keeps.putRecord, ↓via Keeps.recordDone, ↓keeps_record,
    Keeps.refl, true_or, and_true]

theorem KeepsNext.execLogBlockWrite {outcome} : KeepsNext (s.at_ t) (execLogBlockWrite t outcome s) := by
  refine .released fun s => ?_
  simp only [↓via Keeps.bump, ↓via Keeps.putBlocks, ↓via Keeps.err, ↓via Keeps.logLost, ↓via Keeps.ite, ↓keeps_record, Keeps.refl, true_or, and_true]

theorem KeepsNext.execLogRead {q} : KeepsNext (s.at_ t) (execLogRead t q s) := .served fun s => .request ⟨.refl s, fun s _ => (Keeps.refl s).ok⟩

theorem KeepsNext.execXrdLenWrite {len} : KeepsNext (s.at_ t) (execXrdLenWrite t len s) := .released fun s => (Keeps.refl s).xrdOpen

theorem KeepsNext.execXrdDataRead : KeepsNext (s.at_ t) (execXrdDataRead t s) := .released fun s => (Keeps.refl s).xrdNext.emit

theorem KeepsNext.execBootReset : KeepsNext (s.at_ t) (execBootReset t s) := by
  refine .served fun s => ?_
  simp only [↓via Keeps.raise, ↓via Keeps.beginReset, ↓via Keeps.bootDown, ↓via Keeps.ite, Keeps.refl, true_or, and_true]

/-! ### Commands: the evacuation override -/

theorem KeepsNext.execEvacSample {a b} : KeepsNext (s.at_ t) (execEvacSample t a b s) := by
  refine .released fun s => ?_
  simp only [↓via Keeps.set, ↓via Keeps.evacShow, ↓via Keeps.evacReport, ↓via Keeps.evacStep, ↓via Keeps.ite, ↓keeps_record, Keeps.refl, true_or,
    and_true]

/-! ### Commands: IP flows -/

theorem KeepsNext.execReportRepeat : KeepsNext (s.at_ t) (execReportRepeat t s) := by
  refine .released fun s => ?_
  simp only [↓via Keeps.sendReport, ↓via Keeps.foldl, ↓keeps_record, Keeps.refl, true_or, and_true, implies_true]

theorem KeepsNext.execFlowSet {q} : KeepsNext (s.at_ t) (execFlowSet t q s) := by
  refine .served fun s => .request ⟨.refl s, fun s c => ?_⟩
  dsimp only
  (repeat' split) <;> simp only [↓via Keeps.badValue, ↓via Keeps.noSignal, ↓via Keeps.enqueue, Keeps.refl, true_or]

theorem KeepsNext.execFlowRelease {q} : KeepsNext (s.at_ t) (execFlowRelease t q s) := by
  refine .served fun s => .request ⟨.refl s, fun s c => ?_⟩
  split <;> simp only [↓via Keeps.noSignal, ↓via Keeps.enqueue, Keeps.refl, true_or]

theorem KeepsNext.execIdleReleaseExpiry {flow leg} : KeepsNext (s.at_ t) (execIdleReleaseExpiry t flow leg s) := by
  refine .released fun s => ?_
  (repeat' split) <;> simp only [↓via Keeps.ownLeg, Keeps.refl, true_or]

/-! ### Commands: SDI receivers -/

theorem KeepsNext.execSdiSignalPresent {lane} : KeepsNext (s.at_ t) (execSdiSignalPresent t lane s) := by
  refine .released fun s => ?_
  simp only [↓via Keeps.startSweep, ↓via Keeps.setRxState, ↓via Keeps.ite, Keeps.refl, true_or, and_true]

theorem KeepsNext.execSdiHuntDwellEnd {lane} : KeepsNext (s.at_ t) (execSdiHuntDwellEnd t lane s) := by
  refine .released fun s => ?_
  dsimp only
  (repeat' split) <;> simp only [↓via Keeps.bump, ↓via Keeps.setRx, ↓via Keeps.startSweep, Keeps.refl, true_or]

theorem KeepsNext.execSdiClockRecovered {lane rate} : KeepsNext (s.at_ t) (execSdiClockRecovered t lane rate s) := by
  refine .released fun s => ?_
  simp only [↓via Keeps.set, ↓via Keeps.setRx, ↓via Keeps.setRxState, ↓via Keeps.ite, Keeps.refl, true_or, and_true]

theorem KeepsNext.execSdiEavLoss {lane} : KeepsNext (s.at_ t) (execSdiEavLoss t lane s) := by
  refine .released fun s => ?_
  simp only [↓via Keeps.startSweep, ↓via Keeps.setRxState, ↓via Keeps.ite, Keeps.refl, true_or, and_true]

theorem KeepsNext.execSdiSignalAbsent {lane} : KeepsNext (s.at_ t) (execSdiSignalAbsent t lane s) := by
  refine .released fun s => ?_
  simp only [↓via Keeps.setRx, ↓via Keeps.setRxState, ↓via Keeps.ite, Keeps.refl, true_or, and_true]

/-! ### Commands: the audio engine -/

theorem KeepsNext.execAudioSampleArrival {flow slot count v non} : KeepsNext (s.at_ t) (execAudioSampleArrival t flow slot count v non s) := by
  refine .released fun s => ?_
  dsimp only
  (repeat' split) <;> simp only [↓via Keeps.bump, ↓via Keeps.setIn, Keeps.refl, true_or]

theorem KeepsNext.execInputGap {ic} : KeepsNext (s.at_ t) (execInputGap t ic s) := by
  refine .released fun s => ?_
  simp only [↓via Keeps.bump, ↓via Keeps.setIn, ↓via Keeps.ite, Keeps.refl, true_or, and_true]

theorem KeepsNext.execSdiAudioSlip {src margin} : KeepsNext (s.at_ t) (execSdiAudioSlip t src margin s) := by
  refine .released fun s => ?_
  dsimp only
  (repeat' split) <;> simp only [↓via Keeps.bump, ↓keeps_record, Keeps.refl, true_or, and_true]

theorem KeepsNext.execBusIdleEntry {bus} : KeepsNext (s.at_ t) (execBusIdleEntry t bus s) := by
  refine .released fun s => ?_
  simp only [↓via Keeps.setBus, ↓via Keeps.ite, Keeps.refl, true_or, and_true]

theorem KeepsNext.execTdmFsEdge {p periods ins} : KeepsNext (s.at_ t) (execTdmFsEdge t p periods ins s) := by
  refine .released fun s => ?_
  simp only [↓via Keeps.bump, ↓via Keeps.emit, ↓via Keeps.setIn, ↓via Keeps.setTdm, ↓via Keeps.tdmMute, ↓via Keeps.tdmSend, ↓via Keeps.ite,
    ↓via Keeps.foldl, Keeps.refl, true_or, and_true, implies_true]

theorem KeepsNext.execTdmSyncLoss {p cause} : KeepsNext (s.at_ t) (execTdmSyncLoss t p cause s) := by
  refine .released fun s => ?_
  simp only [↓via Keeps.bump, ↓via Keeps.tdmMute, ↓via Keeps.ite, Keeps.refl, true_or, and_true]

theorem KeepsNext.execTdmMutingEnd {p} : KeepsNext (s.at_ t) (execTdmMutingEnd t p s) := by
  refine .released fun s => ?_
  simp only [↓via Keeps.event, ↓via Keeps.setTdm, ↓via Keeps.ite, Keeps.refl, true_or, and_true]

theorem KeepsNext.execAudReset : KeepsNext (s.at_ t) (execAudReset t s) := .served fun s => (Keeps.refl s).audDown

theorem KeepsNext.execAudReload : KeepsNext (s.at_ t) (execAudReload t s) := .served fun s => (Keeps.refl s).audUp

theorem KeepsNext.execAudRoute {q} : KeepsNext (s.at_ t) (execAudRoute t q s) := by
  refine .served fun s => .request ⟨.refl s, fun s c => ?_⟩
  simp only [↓via Keeps.badValue, ↓via Keeps.noSignal, ↓via Keeps.enqueue, ↓via Keeps.ite, Keeps.refl, true_or, and_true]

theorem KeepsNext.execBusSet {q} : KeepsNext (s.at_ t) (execBusSet t q s) := by
  refine .served fun s => .request ⟨.refl s, fun s c => ?_⟩
  simp only [↓via Keeps.reply, ↓via Keeps.badValue, ↓via Keeps.noSignal, ↓via Keeps.enqueue, ↓via Keeps.ite, Keeps.refl, true_or, and_true]

theorem KeepsNext.execAudDelaySet {q} : KeepsNext (s.at_ t) (execAudDelaySet t q s) := by
  refine .served fun s => .request ⟨.refl s, fun s c => ?_⟩
  simp only [↓via Keeps.badValue, ↓via Keeps.noSignal, ↓via Keeps.enqueue, ↓via Keeps.ite, Keeps.refl, true_or, and_true]

/-! ### Commands: the multiviewer -/

theorem KeepsNext.execWindowSet {q} : KeepsNext (s.at_ t) (execWindowSet t q s) := by
  refine .served fun s => .request ⟨.refl s, fun s c => ?_⟩
  simp only [↓via Keeps.reply, ↓via Keeps.badValue, ↓via Keeps.noSignal, ↓via Keeps.enqueue, ↓via Keeps.ite, Keeps.refl, true_or, and_true]

theorem KeepsNext.execWindowClear {q} : KeepsNext (s.at_ t) (execWindowClear t q s) := by
  refine .served fun s => .request ⟨.refl s, fun s c => ?_⟩
  simp only [↓via Keeps.noSignal, ↓via Keeps.enqueue, ↓via Keeps.ite, Keeps.refl, true_or, and_true]

theorem KeepsNext.execLayerOrder {q} : KeepsNext (s.at_ t) (execLayerOrder t q s) := by
  refine .served fun s => .request ⟨.refl s, fun s c => ?_⟩
  simp only [↓via Keeps.badValue, ↓via Keeps.badState, ↓via Keeps.noSignal, ↓via Keeps.enqueue, ↓via Keeps.ite, Keeps.refl, true_or, and_true]

theorem KeepsNext.execWindowEngineWrite {win m crc} : KeepsNext (s.at_ t) (execWindowEngineWrite t win m crc s) := by
  refine .released fun s => ?_
  dsimp only
  (repeat' split) <;> simp only [↓via Keeps.winWritten, ↓keeps_record, Keeps.refl, true_or, and_true]

theorem KeepsNext.execWinHoldExpiry {win} : KeepsNext (s.at_ t) (execWinHoldExpiry t win s) := by
  refine .released fun s => ?_
  (repeat' split) <;> simp only [↓via Keeps.winSignal, Keeps.refl, true_or]

/-! ### Commands: strands and the Skein -/

theorem KeepsNext.execStrandPortUp {p} : KeepsNext (s.at_ t) (execStrandPortUp t p s) := by
  refine .released fun s => ?_
  simp only [↓via Keeps.strandTo, ↓via Keeps.ite, Keeps.refl, true_or, and_true]

theorem KeepsNext.execStrandHelloSend {p} : KeepsNext (s.at_ t) (execStrandHelloSend t p s) := by
  refine .released fun s => ?_
  simp only [↓via Keeps.emit, ↓via Keeps.ite, Keeps.refl, true_or, and_true]

theorem KeepsNext.execStrandHello {p h} : KeepsNext (s.at_ t) (execStrandHello t p h s) := by
  refine .released fun s => ?_
  simp only [↓via Keeps.set, ↓via Keeps.strandTo, ↓via Keeps.strandMismatch, ↓via Keeps.ite, Keeps.refl, true_or, and_true]

theorem KeepsNext.execStrandMeasureDone {p trips} : KeepsNext (s.at_ t) (execStrandMeasureDone t p trips s) := by
  refine .released fun s => ?_
  dsimp only
  (repeat' split) <;> simp only [↓via Keeps.set, ↓via Keeps.event, ↓via Keeps.setStrand, ↓via Keeps.sendLinks, ↓via Keeps.clearStrandDown,
    ↓via Keeps.strandMismatch, Keeps.refl, true_or]

theorem KeepsNext.execStrandEcho {p reply} : KeepsNext (s.at_ t) (execStrandEcho t p reply s) := by
  refine .released fun s => ?_
  simp only [↓via Keeps.emit, ↓via Keeps.ite, Keeps.refl, true_or, and_true]

theorem KeepsNext.execStrandDown {p} : KeepsNext (s.at_ t) (execStrandDown t p s) := by
  refine .released fun s => ?_
  simp only [↓via Keeps.resolve, ↓via Keeps.strandTo, ↓via Keeps.strandDown, ↓via Keeps.ite, Keeps.refl, true_or, and_true]

theorem KeepsNext.execStrandUnitRx {p u} : KeepsNext (s.at_ t) (execStrandUnitRx t p u s) := by
  refine .released fun s => ?_
  simp only [↓via Keeps.phyCounts, ↓via Keeps.strandUnit, ↓via Keeps.ite, Keeps.refl, true_or, and_true]

theorem KeepsNext.execStrandCreditSend {p heldM heldC} : KeepsNext (s.at_ t) (execStrandCreditSend t p heldM heldC s) := by
  refine .released fun s => ?_
  simp only [↓via Keeps.emit, ↓via Keeps.ite, Keeps.refl, true_or, and_true]

theorem KeepsNext.execLinkState {op} : KeepsNext (s.at_ t) (execLinkState t op s) := by
  refine .released fun s => ?_
  dsimp only
  (repeat' split) <;> simp only [↓via Keeps.bump, ↓via Keeps.emit, ↓via Keeps.dblData, ↓via Keeps.skeinBudget, ↓via Keeps.sendUnits, ↓via Keeps.note,
    ↓via Keeps.noteSteps, ↓via Keeps.sendLinks, ↓via Keeps.clearStrandDown, ↓via Keeps.noteMirrors, ↓via Keeps.foldl, ↓keeps_record, Keeps.refl,
    true_or, and_true, implies_true]

theorem KeepsNext.execSkeinArm {port m} : KeepsNext (s.at_ t) (execSkeinArm t port m s) := by
  refine .served fun s => ?_
  dsimp only
  split <;> simp only [↓via Keeps.skeinIn, ↓keeps_record, Keeps.refl, true_or, and_true, implies_true]

theorem KeepsNext.execSkeinDecision {port m} : KeepsNext (s.at_ t) (execSkeinDecision t port m s) := by
  refine .served fun s => .skeinIn ⟨.refl s, fun s => ?_⟩
  split
  · exact .record ⟨.refl s, rfl, rfl, rfl, rfl⟩
  · exact .refl s

theorem KeepsNext.execSkeinRelease {port m} : KeepsNext (s.at_ t) (execSkeinRelease t port m s) := by
  refine .served fun s => ?_
  dsimp only
  split <;> simp only [↓via Keeps.skeinIn, ↓keeps_record, Keeps.refl, true_or, and_true, implies_true]

theorem KeepsNext.execSkeinMessageRepeat : KeepsNext (s.at_ t) (execSkeinMessageRepeat t s) := by
  refine .served fun s => ?_
  simp only [↓via Keeps.sendMsg, ↓via Keeps.foldl, ↓keeps_record, Keeps.refl, true_or, and_true, implies_true]

theorem KeepsNext.execMirrorHoldExpiry {p} : KeepsNext (s.at_ t) (execMirrorHoldExpiry t p s) := by
  refine .released fun s => ?_
  simp only [↓via Keeps.ite, ↓keeps_record, Keeps.refl, true_or, and_true]

/-! ### Commands: requests of takes and salvos -/

theorem KeepsNext.execSkeinReport {port m} : KeepsNext (s.at_ t) (execSkeinReport t port m s) := by
  exact .served fun s => .skeinIn ⟨.refl s, fun s => (Keeps.refl s).reportAct⟩

theorem KeepsNext.execTake {q} : KeepsNext (s.at_ t) (execTake t q s) := by
  refine .served fun s => .request ⟨.refl s, fun s c => ?_⟩
  simp only [↓via Keeps.reply, ↓via Keeps.noSignal, ↓via Keeps.enqueue, ↓via Keeps.armOne, ↓via Keeps.ite, Keeps.refl, true_or, and_true]

theorem KeepsNext.execSalvoArm {q} : KeepsNext (s.at_ t) (execSalvoArm t q s) := by
  refine .served fun s => .request ⟨.refl s, fun s c => ?_⟩
  dsimp only
  (repeat' split) <;> simp only [↓via Keeps.reply, ↓via Keeps.badState, ↓via Keeps.salvoArm, Keeps.refl, true_or]

theorem KeepsNext.execSalvoCommit {q} : KeepsNext (s.at_ t) (execSalvoCommit t q s) := by
  refine .served fun s => .request ⟨.refl s, fun s c => ?_⟩
  (repeat' split) <;> simp only [↓via Keeps.badState, ↓via Keeps.onSalvo, Keeps.refl, true_or]

theorem KeepsNext.execSalvoAbort {q} : KeepsNext (s.at_ t) (execSalvoAbort t q s) := by
  refine .served fun s => .request ⟨.refl s, fun s c => ?_⟩
  (repeat' split) <;> simp only [↓via Keeps.badState, ↓via Keeps.enqueue, ↓via Keeps.onSalvo, Keeps.refl, true_or]

theorem KeepsNext.execDelaySet {q} : KeepsNext (s.at_ t) (execDelaySet t q s) := by
  refine .served fun s => .request ⟨.refl s, fun s c => ?_⟩
  dsimp only
  (repeat' split) <;> simp only [↓via Keeps.badValue, ↓via Keeps.noSignal, ↓via Keeps.enqueue, Keeps.refl, true_or]

theorem KeepsNext.execRouteQuery {q} : KeepsNext (s.at_ t) (execRouteQuery t q s) := by
  refine .served fun s => .request ⟨.refl s, fun s c => ?_⟩
  simp only [↓via Keeps.noSignal, ↓via Keeps.ok, ↓via Keeps.ite, Keeps.refl, true_or, and_true]

theorem KeepsNext.execBulkWrite {q} : KeepsNext (s.at_ t) (execBulkWrite t q s) := by
  refine .served fun s => .request ⟨.refl s, fun s c => ?_⟩
  dsimp only
  (repeat' split) <;> simp only [↓via Keeps.dblSend, ↓via Keeps.badValue, ↓via Keeps.busy, ↓via Keeps.noSignal, ↓via Keeps.ok,
    ↓via Keeps.hiddenWrite, ↓keeps_record, Keeps.refl, true_or, and_true]

theorem KeepsNext.execFence {q} : KeepsNext (s.at_ t) (execFence t q s) := by
  refine .served fun s => .request ⟨.refl s, fun s c => ?_⟩
  simp only [↓via Keeps.setBanks, ↓via Keeps.busy, ↓via Keeps.noSignal, ↓via Keeps.enqueue, ↓via Keeps.ite, Keeps.refl, true_or, and_true]

theorem KeepsNext.execPairSwap {q} :
    KeepsNext (s.at_ t) (execPairSwap t q s) := .served fun s => .request ⟨.refl s, fun s _ => (Keeps.refl s).enqueue⟩

theorem KeepsNext.execPairRestart {q} : KeepsNext (s.at_ t) (execPairRestart t q s) := by
  refine .served fun s => .request ⟨.refl s, fun s c => ?_⟩
  simp only [↓via Keeps.badValue, ↓via Keeps.enqueue, ↓via Keeps.ite, Keeps.refl, true_or, and_true]

theorem KeepsNext.execPairRejoin {q} : KeepsNext (s.at_ t) (execPairRejoin t q s) := by
  refine .served fun s => .request ⟨.refl s, fun s c => ?_⟩
  simp only [↓via Keeps.badValue, ↓via Keeps.enqueue, ↓via Keeps.ite, Keeps.refl, true_or, and_true]

theorem KeepsNext.execEvacClear {q} :
    KeepsNext (s.at_ t) (execEvacClear t q s) := .served fun s => .request ⟨.refl s, fun s _ => (Keeps.refl s).enqueue⟩

/-! ### Commands: the cycle close -/

theorem KeepsNext.execCycleClose : KeepsNext (s.at_ t) (execCycleClose t s) := by
  refine .served fun s => ?_
  simp only [↓via Keeps.yield, ↓via Keeps.tierMask, ↓via Keeps.settle, ↓via Keeps.checkpoint, ↓via Keeps.closeCycle, ↓via Keeps.ite, ↓keeps_record,
    Keeps.refl, true_or, and_true]

/-! ### Commands: pins -/

theorem KeepsNext.execGpiSample {levels} : KeepsNext (s.at_ t) (execGpiSample t levels s) := by
  refine .served fun s => ?_
  simp only [↓via Keeps.pinSample, ↓via Keeps.foldl, Keeps.refl, true_or, and_true, implies_true]

/-! ### Commands: the doubled pair -/

theorem KeepsNext.execDblHello {h b} : KeepsNext (s.at_ t) (execDblHello t h b s) := by
  refine .dblFrame fun s => ?_
  simp only [↓via Keeps.set, ↓via Keeps.fresh, ↓via Keeps.dblData, ↓via Keeps.dblSend, ↓via Keeps.err, ↓via Keeps.errDone, ↓via Keeps.evacReport,
    ↓via Keeps.dualControl, ↓via Keeps.twinSays, ↓via Keeps.ite, ↓via Keeps.foldl, ↓keeps_record, Keeps.refl, true_or, and_true, implies_true]

theorem KeepsNext.execDblBeat {h evac} : KeepsNext (s.at_ t) (execDblBeat t h evac s) := by
  refine .dblFrame fun s => ?_
  dsimp only
  (repeat' split) <;> simp only [↓via Keeps.twinEvac, ↓via Keeps.twinSays, Keeps.refl, true_or]

theorem KeepsNext.execDblBeatSend : KeepsNext (s.at_ t) (execDblBeatSend t s) := by
  refine .released fun s => ?_
  simp only [↓via Keeps.dblSend, ↓via Keeps.ite, Keeps.refl, true_or, and_true]

theorem KeepsNext.execDblEvent {h e} : KeepsNext (s.at_ t) (execDblEvent t h e s) := by
  refine .dblFrame fun s => ?_
  simp only [↓via Keeps.publish, ↓via Keeps.event, ↓via Keeps.ite, Keeps.refl, true_or, and_true]

theorem KeepsNext.execDblCopy {h close effs whole agree} : KeepsNext (s.at_ t) (execDblCopy t h close effs whole agree s) := by
  refine .dblFrame fun s => .ite ⟨.refl s, ?_⟩
  split
  · exact .ite ⟨(Keeps.refl s).confirmCopy, (Keeps.refl s).copyFailed⟩
  · refine .ite ⟨(Keeps.refl s).copyFailed, .ite ⟨.record ⟨.refl s, rfl, rfl, rfl, rfl⟩, .ite ⟨(Keeps.refl s).copyFailed, ?_⟩⟩⟩
    exact .caughtUp (Keeps.refl s).setRole.confirmCopy
  · exact .refl s
  · exact .refl s
  · exact (Keeps.refl s).applyEffs

theorem KeepsNext.execDblConfirm {h close} : KeepsNext (s.at_ t) (execDblConfirm t h close s) := by
  refine .dblFrame fun s => ?_
  dsimp only
  (repeat' split) <;> simp only [↓via Keeps.peak, ↓via Keeps.setRole, ↓via Keeps.reply, ↓via Keeps.confirm, ↓keeps_record, Keeps.refl, true_or,
    and_true]

theorem KeepsNext.execDblNack {h close} : KeepsNext (s.at_ t) (execDblNack t h close s) := by
  refine .dblFrame fun s => ?_
  dsimp only
  (repeat' split) <;> simp only [↓via Keeps.bump, ↓via Keeps.dblData, ↓keeps_record, Keeps.refl, true_or, and_true]

theorem KeepsNext.execDblSnap {h part parts effs} : KeepsNext (s.at_ t) (execDblSnap t h part parts effs s) := by
  refine .dblFrame fun s => ?_
  simp only [↓via Keeps.bump, ↓via Keeps.applyCopy, ↓via Keeps.snapBase, ↓via Keeps.ite, ↓via Keeps.foldl, ↓keeps_record, Keeps.refl, true_or,
    and_true, implies_true]

theorem KeepsNext.execDblBulk {h key off clear data} : KeepsNext (s.at_ t) (execDblBulk t h key off clear data s) := by
  refine .dblFrame fun s => ?_
  simp only [↓via Keeps.dblSend, ↓via Keeps.hiddenWrite, ↓via Keeps.ite, Keeps.refl, true_or, and_true]

theorem KeepsNext.execDblHandoff {h m} : KeepsNext (s.at_ t) (execDblHandoff t h m s) := by
  refine .dblFrame fun s => ?_
  (repeat' split) <;> simp only [↓via Keeps.bump, ↓via Keeps.emit, ↓via Keeps.sendUnits, ↓via Keeps.skeinIn, ↓via Keeps.skeinAct, Keeps.refl,
    true_or, and_true, implies_true]

theorem KeepsNext.execHandoffPeriodEnd : KeepsNext (s.at_ t) (execHandoffPeriodEnd t s) := by
  refine .served fun s => ?_
  simp only [↓via Keeps.ite, ↓keeps_record, Keeps.refl, true_or, and_true]

theorem KeepsNext.execGratuitousArpRepeat : KeepsNext (s.at_ t) (execGratuitousArpRepeat t s) := by
  refine .served fun s => ?_
  simp only [↓via Keeps.announce, ↓via Keeps.ite, ↓keeps_record, Keeps.refl, true_or, and_true]

theorem KeepsNext.execDblYield {h} : KeepsNext (s.at_ t) (execDblYield t h s) := by
  refine .dblFrame fun s => ?_
  simp only [↓via Keeps.takeControl, ↓via Keeps.twinSays, ↓via Keeps.ite, ↓keeps_record, Keeps.refl, true_or, and_true]

theorem KeepsNext.execDblSwap {h reqs seqs} : KeepsNext (s.at_ t) (execDblSwap t h reqs seqs s) := by
  refine .dblFrame fun s => ?_
  simp only [↓via Keeps.setSess, ↓via Keeps.swapAccept, ↓via Keeps.swapInstant, ↓via Keeps.ite, ↓via Keeps.foldl, Keeps.refl, true_or, and_true,
    implies_true]

theorem KeepsNext.execDblLinkLoss {tie since} : KeepsNext (s.at_ t) (execDblLinkLoss t tie since s) := by
  refine .released fun s => ?_
  dsimp only
  (repeat' split) <;> simp only [↓via Keeps.peak, ↓via Keeps.setRole, ↓via Keeps.errNamed, ↓via Keeps.roleFromOff, ↓via Keeps.takeControl,
    ↓via Keeps.detach, ↓via Keeps.bulkDone, ↓via Keeps.defer, ↓via Keeps.sendClaim, ↓via Keeps.linkDown, ↓keeps_record, Keeps.refl, true_or, and_true]

theorem KeepsNext.execSettleEnd : KeepsNext (s.at_ t) (execSettleEnd t s) := by
  refine .served fun s => ?_
  dsimp only
  (repeat' split) <;> simp only [↓via Keeps.confirm, ↓keeps_record, Keeps.refl, true_or, and_true]

theorem KeepsNext.execDblLaneDown {lane} : KeepsNext (s.at_ t) (execDblLaneDown t lane s) := by
  refine .released fun s => ?_
  simp only [↓via Keeps.err, ↓via Keeps.ite, ↓keeps_record, Keeps.refl, true_or, and_true]

theorem KeepsNext.execDblLaneUp {lane} : KeepsNext (s.at_ t) (execDblLaneUp t lane s) := by
  refine .released fun s => ?_
  simp only [↓via Keeps.errDone, ↓via Keeps.ite, ↓keeps_record, Keeps.refl, true_or, and_true]

theorem KeepsNext.execTieInChange {w} : KeepsNext (s.at_ t) (execTieInChange t w s) := by
  refine .released fun s => ?_
  dsimp only
  (repeat' split) <;> simp only [↓via Keeps.peak, ↓via Keeps.errDone, ↓via Keeps.roleFromOff, ↓via Keeps.takeControl, ↓via Keeps.detach,
    ↓via Keeps.dualControl, ↓keeps_record, Keeps.refl, true_or, and_true]

theorem KeepsNext.execTieFault : KeepsNext (s.at_ t) (execTieFault t s) := by
  refine .released fun s => ?_
  simp only [↓via Keeps.err, ↓via Keeps.ite, Keeps.refl, true_or, and_true]

theorem KeepsNext.execClaim {port pair} : KeepsNext (s.at_ t) (execClaim t port pair s) := by
  refine .served fun s => ?_
  simp only [↓via Keeps.bump, ↓via Keeps.peak, ↓via Keeps.emit, ↓via Keeps.detach, ↓via Keeps.ite, Keeps.refl, true_or, and_true]

theorem KeepsNext.execStartWaitExpiry : KeepsNext (s.at_ t) (execStartWaitExpiry t s) := by
  refine .served fun s => ?_
  dsimp only
  (repeat' split) <;> simp only [↓via Keeps.setRole, ↓keeps_record, Keeps.refl, true_or, and_true]

theorem KeepsNext.execRejoin : KeepsNext (s.at_ t) (execRejoin t s) := by
  refine .served fun s => ?_
  simp only [↓via Keeps.setRole, ↓via Keeps.dblSend, ↓via Keeps.ite, ↓keeps_record, Keeps.refl, true_or, and_true]

/-! ### Commands: staging -/

theorem KeepsNext.execStageOpen {q} : KeepsNext (s.at_ t) (execStageOpen t q s) := by
  refine .served fun s => .request ⟨.refl s, fun s c => ?_⟩
  simp only [↓via Keeps.stageShow, ↓via Keeps.zeroStage, ↓via Keeps.badValue, ↓via Keeps.busy, ↓via Keeps.ok, ↓via Keeps.ite, ↓keeps_record,
    Keeps.refl, true_or, and_true]

theorem KeepsNext.execStageClose {q good w} : KeepsNext (s.at_ t) (execStageClose t q good w s) := by
  refine .served fun s => .request ⟨.refl s, fun s c => ?_⟩
  split
  case h_1 => exact (Keeps.refl s).badState
  case h_2 g _ =>
    refine .ite ⟨(Keeps.refl s).badState, ?_⟩
    split
    · exact (Keeps.refl s).badImage
    · refine .ite ⟨(Keeps.refl s).badImage, ?_⟩
      have hs := (Keeps.refl s).writeStageHeader (List.length_take_le 64 g.bytes)
      exact Keeps.ok (Keeps.stageShow { hs with })

theorem KeepsNext.execStageIdleExpiry : KeepsNext (s.at_ t) (execStageIdleExpiry t s) := by
  refine .served fun s => ?_
  simp only [↓via Keeps.stageDiscard, ↓via Keeps.ite, Keeps.refl, true_or, and_true]

/-! ### Commands: the start -/

theorem KeepsNext.execDramTrainingDone {failed} : KeepsNext (s.at_ t) (execDramTrainingDone t failed s) := by
  refine .live fun s => ?_
  dsimp only
  (repeat' split) <;> simp only [↓via Keeps.set, ↓via Keeps.fresh, ↓via Keeps.status, ↓via Keeps.report, ↓via Keeps.err, ↓via Keeps.tierMask,
    ↓via Keeps.syncBobbins, ↓via Keeps.syncMeters, ↓via Keeps.syncJoins, ↓via Keeps.groupG, ↓via Keeps.replay, ↓via Keeps.foldl, ↓keeps_record,
    Keeps.refl, true_or, and_true, implies_true]

/-! ### Commands: the switching point -/

theorem KeepsNext.execSwitchingPoint {dest} : KeepsNext (s.at_ t) (execSwitchingPoint t dest s) := by
  refine .served fun s => ?_
  dsimp only
  (repeat' split) <;> simp only [↓via Keeps.switch, Keeps.refl, true_or]

/-! ### Commands: frames of own sources -/

theorem KeepsNext.execSdiFrameReceived {lane f} : KeepsNext (s.at_ t) (execSdiFrameReceived t lane f s) := by
  refine .released fun s => ?_
  (repeat' split) <;> simp only [↓via Keeps.sdiFrame, ↓via Keeps.strandSends, Keeps.refl, true_or]

theorem KeepsNext.execEthFrameRx {p f} : KeepsNext (s.at_ t) (execEthFrameRx t p f s) := by
  refine .released fun s => ?_
  dsimp only
  (repeat' split) <;> simp only [↓via Keeps.bump, ↓via Keeps.bump64, ↓via Keeps.pausesEnd, ↓via Keeps.pauseFrame, ↓via Keeps.phyCounts,
    ↓via Keeps.beArrive, ↓via Keeps.flowFilter, ↓via Keeps.control, ↓via Keeps.mgmtFrame, ↓via Keeps.payAll, ↓via Keeps.strandSends, Keeps.refl,
    true_or]

theorem KeepsNext.execMergeHoleTimeout {flow} : KeepsNext (s.at_ t) (execMergeHoleTimeout t flow s) := by
  refine .released fun s => ?_
  simp only [↓via Keeps.expireHoles, ↓via Keeps.payAll, ↓via Keeps.ite, Keeps.refl, true_or, and_true]

theorem KeepsNext.execLegDown {flow leg} : KeepsNext (s.at_ t) (execLegDown t flow leg s) := by
  refine .released fun s => ?_
  dsimp only
  (repeat' split) <;> simp only [↓via Keeps.setFlow, ↓via Keeps.flowStops, ↓via Keeps.flowChecks, ↓via Keeps.flowAbandon, ↓via Keeps.payAll,
    Keeps.refl, true_or]

theorem KeepsNext.execHeadFrameSelect {h} : KeepsNext (s.at_ t) (execHeadFrameSelect t h s) := by
  refine .released fun s => ?_
  dsimp only
  (repeat' split) <;> simp only [↓via Keeps.bump, ↓via Keeps.freePic, ↓via Keeps.setHead, ↓via Keeps.winFrame, ↓via Keeps.meterFrame,
    ↓via Keeps.winShow, ↓via Keeps.headShow, ↓via Keeps.enginesShow, ↓via Keeps.headEmit, ↓via Keeps.headReads, ↓via Keeps.strandSends,
    ↓via Keeps.ite, ↓via Keeps.foldl, ↓keeps_record, Keeps.refl, true_or, and_true, implies_true]

theorem KeepsNext.execAudioTick {sdi far} : KeepsNext (s.at_ t) (execAudioTick t sdi far s) := by
  refine .released fun s => ?_
  simp only [↓via Keeps.beArrive, ↓via Keeps.audioTick, ↓via Keeps.strandSends, ↓via Keeps.slotSends, ↓via Keeps.ite, Keeps.refl, true_or, and_true]

/-! ### Commands: the house frame boundary -/

theorem KeepsNext.execHouseFrameBoundary : KeepsNext (s.at_ t) (execHouseFrameBoundary t s) := by
  refine .served fun s => ?_
  simp only [↓via Keeps.dropMarks, ↓via Keeps.pointLate, ↓via Keeps.flowBoundary, ↓via Keeps.flipHouse, ↓via Keeps.tallies, ↓via Keeps.strandSends,
    ↓via Keeps.flipBanks, ↓via Keeps.timeDue, ↓via Keeps.clearDue, ↓via Keeps.swapDue, ↓via Keeps.freeQuiet, ↓via Keeps.restartDue,
    ↓via Keeps.hystDue, ↓keeps_record, Keeps.refl, true_or, and_true]

theorem KeepsNext.execTargetSetChange {key target add} : KeepsNext (s.at_ t) (execTargetSetChange t key target add s) := by
  refine .served fun s => ?_
  simp only [↓via Keeps.ite, ↓keeps_record, Keeps.refl, true_or, and_true]

/-! ### Commands: island resets -/

theorem KeepsNext.execSpnReset {good} : KeepsNext (s.at_ t) (execSpnReset t good s) := by
  refine .served fun s => ?_
  simp only [↓via Keeps.spnDown, ↓via Keeps.spnUp, ↓via Keeps.ite, Keeps.refl, true_or, and_true]

theorem KeepsNext.execTransactionTimeout {isl off master typ} : KeepsNext (s.at_ t) (execTransactionTimeout t isl off master typ s) := by
  refine .released fun s => ?_
  dsimp only
  (repeat' split) <;> simp only [↓via Keeps.matrixResponse, ↓via Keeps.handshakeLost, Keeps.refl, true_or]

theorem KeepsNext.execIslandFence {isl} : KeepsNext (s.at_ t) (execIslandFence t isl s) := .served fun s => (Keeps.refl s).fence

theorem KeepsNext.execIslandRearmed {isl good} : KeepsNext (s.at_ t) (execIslandRearmed t isl good s) := .served fun s => (Keeps.refl s).rearm

theorem KeepsNext.execWireLoss {isl} : KeepsNext (s.at_ t) (execWireLoss t isl s) := by
  refine .released fun s => ?_
  simp only [↓via Keeps.set, ↓via Keeps.raise, ↓via Keeps.fence, ↓via Keeps.ite, ↓keeps_record, Keeps.refl, true_or, and_true]

theorem KeepsNext.execIslandReset {q} : KeepsNext (s.at_ t) (execIslandReset t q s) := by
  refine .served fun s => .request ⟨.refl s, fun s c => ?_⟩
  simp only [↓via Keeps.badValue, ↓via Keeps.badState, ↓via Keeps.ok, ↓via Keeps.fence, ↓via Keeps.ite, Keeps.refl, true_or, and_true]

/-! ### Commands: register reads -/

theorem KeepsNext.execRcFieldRead {addr} : KeepsNext (s.at_ t) (execRcFieldRead t addr s) := by
  refine .released fun s => ?_
  simp only [↓via Keeps.emit, ↓via Keeps.readReg, ↓via Keeps.ite, Keeps.refl, true_or, and_true]

theorem KeepsNext.execCounterLowRead {addr} : KeepsNext (s.at_ t) (execCounterLowRead t addr s) := by
  refine .released fun s => ?_
  simp only [↓via Keeps.emit, ↓via Keeps.readReg, ↓via Keeps.ite, Keeps.refl, true_or, and_true]

theorem KeepsNext.execRegRead {q} : KeepsNext (s.at_ t) (execRegRead t q s) := by
  refine .served fun s => .request ⟨.refl s, fun s c => ?_⟩
  simp only [↓via Keeps.badValue, ↓via Keeps.ok, ↓via Keeps.sicpRead, ↓via Keeps.readWords, ↓via Keeps.ite, Keeps.refl, true_or, and_true,
    implies_true]

theorem KeepsNext.execRegWrite {q} : KeepsNext (s.at_ t) (execRegWrite t q s) := by
  refine .served fun s => .request ⟨.refl s, fun s c => ?_⟩
  simp only [↓via Keeps.badValue, ↓via Keeps.ok, ↓via Keeps.writeReg, ↓via Keeps.ite, Keeps.refl, true_or, and_true]

theorem KeepsNext.execCounters {q} : KeepsNext (s.at_ t) (execCounters t q s) := by
  refine .served fun s => .request ⟨.refl s, fun s c => ?_⟩
  simp only [↓via Keeps.badValue, ↓via Keeps.ok, ↓via Keeps.readWords, ↓via Keeps.countersRead, ↓via Keeps.ite, Keeps.refl, true_or, and_true,
    implies_true]

/-! ### Commands: dMA channels and register writes -/

theorem KeepsNext.execDmaCmdGo {c fail} : KeepsNext (s.at_ t) (execDmaCmdGo t c fail s) := .released fun s => (Keeps.refl s).dmaGo

theorem KeepsNext.execDmaCmdStop {c} : KeepsNext (s.at_ t) (execDmaCmdStop t c s) := .released fun s => (Keeps.refl s).dmaStop

theorem KeepsNext.execDmaTimerEvent {c fail} : KeepsNext (s.at_ t) (execDmaTimerEvent t c fail s) := by
  refine .released fun s => ?_
  simp only [↓via Keeps.dmaEvent, ↓via Keeps.ite, Keeps.refl, true_or, and_true]

theorem KeepsNext.execDmaChainEvent {c fail} : KeepsNext (s.at_ t) (execDmaChainEvent t c fail s) := by
  refine .released fun s => ?_
  simp only [↓via Keeps.setDma, ↓via Keeps.dmaEvent, ↓via Keeps.ite, Keeps.refl, true_or, and_true]

theorem KeepsNext.execDmaDescriptorDone {c fail} : KeepsNext (s.at_ t) (execDmaDescriptorDone t c fail s) := .released fun s => (Keeps.refl s).dmaDone

theorem KeepsNext.execDmaHalt {c resp addr write} : KeepsNext (s.at_ t) (execDmaHalt t c resp addr write s) := by
  refine .released fun s => ?_
  simp only [↓via Keeps.dmaHalt, ↓via Keeps.ite, Keeps.refl, true_or, and_true]

theorem KeepsNext.execRegisterWrite {addr value} : KeepsNext (s.at_ t) (execRegisterWrite t addr value s) := by
  refine .released fun s => ?_
  simp only [↓via Keeps.writeReg, ↓via Keeps.dmaGo, ↓via Keeps.dmaStop, ↓via Keeps.ite, Keeps.refl, true_or, and_true]
end

/-! ### The commands that touch the memory or the fuses -/

/-- What `Keeps` says, but for the bytes of the image memory, which keeps its form, and for the keys. -/
def KeepsBut (a s : State) : Prop :=
  ∃ m k, (Memory.wf a.boot.xspi = true → Memory.wf m = true) ∧ Keeps { a with boot.xspi := m, keys := k } s

/-- What `Keeps` says, but for the keys. -/
def KeepsButKeys (a s : State) : Prop := ∃ k, Keeps { a with keys := k } s

section
variable {a u s s' : State} {t : Time}

theorem Keeps.withMemory {m : List Host.Cell} {k : Keys} (h : Keeps a s) :
    Keeps { a with boot.xspi := m, keys := k } { s with boot.xspi := m, keys := k } :=
  { h with mem_ok := id, mem_eq := fun _ _ => rfl, life_eq := rfl, left_eq := rfl, rb_eq := rfl }

theorem Keeps.withKeys {k : Keys} (h : Keeps a s) : Keeps { a with keys := k } { s with keys := k } :=
  { h with life_eq := rfl, left_eq := rfl, rb_eq := rfl }

theorem Keeps.butKeys (h : Keeps a s) : KeepsButKeys a s := ⟨a.keys, h⟩

theorem KeepsButKeys.but : KeepsButKeys a s → KeepsBut a s := fun ⟨k, h⟩ => ⟨a.boot.xspi, k, id, h⟩

theorem Keeps.but (h : Keeps a s) : KeepsBut a s := h.butKeys.but

theorem KeepsButKeys.after (h : Keeps a u) : KeepsButKeys u s → KeepsButKeys a s := fun ⟨k, hk⟩ => ⟨k, h.withKeys.trans hk⟩

theorem KeepsBut.after (h : Keeps a u) : KeepsBut u s → KeepsBut a s := fun ⟨m, k, hm, hk⟩ => ⟨m, k, hm ∘ h.mem_ok, h.withMemory.trans hk⟩

theorem KeepsBut.ite {x y : State} {p : Prop} [Decidable p] (hx : KeepsBut a x) (hy : KeepsBut a y) : KeepsBut a (if p then x else y) := by
  split <;> assumption

theorem KeepsBut.then (hu : KeepsBut a u) (h : Keeps u s) : KeepsBut a s := by
  obtain ⟨m, k, hm, hk⟩ := hu
  exact ⟨m, k, hm, hk.trans h⟩

/-- A request acts, if it acts, on what its reception keeps. -/
theorem State.request_of {P : State → Prop} {m q lacks} {body : State → Ctx → State} (hk : ∀ u, Keeps s u → P u)
    (hb : ∀ u x, Keeps s u → P (body u x)) : P (s.request m q lacks body) := by
  obtain h | ⟨u, x, hu, e⟩ := Keeps.request_cases (m := m) (q := q) (lacks := lacks) (body := body) (.refl s)
  · exact hk _ h
  · exact e ▸ hb u x hu

/-- A relation that holds of a state and itself and of a state and the effect on it holds along a command. -/
theorem live_next {R : State → State → Prop} {f : State → State} (hr : ∀ s, R s s) (hf : ∀ s, R s (f s)) (h : live t s f = .next s') :
    R (s.at_ t) s' := by
  unfold live at h
  split at h
  · exact Host.Outcome.next.inj h ▸ hr _
  · exact Host.Outcome.next.inj h ▸ hf _

theorem served_next {R : State → State → Prop} {f : State → State} (hr : ∀ s, R s s) (hf : ∀ s, R s (f s)) (h : served t s f = .next s') :
    R (s.at_ t) s' :=
  live_next hr (fun s => by split <;> [exact hf s; exact hr s]) h

/-! The start of service, which may raise the rollback counter, and the change of the life cycle. -/

theorem State.rollback_butKeys (s : State) : KeepsButKeys s s.rollback := by
  unfold State.rollback
  split
  · exact ⟨_, (Keeps.refl { s with keys.rbSteps := s.boot.secver }).event⟩
  · exact (Keeps.refl s).butKeys

theorem execChipServes_butKeys (h : execChipServes t s = .next s') : KeepsButKeys (s.at_ t) s' := by
  refine live_next (fun s => (Keeps.refl s).butKeys) (fun s => ?_) h
  split
  · exact (Keeps.refl s).butKeys
  · have hs : Keeps s { s with boot.served := some s.up } := .record ⟨.refl s, rfl, rfl, rfl, rfl⟩
    obtain ⟨k, hk⟩ := KeepsButKeys.after hs (State.rollback_butKeys _)
    exact ⟨k, Keeps.roleFromOff (Keeps.pulseShow (Keeps.copyEvents (Keeps.report (Keeps.status hk))))⟩

theorem execLifecycleSet_butKeys {q} (h : execLifecycleSet t q s = .next s') : KeepsButKeys (s.at_ t) s' := by
  refine served_next (fun s => (Keeps.refl s).butKeys) (fun s => State.request_of (fun u => Keeps.butKeys) fun u x hu => ?_) h
  dsimp only
  split
  · exact hu.busy.butKeys
  split
  · exact hu.badState.butKeys
  split
  · exact hu.badState.butKeys
  have hv := (hu.lifeEffects (to_ := fld x.ts 0x2B 0 1)).withKeys (k := {
    (u.lifeEffects (fld x.ts 0x2B 0 1)).keys with
      life := fld x.ts 0x2B 0 1, left := (u.lifeEffects (fld x.ts 0x2B 0 1)).keys.left - 1 })
  exact ⟨_, .ite ⟨hv.ok.raise, hv.ok.consumers⟩⟩

/-! The pins, the copy of an image and the writes of staging. -/

theorem State.copied_but (s : State) (n : Nat) : KeepsBut s (s.copied n) := ⟨_, s.keys, fun h => foldl_memPut_wf h _, Keeps.refl (s.copied n)⟩

theorem foldl_memWrite_wf {m : List Host.Cell} (h : Memory.wf m = true) (l : List (Nat × List Byte)) :
    Memory.wf (l.foldl (fun m x => memWrite m x.1 x.2) m) = true := by
  induction l generalizing m with
  | nil => exact h
  | cons x l ih => exact ih (memWrite_wf h _ _)

theorem State.serviced_but (s : State) (w : StartFacts) : KeepsBut s (s.serviced w) :=
  ⟨_, (s.serviced w).keys, fun h => foldl_memWrite_wf h w.service, { Keeps.refl (s.serviced w) with }⟩

theorem State.sampled_but (s : State) (w : StartFacts) : KeepsBut s (s.sampled w) := by
  have hs : Keeps s { s with boot.pins := true, dbl.side := w.side } := .record ⟨.refl s, rfl, rfl, rfl, rfl⟩
  exact .after hs.set (State.serviced_but _ w)

/-! The record updates of a copy, each a lemma of its own: beside the memory that a copy leaves they are too deep to unfold. -/

theorem Keeps.skipCopy {e} (hs : Keeps a s) : Keeps a { s with boot.copySkipped := e } := .record ⟨hs, rfl, rfl, rfl, rfl⟩

theorem Keeps.countCopy {e} (hs : Keeps a s) : Keeps a { s with boot.copyDone := e } := .record ⟨hs, rfl, rfl, rfl, rfl⟩

theorem Keeps.showImage {fw v} (hs : Keeps a s) : Keeps a { s with boot.fw := fw, boot.secver := v } := .record ⟨hs, rfl, rfl, rfl, rfl⟩

theorem KeepsNext.verify {w} (hs : Keeps a s) : KeepsNext a (s.verify w) := by
  unfold State.verify
  split
  · exact .next hs.halt
  · refine .ite (.next hs.configure) fun _ e => nomatch e

theorem KeepsNext.decideCopy {w} (hs : Keeps a s) : KeepsNext a (s.decideCopy w) := by
  unfold State.decideCopy
  refine .ite (.verify hs) (.ite (.next hs.halt) (.ite (.verify hs.zeroStage) ?_))
  split
  · exact .verify hs.zeroStage.skipCopy
  · exact .next hs.status

theorem KeepsBut.outcome {o} (hu : KeepsBut a u) (h : KeepsNext u o) (e : o = .next s') : KeepsBut a s' := hu.then (h s' e)

theorem execResetFall_but {torn report copy} (h : execResetFall t torn report copy s = .next s') : KeepsBut (s.at_ t) s' := by
  unfold execResetFall at h
  extract_lets u v w boot x at h
  split at h
  · exact Host.Outcome.next.inj h ▸ (Keeps.refl u).but
  · have hv : KeepsBut u v := .ite (State.copied_but u copy) (Keeps.refl u).but
    have hw : KeepsBut u w := hv.then (.ite ⟨(Keeps.refl v).tornRecord, .refl v⟩)
    have hx : KeepsBut u x := hw.then (.ite ⟨.record ⟨.refl w, rfl, rfl, rfl, rfl⟩, .refl w⟩)
    exact Host.Outcome.next.inj h ▸ hx.then (Keeps.refl x).fallen

theorem execImageCopyDone_but {good w} (h : execImageCopyDone t good w s = .next s') : KeepsBut (s.at_ t) s' := by
  unfold execImageCopyDone at h
  extract_lets u old n v new boot x at h
  split at h
  · exact Host.Outcome.next.inj h ▸ (Keeps.refl u).but
  · have hx : KeepsBut u x := (State.copied_but u n).then (Keeps.refl v).showImage
    refine hx.outcome (.ite (.next (Keeps.refl x).halt) ?_) h
    split
    · exact .next (Keeps.refl x).halt
    · exact .verify (Keeps.refl x).zeroStage.countCopy

theorem execPowerStart_but {w} (h : execPowerStart t w s = .next s') : KeepsBut (s.at_ t) s' := by
  unfold execPowerStart at h
  extract_lets u v at h
  split at h
  · exact Host.Outcome.next.inj h ▸ (Keeps.refl u).but
  · have hv : Keeps (u.sampled w) v := (Keeps.refl _).opened
    refine (State.sampled_but u w).outcome (.ite (.next (Keeps.refl _).halt) ?_) h
    exact .ite (.next hv.halt) (.ite (.next hv.set.halt) (.ite (.next hv.set.halt) (.decideCopy hv)))

theorem execStageWrite_but {q good plain} (h : execStageWrite t q good plain s = .next s') : KeepsBut (s.at_ t) s' := by
  refine served_next (fun s => (Keeps.refl s).but) (fun s => State.request_of (fun u => Keeps.but) fun u x hu => ?_) h
  split
  case h_1 => exact hu.badState.but
  case h_2 g _ =>
    refine .ite hu.badState.but (.ite hu.badValue.but ?_)
    extract_lets past boot v
    have hv : KeepsBut s v := .after hu ⟨_, u.keys, fun m => memWrite_wf m _ past, .refl v⟩
    refine .ite (hv.then (Keeps.refl v).badImage) ?_
    split
    · exact hv.then (Keeps.refl v).badImage
    · exact hv.then (Keeps.ok (Keeps.stageShow (.record ⟨.refl v, rfl, rfl, rfl, rfl⟩)))
end

/-! ### Every command -/

/-- The commands of which `KeepsNext` holds: all but those that touch the memory or the fuses. -/
def isOrdinary : Instr → Bool
  | .powerStart .. | .resetFall .. | .imageCopyDone .. | .stageWrite .. | .chipServes .. | .lifecycleSet .. => false
  | _ => true


theorem exec_keeps {c : Instr} {s : State} (hc : isOrdinary c = true) : KeepsNext (s.at_ c.time) (exec c s) := by
  cases c
  exacts [(nomatch hc), (nomatch hc), (nomatch hc), .execDramTrainingDone, .execWhlRefWaitEnd, (nomatch hc), .execStartWaitExpiry, .execRejoin,
    .execDtlsClientHello, .execKeyUpdate, .execCloseNotify, .execSessionIdleExpiry, .execCertValidityCheck, .execSicpRecordUnparsable,
    .execPairDatagramHandoff, .execPing, .execIdentity, .execRouteQuery, .execRegRead, .execRegWrite, .execCounters, .execLogRead, .execSubscribe,
    .execUnsubscribe, .execFaultClear, .execTake, .execSalvoOpen, .execSalvoAdd, .execSalvoArm, .execSalvoCommit, .execSalvoAbort, .execDelaySet,
    .execFlowSet, .execFlowRelease, .execAudRoute, .execBusSet, .execAudDelaySet, .execWindowSet, .execWindowClear, .execLayerOrder, .execBulkWrite,
    .execFence, .execTimeRef, .execTimeRealign, .execTimeSet, .execTileDrain, .execTileRestore, .execIslandReset, .execPairSwap, .execPairRestart,
    .execPairRejoin, .execEvacClear, .execStageOpen, (nomatch hc), .execStageClose, .execKeyGenerate, .execKeyImport, .execKeyDestroy,
    .execKeyAttest, (nomatch hc), .execEvent, .execCycleClose, .execHouseFrameBoundary, .execSwitchingPoint, .execJournalRecordWrite,
    .execCellCrcFail, .execCrcLimitExceeded, .execReorderTimeout, .execTileDrainInstant, .execTileQueuesEmpty, .execTileFailure, .execTileResetDone,
    .execTileRestoreInstant, .execSdiSignalPresent, .execSdiHuntDwellEnd, .execSdiClockRecovered, .execSdiFrameReceived, .execSdiEavLoss,
    .execSdiSignalAbsent, .execEthFrameRx, .execMergeHoleTimeout, .execLegDown, .execIdleReleaseExpiry, .execReportRepeat, .execPortSignalLock,
    .execPortAligned, .execPortLockTimeout, .execPortLockLost, .execPortSignalLoss, .execOctetPllUnlock, .execPauseWatchdog, .execQignoreEnd,
    .execBeFrameAged, .execCounterHalf, .execCounterSweep, .execPtpMessageTx, .execWritePointerDeadline, .execDramReadEcc, .execDramScrub,
    .execNeighbourRefresh, .execRefreshWindowEnd, .execRefreshRateRead, .execZqRecalibrate, .execPointChangeInstant, .execDgReset, .execAudioTick,
    .execAudioSampleArrival, .execInputGap, .execSdiAudioSlip, .execBusIdleEntry, .execTdmFsEdge, .execTdmSyncLoss, .execTdmMutingEnd,
    .execAudReset, .execAudReload, .execWindowEngineWrite, .execHeadFrameSelect, .execWinHoldExpiry, .execServoSample, .execRefQualify,
    .execRefDisqualify, .execWtrExpiry, .execWhlLockReached, .execWhlOutOfLock, .execHoldoverExpiry, .execWhlNoref, .execTimeStep, .execXoLoss,
    .execTwinTimeExcess, .execWireCalibrate, .execWireLoss, .execWhlReset, .execRtcMinuteWrite, .execStrandUnitRx, .execStrandPortUp,
    .execStrandHello, .execStrandMeasureDone, .execStrandEcho, .execStrandDown, .execStrandCreditSend, .execLinkState, .execSkeinArm,
    .execSkeinReport (port := 0), .execSkeinDecision (port := 0), .execSkeinRelease, .execClaim, .execSkeinMessageRepeat, .execMirrorHoldExpiry,
    .execDblHello, .execDblBeat, .execDblBeatSend, .execDblCopy, .execDblConfirm, .execDblNack, .execDblSnap, .execDblBulk, .execDblHandoff,
    .execDblEvent, .execDblTime, .execDblYield, .execDblSwap, .execDblLinkLoss, .execDblLaneDown, .execTieInChange, .execTieFault, .execSettleEnd,
    .execHandoffPeriodEnd, .execErrorLineOccurrence, .execCurrentBitExpiry, .execFltCheck, .execIslandError, .execLogBlockWrite, .execTempSample,
    .execLockstep, .execSramEcc, .execTransactionTimeout, .execIslandFence, .execIslandRearmed, .execSpnReset, .execKeyReset, .execBootReset,
    .execDmaCmdGo, .execDmaCmdStop, .execDmaTimerEvent, .execDmaChainEvent, .execDmaDescriptorDone, .execDmaHalt, .execXrdLenWrite,
    .execXrdDataRead, .execRcFieldRead, .execCounterLowRead, .execRegisterWrite, .execStageIdleExpiry, .execSalvoHandleExpiry, .execRngFail,
    .execTamper, .execTamperRelease, .execGpiSample, .execEvacSample, .execDblLaneUp, .execStrandHelloSend, .execLeapSecond, .execRemoteFault,
    .execGratuitousArpRepeat, .execTargetSetChange]

theorem exec_keepsBut {c : Instr} {s s' : State} (h : exec c s = .next s') : KeepsBut (s.at_ c.time) s' := by
  cases c
  case powerStart => exact execPowerStart_but h
  case resetFall => exact execResetFall_but h
  case imageCopyDone t good w => exact execImageCopyDone_but (t := t) (good := good) (w := w) h
  case stageWrite => exact execStageWrite_but h
  case chipServes => exact (execChipServes_butKeys h).but
  case lifecycleSet => exact (execLifecycleSet_butKeys h).but
  all_goals exact (exec_keeps rfl s' h).but

/-! ### The form of every state, and the writers of the memory -/

theorem State.formed_iff {s : State} : s.formed = true ↔ canonical s.regs = true ∧ rising s.wide = true ∧ Memory.wf s.boot.xspi = true := by
  simp only [State.formed, Bool.and_eq_true, and_assoc]

theorem KeepsBut.formed {a s : State} (h : KeepsBut a s) (ha : a.formed = true) : s.formed = true := by
  obtain ⟨m, k, hm, hk⟩ := h
  obtain ⟨hr, hw, hx⟩ := State.formed_iff.mp ha
  exact State.formed_iff.mpr ⟨hk.regs_ok hr, hk.wide_ok hw, hk.mem_ok (hm hx)⟩

/-- Settles O3: `KeepsBut` holds along every command, and it carries the form. -/
theorem everyStepKeepsForm : Obligations.EveryStepKeepsForm := by
  unfold Obligations.EveryStepKeepsForm
  intro s s' h hs
  unfold step at h
  split at h
  · exact Host.Outcome.next.inj h ▸ hs
  · exact (exec_keepsBut h).formed hs

theorem KeepsButKeys.memByte {a s : State} (h : KeepsButKeys a s) (x : Nat) :
    memByte s.boot.xspi x = memByte a.boot.xspi x ∨ stageHeader x := by
  obtain ⟨k, hk⟩ := h
  exact or_iff_not_imp_right.mpr (hk.mem_eq x)

/-- Settles O7: every command but the five keeps the memory outside the stages' headers, whatever it does to the keys. -/
theorem memoryWriters : Obligations.MemoryWriters := by
  unfold Obligations.MemoryWriters
  intro c s s' h hc x
  have hk : KeepsButKeys (s.at_ c.time) s' := by
    cases c
    case chipServes => exact execChipServes_butKeys h
    case lifecycleSet => exact execLifecycleSet_butKeys h
    case powerStart | resetFall | imageCopyDone | stageWrite | stageClose => exact hc.elim
    all_goals exact (exec_keeps rfl s' h).butKeys
  exact hk.memByte x

/-! ### After reset -/

theorem State.reset_word (a : Nat) : State.reset.word a = resetWord a := rfl

theorem State.reset_fltBit : ∀ n : Fin 40, State.reset.has (fltBit n) = false := by decide +kernel

/-- Settles O2: the register file is empty after reset, so every word is its reset word, and the rest are the reset values of single fields. -/
theorem stateAfterReset : Obligations.StateAfterReset := by
  have hboot : State.reset.get R.BOOT_STAT_STATUS = 0 ∧ State.reset.get R.FLT_WORD_HI_CLASS = 0 ∧ State.reset.has R.FLT_STAT_COPY_OK = true ∧
      State.reset.inService = false := by decide +kernel
  obtain ⟨hstatus, hclass, hcopy, hserves⟩ := hboot
  exact ⟨⟨State.reset_word, hstatus, hclass, State.reset_fltBit, hcopy, rfl, rfl, hserves, rfl, rfl⟩, rfl⟩

/-! ### The journal while KEY is in its reset -/

theorem exec_journalRecordWrite_of_keyWaits {s : State} {t : Time} {o : Fin 3} (ha : s.awake = true) (hk : s.keyWaits s.journalSlot = true) :
    exec (.journalRecordWrite t o) s = .next (s.at_ t) := by
  have hwaits : (s.at_ t).keyWaits (s.at_ t).journalSlot = true := hk
  change execJournalRecordWrite t o s = _
  rw [execJournalRecordWrite, released_of_awake ha, if_pos]
  rw [hwaits, Bool.or_true]

/-- A chip in service with a record that waits, whose journal is sealed under a LOADED slot, while KEY is in its reset. -/
def journalUnderKeyReset : State :=
  { (State.reset.set R.BOOT_STAT_STATUS 8).set R.BOOT_STAT_NOR 0 with
    boot := { pins := true, recs := [⟨0x01F0, [1]⟩], jpend := [(.aline 0 1, 9)] }
    dbl.role := .active
    keys := { life := 2, slots := [(1, { state := 1 })], resetting := true } }

theorem journalUnderKeyReset_facts :
    let s := journalUnderKeyReset
    s.awake = true ∧ s.boot.xrd = none ∧ s.has (rstNow 39) = false ∧ s.journals = true ∧ s.nextRecord = some (.item (.aline 0 1), false, 9) ∧
      s.journalFits (JBody.item (.aline 0 1)).size = true ∧ s.keyWaits s.journalSlot = true := by
  decide +kernel

/-- Refutes O56: while KEY is in its reset, a record that would be sealed under a slot is not written, though the slot is LOADED and no service access
is open (17 R651). The state `journalUnderKeyReset` has such a record, and after the command it still waits. -/
theorem not_recordsReachTheMemory : ¬ Obligations.RecordsReachTheMemory := by
  unfold Obligations.RecordsReachTheMemory
  rintro ⟨h, -⟩
  obtain ⟨hawake, hxrd, hboot, hjournals, hnext, hfits, hwaits⟩ := journalUnderKeyReset_facts
  obtain ⟨hrecord, -⟩ := h 0 journalUnderKeyReset hawake hxrd hboot
  obtain ⟨hwritten, -⟩ := hrecord _ _ _ hjournals hnext hfits
  rw [exec_journalRecordWrite_of_keyWaits hawake hwaits] at hwritten
  have hpend := congrArg (·.boot.jpend.length) (Host.Outcome.next.inj hwritten)
  exact absurd hpend (by decide +kernel)

end Sys2Proof.Machine

/-! ## What the commands do to the states of the tiles

Few operations write the list of the tiles' states: `setTile` sets one entry, and a fall to reset makes a new list of eight. All others leave it,
which is said below once for each operation, in the order of the model: `X_tiles` reads the list after the operation `X`. Its proof opens `X` and
rewrites by the lemmas of the operations that `X` is made of. They rewrite from the outside in (`↓`), so that an operation falls away before its
operands are looked at. -/

namespace Sys2Proof.Machine

/-- The states of the tiles (03 R122), by a name of their own: a projection `s.xp.tiles` of a record would be computed by `simp` and by the kernel,
through every operation below it. -/
def State.tiles (s : State) : List TileSt := s.xp.tiles

theorem State.xp_tiles (s : State) : s.xp.tiles = s.tiles := (rfl)

theorem State.tiles_mk {now up free pending regs wide out boot flt sicp xp sdi dbl bob dram aud mv probe eth ip whl keys spn skn rtc} :
    State.tiles ⟨now, up, free, pending, regs, wide, out, boot, flt, sicp, xp, sdi, dbl, bob, dram, aud, mv, probe, eth, ip, whl, keys, spn, skn,
      rtc⟩ = xp.tiles := (rfl)

section
variable {s : State} {α β γ δ : Type}

/-! ### Choices, folds and pairs -/

theorem State.ite_tiles {x y : State} {p : Prop} [Decidable p] : (if p then x else y).tiles = if p then x.tiles else y.tiles :=
  apply_ite State.tiles ..

theorem State.ite_snd_tiles {x y : α × State} {p : Prop} [Decidable p] :
    (if p then x else y).2.tiles = if p then x.2.tiles else y.2.tiles := apply_ite (fun x : α × State => x.2.tiles) ..

theorem State.ite_snd_snd_tiles {x y : α × β × State} {p : Prop} [Decidable p] :
    (if p then x else y).2.2.tiles = if p then x.2.2.tiles else y.2.2.tiles := apply_ite (fun x : α × β × State => x.2.2.tiles) ..

theorem State.foldl_tiles {f : State → α → State} {l : List α} (h : ∀ s x, (f s x).tiles = s.tiles) : (l.foldl f s).tiles = s.tiles :=
  List.foldlRecOn (motive := (·.tiles = s.tiles)) l f rfl fun u hu x _ => (h u x).trans hu

theorem State.foldl_tiles_length {f : State → α → State} {l : List α} (h : ∀ s x, (f s x).tiles.length = s.tiles.length) :
    (l.foldl f s).tiles.length = s.tiles.length :=
  List.foldlRecOn (motive := (·.tiles.length = s.tiles.length)) l f rfl fun u hu x _ => (h u x).trans hu

theorem State.foldl_fst_tiles {f : State × β → α → State × β} {b : State × β} {l : List α} (h : ∀ b x, (f b x).1.tiles = b.1.tiles) :
    (l.foldl f b).1.tiles = b.1.tiles :=
  List.foldlRecOn (motive := (·.1.tiles = b.1.tiles)) l f rfl fun u hu x _ => (h u x).trans hu

theorem State.foldl_snd_tiles {f : β × State → α → β × State} {b : β × State} {l : List α} (h : ∀ b x, (f b x).2.tiles = b.2.tiles) :
    (l.foldl f b).2.tiles = b.2.tiles :=
  List.foldlRecOn (motive := (·.2.tiles = b.2.tiles)) l f rfl fun u hu x _ => (h u x).trans hu

theorem State.foldl_snd₃_tiles {f : β × γ × δ × State → α → β × γ × δ × State} {b : β × γ × δ × State} {l : List α}
    (h : ∀ b x, (f b x).2.2.2.tiles = b.2.2.2.tiles) : (l.foldl f b).2.2.2.tiles = b.2.2.2.tiles :=
  List.foldlRecOn (motive := (·.2.2.2.tiles = b.2.2.2.tiles)) l f rfl fun u hu x _ => (h u x).trans hu

/-- The tiles of the state beside a value, once the pair has been taken apart. -/
theorem State.tiles_of_snd {x : α} {u : State} {p : α × State} (h : p = (x, u)) : u.tiles = p.2.tiles := by rw [h]

/-! ### Registers, numbers and what is sent -/

theorem State.setWord_tiles {k v} : (s.setWord k v).tiles = s.tiles := by
  simp only [State.setWord, ↓tiles_mk, ↓xp_tiles]

theorem State.set_tiles {f v} : (s.set f v).tiles = s.tiles := by
  simp only [State.set, ↓setWord_tiles]

theorem State.bump_tiles {f n} : (s.bump f n).tiles = s.tiles := by
  simp only [State.bump, ↓set_tiles, ↓ite_tiles, ite_self]

theorem State.peak_tiles {f v} : (s.peak f v).tiles = s.tiles := by
  simp only [State.peak, ↓set_tiles, ↓ite_tiles, ite_self]

theorem State.bump64_tiles {f n} : (s.bump64 f n).tiles = s.tiles := by
  simp only [State.bump64, ↓ite_tiles, ↓tiles_mk, ↓xp_tiles, ite_self]

theorem State.clearWindow_tiles {isl} : (s.clearWindow isl).tiles = s.tiles := by
  simp only [State.clearWindow, ↓tiles_mk, ↓xp_tiles]

theorem State.fresh_tiles : (s.fresh).2.tiles = s.tiles := by
  simp only [State.fresh, ↓tiles_mk, ↓xp_tiles]

theorem State.freshNot_tiles {n used} : (s.freshNot n used).2.tiles = s.tiles := by
  simp only [State.freshNot, ↓tiles_mk, ↓xp_tiles]

theorem State.emit_tiles {o} : (s.emit o).tiles = s.tiles := by
  simp only [State.emit, ↓tiles_mk, ↓xp_tiles]

/-! ### The log blocks and staging -/

theorem State.putBlocks_tiles {n} : (s.putBlocks n).tiles = s.tiles := by
  simp only [State.putBlocks, ↓tiles_mk, ↓xp_tiles]

theorem State.stageShow_tiles : s.stageShow.tiles = s.tiles := by
  simp only [State.stageShow, ↓set_tiles]

theorem State.zeroStage_tiles : s.zeroStage.tiles = s.tiles := by
  simp only [State.zeroStage, ↓tiles_mk, ↓xp_tiles]

/-! ### Faults, roles and events -/

theorem State.sendVia_tiles {p m} : (s.sendVia p m).tiles = s.tiles := by
  simp only [State.sendVia, ↓bump_tiles, ↓bump64_tiles, ↓fresh_tiles, ↓emit_tiles, ↓ite_tiles, ite_self]

theorem State.dblData_tiles {n m} : (s.dblData n m).tiles = s.tiles := by
  simp only [State.dblData, ↓emit_tiles, ↓tiles_mk, ↓xp_tiles]

theorem State.publish_tiles {e} : (s.publish e).tiles = s.tiles := by
  simp only [State.publish, ↓bump_tiles, ↓tiles_mk, ↓xp_tiles]

theorem State.nextSeq_tiles {isl} : (s.nextSeq isl).2.tiles = s.tiles := by
  simp only [State.nextSeq, ↓tiles_mk, ↓xp_tiles]

theorem State.logRec_tiles {e} : (s.logRec e).tiles = s.tiles := by
  simp only [State.logRec, ↓bump_tiles, ↓tiles_mk, ↓xp_tiles]

theorem State.logOne_tiles {isl cls code detail extra} : (s.logOne isl cls code detail extra).tiles = s.tiles := by
  simp only [State.logOne, ↓dblData_tiles, ↓publish_tiles, ↓nextSeq_tiles, ↓logRec_tiles, ↓ite_tiles, ite_self]

theorem State.event_tiles {isl cls code detail} : (s.event isl cls code detail).tiles = s.tiles := by
  simp only [State.event, ↓logOne_tiles, ↓ite_tiles, ↓tiles_mk, ↓xp_tiles, ite_self]

theorem State.fltSync_tiles : s.fltSync.tiles = s.tiles := by
  simp only [State.fltSync, ↓set_tiles]

theorem State.capture_tiles {isl cls code a} : (s.capture isl cls code a).tiles = s.tiles := by
  simp only [State.capture, ↓set_tiles, ↓ite_tiles, ite_self]

theorem State.latch_tiles {isl cls code a} : (s.latch isl cls code a).tiles = s.tiles := by
  simp only [State.latch, ↓set_tiles, ↓fltSync_tiles, ↓capture_tiles]

theorem State.hold_tiles {isl tag cls code detail} : (s.hold isl tag cls code detail).tiles = s.tiles := by
  simp only [State.hold, ↓tiles_mk, ↓xp_tiles]

theorem State.resolve_tiles {isl tag} : (s.resolve isl tag).tiles = s.tiles := by
  simp only [State.resolve, ↓tiles_mk, ↓xp_tiles]

theorem State.quietAll_tiles : s.quietAll.tiles = s.tiles := by
  simp only [State.quietAll, ↓setWord_tiles, ↓foldl_tiles, ↓tiles_mk, ↓xp_tiles, implies_true]

theorem State.stageDiscard_tiles {cause} : (s.stageDiscard cause).tiles = s.tiles := by
  fun_cases State.stageDiscard <;> simp only [↓stageShow_tiles, ↓zeroStage_tiles, ↓event_tiles, ↓tiles_mk, ↓xp_tiles]

theorem State.sessShow_tiles {tenant} : (s.sessShow tenant).tiles = s.tiles := by
  simp only [State.sessShow, ↓set_tiles]

theorem State.endSession_tiles {id} : (s.endSession id).tiles = s.tiles := by
  unfold State.endSession
  split <;> simp only [↓stageDiscard_tiles, ↓sessShow_tiles, ↓ite_tiles, ↓tiles_mk, ↓xp_tiles, ite_self]

theorem State.ownSessionsEnd_tiles : s.ownSessionsEnd.tiles = s.tiles := by
  simp only [State.ownSessionsEnd, ↓sendVia_tiles, ↓stageDiscard_tiles, ↓sessShow_tiles, ↓foldl_tiles, ↓ite_tiles, ↓tiles_mk, ↓xp_tiles, ite_self,
    implies_true]

theorem State.setRole_tiles {r} : (s.setRole r).tiles = s.tiles := by
  simp only [State.setRole, ↓set_tiles, ↓event_tiles, ↓sessShow_tiles, ↓ownSessionsEnd_tiles, ↓foldl_tiles, ↓ite_tiles, ↓tiles_mk, ↓xp_tiles,
    ite_self, implies_true]

theorem State.countYield_tiles : s.countYield.tiles = s.tiles := by
  simp only [State.countYield, ↓bump_tiles, ↓tiles_mk, ↓xp_tiles]

theorem State.quietLater_tiles : s.quietLater.tiles = s.tiles := by
  simp only [State.quietLater, ↓tiles_mk, ↓xp_tiles]

theorem State.dblSend_tiles {typ close body} : (s.dblSend typ close body).tiles = s.tiles := by
  simp only [State.dblSend, ↓emit_tiles, ↓tiles_mk, ↓xp_tiles]

theorem State.yield_tiles : s.yield.tiles = s.tiles := by
  simp only [State.yield, ↓setRole_tiles, ↓countYield_tiles, ↓quietLater_tiles, ↓dblSend_tiles, ↓tiles_mk, ↓xp_tiles]

theorem State.f3_tiles : s.f3.tiles = s.tiles := by
  unfold State.f3
  split <;> simp only [↓setRole_tiles, ↓countYield_tiles, ↓quietLater_tiles, ↓yield_tiles, ↓ite_tiles, ↓tiles_mk, ↓xp_tiles, ite_self]

theorem State.status_tiles {code detail} : (s.status code detail).tiles = s.tiles := by
  simp only [State.status, ↓set_tiles, ↓fltSync_tiles]

theorem State.report_tiles {offset} : (s.report offset).tiles = s.tiles := by
  simp only [State.report, ↓tiles_mk, ↓xp_tiles]

theorem State.lastWrites_tiles {before} : (s.lastWrites before).tiles = s.tiles := by
  simp only [State.lastWrites, ↓fresh_tiles, ↓putBlocks_tiles, ↓tiles_mk, ↓xp_tiles]

theorem State.f4_tiles {status detail} : (s.f4 status detail).tiles = s.tiles := by
  simp only [State.f4, ↓quietAll_tiles, ↓status_tiles, ↓report_tiles, ↓lastWrites_tiles, ↓ite_tiles, ↓tiles_mk, ↓xp_tiles, ite_self]

theorem State.react_tiles {cls status detail} : (s.react cls status detail).tiles = s.tiles := by
  simp only [State.react, ↓f3_tiles, ↓f4_tiles, ↓ite_tiles, ite_self]

theorem State.raise_tiles {isl cls code tag detail a stop} : (s.raise isl cls code tag detail a stop).tiles = s.tiles := by
  simp only [State.raise, ↓event_tiles, ↓latch_tiles, ↓hold_tiles, ↓react_tiles]

theorem State.islandError_tiles {f cls} : (s.islandError f cls).tiles = s.tiles := by
  simp only [State.islandError, ↓event_tiles, ↓ite_tiles, ↓tiles_mk, ↓xp_tiles, ite_self]

theorem State.err_tiles {f cls a lasts stop} : (s.err f cls a lasts stop).tiles = s.tiles := by
  simp only [State.err, ↓set_tiles, ↓latch_tiles, ↓hold_tiles, ↓react_tiles, ↓islandError_tiles, ↓ite_tiles, ite_self]

theorem State.errNamed_tiles {f cls code detail a lasts} : (s.errNamed f cls code detail a lasts).tiles = s.tiles := by
  simp only [State.errNamed, ↓set_tiles, ↓event_tiles, ↓raise_tiles, ↓ite_tiles, ite_self]

theorem State.errDone_tiles {f} : (s.errDone f).tiles = s.tiles := by
  simp only [State.errDone, ↓resolve_tiles]

/-! ### Cells -/

theorem State.setTile_tiles {n x} : (s.setTile n x).tiles = s.tiles.set n x := by
  simp only [State.setTile, ↓set_tiles, ↓tiles_mk, ↓xp_tiles]

theorem State.syncConns_tiles {keys} : (s.syncConns keys).tiles = s.tiles := by
  simp only [State.syncConns, ↓foldl_tiles, ↓tiles_mk, ↓xp_tiles, implies_true]

theorem State.countCells_tiles {from_ n} : (s.countCells from_ n).tiles = s.tiles := by
  simp only [State.countCells, ↓bump64_tiles, ↓foldl_tiles, implies_true]

theorem State.beClear_tiles {c} : (s.beClear c).tiles = s.tiles := by
  simp only [State.beClear, ↓bump_tiles, ↓ite_tiles, ↓tiles_mk, ↓xp_tiles, ite_self]

theorem State.overload_tiles {q e n} : (s.overload q e n).2.tiles = s.tiles := by
  unfold State.overload
  (repeat' split) <;> simp only [↓bump_tiles, ↓peak_tiles, ↓beClear_tiles, ↓tiles_mk, ↓xp_tiles]

theorem State.markLost_tiles {isl k frame n idx} : (s.markLost isl k frame n idx).tiles = s.tiles := by
  simp only [State.markLost, ↓ite_tiles, ↓tiles_mk, ↓xp_tiles, ite_self]

theorem State.lostCells_tiles {n} : (s.lostCells n).tiles = s.tiles := by
  simp only [State.lostCells, ↓bump_tiles, ↓err_tiles, ↓ite_tiles, ite_self]

theorem State.dropMarks_tiles : s.dropMarks.tiles = s.tiles := by
  simp only [State.dropMarks, ↓tiles_mk, ↓xp_tiles]

theorem State.freePeak_tiles {f bound} : (s.freePeak f bound).tiles = s.tiles := by
  simp only [State.freePeak, ↓fresh_tiles, ↓peak_tiles]

theorem State.queuePeaks_tiles {k} : (s.queuePeaks k).tiles = s.tiles := by
  unfold State.queuePeaks
  split <;> simp only [↓freePeak_tiles, ↓foldl_tiles, implies_true]

theorem State.sendCells_tiles {k frame n} : (s.sendCells k frame n).tiles = s.tiles := by
  unfold State.sendCells
  dsimp only
  (repeat' split) <;> simp only [↓countCells_tiles, ↓overload_tiles, ↓markLost_tiles, ↓queuePeaks_tiles, ↓foldl_tiles, ↓ite_tiles, ↓tiles_mk,
    ↓xp_tiles, ite_self, implies_true]

theorem State.fillCells_tiles {k samples} : (s.fillCells k samples).2.tiles = s.tiles := by
  fun_cases State.fillCells <;> simp only [↓tiles_mk, ↓xp_tiles]

theorem State.sendSlots_tiles {k samples} : (s.sendSlots k samples).tiles = s.tiles := by
  simp only [State.sendSlots, ↓fillCells_tiles, ↓sendCells_tiles]

theorem State.meter_tiles {k cells spread} : (s.meter k cells spread).2.tiles = s.tiles := by
  fun_cases State.meter <;> simp only [↓tiles_mk, ↓xp_tiles]

theorem State.enterCells_tiles {k c frame cells spread} : (s.enterCells k c frame cells spread).tiles = s.tiles := by
  simp only [State.enterCells, ↓bump_tiles, ↓markLost_tiles, ↓sendCells_tiles, ↓meter_tiles, ↓foldl_tiles, ↓ite_tiles, ite_self, implies_true]

theorem State.enterSlots_tiles {k c samples spread} : (s.enterSlots k c samples spread).tiles = s.tiles := by
  simp only [State.enterSlots, ↓fillCells_tiles, ↓enterCells_tiles, ↓ite_tiles, ite_self]

theorem State.bePut_tiles {q size cells} : (s.bePut q size cells).2.tiles = s.tiles := by
  simp only [State.bePut, ↓tiles_mk, ↓xp_tiles]

theorem State.beEnter_tiles {c cells} : (s.beEnter c cells).2.tiles = s.tiles := by
  simp only [State.beEnter, ↓bump_tiles, ↓bePut_tiles, ↓ite_snd_tiles, ite_self]

theorem State.beCross_tiles {target from_ cells} : (s.beCross target from_ cells).2.tiles = s.tiles := by
  simp only [State.beCross, ↓bump_tiles, ↓bump64_tiles, ↓bePut_tiles, ↓foldl_snd_tiles, ↓ite_tiles, ite_self, implies_true]

theorem State.beSend_tiles {c target cells ports f} : (s.beSend c target cells ports f).tiles = s.tiles := by
  simp only [State.beSend, ↓tiles_mk, ↓xp_tiles]

theorem State.beLost_tiles {c target seq} : (s.beLost c target seq).tiles = s.tiles := by
  simp only [State.beLost, ↓tiles_mk, ↓xp_tiles]

/-! ### Operands -/

theorem State.setDst_tiles {i d} : (s.setDst i d).tiles = s.tiles := by
  simp only [State.setDst, ↓tiles_mk, ↓xp_tiles]

/-! ### Rows of external memory -/

theorem State.rowsMoved_tiles {write bytes} : (s.rowsMoved write bytes).tiles = s.tiles := by
  simp only [State.rowsMoved, ↓fresh_tiles, ↓tiles_mk, ↓xp_tiles]

theorem State.foldCount_tiles {a} : (s.foldCount a).tiles = s.tiles := by
  unfold State.foldCount
  (repeat' split) <;> simp only [↓bump_tiles, ↓peak_tiles, ↓tiles_mk, ↓xp_tiles]

/-! ### Video probes -/

theorem State.probeOne_tiles {v ys} : (s.probeOne v ys).tiles = s.tiles := by
  simp only [State.probeOne, ↓set_tiles, ↓event_tiles, ↓ite_tiles, ↓tiles_mk, ↓xp_tiles, ite_self]

theorem State.measure_tiles {dest idx ys} : (s.measure dest idx ys).tiles = s.tiles := by
  simp only [State.measure, ↓probeOne_tiles, ↓foldl_tiles, ↓ite_tiles, ite_self, implies_true]

/-! ### Frame synchronisers and source frames -/

theorem State.countInner_tiles {key n inside} : (s.countInner key n inside).tiles = s.tiles := by
  simp only [State.countInner, ↓tiles_mk, ↓xp_tiles]

theorem State.freePic_tiles {format} : (s.freePic format).2.tiles = s.tiles := by
  simp only [State.freePic, ↓tiles_mk, ↓xp_tiles]

theorem State.countFrame_tiles {src f} : (s.countFrame src f).tiles = s.tiles := by
  simp only [State.countFrame, ↓countInner_tiles, ↓foldl_tiles, implies_true]

theorem State.joinFrame_tiles {src n a same m first pic anc} : (s.joinFrame src n a same m first pic anc).tiles = s.tiles := by
  unfold State.joinFrame
  dsimp only
  (repeat' split) <;> simp only [↓countFrame_tiles, ↓tiles_mk, ↓xp_tiles]

theorem State.amendFrame_tiles {src f} : (s.amendFrame src f).tiles = s.tiles := by
  fun_cases State.amendFrame <;> simp only [↓tiles_mk, ↓xp_tiles]

theorem State.amendAt_tiles {src n f} : (s.amendAt src n f).tiles = s.tiles := by
  fun_cases State.amendAt <;> simp only [↓tiles_mk, ↓xp_tiles]

theorem State.setRing_tiles {src r} : (s.setRing src r).tiles = s.tiles := by
  simp only [State.setRing, ↓tiles_mk, ↓xp_tiles]

theorem State.ringStore_tiles {src r sl} : (s.ringStore src r sl).tiles = s.tiles := by
  simp only [State.ringStore, ↓rowsMoved_tiles, ↓setRing_tiles, ↓ite_tiles, ite_self]

theorem State.ringWrite_tiles {src measured sl} : (s.ringWrite src measured sl).tiles = s.tiles := by
  fun_cases State.ringWrite <;> simp only [↓bump_tiles, ↓err_tiles, ↓ringStore_tiles]

theorem State.farWrite_tiles {src sl} : (s.farWrite src sl).tiles = s.tiles := by
  fun_cases State.farWrite <;> simp only [↓err_tiles, ↓ringStore_tiles]

theorem State.ringAmend_tiles {src f} : (s.ringAmend src f).tiles = s.tiles := by
  fun_cases State.ringAmend <;> simp only [↓setRing_tiles]

theorem State.ringAmendAt_tiles {src k f} : (s.ringAmendAt src k f).tiles = s.tiles := by
  fun_cases State.ringAmendAt <;> simp only [↓setRing_tiles]

theorem State.readSlot_tiles {src n f l sl} : (s.readSlot src n f l sl).tiles = s.tiles := by
  simp only [State.readSlot, ↓lostCells_tiles, ↓sendCells_tiles, ↓rowsMoved_tiles]

theorem State.selectFrame_tiles {src rate lines n f l} : (s.selectFrame src rate lines n f l).tiles = s.tiles := by
  unfold State.selectFrame
  (repeat' split) <;> simp only [↓bump_tiles, ↓setRing_tiles, ↓readSlot_tiles]

theorem State.setBanks_tiles {k b} : (s.setBanks k b).tiles = s.tiles := by
  simp only [State.setBanks, ↓tiles_mk, ↓xp_tiles]

theorem State.bankWrite_tiles {k n o v} : (s.bankWrite k n o v).tiles = s.tiles := by
  simp only [State.bankWrite, ↓rowsMoved_tiles, ↓setBanks_tiles, ↓ite_tiles, ↓tiles_mk, ↓xp_tiles, ite_self]

theorem State.bankClear_tiles {k n} : (s.bankClear k n).tiles = s.tiles := by
  simp only [State.bankClear, ↓setBanks_tiles, ↓tiles_mk, ↓xp_tiles]

theorem State.stillRead_tiles {i rate n} : (s.stillRead i rate n).tiles = s.tiles := by
  fun_cases State.stillRead <;> simp +zetaDelta only [↓sendCells_tiles, ↓rowsMoved_tiles, ↓setBanks_tiles]

/-! ### The reception of requests -/

theorem State.setBucket_tiles {b} : (s.setBucket b).tiles = s.tiles := by
  simp only [State.setBucket, ↓tiles_mk, ↓xp_tiles]

theorem State.spend_tiles {p pair} : (s.spend p pair).2.tiles = s.tiles := by
  simp only [State.spend, ↓setBucket_tiles, ↓ite_snd_tiles, ite_self]

theorem State.setSess_tiles {id f} : (s.setSess id f).tiles = s.tiles := by
  simp only [State.setSess, ↓tiles_mk, ↓xp_tiles]

theorem State.reply_tiles {r} : (s.reply r).tiles = s.tiles := by
  unfold State.reply
  split <;> simp only [↓sendVia_tiles, ↓setSess_tiles]

theorem State.refuse_tiles {r} : (s.refuse r).tiles = s.tiles := by
  fun_cases State.refuse <;> simp only [↓sendVia_tiles, ↓setSess_tiles]

theorem State.replyC_tiles {r} : (s.replyC r).tiles = s.tiles := by
  simp only [State.replyC, ↓tiles_mk, ↓xp_tiles]

theorem State.badValue_tiles {c typ} : (s.badValue c typ).tiles = s.tiles := by
  simp only [State.badValue, ↓reply_tiles]

theorem State.badState_tiles {c} : (s.badState c).tiles = s.tiles := by
  simp only [State.badState, ↓reply_tiles]

theorem State.busy_tiles {c retry} : (s.busy c retry).tiles = s.tiles := by
  simp only [State.busy, ↓reply_tiles]

theorem State.noSignal_tiles {c typ} : (s.noSignal c typ).tiles = s.tiles := by
  simp only [State.noSignal, ↓reply_tiles]

theorem State.ok_tiles {c ts} : (s.ok c ts).tiles = s.tiles := by
  simp only [State.ok, ↓reply_tiles]

theorem State.enqueue_tiles {c cmd} : (s.enqueue c cmd).tiles = s.tiles := by
  simp only [State.enqueue, ↓tiles_mk, ↓xp_tiles]

theorem State.handOff_tiles : s.handOff.tiles = s.tiles := by
  simp only [State.handOff, ↓bump_tiles, ↓dblSend_tiles, ↓ite_tiles, ite_self]

theorem State.rateBusy_tiles {tenant} : (s.rateBusy tenant).tiles = s.tiles := by
  simp only [State.rateBusy, ↓bump_tiles]

theorem State.rightsRefused_tiles {c m id w} : (s.rightsRefused c m id w).tiles = s.tiles := by
  simp only [State.rightsRefused, ↓bump_tiles, ↓event_tiles, ↓refuse_tiles]

theorem State.duplicate_tiles {c id} : (s.duplicate c id).tiles = s.tiles := by
  unfold State.duplicate
  split <;> simp only [↓bump_tiles, ↓spend_tiles, ↓refuse_tiles]

theorem State.dequeued_tiles {tenant n} : (s.dequeued tenant n).tiles = s.tiles := by
  simp only [State.dequeued, ↓bump_tiles, ↓set_tiles]

/-! A request that is refused leaves the tiles; one that is not runs its body on a state with the same tiles. So what holds of the tiles before the
request and after its body holds after the request. -/

theorem State.judge_tiles_of {P : List TileSt → Prop} {m c q ts lacks} {body : State → Ctx → State} (h₀ : P s.tiles)
    (h : ∀ u x, u.tiles = s.tiles → P (body u x).tiles) : P (s.judge m c q ts lacks body).tiles := by
  fun_cases State.judge
  case case5 =>
    refine h _ _ ?_
    simp +zetaDelta only [↓bump_tiles, ↓setSess_tiles, ↓tiles_mk, ↓xp_tiles]
  all_goals simp +zetaDelta only [↓bump_tiles, ↓refuse_tiles, ↓rightsRefused_tiles, ↓badValue_tiles, ↓badState_tiles, ↓setSess_tiles, ↓tiles_mk,
    ↓xp_tiles, h₀]

theorem State.fromQueue_tiles_of {P : List TileSt → Prop} {m c q lacks} {body : State → Ctx → State} (h₀ : P s.tiles)
    (h : ∀ u x, u.tiles = s.tiles → P (body u x).tiles) : P (s.fromQueue m c q lacks body).tiles := by
  fun_cases State.fromQueue
  case case3 u _ _ _ =>
    have hu : u.tiles = s.tiles := dequeued_tiles
    clear_value u
    exact judge_tiles_of (P := P) (hu ▸ h₀) fun v x hv => h v x (hv.trans hu)
  all_goals simp +zetaDelta only [↓bump_tiles, ↓refuse_tiles, ↓dequeued_tiles, h₀]

theorem State.request_tiles_of {P : List TileSt → Prop} {m q lacks} {body : State → Ctx → State} (h₀ : P s.tiles)
    (h : ∀ u x, u.tiles = s.tiles → P (body u x).tiles) : P (s.request m q lacks body).tiles := by
  fun_cases State.request
  case case1 => exact bump_tiles.symm ▸ h₀
  case case2 => exact handOff_tiles.symm ▸ h₀
  case case3 => rwa [bump_tiles, spend_tiles, setSess_tiles]
  case case4 => rwa [duplicate_tiles, setSess_tiles]
  case case5 hp _ _ => rwa [refuse_tiles, rateBusy_tiles, tiles_of_snd hp, spend_tiles, setSess_tiles]
  case case6 hp _ _ _ => rwa [refuse_tiles, rateBusy_tiles, set_tiles, tiles_of_snd hp, spend_tiles, setSess_tiles]
  case case7 u hp _ _ =>
    have hu : u.tiles = s.tiles := by rw [tiles_of_snd hp, spend_tiles, setSess_tiles]
    exact fromQueue_tiles_of (P := P) (hu ▸ h₀) fun v x hv => h v x (hv.trans hu)

theorem State.request_tiles {m q lacks} {body : State → Ctx → State} (h : ∀ u x, (body u x).tiles = u.tiles) :
    (s.request m q lacks body).tiles = s.tiles :=
  request_tiles_of (P := (· = s.tiles)) rfl fun u x hu => (h u x).trans hu

/-! ### The crosspoint -/

theorem State.cellBad_tiles {tile isl} : (s.cellBad tile isl).tiles = s.tiles := by
  simp only [State.cellBad, ↓bump_tiles, ↓err_tiles, ↓ite_tiles, ↓tiles_mk, ↓xp_tiles, ite_self]

theorem State.drainFailing_tiles {n} : (s.drainFailing n).tiles = s.tiles := by
  unfold State.drainFailing
  split <;> simp only [↓resolve_tiles, ↓ite_tiles, ↓tiles_mk, ↓xp_tiles, ite_self]

theorem State.noSpare_tiles {c} : (s.noSpare c).tiles = s.tiles := by
  simp only [State.noSpare, ↓bump_tiles, ↓reply_tiles]

theorem State.crcEnded_tiles {n} : (s.crcEnded n).tiles = s.tiles := by
  simp only [State.crcEnded, ↓resolve_tiles, ↓tiles_mk, ↓xp_tiles]

theorem State.beginReset_tiles {isl} : (s.beginReset isl).tiles = s.tiles := by
  simp only [State.beginReset, ↓set_tiles, ↓bump_tiles, ↓ite_tiles, ↓tiles_mk, ↓xp_tiles, ite_self]

theorem State.tileErr_tiles {n cause} : (s.tileErr n cause).tiles = s.tiles := by
  simp only [State.tileErr, ↓set_tiles, ↓ite_tiles, ite_self]

theorem State.tileFail_tiles_length {n cause a} : (s.tileFail n cause a).tiles.length = s.tiles.length := by
  unfold State.tileFail
  (repeat' split) <;> simp only [↓latch_tiles, ↓hold_tiles, ↓resolve_tiles, ↓react_tiles, ↓setTile_tiles, ↓crcEnded_tiles, ↓beginReset_tiles,
    ↓tileErr_tiles, ↓ite_tiles, ↓tiles_mk, ↓xp_tiles, List.length_set, ite_self]

theorem State.tileDone_tiles_length {n good} : (s.tileDone n good).tiles.length = s.tiles.length := by
  simp only [State.tileDone, ↓set_tiles, ↓clearWindow_tiles, ↓event_tiles, ↓resolve_tiles, ↓setTile_tiles, ↓ite_tiles, apply_ite List.length,
    List.length_set, ite_self]

theorem State.endTwoOut_tiles : s.endTwoOut.tiles = s.tiles := by
  simp only [State.endTwoOut, ↓resolve_tiles, ↓foldl_tiles, ↓ite_tiles, ite_self, implies_true]

theorem State.drainHeld_tiles : s.drainHeld.tiles = s.tiles := by
  fun_cases State.drainHeld <;> simp only [↓drainFailing_tiles]

/-! ### Faults found by the chip -/

theorem State.errorEffect_tiles {f} : (s.errorEffect f).tiles = s.tiles := by
  unfold State.errorEffect
  dsimp only
  (repeat' split) <;> simp only [↓bump_tiles, ↓fresh_tiles, ↓sendVia_tiles, ↓endSession_tiles, ↓tiles_mk, ↓xp_tiles]

theorem State.logLost_tiles {cause offset} : (s.logLost cause offset).tiles = s.tiles := by
  simp only [State.logLost, ↓set_tiles, ↓event_tiles, ↓fltSync_tiles, ↓capture_tiles, ↓tiles_mk, ↓xp_tiles]

theorem State.ringHit_tiles {addr} : (s.ringHit addr).tiles = s.tiles := by
  simp only [State.ringHit, ↓fresh_tiles, ↓logLost_tiles, ↓ite_tiles, ↓tiles_mk, ↓xp_tiles, ite_self]

theorem State.matrixResponse_tiles {resp typ master addr} : (s.matrixResponse resp typ master addr).tiles = s.tiles := by
  simp only [State.matrixResponse, ↓set_tiles, ↓bump_tiles, ↓err_tiles, ↓ite_tiles, ite_self]

theorem State.sensor_tiles {i r} : (s.sensor i r).tiles = s.tiles := by
  fun_cases State.sensor <;> simp only [↓set_tiles, ↓err_tiles, ↓tiles_mk, ↓xp_tiles]

theorem State.heat_tiles {top} : (s.heat top).tiles = s.tiles := by
  simp only [State.heat, ↓tiles_mk, ↓xp_tiles]

theorem State.temperature_tiles {readings} : (s.temperature readings).tiles = s.tiles := by
  fun_cases State.temperature <;> simp +zetaDelta only [↓set_tiles, ↓err_tiles, ↓errDone_tiles, ↓sensor_tiles, ↓heat_tiles, ↓foldl_tiles,
    ↓ite_tiles, ite_self, implies_true]

/-! ### External memory -/

theorem State.setMask_tiles {m} : (s.setMask m).tiles = s.tiles := by
  simp only [State.setMask, ↓set_tiles, ↓foldl_tiles, ↓ite_tiles, ↓tiles_mk, ↓xp_tiles, ite_self, implies_true]

theorem State.tierMask_tiles : s.tierMask.tiles = s.tiles := by
  simp only [State.tierMask, ↓setMask_tiles]

theorem State.tierOpen_tiles : s.tierOpen.tiles = s.tiles := by
  simp only [State.tierOpen, ↓setMask_tiles]

theorem State.dramError_tiles {lp unc addr} : (s.dramError lp unc addr).tiles = s.tiles := by
  simp only [State.dramError, ↓set_tiles, ↓bump_tiles, ↓err_tiles, ↓errNamed_tiles, ↓ite_tiles, ite_self]

theorem State.rowOpened_tiles {lp addr} : (s.rowOpened lp addr).tiles = s.tiles := by
  simp only [State.rowOpened, ↓ite_tiles, ↓tiles_mk, ↓xp_tiles, ite_self]

theorem State.changeTo_tiles {p b late} : (s.changeTo p b late).tiles = s.tiles := by
  simp only [State.changeTo, ↓set_tiles, ↓tiles_mk, ↓xp_tiles]

theorem State.selectPoint_tiles {booked b} : (s.selectPoint booked b).tiles = s.tiles := by
  simp only [State.selectPoint, ↓changeTo_tiles, ↓ite_tiles, ↓tiles_mk, ↓xp_tiles, ite_self]

theorem State.movePoint_tiles {p} : (s.movePoint p).tiles = s.tiles := by
  simp only [State.movePoint, ↓set_tiles, ↓bump_tiles, ↓foldl_tiles, ↓tiles_mk, ↓xp_tiles, implies_true]

theorem State.pointLate_tiles : s.pointLate.tiles = s.tiles := by
  fun_cases State.pointLate <;> simp only [↓raise_tiles, ↓tiles_mk, ↓xp_tiles]

theorem State.loadStill_tiles {i} : (s.loadStill i).tiles = s.tiles := by
  simp only [State.loadStill, ↓setBanks_tiles, ↓bankWrite_tiles, ↓bankClear_tiles, ↓foldl_tiles, ↓ite_tiles, ite_self, implies_true]

theorem State.loadSafety_tiles {h} : (s.loadSafety h).tiles = s.tiles := by
  simp only [State.loadSafety, ↓tiles_mk, ↓xp_tiles]

theorem State.loseBobbins_tiles : s.loseBobbins.tiles = s.tiles := by
  simp only [State.loseBobbins, ↓tiles_mk, ↓xp_tiles]

theorem State.recoverBobbins_tiles : s.recoverBobbins.tiles = s.tiles := by
  simp only [State.recoverBobbins, ↓set_tiles, ↓event_tiles, ↓loadStill_tiles, ↓loadSafety_tiles, ↓foldl_tiles, ↓ite_tiles, ite_self, implies_true]

theorem State.dgDown_tiles {g cause} : (s.dgDown g cause).tiles = s.tiles := by
  simp only [State.dgDown, ↓set_tiles, ↓clearWindow_tiles, ↓resolve_tiles, ↓raise_tiles, ↓beginReset_tiles, ↓loseBobbins_tiles, ↓ite_tiles,
    ↓tiles_mk, ↓xp_tiles, ite_self]

theorem State.dgUp_tiles {g good} : (s.dgUp g good).tiles = s.tiles := by
  fun_cases State.dgUp <;> simp +zetaDelta only [↓set_tiles, ↓resolve_tiles, ↓err_tiles, ↓movePoint_tiles, ↓loseBobbins_tiles,
    ↓recoverBobbins_tiles]

/-! ### Ports -/

theorem State.setPort_tiles {p x} : (s.setPort p x).tiles = s.tiles := by
  simp only [State.setPort, ↓tiles_mk, ↓xp_tiles]

theorem State.portOn_tiles {p} : (s.portOn p).tiles = s.tiles := by
  simp only [State.portOn, ↓set_tiles, ↓emit_tiles]

theorem State.sendEth_tiles {p f} : (s.sendEth p f).tiles = s.tiles := by
  simp only [State.sendEth, ↓bump_tiles, ↓bump64_tiles, ↓fresh_tiles, ↓emit_tiles, ↓ite_tiles, ite_self]

theorem State.sendBe_tiles {p lens} : (s.sendBe p lens).tiles = s.tiles := by
  simp only [State.sendBe, ↓bump_tiles, ↓bump64_tiles, ↓emit_tiles, ↓foldl_tiles, ↓ite_tiles, ite_self, implies_true]

theorem State.resume_tiles {p q} : (s.resume p q).tiles = s.tiles := by
  simp only [State.resume, ↓set_tiles, ↓setPort_tiles, ↓sendBe_tiles]

theorem State.pausesEnd_tiles {p} : (s.pausesEnd p).tiles = s.tiles := by
  simp only [State.pausesEnd, ↓resume_tiles, ↓foldl_tiles, implies_true]

theorem State.pauseQueue_tiles {p q quanta} : (s.pauseQueue p q quanta).tiles = s.tiles := by
  simp only [State.pauseQueue, ↓set_tiles, ↓setPort_tiles, ↓resume_tiles, ↓ite_tiles, ite_self]

theorem State.pauseFrame_tiles {p body} : (s.pauseFrame p body).tiles = s.tiles := by
  unfold State.pauseFrame
  dsimp only
  split
  · split <;> simp only [↓foldl_tiles, ↓pauseQueue_tiles, ↓bump_tiles, implies_true]
  · split
    · refine (foldl_tiles fun s q => ?_).trans bump_tiles
      split <;> simp only [↓pauseQueue_tiles]
    · exact bump_tiles
  · exact bump_tiles

theorem State.forwardBe_tiles {p f} : (s.forwardBe p f).tiles = s.tiles := by
  simp only [State.forwardBe, ↓bump_tiles, ↓setPort_tiles, ↓sendBe_tiles, ↓pausesEnd_tiles, ↓ite_tiles, ite_self]

theorem State.phyCounts_tiles {p cor unc err} : (s.phyCounts p cor unc err).tiles = s.tiles := by
  simp only [State.phyCounts, ↓bump_tiles, ↓fresh_tiles, ↓foldl_tiles, ↓ite_tiles, ite_self, implies_true]

theorem State.ctrlMeter_tiles {p len} : (s.ctrlMeter p len).2.tiles = s.tiles := by
  simp only [State.ctrlMeter, ↓bump_tiles, ↓setPort_tiles, ↓ite_snd_tiles, ite_self]

theorem State.answer_tiles {p f} : (s.answer p f).tiles = s.tiles := by
  fun_cases State.answer <;> simp only [↓sendEth_tiles]

theorem State.setPortState_tiles {p st} : (s.setPortState p st).tiles = s.tiles := by
  simp only [State.setPortState, ↓set_tiles, ↓bump_tiles, ↓event_tiles, ↓pausesEnd_tiles, ↓ite_tiles, ite_self]

theorem State.laneFlags_tiles {p sig cdr lock} : (s.laneFlags p sig cdr lock).tiles = s.tiles := by
  simp only [State.laneFlags, ↓set_tiles, ↓foldl_tiles, implies_true]

theorem State.cut_tiles {p cut} : (s.cut p cut).tiles = s.tiles := by
  simp only [State.cut, ↓bump_tiles]

theorem State.lanesLost_tiles {p} : (s.lanesLost p).tiles = s.tiles := by
  simp only [State.lanesLost, ↓set_tiles, ↓fresh_tiles, ↓foldl_tiles, ↓ite_tiles, ite_self, implies_true]

theorem State.readCounter_tiles {p i} : (s.readCounter p i).tiles = s.tiles := by
  simp only [State.readCounter, ↓set_tiles, ↓setPort_tiles, ↓ite_tiles, ↓tiles_mk, ↓xp_tiles, ite_self]

theorem State.halfClear_tiles {p w} : (s.halfClear p w).tiles = s.tiles := by
  simp only [State.halfClear, ↓setPort_tiles]

/-! ### The Whorl -/

theorem State.whlShow_tiles : s.whlShow.tiles = s.tiles := by
  simp only [State.whlShow, ↓set_tiles, ↓foldl_tiles, implies_true]

theorem State.foldPulse_tiles {k t} : (s.foldPulse k t).tiles = s.tiles := by
  unfold State.foldPulse
  split <;> simp only [↓bump_tiles, ↓tiles_mk, ↓xp_tiles]

theorem State.pulseShow_tiles : s.pulseShow.tiles = s.tiles := by
  simp only [State.pulseShow, ↓set_tiles, ↓foldPulse_tiles, ↓foldl_tiles, ↓ite_tiles, ↓tiles_mk, ↓xp_tiles, ite_self, implies_true]

theorem State.pulseStop_tiles : s.pulseStop.tiles = s.tiles := by
  simp only [State.pulseStop, ↓foldPulse_tiles, ↓foldl_tiles, ↓tiles_mk, ↓xp_tiles, implies_true]

theorem State.setWhl_tiles {new} : (s.setWhl new).tiles = s.tiles := by
  simp only [State.setWhl, ↓set_tiles, ↓event_tiles, ↓resolve_tiles, ↓raise_tiles, ↓whlShow_tiles, ↓pulseShow_tiles, ↓ite_tiles, ↓tiles_mk,
    ↓xp_tiles, ite_self]

theorem State.whlNone_tiles : s.whlNone.tiles = s.tiles := by
  simp only [State.whlNone, ↓setWhl_tiles, ↓ite_tiles, ite_self]

theorem State.whlNew_tiles : s.whlNew.tiles = s.tiles := by
  simp only [State.whlNew, ↓setWhl_tiles, ↓ite_tiles, ↓tiles_mk, ↓xp_tiles, ite_self]

theorem State.utcTake_tiles : s.utcTake.tiles = s.tiles := by
  fun_cases State.utcTake <;> simp only [↓tiles_mk, ↓xp_tiles]

theorem State.switchRef_tiles {r} : (s.switchRef r).tiles = s.tiles := by
  unfold State.switchRef
  (repeat' split) <;> simp only [↓bump_tiles, ↓event_tiles, ↓whlShow_tiles, ↓whlNone_tiles, ↓whlNew_tiles, ↓utcTake_tiles, ↓tiles_mk, ↓xp_tiles]

theorem State.reselect_tiles : s.reselect.tiles = s.tiles := by
  fun_cases State.reselect <;> simp only [↓switchRef_tiles]

theorem State.setInst_tiles {d x} : (s.setInst d x).tiles = s.tiles := by
  simp only [State.setInst, ↓ite_tiles, ↓tiles_mk, ↓xp_tiles, ite_self]

theorem State.seeRef_tiles {r} : (s.seeRef r).tiles = s.tiles := by
  simp only [State.seeRef, ↓tiles_mk, ↓xp_tiles]

theorem State.qualify_tiles {r} : (s.qualify r).tiles = s.tiles := by
  simp only [State.qualify, ↓set_tiles, ↓whlShow_tiles, ↓reselect_tiles, ↓seeRef_tiles, ↓tiles_mk, ↓xp_tiles]

theorem State.disqualify_tiles {r} : (s.disqualify r).tiles = s.tiles := by
  simp only [State.disqualify, ↓set_tiles, ↓bump_tiles, ↓whlShow_tiles, ↓reselect_tiles, ↓ite_tiles, ↓tiles_mk, ↓xp_tiles, ite_self]

theorem State.annTimeout_tiles {d} : (s.annTimeout d).tiles = s.tiles := by
  simp only [State.annTimeout, ↓setInst_tiles, ↓bump_tiles]

theorem State.bmca_tiles {d} : (s.bmca d).tiles = s.tiles := by
  simp only [State.bmca, ↓setInst_tiles, ↓disqualify_tiles, ↓ite_tiles, ite_self]

theorem State.ptpShow_tiles {d} : (s.ptpShow d).tiles = s.tiles := by
  simp only [State.ptpShow, ↓set_tiles, ↓utcTake_tiles, ↓ite_tiles, ite_self]

theorem State.utcShow_tiles : s.utcShow.tiles = s.tiles := by
  simp only [State.utcShow, ↓set_tiles]

theorem State.ptpOffset_tiles {d raw} : (s.ptpOffset d raw).tiles = s.tiles := by
  simp only [State.ptpOffset, ↓bump_tiles, ↓setInst_tiles, ↓tiles_mk, ↓xp_tiles]

theorem State.ptpMs_tiles {d p t1 t2} : (s.ptpMs d p t1 t2).tiles = s.tiles := by
  simp only [State.ptpMs, ↓setInst_tiles, ↓bump_tiles, ↓ptpOffset_tiles]

theorem State.ptpOne_tiles {d p asym m} : (s.ptpOne d p asym m).tiles = s.tiles := by
  fun_cases State.ptpOne <;> simp +zetaDelta only [↓bump_tiles, ↓sendEth_tiles, ↓setInst_tiles, ↓bmca_tiles, ↓ptpShow_tiles, ↓utcShow_tiles,
    ↓ptpMs_tiles, ↓ite_tiles, ite_self]

theorem State.ptpRx_tiles {p m} : (s.ptpRx p m).tiles = s.tiles := by
  fun_cases State.ptpRx <;> simp only [↓bump_tiles, ↓seeRef_tiles, ↓ptpOne_tiles, ↓foldl_tiles, implies_true]

theorem State.writeNco_tiles {w} : (s.writeNco w).tiles = s.tiles := by
  simp only [State.writeNco, ↓err_tiles, ↓errDone_tiles, ↓ite_tiles, ↓tiles_mk, ↓xp_tiles, ite_self]

theorem State.lockSpans_tiles : s.lockSpans.tiles = s.tiles := by
  fun_cases State.lockSpans <;> simp only [↓tiles_mk, ↓xp_tiles]

theorem State.recount_tiles {d} : (s.recount d).tiles = s.tiles := by
  simp only [State.recount, ↓tiles_mk, ↓xp_tiles]

theorem State.setTime_tiles {t} : (s.setTime t).tiles = s.tiles := by
  simp only [State.setTime, ↓recount_tiles, ↓tiles_mk, ↓xp_tiles]

theorem State.firstTime_tiles : s.firstTime.tiles = s.tiles := by
  fun_cases State.firstTime <;> simp +zetaDelta only [↓setTime_tiles, ↓tiles_mk, ↓xp_tiles]

theorem State.phaseStep_tiles : s.phaseStep.tiles = s.tiles := by
  unfold State.phaseStep
  split <;> simp only [↓setTime_tiles, ↓tiles_mk, ↓xp_tiles]

theorem State.ptpStep_tiles : s.ptpStep.tiles = s.tiles := by
  unfold State.ptpStep
  split <;> simp only [↓setTime_tiles, ↓phaseStep_tiles, ↓tiles_mk, ↓xp_tiles]

theorem State.whlDown_tiles : s.whlDown.tiles = s.tiles := by
  simp only [State.whlDown, ↓clearWindow_tiles, ↓quietAll_tiles, ↓raise_tiles, ↓beginReset_tiles, ↓pulseShow_tiles, ↓ite_tiles, ↓tiles_mk,
    ↓xp_tiles, ite_self]

theorem State.whlUp_tiles {good} : (s.whlUp good).tiles = s.tiles := by
  simp only [State.whlUp, ↓set_tiles, ↓resolve_tiles, ↓f4_tiles, ↓whlShow_tiles, ↓firstTime_tiles, ↓ite_tiles, ite_self]

/-! ### Sessions and requests of chip scope -/

theorem State.authFail_tiles {reason peer} : (s.authFail reason peer).tiles = s.tiles := by
  simp only [State.authFail, ↓event_tiles]

theorem State.hsFail_tiles {h alert} : (s.hsFail h alert).tiles = s.tiles := by
  simp only [State.hsFail, ↓bump_tiles, ↓sendVia_tiles]

theorem State.hsDrop_tiles {h} : (s.hsDrop h).tiles = s.tiles := by
  simp only [State.hsDrop, ↓bump_tiles, ↓sendVia_tiles]

theorem State.openSession_tiles {h tenant princ} : (s.openSession h tenant princ).tiles = s.tiles := by
  simp only [State.openSession, ↓bump_tiles, ↓freshNot_tiles, ↓sendVia_tiles, ↓sessShow_tiles, ↓tiles_mk, ↓xp_tiles]

theorem State.handshake_tiles {h} : (s.handshake h).tiles = s.tiles := by
  fun_cases State.handshake <;> simp only [↓authFail_tiles, ↓hsFail_tiles, ↓hsDrop_tiles, ↓openSession_tiles]

theorem State.authenticated_tiles {c} : (s.authenticated c).tiles = s.tiles := by
  simp only [State.authenticated, ↓setSess_tiles, ↓spend_tiles]

theorem State.clearIsland_tiles {n} : (s.clearIsland n).tiles = s.tiles := by
  simp only [State.clearIsland, ↓set_tiles, ↓event_tiles, ↓latch_tiles, ↓ite_tiles, ↓tiles_mk, ↓xp_tiles, ite_self]

theorem State.clearCapture_tiles : s.clearCapture.tiles = s.tiles := by
  simp only [State.clearCapture, ↓set_tiles, ↓foldl_tiles, implies_true]

theorem State.faultClear_tiles {m} : (s.faultClear m).tiles = s.tiles := by
  simp only [State.faultClear, ↓set_tiles, ↓event_tiles, ↓fltSync_tiles, ↓capture_tiles, ↓clearIsland_tiles, ↓clearCapture_tiles, ↓foldl_tiles,
    ↓ite_tiles, ↓tiles_mk, ↓xp_tiles, ite_self, implies_true]

theorem State.newHandle_tiles : (s.newHandle).2.tiles = s.tiles := by
  simp only [State.newHandle, ↓freshNot_tiles]

/-! ### Keys and the always-on domain -/

theorem State.setKslot_tiles {k x} : (s.setKslot k x).tiles = s.tiles := by
  simp only [State.setKslot, ↓tiles_mk, ↓xp_tiles]

theorem State.consumers_tiles : s.consumers.tiles = s.tiles := by
  simp only [State.consumers, ↓resolve_tiles, ↓raise_tiles, ↓ite_tiles, ↓tiles_mk, ↓xp_tiles, ite_self]

theorem State.unusableAll_tiles : s.unusableAll.tiles = s.tiles := by
  simp only [State.unusableAll, ↓tiles_mk, ↓xp_tiles]

theorem State.drawHalf_tiles : s.drawHalf.tiles = s.tiles := by
  simp only [State.drawHalf, ↓tiles_mk, ↓xp_tiles]

theorem State.loadSlots_tiles : s.loadSlots.tiles = s.tiles := by
  simp only [State.loadSlots, ↓tiles_mk, ↓xp_tiles]

theorem State.emptySlot_tiles {k} : (s.emptySlot k).tiles = s.tiles := by
  simp only [State.emptySlot, ↓bump_tiles, ↓setKslot_tiles, ↓ite_tiles, ite_self]

theorem State.emptySlots_tiles {p} : (s.emptySlots p).tiles = s.tiles := by
  simp only [State.emptySlots, ↓emptySlot_tiles, ↓foldl_tiles, ↓ite_tiles, ite_self, implies_true]

theorem State.keyReady_tiles {c body} (h : ∀ s, (body s).tiles = s.tiles) : (s.keyReady c body).tiles = s.tiles := by
  fun_cases State.keyReady <;> simp only [↓busy_tiles, ↓badState_tiles, ↓h]

theorem State.fillSlot_tiles {k use origin kind} : (s.fillSlot k use origin kind).tiles = s.tiles := by
  simp only [State.fillSlot, ↓fresh_tiles, ↓setKslot_tiles, ↓consumers_tiles]

theorem State.unwrap_tiles {c k use w good} : (s.unwrap c k use w good).tiles = s.tiles := by
  simp only [State.unwrap, ↓bump_tiles, ↓badValue_tiles, ↓ok_tiles, ↓setKslot_tiles, ↓fillSlot_tiles, ↓ite_tiles, ite_self]

theorem State.lifeEffects_tiles {to_} : (s.lifeEffects to_).tiles = s.tiles := by
  simp only [State.lifeEffects, ↓set_tiles, ↓drawHalf_tiles, ↓emptySlots_tiles, ↓ite_tiles, ↓tiles_mk, ↓xp_tiles, ite_self]

theorem State.aonLost_tiles {code detail} : (s.aonLost code detail).tiles = s.tiles := by
  simp only [State.aonLost, ↓set_tiles, ↓event_tiles, ↓fltSync_tiles, ↓capture_tiles]

theorem State.rtcSeconds_tiles : (s.rtcSeconds).2.tiles = s.tiles := by
  fun_cases State.rtcSeconds <;> simp only [↓fresh_tiles]

theorem State.keyDown_tiles : s.keyDown.tiles = s.tiles := by
  simp only [State.keyDown, ↓clearWindow_tiles, ↓tiles_mk, ↓xp_tiles]

theorem State.keyUp_tiles : s.keyUp.tiles = s.tiles := by
  simp only [State.keyUp, ↓errDone_tiles, ↓consumers_tiles, ↓drawHalf_tiles, ↓loadSlots_tiles, ↓ite_tiles, ↓tiles_mk, ↓xp_tiles, ite_self]

/-! ### The journal and the log in the memory -/

theorem State.journalShow_tiles : s.journalShow.tiles = s.tiles := by
  simp only [State.journalShow, ↓set_tiles]

theorem State.journalAdd_tiles {i} : (s.journalAdd i).tiles = s.tiles := by
  simp only [State.journalAdd, ↓bump_tiles, ↓journalShow_tiles, ↓ite_tiles, ↓tiles_mk, ↓xp_tiles, ite_self]

theorem State.beginCheckpoint_tiles {items} : (s.beginCheckpoint items).tiles = s.tiles := by
  simp only [State.beginCheckpoint, ↓journalShow_tiles, ↓tiles_mk, ↓xp_tiles]

theorem State.putRecord_tiles {b ckpt t whole} : (s.putRecord b ckpt t whole).tiles = s.tiles := by
  simp only [State.putRecord, ↓tiles_mk, ↓xp_tiles]

theorem State.recordDone_tiles {b} : (s.recordDone b).tiles = s.tiles := by
  unfold State.recordDone
  dsimp only
  (repeat' split) <;> simp only [↓bump_tiles, ↓journalShow_tiles, ↓tiles_mk, ↓xp_tiles]

theorem State.xrdOpen_tiles {len} : (s.xrdOpen len).tiles = s.tiles := by
  simp only [State.xrdOpen, ↓set_tiles, ↓ite_tiles, ↓tiles_mk, ↓xp_tiles, ite_self]

theorem State.xrdNext_tiles : (s.xrdNext).2.tiles = s.tiles := by
  fun_cases State.xrdNext <;> simp only [↓set_tiles, ↓ite_tiles, ↓tiles_mk, ↓xp_tiles, ite_self]

theorem State.bootDown_tiles : s.bootDown.tiles = s.tiles := by
  simp only [State.bootDown, ↓journalShow_tiles, ↓stageShow_tiles, ↓stageDiscard_tiles, ↓tiles_mk, ↓xp_tiles]

/-! ### The evacuation override -/

theorem State.evacShow_tiles : s.evacShow.tiles = s.tiles := by
  simp only [State.evacShow, ↓set_tiles, ↓ite_tiles, ite_self]

theorem State.evacReport_tiles : s.evacReport.tiles = s.tiles := by
  simp only [State.evacReport, ↓dblSend_tiles, ↓ite_tiles, ite_self]

theorem State.evacAssert_tiles {count} : (s.evacAssert count).tiles = s.tiles := by
  simp only [State.evacAssert, ↓bump_tiles, ↓ite_tiles, ↓tiles_mk, ↓xp_tiles, ite_self]

theorem State.latchDisc_tiles {a b} : (s.latchDisc a b).tiles = s.tiles := by
  simp only [State.latchDisc, ↓bump_tiles, ↓raise_tiles, ↓tiles_mk, ↓xp_tiles]

theorem State.evacStep_tiles {a b} : (s.evacStep a b).tiles = s.tiles := by
  unfold State.evacStep
  split <;> simp only [↓event_tiles, ↓evacAssert_tiles, ↓latchDisc_tiles, ↓ite_tiles, ↓tiles_mk, ↓xp_tiles, ite_self]

theorem State.twinEvac_tiles {st disc low} : (s.twinEvac st disc low).tiles = s.tiles := by
  simp only [State.twinEvac, ↓event_tiles, ↓evacShow_tiles, ↓ite_tiles, ↓tiles_mk, ↓xp_tiles, ite_self]

theorem State.evacCleared_tiles {princ} : (s.evacCleared princ).tiles = s.tiles := by
  simp only [State.evacCleared, ↓event_tiles, ↓resolve_tiles, ↓evacShow_tiles, ↓evacReport_tiles, ↓ite_tiles, ↓tiles_mk, ↓xp_tiles, ite_self]

/-! ### IP flows -/

theorem State.flowShow_tiles {i} : (s.flowShow i).tiles = s.tiles := by
  simp only [State.flowShow, ↓set_tiles]

theorem State.setFlow_tiles {i x} : (s.setFlow i x).tiles = s.tiles := by
  simp only [State.setFlow, ↓flowShow_tiles, ↓tiles_mk, ↓xp_tiles]

theorem State.setTable_tiles {c t} : (s.setTable c t).tiles = s.tiles := by
  simp only [State.setTable, ↓set_tiles, ↓tiles_mk, ↓xp_tiles]

theorem State.placeEntry_tiles {k w on} : (s.placeEntry k w on).2.tiles = s.tiles := by
  unfold State.placeEntry
  dsimp only
  split <;> simp only [↓bump_tiles, ↓setTable_tiles, ↓tiles_mk, ↓xp_tiles]

theorem State.removeLeg_tiles {c flow leg on} : (s.removeLeg c flow leg on).tiles = s.tiles := by
  simp only [State.removeLeg, ↓setTable_tiles]

theorem State.enableLeg_tiles {c flow leg} : (s.enableLeg c flow leg).tiles = s.tiles := by
  simp only [State.enableLeg, ↓setTable_tiles]

theorem State.sendReport_tiles {p r} : (s.sendReport p r).tiles = s.tiles := by
  simp only [State.sendReport, ↓bump_tiles, ↓sendEth_tiles]

theorem State.changeReport_tiles {k saddr ssm leave} : (s.changeReport k saddr ssm leave).tiles = s.tiles := by
  simp only [State.changeReport, ↓sendReport_tiles, ↓ite_tiles, ↓tiles_mk, ↓xp_tiles, ite_self]

theorem State.joinLeg_tiles {k saddr ssm} : (s.joinLeg k saddr ssm).tiles = s.tiles := by
  simp only [State.joinLeg, ↓changeReport_tiles, ↓ite_tiles, ite_self]

theorem State.leaveLeg_tiles {k saddr ssm} : (s.leaveLeg k saddr ssm).tiles = s.tiles := by
  simp only [State.leaveLeg, ↓changeReport_tiles, ↓ite_tiles, ite_self]

theorem State.membershipQuery_tiles {p v6 version group sources} : (s.membershipQuery p v6 version group sources).tiles = s.tiles := by
  simp only [State.membershipQuery, ↓bump_tiles, ↓sendReport_tiles, ↓foldl_tiles, ↓ite_tiles, ↓tiles_mk, ↓xp_tiles, ite_self, implies_true]

theorem State.ownLeg_tiles {i k o} : (s.ownLeg i k o).tiles = s.tiles := by
  simp only [State.ownLeg, ↓setFlow_tiles]

theorem State.joinFlow_tiles {i} : (s.joinFlow i).tiles = s.tiles := by
  simp only [State.joinFlow, ↓setFlow_tiles, ↓joinLeg_tiles, ↓foldl_tiles, ↓ite_tiles, ite_self, implies_true]

theorem State.flowStops_tiles {i} : (s.flowStops i).tiles = s.tiles := by
  simp only [State.flowStops, ↓set_tiles, ↓ite_tiles, ite_self]

theorem State.leaveFlow_tiles {i} : (s.leaveFlow i).tiles = s.tiles := by
  simp only [State.leaveFlow, ↓setFlow_tiles, ↓leaveLeg_tiles, ↓flowStops_tiles, ↓foldl_tiles, ↓ite_tiles, ite_self, implies_true]

theorem State.placeFlow_tiles {i x} : (s.placeFlow i x).tiles = s.tiles := by
  fun_cases State.placeFlow
  case case1 hp _ =>
    rw [setFlow_tiles, tiles_of_snd hp]
    refine foldl_snd_tiles fun b k => ?_
    split <;> simp only [↓placeEntry_tiles]
  case case2 hp _ _ _ =>
    rw [event_tiles, foldl_tiles fun s k => removeLeg_tiles, setFlow_tiles, tiles_of_snd hp]
    refine foldl_snd_tiles fun b k => ?_
    split <;> simp only [↓placeEntry_tiles]

theorem State.joinPlaced_tiles {i} : (s.joinPlaced i).tiles = s.tiles := by
  simp only [State.joinPlaced, ↓joinFlow_tiles, ↓ite_tiles, ite_self]

theorem State.flowStart_tiles : s.flowStart.tiles = s.tiles := by
  simp only [State.flowStart, ↓placeEntry_tiles, ↓placeFlow_tiles, ↓joinPlaced_tiles, ↓ite_snd_tiles, ↓foldl_snd_tiles, ite_self, implies_true]

theorem State.buildTable_tiles {c l} : (s.buildTable c l).tiles = s.tiles := by
  unfold State.buildTable
  refine (foldl_tiles fun s e => ?_).trans setTable_tiles
  split <;> rename_i h
  · exact (tiles_of_snd h).trans placeEntry_tiles
  · split <;> simp only [↓event_tiles, ↓setFlow_tiles, ↓tiles_of_snd h, ↓placeEntry_tiles]

theorem State.flowRebuild_tiles {c} : (s.flowRebuild c).tiles = s.tiles := by
  simp only [State.flowRebuild, ↓setFlow_tiles, ↓joinFlow_tiles, ↓buildTable_tiles, ↓foldl_tiles, implies_true]

theorem State.bindPlaced_tiles : s.bindPlaced.tiles = s.tiles := by
  simp only [State.bindPlaced, ↓setFlow_tiles, ↓joinPlaced_tiles, ↓foldl_tiles, implies_true]

theorem State.takeTable_tiles {key entries legs} : (s.takeTable key entries legs).tiles = s.tiles := by
  simp only [State.takeTable, ↓setFlow_tiles, ↓joinFlow_tiles, ↓leaveFlow_tiles, ↓buildTable_tiles, ↓bindPlaced_tiles, ↓foldl_tiles, ↓ite_tiles,
    ↓tiles_mk, ↓xp_tiles, ite_self, implies_true]

theorem State.flowInsert_tiles {i ch} : (s.flowInsert i ch).2.tiles = s.tiles := by
  simp only [State.flowInsert, ↓bump_tiles, ↓placeEntry_tiles, ↓removeLeg_tiles, ↓ite_snd_tiles, ↓foldl_tiles, ↓foldl_snd_tiles, ite_self,
    implies_true]

theorem State.flowSetApply_tiles {i legs at_} : (s.flowSetApply i legs at_).tiles = s.tiles := by
  simp only [State.flowSetApply, ↓setFlow_tiles, ↓joinLeg_tiles, ↓flowInsert_tiles, ↓foldl_tiles, ↓ite_tiles, ite_self, implies_true]

theorem State.flowBad_tiles {i} : (s.flowBad i).tiles = s.tiles := by
  simp only [State.flowBad, ↓amendFrame_tiles, ↓foldl_tiles, implies_true]

theorem State.flowSwitch_tiles {i} : (s.flowSwitch i).tiles = s.tiles := by
  unfold State.flowSwitch
  simp only [↓joinPlaced_tiles, ↓foldl_tiles, ↓leaveLeg_tiles, ↓setFlow_tiles, ↓ite_tiles, ite_self, implies_true]
  refine (foldl_tiles fun s k => ?_).trans ?_
  · split <;> simp only [↓enableLeg_tiles, ↓removeLeg_tiles]
  · simp only [↓ite_tiles, ↓flowBad_tiles, ite_self]

theorem State.flowBoundary_tiles : s.flowBoundary.tiles = s.tiles := by
  unfold State.flowBoundary
  refine foldl_tiles fun s x => ?_
  dsimp only
  (repeat' split) <;> simp only [↓bump_tiles, ↓setFlow_tiles, ↓ownLeg_tiles, ↓flowSwitch_tiles, ↓foldl_tiles, ↓ite_tiles, ite_self, implies_true]

/-! ### Received frames -/

theorem State.flowChecks_tiles {i mask} : (s.flowChecks i mask).tiles = s.tiles := by
  simp only [State.flowChecks, ↓set_tiles, ↓event_tiles, ↓setFlow_tiles, ↓ite_tiles, ite_self]

theorem State.flowFrameTo_tiles {i c v f src num} : (s.flowFrameTo i c v f src num).tiles = s.tiles := by
  unfold State.flowFrameTo
  dsimp only
  (repeat' split) <;> simp only [↓set_tiles, ↓measure_tiles, ↓amendAt_tiles, ↓ringAmendAt_tiles]

theorem State.flowFrameDone_tiles {i v f} : (s.flowFrameDone i v f).tiles = s.tiles := by
  unfold State.flowFrameDone
  split <;> simp only [↓set_tiles, ↓bump_tiles, ↓peak_tiles, ↓setFlow_tiles, ↓flowChecks_tiles, ↓flowFrameTo_tiles, ↓foldl_tiles, ↓ite_tiles,
    ite_self, implies_true]

theorem State.settleFrames_tiles {i v} : (s.settleFrames i v).tiles = s.tiles := by
  simp only [State.settleFrames, ↓setFlow_tiles, ↓flowFrameDone_tiles, ↓foldl_tiles, implies_true]

theorem State.flowAbandon_tiles {i} : (s.flowAbandon i).tiles = s.tiles := by
  fun_cases State.flowAbandon <;> simp only [↓setFlow_tiles, ↓flowFrameDone_tiles, ↓foldl_tiles, implies_true]

theorem State.expireHoles_tiles {i} : (s.expireHoles i).tiles = s.tiles := by
  fun_cases State.expireHoles <;> simp +zetaDelta only [↓bump_tiles, ↓setFlow_tiles, ↓flowBad_tiles, ↓settleFrames_tiles, ↓ite_tiles, ite_self]

theorem State.offsets_tiles {c i d} : (s.offsets c i d).tiles = s.tiles := by
  simp only [State.offsets, ↓set_tiles, ↓ite_tiles, ite_self]

theorem State.videoOpen_tiles {src num v rec_ whole anc} : (s.videoOpen src num v rec_ whole anc).2.2.tiles = s.tiles := by
  simp only [State.videoOpen, ↓freePic_tiles, ↓joinFrame_tiles, ↓amendFrame_tiles, ↓ringWrite_tiles]

theorem State.ancOpen_tiles {src num rec_ ts whole anc} : (s.ancOpen src num rec_ ts whole anc).2.2.tiles = s.tiles := by
  fun_cases State.ancOpen <;> simp +zetaDelta only [↓joinFrame_tiles, ↓amendAt_tiles, ↓ringWrite_tiles, ↓ringAmendAt_tiles, ↓ite_tiles, ite_self]

theorem State.flowOpen_tiles {src num v ts whole anc} : (s.flowOpen src num v ts whole anc).2.2.tiles = s.tiles := by
  simp only [State.flowOpen, ↓videoOpen_tiles, ↓ancOpen_tiles, ↓ite_snd_snd_tiles, ite_self]

theorem State.flowLater_tiles {i v r} : (s.flowLater i v r).tiles = s.tiles := by
  unfold State.flowLater
  refine foldl_tiles fun s x => ?_
  dsimp only
  (repeat' split) <;> simp only [↓amendAt_tiles, ↓ringAmendAt_tiles]

theorem State.frameBegin_tiles {i n v r start} : (s.frameBegin i n v r start).tiles = s.tiles := by
  simp only [State.frameBegin, ↓setFlow_tiles, ↓flowOpen_tiles, ↓foldl_snd₃_tiles, implies_true]

theorem State.frameEarlier_tiles {i n f start} : (s.frameEarlier i n f start).tiles = s.tiles := by
  unfold State.frameEarlier
  dsimp only
  split
  · exact setFlow_tiles
  · refine (foldl_tiles fun s y => ?_).trans setFlow_tiles
    split <;> simp only [↓amendAt_tiles]

theorem State.framePacket_tiles {i n v r} : (s.framePacket i n v r).tiles = s.tiles := by
  unfold State.framePacket
  dsimp only
  (repeat' split) <;> simp only [↓setFlow_tiles, ↓flowBad_tiles, ↓flowLater_tiles, ↓frameBegin_tiles, ↓frameEarlier_tiles]

theorem State.legMeasure_tiles {i n v r} : (s.legMeasure i n v r).2.tiles = s.tiles := by
  simp only [State.legMeasure, ↓offsets_tiles, ↓ite_snd_tiles, ↓ite_tiles, ite_self]

theorem State.legOther_tiles {i n v r} : (s.legOther i n v r).tiles = s.tiles := by
  simp only [State.legOther, ↓setFlow_tiles, ↓flowChecks_tiles, ↓legMeasure_tiles, ↓ite_tiles, ite_self]

theorem State.audioPacket_tiles {i v r} : (s.audioPacket i v r).tiles = s.tiles := by
  simp only [State.audioPacket, ↓set_tiles, ↓bump_tiles, ↓joinFrame_tiles, ↓setFlow_tiles, ↓flowChecks_tiles, ↓legMeasure_tiles, ↓foldl_tiles,
    ↓ite_tiles, ite_self, implies_true]

theorem State.flowMeter_tiles {i v r} : (s.flowMeter i v r).2.2.tiles = s.tiles := by
  fun_cases State.flowMeter
  case case1 hp goes =>
    simp only [↓ite_tiles, ↓bump_tiles, ite_self, tiles_of_snd hp]
    refine foldl_snd_tiles fun b k => ?_
    split
    · exact meter_tiles
    · dsimp only
      split <;> simp only [↓amendFrame_tiles, ↓bump_tiles, ↓meter_tiles]

theorem State.flowCells_tiles {v r takers} : (s.flowCells v r takers).tiles = s.tiles := by
  simp only [State.flowCells, ↓sendCells_tiles, ↓sendSlots_tiles, ↓foldl_tiles, ↓ite_tiles, ite_self, implies_true]

theorem State.foreign_tiles {i} : (s.foreign i).tiles = s.tiles := by
  simp only [State.foreign, ↓setFlow_tiles, ↓bump_tiles]

theorem State.flowMerge_tiles {i k v r takers} : (s.flowMerge i k v r takers).tiles = s.tiles := by
  unfold State.flowMerge
  dsimp only
  (repeat' split) <;> simp only [↓bump_tiles, ↓peak_tiles, ↓setFlow_tiles, ↓settleFrames_tiles, ↓expireHoles_tiles, ↓framePacket_tiles,
    ↓legMeasure_tiles, ↓legOther_tiles, ↓audioPacket_tiles, ↓flowCells_tiles]

theorem State.flowPacket_tiles {i k src rtp} : (s.flowPacket i k src rtp).tiles = s.tiles := by
  unfold State.flowPacket
  dsimp only
  split
  · split
    · rfl
    · split
      · exact foreign_tiles
      · split
        · simp only [↓bump_tiles, ↓setFlow_tiles]
        · simp only [↓bump_tiles, ↓setFlow_tiles, ↓flowChecks_tiles, ↓flowAbandon_tiles, ↓flowMeter_tiles, ↓foreign_tiles, ↓flowMerge_tiles,
            ↓ite_tiles, ite_self]
  · rfl

theorem State.beArrive_tiles : s.beArrive.tiles = s.tiles := by
  simp only [State.beArrive, ↓forwardBe_tiles, ↓foldl_tiles, ↓ite_tiles, ↓tiles_mk, ↓xp_tiles, ite_self, implies_true]

theorem State.forwardAll_tiles {c n f} : (s.forwardAll c n f).tiles = s.tiles := by
  fun_cases State.forwardAll
  case case1 u he => exact (tiles_of_snd he).trans beEnter_tiles
  case case2 u he from_ v hf =>
    have hv : v.tiles = s.tiles := by rw [tiles_of_snd hf, fresh_tiles, tiles_of_snd he, beEnter_tiles]
    refine (foldl_tiles fun s e => ?_).trans hv
    split <;> rename_i h <;> simp only [↓beSend_tiles, ↓tiles_of_snd h, ↓beCross_tiles]

theorem State.flowFilter_tiles {p f} : (s.flowFilter p f).tiles = s.tiles := by
  unfold State.flowFilter
  dsimp only
  (repeat' split) <;> simp only [↓bump_tiles, ↓flowPacket_tiles, ↓forwardAll_tiles]

theorem State.control_tiles {p f} : (s.control p f).tiles = s.tiles := by
  unfold State.control
  dsimp only
  (repeat' split) <;> simp only [↓ctrlMeter_tiles, ↓answer_tiles, ↓ptpRx_tiles, ↓membershipQuery_tiles]

theorem State.mgmtFrame_tiles {p f} : (s.mgmtFrame p f).tiles = s.tiles := by
  simp only [State.mgmtFrame, ↓bump_tiles, ↓answer_tiles, ↓ite_tiles, ite_self]

/-! ### SDI receivers -/

theorem State.setRx_tiles {lane x} : (s.setRx lane x).tiles = s.tiles := by
  simp only [State.setRx, ↓tiles_mk, ↓xp_tiles]

theorem State.startSweep_tiles {lane} : (s.startSweep lane).tiles = s.tiles := by
  simp only [State.startSweep, ↓setRx_tiles]

theorem State.showFormat_tiles {lanes} : (s.showFormat lanes).tiles = s.tiles := by
  simp only [State.showFormat, ↓set_tiles, ↓foldl_tiles, implies_true]

theorem State.setRxState_tiles {lane st} : (s.setRxState lane st).tiles = s.tiles := by
  fun_cases State.setRxState <;> simp +zetaDelta only [↓set_tiles, ↓setRx_tiles, ↓showFormat_tiles, ↓ite_tiles, ite_self]

theorem State.countChecks_tiles {lane first reads skew f m} : (s.countChecks lane first reads skew f m).tiles = s.tiles := by
  simp only [State.countChecks, ↓bump_tiles, ↓ite_tiles, ite_self]

theorem State.showChecks_tiles {lane m whole} : (s.showChecks lane m whole).tiles = s.tiles := by
  simp only [State.showChecks, ↓set_tiles, ↓event_tiles, ↓ite_tiles, ite_self]

theorem State.reassign_tiles {src lanes} : (s.reassign src lanes).tiles = s.tiles := by
  simp only [State.reassign, ↓amendFrame_tiles, ↓ringAmend_tiles, ↓tiles_mk, ↓xp_tiles]

theorem State.runningFrame_tiles {lane v st} : (s.runningFrame lane v st).2.tiles = s.tiles := by
  simp only [State.runningFrame, ↓bump_tiles, ↓setRx_tiles, ↓showFormat_tiles, ↓setRxState_tiles, ↓ite_snd_tiles, ite_self]

theorem State.framingFrame_tiles {lane lrate st fmt whole} : (s.framingFrame lane lrate st fmt whole).tiles = s.tiles := by
  unfold State.framingFrame
  (repeat' split) <;> simp only [↓setRx_tiles, ↓setRxState_tiles, ↓ite_tiles, ite_self]

theorem State.frameState_tiles {lane v f} : (s.frameState lane v f).2.tiles = s.tiles := by
  simp only [State.frameState, ↓runningFrame_tiles, ↓framingFrame_tiles, ↓ite_snd_tiles, ite_self]

theorem State.showPid_tiles {lane f} : (s.showPid lane f).tiles = s.tiles := by
  simp only [State.showPid, ↓set_tiles, ↓setRx_tiles]

theorem State.laneFrame_tiles {src place n v m f anc} : (s.laneFrame src place n v m f anc).tiles = s.tiles := by
  simp only [State.laneFrame, ↓joinFrame_tiles, ↓ringWrite_tiles, ↓ringAmend_tiles, ↓ite_tiles, ite_self]

theorem State.sdiCells_tiles {v n video anc} : (s.sdiCells v n video anc).tiles = s.tiles := by
  simp only [State.sdiCells, ↓enterCells_tiles, ↓ite_tiles, ite_self]

theorem State.setDelta_tiles {src a inWin} : (s.setDelta src a inWin).tiles = s.tiles := by
  simp only [State.setDelta, ↓tiles_mk, ↓xp_tiles]

theorem State.sdiFrame_tiles {lane f v} : (s.sdiFrame lane f v).tiles = s.tiles := by
  simp only [State.sdiFrame, ↓set_tiles, ↓bump_tiles, ↓measure_tiles, ↓countChecks_tiles, ↓showChecks_tiles, ↓reassign_tiles, ↓frameState_tiles,
    ↓showPid_tiles, ↓laneFrame_tiles, ↓sdiCells_tiles, ↓setDelta_tiles, ↓ite_tiles, ↓tiles_mk, ↓xp_tiles, ite_self]

/-! ### Audio channels -/

theorem State.setIn_tiles {i c} : (s.setIn i c).tiles = s.tiles := by
  simp only [State.setIn, ↓tiles_mk, ↓xp_tiles]

theorem State.setOut_tiles {o c} : (s.setOut o c).tiles = s.tiles := by
  simp only [State.setOut, ↓tiles_mk, ↓xp_tiles]

theorem State.setBus_tiles {b c} : (s.setBus b c).tiles = s.tiles := by
  simp only [State.setBus, ↓tiles_mk, ↓xp_tiles]

/-! ### The legs of egress flows -/

theorem State.emitPkts_tiles {v b} : (s.emitPkts v b).tiles = s.tiles := by
  simp only [State.emitPkts, ↓bump_tiles, ↓bump64_tiles, ↓emit_tiles, ↓foldl_tiles, ↓ite_tiles, ite_self, implies_true]

theorem State.flowQuiet_tiles {v live} : (s.flowQuiet v live).tiles = s.tiles := by
  simp only [State.flowQuiet, ↓set_tiles, ↓ite_tiles, ite_self]

/-! ### The audio engine -/

theorem State.audioProbe_tiles {a out silent zero} : (s.audioProbe a out silent zero).tiles = s.tiles := by
  simp only [State.audioProbe, ↓event_tiles, ↓ite_tiles, ite_self]

theorem State.inFlags_tiles {i a c present} : (s.inFlags i a c present).tiles = s.tiles := by
  simp only [State.inFlags, ↓set_tiles, ↓bump_tiles, ↓peak_tiles, ↓audioProbe_tiles, ↓ite_tiles, ite_self]

theorem State.inTick_tiles {i a k0} : (s.inTick i a k0).tiles = s.tiles := by
  simp only [State.inTick, ↓setIn_tiles, ↓inFlags_tiles]

theorem State.headTick_tiles {i a} : (s.headTick i a).tiles = s.tiles := by
  simp only [State.headTick, ↓setIn_tiles, ↓inFlags_tiles]

theorem State.placeSdi_tiles {x} : (s.placeSdi x).tiles = s.tiles := by
  fun_cases State.placeSdi
  case case2 =>
    refine (foldl_tiles fun s j => ?_).trans enterSlots_tiles
    dsimp only
    split <;> simp only [↓setIn_tiles]
  all_goals rfl

theorem State.busTick_tiles {b x} : (s.busTick b x).tiles = s.tiles := by
  simp only [State.busTick, ↓bump_tiles, ↓setBus_tiles, ↓ite_tiles, ite_self]

theorem State.outFlags_tiles {o a peak c} : (s.outFlags o a peak c).tiles = s.tiles := by
  simp only [State.outFlags, ↓set_tiles, ↓peak_tiles, ↓audioProbe_tiles, ↓ite_tiles, ite_self]

theorem State.outTick_tiles {o a ctls} : (s.outTick o a ctls).tiles = s.tiles := by
  fun_cases State.outTick
  case case1 line _ _ _ _ _ _ _ _ _ _ _ u v =>
    have hu : u.tiles = s.tiles := bump_tiles.trans setOut_tiles
    have hv : v.tiles = u.tiles := by
      simp only [v]
      clear_value line
      (repeat' split) <;> simp only [↓tiles_mk, ↓xp_tiles]
    exact outFlags_tiles.trans (hv.trans hu)

theorem State.outTurn_tiles {o a c sel gain order at_} : (s.outTurn o a c sel gain order at_).tiles = s.tiles := by
  simp only [State.outTurn, ↓setOut_tiles, ↓bump_tiles, ↓journalAdd_tiles]

theorem State.outFlip_tiles {o a c p} : (s.outFlip o a c p).tiles = s.tiles := by
  simp only [State.outFlip, ↓outTurn_tiles]

theorem State.audioTake_tiles {dest order salvo b gid slots} : (s.audioTake dest order salvo b gid slots).tiles = s.tiles := by
  unfold State.audioTake
  refine foldl_tiles fun s x => ?_
  dsimp only
  (repeat' split) <;> simp only [↓bump_tiles, ↓setOut_tiles, ↓outTurn_tiles]

theorem State.flipOuts_tiles {pick} : (s.flipOuts pick).tiles = s.tiles := by
  unfold State.flipOuts
  refine foldl_tiles fun s x => ?_
  dsimp only
  (repeat' split) <;> simp only [↓outFlip_tiles]

theorem State.busMembers_tiles {old new} : (s.busMembers old new).tiles = s.tiles := by
  simp only [State.busMembers, ↓bump_tiles]

theorem State.flipBuses_tiles : s.flipBuses.tiles = s.tiles := by
  unfold State.flipBuses
  refine foldl_tiles fun s x => ?_
  dsimp only
  (repeat' split) <;> simp only [↓bump_tiles, ↓journalAdd_tiles, ↓setBus_tiles, ↓busMembers_tiles]

theorem State.flipDest_tiles {dest} : (s.flipDest dest).tiles = s.tiles := by
  simp only [State.flipDest, ↓flipOuts_tiles]

theorem State.flipHouse_tiles : s.flipHouse.tiles = s.tiles := by
  simp only [State.flipHouse, ↓flipOuts_tiles, ↓flipBuses_tiles]

theorem State.flipLate_tiles {due} : (s.flipLate due).tiles = s.tiles := by
  simp only [State.flipLate, ↓err_tiles, ↓ite_tiles, ite_self]

theorem State.writeOut_tiles {a sel gain due order} : (s.writeOut a sel gain due order).tiles = s.tiles := by
  unfold State.writeOut
  split <;> simp only [↓bump_tiles, ↓setOut_tiles, ↓flipLate_tiles]

theorem State.writeBus_tiles {b gain members due} : (s.writeBus b gain members due).tiles = s.tiles := by
  simp only [State.writeBus, ↓bump_tiles, ↓setBus_tiles, ↓flipLate_tiles]

theorem State.writeLine_tiles {l n due} : (s.writeLine l n due).tiles = s.tiles := by
  unfold State.writeLine
  split <;> simp only [↓bump_tiles, ↓flipLate_tiles, ↓tiles_mk, ↓xp_tiles]

theorem State.matchedTick_tiles : s.matchedTick.tiles = s.tiles := by
  simp only [State.matchedTick, ↓tiles_mk, ↓xp_tiles]

theorem State.evacFree_tiles : s.evacFree.tiles = s.tiles := by
  simp only [State.evacFree, ↓setOut_tiles, ↓foldl_tiles, ↓ite_tiles, ite_self, implies_true]

theorem State.lineMoved_tiles {q bytes reads} : (s.lineMoved q bytes reads).tiles = s.tiles := by
  simp only [State.lineMoved, ↓rowsMoved_tiles, ↓foldl_tiles, ↓ite_tiles, ite_self, implies_true]

theorem State.lineRows_tiles {q} : (s.lineRows q).tiles = s.tiles := by
  simp only [State.lineRows, ↓lineMoved_tiles, ↓foldl_tiles, implies_true]

theorem State.embedTick_tiles {dest slots} : (s.embedTick dest slots).tiles = s.tiles := by
  simp only [State.embedTick, ↓emit_tiles, ↓foldl_tiles, ↓ite_tiles, ite_self, implies_true]

theorem State.audioPackets_tiles {q} : (s.audioPackets q).tiles = s.tiles := by
  simp only [State.audioPackets, ↓set_tiles, ↓emitPkts_tiles, ↓foldl_tiles, ↓ite_tiles, ite_self, implies_true]

theorem State.audioOut_tiles : s.audioOut.tiles = s.tiles := by
  unfold State.audioOut
  simp only [↓foldl_tiles, ↓embedTick_tiles, ↓ite_tiles, ite_self, implies_true]
  refine foldl_tiles fun s c => ?_
  split <;> simp only [↓sendSlots_tiles]

theorem State.deadTick_tiles {q} : (s.deadTick q).tiles = s.tiles := by
  simp only [State.deadTick, ↓audioPackets_tiles, ↓audioOut_tiles, ↓tiles_mk, ↓xp_tiles]

theorem State.meterTick_tiles {out} : (s.meterTick out).tiles = s.tiles := by
  simp only [State.meterTick, ↓foldl_tiles, ↓ite_tiles, ↓tiles_mk, ↓xp_tiles, ite_self, implies_true]

theorem State.lineTick_tiles {q} : (s.lineTick q).2.tiles = s.tiles := by
  simp only [State.lineTick, ↓bump_tiles, ↓journalAdd_tiles, ↓foldl_snd_tiles, ↓ite_tiles, ↓tiles_mk, ↓xp_tiles, ite_self, implies_true]

theorem State.audStat_tiles : s.audStat.tiles = s.tiles := by
  simp only [State.audStat, ↓set_tiles]

theorem State.fillSlots_tiles {dest from_ bad} : (s.fillSlots dest from_ bad).tiles = s.tiles := by
  simp only [State.fillSlots, ↓setOut_tiles, ↓foldl_tiles, ↓ite_tiles, ite_self, implies_true]

theorem State.fillDue_tiles : s.fillDue.tiles = s.tiles := by
  unfold State.fillDue
  refine foldl_tiles fun s x => ?_
  dsimp only
  (repeat' split) <;> simp only [↓fillSlots_tiles]

theorem State.farTick_tiles {far k0} : (s.farTick far k0).tiles = s.tiles := by
  unfold State.farTick
  simp only [↓tiles_mk, ↓xp_tiles]
  refine foldl_tiles fun s k => foldl_tiles fun s c => ?_
  split <;> simp only [↓enterSlots_tiles, ↓ite_tiles, ite_self]

theorem State.audioTick_tiles {sdi far} : (s.audioTick sdi far).tiles = s.tiles := by
  simp only [State.audioTick, ↓inTick_tiles, ↓headTick_tiles, ↓placeSdi_tiles, ↓busTick_tiles, ↓outTick_tiles, ↓flipOuts_tiles, ↓flipBuses_tiles,
    ↓matchedTick_tiles, ↓evacFree_tiles, ↓lineRows_tiles, ↓audioPackets_tiles, ↓audioOut_tiles, ↓deadTick_tiles, ↓meterTick_tiles, ↓lineTick_tiles,
    ↓audStat_tiles, ↓fillDue_tiles, ↓farTick_tiles, ↓foldl_tiles, ↓ite_tiles, ↓tiles_mk, ↓xp_tiles, ite_self, implies_true]

theorem State.matchSlots_tiles {dest n shown} : (s.matchSlots dest n shown).tiles = s.tiles := by
  unfold State.matchSlots
  refine foldl_tiles fun s x => ?_
  dsimp only
  (repeat' split) <;> simp only [↓setOut_tiles]

theorem State.evacSlots_tiles {dest on} : (s.evacSlots dest on).tiles = s.tiles := by
  simp only [State.evacSlots, ↓setOut_tiles, ↓foldl_tiles, ↓ite_tiles, ite_self, implies_true]

theorem State.setTdm_tiles {p x} : (s.setTdm p x).tiles = s.tiles := by
  simp only [State.setTdm, ↓set_tiles, ↓tiles_mk, ↓xp_tiles]

theorem State.tdmMute_tiles {p} : (s.tdmMute p).tiles = s.tiles := by
  simp only [State.tdmMute, ↓setIn_tiles, ↓setTdm_tiles, ↓foldl_tiles, implies_true]

theorem State.tdmSend_tiles {p} : (s.tdmSend p).tiles = s.tiles := by
  simp only [State.tdmSend, ↓setTdm_tiles, ↓emit_tiles]

theorem State.audServe_tiles : s.audServe.tiles = s.tiles := by
  simp only [State.audServe, ↓set_tiles, ↓audStat_tiles, ↓setTdm_tiles, ↓foldl_tiles, ↓ite_tiles, ↓tiles_mk, ↓xp_tiles, ite_self, implies_true]

theorem State.audStart_tiles : s.audStart.tiles = s.tiles := by
  unfold State.audStart
  simp only [↓foldl_tiles, ↓setBus_tiles, ↓tiles_mk, ↓xp_tiles, implies_true]
  refine (foldl_tiles fun s r => foldl_tiles fun s i => ?_).trans State.tiles_mk
  split <;> simp only [↓setOut_tiles]

theorem State.audDown_tiles : s.audDown.tiles = s.tiles := by
  simp only [State.audDown, ↓clearWindow_tiles, ↓raise_tiles, ↓beginReset_tiles, ↓foldl_tiles, ↓ite_tiles, ↓tiles_mk, ↓xp_tiles, ite_self,
    implies_true]

theorem State.audUp_tiles : s.audUp.tiles = s.tiles := by
  simp only [State.audUp, ↓set_tiles, ↓resolve_tiles, ↓audServe_tiles, ↓ite_tiles, ↓tiles_mk, ↓xp_tiles, ite_self]

/-! ### The multiviewer -/

theorem State.setHead_tiles {h x} : (s.setHead h x).tiles = s.tiles := by
  simp only [State.setHead, ↓tiles_mk, ↓xp_tiles]

theorem State.applyWindow_tiles {v engine due} : (s.applyWindow v engine due).tiles = s.tiles := by
  simp only [State.applyWindow, ↓journalAdd_tiles, ↓tiles_mk, ↓xp_tiles]

theorem State.applyClear_tiles {win due} : (s.applyClear win due).tiles = s.tiles := by
  fun_cases State.applyClear <;> simp only [↓journalAdd_tiles, ↓tiles_mk, ↓xp_tiles]

theorem State.applyOrder_tiles {h o due} : (s.applyOrder h o due).tiles = s.tiles := by
  simp only [State.applyOrder, ↓setHead_tiles, ↓journalAdd_tiles]

theorem State.headStates_tiles {named b} : (s.headStates named b).tiles = s.tiles := by
  simp only [State.headStates, ↓setHead_tiles, ↓foldl_tiles, ↓ite_tiles, ite_self, implies_true]

theorem State.winWritten_tiles {win b} : (s.winWritten win b).tiles = s.tiles := by
  simp only [State.winWritten, ↓enterCells_tiles, ↓rowsMoved_tiles]

theorem State.winRead_tiles {win n w} : (s.winRead win n w).tiles = s.tiles := by
  simp only [State.winRead, ↓rowsMoved_tiles, ↓sendCells_tiles, ↓lostCells_tiles]

theorem State.winSignal_tiles {win w no} : (s.winSignal win w no).tiles = s.tiles := by
  simp only [State.winSignal, ↓event_tiles, ↓ite_tiles, ↓tiles_mk, ↓xp_tiles, ite_self]

theorem State.winSelect_tiles {win w a} : (s.winSelect win w a).tiles = s.tiles := by
  fun_cases State.winSelect <;> simp only [↓bump_tiles, ↓winSignal_tiles]

theorem State.winFrame_tiles {win w a} : (s.winFrame win w a).tiles = s.tiles := by
  fun_cases State.winFrame <;> simp only [↓winSelect_tiles, ↓tiles_mk, ↓xp_tiles]

theorem State.meterFrame_tiles {h} : (s.meterFrame h).tiles = s.tiles := by
  simp only [State.meterFrame, ↓setHead_tiles, ↓tiles_mk, ↓xp_tiles]

theorem State.winShow_tiles {h} : (s.winShow h).tiles = s.tiles := by
  unfold State.winShow
  refine foldl_tiles fun s x => ?_
  dsimp only
  (repeat' split) <;> simp only [↓set_tiles, ↓foldl_tiles, implies_true]

theorem State.headShow_tiles {h} : (s.headShow h).tiles = s.tiles := by
  simp only [State.headShow, ↓set_tiles]

theorem State.enginesShow_tiles : s.enginesShow.tiles = s.tiles := by
  simp only [State.enginesShow, ↓set_tiles]

theorem State.headEmit_tiles {h a} : (s.headEmit h a).tiles = s.tiles := by
  unfold State.headEmit
  split <;> simp only [↓enterCells_tiles, ↓measure_tiles, ↓joinFrame_tiles, ↓ringWrite_tiles]

theorem State.headReads_tiles {h n} : (s.headReads h n).tiles = s.tiles := by
  simp only [State.headReads, ↓rowsMoved_tiles, ↓winRead_tiles, ↓foldl_tiles, implies_true]

theorem State.headStart_tiles : s.headStart.tiles = s.tiles := by
  simp only [State.headStart, ↓setHead_tiles, ↓headShow_tiles, ↓foldl_tiles, ↓ite_tiles, ite_self, implies_true]

/-! ### Budgets -/

theorem State.syncBobbins_tiles : s.syncBobbins.tiles = s.tiles := by
  unfold State.syncBobbins
  simp only [↓tierOpen_tiles, ↓peak_tiles, ↓tiles_mk, ↓xp_tiles]
  refine (foldl_tiles fun s n => ?_).trans ?_
  · split <;> exact setRing_tiles
  · refine State.tiles_mk.trans ((foldl_tiles fun s n => ?_).trans State.tiles_mk)
    split <;> simp only [↓tiles_mk, ↓xp_tiles]

theorem State.syncMeters_tiles : s.syncMeters.tiles = s.tiles := by
  simp only [State.syncMeters, ↓syncConns_tiles, ↓tiles_mk, ↓xp_tiles]

theorem State.syncJoins_tiles : s.syncJoins.tiles = s.tiles := by
  simp only [State.syncJoins, ↓joinFlow_tiles, ↓leaveFlow_tiles, ↓foldl_tiles, ↓ite_tiles, ite_self, implies_true]

theorem State.settle_tiles {b} : (s.settle b).tiles = s.tiles := by
  simp only [State.settle, ↓selectPoint_tiles, ↓headStates_tiles, ↓syncBobbins_tiles, ↓syncMeters_tiles, ↓syncJoins_tiles]

/-! ### Strands and the Skein -/

theorem State.setStrand_tiles {p x} : (s.setStrand p x).tiles = s.tiles := by
  simp only [State.setStrand, ↓tiles_mk, ↓xp_tiles]

theorem State.skeinBudget_tiles : s.skeinBudget.tiles = s.tiles := by
  simp only [State.skeinBudget, ↓resolve_tiles, ↓raise_tiles, ↓ite_tiles, ↓tiles_mk, ↓xp_tiles, ite_self]

theorem State.strandRun_tiles {p} : (s.strandRun p).tiles = s.tiles := by
  simp only [State.strandRun, ↓setStrand_tiles]

theorem State.sendUnits_tiles {p n} : (s.sendUnits p n).tiles = s.tiles := by
  simp only [State.sendUnits, ↓strandRun_tiles, ↓bump_tiles, ↓setStrand_tiles]

theorem State.sendMedia_tiles {p f} : (s.sendMedia p f).tiles = s.tiles := by
  simp only [State.sendMedia, ↓emit_tiles, ↓strandRun_tiles, ↓setStrand_tiles]

theorem State.newMsgId_tiles : (s.newMsgId).2.tiles = s.tiles := by
  simp only [State.newMsgId, ↓tiles_mk, ↓xp_tiles]

theorem State.sendMsg_tiles {m} : (s.sendMsg m).tiles = s.tiles := by
  unfold State.sendMsg
  (repeat' split) <;> simp only [↓emit_tiles, ↓sendUnits_tiles, ↓ite_tiles, ↓tiles_mk, ↓xp_tiles, ite_self]

theorem State.note_tiles {id} : (s.note id).tiles = s.tiles := by
  simp only [State.note, ↓tiles_mk, ↓xp_tiles]

theorem State.skeinIn_tiles {m act} (h : ∀ s, (act s).tiles = s.tiles) : (s.skeinIn m act).tiles = s.tiles := by
  fun_cases State.skeinIn <;> simp +zetaDelta only [↓bump_tiles, ↓emit_tiles, ↓sendMsg_tiles, ↓note_tiles, ↓h]

theorem State.noteSteps_tiles : s.noteSteps.tiles = s.tiles := by
  simp only [State.noteSteps, ↓tiles_mk, ↓xp_tiles]

theorem State.sendLinks_tiles : s.sendLinks.tiles = s.tiles := by
  simp only [State.sendLinks, ↓emit_tiles, ↓dblData_tiles, ↓skeinBudget_tiles, ↓sendUnits_tiles, ↓newMsgId_tiles, ↓note_tiles, ↓noteSteps_tiles,
    ↓foldl_tiles, ↓ite_tiles, ↓tiles_mk, ↓xp_tiles, ite_self, implies_true]

theorem State.strandTo_tiles {p st} : (s.strandTo p st).tiles = s.tiles := by
  simp only [State.strandTo, ↓set_tiles, ↓sendLinks_tiles]

theorem State.clearStrandDown_tiles : s.clearStrandDown.tiles = s.tiles := by
  simp only [State.clearStrandDown, ↓resolve_tiles, ↓foldl_tiles, ↓ite_tiles, ite_self, implies_true]

theorem State.noteMirrors_tiles : s.noteMirrors.tiles = s.tiles := by
  simp only [State.noteMirrors, ↓setStrand_tiles, ↓foldl_tiles, implies_true]

theorem State.strandDown_tiles {p next} : (s.strandDown p next).tiles = s.tiles := by
  simp only [State.strandDown, ↓set_tiles, ↓event_tiles, ↓raise_tiles, ↓setStrand_tiles, ↓sendLinks_tiles, ↓ite_tiles, ite_self]

theorem State.strandsOn_tiles {c} : (s.strandsOn c).tiles = s.tiles := by
  simp only [State.strandsOn, ↓strandTo_tiles, ↓foldl_tiles, implies_true]

theorem State.strandMismatch_tiles {p why} : (s.strandMismatch p why).tiles = s.tiles := by
  simp only [State.strandMismatch, ↓strandTo_tiles, ↓set_tiles, ↓raise_tiles]

theorem State.acked_tiles {p} : (s.acked p).tiles = s.tiles := by
  simp only [State.acked, ↓tiles_mk, ↓xp_tiles]

theorem State.farStill_tiles {k f} : (s.farStill k f).tiles = s.tiles := by
  simp only [State.farStill, ↓tiles_mk, ↓xp_tiles]

theorem State.farJoin_tiles {k n f} : (s.farJoin k n f).tiles = s.tiles := by
  simp only [State.farJoin, ↓joinFrame_tiles, ↓amendFrame_tiles, ↓farWrite_tiles, ↓ringAmend_tiles, ↓ite_tiles, ite_self]

theorem State.farFrame_tiles {p f} : (s.farFrame p f).tiles = s.tiles := by
  unfold State.farFrame
  split <;> simp only [↓enterCells_tiles, ↓sendMedia_tiles, ↓farStill_tiles, ↓farJoin_tiles, ↓foldl_tiles, ↓ite_tiles, ite_self, implies_true]

theorem State.creditViolation_tiles {p} : (s.creditViolation p).tiles = s.tiles := by
  simp only [State.creditViolation, ↓err_tiles, ↓strandDown_tiles]

theorem State.farCellBad_tiles {p cell} : (s.farCellBad p cell).tiles = s.tiles := by
  fun_cases State.farCellBad <;> simp only [↓bump_tiles, ↓cellBad_tiles]

theorem State.strandUnit_tiles {p u} : (s.strandUnit p u).tiles = s.tiles := by
  unfold State.strandUnit
  (repeat' split) <;> simp only [↓bump_tiles, ↓setStrand_tiles, ↓strandDown_tiles, ↓acked_tiles, ↓farFrame_tiles, ↓creditViolation_tiles,
    ↓farCellBad_tiles, ↓ite_tiles, ite_self]

/-! ### The state copy -/

theorem State.onLevel_tiles {dest lv f} : (s.onLevel dest lv f).tiles = s.tiles := by
  simp only [State.onLevel, ↓setDst_tiles]

theorem State.superseded_tiles {dest} : (s.superseded dest).tiles = s.tiles := by
  simp only [State.superseded, ↓bump_tiles, ↓ite_tiles, ite_self]

theorem State.addTake_tiles {dest lv p} : (s.addTake dest lv p).tiles = s.tiles := by
  fun_cases State.addTake <;> simp only [↓onLevel_tiles, ↓superseded_tiles]

theorem State.armAll_tiles : s.armAll.tiles = s.tiles := by
  simp only [State.armAll, ↓tiles_mk, ↓xp_tiles]

theorem State.applyDecision_tiles {coord num commit} : (s.applyDecision coord num commit).tiles = s.tiles := by
  simp only [State.applyDecision, ↓bump_tiles, ↓ite_tiles, ↓tiles_mk, ↓xp_tiles, ite_self]

theorem State.applyEff_tiles {e} : (s.applyEff e).tiles = s.tiles := by
  unfold State.applyEff
  (repeat' split) <;> simp only [↓bump_tiles, ↓setDst_tiles, ↓setRing_tiles, ↓setBanks_tiles, ↓whlShow_tiles, ↓journalAdd_tiles, ↓setFlow_tiles,
    ↓takeTable_tiles, ↓flowSetApply_tiles, ↓writeOut_tiles, ↓writeBus_tiles, ↓writeLine_tiles, ↓applyWindow_tiles, ↓applyClear_tiles,
    ↓applyOrder_tiles, ↓clearStrandDown_tiles, ↓onLevel_tiles, ↓addTake_tiles, ↓applyDecision_tiles, ↓foldl_tiles, ↓ite_tiles, ↓tiles_mk,
    ↓xp_tiles, ite_self, implies_true]

theorem State.applyEffs_tiles {l} : (s.applyEffs l).tiles = s.tiles := by
  simp only [State.applyEffs, ↓applyEff_tiles, ↓foldl_tiles, implies_true]

theorem State.out_tiles {e} : (s.out_ e).tiles = s.tiles := by
  simp only [State.out_, ↓applyEff_tiles, ↓tiles_mk, ↓xp_tiles]

theorem State.outDecision_tiles {num commit} : (s.outDecision num commit).tiles = s.tiles := by
  simp only [State.outDecision, ↓applyEff_tiles, ↓tiles_mk, ↓xp_tiles]

theorem State.outs_tiles {l} : (s.outs l).tiles = s.tiles := by
  simp only [State.outs, ↓out_tiles, ↓foldl_tiles, implies_true]

theorem State.tryEffs_tiles {l u} (h : s.tryEffs l = .inr u) : u.tiles = s.tiles := by
  unfold State.tryEffs at h
  dsimp only at h
  split at h
  · rw [← Sum.inr.inj h, outs_tiles]
  · cases h

/-! ### Requests of takes and salvos -/

theorem State.newSalvoNum_tiles : (s.newSalvoNum).2.tiles = s.tiles := by
  simp only [State.newSalvoNum, ↓tiles_mk, ↓xp_tiles]

theorem State.armSalvo_tiles {v} : (s.armSalvo v).tiles = s.tiles := by
  simp only [State.armSalvo, ↓newMsgId_tiles, ↓sendMsg_tiles, ↓note_tiles, ↓foldl_tiles, ↓tiles_mk, ↓xp_tiles, implies_true]

theorem State.salvoReply_tiles {v r wait} : (s.salvoReply v r wait).tiles = s.tiles := by
  fun_cases State.salvoReply <;> simp only [↓event_tiles, ↓reply_tiles, ↓replyC_tiles]

theorem State.onSalvo_tiles {num f} : (s.onSalvo num f).tiles = s.tiles := by
  simp only [State.onSalvo, ↓tiles_mk, ↓xp_tiles]

theorem State.salvoArmed_tiles {v wait} : (s.salvoArmed v wait).tiles = s.tiles := by
  simp only [State.salvoArmed, ↓salvoReply_tiles, ↓onSalvo_tiles, ↓ite_tiles, ite_self]

theorem State.refuseSalvo_tiles {v code res chip retry wait} : (s.refuseSalvo v code res chip retry wait).tiles = s.tiles := by
  simp only [State.refuseSalvo, ↓bump_tiles, ↓peak_tiles, ↓fresh_tiles, ↓salvoReply_tiles, ↓onSalvo_tiles, ↓ite_snd_tiles, ↓ite_tiles, ite_self]

theorem State.armOne_tiles {v} : (s.armOne v).tiles = s.tiles := by
  unfold State.armOne
  dsimp only
  (repeat' split) <;> simp only [↓newSalvoNum_tiles, ↓armSalvo_tiles, ↓refuseSalvo_tiles, ↓tiles_mk, ↓xp_tiles]

theorem State.reportAct_tiles {m} : (s.reportAct m).tiles = s.tiles := by
  fun_cases State.reportAct <;> simp only [↓onSalvo_tiles, ↓salvoArmed_tiles, ↓refuseSalvo_tiles]

theorem State.salvoArm_tiles {c entries stored handle} : (s.salvoArm c entries stored handle).tiles = s.tiles := by
  fun_cases State.salvoArm
  case case6 hn _ => exact armSalvo_tiles.trans (State.tiles_mk.trans ((tiles_of_snd hn).trans newSalvoNum_tiles))
  all_goals simp only [↓bump_tiles, ↓reply_tiles, ↓badValue_tiles, ↓busy_tiles]

theorem State.hiddenWrite_tiles {k o clear v} : (s.hiddenWrite k o clear v).tiles = s.tiles := by
  simp only [State.hiddenWrite, ↓setBanks_tiles, ↓bankWrite_tiles, ↓bankClear_tiles, ↓ite_tiles, ite_self]

/-! ### The cycle close -/

theorem State.answerC_tiles {r typ q code tlvs} : (s.answerC r typ q code tlvs).tiles = s.tiles := by
  simp only [State.answerC, ↓replyC_tiles]

theorem State.refuseC_tiles {r typ q res chip} : (s.refuseC r typ q res chip).tiles = s.tiles := by
  simp only [State.refuseC, ↓bump_tiles, ↓replyC_tiles]

theorem State.tryAnswer_tiles {r typ q l tlvs} : (s.tryAnswer r typ q l tlvs).tiles = s.tiles := by
  unfold State.tryAnswer
  split <;> rename_i h
  · exact answerC_tiles.trans (tryEffs_tiles h)
  · exact refuseC_tiles

theorem State.withdraw_tiles {later} : (s.withdraw later).tiles = s.tiles := by
  simp only [State.withdraw, ↓replyC_tiles, ↓out_tiles, ↓foldl_tiles, implies_true]

theorem State.withdrawDelayed_tiles {p} : (s.withdrawDelayed p).tiles = s.tiles := by
  simp only [State.withdrawDelayed, ↓salvoReply_tiles, ↓onSalvo_tiles, ↓foldl_tiles, implies_true]

theorem State.withdrawRights_tiles : s.withdrawRights.tiles = s.tiles := by
  simp only [State.withdrawRights, ↓replyC_tiles, ↓out_tiles, ↓withdrawDelayed_tiles, ↓foldl_tiles, ↓ite_tiles, ↓tiles_mk, ↓xp_tiles, ite_self,
    implies_true]

theorem State.withdrawSalvos_tiles {later} : (s.withdrawSalvos later).tiles = s.tiles := by
  simp only [State.withdrawSalvos, ↓withdrawDelayed_tiles]

theorem State.evalTake_tiles {w first later due} : (s.evalTake w first later due).tiles = s.tiles := by
  unfold State.evalTake
  dsimp only
  split <;> rename_i h
  · simp only [↓replyC_tiles, ↓out_tiles, ↓ite_tiles, ite_self, ↓tryEffs_tiles h]
  · simp only [↓bump_tiles, ↓peak_tiles, ↓replyC_tiles, ↓out_tiles, ↓ite_tiles, ite_self]

theorem State.evalWindow_tiles {r q b} : (s.evalWindow r q b).tiles = s.tiles := by
  fun_cases State.evalWindow <;> simp only [↓replyC_tiles, ↓out_tiles, ↓answerC_tiles, ↓refuseC_tiles, ↓tryAnswer_tiles]

theorem State.evalStep_tiles {r typ q b d aon} : (s.evalStep r typ q b d aon).tiles = s.tiles := by
  fun_cases State.evalStep <;> simp only [↓replyC_tiles, ↓out_tiles, ↓answerC_tiles]

theorem State.evalRestart_tiles {r q b} : (s.evalRestart r q b).tiles = s.tiles := by
  simp only [State.evalRestart, ↓out_tiles, ↓outs_tiles, ↓answerC_tiles, ↓ite_tiles, ite_self]

theorem State.serveReq_tiles {r later b} : (s.serveReq r later b).tiles = s.tiles := by
  unfold State.serveReq
  (repeat' split) <;> simp only [↓freshNot_tiles, ↓setSess_tiles, ↓replyC_tiles, ↓flowInsert_tiles, ↓out_tiles, ↓outs_tiles, ↓answerC_tiles,
    ↓tryAnswer_tiles, ↓evalTake_tiles, ↓evalWindow_tiles, ↓evalStep_tiles, ↓evalRestart_tiles, ↓ite_tiles, ite_self]

theorem State.admitShare_tiles {x own u} (h : s.admitShare x own = .inr u) : u.tiles = s.tiles := by
  revert h
  fun_cases State.admitShare
  case case5 v hv => exact fun h => Sum.inr.inj h ▸ tryEffs_tiles hv
  all_goals simp only [reduceCtorEq, false_implies]

theorem State.sendLater_tiles {target coord num close body} : (s.sendLater target coord num close body).tiles = s.tiles := by
  simp only [State.sendLater, ↓newMsgId_tiles, ↓out_tiles]

theorem State.serveArm_tiles {r m} : (s.serveArm r m).tiles = s.tiles := by
  unfold State.serveArm
  split
  · dsimp only
    split <;> rename_i h
    · exact sendLater_tiles.trans (admitShare_tiles h)
    · simp only [↓bump_tiles, ↓sendLater_tiles, ↓ite_tiles, ite_self]
  · rfl

theorem State.serveSalvo_tiles {num} : (s.serveSalvo num).tiles = s.tiles := by
  unfold State.serveSalvo
  split
  · rfl
  · dsimp only
    split <;> rename_i h
    · rw [salvoArmed_tiles, onSalvo_tiles]
      split at h
      · rw [Sum.inr.inj h]
      · exact admitShare_tiles h
    · exact refuseSalvo_tiles.trans onSalvo_tiles

theorem State.doWork_tiles {later due x3} : (s.doWork later due x3).tiles = s.tiles := by
  fun_cases State.doWork <;> simp only [↓evalTake_tiles, ↓serveReq_tiles, ↓serveArm_tiles, ↓serveSalvo_tiles]

theorem State.decide_tiles {v commit} : (s.decide v commit).tiles = s.tiles := by
  simp only [State.decide, ↓replyC_tiles, ↓out_tiles, ↓outDecision_tiles, ↓salvoReply_tiles, ↓sendLater_tiles, ↓foldl_tiles, ↓ite_tiles, ite_self,
    implies_true]

theorem State.moveFailed_tiles {v b res chip} : (s.moveFailed v b res chip).tiles = s.tiles := by
  simp only [State.moveFailed, ↓bump_tiles, ↓event_tiles, ↓raise_tiles, ↓outs_tiles, ↓foldl_tiles, ↓ite_tiles, ite_self, implies_true]

theorem State.salvoRefused_tiles {v code res chip b} : (s.salvoRefused v code res chip b).tiles = s.tiles := by
  simp only [State.salvoRefused, ↓armOne_tiles, ↓decide_tiles, ↓moveFailed_tiles, ↓ite_tiles, ite_self]

theorem State.decideSalvos_tiles {b} : (s.decideSalvos b).tiles = s.tiles := by
  unfold State.decideSalvos
  refine foldl_tiles fun s x => ?_
  dsimp only
  (repeat' split) <;> simp only [↓bump_tiles, ↓event_tiles, ↓decide_tiles, ↓moveFailed_tiles, ↓salvoRefused_tiles, ↓foldl_tiles, implies_true]

theorem State.takeDecisions_tiles : s.takeDecisions.tiles = s.tiles := by
  simp only [State.takeDecisions, ↓out_tiles, ↓foldl_tiles, ↓tiles_mk, ↓xp_tiles, implies_true]

theorem State.carryShare_tiles {x b} : (s.carryShare x b).tiles = s.tiles := by
  simp only [State.carryShare, ↓out_tiles, ↓foldl_tiles, ↓ite_tiles, ite_self, implies_true]

theorem State.commitShares_tiles {b} : (s.commitShares b).tiles = s.tiles := by
  unfold State.commitShares
  refine foldl_tiles fun s x => ?_
  (repeat' split) <;> simp only [↓carryShare_tiles, ↓out_tiles, ↓raise_tiles]

theorem State.freeRoute_tiles {r levels b} : (s.freeRoute r levels b).tiles = s.tiles := by
  simp only [State.freeRoute, ↓out_tiles, ↓sendLater_tiles, ↓foldl_tiles, implies_true]

theorem State.freeRoutes_tiles {b} : (s.freeRoutes b).tiles = s.tiles := by
  simp only [State.freeRoutes, ↓freeRoute_tiles, ↓foldl_tiles, ↓ite_tiles, ite_self, implies_true]

theorem State.lostRoutes_tiles {b} : (s.lostRoutes b).tiles = s.tiles := by
  simp only [State.lostRoutes, ↓noteSteps_tiles, ↓armOne_tiles, ↓freeRoute_tiles, ↓foldl_tiles, ↓tiles_mk, ↓xp_tiles, implies_true]

theorem State.dropMoves_tiles : s.dropMoves.tiles = s.tiles := by
  simp only [State.dropMoves, ↓tiles_mk, ↓xp_tiles]

theorem State.armRestored_tiles : s.armRestored.tiles = s.tiles := by
  simp only [State.armRestored, ↓armOne_tiles, ↓foldl_tiles, ↓tiles_mk, ↓xp_tiles, implies_true]

theorem State.catchPaths_tiles {due} : (s.catchPaths due).tiles = s.tiles := by
  unfold State.catchPaths
  refine foldl_tiles fun s dest => foldl_tiles fun s lv => ?_
  dsimp only
  (repeat' split) <;> simp only [↓out_tiles]

theorem State.closeRest_tiles {b} : (s.closeRest b).tiles = s.tiles := by
  simp only [State.closeRest, ↓outs_tiles, ↓decideSalvos_tiles, ↓commitShares_tiles, ↓catchPaths_tiles, ↓tiles_mk, ↓xp_tiles]

theorem State.doWorks_tiles {due b} : (s.doWorks due b).tiles = s.tiles := by
  fun_cases State.doWorks
  case case1 u left x he held =>
    have hu : u.tiles = s.tiles := by
      rw [show u = (u, left, x).1 from rfl, ← he]
      refine foldl_fst_tiles fun b w => ?_
      dsimp only
      (repeat' split) <;> simp only [↓doWork_tiles]
    exact bump_tiles.trans (State.tiles_mk.trans hu)

theorem State.checkpoint_tiles : s.checkpoint.tiles = s.tiles := by
  simp only [State.checkpoint, ↓beginCheckpoint_tiles, ↓ite_tiles, ite_self]

theorem State.confirm_tiles {effs replies} : (s.confirm effs replies).tiles = s.tiles := by
  unfold State.confirm
  refine (foldl_tiles fun s e => ?_).trans ((foldl_tiles fun s r => reply_tiles).trans armAll_tiles)
  split <;> simp only [↓sendMsg_tiles, ↓note_tiles]

theorem State.admission_tiles {due b} : (s.admission due b).tiles = s.tiles := by
  simp only [State.admission, ↓withdraw_tiles, ↓withdrawRights_tiles, ↓withdrawSalvos_tiles, ↓decideSalvos_tiles, ↓takeDecisions_tiles,
    ↓freeRoutes_tiles, ↓lostRoutes_tiles, ↓dropMoves_tiles, ↓armRestored_tiles, ↓closeRest_tiles, ↓doWorks_tiles, ↓tiles_mk, ↓xp_tiles]

theorem State.sendCopy_tiles {close} : (s.sendCopy close).tiles = s.tiles := by
  fun_cases State.sendCopy <;> simp +zetaDelta only [↓bump_tiles, ↓peak_tiles, ↓dblData_tiles, ↓confirm_tiles, ↓tiles_mk, ↓xp_tiles]

theorem State.closeCycle_tiles {b} : (s.closeCycle b).tiles = s.tiles := by
  simp only [State.closeCycle, ↓settle_tiles, ↓checkpoint_tiles, ↓admission_tiles, ↓sendCopy_tiles, ↓ite_tiles, ite_self]

/-! ### Pins -/

theorem State.gpoShow_tiles {p level} : (s.gpoShow p level).tiles = s.tiles := by
  unfold State.gpoShow
  split <;> simp only [↓set_tiles, ↓bump_tiles, ↓ite_tiles, ite_self]

theorem State.tallies_tiles : s.tallies.tiles = s.tiles := by
  simp only [State.tallies, ↓gpoShow_tiles, ↓foldl_tiles, ↓ite_tiles, ite_self, implies_true]

theorem State.fireRefused_tiles {n res chip} : (s.fireRefused n res chip).2.tiles = s.tiles := by
  simp only [State.fireRefused, ↓event_tiles]

theorem State.fire_tiles {n} : (s.fire n).2.tiles = s.tiles := by
  fun_cases State.fire
  case case7 hn => simp only [↓armSalvo_tiles, ↓tiles_of_snd hn, ↓newSalvoNum_tiles, ↓tiles_mk, ↓xp_tiles]
  all_goals simp only [↓bump_tiles, ↓fireRefused_tiles]

theorem State.gpiEdge_tiles {p level} : (s.gpiEdge p level).tiles = s.tiles := by
  unfold State.gpiEdge
  dsimp only
  (repeat' split) <;> simp only [↓set_tiles, ↓bump_tiles, ↓event_tiles, ↓fire_tiles]

theorem State.pinSample_tiles {p level} : (s.pinSample p level).tiles = s.tiles := by
  simp only [State.pinSample, ↓set_tiles, ↓gpoShow_tiles, ↓gpiEdge_tiles, ↓ite_tiles, ↓tiles_mk, ↓xp_tiles, ite_self]

/-! ### The doubled pair -/

theorem State.roleFromOff_tiles : s.roleFromOff.tiles = s.tiles := by
  simp only [State.roleFromOff, ↓setRole_tiles, ↓ite_tiles, ↓tiles_mk, ↓xp_tiles, ite_self]

theorem State.recheck_tiles : s.recheck.tiles = s.tiles := by
  unfold State.recheck
  refine foldl_tiles fun s x => ?_
  (repeat' split) <;> simp only [↓sendVia_tiles, ↓endSession_tiles, ↓setSess_tiles]

theorem State.announce_tiles : s.announce.tiles = s.tiles := by
  simp only [State.announce, ↓sendEth_tiles]

theorem State.takeControl_tiles {role advance} : (s.takeControl role advance).tiles = s.tiles := by
  simp only [State.takeControl, ↓bump_tiles, ↓setRole_tiles, ↓recheck_tiles, ↓announce_tiles, ↓ite_tiles, ↓tiles_mk, ↓xp_tiles, ite_self]

theorem State.dropUnarmed_tiles : s.dropUnarmed.tiles = s.tiles := by
  simp only [State.dropUnarmed, ↓tiles_mk, ↓xp_tiles]

theorem State.detach_tiles : s.detach.tiles = s.tiles := by
  simp only [State.detach, ↓setRole_tiles, ↓countYield_tiles, ↓quietLater_tiles, ↓dropUnarmed_tiles, ↓tiles_mk, ↓xp_tiles]

theorem State.dualControl_tiles : s.dualControl.tiles = s.tiles := by
  simp only [State.dualControl, ↓peak_tiles, ↓errNamed_tiles, ↓detach_tiles, ↓ite_tiles, ite_self]

theorem State.alone_tiles : s.alone.tiles = s.tiles := by
  fun_cases State.alone <;> simp only [↓confirm_tiles, ↓tiles_mk, ↓xp_tiles]

theorem State.bulkDone_tiles : s.bulkDone.tiles = s.tiles := by
  simp only [State.bulkDone, ↓reply_tiles, ↓foldl_tiles, ↓tiles_mk, ↓xp_tiles, implies_true]

theorem State.twinSays_tiles {h} : (s.twinSays h).tiles = s.tiles := by
  fun_cases State.twinSays <;> simp +zetaDelta only [↓setRole_tiles, ↓roleFromOff_tiles, ↓takeControl_tiles, ↓alone_tiles, ↓bulkDone_tiles,
    ↓ite_tiles, ↓tiles_mk, ↓xp_tiles, ite_self]

theorem State.applyCopy_tiles {effs close} : (s.applyCopy effs close).tiles = s.tiles := by
  simp only [State.applyCopy, ↓settle_tiles, ↓applyEffs_tiles, ↓tiles_mk, ↓xp_tiles]

theorem State.confirmCopy_tiles {effs close} : (s.confirmCopy effs close).tiles = s.tiles := by
  simp only [State.confirmCopy, ↓bump_tiles, ↓peak_tiles, ↓dblSend_tiles, ↓confirm_tiles, ↓applyCopy_tiles, ↓tiles_mk, ↓xp_tiles]

theorem State.copyFailed_tiles {close} : (s.copyFailed close).tiles = s.tiles := by
  simp only [State.copyFailed, ↓setRole_tiles, ↓countYield_tiles, ↓quietLater_tiles, ↓dblSend_tiles, ↓errNamed_tiles, ↓ite_tiles, ↓tiles_mk,
    ↓xp_tiles, ite_self]

theorem State.snapBase_tiles : s.snapBase.tiles = s.tiles := by
  simp only [State.snapBase, ↓setDst_tiles, ↓setOut_tiles, ↓setHead_tiles, ↓foldl_tiles, ↓ite_tiles, ↓tiles_mk, ↓xp_tiles, ite_self, implies_true]

theorem State.skeinAct_tiles {port m} : (s.skeinAct port m).tiles = s.tiles := by
  fun_cases State.skeinAct <;> simp only [↓reportAct_tiles, ↓tiles_mk, ↓xp_tiles]

theorem State.swapAccept_tiles {reqs} : (s.swapAccept reqs).tiles = s.tiles := by
  unfold State.swapAccept
  simp only [↓foldl_tiles, ↓tiles_mk, ↓xp_tiles, implies_true]
  refine (foldl_tiles fun s r => ?_).trans State.tiles_mk
  (repeat' split) <;> simp only [↓setSess_tiles, ↓skeinAct_tiles, ↓tiles_mk, ↓xp_tiles]

theorem State.swapInstant_tiles : s.swapInstant.tiles = s.tiles := by
  unfold State.swapInstant
  split <;> simp only [↓bump_tiles, ↓emit_tiles, ↓setRole_tiles, ↓takeControl_tiles, ↓tiles_mk, ↓xp_tiles]

theorem State.redate_tiles {b} : (s.redate b).tiles = s.tiles := by
  simp only [State.redate, ↓tiles_mk, ↓xp_tiles]

theorem State.defer_tiles {end_} : (s.defer end_).tiles = s.tiles := by
  unfold State.defer
  split <;> simp only [↓redate_tiles, ↓tiles_mk, ↓xp_tiles]

theorem State.sendClaim_tiles : s.sendClaim.tiles = s.tiles := by
  simp only [State.sendClaim, ↓emit_tiles, ↓sendUnits_tiles, ↓foldl_tiles, implies_true]

theorem State.linkDown_tiles : s.linkDown.tiles = s.tiles := by
  simp only [State.linkDown, ↓set_tiles, ↓noteMirrors_tiles, ↓tiles_mk, ↓xp_tiles]

theorem State.dblDown_tiles : s.dblDown.tiles = s.tiles := by
  simp only [State.dblDown, ↓quietAll_tiles, ↓setRole_tiles, ↓dropUnarmed_tiles, ↓linkDown_tiles, ↓ite_tiles, ↓tiles_mk, ↓xp_tiles, ite_self]

theorem State.dblUp_tiles : s.dblUp.tiles = s.tiles := by
  simp only [State.dblUp, ↓roleFromOff_tiles, ↓ite_tiles, ite_self]

/-! ### Staging -/

theorem State.badImage_tiles {c detail} : (s.badImage c detail).tiles = s.tiles := by
  simp only [State.badImage, ↓stageDiscard_tiles, ↓set_tiles, ↓reply_tiles]

/-! ### The start -/

theorem State.fallen_tiles : s.fallen.tiles = List.replicate 8 .out := by
  simp only [State.fallen, ↓tiles_mk]

theorem State.halt_tiles {code detail offset} : (s.halt code detail offset).tiles = s.tiles := by
  simp only [State.halt, ↓status_tiles, ↓report_tiles, ↓ite_tiles, ↓tiles_mk, ↓xp_tiles, ite_self]

theorem State.startKeys_tiles {w} : (s.startKeys w).tiles = s.tiles := by
  simp only [State.startKeys, ↓set_tiles, ↓clearWindow_tiles, ↓drawHalf_tiles, ↓loadSlots_tiles, ↓ite_tiles, ↓tiles_mk, ↓xp_tiles, ite_self]

theorem State.journalEnd_tiles : s.journalEnd.tiles = s.tiles := by
  simp only [State.journalEnd, ↓tiles_mk, ↓xp_tiles]

theorem State.logEnd_tiles : s.logEnd.tiles = s.tiles := by
  simp only [State.logEnd, ↓tiles_mk, ↓xp_tiles]

theorem State.startEvents_tiles {skipped} : (s.startEvents skipped).tiles = s.tiles := by
  simp only [State.startEvents, ↓event_tiles, ↓aonLost_tiles, ↓foldl_tiles, ↓ite_tiles, ↓tiles_mk, ↓xp_tiles, ite_self, implies_true]

theorem State.clusterOn_tiles {c} : (s.clusterOn c).tiles = s.tiles := by
  simp only [State.clusterOn, ↓portOn_tiles, ↓setRxState_tiles, ↓strandsOn_tiles, ↓foldl_tiles, ↓ite_tiles, ite_self, implies_true]

theorem State.mgmtOn_tiles : s.mgmtOn.tiles = s.tiles := by
  simp only [State.mgmtOn, ↓portOn_tiles, ↓foldl_tiles, implies_true]

theorem State.destStart_tiles : s.destStart.tiles = s.tiles := by
  simp only [State.destStart, ↓setDst_tiles, ↓foldl_tiles, implies_true]

theorem State.configure_tiles_length {l} : (s.configure l).tiles.length = s.tiles.length := by
  simp only [State.configure, ↓set_tiles, ↓fresh_tiles, ↓stageShow_tiles, ↓fltSync_tiles, ↓status_tiles, ↓err_tiles, ↓whlShow_tiles,
    ↓pulseShow_tiles, ↓utcShow_tiles, ↓firstTime_tiles, ↓consumers_tiles, ↓evacShow_tiles, ↓flowStart_tiles, ↓audServe_tiles, ↓journalEnd_tiles,
    ↓logEnd_tiles, ↓startEvents_tiles, ↓clusterOn_tiles, ↓mgmtOn_tiles, ↓destStart_tiles, ↓setTile_tiles, ↓foldl_tiles, ↓foldl_tiles_length,
    ↓ite_tiles, ↓tiles_mk, ↓xp_tiles, ite_self, implies_true, List.length_set]

theorem State.opened_tiles {w} : (s.opened w).tiles = s.tiles := by
  simp only [State.opened, ↓set_tiles, ↓zeroStage_tiles, ↓startKeys_tiles, ↓ite_tiles, ↓tiles_mk, ↓xp_tiles, ite_self]

theorem State.startWindow_tiles {v} : (s.startWindow v).tiles = s.tiles := by
  simp only [State.startWindow, ↓fresh_tiles, ↓ite_snd_tiles, ↓tiles_mk, ↓xp_tiles, ite_self]

theorem State.delayStart_tiles : s.delayStart.tiles = s.tiles := by
  simp only [State.delayStart, ↓setDst_tiles, ↓foldl_tiles, implies_true]

theorem State.storeStart_tiles : s.storeStart.tiles = s.tiles := by
  simp only [State.storeStart, ↓bankClear_tiles, ↓loadStill_tiles, ↓loadSafety_tiles, ↓foldl_tiles, ↓ite_tiles, ite_self, implies_true]

theorem State.groupG_tiles : s.groupG.tiles = s.tiles := by
  simp only [State.groupG, ↓audStart_tiles, ↓headStart_tiles, ↓syncBobbins_tiles, ↓startWindow_tiles, ↓delayStart_tiles, ↓storeStart_tiles,
    ↓foldl_tiles, implies_true]

theorem State.dropFar_tiles {dest lv} : (s.dropFar dest lv).tiles = s.tiles := by
  simp only [State.dropFar, ↓tiles_mk, ↓xp_tiles]

theorem State.levelFill_tiles {dest lv mode prio} : (s.levelFill dest lv mode prio).tiles = s.tiles := by
  simp only [State.levelFill, ↓dropFar_tiles, ↓applyEff_tiles]

theorem State.replayLevel_tiles {dest lv mode src prio u} (h : s.replayLevel dest lv mode src prio = .inl u) : u.tiles = s.tiles := by
  revert h
  fun_cases State.replayLevel
  case case2 => exact fun h => Sum.inl.inj h ▸ levelFill_tiles
  case case3 => exact fun h => Sum.inl.inj h ▸ State.tiles_mk.trans levelFill_tiles
  case case5 v _ => exact fun h => Sum.inl.inj h ▸ applyEff_tiles.trans dropFar_tiles
  all_goals rintro ⟨⟩

theorem State.replayWindow_tiles {v u} (h : s.replayWindow v = .inl u) : u.tiles = s.tiles := by
  revert h
  fun_cases State.replayWindow
  case case4 v _ _ => exact fun h => Sum.inl.inj h ▸ startWindow_tiles.trans State.tiles_mk
  all_goals rintro ⟨⟩

theorem State.replayFlow_tiles {i legs u} (h : s.replayFlow i legs = .inl u) : u.tiles = s.tiles := by
  revert h
  fun_cases State.replayFlow
  case case1 => rintro ⟨⟩
  case case2 hi _ => exact fun h => Sum.inl.inj h ▸ event_tiles.trans ((tiles_of_snd hi).trans flowInsert_tiles)
  case case3 v hi _ w x =>
    rintro ⟨⟩
    have hv : v.tiles = s.tiles := (tiles_of_snd hi).trans flowInsert_tiles
    simp only [↓flowSwitch_tiles, ↓setFlow_tiles, w, ↓foldl_tiles, ↓joinLeg_tiles, ↓ite_tiles, hv, ite_self, implies_true]

theorem State.replayItem_tiles {i u} (h : s.replayItem i = .inl u) : u.tiles = s.tiles := by
  revert h
  fun_cases State.replayItem
  case case1 => exact replayLevel_tiles
  case case3 fits _ _ _ _ =>
    simp only [fits]
    split
    · exact fun h => Sum.inl.inj h ▸ setDst_tiles
    · rintro ⟨⟩
  case case5 => exact fun h => Sum.inl.inj h ▸ setOut_tiles
  case case8 => exact fun h => Sum.inl.inj h ▸ setBus_tiles
  case case10 fits _ _ _ _ _ =>
    simp only [fits]
    split
    · exact fun h => Sum.inl.inj h ▸ State.tiles_mk
    · rintro ⟨⟩
  case case12 => exact replayWindow_tiles
  case case14 => exact fun h => Sum.inl.inj h ▸ State.tiles_mk
  case case16 => exact fun h => Sum.inl.inj h ▸ setHead_tiles
  case case17 => exact replayFlow_tiles
  all_goals rintro ⟨⟩

theorem State.itemDropped_tiles {i} : (s.itemDropped i).tiles = s.tiles := by
  fun_cases State.itemDropped <;> simp only [↓levelFill_tiles]

theorem State.notRestored_tiles {i res chip} : (s.notRestored i res chip).tiles = s.tiles := by
  simp only [State.notRestored, ↓bump_tiles, ↓fresh_tiles, ↓event_tiles]

theorem State.replay_tiles : s.replay.tiles = s.tiles := by
  unfold State.replay
  split
  · rfl
  · split
    · rfl
    · split
      · exact event_tiles
      · refine foldl_tiles fun s i => ?_
        split <;> rename_i h
        · exact bump_tiles.trans (replayItem_tiles h)
        · exact notRestored_tiles.trans itemDropped_tiles

theorem State.copyEvents_tiles : s.copyEvents.tiles = s.tiles := by
  unfold State.copyEvents
  dsimp only
  (repeat' split) <;> simp only [↓event_tiles, ↓raise_tiles, ↓tiles_mk, ↓xp_tiles]

/-! ### The switching point -/

theorem State.mixedShot_tiles {format under paced lost size gone} : (s.mixedShot format under paced lost size gone).2.tiles = s.tiles := by
  simp only [State.mixedShot, ↓freePic_tiles]

theorem State.ringShot_tiles {c format n d k num} : (s.ringShot c format n d k num).2.tiles = s.tiles := by
  fun_cases State.ringShot <;> simp only [↓mixedShot_tiles]

theorem State.directShot_tiles {c format n d k rate} : (s.directShot c format n d k rate).2.tiles = s.tiles := by
  fun_cases State.directShot <;> simp only [↓mixedShot_tiles]

theorem State.videoOf_tiles {dest d n} : (s.videoOf dest d n).2.tiles = s.tiles := by
  fun_cases State.videoOf <;> simp only [↓mixedShot_tiles, ↓ringShot_tiles, ↓directShot_tiles]

theorem State.ancLeft_tiles {l lost gone} : (s.ancLeft l lost gone).2.tiles = s.tiles := by
  fun_cases State.ancLeft <;> simp only [↓tiles_mk, ↓xp_tiles]

theorem State.ancOf_tiles {dest d n} : (s.ancOf dest d n).2.tiles = s.tiles := by
  unfold State.ancOf
  dsimp only
  (repeat' split) <;> simp only [↓ancLeft_tiles]

theorem State.emitSdi_tiles {dest n v d f} : (s.emitSdi dest n v d f).tiles = s.tiles := by
  fun_cases State.emitSdi
  case case1 rest k hp lanes u v w =>
    have hu : u.tiles = s.tiles := foldl_tiles fun s l => by simp only [↓set_tiles, ↓bump_tiles]
    have hw : w.tiles = u.tiles := by simp only [w, v, ↓ite_tiles, ↓tiles_mk, ↓xp_tiles, ↓bump_tiles, ite_self]
    exact emit_tiles.trans (hw.trans hu)

theorem State.countSeq_tiles {v b} : (s.countSeq v b).tiles = s.tiles := by
  simp only [State.countSeq, ↓set_tiles, ↓emitPkts_tiles, ↓tiles_mk, ↓xp_tiles]

theorem State.typeOut_tiles {v paced} : (s.typeOut v paced).tiles = s.tiles := by
  simp only [State.typeOut, ↓set_tiles, ↓fresh_tiles, ↓ite_tiles, ite_self]

theorem State.withheld_tiles {x p hit} : (s.withheld x p hit).2.tiles = s.tiles := by
  unfold State.withheld
  split <;> simp only [↓fresh_tiles]

theorem State.emitVideo_tiles {format n x v} : (s.emitVideo format n x v).tiles = s.tiles := by
  simp only [State.emitVideo, ↓set_tiles, ↓bump_tiles, ↓emitPkts_tiles, ↓typeOut_tiles, ↓withheld_tiles]

theorem State.emitXs_tiles {format n x v} : (s.emitXs format n x v).tiles = s.tiles := by
  simp only [State.emitXs, ↓bump_tiles, ↓fresh_tiles, ↓countSeq_tiles, ↓typeOut_tiles, ↓withheld_tiles, ↓ite_snd_tiles, ite_self]

theorem State.emitAnc_tiles {format n f first v} : (s.emitAnc format n f first v).tiles = s.tiles := by
  simp only [State.emitAnc, ↓bump_tiles, ↓countSeq_tiles]

theorem State.emitFlow_tiles {format n f first v} : (s.emitFlow format n f first v).tiles = s.tiles := by
  fun_cases State.emitFlow <;> simp only [↓emitVideo_tiles, ↓emitXs_tiles, ↓emitAnc_tiles]

theorem State.emitIp_tiles {dest n v f} : (s.emitIp dest n v f).tiles = s.tiles := by
  simp only [State.emitIp, ↓emit_tiles, ↓emitFlow_tiles, ↓foldl_tiles, implies_true]

theorem State.finish_tiles {dest n v d} : (s.finish dest n v d).tiles = s.tiles := by
  simp only [State.finish, ↓bump_tiles, ↓setDst_tiles, ↓measure_tiles, ↓videoOf_tiles, ↓ancOf_tiles, ↓emitSdi_tiles, ↓emitIp_tiles, ↓ite_tiles,
    ite_self]

theorem State.cutShort_tiles {dest d} : (s.cutShort dest d).tiles = s.tiles := by
  unfold State.cutShort
  refine foldl_tiles fun s x => ?_
  (repeat' split) <;> simp only [↓foldl_tiles, ↓amendAt_tiles, ↓ite_tiles, ite_self, implies_true]

theorem State.pay_tiles {dest} : (s.pay dest).tiles = s.tiles := by
  unfold State.pay
  split <;> simp only [↓finish_tiles, ↓cutShort_tiles, ↓ite_tiles, ↓tiles_mk, ↓xp_tiles, ite_self]

theorem State.payAll_tiles : s.payAll.tiles = s.tiles := by
  simp only [State.payAll, ↓pay_tiles, ↓foldl_tiles, ↓ite_tiles, ite_self, implies_true]

theorem State.endFrame_tiles {dest v} : (s.endFrame dest v).tiles = s.tiles := by
  simp only [State.endFrame, ↓finish_tiles, ↓pay_tiles, ↓ite_tiles, ↓tiles_mk, ↓xp_tiles, ite_self]

theorem State.openRead_tiles {k f l prev} : (s.openRead k f l prev).tiles = s.tiles := by
  fun_cases State.openRead <;> simp only [↓setRing_tiles]

theorem State.closeWrite_tiles {k} : (s.closeWrite k).tiles = s.tiles := by
  fun_cases State.closeWrite <;> simp only [↓setRing_tiles]

theorem State.switchLevel_tiles {dest lv a p} : (s.switchLevel dest lv a p).tiles = s.tiles := by
  unfold State.switchLevel
  dsimp only
  (repeat' split) <;> simp only [↓setDst_tiles, ↓journalAdd_tiles, ↓audioTake_tiles, ↓openRead_tiles, ↓closeWrite_tiles]

theorem State.switchDue_tiles {dest a} : (s.switchDue dest a).2.tiles = s.tiles := by
  simp only [State.switchDue, ↓err_tiles, ↓onLevel_tiles, ↓switchLevel_tiles, ↓ite_snd_tiles, ↓foldl_snd_tiles, ite_self, implies_true]

theorem State.switchEvents_tiles {dest l} : (s.switchEvents dest l).tiles = s.tiles := by
  simp only [State.switchEvents, ↓bump_tiles, ↓event_tiles, ↓foldl_tiles, implies_true]

theorem State.switchDelay_tiles {dest a} : (s.switchDelay dest a).tiles = s.tiles := by
  fun_cases State.switchDelay
  case case2 u v =>
    refine journalAdd_tiles.trans ((foldl_tiles fun s y => ?_).trans setDst_tiles)
    split <;> simp only [↓openRead_tiles, ↓ite_tiles, ite_self]
  all_goals rfl

theorem State.switchPath_tiles {dest a} : (s.switchPath dest a).tiles = s.tiles := by
  unfold State.switchPath
  refine foldl_tiles fun s x => ?_
  dsimp only
  (repeat' split) <;> simp only [↓bump_tiles, ↓setDst_tiles, ↓onLevel_tiles]

theorem State.readNext_tiles {k dest n} : (s.readNext k dest n).tiles = s.tiles := by
  simp only [State.readNext, ↓openRead_tiles, ↓selectFrame_tiles]

theorem State.choose_tiles {dest n lv y x} : (s.choose dest n lv y x).2.2.tiles = s.tiles := by
  unfold State.choose
  split <;> simp only [↓stillRead_tiles, ↓readNext_tiles, ↓ite_snd_snd_tiles, ↓ite_tiles, ite_self]

theorem State.setLive_tiles {dest v live} : (s.setLive dest v live).tiles = s.tiles := by
  simp only [State.setLive, ↓set_tiles, ↓setDst_tiles, ↓flowQuiet_tiles, ↓foldl_tiles, ↓ite_tiles, ite_self, implies_true]

theorem State.switch_tiles {dest n a v} : (s.switch dest n a v).tiles = s.tiles := by
  simp only [State.switch, ↓setDst_tiles, ↓flipDest_tiles, ↓matchSlots_tiles, ↓evacSlots_tiles, ↓tallies_tiles, ↓endFrame_tiles, ↓switchDue_tiles,
    ↓switchEvents_tiles, ↓switchDelay_tiles, ↓switchPath_tiles, ↓choose_tiles, ↓setLive_tiles]

/-! ### Frames of own sources -/

theorem State.strandSend_tiles {p k lv rate} : (s.strandSend p k lv rate).tiles = s.tiles := by
  fun_cases State.strandSend <;> simp +zetaDelta only [↓sendMedia_tiles, ↓tiles_mk, ↓xp_tiles]

theorem State.strandSends_tiles : s.strandSends.tiles = s.tiles := by
  simp only [State.strandSends, ↓strandSend_tiles, ↓foldl_tiles, implies_true]

theorem State.slotsSend_tiles {q p k} : (s.slotsSend q p k).tiles = s.tiles := by
  unfold State.slotsSend
  simp only [↓setStrand_tiles, ↓strandRun_tiles]
  refine foldl_tiles fun s j => ?_
  split <;> simp only [↓emit_tiles]

theorem State.slotSends_tiles {q} : (s.slotSends q).tiles = s.tiles := by
  simp only [State.slotSends, ↓slotsSend_tiles, ↓foldl_tiles, implies_true]

/-! ### The house frame boundary -/

theorem State.flipBank_tiles {k} : (s.flipBank k).tiles = s.tiles := by
  simp only [State.flipBank, ↓bump_tiles, ↓setBanks_tiles, ↓ite_tiles, ite_self]

theorem State.flipBanks_tiles : s.flipBanks.tiles = s.tiles := by
  simp only [State.flipBanks, ↓flipBank_tiles, ↓foldl_tiles, implies_true]

theorem State.timeDue_tiles : s.timeDue.tiles = s.tiles := by
  unfold State.timeDue
  dsimp only
  (repeat' split) <;> simp only [↓whlShow_tiles, ↓switchRef_tiles, ↓reselect_tiles, ↓tiles_mk, ↓xp_tiles]

theorem State.clearDue_tiles : s.clearDue.tiles = s.tiles := by
  fun_cases State.clearDue <;> simp only [↓evacCleared_tiles, ↓tiles_mk, ↓xp_tiles]

theorem State.swapDue_tiles : s.swapDue.tiles = s.tiles := by
  simp only [State.swapDue, ↓swapInstant_tiles, ↓ite_tiles, ite_self]

theorem State.freeQuiet_tiles : s.freeQuiet.tiles = s.tiles := by
  simp only [State.freeQuiet, ↓flowQuiet_tiles, ↓foldl_tiles, implies_true]

theorem State.restartDue_tiles_length (h : s.tiles.length = 8) : s.restartDue.tiles.length = 8 := by
  fun_cases State.restartDue
  case case2 => simp only [↓fallen_tiles, List.length_replicate]
  all_goals exact h

theorem State.hystDue_tiles : s.hystDue.tiles = s.tiles := by
  simp only [State.hystDue, ↓applyEffs_tiles, ↓tiles_mk, ↓xp_tiles]

/-! ### Island resets -/

theorem State.resetResolve_tiles {isl} : (s.resetResolve isl).tiles = s.tiles := by
  simp only [State.resetResolve, ↓tiles_mk, ↓xp_tiles]

theorem State.linksDown_tiles {ps} : (s.linksDown ps).tiles = s.tiles := by
  simp only [State.linksDown, ↓setPortState_tiles, ↓foldl_tiles, ↓ite_tiles, ite_self, implies_true]

theorem State.pcDown_tiles {c} : (s.pcDown c).tiles = s.tiles := by
  simp only [State.pcDown, ↓clearWindow_tiles, ↓setDst_tiles, ↓beginReset_tiles, ↓setHead_tiles, ↓sendLinks_tiles, ↓strandDown_tiles,
    ↓linksDown_tiles, ↓foldl_tiles, ↓ite_tiles, ↓tiles_mk, ↓xp_tiles, ite_self, implies_true]

theorem State.seqBack_tiles {c} : (s.seqBack c).tiles = s.tiles := by
  simp only [State.seqBack, ↓tiles_mk, ↓xp_tiles]

theorem State.pcUp_tiles {c} : (s.pcUp c).tiles = s.tiles := by
  simp only [State.pcUp, ↓set_tiles, ↓flowRebuild_tiles, ↓setHead_tiles, ↓winShow_tiles, ↓headShow_tiles, ↓gpoShow_tiles, ↓clusterOn_tiles,
    ↓seqBack_tiles, ↓foldl_tiles, ↓ite_tiles, ite_self, implies_true]

theorem State.spnKept_tiles : s.spnKept.tiles = s.tiles := by
  simp only [State.spnKept, ↓setWord_tiles, ↓clearWindow_tiles, ↓foldl_tiles, implies_true]

theorem State.spnDown_tiles : s.spnDown.tiles = s.tiles := by
  simp only [State.spnDown, ↓set_tiles, ↓bump_tiles, ↓quietAll_tiles, ↓stageDiscard_tiles, ↓setRole_tiles, ↓beginReset_tiles, ↓dropUnarmed_tiles,
    ↓linksDown_tiles, ↓spnKept_tiles, ↓ite_tiles, ↓tiles_mk, ↓xp_tiles, ite_self]

theorem State.logNext_tiles : s.logNext.tiles = s.tiles := by
  simp only [State.logNext, ↓tiles_mk, ↓xp_tiles]

theorem State.spnUp_tiles {good} : (s.spnUp good).tiles = s.tiles := by
  simp only [State.spnUp, ↓set_tiles, ↓stageShow_tiles, ↓logOne_tiles, ↓f4_tiles, ↓roleFromOff_tiles, ↓mgmtOn_tiles, ↓resetResolve_tiles,
    ↓logNext_tiles, ↓ite_tiles, ↓tiles_mk, ↓xp_tiles, ite_self]

theorem State.fence_tiles_length {isl} : (s.fence isl).tiles.length = s.tiles.length := by
  simp only [State.fence, ↓set_tiles, ↓clearWindow_tiles, ↓fresh_tiles, ↓raise_tiles, ↓beginReset_tiles, ↓tileFail_tiles_length, ↓dgDown_tiles,
    ↓whlDown_tiles, ↓keyDown_tiles, ↓bootDown_tiles, ↓audDown_tiles, ↓dblDown_tiles, ↓pcDown_tiles, ↓spnDown_tiles, ↓ite_tiles, apply_ite
    List.length, ite_self]

theorem State.handshakeLost_tiles_length {f a} : (s.handshakeLost f a).tiles.length = s.tiles.length := by
  simp only [State.handshakeLost, ↓err_tiles, ↓tileFail_tiles_length, ↓dgDown_tiles, ↓fence_tiles_length, ↓ite_tiles, apply_ite List.length,
    ite_self]

theorem State.rearm_tiles_length {isl good} : (s.rearm isl good).tiles.length = s.tiles.length := by
  simp only [State.rearm, ↓set_tiles, ↓clearWindow_tiles, ↓resolve_tiles, ↓tileDone_tiles_length, ↓dgUp_tiles, ↓whlUp_tiles, ↓keyUp_tiles,
    ↓audUp_tiles, ↓dblUp_tiles, ↓resetResolve_tiles, ↓pcUp_tiles, ↓spnUp_tiles, ↓ite_tiles, apply_ite List.length, ite_self]

/-! ### What registers show -/

theorem State.foldAll_tiles {a} : (s.foldAll a).tiles = s.tiles := by
  fun_cases State.foldAll <;> simp only [↓foldCount_tiles, ↓foldPulse_tiles]

/-! ### Register reads -/

theorem State.rcTake_tiles {a} : (s.rcTake a).tiles = s.tiles := by
  unfold State.rcTake
  split <;> simp only [↓setWord_tiles, ↓readCounter_tiles, ↓foldAll_tiles, ↓ite_tiles, ↓tiles_mk, ↓xp_tiles, ite_self]

theorem State.latchHigh_tiles {a} : (s.latchHigh a).tiles = s.tiles := by
  rcases h : s.highOf a with _ | ⟨k, v⟩
  · rw [State.latchHigh_of_none h]
  · rw [State.latchHigh_of_some h, setWord_tiles]

theorem State.readReg_tiles {a} : (s.readReg a).2.tiles = s.tiles := by
  simp only [State.readReg, ↓xrdNext_tiles, ↓rcTake_tiles, ↓latchHigh_tiles, ↓ite_snd_tiles, ite_self]

theorem State.sicpRead_tiles {a} : (s.sicpRead a).2.tiles = s.tiles := by
  simp only [State.sicpRead, ↓readReg_tiles, ↓tiles_mk, ↓xp_tiles]

theorem State.writeReg_tiles {a v mask} : (s.writeReg a v mask).tiles = s.tiles := by
  simp only [State.writeReg, ↓setWord_tiles, ↓halfClear_tiles, ↓xrdOpen_tiles, ↓ite_tiles, ite_self]

theorem State.readWords_tiles {one a n} (h : ∀ s a, (one s a).2.tiles = s.tiles) : (s.readWords one a n).2.tiles = s.tiles := by
  induction n generalizing s a with
  | zero => rfl
  | succ n ih => exact ih.trans (h s a)

theorem State.countersRead_tiles {a} : (s.countersRead a).2.tiles = s.tiles := by
  fun_cases State.countersRead <;> simp only [↓sicpRead_tiles]

/-! ### DMA channels and register writes -/

theorem State.regBytes_tiles {a n} : (s.regBytes a n).2.tiles = s.tiles := by
  exact readWords_tiles fun s a => readReg_tiles

theorem State.dmaRead_tiles {c a n} : (s.dmaRead c a n).2.tiles = s.tiles := by
  simp only [State.dmaRead, ↓regBytes_tiles, ↓ite_snd_tiles, ↓tiles_mk, ↓xp_tiles, ite_self]

theorem State.dmaWrite_tiles {c a v} : (s.dmaWrite c a v).tiles = s.tiles := by
  simp only [State.dmaWrite, ↓writeReg_tiles, ↓foldl_tiles, ↓ite_tiles, ↓tiles_mk, ↓xp_tiles, ite_self, implies_true]

theorem State.setDma_tiles {c x} : (s.setDma c x).tiles = s.tiles := by
  simp only [State.setDma, ↓tiles_mk, ↓xp_tiles]

theorem State.dmaRest_tiles {c st} : (s.dmaRest c st).tiles = s.tiles := by
  simp only [State.dmaRest, ↓set_tiles, ↓setDma_tiles, ↓tiles_mk, ↓xp_tiles]

theorem State.dmaHalt_tiles {c resp addr write typ} : (s.dmaHalt c resp addr write typ).tiles = s.tiles := by
  simp only [State.dmaHalt, ↓set_tiles, ↓bump_tiles, ↓matrixResponse_tiles, ↓setDma_tiles, ↓dmaRest_tiles, ↓ite_tiles, ite_self]

theorem State.dmaTake_tiles {c x p q} : (s.dmaTake c x p q).2.tiles = s.tiles := by
  simp only [State.dmaTake, ↓dmaRead_tiles, ↓ite_snd_tiles, ↓foldl_snd_tiles, ite_self, implies_true]

theorem State.dmaGive_tiles {c x p v} : (s.dmaGive c x p v).tiles = s.tiles := by
  simp only [State.dmaGive, ↓dmaWrite_tiles, ↓foldl_tiles, ↓ite_tiles, ite_self, implies_true]

theorem State.dmaMove_tiles {c d fail x4} : (s.dmaMove c d fail x4).tiles = s.tiles := by
  fun_induction State.dmaMove
  case case1 | case6 => rfl
  case case2 | case4 => exact dmaHalt_tiles
  case case3 ih => rw [ih, setDma_tiles, dmaTake_tiles]
  case case5 ih => rw [ih, set_tiles, setDma_tiles, dmaGive_tiles]

theorem State.dmaBlock_tiles {c fail} : (s.dmaBlock c fail).tiles = s.tiles := by
  simp only [State.dmaBlock, ↓set_tiles, ↓setDma_tiles, ↓dmaMove_tiles, ↓ite_tiles, ite_self]

theorem State.dmaFetch_tiles {c off fail} : (s.dmaFetch c off fail).tiles = s.tiles := by
  simp only [State.dmaFetch, ↓set_tiles, ↓setDma_tiles, ↓dmaHalt_tiles, ↓dmaBlock_tiles, ↓ite_tiles, ↓tiles_mk, ↓xp_tiles, ite_self]

theorem State.dmaGo_tiles {c fail} : (s.dmaGo c fail).tiles = s.tiles := by
  simp only [State.dmaGo, ↓set_tiles, ↓dmaRest_tiles, ↓dmaFetch_tiles, ↓ite_tiles, ite_self]

theorem State.dmaStop_tiles {c} : (s.dmaStop c).tiles = s.tiles := by
  simp only [State.dmaStop, ↓set_tiles, ↓dmaRest_tiles, ↓ite_tiles, ite_self]

theorem State.dmaEvent_tiles {c fail} : (s.dmaEvent c fail).tiles = s.tiles := by
  simp only [State.dmaEvent, ↓set_tiles, ↓bump_tiles, ↓dmaBlock_tiles, ↓ite_tiles, ite_self]

theorem State.notify_tiles {c} : (s.notify c).tiles = s.tiles := by
  simp only [State.notify, ↓setDma_tiles, ↓foldl_tiles, ↓ite_tiles, ite_self, implies_true]

theorem State.dmaDone_tiles {c fail} : (s.dmaDone c fail).tiles = s.tiles := by
  simp only [State.dmaDone, ↓set_tiles, ↓bump_tiles, ↓setDma_tiles, ↓dmaRest_tiles, ↓dmaFetch_tiles, ↓notify_tiles, ↓ite_tiles, ite_self]

end

/-! ### Outcomes -/

/-- The tiles keep their states along an outcome that is a next state. -/
def KeepsTiles (s : State) (o : Host.Outcome State Fault Refusal) : Prop := ∀ s', o = .next s' → s'.tiles = s.tiles

/-- Eight tiles stay eight tiles along an outcome that is a next state. -/
def KeepsEightTiles (s : State) (o : Host.Outcome State Fault Refusal) : Prop :=
  s.tiles.length = 8 → ∀ s', o = .next s' → s'.tiles.length = 8

section
variable {s u : State} {t : Time} {f : State → State} {o o' : Host.Outcome State Fault Refusal}

theorem State.at_tiles : (s.at_ t).tiles = s.tiles := by
  simp only [State.at_, ↓tiles_mk, ↓xp_tiles]

theorem KeepsTiles.next (h : u.tiles = s.tiles) : KeepsTiles s (.next u) := fun _ e => Host.Outcome.next.inj e ▸ h

theorem KeepsTiles.ite {p : Prop} [Decidable p] (h : KeepsTiles s o) (h' : KeepsTiles s o') : KeepsTiles s (if p then o else o') := by
  split <;> assumption

theorem KeepsTiles.live (hf : ∀ s, (f s).tiles = s.tiles) : KeepsTiles s (live t s f) :=
  .ite (.next State.at_tiles) (.next ((hf _).trans State.at_tiles))

theorem KeepsTiles.released (hf : ∀ s, (f s).tiles = s.tiles) : KeepsTiles s (released t s f) :=
  .live fun s => by split <;> [exact hf s; rfl]

theorem KeepsTiles.served (hf : ∀ s, (f s).tiles = s.tiles) : KeepsTiles s (served t s f) :=
  .live fun s => by split <;> [exact hf s; rfl]

theorem KeepsTiles.dblFrame {h : DblHead} (hf : ∀ s, (f s).tiles = s.tiles) : KeepsTiles s (dblFrame t h s f) :=
  .released fun s => by split <;> [exact hf s; exact State.bump_tiles]

theorem KeepsTiles.eight (h : KeepsTiles s o) : KeepsEightTiles s o := fun hs s' e => (congrArg List.length (h s' e)).trans hs

theorem KeepsEightTiles.next (h : s.tiles.length = 8 → u.tiles.length = 8) : KeepsEightTiles s (.next u) :=
  fun hs _ e => Host.Outcome.next.inj e ▸ h hs

theorem KeepsEightTiles.fault {x : Fault} : KeepsEightTiles s (.fault x) := fun _ _ e => nomatch e

theorem KeepsEightTiles.ite {p : Prop} [Decidable p] (h : KeepsEightTiles s o) (h' : KeepsEightTiles s o') :
    KeepsEightTiles s (if p then o else o') := by
  split <;> assumption

theorem KeepsEightTiles.of_tiles (h : KeepsEightTiles u o) (hu : u.tiles = s.tiles) : KeepsEightTiles s o := fun hs => h (hu ▸ hs)

theorem KeepsEightTiles.live (hf : ∀ s, s.tiles.length = 8 → (f s).tiles.length = 8) : KeepsEightTiles s (live t s f) :=
  .of_tiles (.ite (.next id) (.next (hf (s.at_ t)))) State.at_tiles

theorem KeepsEightTiles.released (hf : ∀ s, s.tiles.length = 8 → (f s).tiles.length = 8) : KeepsEightTiles s (released t s f) :=
  .live fun s hs => by split <;> [exact hf s hs; exact hs]

theorem KeepsEightTiles.served (hf : ∀ s, s.tiles.length = 8 → (f s).tiles.length = 8) : KeepsEightTiles s (served t s f) :=
  .live fun s hs => by split <;> [exact hf s hs; exact hs]

/-! ### Commands: the crosspoint -/

theorem State.execCellCrcFail_tiles {tile isl conn seq be} : KeepsTiles s (execCellCrcFail t tile isl conn seq be s) := by
  refine .released fun s => ?_
  simp only [↓cellBad_tiles, ↓ite_tiles, ite_self]

theorem State.execCrcLimitExceeded_tiles {tile} : KeepsTiles s (execCrcLimitExceeded t tile s) := by
  refine .released fun s => ?_
  simp only [↓raise_tiles, ↓drainFailing_tiles, ↓ite_tiles, ↓tiles_mk, ↓xp_tiles, ite_self]

theorem State.execReorderTimeout_tiles {isl conn seq frame} : KeepsTiles s (execReorderTimeout t isl conn seq frame s) := by
  refine .released fun s => ?_
  dsimp only
  (repeat' split) <;> simp only [↓bump_tiles, ↓peak_tiles, ↓markLost_tiles, ↓beLost_tiles]

theorem State.execTileDrain_tiles {q} : KeepsTiles s (execTileDrain t q s) := by
  refine .served fun s => request_tiles fun s c => ?_
  simp only [↓ok_tiles, ↓noSpare_tiles, ↓ite_tiles, ↓tiles_mk, ↓xp_tiles, ite_self]

theorem State.execTileRestore_tiles {q} : KeepsTiles s (execTileRestore t q s) := by
  refine .served fun s => request_tiles fun s c => ?_
  simp only [↓badState_tiles, ↓ok_tiles, ↓ite_tiles, ↓tiles_mk, ↓xp_tiles, ite_self]

/-! ### Commands: faults found by the chip -/

theorem State.execErrorLineOccurrence_tiles {isl cls cond code typ master addr} : KeepsTiles s (execErrorLineOccurrence t isl cls cond code typ
    master addr s) := by
  refine .released fun s => ?_
  simp only [↓hold_tiles, ↓latch_tiles, ↓react_tiles]

theorem State.execCurrentBitExpiry_tiles {isl} : KeepsTiles s (execCurrentBitExpiry t isl s) := by
  refine .released fun s => ?_
  simp only [↓ite_tiles, ↓tiles_mk, ↓xp_tiles, ite_self]

theorem State.execFltCheck_tiles : KeepsTiles s (execFltCheck t s) := by
  refine .released fun s => ?_
  simp only [↓set_tiles, ↓raise_tiles]

theorem State.execIslandError_tiles {isl off bit cls dropped} : KeepsTiles s (execIslandError t isl off bit cls dropped s) := by
  refine .released fun s => ?_
  simp only [↓set_tiles, ↓bump_tiles, ↓islandError_tiles, ↓errorEffect_tiles, ↓ite_tiles, ↓tiles_mk, ↓xp_tiles, ite_self]

theorem State.execLockstep_tiles {pair addr} : KeepsTiles s (execLockstep t pair addr s) := by
  refine .released fun s => ?_
  simp only [↓set_tiles, ↓errNamed_tiles]

theorem State.execSramEcc_tiles {unc addr} : KeepsTiles s (execSramEcc t unc addr s) := by
  refine .released fun s => ?_
  simp only [↓bump_tiles, ↓err_tiles, ↓ringHit_tiles, ↓ite_tiles, ite_self]

theorem State.execTempSample_tiles {readings} : KeepsTiles s (execTempSample t readings s) := by
  refine .live fun s => ?_
  simp only [↓heat_tiles, ↓temperature_tiles, ↓ite_tiles, ite_self]

/-! ### Commands: external memory -/

theorem State.execDramReadEcc_tiles {lp unc addr slot} : KeepsTiles s (execDramReadEcc t lp unc addr slot s) := by
  refine .released fun s => ?_
  dsimp only
  (repeat' split) <;> simp only [↓lostCells_tiles, ↓ringAmendAt_tiles, ↓setBanks_tiles, ↓dramError_tiles, ↓rowOpened_tiles]

theorem State.execDramScrub_tiles {lp found addr} : KeepsTiles s (execDramScrub t lp found addr s) := by
  refine .released fun s => ?_
  simp only [↓bump_tiles, ↓dramError_tiles, ↓rowOpened_tiles, ↓ite_tiles, ite_self]

theorem State.execWritePointerDeadline_tiles {lp dest} : KeepsTiles s (execWritePointerDeadline t lp dest s) := by
  refine .released fun s => ?_
  simp only [↓set_tiles, ↓bump_tiles, ↓islandError_tiles, ↓setDst_tiles]

theorem State.execNeighbourRefresh_tiles {lp bank row} : KeepsTiles s (execNeighbourRefresh t lp bank row s) := by
  refine .released fun s => ?_
  simp only [↓bump_tiles, ↓peak_tiles, ↓ite_tiles, ↓tiles_mk, ↓xp_tiles, ite_self]

theorem State.execRefreshWindowEnd_tiles {lp} : KeepsTiles s (execRefreshWindowEnd t lp s) := by
  refine .released fun s => ?_
  simp only [↓tiles_mk, ↓xp_tiles]

theorem State.execRefreshRateRead_tiles {dg rates} : KeepsTiles s (execRefreshRateRead t dg rates s) := by
  refine .released fun s => ?_
  simp only [↓set_tiles, ↓errNamed_tiles, ↓errDone_tiles, ↓ite_tiles, ↓foldl_tiles, ite_self, implies_true]

theorem State.execPointChangeInstant_tiles : KeepsTiles s (execPointChangeInstant t s) := by
  refine .released fun s => ?_
  dsimp only
  (repeat' split) <;> simp only [↓bump_tiles, ↓movePoint_tiles, ↓pointLate_tiles, ↓tiles_mk, ↓xp_tiles]

theorem State.execDgReset_tiles {dg cause} : KeepsTiles s (execDgReset t dg cause s) := by
  refine .released fun s => ?_
  simp only [↓dgDown_tiles]

theorem State.execZqRecalibrate_tiles {dg good} : KeepsTiles s (execZqRecalibrate t dg good s) := by
  refine .released fun s => ?_
  simp only [↓dgDown_tiles, ↓ite_tiles, ite_self]

/-! ### Commands: ports -/

theorem State.execPortSignalLock_tiles {p} : KeepsTiles s (execPortSignalLock t p s) := by
  refine .released fun s => ?_
  simp only [↓errDone_tiles, ↓setPort_tiles, ↓setPortState_tiles, ↓laneFlags_tiles, ↓ite_tiles, ite_self]

theorem State.execPortAligned_tiles {p} : KeepsTiles s (execPortAligned t p s) := by
  refine .released fun s => ?_
  simp only [↓setPortState_tiles, ↓laneFlags_tiles, ↓ite_tiles, ite_self]

theorem State.execPortLockTimeout_tiles {p} : KeepsTiles s (execPortLockTimeout t p s) := by
  refine .released fun s => ?_
  simp only [↓setPortState_tiles, ↓ite_tiles, ite_self]

theorem State.execPortLockLost_tiles {p hi cut} : KeepsTiles s (execPortLockLost t p hi cut s) := by
  refine .released fun s => ?_
  simp only [↓set_tiles, ↓setPort_tiles, ↓setPortState_tiles, ↓laneFlags_tiles, ↓cut_tiles, ↓ite_tiles, ite_self]

theorem State.execPortSignalLoss_tiles {p cut} : KeepsTiles s (execPortSignalLoss t p cut s) := by
  refine .released fun s => ?_
  simp only [↓setPortState_tiles, ↓cut_tiles, ↓lanesLost_tiles, ↓ite_tiles, ite_self]

theorem State.execOctetPllUnlock_tiles {octet} : KeepsTiles s (execOctetPllUnlock t octet s) := by
  refine .released fun s => ?_
  simp only [↓fresh_tiles, ↓err_tiles, ↓setPortState_tiles, ↓laneFlags_tiles, ↓cut_tiles, ↓ite_tiles, ↓ite_snd_tiles, ↓foldl_tiles, ite_self,
    implies_true]

theorem State.execRemoteFault_tiles {p rf lf} : KeepsTiles s (execRemoteFault t p rf lf s) := by
  refine .released fun s => ?_
  simp only [↓set_tiles, ↓ite_tiles, ite_self]

theorem State.execPauseWatchdog_tiles {p q} : KeepsTiles s (execPauseWatchdog t p q s) := by
  refine .released fun s => ?_
  dsimp only
  (repeat' split) <;> simp only [↓set_tiles, ↓bump_tiles, ↓event_tiles, ↓setPort_tiles, ↓resume_tiles, ↓pausesEnd_tiles]

theorem State.execQignoreEnd_tiles {p q} : KeepsTiles s (execQignoreEnd t p q s) := by
  refine .released fun s => ?_
  simp only [↓set_tiles, ↓ite_tiles, ite_self]

theorem State.execBeFrameAged_tiles {p q} : KeepsTiles s (execBeFrameAged t p q s) := by
  refine .released fun s => ?_
  simp only [↓pausesEnd_tiles, ↓setPort_tiles, ↓bump_tiles]

theorem State.execCounterHalf_tiles {p i} : KeepsTiles s (execCounterHalf t p i s) := by
  refine .released fun s => ?_
  simp only [↓readCounter_tiles, ↓ite_tiles, ite_self]

theorem State.execCounterSweep_tiles : KeepsTiles s (execCounterSweep t s) := by
  refine .released fun s => ?_
  simp only [↓readCounter_tiles, ↓foldl_tiles, implies_true]

/-! ### Commands: the Whorl -/

theorem State.execRefQualify_tiles {ref} : KeepsTiles s (execRefQualify t ref s) := by
  refine .released fun s => ?_
  simp only [↓qualify_tiles, ↓ite_tiles, ite_self]

theorem State.execPtpMessageTx_tiles {d p kind} : KeepsTiles s (execPtpMessageTx t d p kind s) := by
  refine .released fun s => ?_
  dsimp only
  (repeat' split) <;> simp only [↓bump_tiles, ↓sendEth_tiles, ↓setInst_tiles, ↓bmca_tiles, ↓ptpShow_tiles]

theorem State.execRefDisqualify_tiles {ref cause} : KeepsTiles s (execRefDisqualify t ref cause s) := by
  refine .released fun s => ?_
  simp only [↓disqualify_tiles, ↓annTimeout_tiles, ↓bmca_tiles, ↓ptpShow_tiles, ↓utcShow_tiles, ↓ite_tiles, ite_self]

theorem State.execServoSample_tiles {m} : KeepsTiles s (execServoSample t m s) := by
  refine .released fun s => ?_
  dsimp only
  (repeat' split) <;> simp only [↓bump_tiles, ↓whlShow_tiles, ↓seeRef_tiles, ↓writeNco_tiles, ↓lockSpans_tiles, ↓ite_tiles, ↓foldl_tiles,
    ↓tiles_mk, ↓xp_tiles, ite_self, implies_true]

theorem State.execWtrExpiry_tiles {ref} : KeepsTiles s (execWtrExpiry t ref s) := by
  refine .released fun s => ?_
  dsimp only
  (repeat' split) <;> simp only [↓switchRef_tiles]

theorem State.execWhlLockReached_tiles : KeepsTiles s (execWhlLockReached t s) := by
  refine .released fun s => ?_
  (repeat' split) <;> simp only [↓setWhl_tiles]

theorem State.execWhlOutOfLock_tiles : KeepsTiles s (execWhlOutOfLock t s) := by
  refine .released fun s => ?_
  (repeat' split) <;> simp only [↓setWhl_tiles]

theorem State.execHoldoverExpiry_tiles : KeepsTiles s (execHoldoverExpiry t s) := by
  refine .released fun s => ?_
  simp only [↓setWhl_tiles, ↓ite_tiles, ite_self]

theorem State.execWhlNoref_tiles : KeepsTiles s (execWhlNoref t s) := by
  refine .released fun s => ?_
  simp only [↓raise_tiles, ↓ite_tiles, ite_self]

theorem State.execWhlRefWaitEnd_tiles : KeepsTiles s (execWhlRefWaitEnd t s) := by
  refine .released fun s => ?_
  dsimp only
  (repeat' split) <;> simp only [↓whlShow_tiles, ↓pulseShow_tiles, ↓switchRef_tiles, ↓reselect_tiles, ↓utcShow_tiles, ↓setTime_tiles,
    ↓ptpStep_tiles, ↓tiles_mk, ↓xp_tiles]

theorem State.execDblTime_tiles {diff held ref} : KeepsTiles s (execDblTime t diff held ref s) := by
  refine .released fun s => ?_
  simp only [↓set_tiles, ↓errDone_tiles, ↓ite_tiles, ↓tiles_mk, ↓xp_tiles, ite_self]

theorem State.execTwinTimeExcess_tiles : KeepsTiles s (execTwinTimeExcess t s) := by
  refine .released fun s => ?_
  (repeat' split) <;> simp only [↓err_tiles]

theorem State.execWireCalibrate_tiles {isl} : KeepsTiles s (execWireCalibrate t isl s) := by
  refine .released fun s => ?_
  simp only [↓set_tiles, ↓ite_tiles, ite_self]

theorem State.execXoLoss_tiles : KeepsTiles s (execXoLoss t s) := by
  refine .released fun s => ?_
  simp only [↓err_tiles]

theorem State.execTimeStep_tiles : KeepsTiles s (execTimeStep t s) := by
  refine .served fun s => ?_
  dsimp only
  (repeat' split) <;> simp only [↓bump_tiles, ↓event_tiles, ↓whlShow_tiles, ↓pulseShow_tiles, ↓pulseStop_tiles, ↓recount_tiles, ↓tiles_mk,
    ↓xp_tiles]

theorem State.execLeapSecond_tiles : KeepsTiles s (execLeapSecond t s) := by
  refine .released fun s => ?_
  dsimp only
  (repeat' split) <;> simp only [↓utcShow_tiles, ↓tiles_mk, ↓xp_tiles]

theorem State.execTimeRef_tiles {q} : KeepsTiles s (execTimeRef t q s) := by
  refine .served fun s => request_tiles fun s c => ?_
  simp only [↓badValue_tiles, ↓enqueue_tiles, ↓ite_tiles, ite_self]

theorem State.execTimeRealign_tiles {q} : KeepsTiles s (execTimeRealign t q s) := by
  refine .served fun s => request_tiles fun s c => ?_
  simp only [↓enqueue_tiles]

theorem State.execTimeSet_tiles {q} : KeepsTiles s (execTimeSet t q s) := by
  refine .served fun s => request_tiles fun s c => ?_
  simp only [↓reply_tiles, ↓enqueue_tiles, ↓ite_tiles, ite_self]

theorem State.execWhlReset_tiles : KeepsTiles s (execWhlReset t s) := by
  refine .served fun s => ?_
  simp only [↓whlDown_tiles]

/-! ### Commands: sessions and requests of chip scope -/

theorem State.execDtlsClientHello_tiles {h} : KeepsTiles s (execDtlsClientHello t h s) := by
  refine .served fun s => ?_
  simp only [↓fresh_tiles, ↓sendVia_tiles, ↓handOff_tiles, ↓hsFail_tiles, ↓handshake_tiles, ↓ite_tiles, ↓tiles_mk, ↓xp_tiles, ite_self]

theorem State.execKeyUpdate_tiles {sess} : KeepsTiles s (execKeyUpdate t sess s) := by
  refine .served fun s => ?_
  split <;> simp only [↓bump_tiles, ↓setSess_tiles, ↓authenticated_tiles]

theorem State.execCloseNotify_tiles {sess} : KeepsTiles s (execCloseNotify t sess s) := by
  refine .served fun s => ?_
  split <;> simp only [↓bump_tiles, ↓endSession_tiles, ↓authenticated_tiles]

theorem State.execSessionIdleExpiry_tiles {sess} : KeepsTiles s (execSessionIdleExpiry t sess s) := by
  refine .served fun s => ?_
  (repeat' split) <;> simp only [↓sendVia_tiles, ↓endSession_tiles]

theorem State.execCertValidityCheck_tiles : KeepsTiles s (execCertValidityCheck t s) := by
  refine .served fun s => ?_
  simp only [↓sendVia_tiles, ↓endSession_tiles, ↓authFail_tiles, ↓foldl_tiles, implies_true]

theorem State.execSicpRecordUnparsable_tiles {sess} : KeepsTiles s (execSicpRecordUnparsable t sess s) := by
  refine .served fun s => ?_
  cases sess with
  | stray => exact bump_tiles
  | size id =>
    dsimp only
    split <;> simp only [↓authenticated_tiles, ↓bump_tiles]
  | typed typ q => exact request_tiles fun s c => rfl

theorem State.execPairDatagramHandoff_tiles : KeepsTiles s (execPairDatagramHandoff t s) := by
  refine .served fun s => ?_
  simp only [↓handOff_tiles, ↓ite_tiles, ite_self]

theorem State.execPing_tiles {q} : KeepsTiles s (execPing t q s) := by
  refine .served fun s => request_tiles fun s c => ?_
  simp only [↓ok_tiles]

theorem State.execIdentity_tiles {q} : KeepsTiles s (execIdentity t q s) := by
  refine .served fun s => request_tiles fun s c => ?_
  simp only [↓ok_tiles]

theorem State.execFaultClear_tiles {q} : KeepsTiles s (execFaultClear t q s) := by
  refine .served fun s => request_tiles fun s c => ?_
  simp only [↓event_tiles, ↓badValue_tiles, ↓ok_tiles, ↓faultClear_tiles, ↓ite_tiles, ite_self]

theorem State.execSubscribe_tiles {q} : KeepsTiles s (execSubscribe t q s) := by
  refine .served fun s => request_tiles fun s c => ?_
  simp only [↓badValue_tiles, ↓busy_tiles, ↓enqueue_tiles, ↓ite_tiles, ite_self]

theorem State.execUnsubscribe_tiles {q} : KeepsTiles s (execUnsubscribe t q s) := by
  refine .served fun s => request_tiles fun s c => ?_
  simp only [↓badValue_tiles, ↓enqueue_tiles, ↓ite_tiles, ite_self]

theorem State.execEvent_tiles {sess sub} : KeepsTiles s (execEvent t sess sub s) := by
  refine .served fun s => ?_
  dsimp only
  (repeat' split) <;> simp only [↓bump_tiles, ↓sendVia_tiles, ↓setSess_tiles]

theorem State.execSalvoOpen_tiles {q} : KeepsTiles s (execSalvoOpen t q s) := by
  refine .served fun s => request_tiles fun s c => ?_
  simp only [↓busy_tiles, ↓ok_tiles, ↓newHandle_tiles, ↓ite_tiles, ↓tiles_mk, ↓xp_tiles, ite_self]

theorem State.execSalvoAdd_tiles {q} : KeepsTiles s (execSalvoAdd t q s) := by
  refine .served fun s => request_tiles fun s c => ?_
  dsimp only
  split <;> simp only [↓badState_tiles, ↓busy_tiles, ↓ok_tiles, ↓ite_tiles, ↓tiles_mk, ↓xp_tiles, ite_self]

theorem State.execSalvoHandleExpiry_tiles : KeepsTiles s (execSalvoHandleExpiry t s) := by
  refine .served fun s => ?_
  simp only [↓tiles_mk, ↓xp_tiles]

/-! ### Commands: keys and the always-on domain -/

theorem State.execKeyGenerate_tiles {q} : KeepsTiles s (execKeyGenerate t q s) := by
  refine .served fun s => request_tiles fun s c => keyReady_tiles fun s => ?_
  simp only [↓bump_tiles, ↓badValue_tiles, ↓badState_tiles, ↓ok_tiles, ↓fillSlot_tiles, ↓ite_tiles, ite_self]

theorem State.execKeyImport_tiles {q w} : KeepsTiles s (execKeyImport t q w s) := by
  refine .served fun s => request_tiles fun s c => keyReady_tiles fun s => ?_
  simp only [↓reply_tiles, ↓badValue_tiles, ↓badState_tiles, ↓busy_tiles, ↓unwrap_tiles, ↓ite_tiles, ite_self]

theorem State.execKeyDestroy_tiles {q} : KeepsTiles s (execKeyDestroy t q s) := by
  refine .served fun s => request_tiles fun s c => keyReady_tiles fun s => ?_
  simp only [↓ok_tiles, ↓consumers_tiles, ↓emptySlot_tiles]

theorem State.execKeyAttest_tiles {q} : KeepsTiles s (execKeyAttest t q s) := by
  refine .served fun s => request_tiles fun s c => ?_
  simp only [↓badState_tiles, ↓busy_tiles, ↓ok_tiles, ↓ite_tiles, ite_self]

theorem State.execRngFail_tiles : KeepsTiles s (execRngFail t s) := by
  refine .live fun s => ?_
  simp only [↓set_tiles, ↓f4_tiles, ↓err_tiles, ↓ite_tiles, ↓tiles_mk, ↓xp_tiles, ite_self]

theorem State.execTamper_tiles {input} : KeepsTiles s (execTamper t input s) := by
  refine .live fun s => ?_
  simp only [↓set_tiles, ↓consumers_tiles, ↓unusableAll_tiles, ↓aonLost_tiles, ↓rtcSeconds_tiles, ↓ite_tiles, ↓tiles_mk, ↓xp_tiles, ite_self]

theorem State.execTamperRelease_tiles : KeepsTiles s (execTamperRelease t s) := by
  refine .live fun s => ?_
  simp only [↓set_tiles, ↓drawHalf_tiles, ↓ite_tiles, ite_self]

theorem State.execRtcMinuteWrite_tiles : KeepsTiles s (execRtcMinuteWrite t s) := by
  refine .live fun s => ?_
  simp only [↓ite_tiles, ↓tiles_mk, ↓xp_tiles, ite_self]

theorem State.execKeyReset_tiles : KeepsTiles s (execKeyReset t s) := by
  refine .served fun s => ?_
  simp only [↓beginReset_tiles, ↓keyDown_tiles, ↓ite_tiles, ite_self]

/-! ### Commands: the journal and the log in the memory -/

theorem State.execJournalRecordWrite_tiles {outcome} : KeepsTiles s (execJournalRecordWrite t outcome s) := by
  refine .released fun s => ?_
  dsimp only
  (repeat' split) <;> simp only [↓err_tiles, ↓errNamed_tiles, ↓logLost_tiles, ↓putRecord_tiles, ↓recordDone_tiles, ↓tiles_mk, ↓xp_tiles]

theorem State.execLogBlockWrite_tiles {outcome} : KeepsTiles s (execLogBlockWrite t outcome s) := by
  refine .released fun s => ?_
  simp only [↓bump_tiles, ↓putBlocks_tiles, ↓err_tiles, ↓logLost_tiles, ↓ite_tiles, ↓tiles_mk, ↓xp_tiles, ite_self]

theorem State.execLogRead_tiles {q} : KeepsTiles s (execLogRead t q s) := by
  refine .served fun s => request_tiles fun s c => ?_
  simp only [↓ok_tiles]

theorem State.execXrdLenWrite_tiles {len} : KeepsTiles s (execXrdLenWrite t len s) := by
  refine .released fun s => ?_
  simp only [↓xrdOpen_tiles]

theorem State.execXrdDataRead_tiles : KeepsTiles s (execXrdDataRead t s) := by
  refine .released fun s => ?_
  simp only [↓xrdNext_tiles, ↓emit_tiles]

theorem State.execBootReset_tiles : KeepsTiles s (execBootReset t s) := by
  refine .served fun s => ?_
  simp only [↓raise_tiles, ↓beginReset_tiles, ↓bootDown_tiles, ↓ite_tiles, ite_self]

/-! ### Commands: the evacuation override -/

theorem State.execEvacSample_tiles {a b} : KeepsTiles s (execEvacSample t a b s) := by
  refine .released fun s => ?_
  simp only [↓set_tiles, ↓evacShow_tiles, ↓evacReport_tiles, ↓evacStep_tiles, ↓ite_tiles, ↓tiles_mk, ↓xp_tiles, ite_self]

/-! ### Commands: IP flows -/

theorem State.execReportRepeat_tiles : KeepsTiles s (execReportRepeat t s) := by
  refine .released fun s => ?_
  simp only [↓sendReport_tiles, ↓foldl_tiles, ↓tiles_mk, ↓xp_tiles, implies_true]

theorem State.execFlowSet_tiles {q} : KeepsTiles s (execFlowSet t q s) := by
  refine .served fun s => request_tiles fun s c => ?_
  dsimp only
  (repeat' split) <;> simp only [↓badValue_tiles, ↓noSignal_tiles, ↓enqueue_tiles]

theorem State.execFlowRelease_tiles {q} : KeepsTiles s (execFlowRelease t q s) := by
  refine .served fun s => request_tiles fun s c => ?_
  split <;> simp only [↓noSignal_tiles, ↓enqueue_tiles]

theorem State.execIdleReleaseExpiry_tiles {flow leg} : KeepsTiles s (execIdleReleaseExpiry t flow leg s) := by
  refine .released fun s => ?_
  (repeat' split) <;> simp only [↓ownLeg_tiles]

/-! ### Commands: SDI receivers -/

theorem State.execSdiSignalPresent_tiles {lane} : KeepsTiles s (execSdiSignalPresent t lane s) := by
  refine .released fun s => ?_
  simp only [↓startSweep_tiles, ↓setRxState_tiles, ↓ite_tiles, ite_self]

theorem State.execSdiHuntDwellEnd_tiles {lane} : KeepsTiles s (execSdiHuntDwellEnd t lane s) := by
  refine .released fun s => ?_
  dsimp only
  (repeat' split) <;> simp only [↓bump_tiles, ↓setRx_tiles, ↓startSweep_tiles]

theorem State.execSdiClockRecovered_tiles {lane rate} : KeepsTiles s (execSdiClockRecovered t lane rate s) := by
  refine .released fun s => ?_
  simp only [↓set_tiles, ↓setRx_tiles, ↓setRxState_tiles, ↓ite_tiles, ite_self]

theorem State.execSdiEavLoss_tiles {lane} : KeepsTiles s (execSdiEavLoss t lane s) := by
  refine .released fun s => ?_
  simp only [↓startSweep_tiles, ↓setRxState_tiles, ↓ite_tiles, ite_self]

theorem State.execSdiSignalAbsent_tiles {lane} : KeepsTiles s (execSdiSignalAbsent t lane s) := by
  refine .released fun s => ?_
  simp only [↓setRx_tiles, ↓setRxState_tiles, ↓ite_tiles, ite_self]

/-! ### Commands: the audio engine -/

theorem State.execAudioSampleArrival_tiles {flow slot count v non} : KeepsTiles s (execAudioSampleArrival t flow slot count v non s) := by
  refine .released fun s => ?_
  dsimp only
  (repeat' split) <;> simp only [↓bump_tiles, ↓setIn_tiles]

theorem State.execInputGap_tiles {ic} : KeepsTiles s (execInputGap t ic s) := by
  refine .released fun s => ?_
  simp only [↓bump_tiles, ↓setIn_tiles, ↓ite_tiles, ite_self]

theorem State.execSdiAudioSlip_tiles {src margin} : KeepsTiles s (execSdiAudioSlip t src margin s) := by
  refine .released fun s => ?_
  dsimp only
  (repeat' split) <;> simp only [↓bump_tiles, ↓tiles_mk, ↓xp_tiles]

theorem State.execBusIdleEntry_tiles {bus} : KeepsTiles s (execBusIdleEntry t bus s) := by
  refine .released fun s => ?_
  simp only [↓setBus_tiles, ↓ite_tiles, ite_self]

theorem State.execTdmFsEdge_tiles {p periods ins} : KeepsTiles s (execTdmFsEdge t p periods ins s) := by
  refine .released fun s => ?_
  simp only [↓bump_tiles, ↓emit_tiles, ↓setIn_tiles, ↓setTdm_tiles, ↓tdmMute_tiles, ↓tdmSend_tiles, ↓ite_tiles, ↓foldl_tiles, ite_self,
    implies_true]

theorem State.execTdmSyncLoss_tiles {p cause} : KeepsTiles s (execTdmSyncLoss t p cause s) := by
  refine .released fun s => ?_
  simp only [↓bump_tiles, ↓tdmMute_tiles, ↓ite_tiles, ite_self]

theorem State.execTdmMutingEnd_tiles {p} : KeepsTiles s (execTdmMutingEnd t p s) := by
  refine .released fun s => ?_
  simp only [↓event_tiles, ↓setTdm_tiles, ↓ite_tiles, ite_self]

theorem State.execAudReset_tiles : KeepsTiles s (execAudReset t s) := by
  refine .served fun s => ?_
  simp only [↓audDown_tiles]

theorem State.execAudReload_tiles : KeepsTiles s (execAudReload t s) := by
  refine .served fun s => ?_
  simp only [↓audUp_tiles]

theorem State.execAudRoute_tiles {q} : KeepsTiles s (execAudRoute t q s) := by
  refine .served fun s => request_tiles fun s c => ?_
  simp only [↓badValue_tiles, ↓noSignal_tiles, ↓enqueue_tiles, ↓ite_tiles, ite_self]

theorem State.execBusSet_tiles {q} : KeepsTiles s (execBusSet t q s) := by
  refine .served fun s => request_tiles fun s c => ?_
  simp only [↓reply_tiles, ↓badValue_tiles, ↓noSignal_tiles, ↓enqueue_tiles, ↓ite_tiles, ite_self]

theorem State.execAudDelaySet_tiles {q} : KeepsTiles s (execAudDelaySet t q s) := by
  refine .served fun s => request_tiles fun s c => ?_
  simp only [↓badValue_tiles, ↓noSignal_tiles, ↓enqueue_tiles, ↓ite_tiles, ite_self]

/-! ### Commands: the multiviewer -/

theorem State.execWindowSet_tiles {q} : KeepsTiles s (execWindowSet t q s) := by
  refine .served fun s => request_tiles fun s c => ?_
  simp only [↓reply_tiles, ↓badValue_tiles, ↓noSignal_tiles, ↓enqueue_tiles, ↓ite_tiles, ite_self]

theorem State.execWindowClear_tiles {q} : KeepsTiles s (execWindowClear t q s) := by
  refine .served fun s => request_tiles fun s c => ?_
  simp only [↓noSignal_tiles, ↓enqueue_tiles, ↓ite_tiles, ite_self]

theorem State.execLayerOrder_tiles {q} : KeepsTiles s (execLayerOrder t q s) := by
  refine .served fun s => request_tiles fun s c => ?_
  simp only [↓badValue_tiles, ↓badState_tiles, ↓noSignal_tiles, ↓enqueue_tiles, ↓ite_tiles, ite_self]

theorem State.execWindowEngineWrite_tiles {win m crc} : KeepsTiles s (execWindowEngineWrite t win m crc s) := by
  refine .released fun s => ?_
  dsimp only
  (repeat' split) <;> simp only [↓winWritten_tiles, ↓tiles_mk, ↓xp_tiles]

theorem State.execWinHoldExpiry_tiles {win} : KeepsTiles s (execWinHoldExpiry t win s) := by
  refine .released fun s => ?_
  (repeat' split) <;> simp only [↓winSignal_tiles]

/-! ### Commands: strands and the Skein -/

theorem State.execStrandPortUp_tiles {p} : KeepsTiles s (execStrandPortUp t p s) := by
  refine .released fun s => ?_
  simp only [↓strandTo_tiles, ↓ite_tiles, ite_self]

theorem State.execStrandHelloSend_tiles {p} : KeepsTiles s (execStrandHelloSend t p s) := by
  refine .released fun s => ?_
  simp only [↓emit_tiles, ↓ite_tiles, ite_self]

theorem State.execStrandHello_tiles {p h} : KeepsTiles s (execStrandHello t p h s) := by
  refine .released fun s => ?_
  simp only [↓set_tiles, ↓strandTo_tiles, ↓strandMismatch_tiles, ↓ite_tiles, ite_self]

theorem State.execStrandMeasureDone_tiles {p trips} : KeepsTiles s (execStrandMeasureDone t p trips s) := by
  refine .released fun s => ?_
  dsimp only
  (repeat' split) <;> simp only [↓set_tiles, ↓event_tiles, ↓setStrand_tiles, ↓sendLinks_tiles, ↓clearStrandDown_tiles, ↓strandMismatch_tiles]

theorem State.execStrandEcho_tiles {p reply} : KeepsTiles s (execStrandEcho t p reply s) := by
  refine .released fun s => ?_
  simp only [↓emit_tiles, ↓ite_tiles, ite_self]

theorem State.execStrandDown_tiles {p} : KeepsTiles s (execStrandDown t p s) := by
  refine .released fun s => ?_
  simp only [↓resolve_tiles, ↓strandTo_tiles, ↓strandDown_tiles, ↓ite_tiles, ite_self]

theorem State.execStrandUnitRx_tiles {p u} : KeepsTiles s (execStrandUnitRx t p u s) := by
  refine .released fun s => ?_
  simp only [↓phyCounts_tiles, ↓strandUnit_tiles, ↓ite_tiles, ite_self]

theorem State.execStrandCreditSend_tiles {p heldM heldC} : KeepsTiles s (execStrandCreditSend t p heldM heldC s) := by
  refine .released fun s => ?_
  simp only [↓emit_tiles, ↓ite_tiles, ite_self]

theorem State.execLinkState_tiles {op} : KeepsTiles s (execLinkState t op s) := by
  refine .released fun s => ?_
  dsimp only
  (repeat' split) <;> simp only [↓bump_tiles, ↓emit_tiles, ↓dblData_tiles, ↓skeinBudget_tiles, ↓sendUnits_tiles, ↓note_tiles, ↓noteSteps_tiles,
    ↓sendLinks_tiles, ↓clearStrandDown_tiles, ↓noteMirrors_tiles, ↓foldl_tiles, ↓tiles_mk, ↓xp_tiles, implies_true]

theorem State.execSkeinArm_tiles {port m} : KeepsTiles s (execSkeinArm t port m s) := by
  refine .served fun s => skeinIn_tiles fun s => ?_
  split <;> simp only [↓tiles_mk, ↓xp_tiles]

theorem State.execSkeinDecision_tiles {port m} : KeepsTiles s (execSkeinDecision t port m s) := by
  refine .served fun s => skeinIn_tiles fun s => ?_
  split <;> simp only [↓tiles_mk, ↓xp_tiles]

theorem State.execSkeinRelease_tiles {port m} : KeepsTiles s (execSkeinRelease t port m s) := by
  refine .served fun s => skeinIn_tiles fun s => ?_
  split <;> simp only [↓tiles_mk, ↓xp_tiles]

theorem State.execSkeinMessageRepeat_tiles : KeepsTiles s (execSkeinMessageRepeat t s) := by
  refine .served fun s => ?_
  simp only [↓sendMsg_tiles, ↓foldl_tiles, ↓tiles_mk, ↓xp_tiles, implies_true]

theorem State.execMirrorHoldExpiry_tiles {p} : KeepsTiles s (execMirrorHoldExpiry t p s) := by
  refine .released fun s => ?_
  simp only [↓ite_tiles, ↓tiles_mk, ↓xp_tiles, ite_self]

/-! ### Commands: requests of takes and salvos -/

theorem State.execSkeinReport_tiles {port m} : KeepsTiles s (execSkeinReport t port m s) := by
  exact .served fun s => skeinIn_tiles fun s => reportAct_tiles

theorem State.execTake_tiles {q} : KeepsTiles s (execTake t q s) := by
  refine .served fun s => request_tiles fun s c => ?_
  simp only [↓reply_tiles, ↓noSignal_tiles, ↓enqueue_tiles, ↓armOne_tiles, ↓ite_tiles, ite_self]

theorem State.execSalvoArm_tiles {q} : KeepsTiles s (execSalvoArm t q s) := by
  refine .served fun s => request_tiles fun s c => ?_
  dsimp only
  (repeat' split) <;> simp only [↓reply_tiles, ↓badState_tiles, ↓salvoArm_tiles]

theorem State.execSalvoCommit_tiles {q} : KeepsTiles s (execSalvoCommit t q s) := by
  refine .served fun s => request_tiles fun s c => ?_
  (repeat' split) <;> simp only [↓badState_tiles, ↓onSalvo_tiles]

theorem State.execSalvoAbort_tiles {q} : KeepsTiles s (execSalvoAbort t q s) := by
  refine .served fun s => request_tiles fun s c => ?_
  (repeat' split) <;> simp only [↓badState_tiles, ↓enqueue_tiles, ↓onSalvo_tiles]

theorem State.execDelaySet_tiles {q} : KeepsTiles s (execDelaySet t q s) := by
  refine .served fun s => request_tiles fun s c => ?_
  dsimp only
  (repeat' split) <;> simp only [↓badValue_tiles, ↓noSignal_tiles, ↓enqueue_tiles]

theorem State.execRouteQuery_tiles {q} : KeepsTiles s (execRouteQuery t q s) := by
  refine .served fun s => request_tiles fun s c => ?_
  simp only [↓noSignal_tiles, ↓ok_tiles, ↓ite_tiles, ite_self]

theorem State.execBulkWrite_tiles {q} : KeepsTiles s (execBulkWrite t q s) := by
  refine .served fun s => request_tiles fun s c => ?_
  dsimp only
  (repeat' split) <;> simp only [↓dblSend_tiles, ↓badValue_tiles, ↓busy_tiles, ↓noSignal_tiles, ↓ok_tiles, ↓hiddenWrite_tiles, ↓tiles_mk, ↓xp_tiles]

theorem State.execFence_tiles {q} : KeepsTiles s (execFence t q s) := by
  refine .served fun s => request_tiles fun s c => ?_
  simp only [↓setBanks_tiles, ↓busy_tiles, ↓noSignal_tiles, ↓enqueue_tiles, ↓ite_tiles, ite_self]

theorem State.execPairSwap_tiles {q} : KeepsTiles s (execPairSwap t q s) := by
  refine .served fun s => request_tiles fun s c => ?_
  simp only [↓enqueue_tiles]

theorem State.execPairRestart_tiles {q} : KeepsTiles s (execPairRestart t q s) := by
  refine .served fun s => request_tiles fun s c => ?_
  simp only [↓badValue_tiles, ↓enqueue_tiles, ↓ite_tiles, ite_self]

theorem State.execPairRejoin_tiles {q} : KeepsTiles s (execPairRejoin t q s) := by
  refine .served fun s => request_tiles fun s c => ?_
  simp only [↓badValue_tiles, ↓enqueue_tiles, ↓ite_tiles, ite_self]

theorem State.execEvacClear_tiles {q} : KeepsTiles s (execEvacClear t q s) := by
  refine .served fun s => request_tiles fun s c => ?_
  simp only [↓enqueue_tiles]

/-! ### Commands: the cycle close -/

theorem State.execCycleClose_tiles : KeepsTiles s (execCycleClose t s) := by
  refine .served fun s => ?_
  simp only [↓yield_tiles, ↓tierMask_tiles, ↓settle_tiles, ↓checkpoint_tiles, ↓closeCycle_tiles, ↓ite_tiles, ↓tiles_mk, ↓xp_tiles, ite_self]

/-! ### Commands: pins -/

theorem State.execGpiSample_tiles {levels} : KeepsTiles s (execGpiSample t levels s) := by
  refine .served fun s => ?_
  simp only [↓pinSample_tiles, ↓foldl_tiles, implies_true]

/-! ### Commands: the doubled pair -/

theorem State.execDblHello_tiles {h b} : KeepsTiles s (execDblHello t h b s) := by
  refine .dblFrame fun s => ?_
  simp only [↓set_tiles, ↓fresh_tiles, ↓dblData_tiles, ↓dblSend_tiles, ↓err_tiles, ↓errDone_tiles, ↓evacReport_tiles, ↓dualControl_tiles,
    ↓twinSays_tiles, ↓ite_tiles, ↓foldl_tiles, ↓tiles_mk, ↓xp_tiles, ite_self, implies_true]

theorem State.execDblBeat_tiles {h evac} : KeepsTiles s (execDblBeat t h evac s) := by
  refine .dblFrame fun s => ?_
  dsimp only
  (repeat' split) <;> simp only [↓twinEvac_tiles, ↓twinSays_tiles]

theorem State.execDblBeatSend_tiles : KeepsTiles s (execDblBeatSend t s) := by
  refine .released fun s => ?_
  simp only [↓dblSend_tiles, ↓ite_tiles, ite_self]

theorem State.execDblEvent_tiles {h e} : KeepsTiles s (execDblEvent t h e s) := by
  refine .dblFrame fun s => ?_
  simp only [↓publish_tiles, ↓event_tiles, ↓ite_tiles, ite_self]

theorem State.execDblCopy_tiles {h close effs whole agree} : KeepsTiles s (execDblCopy t h close effs whole agree s) := by
  refine .dblFrame fun s => ?_
  (repeat' split) <;> simp +zetaDelta only [↓confirmCopy_tiles, ↓copyFailed_tiles, ↓setRole_tiles, ↓applyEffs_tiles, ↓tiles_mk, ↓xp_tiles]

theorem State.execDblConfirm_tiles {h close} : KeepsTiles s (execDblConfirm t h close s) := by
  refine .dblFrame fun s => ?_
  dsimp only
  (repeat' split) <;> simp only [↓peak_tiles, ↓setRole_tiles, ↓reply_tiles, ↓confirm_tiles, ↓tiles_mk, ↓xp_tiles]

theorem State.execDblNack_tiles {h close} : KeepsTiles s (execDblNack t h close s) := by
  refine .dblFrame fun s => ?_
  dsimp only
  (repeat' split) <;> simp only [↓bump_tiles, ↓dblData_tiles, ↓tiles_mk, ↓xp_tiles]

theorem State.execDblSnap_tiles {h part parts effs} : KeepsTiles s (execDblSnap t h part parts effs s) := by
  refine .dblFrame fun s => ?_
  simp only [↓bump_tiles, ↓applyCopy_tiles, ↓snapBase_tiles, ↓ite_tiles, ↓foldl_tiles, ↓tiles_mk, ↓xp_tiles, ite_self, implies_true]

theorem State.execDblBulk_tiles {h key off clear data} : KeepsTiles s (execDblBulk t h key off clear data s) := by
  refine .dblFrame fun s => ?_
  simp only [↓dblSend_tiles, ↓hiddenWrite_tiles, ↓ite_tiles, ite_self]

theorem State.execDblHandoff_tiles {h m} : KeepsTiles s (execDblHandoff t h m s) := by
  refine .dblFrame fun s => ?_
  (repeat' split) <;> simp only [↓bump_tiles, ↓emit_tiles, ↓sendUnits_tiles, ↓skeinIn_tiles, ↓skeinAct_tiles, implies_true]

theorem State.execHandoffPeriodEnd_tiles : KeepsTiles s (execHandoffPeriodEnd t s) := by
  refine .served fun s => ?_
  simp only [↓ite_tiles, ↓tiles_mk, ↓xp_tiles, ite_self]

theorem State.execGratuitousArpRepeat_tiles : KeepsTiles s (execGratuitousArpRepeat t s) := by
  refine .served fun s => ?_
  simp only [↓announce_tiles, ↓ite_tiles, ↓tiles_mk, ↓xp_tiles, ite_self]

theorem State.execDblYield_tiles {h} : KeepsTiles s (execDblYield t h s) := by
  refine .dblFrame fun s => ?_
  simp only [↓takeControl_tiles, ↓twinSays_tiles, ↓ite_tiles, ↓tiles_mk, ↓xp_tiles, ite_self]

theorem State.execDblSwap_tiles {h reqs seqs} : KeepsTiles s (execDblSwap t h reqs seqs s) := by
  refine .dblFrame fun s => ?_
  simp only [↓setSess_tiles, ↓swapAccept_tiles, ↓swapInstant_tiles, ↓ite_tiles, ↓foldl_tiles, ite_self, implies_true]

theorem State.execDblLinkLoss_tiles {tie since} : KeepsTiles s (execDblLinkLoss t tie since s) := by
  refine .released fun s => ?_
  dsimp only
  (repeat' split) <;> simp only [↓peak_tiles, ↓setRole_tiles, ↓errNamed_tiles, ↓roleFromOff_tiles, ↓takeControl_tiles, ↓detach_tiles,
    ↓bulkDone_tiles, ↓defer_tiles, ↓sendClaim_tiles, ↓linkDown_tiles, ↓tiles_mk, ↓xp_tiles]

theorem State.execSettleEnd_tiles : KeepsTiles s (execSettleEnd t s) := by
  refine .served fun s => ?_
  dsimp only
  (repeat' split) <;> simp only [↓confirm_tiles, ↓tiles_mk, ↓xp_tiles]

theorem State.execDblLaneDown_tiles {lane} : KeepsTiles s (execDblLaneDown t lane s) := by
  refine .released fun s => ?_
  simp only [↓err_tiles, ↓ite_tiles, ↓tiles_mk, ↓xp_tiles, ite_self]

theorem State.execDblLaneUp_tiles {lane} : KeepsTiles s (execDblLaneUp t lane s) := by
  refine .released fun s => ?_
  simp only [↓errDone_tiles, ↓ite_tiles, ↓tiles_mk, ↓xp_tiles, ite_self]

theorem State.execTieInChange_tiles {w} : KeepsTiles s (execTieInChange t w s) := by
  refine .released fun s => ?_
  dsimp only
  (repeat' split) <;> simp only [↓peak_tiles, ↓errDone_tiles, ↓roleFromOff_tiles, ↓takeControl_tiles, ↓detach_tiles, ↓dualControl_tiles, ↓tiles_mk,
    ↓xp_tiles]

theorem State.execTieFault_tiles : KeepsTiles s (execTieFault t s) := by
  refine .released fun s => ?_
  simp only [↓err_tiles, ↓ite_tiles, ite_self]

theorem State.execClaim_tiles {port pair} : KeepsTiles s (execClaim t port pair s) := by
  refine .served fun s => ?_
  simp only [↓bump_tiles, ↓peak_tiles, ↓emit_tiles, ↓detach_tiles, ↓ite_tiles, ite_self]

theorem State.execStartWaitExpiry_tiles : KeepsTiles s (execStartWaitExpiry t s) := by
  refine .served fun s => ?_
  dsimp only
  (repeat' split) <;> simp only [↓setRole_tiles, ↓tiles_mk, ↓xp_tiles]

theorem State.execRejoin_tiles : KeepsTiles s (execRejoin t s) := by
  refine .served fun s => ?_
  simp only [↓setRole_tiles, ↓dblSend_tiles, ↓ite_tiles, ↓tiles_mk, ↓xp_tiles, ite_self]

/-! ### Commands: staging -/

theorem State.execStageOpen_tiles {q} : KeepsTiles s (execStageOpen t q s) := by
  refine .served fun s => request_tiles fun s c => ?_
  simp only [↓stageShow_tiles, ↓zeroStage_tiles, ↓badValue_tiles, ↓busy_tiles, ↓ok_tiles, ↓ite_tiles, ↓tiles_mk, ↓xp_tiles, ite_self]

theorem State.execStageClose_tiles {q good w} : KeepsTiles s (execStageClose t q good w s) := by
  refine .served fun s => request_tiles fun s c => ?_
  (repeat' split) <;> simp +zetaDelta only [↓badState_tiles, ↓badImage_tiles, ↓ok_tiles, ↓stageShow_tiles, ↓tiles_mk, ↓xp_tiles]

theorem State.execStageIdleExpiry_tiles : KeepsTiles s (execStageIdleExpiry t s) := by
  refine .served fun s => ?_
  simp only [↓stageDiscard_tiles, ↓ite_tiles, ite_self]

/-! ### Commands: the start -/

theorem State.execDramTrainingDone_tiles {failed} : KeepsTiles s (execDramTrainingDone t failed s) := by
  refine .live fun s => ?_
  dsimp only
  (repeat' split) <;> simp only [↓set_tiles, ↓fresh_tiles, ↓status_tiles, ↓report_tiles, ↓err_tiles, ↓tierMask_tiles, ↓syncBobbins_tiles,
    ↓syncMeters_tiles, ↓syncJoins_tiles, ↓groupG_tiles, ↓replay_tiles, ↓foldl_tiles, ↓tiles_mk, ↓xp_tiles, implies_true]

/-! ### Commands: the switching point -/

theorem State.execSwitchingPoint_tiles {dest} : KeepsTiles s (execSwitchingPoint t dest s) := by
  refine .served fun s => ?_
  dsimp only
  (repeat' split) <;> simp only [↓switch_tiles]

/-! ### Commands: frames of own sources -/

theorem State.execSdiFrameReceived_tiles {lane f} : KeepsTiles s (execSdiFrameReceived t lane f s) := by
  refine .released fun s => ?_
  (repeat' split) <;> simp only [↓sdiFrame_tiles, ↓strandSends_tiles]

theorem State.execEthFrameRx_tiles {p f} : KeepsTiles s (execEthFrameRx t p f s) := by
  refine .released fun s => ?_
  dsimp only
  (repeat' split) <;> simp only [↓bump_tiles, ↓bump64_tiles, ↓pausesEnd_tiles, ↓pauseFrame_tiles, ↓phyCounts_tiles, ↓beArrive_tiles,
    ↓flowFilter_tiles, ↓control_tiles, ↓mgmtFrame_tiles, ↓payAll_tiles, ↓strandSends_tiles]

theorem State.execMergeHoleTimeout_tiles {flow} : KeepsTiles s (execMergeHoleTimeout t flow s) := by
  refine .released fun s => ?_
  simp only [↓expireHoles_tiles, ↓payAll_tiles, ↓ite_tiles, ite_self]

theorem State.execLegDown_tiles {flow leg} : KeepsTiles s (execLegDown t flow leg s) := by
  refine .released fun s => ?_
  dsimp only
  (repeat' split) <;> simp only [↓setFlow_tiles, ↓flowStops_tiles, ↓flowChecks_tiles, ↓flowAbandon_tiles, ↓payAll_tiles]

theorem State.execHeadFrameSelect_tiles {h} : KeepsTiles s (execHeadFrameSelect t h s) := by
  refine .released fun s => ?_
  dsimp only
  (repeat' split) <;> simp only [↓bump_tiles, ↓freePic_tiles, ↓setHead_tiles, ↓winFrame_tiles, ↓meterFrame_tiles, ↓winShow_tiles, ↓headShow_tiles,
    ↓enginesShow_tiles, ↓headEmit_tiles, ↓headReads_tiles, ↓strandSends_tiles, ↓ite_tiles, ↓foldl_tiles, ↓tiles_mk, ↓xp_tiles, ite_self,
    implies_true]

theorem State.execAudioTick_tiles {sdi far} : KeepsTiles s (execAudioTick t sdi far s) := by
  refine .released fun s => ?_
  simp only [↓beArrive_tiles, ↓audioTick_tiles, ↓strandSends_tiles, ↓slotSends_tiles, ↓ite_tiles, ite_self]

/-! ### Commands: the house frame boundary -/

theorem State.execTargetSetChange_tiles {key target add} : KeepsTiles s (execTargetSetChange t key target add s) := by
  refine .served fun s => ?_
  simp only [↓ite_tiles, ↓tiles_mk, ↓xp_tiles, ite_self]

/-! ### Commands: island resets -/

theorem State.execSpnReset_tiles {good} : KeepsTiles s (execSpnReset t good s) := by
  refine .served fun s => ?_
  simp only [↓spnDown_tiles, ↓spnUp_tiles, ↓ite_tiles, ite_self]

/-! ### Commands: register reads -/

theorem State.execRcFieldRead_tiles {addr} : KeepsTiles s (execRcFieldRead t addr s) := by
  refine .released fun s => ?_
  simp only [↓emit_tiles, ↓readReg_tiles, ↓ite_tiles, ite_self]

theorem State.execCounterLowRead_tiles {addr} : KeepsTiles s (execCounterLowRead t addr s) := by
  refine .released fun s => ?_
  simp only [↓emit_tiles, ↓readReg_tiles, ↓ite_tiles, ite_self]

theorem State.execRegRead_tiles {q} : KeepsTiles s (execRegRead t q s) := by
  refine .served fun s => request_tiles fun s c => ?_
  simp only [↓badValue_tiles, ↓ok_tiles, ↓sicpRead_tiles, ↓readWords_tiles, ↓ite_tiles, ite_self, implies_true]

theorem State.execRegWrite_tiles {q} : KeepsTiles s (execRegWrite t q s) := by
  refine .served fun s => request_tiles fun s c => ?_
  simp only [↓badValue_tiles, ↓ok_tiles, ↓writeReg_tiles, ↓ite_tiles, ite_self]

theorem State.execCounters_tiles {q} : KeepsTiles s (execCounters t q s) := by
  refine .served fun s => request_tiles fun s c => ?_
  simp only [↓badValue_tiles, ↓ok_tiles, ↓readWords_tiles, ↓countersRead_tiles, ↓ite_tiles, ite_self, implies_true]

/-! ### Commands: DMA channels and register writes -/

theorem State.execDmaCmdGo_tiles {c fail} : KeepsTiles s (execDmaCmdGo t c fail s) := by
  refine .released fun s => ?_
  simp only [↓dmaGo_tiles]

theorem State.execDmaCmdStop_tiles {c} : KeepsTiles s (execDmaCmdStop t c s) := by
  refine .released fun s => ?_
  simp only [↓dmaStop_tiles]

theorem State.execDmaTimerEvent_tiles {c fail} : KeepsTiles s (execDmaTimerEvent t c fail s) := by
  refine .released fun s => ?_
  simp only [↓dmaEvent_tiles, ↓ite_tiles, ite_self]

theorem State.execDmaChainEvent_tiles {c fail} : KeepsTiles s (execDmaChainEvent t c fail s) := by
  refine .released fun s => ?_
  simp only [↓setDma_tiles, ↓dmaEvent_tiles, ↓ite_tiles, ite_self]

theorem State.execDmaDescriptorDone_tiles {c fail} : KeepsTiles s (execDmaDescriptorDone t c fail s) := by
  refine .released fun s => ?_
  simp only [↓dmaDone_tiles]

theorem State.execDmaHalt_tiles {c resp addr write} : KeepsTiles s (execDmaHalt t c resp addr write s) := by
  refine .released fun s => ?_
  simp only [↓dmaHalt_tiles, ↓ite_tiles, ite_self]

theorem State.execRegisterWrite_tiles {addr value} : KeepsTiles s (execRegisterWrite t addr value s) := by
  refine .released fun s => ?_
  simp only [↓writeReg_tiles, ↓dmaGo_tiles, ↓dmaStop_tiles, ↓ite_tiles, ite_self]

/-! ### Commands: those that change the state of a tile -/

theorem State.execTileDrainInstant_tiles {tile} : KeepsEightTiles s (execTileDrainInstant t tile s) := by
  refine .released fun s hs => ?_
  dsimp only
  (repeat' split) <;> simp only [↓setTile_tiles, ↓tiles_mk, ↓xp_tiles, List.length_set, hs]

theorem State.execTileQueuesEmpty_tiles {tile} : KeepsEightTiles s (execTileQueuesEmpty t tile s) := by
  refine .released fun s hs => ?_
  simp only [↓crcEnded_tiles, ↓event_tiles, ↓setTile_tiles, ↓ite_tiles, apply_ite List.length, List.length_set, ite_self, hs]

theorem State.execTileFailure_tiles {tile cause src conn} : KeepsEightTiles s (execTileFailure t tile cause src conn s) := by
  refine .released fun s hs => ?_
  simp only [↓tileFail_tiles_length, hs]

theorem State.execTileResetDone_tiles {tile good} : KeepsEightTiles s (execTileResetDone t tile good s) := by
  refine .released fun s hs => ?_
  simp only [↓ite_tiles, apply_ite List.length, ↓tileDone_tiles_length, ite_self, hs]

theorem State.execTileRestoreInstant_tiles {tile} : KeepsEightTiles s (execTileRestoreInstant t tile s) := by
  refine .released fun s hs => ?_
  (repeat' split) <;> simp +zetaDelta only [↓drainHeld_tiles, ↓endTwoOut_tiles, ↓setTile_tiles, ↓tiles_mk, ↓xp_tiles, List.length_set, hs]

theorem State.execTransactionTimeout_tiles {isl off master typ} : KeepsEightTiles s (execTransactionTimeout t isl off master typ s) := by
  refine .released fun s hs => ?_
  dsimp only
  (repeat' split) <;> simp only [↓matrixResponse_tiles, ↓handshakeLost_tiles_length, hs]

theorem State.execIslandFence_tiles {isl} : KeepsEightTiles s (execIslandFence t isl s) := by
  refine .served fun s hs => ?_
  simp only [↓fence_tiles_length, hs]

theorem State.execIslandRearmed_tiles {isl good} : KeepsEightTiles s (execIslandRearmed t isl good s) := by
  refine .served fun s hs => ?_
  simp only [↓rearm_tiles_length, hs]

theorem State.execWireLoss_tiles {isl} : KeepsEightTiles s (execWireLoss t isl s) := by
  refine .released fun s hs => ?_
  simp only [↓ite_tiles, ↓fence_tiles_length, ↓raise_tiles, ↓set_tiles, ↓tiles_mk, ↓xp_tiles, apply_ite List.length, ite_self, hs]

theorem State.execIslandReset_tiles {q} : KeepsEightTiles s (execIslandReset t q s) := by
  refine .served fun s hs => request_tiles_of (P := (·.length = 8)) hs fun s c hu => ?_
  simp only [↓badValue_tiles, ↓badState_tiles, ↓ok_tiles, ↓fence_tiles_length, ↓ite_tiles, apply_ite List.length, ite_self, hu, hs]

/-! ### Commands: the start of the chip, its fall to reset, and the boundary of a house frame -/

theorem State.rollback_tiles : s.rollback.tiles = s.tiles := by
  simp only [State.rollback, ↓event_tiles, ↓ite_tiles, ↓tiles_mk, ↓xp_tiles, ite_self]

theorem State.copied_tiles {n} : (s.copied n).tiles = s.tiles := by
  simp only [State.copied, ↓tiles_mk, ↓xp_tiles]

theorem State.serviced_tiles {w} : (s.serviced w).tiles = s.tiles := by
  simp only [State.serviced, ↓tiles_mk, ↓xp_tiles]

theorem State.sampled_tiles {w} : (s.sampled w).tiles = s.tiles := by
  simp only [State.sampled, ↓serviced_tiles, ↓set_tiles, ↓tiles_mk, ↓xp_tiles]

theorem State.execChipServes_tiles : KeepsTiles s (execChipServes t s) := by
  refine .live fun s => ?_
  simp only [↓roleFromOff_tiles, ↓pulseShow_tiles, ↓copyEvents_tiles, ↓report_tiles, ↓status_tiles, ↓rollback_tiles, ↓ite_tiles, ↓tiles_mk,
    ↓xp_tiles, ite_self]

theorem State.execLifecycleSet_tiles {q} : KeepsTiles s (execLifecycleSet t q s) := by
  refine .served fun s => request_tiles fun s c => ?_
  simp only [↓busy_tiles, ↓badState_tiles, ↓raise_tiles, ↓consumers_tiles, ↓ok_tiles, ↓lifeEffects_tiles, ↓ite_tiles, ↓tiles_mk, ↓xp_tiles,
    ite_self]

theorem State.execStageWrite_tiles {q good plain} : KeepsTiles s (execStageWrite t q good plain s) := by
  refine .served fun s => request_tiles fun s c => ?_
  dsimp only
  (repeat' split) <;> simp only [↓badState_tiles, ↓badValue_tiles, ↓badImage_tiles, ↓ok_tiles, ↓stageShow_tiles, ↓tiles_mk, ↓xp_tiles]

theorem KeepsEightTiles.verify {w} : KeepsEightTiles s (s.verify w) := by
  unfold State.verify
  split
  · exact (KeepsTiles.next State.halt_tiles).eight
  · exact .ite (.next State.configure_tiles_length.trans) .fault

theorem KeepsEightTiles.decideCopy {w} : KeepsEightTiles s (s.decideCopy w) := by
  unfold State.decideCopy
  refine .ite .verify (.ite (KeepsTiles.next State.halt_tiles).eight (.ite (.of_tiles .verify State.zeroStage_tiles) ?_))
  split
  · refine .of_tiles .verify ?_
    simp only [↓State.zeroStage_tiles, ↓State.tiles_mk, ↓State.xp_tiles]
  · exact (KeepsTiles.next State.status_tiles).eight

theorem State.execPowerStart_tiles {w} : KeepsEightTiles s (execPowerStart t w s) := by
  have hsampled : ((s.at_ t).sampled w).tiles = s.tiles := sampled_tiles.trans at_tiles
  refine .ite (KeepsTiles.next at_tiles).eight (.ite (KeepsTiles.next (halt_tiles.trans hsampled)).eight ?_)
  refine .of_tiles ?_ (opened_tiles (w := w).trans hsampled)
  refine .ite ?_ (.ite ?_ (.ite ?_ .decideCopy)) <;> refine (KeepsTiles.next ?_).eight <;> simp only [↓halt_tiles, ↓set_tiles]

theorem State.execImageCopyDone_tiles {good w} : KeepsEightTiles s (execImageCopyDone t good w s) := by
  unfold execImageCopyDone
  dsimp only
  refine .ite (KeepsTiles.next at_tiles).eight (.ite (KeepsTiles.next ?_).eight ?_)
  · simp only [↓halt_tiles, ↓copied_tiles, ↓at_tiles, ↓tiles_mk, ↓xp_tiles]
  · split
    · refine (KeepsTiles.next ?_).eight
      simp only [↓halt_tiles, ↓copied_tiles, ↓at_tiles, ↓tiles_mk, ↓xp_tiles]
    · refine .of_tiles .verify ?_
      simp only [↓zeroStage_tiles, ↓copied_tiles, ↓at_tiles, ↓tiles_mk, ↓xp_tiles]

/-- A fall to reset leaves every tile OUT. -/
theorem State.execResetFall_tiles {torn report copy} : KeepsEightTiles s (execResetFall t torn report copy s) := by
  refine .ite (KeepsTiles.next at_tiles).eight (.next fun _ => ?_)
  rw [fallen_tiles, List.length_replicate]

/-- At the boundary of a house frame a restart that is due resets the chip; the rest of the boundary leaves the tiles. -/
theorem State.execHouseFrameBoundary_tiles : KeepsEightTiles s (execHouseFrameBoundary t s) := by
  refine .served fun s hs => ?_
  rw [strandSends_tiles]
  refine restartDue_tiles_length ?_
  simp only [↓dropMarks_tiles, ↓pointLate_tiles, ↓flowBoundary_tiles, ↓flipHouse_tiles, ↓tallies_tiles, ↓flipBanks_tiles,
    ↓timeDue_tiles, ↓clearDue_tiles, ↓swapDue_tiles, ↓freeQuiet_tiles, ↓hystDue_tiles, ↓tiles_mk, ↓xp_tiles, hs]

end

/-! ### Every step -/

theorem State.exec_eightTiles {c : Instr} {s : State} : KeepsEightTiles s (exec c s) := by
  cases c
  case imageCopyDone t good w => exact execImageCopyDone_tiles (t := t) (good := good) (w := w)
  exacts [execPowerStart_tiles, execResetFall_tiles, execDramTrainingDone_tiles.eight, execWhlRefWaitEnd_tiles.eight,
    execChipServes_tiles.eight, execStartWaitExpiry_tiles.eight, execRejoin_tiles.eight, execDtlsClientHello_tiles.eight, execKeyUpdate_tiles.eight,
    execCloseNotify_tiles.eight, execSessionIdleExpiry_tiles.eight, execCertValidityCheck_tiles.eight, execSicpRecordUnparsable_tiles.eight,
    execPairDatagramHandoff_tiles.eight, execPing_tiles.eight, execIdentity_tiles.eight, execRouteQuery_tiles.eight, execRegRead_tiles.eight,
    execRegWrite_tiles.eight, execCounters_tiles.eight, execLogRead_tiles.eight, execSubscribe_tiles.eight, execUnsubscribe_tiles.eight,
    execFaultClear_tiles.eight, execTake_tiles.eight, execSalvoOpen_tiles.eight, execSalvoAdd_tiles.eight, execSalvoArm_tiles.eight,
    execSalvoCommit_tiles.eight, execSalvoAbort_tiles.eight, execDelaySet_tiles.eight, execFlowSet_tiles.eight, execFlowRelease_tiles.eight,
    execAudRoute_tiles.eight, execBusSet_tiles.eight, execAudDelaySet_tiles.eight, execWindowSet_tiles.eight, execWindowClear_tiles.eight,
    execLayerOrder_tiles.eight, execBulkWrite_tiles.eight, execFence_tiles.eight, execTimeRef_tiles.eight, execTimeRealign_tiles.eight,
    execTimeSet_tiles.eight, execTileDrain_tiles.eight, execTileRestore_tiles.eight, execIslandReset_tiles, execPairSwap_tiles.eight,
    execPairRestart_tiles.eight, execPairRejoin_tiles.eight, execEvacClear_tiles.eight, execStageOpen_tiles.eight, execStageWrite_tiles.eight,
    execStageClose_tiles.eight, execKeyGenerate_tiles.eight, execKeyImport_tiles.eight, execKeyDestroy_tiles.eight, execKeyAttest_tiles.eight,
    execLifecycleSet_tiles.eight, execEvent_tiles.eight, execCycleClose_tiles.eight, execHouseFrameBoundary_tiles, execSwitchingPoint_tiles.eight,
    execJournalRecordWrite_tiles.eight, execCellCrcFail_tiles.eight, execCrcLimitExceeded_tiles.eight, execReorderTimeout_tiles.eight,
    execTileDrainInstant_tiles, execTileQueuesEmpty_tiles, execTileFailure_tiles, execTileResetDone_tiles, execTileRestoreInstant_tiles,
    execSdiSignalPresent_tiles.eight, execSdiHuntDwellEnd_tiles.eight, execSdiClockRecovered_tiles.eight, execSdiFrameReceived_tiles.eight,
    execSdiEavLoss_tiles.eight, execSdiSignalAbsent_tiles.eight, execEthFrameRx_tiles.eight, execMergeHoleTimeout_tiles.eight,
    execLegDown_tiles.eight, execIdleReleaseExpiry_tiles.eight, execReportRepeat_tiles.eight, execPortSignalLock_tiles.eight,
    execPortAligned_tiles.eight, execPortLockTimeout_tiles.eight, execPortLockLost_tiles.eight, execPortSignalLoss_tiles.eight,
    execOctetPllUnlock_tiles.eight, execPauseWatchdog_tiles.eight, execQignoreEnd_tiles.eight, execBeFrameAged_tiles.eight,
    execCounterHalf_tiles.eight, execCounterSweep_tiles.eight, execPtpMessageTx_tiles.eight, execWritePointerDeadline_tiles.eight,
    execDramReadEcc_tiles.eight, execDramScrub_tiles.eight, execNeighbourRefresh_tiles.eight, execRefreshWindowEnd_tiles.eight,
    execRefreshRateRead_tiles.eight, execZqRecalibrate_tiles.eight, execPointChangeInstant_tiles.eight, execDgReset_tiles.eight,
    execAudioTick_tiles.eight, execAudioSampleArrival_tiles.eight, execInputGap_tiles.eight, execSdiAudioSlip_tiles.eight,
    execBusIdleEntry_tiles.eight, execTdmFsEdge_tiles.eight, execTdmSyncLoss_tiles.eight, execTdmMutingEnd_tiles.eight, execAudReset_tiles.eight,
    execAudReload_tiles.eight, execWindowEngineWrite_tiles.eight, execHeadFrameSelect_tiles.eight, execWinHoldExpiry_tiles.eight,
    execServoSample_tiles.eight, execRefQualify_tiles.eight, execRefDisqualify_tiles.eight, execWtrExpiry_tiles.eight, execWhlLockReached_tiles.eight,
    execWhlOutOfLock_tiles.eight, execHoldoverExpiry_tiles.eight, execWhlNoref_tiles.eight, execTimeStep_tiles.eight, execXoLoss_tiles.eight,
    execTwinTimeExcess_tiles.eight, execWireCalibrate_tiles.eight, execWireLoss_tiles, execWhlReset_tiles.eight, execRtcMinuteWrite_tiles.eight,
    execStrandUnitRx_tiles.eight, execStrandPortUp_tiles.eight, execStrandHello_tiles.eight, execStrandMeasureDone_tiles.eight,
    execStrandEcho_tiles.eight, execStrandDown_tiles.eight, execStrandCreditSend_tiles.eight, execLinkState_tiles.eight, execSkeinArm_tiles.eight,
    (execSkeinReport_tiles (port := 0)).eight, (execSkeinDecision_tiles (port := 0)).eight, execSkeinRelease_tiles.eight, execClaim_tiles.eight,
    execSkeinMessageRepeat_tiles.eight, execMirrorHoldExpiry_tiles.eight, execDblHello_tiles.eight, execDblBeat_tiles.eight,
    execDblBeatSend_tiles.eight, execDblCopy_tiles.eight, execDblConfirm_tiles.eight, execDblNack_tiles.eight, execDblSnap_tiles.eight,
    execDblBulk_tiles.eight, execDblHandoff_tiles.eight, execDblEvent_tiles.eight, execDblTime_tiles.eight, execDblYield_tiles.eight,
    execDblSwap_tiles.eight, execDblLinkLoss_tiles.eight, execDblLaneDown_tiles.eight, execTieInChange_tiles.eight, execTieFault_tiles.eight,
    execSettleEnd_tiles.eight, execHandoffPeriodEnd_tiles.eight, execErrorLineOccurrence_tiles.eight, execCurrentBitExpiry_tiles.eight,
    execFltCheck_tiles.eight, execIslandError_tiles.eight, execLogBlockWrite_tiles.eight, execTempSample_tiles.eight, execLockstep_tiles.eight,
    execSramEcc_tiles.eight, execTransactionTimeout_tiles, execIslandFence_tiles, execIslandRearmed_tiles, execSpnReset_tiles.eight,
    execKeyReset_tiles.eight, execBootReset_tiles.eight, execDmaCmdGo_tiles.eight, execDmaCmdStop_tiles.eight, execDmaTimerEvent_tiles.eight,
    execDmaChainEvent_tiles.eight, execDmaDescriptorDone_tiles.eight, execDmaHalt_tiles.eight, execXrdLenWrite_tiles.eight,
    execXrdDataRead_tiles.eight, execRcFieldRead_tiles.eight, execCounterLowRead_tiles.eight, execRegisterWrite_tiles.eight,
    execStageIdleExpiry_tiles.eight, execSalvoHandleExpiry_tiles.eight, execRngFail_tiles.eight, execTamper_tiles.eight,
    execTamperRelease_tiles.eight, execGpiSample_tiles.eight, execEvacSample_tiles.eight, execDblLaneUp_tiles.eight, execStrandHelloSend_tiles.eight,
    execLeapSecond_tiles.eight, execRemoteFault_tiles.eight, execGratuitousArpRepeat_tiles.eight, execTargetSetChange_tiles.eight]

/-- Settles O28: a tile's change sets one state of the list, a fall to reset gives eight, and every other command leaves the list. -/
theorem eightTilesStay : Obligations.EightTilesStay := by
  unfold Obligations.EightTilesStay
  intro s s' h hs
  unfold step at h
  split at h
  · exact Host.Outcome.next.inj h ▸ hs
  next c rest _ => exact State.exec_eightTiles (s := { s with pending := rest }) hs s' h

/-- Settles O1: `step` is defined by cases on the queue, and no table word decodes to a command. -/
theorem stepRunsFrontCommand : Obligations.StepRunsFrontCommand :=
  ⟨fun _ _ _ => rfl, fun _ => rfl, fun _ _ _ => ⟨rfl, rfl⟩⟩

end Sys2Proof.Machine

/-! ## The signal model

A switching point and the targets of a connection, the requests that join a cycle, the close of a cycle and the boundary of a house frame. A request
that is accepted acts in the state of its acceptance, so each of its statements is about the body of its command alone. -/

namespace Sys2Proof.Machine

/-! ### The switching point and the targets of a connection -/

/-- 04 R136, R178: a point already passed, and one that falls in a reset of the cluster, switch nothing. -/
theorem exec_switchingPoint {s : State} {t : Time} {d : Fin 1024} {v : List Byte} (hs : s.inService = true) (hv : s.dstRec d = some v) :
    exec (.switchingPoint t d) s = .next (
      let rate := fmtRate (recFormat v)
      let n := frameAt rate t
      if n = (s.dst d).frame || s.has (rstNow (s.dstCluster d)) then s.at_ t else (s.at_ t).switch d n (alignPoint rate n) v) := by
  have hv' : (s.at_ t).dstRec d = some v := hv
  change execSwitchingPoint t d s = _
  rw [execSwitchingPoint, served_of_inService hs, hv']
  rfl

/-- 03 R97: a target joins its connection where a booking that is needed soon asks for it. -/
theorem exec_targetSetChange_add {s : State} {t : Time} {key : ConnKey} {n : Fin 25} (hs : s.inService = true) :
    exec (.targetSetChange t key n true) s = .next (
      if targetOf (s.at_ t).soonBks key n && !s.xp.targets.contains (key, n.val)
      then { s.at_ t with xp.targets := s.xp.targets ++ [(key, n.val)] } else s.at_ t) := by
  change execTargetSetChange t key n true s = _
  rw [execTargetSetChange, served_of_inService hs]
  rfl

/-- 03 R97: a target leaves its connection unless a booking uses it. -/
theorem exec_targetSetChange_remove {s : State} {t : Time} {key : ConnKey} {n : Fin 25} (hs : s.inService = true) :
    exec (.targetSetChange t key n false) s = .next (
      if (s.at_ t).targetBooked key n then s.at_ t else { s.at_ t with xp.targets := s.xp.targets.filter (fun y => !(y = (key, n.val))) }) := by
  change execTargetSetChange t key n false s = _
  rw [execTargetSetChange, served_of_inService hs]
  rfl

/-- A target that is asked for stands among the targets afterwards, whether or not it stood there before. -/
theorem exec_targetSetChange_add_mem {s : State} {t : Time} {key : ConnKey} {n : Fin 25} (hs : s.inService = true)
    (hasked : targetOf (s.at_ t).soonBks key n = true) :
    ∃ s', exec (.targetSetChange t key n true) s = .next s' ∧ ∀ y, y ∈ s'.xp.targets ↔ y ∈ s.xp.targets ∨ y = (key, n.val) := by
  refine ⟨_, exec_targetSetChange_add hs, fun y => ?_⟩
  by_cases hin : (key, n.val) ∈ s.xp.targets
  · have hstands : s.xp.targets.contains (key, n.val) = true := List.contains_iff_mem.mpr hin
    rw [hstands, Bool.not_true, Bool.and_false, if_neg Bool.false_ne_true]
    exact (or_iff_left_of_imp fun hy => hy ▸ hin).symm
  · have hnew : (!s.xp.targets.contains (key, n.val)) = true := by simpa using hin
    rw [hasked, hnew, Bool.and_self, if_pos rfl]
    exact List.mem_append.trans (or_congr_right List.mem_singleton)

/-- A target that no booking uses is gone afterwards, and it alone. -/
theorem exec_targetSetChange_remove_mem {s : State} {t : Time} {key : ConnKey} {n : Fin 25} (hs : s.inService = true)
    (hfree : (s.at_ t).targetBooked key n = false) :
    ∃ s', exec (.targetSetChange t key n false) s = .next s' ∧ ∀ y, y ∈ s'.xp.targets ↔ y ∈ s.xp.targets ∧ y ≠ (key, n.val) := by
  refine ⟨_, exec_targetSetChange_remove hs, fun y => ?_⟩
  rw [hfree, if_neg Bool.false_ne_true]
  simp only [List.mem_filter, Bool.not_eq_true', decide_eq_false_iff_not, ne_eq]

/-- Settles O25: by the branch of the switching point, and by whether the target stands already or is booked. -/
theorem switchingAndTargets : Obligations.SwitchingAndTargets := by
  unfold Obligations.SwitchingAndTargets
  refine ⟨fun t d v s hs hv => ⟨fun hnew hrst => ?_, fun hpassed => ?_⟩, fun t key n s hs => ⟨exec_targetSetChange_add_mem hs,
    fun hno => ?_, fun hbooked => ?_, exec_targetSetChange_remove_mem hs⟩⟩
  · rw [exec_switchingPoint hs hv]
    simp only [hnew, hrst, decide_false, Bool.or_self, Bool.false_eq_true, if_false]
  · rw [exec_switchingPoint hs hv]
    simp only [hpassed, decide_true, Bool.true_or, if_true]
  · rw [exec_targetSetChange_add hs, hno, Bool.false_and, if_neg Bool.false_ne_true]
  · rw [exec_targetSetChange_remove hs, if_pos hbooked]

/-! ### Requests that join the cycle -/

/-- A request that is taken, and that its body does not refuse, joins the running cycle. -/
theorem State.served_joins {s u : State} {t : Time} {m : Msg} {q : Req} {lacks : State → Session → List Tlv → Option Need} {x : Ctx}
    {body : State → Ctx → State} {cmd : Instr} (h : s.takes t m q lacks u x) (hbody : body u x = u.enqueue x cmd) :
    served t s (fun s => s.request m q lacks body) = .next (u.enqueue x cmd) := by
  rw [served_of_takes h, hbody]

/-- Where all elements have a property that excludes another, none has the other. -/
theorem any_eq_false_of_all {α : Type} {l : List α} {p q : α → Bool} (h : l.all p = true) (hpq : ∀ a, p a = true → q a = false) :
    l.any q = false :=
  List.any_eq_false.mpr fun a ha => Bool.eq_false_iff.mp (hpq a (List.all_eq_true.mp h a ha))

/-- Settles O15: an accepted request acts in the state of its acceptance, where each value that the statement asks for excludes one refusal. -/
theorem configurationRequestsJoinCycle : Obligations.ConfigurationRequestsJoinCycle := by
  unfold Obligations.ConfigurationRequestsJoinCycle
  refine ⟨fun t q s u x v hflow => ⟨fun h honce hlegs => ?flowSet, fun h => ?flowRelease⟩,
    fun t q s u x => ⟨fun h hroutes => ?audRoute, fun h hgain honce hmembers => ?busSet, fun h hline hrec => ?audDelaySet⟩,
    fun t q s u x => ⟨fun h hh hk hz hsrc hrsv hhead hours hformat hlimits => ?windowSet, fun h hhead => ?windowClear,
      fun h horder hhead hsafe => ?layerOrder⟩⟩
  case flowSet =>
    refine State.served_joins h ?_
    have hhas : ¬((x.ts.filter (fun y => y.typ = 0x0F)).map (fun y => beAt y.val 0 1)).any (fun l => 1 + byteAt v 3 % 2 < l) = true := by
      simpa only [List.any_eq_true, decide_eq_true_eq, not_exists, not_and, not_lt] using hlegs
    dsimp only
    rw [hflow]
    exact if_neg (by simp only [honce, hhas, decide_true, Bool.not_true, Bool.or_self, Bool.false_eq_true, not_false_eq_true])
  case flowRelease =>
    refine State.served_joins h ?_
    rw [hflow]
  case audRoute =>
    have hforms := any_eq_false_of_all (q := fun r => adBad .out r.1 || adBad .inp r.2.1 || !gainOk r.2.2) hroutes (by simp +contextual)
    have hplaces := any_eq_false_of_all (q := fun r => (placeOf u.outAddrs r.1).isNone || u.noInput r.2.1) hroutes (by simp +contextual)
    exact State.served_joins h ((if_neg (Bool.eq_false_iff.mp hforms)).trans (if_neg (Bool.eq_false_iff.mp hplaces)))
  case busSet =>
    have hforms := any_eq_false_of_all (q := fun m => adBad .member m.1 || !gainOk m.2) hmembers (by simp +contextual)
    have hinputs := any_eq_false_of_all (q := fun m => u.noInput m.1) hmembers (by simp +contextual)
    have hlow : (u.busLow (fld x.ts 0x11 0 2) && (membersOf x.ts).any (fun m => !u.lowInput m.1)) = false := by
      cases hb : u.busLow (fld x.ts 0x11 0 2)
      · rfl
      · exact any_eq_false_of_all hmembers (by simp +contextual [hb])
    refine State.served_joins h ?_
    dsimp only
    simp only [hgain, hforms, honce, hinputs, hlow, decide_true, Bool.not_true, Bool.or_self, Bool.false_eq_true, if_false]
  case audDelaySet => exact State.served_joins h ((if_neg (not_le.mpr hline)).trans (if_neg hrec))
  case windowSet =>
    have hexists : ((u.headSrc (winOfTlv x.ts).h).isNone ||
        (u.ours (winOfTlv x.ts).src && (u.srcRec (indexOfId (winOfTlv x.ts).src)).isNone)) = false := by
      rw [← Option.not_isSome, ← Option.not_isSome, hhead]
      cases ho : u.ours (winOfTlv x.ts).src
      · rfl
      · rw [hours ho]; rfl
    refine State.served_joins h ?_
    dsimp only
    rw [hexists, hformat, hlimits, hrsv]
    exact if_neg (by simp only [not_le.mpr hh, not_le.mpr hk, not_le.mpr hz, not_le.mpr hsrc, ne_eq, not_true_eq_false, decide_false,
      Bool.or_self, Bool.false_eq_true, not_false_eq_true])
  case windowClear =>
    refine State.served_joins h ?_
    rw [← Option.not_isSome, hhead]
    rfl
  case layerOrder =>
    refine State.served_joins h ?_
    dsimp only
    rw [horder, ← Option.not_isSome, hhead, hsafe]
    rfl

/-! ### A date past the year 2399 -/

@[simp] theorem State.bump_sicp {s : State} {f : Fld} {n : Nat} : (s.bump f n).sicp = s.sicp := by
  unfold State.bump
  split <;> rfl

@[simp] theorem State.bump64_sicp {s : State} {f : Fld} {n : Nat} : (s.bump64 f n).sicp = s.sicp := by
  unfold State.bump64
  split <;> rfl

@[simp] theorem State.fresh_sicp {s : State} : s.fresh.2.sicp = s.sicp := rfl

@[simp] theorem State.sendVia_sicp {s : State} {p : Nat} {o : Out} : (s.sendVia p o).sicp = s.sicp := by
  unfold State.sendVia
  split <;> simp only [emit_sicp, bump64_sicp, bump_sicp, fresh_sicp]

/-- A reply leaves the requests of the running cycle. -/
theorem State.reply_cyc {s : State} {r : Reply} : (s.reply r).sicp.cyc = s.sicp.cyc := by
  unfold State.reply
  split
  · rfl
  · exact (congrArg Sicp.cyc sendVia_sicp).trans rfl

/-- 17 R648: TIME_SET with a year after 2399 is answered BAD_DATE. -/
theorem exec_timeSet_of_lateYear {s u : State} {t : Time} {q : Req} {x : Ctx} {y mo d h mi sc ns : Nat}
    (hx : s.takes t ⟨0x42, true, [one 0x26]⟩ q (chipNeed 7) u x) (hdate : dateTlv x.ts = (y, mo, d, h, mi, sc, ns)) (hlate : 2399 < y) :
    exec (.timeSet t q) s = .next (u.reply (x.re 0x0027)) := by
  change execTimeSet t q s = _
  rw [execTimeSet, State.served_of_takes hx, hdate]
  exact congrArg Host.Outcome.next (if_pos (by simp only [hlate, decide_true, Bool.or_true, Bool.true_or]))

/-- A session of principal 0 at the pair address. -/
def timeClient : Session :=
  { id := 1, own := false, mgmt := false, princ := 0, tenant := 0, name := [], root := [], certs := [], peer := (0, 0), lastRx := 0 }

/-- A TIME_SET of midnight on 1 January 2400: the TLV's type and length, the year, month and day, and zeros. -/
def timeSet2400 : Req :=
  { sess := 1, peer := (0, 0), backlog := 0, version := 1, flags := 0, id := 1, length := 16
    body := [0x00, 0x26, 0x00, 0x0C, 0x09, 0x60, 0x01, 0x01, 0, 0, 0, 0, 0, 0, 0, 0] }

/-- An active chip in service that serves `timeClient`, whose principal holds the time right over the chip. -/
def timeChip : State :=
  { State.reset.set R.BOOT_STAT_STATUS 8 with
    dbl.role := .active
    sicp.sessions := [timeClient]
    boot.recs := [⟨0x01E3, [0, 0, 0, 0, 1, 0, 0, 0, 7, 0, 0, 0, 0, 0, 0, 0, 1, 0, 0, 0]⟩] }

/-- The DATE TLV of `timeSet2400`. -/
def date2400 : Tlv := ⟨0x26, [0x09, 0x60, 0x01, 0x01, 0, 0, 0, 0, 0, 0, 0, 0]⟩

theorem timeChip_takes_timeSet2400 :
    timeChip.takes 0 ⟨0x42, true, [one 0x26]⟩ timeSet2400 (chipNeed 7) ((timeChip.at_ 0).accepted timeSet2400 timeClient)
      ((timeChip.at_ 0).ctx ⟨0x42, true, [one 0x26]⟩ timeSet2400 timeClient [date2400]) :=
  ⟨by decide +kernel, timeClient, [date2400], by decide +kernel, rfl, rfl⟩

/-- Refutes O14: its clause on TIME_SET bounds the year from below only, and a TIME_SET of the year 2400 is refused with BAD_DATE (17 R648), so that
nothing joins the cycle. -/
theorem not_routeAndPairRequestsJoinCycle : ¬ Obligations.RouteAndPairRequestsJoinCycle := by
  unfold Obligations.RouteAndPairRequestsJoinCycle
  rintro ⟨hpair, -⟩
  obtain ⟨-, -, -, -, htime, -⟩ := hpair 0 timeSet2400 timeChip _ _
  have hdate : dateTlv [date2400] = (2400, 1, 1, 0, 0, 0, 0) := by decide
  have hjoins := htime 2400 1 1 0 0 0 0 timeChip_takes_timeSet2400 hdate (by decide) (by decide)
  rw [exec_timeSet_of_lateYear timeChip_takes_timeSet2400 hdate (by decide)] at hjoins
  have hlen := congrArg (·.sicp.cyc.length) (Host.Outcome.next.inj hjoins)
  simp only [State.reply_cyc, State.enqueue, List.length_append, List.length_singleton] at hlen
  omega

/-! ### What leaves the role, and what leaves the state of the pair -/

/-- The role of the chip (14 Table 14.3), by a name of its own for the reason that `State.tiles` has one. -/
def State.role (s : State) : Role := s.dbl.role

section
variable {s : State} {α : Type}

theorem State.dbl_role : s.dbl.role = s.role := (rfl)

theorem State.role_mk {now up free pending regs wide out boot flt sicp xp sdi dbl bob dram aud mv probe eth ip whl keys spn skn rtc} :
    State.role ⟨now, up, free, pending, regs, wide, out, boot, flt, sicp, xp, sdi, dbl, bob, dram, aud, mv, probe, eth, ip, whl, keys, spn, skn,
      rtc⟩ = dbl.role := (rfl)

theorem State.ite_role {x y : State} {p : Prop} [Decidable p] : (if p then x else y).role = if p then x.role else y.role :=
  apply_ite State.role ..

theorem State.foldl_role {f : State → α → State} {l : List α} (h : ∀ s x, (f s x).role = s.role) : (l.foldl f s).role = s.role :=
  List.foldlRecOn (motive := (·.role = s.role)) l f rfl fun u hu x _ => (h u x).trans hu

theorem State.set_role {f v} : (s.set f v).role = s.role := (rfl)

theorem State.bump_role {f n} : (s.bump f n).role = s.role := by
  simp only [State.bump, ↓set_role, ↓ite_role, ite_self]

theorem State.bump64_role {f n} : (s.bump64 f n).role = s.role := by
  simp only [State.bump64, ↓ite_role, ↓role_mk, ↓dbl_role, ite_self]

theorem State.fresh_role : s.fresh.2.role = s.role := (rfl)

theorem State.emit_role {o} : (s.emit o).role = s.role := (rfl)

theorem State.stageShow_role : s.stageShow.role = s.role := by
  simp only [State.stageShow, ↓set_role]

theorem State.zeroStage_role : s.zeroStage.role = s.role := by
  simp only [State.zeroStage, ↓role_mk, ↓dbl_role]

theorem State.sendVia_role {p m} : (s.sendVia p m).role = s.role := by
  simp only [State.sendVia, ↓bump_role, ↓bump64_role, ↓fresh_role, ↓emit_role, ↓ite_role, ite_self]

theorem State.dblData_role {n m} : (s.dblData n m).role = s.role := by
  simp only [State.dblData, ↓emit_role, ↓role_mk, ↓dbl_role]

theorem State.dblSend_role {typ close body} : (s.dblSend typ close body).role = s.role := by
  simp only [State.dblSend, ↓emit_role, ↓role_mk, ↓dbl_role]

theorem State.publish_role {e} : (s.publish e).role = s.role := by
  simp only [State.publish, ↓bump_role, ↓role_mk, ↓dbl_role]

theorem State.nextSeq_role {isl} : (s.nextSeq isl).2.role = s.role := by
  simp only [State.nextSeq, ↓role_mk, ↓dbl_role]

theorem State.logRec_role {e} : (s.logRec e).role = s.role := by
  simp only [State.logRec, ↓bump_role, ↓role_mk, ↓dbl_role]

theorem State.logOne_role {isl cls code detail extra} : (s.logOne isl cls code detail extra).role = s.role := by
  simp only [State.logOne, ↓dblData_role, ↓publish_role, ↓nextSeq_role, ↓logRec_role, ↓ite_role, ite_self]

theorem State.event_role {isl cls code detail} : (s.event isl cls code detail).role = s.role := by
  simp only [State.event, ↓logOne_role, ↓ite_role, ↓role_mk, ↓dbl_role, ite_self]

theorem State.stageDiscard_role {cause} : (s.stageDiscard cause).role = s.role := by
  fun_cases State.stageDiscard <;> simp only [↓stageShow_role, ↓zeroStage_role, ↓event_role, ↓role_mk, ↓dbl_role]

theorem State.sessShow_role {tenant} : (s.sessShow tenant).role = s.role := by
  simp only [State.sessShow, ↓set_role]

theorem State.ownSessionsEnd_role : s.ownSessionsEnd.role = s.role := by
  simp only [State.ownSessionsEnd, ↓sendVia_role, ↓stageDiscard_role, ↓sessShow_role, ↓foldl_role, ↓ite_role, ↓role_mk, ↓dbl_role, ite_self,
    implies_true]

theorem State.countYield_role : s.countYield.role = s.role := by
  simp only [State.countYield, ↓bump_role, ↓role_mk, ↓dbl_role]

theorem State.quietLater_role : s.quietLater.role = s.role := by
  simp only [State.quietLater, ↓role_mk, ↓dbl_role]

/-- 14 Table 14.3: a chip that takes a role holds it. -/
theorem State.setRole_role {r} : (s.setRole r).role = r := by
  unfold State.setRole
  split
  · assumption
  · simp only [↓event_role, ↓set_role, ↓sessShow_role, ↓ownSessionsEnd_role, ↓foldl_role, ↓ite_role, ↓role_mk, ite_self, implies_true]

/-- 14 R539: a holder that yields is YIELDED. -/
theorem State.yield_role : s.yield.role = .yielded := by
  have h : (s.setRole .yielded).countYield.quietLater.role = .yielded := by rw [quietLater_role, countYield_role, setRole_role]
  unfold State.yield
  rw [dblSend_role, role_mk]
  exact h

theorem State.foldl_dbl {f : State → α → State} {l : List α} (h : ∀ s x, (f s x).dbl = s.dbl) : (l.foldl f s).dbl = s.dbl :=
  List.foldlRecOn (motive := (·.dbl = s.dbl)) l f rfl fun u hu x _ => (h u x).trans hu

theorem State.ite_set_dbl {p : Prop} [Decidable p] {f v} : (if p then s.set f v else s).dbl = s.dbl := by
  split
  · exact set_dbl ..
  · rfl

theorem State.setMask_dbl {m} : (s.setMask m).dbl = s.dbl := by
  unfold State.setMask
  exact foldl_dbl fun _ _ => ite_set_dbl

/-- 09 R356: what masks the tiers leaves the state of the pair. -/
theorem State.tierMask_dbl : s.tierMask.dbl = s.dbl := setMask_dbl

end

/-! ### The cycle close and the house frame boundary -/

/-- 02 R80: a close is taken once. -/
theorem exec_cycleClose_of_taken {s : State} {t : Time} (hs : s.inService = true) (h : s.dbl.lastClose = t) :
    exec (.cycleClose t) s = .next (s.at_ t) := by
  change execCycleClose t s = _
  rw [execCycleClose, served_of_inService hs]
  exact congrArg Host.Outcome.next (if_pos (by simp only [State.at_dbl, State.at_now, h, decide_true, Bool.or_true]))

/-- A close that is due, once no chip settles any more: the tiers that hold no extent are masked, and the rest goes by the role. -/
theorem exec_cycleClose_of_due {s : State} {t : Time} (hs : s.inService = true) (hdue : (s.at_ t).closeOf ((s.at_ t).cycleEnd (t - 1)) = t)
    (hnew : s.dbl.lastClose ≠ t) (hsettled : s.dbl.settleEnd = none) :
    let b := (s.at_ t).cycleEnd (t - 1)
    let v : State := ({ s.at_ t with dbl.lastClose := t } : State).tierMask
    exec (.cycleClose t) s = .next (
      if !s.dbl.role.holds then (if s.dbl.linkUp && (s.dbl.role = .standby || s.dbl.role = .joining) then v else v.settle b).checkpoint
      else if s.dbl.yieldPend && v.twinReady then v.yield else v.closeCycle b) := by
  change execCycleClose t s = _
  rw [execCycleClose, served_of_inService hs]
  refine congrArg Host.Outcome.next ((if_neg ?_).trans ?_)
  · simp only [Bool.or_eq_true, decide_eq_true_eq, not_or, ne_eq, not_not]
    exact ⟨hdue, hnew⟩
  · simp only [State.tierMask_dbl, State.at_dbl, hsettled, Option.isSome_none, Bool.false_eq_true, if_false]
    rfl

/-- 02 R79: the parts of a house frame boundary in their order. -/
theorem exec_houseFrameBoundary {s : State} {t : Time} (hs : s.inService = true) :
    let counted : State := { s.at_ t with xp.seqAt := s.xp.seqCtr }
    let flipped := counted.dropMarks.flipHouse.flowBoundary.flipBanks
    let due := flipped.hystDue.timeDue.clearDue.swapDue
    exec (.houseFrameBoundary t) s = .next due.freeQuiet.tallies.pointLate.restartDue.strandSends := by
  change execHouseFrameBoundary t s = _
  rw [execHouseFrameBoundary, served_of_inService hs]
  rfl

/-- Settles O24: by the control and the pending yield of a close that is due; a boundary is its parts in their order. -/
theorem cycleAndBoundaryAct : Obligations.CycleAndBoundaryAct := by
  unfold Obligations.CycleAndBoundaryAct
  refine ⟨fun t s hs => ⟨exec_cycleClose_of_taken hs, fun hdue hnew hsettled => ⟨fun hholds hstays => ?_, fun hholds hyield hready => ?_,
    fun hidle => ?_⟩⟩, fun t s => exec_houseFrameBoundary⟩
  all_goals rw [exec_cycleClose_of_due hs hdue hnew hsettled]
  · have hkeeps : (s.dbl.yieldPend && (({ s.at_ t with dbl.lastClose := t } : State).tierMask).twinReady) = false := by
      cases hp : s.dbl.yieldPend
      · rfl
      · exact hstays hp
    rw [hholds, hkeeps]
    rfl
  · rw [hholds, hyield, hready]
    exact ⟨rfl, State.yield_role⟩
  · rw [hidle]
    rfl

end Sys2Proof.Machine

/-! ## The crosspoint

Cells that fail their CRC or do not come, which have counters and marks, and the states of a tile, which the list of the tiles' states gives. -/

namespace Sys2Proof.Machine

section
variable {s : State} {t : Time}

/-! ### Cells that fail their CRC -/

/-- 03 R89: a best-effort cell, or one that the rotation sent through the tile on a connection that exists, is counted; another is not. -/
theorem exec_cellCrcFail {n : Fin 8} {isl conn seq : Nat} {be : Bool} (hs : s.awake = true) :
    exec (.cellCrcFail t n isl conn seq be) s = .next (
      if be || (s.xp.conns.any (fun c => c.1 = conn) && (s.at_ t).passed conn seq n) then (s.at_ t).cellBad n isl else s.at_ t) := by
  change execCellCrcFail t n isl conn seq be s = _
  rw [execCellCrcFail, released_of_awake hs]
  rfl

/-- 03 R90: failures within CRC_LIMIT have no effect beyond their count. -/
theorem exec_crcLimitExceeded_of_within {n : Fin 8} (hs : s.awake = true) (hn : (s.at_ t).crcCount n ≤ (s.at_ t).crcLimit) :
    exec (.crcLimitExceeded t n) s = .next (s.at_ t) := by
  change execCrcLimitExceeded t n s = _
  rw [execCrcLimitExceeded, released_of_awake hs]
  simp only [hn, decide_true, Bool.true_or, if_true]

/-- 03 R90: a tile in service past CRC_LIMIT is drained if every other tile serves and its drain is not under way, and its drain is held if another
tile is out. -/
theorem exec_crcLimitExceeded_of_past {n : Fin 8} (hs : s.awake = true) (hpast : (s.at_ t).crcLimit < (s.at_ t).crcCount n)
    (hserves : (s.at_ t).tile n = .inService) :
    let u := s.at_ t
    let awaited := s.flt.conds.any (fun c => c.isl = 16 + n.val) && s.xp.drainAt.map (·.1) = some n.val
    let detail := beBytes 4 4 ++ beBytes 4 1 ++ beBytes 4 0
    let access : Acc := { typ := 4, master := 0x40 + 16 + n }
    let held : State := { u with xp.crcPending := u.xp.crcPending.filter (· ≠ n.val) ++ [n.val] }
    exec (.crcLimitExceeded t n) s = .next (
      if u.othersServe n then if awaited then u else (u.drainFailing n).raise (16 + n) 2 0x0002 tagCrcDrain detail access
      else held.raise (16 + n) 3 0x0002 tagCrcHeld detail access) := by
  have hguard : (decide ((s.at_ t).crcCount n ≤ (s.at_ t).crcLimit) || decide ((s.at_ t).tile n ≠ .inService)) = false := by
    simp [hpast, hserves]
  change execCrcLimitExceeded t n s = _
  rw [execCrcLimitExceeded, released_of_awake hs, hguard, if_neg Bool.false_ne_true]
  rfl

/-! ### Counter fields -/

theorem State.get_of_regs {u : State} (h : u.regs = s.regs) (g : Fld) : u.get g = s.get g := by
  simp only [State.get, State.word, h]

theorem State.bump_xp {f : Fld} {n : Nat} : (s.bump f n).xp = s.xp := by
  unfold State.bump
  split <;> rfl

theorem State.peak_xp {f : Fld} {v : Nat} : (s.peak f v).xp = s.xp := by
  unfold State.peak
  split <;> rfl

theorem State.bump_canonical {f : Fld} {n : Nat} (hc : canonical s.regs = true) : canonical (s.bump f n).regs = true :=
  (Keeps.refl s).bump.regs_ok hc

theorem State.peak_canonical {f : Fld} {v : Nat} (hc : canonical s.regs = true) : canonical (s.peak f v).regs = true :=
  (Keeps.refl s).peak.regs_ok hc

theorem State.get_bump_same {f : Fld} (hc : canonical s.regs = true) (hf : f.lo ≤ f.hi) (hh : f.hi < 32) (n : Nat) :
    (s.bump f n).get f = (s.get f + n) % 2 ^ f.width := by
  unfold State.bump
  split
  next hn => rw [hn, Nat.add_zero]; exact (Nat.mod_mod _ _).symm
  next => exact State.get_set_same hc f hf hh _

theorem State.get_bump_word {f g : Fld} (h : g.addr ≠ f.addr) (n : Nat) : (s.bump f n).get g = s.get g := by
  unfold State.bump
  split <;> [rfl; exact State.get_set_word h _]

theorem State.get_peak_word {f g : Fld} (h : g.addr ≠ f.addr) (v : Nat) : (s.peak f v).get g = s.get g := by
  unfold State.peak
  split <;> [exact State.get_set_word h _; rfl]

/-! ### The marks of lost cells -/

theorem total_eq_sum (l : List Nat) : total l = l.sum := List.sum_eq_foldl.symm

/-- Where the replacement of an element is accepted as the element was, the accepted elements are as before but the first. -/
theorem filter_updFirst {α : Type} {p : α → Bool} {f : α → α} (hf : ∀ a, p (f a) = p a) (l : List α) :
    (updFirst p f l).filter p = (l.filter p).modifyHead f := by
  induction l with
  | nil => rfl
  | cons a l ih =>
    unfold updFirst
    split
    next ha => simp [ha, hf]
    next ha => simp [ha, ih]

/-- The elements that are not accepted are no others than before. -/
theorem filter_not_updFirst {α : Type} {p : α → Bool} {f : α → α} (hf : ∀ a, p (f a) = p a) (l : List α) :
    (updFirst p f l).filter (fun a => !p a) = l.filter (fun a => !p a) := by
  induction l with
  | nil => rfl
  | cons a l ih =>
    unfold updFirst
    split
    next ha => simp [ha, hf]
    next ha => simp [ha, ih]

/-- A mark counts `n` more lost cells, at the places `idx` of its frame. -/
def LostMark.lose (m : LostMark) (n : Nat) (idx : List Nat) : LostMark := { m with cells := m.cells + n, idx := m.idx ++ idx }

section
variable {isl frame n : Nat} {k : ConnKey} {idx : List Nat}

theorem LostMark.on_lose (m : LostMark) : (m.lose n idx).on isl k frame = m.on isl k frame := rfl

theorem LostMark.on_new {now : Time} : LostMark.on ⟨isl, k, frame % 65536, now, n, idx⟩ isl k frame = true := by
  simp only [LostMark.on, decide_true, Bool.and_self]

theorem State.markLost_regs : (s.markLost isl k frame n idx).regs = s.regs := by
  unfold State.markLost
  split <;> rfl

theorem State.markLost_get {g : Fld} : (s.markLost isl k frame n idx).get g = s.get g := get_of_regs markLost_regs g

theorem State.markLost_lostMarks : (s.markLost isl k frame n idx).xp.lostMarks =
    if s.xp.lostMarks.any (·.on isl k frame) then updFirst (·.on isl k frame) (·.lose n idx) s.xp.lostMarks
    else s.xp.lostMarks ++ [⟨isl, k, frame % 65536, s.now, n, idx⟩] := by
  unfold State.markLost
  split <;> rfl

/-- The marks on a frame of a connection on its way to an island. -/
def State.marksOn (s : State) (isl : Nat) (k : ConnKey) (frame : Nat) : List LostMark := s.xp.lostMarks.filter (·.on isl k frame)

/-- A mark stands on the frame where its marks are not none. -/
theorem State.marked_iff : s.xp.lostMarks.any (·.on isl k frame) = true ↔ s.marksOn isl k frame ≠ [] := by
  simp [State.marksOn]

/-- 03 R93: the first mark on the frame counts the lost cells, or a new one does where there is none. -/
theorem State.markLost_marksOn (s : State) (isl : Nat) (k : ConnKey) (frame n : Nat) (idx : List Nat) :
    (∃ m l, s.marksOn isl k frame = m :: l ∧ (s.markLost isl k frame n idx).marksOn isl k frame = m.lose n idx :: l) ∨
    (s.marksOn isl k frame = [] ∧
      (s.markLost isl k frame n idx).marksOn isl k frame = [⟨isl, k, frame % 65536, s.now, n, idx⟩]) := by
  by_cases hmarked : s.xp.lostMarks.any (·.on isl k frame) = true
  · obtain ⟨m, l, hml⟩ := List.exists_cons_of_ne_nil (marked_iff.mp hmarked)
    refine .inl ⟨m, l, hml, ?_⟩
    rw [marksOn, markLost_lostMarks, if_pos hmarked, filter_updFirst (fun m => m.on_lose), ← marksOn, hml, List.modifyHead_cons]
  · have hnone : s.marksOn isl k frame = [] := not_not.mp (mt marked_iff.mpr hmarked)
    refine .inr ⟨hnone, ?_⟩
    rw [marksOn, markLost_lostMarks, if_neg hmarked, List.filter_append, ← marksOn, hnone, List.filter_singleton, LostMark.on_new]
    rfl

theorem State.markLost_marked : ∃ m ∈ (s.markLost isl k frame n idx).xp.lostMarks, m.on isl k frame = true := by
  obtain ⟨m, l, -, h⟩ | ⟨-, h⟩ := s.markLost_marksOn isl k frame n idx
  all_goals exact ⟨_, List.mem_filter.mp (h ▸ List.mem_cons_self)⟩

theorem State.markLost_total : total (((s.markLost isl k frame n idx).marksOn isl k frame).map (·.cells)) =
    total ((s.marksOn isl k frame).map (·.cells)) + n := by
  obtain ⟨m, l, h, h'⟩ | ⟨h, h'⟩ := s.markLost_marksOn isl k frame n idx
  all_goals rw [h, h']
  · simp only [LostMark.lose, List.map_cons, total_eq_sum, List.sum_cons]; omega
  · simp only [List.map_cons, List.map_nil, total_eq_sum, List.sum_cons, List.sum_nil]; omega

theorem State.markLost_filter_not_on : (s.markLost isl k frame n idx).xp.lostMarks.filter (fun m => !m.on isl k frame) =
    s.xp.lostMarks.filter (fun m => !m.on isl k frame) := by
  rw [markLost_lostMarks]
  split
  next => exact filter_not_updFirst (fun m => m.on_lose) _
  next => rw [List.filter_append, List.filter_singleton, LostMark.on_new]; exact List.append_nil _

end

/-! ### Cells that do not come -/

/-- Does a connection carry best-effort frames (03 R121)? -/
def ConnKey.isBestEffort : ConnKey → Bool
  | .bestEffort _ _ => true
  | _ => false

/-- A port cluster counts a cell declared lost and shows how long it waited for it (03 R93). -/
def State.countLost (s : State) (isl : Nat) : State :=
  if isl < 16 then (s.bump (R.PC_XPR_LOST isl) 1).peak (R.PC_XPR_REORD_PEAK isl) 28000 else s

/-- A best-effort frame that lost a cell is discarded, and a port cluster counts it unless it is `marked` already (03 R120). -/
def State.dropFrame (s : State) (isl : Nat) (k : ConnKey) (seq : Nat) (marked : Bool) : State :=
  match k with
  | .bestEffort c n => if isl < 16 && !marked then (s.beLost c n seq).bump (R.PC_XPR_BE_DROP isl) 1 else s.beLost c n seq
  | _ => s

section
variable {isl seq : Nat} {k : ConnKey} {marked : Bool}

theorem State.countLost_xp : (s.countLost isl).xp = s.xp := by
  unfold State.countLost
  split <;> simp only [State.peak_xp, State.bump_xp]

theorem State.countLost_canonical (hc : canonical s.regs = true) : canonical (s.countLost isl).regs = true := by
  unfold State.countLost
  split <;> [exact peak_canonical (bump_canonical hc); exact hc]

theorem State.countLost_get_lost (hc : canonical s.regs = true) (h : isl < 16) :
    (s.countLost isl).get (R.PC_XPR_LOST isl) = (s.get (R.PC_XPR_LOST isl) + 1) % 2 ^ 32 := by
  have hpeak : (R.PC_XPR_LOST isl).addr ≠ (R.PC_XPR_REORD_PEAK isl).addr := by simp [R.PC_XPR_LOST, R.PC_XPR_REORD_PEAK, Fld.addr]
  rw [State.countLost, if_pos h, get_peak_word hpeak, get_bump_same hc (Nat.zero_le 31) (Nat.lt_succ_self 31)]
  rfl

theorem State.countLost_get_beDrop : (s.countLost isl).get (R.PC_XPR_BE_DROP isl) = s.get (R.PC_XPR_BE_DROP isl) := by
  have hpeak : (R.PC_XPR_BE_DROP isl).addr ≠ (R.PC_XPR_REORD_PEAK isl).addr := by simp [R.PC_XPR_BE_DROP, R.PC_XPR_REORD_PEAK, Fld.addr]
  have hlost : (R.PC_XPR_BE_DROP isl).addr ≠ (R.PC_XPR_LOST isl).addr := by simp [R.PC_XPR_BE_DROP, R.PC_XPR_LOST, Fld.addr]
  unfold State.countLost
  split <;> [rw [get_peak_word hpeak, get_bump_word hlost]; rfl]

theorem State.countLost_of_island (h : 16 ≤ isl) : s.countLost isl = s := if_neg (not_lt.mpr h)

/-- A frame is counted among the dropped ones where it is best-effort, its way ends at a port cluster and no cell of it was lost before. -/
theorem State.dropFrame_cases (s : State) (isl : Nat) (k : ConnKey) (seq : Nat) (marked : Bool) :
    ∃ u : State, u.regs = s.regs ∧ u.xp.lostMarks = s.xp.lostMarks ∧
      s.dropFrame isl k seq marked = if k.isBestEffort && (isl < 16 && !marked) then u.bump (R.PC_XPR_BE_DROP isl) 1 else u := by
  cases k
  case bestEffort c n => exact ⟨s.beLost c n seq, rfl, rfl, rfl⟩
  all_goals exact ⟨s, rfl, rfl, rfl⟩

theorem State.dropFrame_lostMarks : (s.dropFrame isl k seq marked).xp.lostMarks = s.xp.lostMarks := by
  obtain ⟨u, -, hmarks, h⟩ := s.dropFrame_cases isl k seq marked
  rw [h, ← hmarks]
  split <;> [rw [bump_xp]; rfl]

theorem State.dropFrame_get_lost : (s.dropFrame isl k seq marked).get (R.PC_XPR_LOST isl) = s.get (R.PC_XPR_LOST isl) := by
  have hdrop : (R.PC_XPR_LOST isl).addr ≠ (R.PC_XPR_BE_DROP isl).addr := by simp [R.PC_XPR_LOST, R.PC_XPR_BE_DROP, Fld.addr]
  obtain ⟨u, hregs, -, h⟩ := s.dropFrame_cases isl k seq marked
  rw [h, ← get_of_regs hregs]
  split <;> [exact get_bump_word hdrop 1; rfl]

theorem State.dropFrame_get_beDrop (hc : canonical s.regs = true) (h : isl < 16) : (s.dropFrame isl k seq marked).get (R.PC_XPR_BE_DROP isl) =
    if k.isBestEffort && !marked then (s.get (R.PC_XPR_BE_DROP isl) + 1) % 2 ^ 32 else s.get (R.PC_XPR_BE_DROP isl) := by
  obtain ⟨u, hregs, -, hdrop⟩ := s.dropFrame_cases isl k seq marked
  rw [hdrop, ← get_of_regs hregs, decide_eq_true h, Bool.true_and]
  split <;> [exact get_bump_same (hregs ▸ hc) (Nat.zero_le 31) (Nat.lt_succ_self 31) 1; rfl]

theorem State.dropFrame_regs_of_island (h : 16 ≤ isl) : (s.dropFrame isl k seq marked).regs = s.regs := by
  obtain ⟨u, hregs, -, hdrop⟩ := s.dropFrame_cases isl k seq marked
  rw [hdrop, decide_eq_false (not_lt.mpr h), Bool.false_and, Bool.and_false, if_neg Bool.false_ne_true, hregs]

end

/-- 03 R93, R120: a reorder timeout counts the cell, drops the frame of a best-effort connection, and marks the frame. -/
theorem exec_reorderTimeout {isl seq frame : Nat} {k : ConnKey} (hs : s.awake = true) :
    let v := ((s.at_ t).countLost isl).dropFrame isl k seq (s.xp.lostMarks.any (·.on isl k frame))
    exec (.reorderTimeout t isl k seq frame) s = .next (v.markLost isl k frame 1 (v.cellPlace k seq frame)) := by
  have hxp : ((s.at_ t).countLost isl).xp = s.xp := State.countLost_xp
  change execReorderTimeout t isl k seq frame s = _
  rw [execReorderTimeout, released_of_awake hs, ← hxp]
  rfl

end

/-- Settles O26: by the branches of the two commands on a CRC failure, and by what counting, dropping and marking do in a reorder timeout. -/
theorem cellLossAndCrc : Obligations.CellLossAndCrc := by
  unfold Obligations.CellLossAndCrc
  refine ⟨fun t n isl conn seq be s hs => ⟨fun hsent => ?sent, fun hsent => ?other, fun hpast hserves hothers hcond hdrain => ?awaited,
    fun hpast hserves hothers hnot => ?drained, fun hpast hserves hothers => ?held, exec_crcLimitExceeded_of_within hs⟩,
    fun t isl c seq f s hs hformed => ?timeout⟩
  case sent => exact (exec_cellCrcFail hs).trans (congrArg _ (if_pos hsent))
  case other => exact (exec_cellCrcFail hs).trans (congrArg _ (if_neg (Bool.eq_false_iff.mp hsent)))
  case awaited =>
    rw [exec_crcLimitExceeded_of_past hs hpast hserves, if_pos hothers, hcond, hdrain]
    simp only [decide_true, Bool.and_self, if_true]
  case drained =>
    have hnone : (s.flt.conds.any (fun c => c.isl = 16 + n.val) && decide (s.xp.drainAt.map (·.1) = some n.val)) = false := by
      simpa only [Bool.and_eq_false_iff, decide_eq_false_iff_not] using hnot
    rw [exec_crcLimitExceeded_of_past hs hpast hserves, if_pos hothers, hnone, if_neg Bool.false_ne_true]
  case held => rw [exec_crcLimitExceeded_of_past hs hpast hserves, if_neg (Bool.eq_false_iff.mp hothers)]
  case timeout =>
    obtain ⟨hcanonical, -⟩ := State.formed_iff.mp hformed
    have hcounted : canonical ((s.at_ t).countLost isl).regs = true := State.countLost_canonical hcanonical
    have hmarks (marked : Bool) : (((s.at_ t).countLost isl).dropFrame isl c seq marked).xp.lostMarks = s.xp.lostMarks := by
      rw [State.dropFrame_lostMarks, State.countLost_xp, State.at_xp]
    have hunmarked : (s.marksOn isl c f).isEmpty = !s.xp.lostMarks.any (·.on isl c f) := by
      rw [Bool.eq_iff_iff, List.isEmpty_iff, Bool.not_eq_true', ← Bool.not_eq_true, State.marked_iff, not_not]
    refine ⟨_, exec_reorderTimeout hs, State.markLost_marked, ?_, ?_, fun hcluster => ⟨?_, ?_⟩, fun hisland => ?_⟩
    · exact State.markLost_total.trans (congrArg (fun l => total (List.map _ (List.filter _ l)) + 1) (hmarks _))
    · rw [State.markLost_filter_not_on, hmarks]
    · rw [State.markLost_get, State.dropFrame_get_lost, State.countLost_get_lost (s := s.at_ t) hcanonical hcluster, State.at_get]
    · rw [State.markLost_get, State.dropFrame_get_beDrop hcounted hcluster, State.countLost_get_beDrop, State.at_get, ← hunmarked]
      rfl
    · rw [State.markLost_regs, State.dropFrame_regs_of_island hisland, State.countLost_of_island hisland, State.at_regs]

section
variable {s u : State} {t : Time} {n : Fin 8} {x : TileSt}

/-! ### The list of the tiles' states -/

theorem State.tile_eq (s : State) (n : Nat) : s.tile n = s.tiles.getD n .out := rfl

theorem State.tile_of_tiles (h : u.tiles = s.tiles) (n : Nat) : u.tile n = s.tile n := by rw [tile_eq, tile_eq, h]

/-- A command after which one entry of the list is set changes that tile, and no other. -/
theorem tileGoes {c : Instr} (hlen : s.xp.tiles.length = 8) (he : exec c s = .next u) (h : u.tiles = s.tiles.set n x) :
    ∃ s', exec c s = .next s' ∧ s'.tile n = x ∧ ∀ m : Fin 8, m ≠ n → s'.tile m = s.tile m := by
  have hn : n.val < s.tiles.length := n.isLt.trans_eq hlen.symm
  refine ⟨u, he, ?_, fun m hm => ?_⟩
  · rw [State.tile_eq, h, List.getD, List.getElem?_set_self hn, Option.getD_some]
  · rw [State.tile_eq, State.tile_eq, h, List.getD, List.getElem?_set_ne (Fin.val_ne_of_ne hm.symm), ← List.getD]

/-! ### What the operations of a tile do to the list -/

/-- 03 R127: a tile that is not LOST yet becomes LOST. -/
theorem State.tileFail_tiles {cause : Nat} {a : Acc} (h : s.tile n ≠ .lost) : (s.tileFail n cause a).tiles = s.tiles.set n .lost := by
  unfold State.tileFail
  rw [if_neg h]
  split <;> simp only [↓react_tiles, ↓beginReset_tiles, ↓hold_tiles, ↓latch_tiles, ↓setTile_tiles, ↓tileErr_tiles, ↓crcEnded_tiles,
    ↓resolve_tiles, ↓ite_tiles, ↓tiles_mk, ↓xp_tiles, ite_self]

/-- 03 R127: a reset that succeeded makes its tile OUT; one that failed leaves it. -/
theorem State.tileDone_tiles {good : Bool} : (s.tileDone n good).tiles = if good then s.tiles.set n .out else s.tiles := by
  simp only [State.tileDone, ↓resolve_tiles, ↓event_tiles, ↓setTile_tiles, ↓set_tiles, ↓clearWindow_tiles, ↓ite_tiles]

/-! ### The commands -/

/-- 03 R124: at its drain instant a tile in service whose others serve drains; any other drain is void. -/
theorem exec_tileDrainInstant_of_due {td : Time} (hs : s.awake = true) (hd : s.xp.drainAt = some (n.val, td)) (ht : td ≤ t) :
    let v : State := { s.at_ t with xp.drainAt := none }
    exec (.tileDrainInstant t n) s = .next (if s.tile n = .inService && s.othersServe n then v.setTile n .draining else v) := by
  have hd' : (s.at_ t).xp.drainAt = some (n.val, td) := hd
  have hdue : (decide (n.val = n.val) && decide (td ≤ (s.at_ t).now)) = true := by simp [ht]
  change execTileDrainInstant t n s = _
  rw [execTileDrainInstant, released_of_awake hs, hd']
  exact congrArg _ (if_pos hdue)

/-- 03 Table 3.10: a draining tile whose queues are empty is OUT. -/
theorem exec_tileQueuesEmpty_of_draining (hs : s.awake = true) (h : s.tile n = .draining) :
    exec (.tileQueuesEmpty t n) s = .next ((((s.at_ t).setTile n .out).event (16 + n) 1 0x0101 (beBytes 1 n)).crcEnded n) := by
  change execTileQueuesEmpty t n s = _
  rw [execTileQueuesEmpty, released_of_awake hs]
  exact congrArg _ (if_pos h)

/-- 03 R127: the failure of a tile. -/
theorem exec_tileFailure {cause src conn : Nat} (hs : s.awake = true) : exec (.tileFailure t n cause src conn) s =
    .next ((s.at_ t).tileFail n cause { typ := if cause = 1 then 4 else 3, master := 0x40 + src, addr := conn }) := by
  change execTileFailure t n cause src conn s = _
  rw [execTileFailure, released_of_awake hs]

/-- 03 Table 3.11: the reset of a lost tile is complete. -/
theorem exec_tileResetDone_of_lost {good : Bool} (hs : s.awake = true) (h : s.tile n = .lost) (hr : s.has (rstNow (16 + n)) = true) :
    exec (.tileResetDone t n good) s = .next ((s.at_ t).tileDone n good) := by
  have hlost : (decide ((s.at_ t).tile n = .lost) && (s.at_ t).has (rstNow (16 + n))) = true := by
    rw [State.at_has, hr, Bool.and_true]
    exact decide_eq_true h
  change execTileResetDone t n good s = _
  rw [execTileResetDone, released_of_awake hs]
  exact congrArg _ (if_pos hlost)

/-- 03 R92, R125: at its restore instant a tile that is OUT serves again. -/
theorem exec_tileRestoreInstant_of_due {tr : Time} (hs : s.awake = true) (hr : look n.val s.xp.restoreAt = some tr) (ht : tr ≤ t)
    (h : s.tile n = .out) :
    let v : State := { s.at_ t with
      xp.restoreAt := drop n.val s.xp.restoreAt, xp.byLoss := s.xp.byLoss.filter (· ≠ n.val) }
    exec (.tileRestoreInstant t n) s = .next (v.setTile n .inService).endTwoOut.drainHeld := by
  have hr' : look n.val (s.at_ t).xp.restoreAt = some tr := hr
  have hdue : (decide (tr ≤ (s.at_ t).now) && decide ((s.at_ t).tile n = .out)) = true := by
    rw [Bool.and_eq_true, decide_eq_true_eq, decide_eq_true_eq]
    exact ⟨ht, h⟩
  change execTileRestoreInstant t n s = _
  rw [execTileRestoreInstant, released_of_awake hs, hr']
  exact congrArg _ (if_pos hdue)

end

/-- Settles O27: each command of the table sets at most the entry of its tile in the list of the tiles' states. -/
theorem tileStateTable : Obligations.TileStateTable := by
  unfold Obligations.TileStateTable
  refine fun t n s hs hlen => ⟨fun td hd ht hserves hothers => ?drain, fun hdraining => ?empty, fun cause src conn hlost => ?fail,
    fun hlost hreset => ⟨?good, ?bad⟩, fun tr hr ht hout => ?restore, fun td hd ht hserves hothers => ?void⟩
  case drain =>
    refine tileGoes hlen ((exec_tileDrainInstant_of_due hs hd ht).trans (congrArg _ (if_pos (by simp [hserves, hothers])))) ?_
    simp only [↓State.setTile_tiles, ↓State.tiles_mk, ↓State.xp_tiles, ↓State.at_tiles]
  case empty =>
    refine tileGoes hlen (exec_tileQueuesEmpty_of_draining hs hdraining) ?_
    simp only [↓State.crcEnded_tiles, ↓State.event_tiles, ↓State.setTile_tiles, ↓State.at_tiles]
  case fail => exact tileGoes hlen (exec_tileFailure hs) (by rw [State.tileFail_tiles (s := s.at_ t) hlost, State.at_tiles])
  case good => exact tileGoes hlen (exec_tileResetDone_of_lost hs hlost hreset) (by rw [State.tileDone_tiles, if_pos rfl, State.at_tiles])
  case bad =>
    have hsame (m : Fin 8) : ((s.at_ t).tileDone n false).tile m = s.tile m :=
      State.tile_of_tiles (by rw [State.tileDone_tiles, if_neg Bool.false_ne_true, State.at_tiles]) m
    exact ⟨_, exec_tileResetDone_of_lost hs hlost hreset, (hsame n).trans hlost, fun m _ => hsame m⟩
  case restore =>
    refine tileGoes hlen (exec_tileRestoreInstant_of_due hs hr ht hout) ?_
    simp only [↓State.drainHeld_tiles, ↓State.endTwoOut_tiles, ↓State.setTile_tiles, ↓State.tiles_mk, ↓State.xp_tiles, ↓State.at_tiles]
  case void => exact (exec_tileDrainInstant_of_due hs hd ht).trans (congrArg _ (if_neg (by simp [hserves, hothers])))

end Sys2Proof.Machine

/-! ## The Skein

How a Skein message is received. A command that brings one runs `State.skeinIn` with an effect of its own, so what happens to a message that this
chip does not act on is said once for all of them, and each command adds only what its own effect is at the chip that holds control. -/

namespace Sys2Proof.Machine

/-! ### The reception of a message -/

section
variable {s : State} {m : SkMsg} {act : State → State}

/-- 13 R515: a message seen in the last 2 s is only counted. -/
theorem State.skeinIn_of_seen (hseen : s.seen m.id = true) : s.skeinIn m act = s.bump R.SKN_MSG_DUP 1 := if_pos hseen

/-- 13 R513: a new message for another pair is counted and goes on towards it. -/
theorem State.skeinIn_of_other_pair (hnew : s.seen m.id = false) (hother : m.target ≠ s.pairNo) :
    s.skeinIn m act = ((s.note m.id).bump R.SKN_MSG_FWD 1).sendMsg m := by
  have hother' : m.target ≠ (s.note m.id).pairNo := hother
  rw [skeinIn, if_neg (Bool.eq_false_iff.mp hnew), if_pos hother']

/-- 13 R514: a chip without control hands a new message for its pair to the twin, where the link is up. -/
theorem State.skeinIn_of_not_holds (hnew : s.seen m.id = false) (hours : m.target = s.pairNo) (hrole : s.dbl.role.holds = false) :
    s.skeinIn m act = if s.dbl.linkUp then (s.note m.id).emit (.handOver m) else s.note m.id := by
  have hours' : m.target = (s.note m.id).pairNo := hours
  rw [skeinIn, if_neg (Bool.eq_false_iff.mp hnew), if_neg (not_not.mpr hours')]
  exact if_neg (Bool.eq_false_iff.mp hrole)

/-- 13 R514: at the chip that holds control a new message for its pair has its effect. -/
theorem State.skeinIn_of_holds (hnew : s.seen m.id = false) (hours : m.target = s.pairNo) (hrole : s.dbl.role.holds = true) :
    s.skeinIn m act = act (s.note m.id) := by
  have hours' : m.target = (s.note m.id).pairNo := hours
  rw [skeinIn, if_neg (Bool.eq_false_iff.mp hnew), if_neg (not_not.mpr hours')]
  exact if_pos hrole

end

/-! ### The commands that bring a message -/

section
variable {s : State} {t : Time} {port : Nat} {m : SkMsg}

/-- A command whose meaning receives a message on a serving chip receives it on a chip in service. -/
theorem next_skeinIn_of_served {o : Host.Outcome State Fault Refusal} {act : State → State} (hs : s.inService = true)
    (ho : o = served t s fun u => u.skeinIn m act) : o = .next ((s.at_ t).skeinIn m act) :=
  ho.trans (served_of_inService hs t _)

/-- Each of the four messages is received alike, whatever it does at the chip that holds control. -/
theorem exec_skeinMessage {c : Instr} (hs : s.inService = true)
    (hc : c ∈ [Instr.skeinArm t port m, .skeinReport t port m, .skeinDecision t port m, .skeinRelease t port m]) :
    ∃ act, exec c s = .next ((s.at_ t).skeinIn m act) := by
  simp only [List.mem_cons, List.not_mem_nil, or_false] at hc
  obtain rfl | rfl | rfl | rfl := hc
  · exact ⟨_, next_skeinIn_of_served (o := execSkeinArm t port m s) hs rfl⟩
  · exact ⟨_, next_skeinIn_of_served (o := execSkeinReport t port m s) hs rfl⟩
  · exact ⟨_, next_skeinIn_of_served (o := execSkeinDecision t port m s) hs rfl⟩
  · exact ⟨_, next_skeinIn_of_served (o := execSkeinRelease t port m s) hs rfl⟩

/-- 13 R516: what is not acknowledged goes out again, where its close has not passed. -/
theorem exec_skeinMessageRepeat (hs : s.inService = true) : exec (.skeinMessageRepeat t) s = .next
    ((s.skn.sends.filter (fun x => t < x.msg.close)).foldl (fun (v : State) (x : SkSend) => v.sendMsg x.msg) { s.at_ t with skn.sends := [] }) := by
  change execSkeinMessageRepeat t s = _
  rw [execSkeinMessageRepeat, served_of_inService hs]
  rfl

variable (hs : s.inService = true) (hnew : (s.at_ t).seen m.id = false) (hours : m.target = s.pairNo) (hrole : s.dbl.role.holds = true)
include hs hnew hours hrole

/-- 04 R164: an ARM joins the cycle with its priority and principal. -/
theorem exec_skeinArm_of_holds {tc : Time} {auto : Bool} {prio princ : Nat} {items : List SItem} (hbody : m.body = .arm tc auto prio princ items) :
    exec (.skeinArm t port m) s = .next { (s.at_ t).note m.id with
      sicp.order := s.sicp.order + 1, sicp.cyc := s.sicp.cyc ++ [⟨s.sicp.order, t, 0, princ, prio, .skeinArm t port m⟩] } := by
  change execSkeinArm t port m s = _
  rw [execSkeinArm, served_of_inService hs, State.skeinIn_of_holds hnew hours hrole, hbody]
  rfl

/-- 13 R519: a RELEASE joins the cycle. -/
theorem exec_skeinRelease_of_holds {routes : List (Nat × Nat)} (hbody : m.body = .release routes) :
    exec (.skeinRelease t port m) s = .next { (s.at_ t).note m.id with
      sicp.order := s.sicp.order + 1, sicp.cyc := s.sicp.cyc ++ [⟨s.sicp.order, t, 0, 0, 0, .skeinRelease t port m⟩] } := by
  change execSkeinRelease t port m s = _
  rw [execSkeinRelease, served_of_inService hs, State.skeinIn_of_holds hnew hours hrole, hbody]
  rfl

/-- 04 R168: a DECISION is kept. -/
theorem exec_skeinDecision_of_holds {commit : Bool} {tc : Time} (hbody : m.body = .decision commit tc) :
    exec (.skeinDecision t port m) s = .next { (s.at_ t).note m.id with skn.decisions := s.skn.decisions ++ [(m.coord, m.num, commit)] } := by
  change execSkeinDecision t port m s = _
  rw [execSkeinDecision, served_of_inService hs, State.skeinIn_of_holds hnew hours hrole, hbody]
  rfl

/-- 04 R164: a REPORT counts an answer. -/
theorem exec_skeinReport_of_holds : exec (.skeinReport t port m) s = .next (((s.at_ t).note m.id).reportAct m) := by
  change execSkeinReport t port m s = _
  rw [execSkeinReport, served_of_inService hs, State.skeinIn_of_holds hnew hours hrole]

end

/-- Settles O44: by who receives the message, and at the chip that holds control by its kind. -/
theorem skeinMessagesActOnce : Obligations.SkeinMessagesActOnce := by
  unfold Obligations.SkeinMessagesActOnce
  refine fun t port m s hs => ⟨fun c hc => ?received, fun hnew hours hrole => ?acts, ?repeats⟩
  case received =>
    obtain ⟨act, hexec⟩ := exec_skeinMessage hs hc
    rw [hexec]
    exact ⟨fun hseen => congrArg _ (State.skeinIn_of_seen hseen),
      fun hnew hother => congrArg _ (State.skeinIn_of_other_pair hnew hother),
      fun hnew hours hrole => congrArg _ (State.skeinIn_of_not_holds hnew hours hrole)⟩
  case acts =>
    exact ⟨fun _ _ _ _ _ hbody => exec_skeinArm_of_holds hs hnew hours hrole hbody,
      fun _ hbody => exec_skeinRelease_of_holds hs hnew hours hrole hbody,
      fun _ _ hbody => exec_skeinDecision_of_holds hs hnew hours hrole hbody,
      exec_skeinReport_of_holds hs hnew hours hrole⟩
  case repeats => exact exec_skeinMessageRepeat hs

end Sys2Proof.Machine

/-! ## SDI receivers

What a command does to the receive states of the lanes. A lane's STATE stands below every field of its STAT word that the receivers write beside it, so
one function from lanes to states says what each operation leaves, and a command of Table 5.3 sets that function at its own lane alone. -/

namespace Sys2Proof.Machine

section
variable {s u : State} {t : Time} {ρ : Nat → Nat} {f : Fld} {lane : Nat}

/-! ### The receive states of all lanes -/

/-- The receive state of every lane, in a register file of the one form. -/
structure State.RxIs (s : State) (ρ : Nat → Nat) : Prop where
  canonical : canonical s.regs = true
  shows : ∀ m, s.rxState m = ρ m

theorem State.RxIs.of_formed (h : s.formed = true) (t : Time) : (s.at_ t).RxIs s.rxState :=
  ⟨(formed_iff.mp h).1, fun _ => rfl⟩

theorem State.RxIs.setRx (h : s.RxIs ρ) (lane : Nat) (x : RxLane) : (s.setRx lane x).RxIs ρ := ⟨h.canonical, h.shows⟩

@[simp] theorem State.startSweep_get {lane : Nat} {g : Fld} : (s.startSweep lane).get g = s.get g := rfl

theorem State.RxIs.startSweep (h : s.RxIs ρ) (lane : Nat) : (s.startSweep lane).RxIs ρ := h.setRx _ _

theorem State.RxIs.ite {p : Prop} [Decidable p] (hs : s.RxIs ρ) (hu : u.RxIs ρ) : (if p then s else u).RxIs ρ := by
  split <;> assumption

/-- A field above the three bits of STATE leaves the receive states, in whatever word it stands. -/
theorem State.RxIs.set_above {isl off hi lo v : Nat} (h : s.RxIs ρ) (hlo : 2 < lo) (hf : lo ≤ hi) (hhi : hi < 32) :
    (s.set ⟨isl, off, hi, lo⟩ v).RxIs ρ := by
  refine ⟨(Keeps.refl s).set.regs_ok h.canonical, fun m => Eq.trans ?_ (h.shows m)⟩
  by_cases hword : (R.RX_STAT_STATE m).addr = Fld.addr ⟨isl, off, hi, lo⟩
  · exact get_set_below h.canonical hword (Nat.zero_le 2) hlo hf hhi v
  · exact get_set_word hword v

/-- A counter in a word that holds no receive state leaves them. -/
theorem State.RxIs.bump_word (h : s.RxIs ρ) (hword : ∀ m, (R.RX_STAT_STATE m).addr ≠ f.addr) (n : Nat) : (s.bump f n).RxIs ρ :=
  ⟨bump_canonical h.canonical, fun m => (get_bump_word (hword m) n).trans (h.shows m)⟩

theorem stat_addr_injective {m : Nat} (h : (R.RX_STAT_STATE m).addr = (R.RX_STAT_STATE lane).addr) : m = lane := by
  simp only [Fld.addr, R.RX_STAT_STATE] at h
  omega

theorem State.RxIs.set_state (h : s.RxIs ρ) {x : Nat} (hx : x < 8) :
    (s.set (R.RX_STAT_STATE lane) x).RxIs (Function.update ρ lane x) := by
  refine ⟨(Keeps.refl s).set.regs_ok h.canonical, fun m => ?_⟩
  obtain rfl | hm := eq_or_ne m lane
  · rw [Function.update_self]
    exact (get_set_same h.canonical _ (Nat.zero_le 2) (show 2 < 32 by decide) x).trans (Nat.mod_eq_of_lt hx)
  · rw [Function.update_of_ne hm]
    exact (get_set_word (mt stat_addr_injective hm) x).trans (h.shows m)

/-- 05 R190: showing a format leaves the receive states, whatever the lanes that show it. -/
theorem State.RxIs.showFormat (h : s.RxIs ρ) (lanes : List Nat) : (s.showFormat lanes).RxIs ρ := by
  unfold State.showFormat
  generalize s.groupFormat lanes = c
  induction lanes generalizing s with
  | nil => exact h
  | cons l ls ih =>
    rw [List.foldl_cons]
    have hformat : (s.set (R.RX_STAT_FORMAT l) c).RxIs ρ := h.set_above (by decide) (by decide) (by decide)
    exact ih hformat

/-- 05 Table 5.13: what a lane shows no more where no frames are received stands above its STATE. -/
theorem State.RxIs.clearLink (h : s.RxIs ρ) (lane : Nat) :
    (((s.set (R.RX_STAT_LINK lane) 0).set (R.RX_STAT_PID_PRESENT lane) 0).set (R.RX_STAT_LEVEL lane) 0).RxIs ρ := by
  have hlink : (s.set (R.RX_STAT_LINK lane) 0).RxIs ρ := h.set_above (by decide) (by decide) (by decide)
  have hpid : ((s.set (R.RX_STAT_LINK lane) 0).set (R.RX_STAT_PID_PRESENT lane) 0).RxIs ρ :=
    hlink.set_above (by decide) (by decide) (by decide)
  exact hpid.set_above (by decide) (by decide) (by decide)

/-- 05 Table 5.3: a lane that takes a receive state has it, and every other lane keeps its own. -/
theorem State.RxIs.setRxState (h : s.RxIs ρ) (lane : Nat) {x : Nat} (hx : x < 8) : (s.setRxState lane x).RxIs (Function.update ρ lane x) := by
  have hstate := h.set_state (lane := lane) hx
  have hfmt (y : RxLane) := hstate.ite (p := x = 4) (hstate.setRx lane y)
  have hlink (y z : RxLane) := (hfmt y).ite (p := 3 ≤ x) (((hfmt y).setRx lane z).clearLink lane)
  unfold State.setRxState
  dsimp only
  split <;> [exact (hlink _ _).showFormat _; exact hlink _ _]

/-- A command that sets one lane's receive state takes that lane there, and no other. -/
theorem rxGoes {c : Instr} {lane : Fin 256} {x : Nat} (he : exec c s = .next u) (h : u.RxIs (Function.update s.rxState lane x)) :
    ∃ s', exec c s = .next s' ∧ s'.rxState lane = x ∧ ∀ m : Fin 256, m ≠ lane → s'.rxState m = s.rxState m :=
  ⟨u, he, (h.shows lane).trans (Function.update_self ..), fun m hm => (h.shows m).trans (Function.update_of_ne (Fin.val_ne_of_ne hm) ..)⟩

/-! ### The commands -/

/-- The guard by which a command asks whether a lane is in FRAMING or RUNNING. -/
theorem receiving_iff :
    (decide ((s.at_ t).rxState lane = 3) || decide ((s.at_ t).rxState lane = 4)) = true ↔ s.rxState lane = 3 ∨ s.rxState lane = 4 := by
  rw [Bool.or_eq_true, decide_eq_true_eq, decide_eq_true_eq]
  rfl

section
variable {lane : Fin 256} (hs : s.awake = true)
include hs

/-- 05 R188: signal takes a DARK lane to HUNT, where a sweep begins. -/
theorem exec_sdiSignalPresent_of_dark (h : s.rxState lane = 1) :
    exec (.sdiSignalPresent t lane) s = .next (((s.at_ t).setRxState lane 2).startSweep lane) := by
  change execSdiSignalPresent t lane s = _
  rw [execSdiSignalPresent, released_of_awake hs]
  exact congrArg _ (if_pos h)

/-- 05 R189: the dwell ends while a rate is left to try. -/
theorem exec_sdiHuntDwellEnd_of_cons {r : Nat} {l : List Nat} (h : s.rxState lane = 2) (hl : (s.rx lane).toTry = r :: l) :
    exec (.sdiHuntDwellEnd t lane) s =
      .next ((s.at_ t).setRx lane { s.rx lane with trying := some r, toTry := l, tryAt := (s.at_ t).up }) := by
  have hl' : ((s.at_ t).rx lane).toTry = r :: l := hl
  change execSdiHuntDwellEnd t lane s = _
  rw [execSdiHuntDwellEnd, released_of_awake hs, hl']
  exact congrArg _ (if_pos h)

/-- 05 R189: the dwell ends on the last rate, so that the sweep has failed and another begins. -/
theorem exec_sdiHuntDwellEnd_of_nil (h : s.rxState lane = 2) (hl : (s.rx lane).toTry = []) :
    exec (.sdiHuntDwellEnd t lane) s = .next (((s.at_ t).bump (R.RX_HUNT_SWEEPS lane) 1).startSweep lane) := by
  have hl' : ((s.at_ t).rx lane).toTry = [] := hl
  change execSdiHuntDwellEnd t lane s = _
  rw [execSdiHuntDwellEnd, released_of_awake hs, hl']
  exact congrArg _ (if_pos h)

/-- 05 R188: the clock is recovered at the rate being tried. -/
theorem exec_sdiClockRecovered_of_trying {rate : Fin 8} (h : s.rxState lane = 2) (hrate : (s.rx lane).trying = some rate.val) :
    exec (.sdiClockRecovered t lane rate) s =
      .next ((((s.at_ t).setRx lane { s.rx lane with last := none, trying := none, toTry := [] }).setRxState lane 3).set
        (R.RX_STAT_LRATE lane) rate) := by
  have hguard : (decide ((s.at_ t).rxState lane = 2) && decide (((s.at_ t).rx lane).trying = some rate.val)) = true := by
    rw [Bool.and_eq_true, decide_eq_true_eq, decide_eq_true_eq]
    exact ⟨h, hrate⟩
  change execSdiClockRecovered t lane rate s = _
  rw [execSdiClockRecovered, released_of_awake hs]
  exact congrArg _ (if_pos hguard)

/-- 05 R188: a lane that receives frames loses its EAVs. -/
theorem exec_sdiEavLoss_of_receiving (h : s.rxState lane = 3 ∨ s.rxState lane = 4) :
    exec (.sdiEavLoss t lane) s = .next (((s.at_ t).setRxState lane 2).startSweep lane) := by
  change execSdiEavLoss t lane s = _
  rw [execSdiEavLoss, released_of_awake hs]
  exact congrArg _ (if_pos (receiving_iff.mpr h))

/-- 05 R188: the signal of a lane that is neither OFF nor DARK is gone. -/
theorem exec_sdiSignalAbsent_of_signal (hlo : 2 ≤ s.rxState lane) (hhi : s.rxState lane ≤ 4) :
    exec (.sdiSignalAbsent t lane) s = .next (((s.at_ t).setRxState lane 1).setRx lane
      { s.rx lane with fmt := 0, matches_ := 0, trying := none, toTry := [] }) := by
  have hguard : (decide (2 ≤ (s.at_ t).rxState lane) && decide ((s.at_ t).rxState lane ≤ 4)) = true := by
    rw [Bool.and_eq_true, decide_eq_true_eq, decide_eq_true_eq]
    exact ⟨hlo, hhi⟩
  change execSdiSignalAbsent t lane s = _
  rw [execSdiSignalAbsent, released_of_awake hs]
  exact congrArg _ (if_pos hguard)

/-- 05 R193: a frame on a lane that receives frames for a source. -/
theorem exec_sdiFrameReceived_of_source {f : SdiFrame} {v : List Byte} {k : Nat} (h : s.rxState lane = 3 ∨ s.rxState lane = 4)
    (hsource : s.rxSource lane = some (v, k)) :
    exec (.sdiFrameReceived t lane f) s = .next (((s.at_ t).sdiFrame lane f v).strandSends) := by
  have hsource' : (s.at_ t).rxSource lane = some (v, k) := hsource
  change execSdiFrameReceived t lane f s = _
  rw [execSdiFrameReceived, released_of_awake hs, hsource']
  exact congrArg _ (if_pos (receiving_iff.mpr h))

/-- 05 R188: a frame on a lane that receives none. -/
theorem exec_sdiFrameReceived_of_not_receiving {f : SdiFrame} (hframing : s.rxState lane ≠ 3) (hrunning : s.rxState lane ≠ 4) :
    exec (.sdiFrameReceived t lane f) s = .next (s.at_ t) := by
  change execSdiFrameReceived t lane f s = _
  rw [execSdiFrameReceived, released_of_awake hs]
  exact congrArg _ (if_neg (mt receiving_iff.mp (not_or.mpr ⟨hframing, hrunning⟩)))

end

/-- A counter of failed sweeps is no field of a STAT word. -/
theorem stat_addr_ne_sweeps (lane m : Nat) : (R.RX_STAT_STATE m).addr ≠ (R.RX_HUNT_SWEEPS lane).addr := by
  simp only [Fld.addr, R.RX_STAT_STATE, R.RX_HUNT_SWEEPS]
  omega

/-- 05 R189: the end of a dwell changes no receive state, so the lane stays in HUNT. -/
theorem rxIs_of_dwellEnd {lane : Fin 256} (hs : s.awake = true) (hformed : s.formed = true) (h : s.rxState lane = 2) :
    ∃ u, exec (.sdiHuntDwellEnd t lane) s = .next u ∧ u.RxIs s.rxState := by
  have hrx := State.RxIs.of_formed hformed t
  cases hl : (s.rx lane).toTry with
  | nil => exact ⟨_, exec_sdiHuntDwellEnd_of_nil hs h hl, (hrx.bump_word (stat_addr_ne_sweeps lane) 1).startSweep _⟩
  | cons r l => exact ⟨_, exec_sdiHuntDwellEnd_of_cons hs h hl, hrx.setRx _ _⟩

end

/-- Settles O29: each command of Table 5.3 sets the receive states at its own lane alone; a frame acts by the state of its lane. -/
theorem sdiReceivers : Obligations.SdiReceivers := by
  unfold Obligations.SdiReceivers
  refine ⟨fun t lane s hs hformed => ?table, fun t lane f s hs => ⟨fun v k h hsource => exec_sdiFrameReceived_of_source hs h hsource,
    fun hframing hrunning => exec_sdiFrameReceived_of_not_receiving hs hframing hrunning⟩⟩
  have hrx := State.RxIs.of_formed hformed t
  refine ⟨fun h => ?present, fun h => ?dwell, fun rate h hrate => ?clock, fun h => ?eav, fun hlo hhi => ?absent, fun r l h hl => ?next,
    fun h hl => ?sweep⟩
  case present => exact rxGoes (exec_sdiSignalPresent_of_dark hs h) ((hrx.setRxState lane (by decide)).startSweep _)
  case dwell =>
    obtain ⟨u, hu, hkept⟩ := rxIs_of_dwellEnd hs hformed h
    exact ⟨u, hu, (hkept.shows lane).trans h, fun m _ => hkept.shows m⟩
  case clock =>
    have hexec := exec_sdiClockRecovered_of_trying (t := t) hs h hrate
    have hframing := (hrx.setRx lane { s.rx lane with last := none, trying := none, toTry := [] }).setRxState lane (x := 3) (by decide)
    refine ⟨rxGoes hexec (hframing.set_above (by decide) (by decide) (by decide)), _, hexec, ?_⟩
    have hwidth : rate.val < 2 ^ (R.RX_STAT_LRATE lane).width := rate.isLt.trans (show 8 < 2 ^ 4 by decide)
    rw [State.get_set_same hframing.canonical _ (show 4 ≤ 7 by decide) (show 7 < 32 by decide), Nat.mod_eq_of_lt hwidth]
  case eav => exact rxGoes (exec_sdiEavLoss_of_receiving hs h) ((hrx.setRxState lane (by decide)).startSweep _)
  case absent => exact rxGoes (exec_sdiSignalAbsent_of_signal hs hlo hhi) ((hrx.setRxState lane (by decide)).setRx _ _)
  case next =>
    refine ⟨_, exec_sdiHuntDwellEnd_of_cons hs h hl, ?_⟩
    rw [State.rx_setRx_same]
    exact ⟨rfl, rfl⟩
  case sweep =>
    refine ⟨_, exec_sdiHuntDwellEnd_of_nil hs h hl, ?_⟩
    rw [State.startSweep_get, State.get_bump_same hrx.canonical (Nat.zero_le 31) (Nat.lt_succ_self 31)]
    rfl

end Sys2Proof.Machine

/-! ## Ethernet reception

A received frame comes to the MAC of its port, passes its checks or is counted in the counter of the first that fails, and then goes to a client that
its body and its port choose. Each of these is a function of its own here, so a lemma about a kind of frame speaks of one of them, and the one lemma about
ETH_FRAME_RX says that on an Ethernet port that is UP the command is their composition. -/

namespace Sys2Proof.Machine

/-! ### The path of a frame -/

/-- The state in which the MAC of a port sees a frame: the best-effort frames that are due have left (log entry 101), what the PCS counted with the frame
is added (07 R266 to R268), and the pauses whose time is over have ended. -/
def State.atMac (s : State) (p : Nat) (f : EthFrame) : State := (s.beArrive.phyCounts p f.fecCor f.fecUnc f.blockErr).pausesEnd p

/-- A frame that passed the MAC's checks is counted (07 R293). -/
def State.countRx (s : State) (p : Nat) (f : EthFrame) : State := (s.bump (R.PORT_RX_FRAMES p) 1).bump64 (R.PORT_RX_OCTETS_LO p) f.len

/-- A frame that is no pause goes to the stages of a management port (07 R291), and on another port to the control class or the flow filter (06 R221). -/
def State.rxData (s : State) (p : Nat) (f : EthFrame) : State :=
  if 256 ≤ p then s.mgmtFrame p f else if s.stage2 p f then s.control p f else (s.flowFilter p f).payAll.strandSends

/-- A pause ends at the MAC (07 R282), and any other frame goes on. -/
def State.rxClient (s : State) (p : Nat) (f : EthFrame) : State :=
  match f.body with
  | .pause _ | .pfc _ => s.pauseFrame p f.body
  | _ => s.rxData p f

/-- What the MAC does with a frame (07 R278, R279). -/
def State.rxMac (s : State) (p : Nat) (f : EthFrame) : State :=
  match s.macFault p f with
  | some c => s.bump c 1
  | none => (s.countRx p f).rxClient p f

section
variable {s : State} {p : Nat} {f : EthFrame}

theorem State.rxMac_of_fault {c : Fld} (hfault : s.macFault p f = some c) : s.rxMac p f = s.bump c 1 := by
  rw [rxMac, hfault]

theorem State.rxMac_of_pass (hpass : s.macFault p f = none) : s.rxMac p f = (s.countRx p f).rxClient p f := by
  rw [rxMac, hpass]

theorem State.rxClient_of_pause {q : Nat} (hbody : f.body = .pause q) : s.rxClient p f = s.pauseFrame p (.pause q) := by
  rw [rxClient, hbody]

theorem State.rxClient_of_pfc {l : List (Option Nat)} (hbody : f.body = .pfc l) : s.rxClient p f = s.pauseFrame p (.pfc l) := by
  rw [rxClient, hbody]

theorem State.rxClient_of_data (hpause : ∀ q, f.body ≠ .pause q) (hpfc : ∀ l, f.body ≠ .pfc l) : s.rxClient p f = s.rxData p f := by
  rw [rxClient]
  cases hbody : f.body with
  | pause q => exact absurd hbody (hpause q)
  | pfc l => exact absurd hbody (hpfc l)
  | _ => rfl

end

/-! ### The command -/

section
variable {s : State} {t : Time} {p : Fin 258} {f : EthFrame}

/-- The guard by which ETH_FRAME_RX turns a frame away. -/
theorem portNotReceiving_iff :
    (decide ((s.at_ t).portState p ≠ 3) || decide ((s.at_ t).portKind p ≠ 1)) = true ↔ s.portState p ≠ 3 ∨ s.portKind p ≠ 1 := by
  rw [Bool.or_eq_true, decide_eq_true_eq, decide_eq_true_eq]
  rfl

/-- A port that is not UP receives nothing. -/
theorem exec_ethFrameRx_of_not_up (hs : s.awake = true) (hdown : s.portState p ≠ 3) : exec (.ethFrameRx t p f) s = .next (s.at_ t) := by
  change execEthFrameRx t p f s = _
  rw [execEthFrameRx, released_of_awake hs]
  exact congrArg _ (if_pos (portNotReceiving_iff.mpr (.inl hdown)))

/-- An Ethernet port that is UP brings a frame to its MAC. -/
theorem exec_ethFrameRx_of_up (hs : s.awake = true) (hup : s.portState p = 3) (hkind : s.portKind p = 1) :
    exec (.ethFrameRx t p f) s = .next (((s.at_ t).atMac p f).rxMac p f) := by
  have hreceives : ¬(s.portState p ≠ 3 ∨ s.portKind p ≠ 1) := not_or.mpr ⟨not_not.mpr hup, not_not.mpr hkind⟩
  change execEthFrameRx t p f s = _
  rw [execEthFrameRx, released_of_awake hs]
  exact congrArg _ (if_neg (mt portNotReceiving_iff.mp hreceives))

end

/-- Settles O30: by the port's state, then by the MAC's checks, then by the body of the frame. -/
theorem ethernetReception : Obligations.EthernetReception := by
  unfold Obligations.EthernetReception
  refine fun t p f s hs => ⟨exec_ethFrameRx_of_not_up hs, fun hup hkind => ?up⟩
  rw [exec_ethFrameRx_of_up hs hup hkind]
  refine ⟨fun c hfault => ?fault, fun q hpass hbody => ?pause, fun l hpass hbody => ?pfc, fun hpass hpause hpfc => ?data⟩
  case fault => exact congrArg _ (State.rxMac_of_fault hfault)
  case pause => exact congrArg _ ((State.rxMac_of_pass hpass).trans (State.rxClient_of_pause hbody))
  case pfc => exact congrArg _ ((State.rxMac_of_pass hpass).trans (State.rxClient_of_pfc hbody))
  case data => exact congrArg _ ((State.rxMac_of_pass hpass).trans (State.rxClient_of_data hpause hpfc))

end Sys2Proof.Machine

/-! ## The records of the image

What the operations of a port leave of the running image. The limits of a port and its kind are read from the image's records, so they are the same
before and after an operation that leaves those. -/

namespace Sys2Proof.Machine

/-- The records of the running image (18 R666), by a name of their own for the reason that `State.tiles` has one. -/
def State.image (s : State) : List Rec := s.boot.recs

theorem State.boot_recs (s : State) : s.boot.recs = s.image := (rfl)

theorem State.image_mk {now up free pending regs wide out boot flt sicp xp sdi dbl bob dram aud mv probe eth ip whl keys spn skn rtc} :
    State.image ⟨now, up, free, pending, regs, wide, out, boot, flt, sicp, xp, sdi, dbl, bob, dram, aud, mv, probe, eth, ip, whl, keys, spn, skn,
      rtc⟩ = boot.recs := (rfl)

section
variable {s u : State} {α : Type} {p : Nat}

/-! ### What is read from the records -/

theorem State.recOf_of_image (h : u.image = s.image) (typ o n k : Nat) : u.recOf typ o n k = s.recOf typ o n k := by
  unfold State.recOf State.recs
  rw [State.boot_recs, State.boot_recs, h]

/-- 07 R279: the longest frame of a port is the image's. -/
theorem State.maxFrame_of_image (h : u.image = s.image) (p : Nat) : u.maxFrame p = s.maxFrame p := by
  unfold State.maxFrame
  rw [State.recOf_of_image h]

/-- 07 Table 7.10: what kind of port a block is stands in the image. -/
theorem State.portKind_of_image (h : u.image = s.image) (p : Nat) : u.portKind p = s.portKind p := by
  unfold State.portKind State.groupAt State.octetRec
  rw [State.recOf_of_image h]

/-! ### Registers, numbers and what is sent -/

theorem State.ite_image {x y : State} {c : Prop} [Decidable c] : (if c then x else y).image = if c then x.image else y.image :=
  apply_ite State.image ..

theorem State.foldl_image {f : State → α → State} {l : List α} (h : ∀ s x, (f s x).image = s.image) : (l.foldl f s).image = s.image :=
  List.foldlRecOn (motive := (·.image = s.image)) l f rfl fun u hu x _ => (h u x).trans hu

theorem State.set_image {f : Fld} {v : Nat} : (s.set f v).image = s.image := (rfl)

theorem State.emit_image {o : Out} : (s.emit o).image = s.image := (rfl)

theorem State.fresh_image : s.fresh.2.image = s.image := (rfl)

theorem State.setPort_image {x : EthPort} : (s.setPort p x).image = s.image := (rfl)

theorem State.bump_image {f : Fld} {n : Nat} : (s.bump f n).image = s.image := by
  simp only [State.bump, ↓ite_image, ↓set_image, ite_self]

theorem State.bump64_image {f : Fld} {n : Nat} : (s.bump64 f n).image = s.image := by
  simp only [State.bump64, ↓ite_image, ↓image_mk, ↓boot_recs, ite_self]

/-! ### Frames under way, and pauses -/

theorem State.sendBe_image {lens : List Nat} : (s.sendBe p lens).image = s.image := by
  simp only [State.sendBe, ↓foldl_image, ↓ite_image, ↓emit_image, ↓bump_image, ↓bump64_image, ite_self, implies_true]

theorem State.resume_image {q : Nat} : (s.resume p q).image = s.image := by
  simp only [State.resume, ↓sendBe_image, ↓setPort_image, ↓set_image]

theorem State.pausesEnd_image : (s.pausesEnd p).image = s.image := by
  simp only [State.pausesEnd, ↓foldl_image, ↓resume_image, implies_true]

theorem State.forwardBe_image {f : EthFrame} : (s.forwardBe p f).image = s.image := by
  simp only [State.forwardBe, ↓ite_image, ↓bump_image, ↓setPort_image, ↓sendBe_image, ↓pausesEnd_image, ite_self]

theorem State.beArrive_image : s.beArrive.image = s.image := by
  simp only [State.beArrive, ↓ite_image, ↓foldl_image, ↓forwardBe_image, ↓image_mk, ↓boot_recs, ite_self, implies_true]

theorem State.phyCounts_image {cor unc err : Nat} : (s.phyCounts p cor unc err).image = s.image := by
  simp only [State.phyCounts, ↓ite_image, ↓foldl_image, ↓bump_image, ↓fresh_image, ite_self, implies_true]

theorem State.atMac_image {f : EthFrame} : (s.atMac p f).image = s.image := by
  simp only [State.atMac, ↓pausesEnd_image, ↓phyCounts_image, ↓beArrive_image]

end

/-! ## Frames that the MAC drops -/

section
variable {s : State} {p : Nat} {f : EthFrame}

/-! ### The MAC's checks in their order (log entry 86) -/

theorem State.macFault_of_short (hshort : f.len < 64) : s.macFault p f = some (R.PORT_RX_RUNT p) := if_pos hshort

theorem State.macFault_of_long (hshort : ¬f.len < 64) (hlong : s.maxFrame p < f.len) : s.macFault p f = some (R.PORT_RX_OVERSIZE p) :=
  (if_neg hshort).trans (if_pos hlong)

theorem State.macFault_of_bad (hshort : ¬f.len < 64) (hlong : ¬s.maxFrame p < f.len) (hbad : f.good = false) :
    s.macFault p f = some (R.PORT_RX_FCS_ERR p) :=
  (if_neg hshort).trans ((if_neg hlong).trans (if_pos (by rw [hbad, Bool.not_false])))

/-- 07 R279: what comes to the MAC before a frame does not change the longest that it takes. -/
theorem State.atMac_maxFrame (t : Time) : ((s.at_ t).atMac p f).maxFrame p = s.maxFrame p :=
  State.maxFrame_of_image (atMac_image (s := s.at_ t)) p

/-- A frame that fails a check on an Ethernet port that is UP is counted in that check's counter and does nothing else. -/
theorem exec_ethFrameRx_of_fault {t : Time} {p : Fin 258} {c : Fld} (hs : s.awake = true) (hup : s.portState p = 3) (hkind : s.portKind p = 1)
    (hfault : ((s.at_ t).atMac p f).macFault p f = some c) : exec (.ethFrameRx t p f) s = .next (((s.at_ t).atMac p f).bump c 1) :=
  (exec_ethFrameRx_of_up hs hup hkind).trans (congrArg _ (State.rxMac_of_fault hfault))

end

/-- Settles O31: each of the three is the first check that the frame fails at the MAC of its port, whose longest frame is that of the state before. -/
theorem badEthernetFramesAreDropped : Obligations.BadEthernetFramesAreDropped := by
  unfold Obligations.BadEthernetFramesAreDropped
  refine fun t p f s hs hup hkind => ⟨fun hshort => ?runt, fun hlen hlong => ?oversize, fun hlen hfits hbad => ?fcs⟩
  case runt => exact exec_ethFrameRx_of_fault hs hup hkind (State.macFault_of_short hshort)
  case oversize =>
    have hmax := (State.atMac_maxFrame (f := f) t).trans_lt hlong
    exact exec_ethFrameRx_of_fault hs hup hkind (State.macFault_of_long (not_lt.mpr hlen) hmax)
  case fcs =>
    have hmax := hfits.trans_eq (State.atMac_maxFrame (f := f) t).symm
    exact exec_ethFrameRx_of_fault hs hup hkind (State.macFault_of_bad (not_lt.mpr hlen) (not_lt.mpr hmax) hbad)

end Sys2Proof.Machine

/-! ## The states of the ports

What a command does to the states of the ports, and to the bits by which a PLL that unlocks shows itself. The operations of a port write many fields, and of
these only STATE, ERR.PLL and the bits of the fault word matter here: one function from fields to values says what each operation leaves of them, and
a command of Table 7.3 sets that function at the STATE of its own port alone. -/

namespace Sys2Proof.Machine

/-! ### Fields that are watched, and fields beside them -/

/-- A field of one word, in an island's window. -/
def Fld.inWord (f : Fld) : Bool := f.lo ≤ f.hi && f.hi < 32 && f.off < 0x100000

/-- Does a word lie in the block of a port (07 R297)? -/
def Fld.inPort (f : Fld) : Bool :=
  (f.isl < 16 && 0x31000 ≤ f.off && f.off < 0x32000) || (f.isl = 34 && 0x70000 ≤ f.off && f.off < 0x70200)

/-- STATE and ERR.PLL of a port (07 Table 7.10), and the latched bits of islands 0 to 31 (20 Table 20.9). -/
def Fld.watched (f : Fld) : Bool :=
  f.inWord && ((f.isl = 38 && f.off = 0 && f.lo = f.hi) ||
    (f.inPort && ((f.off % 0x100 = 0 && f.lo = 28 && f.hi = 29) || (f.off % 0x100 = 8 && f.lo = 3 && f.hi = 3))))

/-- A field that shares no bit with one that is watched: of another word, or of a port's first word and below its STATE. -/
def Fld.aside (f : Fld) : Bool :=
  f.inWord && !(f.isl = 38 && f.off = 0) && (!f.inPort || (f.off % 0x100 = 0 && f.hi < 28) || 0x10 ≤ f.off % 0x100)

/-- Two fields share no bit. -/
def Fld.Apart (g f : Fld) : Prop :=
  g.addr = f.addr → g.lo ≤ g.hi ∧ f.lo ≤ f.hi ∧ f.hi < 32 ∧ (f.hi < g.lo ∨ g.hi < f.lo)

section
variable {f g : Fld} {p m : Nat}

theorem Fld.inWord_iff : f.inWord = true ↔ f.lo ≤ f.hi ∧ f.hi < 32 ∧ f.off < 0x100000 := by
  simp [inWord, and_assoc]

theorem Fld.inPort_iff :
    f.inPort = true ↔ (f.isl < 16 ∧ 0x31000 ≤ f.off ∧ f.off < 0x32000) ∨ (f.isl = 34 ∧ 0x70000 ≤ f.off ∧ f.off < 0x70200) := by
  simp [inPort, and_assoc]

theorem Fld.watched_iff : f.watched = true ↔ f.inWord = true ∧ (f.isl = 38 ∧ f.off = 0 ∧ f.lo = f.hi ∨
    f.inPort = true ∧ (f.off % 0x100 = 0 ∧ f.lo = 28 ∧ f.hi = 29 ∨ f.off % 0x100 = 8 ∧ f.lo = 3 ∧ f.hi = 3)) := by
  simp [watched, and_assoc]

theorem Fld.aside_iff : f.aside = true ↔ f.inWord = true ∧ ¬(f.isl = 38 ∧ f.off = 0) ∧
    (¬f.inPort = true ∨ f.off % 0x100 = 0 ∧ f.hi < 28 ∨ 0x10 ≤ f.off % 0x100) := by
  simp [aside, and_assoc, or_assoc, imp_iff_not_or]

theorem Fld.watched_apart_aside (hg : g.watched = true) (hf : f.aside = true) : g.Apart f := by
  rw [watched_iff, inWord_iff, inPort_iff] at hg
  rw [aside_iff, inWord_iff, inPort_iff] at hf
  unfold Apart addr
  omega

theorem Fld.watched_apart (hg : g.watched = true) (hf : f.watched = true) (hne : g ≠ f) : g.Apart f := by
  have hdiffers : ¬(g.isl = f.isl ∧ g.off = f.off ∧ g.hi = f.hi ∧ g.lo = f.lo) := by
    cases g
    cases f
    simpa only [ne_eq, Fld.mk.injEq] using hne
  rw [watched_iff, inWord_iff, inPort_iff] at hg hf
  unfold Apart addr
  omega

/-- The blocks of the ports lie apart from each other and from the windows of other islands. -/
theorem portPlace_mem (hp : p < 258) :
    ((portPlace p).1 < 16 ∧ 0x31000 ≤ (portPlace p).2 ∧ (portPlace p).2 + 0x100 ≤ 0x32000 ∨
      (portPlace p).1 = 34 ∧ 0x70000 ≤ (portPlace p).2 ∧ (portPlace p).2 + 0x100 ≤ 0x70200) ∧ (portPlace p).2 % 0x100 = 0 := by
  unfold portPlace
  split <;> dsimp only <;> omega

/-- A field of a port's block that is neither in the word of ERR nor at STATE or above it. -/
theorem portField_aside {off hi lo : Nat} (hp : p < 258) (hlo : lo ≤ hi := by decide) (hhi : hi < 32 := by decide)
    (hoff : off = 0 ∧ hi < 28 ∨ 0x10 ≤ off ∧ off < 0x100 := by decide) :
    Fld.aside ⟨(portPlace p).1, (portPlace p).2 + off, hi, lo⟩ = true := by
  have hplace := portPlace_mem hp
  rw [Fld.aside_iff, Fld.inWord_iff, Fld.inPort_iff]
  dsimp only
  omega

/-- The status of a W-lane stands outside the blocks of the ports (07 Table 7.11). -/
theorem laneField_aside {lane hi lo : Nat} (hlo : lo ≤ hi := by decide) (hhi : hi < 32 := by decide) :
    Fld.aside ⟨lane / 16, 0x30000 + 0x40 * (lane % 16), hi, lo⟩ = true := by
  rw [Fld.aside_iff, Fld.inWord_iff, Fld.inPort_iff]
  dsimp only
  omega

theorem iclassFld_aside {n : Nat} (hn : n < 40) : (iclassFld n).aside = true := by
  rw [Fld.aside_iff, Fld.inWord_iff, Fld.inPort_iff, iclassFld]
  dsimp only
  omega

theorem portState_watched (hp : p < 258) : (R.PORT_STATE p).watched = true := by
  have hplace := portPlace_mem hp
  rw [Fld.watched_iff, Fld.inWord_iff, Fld.inPort_iff, R.PORT_STATE]
  dsimp only
  omega

theorem portPll_watched (hp : p < 258) : (R.PORT_ERR_PLL p).watched = true := by
  have hplace := portPlace_mem hp
  rw [Fld.watched_iff, Fld.inWord_iff, Fld.inPort_iff, R.PORT_ERR_PLL]
  dsimp only
  omega

theorem fltBit_of_lt {n : Nat} (hn : n < 32) : fltBit n = ⟨38, 0, n, n⟩ := if_pos hn

theorem fltBit_watched {n : Nat} (hn : n < 32) : (fltBit n).watched = true := by
  simp [fltBit_of_lt hn, Fld.watched, Fld.inWord, hn]

theorem portState_injective (h : R.PORT_STATE m = R.PORT_STATE p) : m = p := by
  simp only [R.PORT_STATE, portPlace, Fld.mk.injEq] at h
  split at h <;> split at h <;> omega

theorem portState_ne_pll : R.PORT_STATE m ≠ R.PORT_ERR_PLL p := fun h => absurd (congrArg Fld.lo h) (show (28 : Nat) ≠ 3 by decide)

theorem portState_ne_fltBit {n : Nat} (hn : n < 32) : R.PORT_STATE m ≠ fltBit n := by
  rw [fltBit_of_lt hn]
  intro h
  exact absurd ((congrArg Fld.hi h).trans (congrArg Fld.lo h).symm) (show (29 : Nat) ≠ 28 by decide)

/-- A write leaves a field that it shares no bit with. -/
theorem State.get_set_apart {s : State} (hc : canonical s.regs = true) (h : g.Apart f) (v : Nat) : (s.set f v).get g = s.get g := by
  by_cases haddr : g.addr = f.addr
  · obtain ⟨hg, hf, hhi, habove | hbelow⟩ := h haddr
    · exact State.get_set_above hc haddr habove hf hhi v
    · exact State.get_set_below hc haddr hg hbelow hf hhi v
  · exact State.get_set_word haddr v

end

/-! ### The values of the watched fields -/

/-- A register file of the one form, with the records of the image and the values of the watched fields. -/
structure State.FlagsAre (s : State) (r : List Rec) (φ : Fld → Nat) : Prop where
  canonical : canonical s.regs = true
  image : s.image = r
  shows : ∀ g, g.watched = true → s.get g = φ g

section
variable {s u : State} {α : Type} {t : Time} {r : List Rec} {φ : Fld → Nat} {f : Fld} {p : Nat}

namespace State

theorem FlagsAre.of_formed (h : s.formed = true) (t : Time) : (s.at_ t).FlagsAre s.image s.get := ⟨(formed_iff.mp h).1, rfl, fun _ _ => rfl⟩

/-- A record update that leaves the register file and the image. -/
theorem FlagsAre.record {now up free pending wide out flt sicp xp sdi dbl bob dram aud mv probe eth ip whl keys spn skn rtc} (h : s.FlagsAre r φ) :
    FlagsAre ⟨now, up, free, pending, s.regs, wide, out, s.boot, flt, sicp, xp, sdi, dbl, bob, dram, aud, mv, probe, eth, ip, whl, keys, spn, skn,
      rtc⟩ r φ :=
  ⟨h.canonical, h.image, h.shows⟩

theorem FlagsAre.ite {c : Prop} [Decidable c] (hs : s.FlagsAre r φ) (hu : u.FlagsAre r φ) : (if c then s else u).FlagsAre r φ := by
  split <;> assumption

theorem FlagsAre.foldl {op : State → α → State} (h : s.FlagsAre r φ) (l : List α)
    (hop : ∀ (u : State) x, u.FlagsAre r φ → (op u x).FlagsAre r φ) : (l.foldl op s).FlagsAre r φ :=
  List.foldlRecOn (motive := (·.FlagsAre r φ)) l op h fun u hu x _ => hop u x hu

theorem FlagsAre.emit (h : s.FlagsAre r φ) (o : Out) : (s.emit o).FlagsAre r φ := .record h

theorem FlagsAre.setPort (h : s.FlagsAre r φ) (p : Nat) (x : EthPort) : (s.setPort p x).FlagsAre r φ := .record h

/-! ### Fields that are written -/

theorem FlagsAre.set_aside (h : s.FlagsAre r φ) (f : Fld) (v : Nat) (hf : f.aside = true := by decide) : (s.set f v).FlagsAre r φ :=
  ⟨(Keeps.refl s).set.regs_ok h.canonical, h.image,
    fun g hg => (get_set_apart h.canonical (Fld.watched_apart_aside hg hf) v).trans (h.shows g hg)⟩

theorem FlagsAre.bump_aside (h : s.FlagsAre r φ) (f : Fld) (n : Nat) (hf : f.aside = true := by decide) : (s.bump f n).FlagsAre r φ :=
  h.ite (h.set_aside f _ hf)

theorem FlagsAre.set_watched (h : s.FlagsAre r φ) (hf : f.watched = true) {v : Nat} (hv : v < 2 ^ f.width) :
    (s.set f v).FlagsAre r (Function.update φ f v) := by
  obtain ⟨hword, -⟩ := Fld.watched_iff.mp hf
  obtain ⟨hlo, hhi, -⟩ := Fld.inWord_iff.mp hword
  refine ⟨(Keeps.refl s).set.regs_ok h.canonical, h.image, fun g hg => ?_⟩
  obtain rfl | hne := eq_or_ne g f
  · rw [Function.update_self, get_set_same h.canonical g hlo hhi, Nat.mod_eq_of_lt hv]
  · rw [Function.update_of_ne hne, get_set_apart h.canonical (Fld.watched_apart hg hf hne), h.shows g hg]

/-! ### Events -/

theorem FlagsAre.logRec (h : s.FlagsAre r φ) (e : Event) : (s.logRec e).FlagsAre r φ := .record (h.bump_aside R.LOG_DROPPED _)

theorem FlagsAre.publish (h : s.FlagsAre r φ) (e : Event) : (s.publish e).FlagsAre r φ := .record (h.bump_aside R.SCP_EV_DROPPED _)

theorem FlagsAre.dblData (h : s.FlagsAre r φ) (n : Nat) (m : Out) : (s.dblData n m).FlagsAre r φ := .emit (.record h) m

theorem FlagsAre.logOne (h : s.FlagsAre r φ) (isl cls code : Nat) (detail : List Byte) (extra : Nat) :
    (s.logOne isl cls code detail extra).FlagsAre r φ := by
  have hseq : (s.nextSeq isl).2.FlagsAre r φ := .record h
  have hpublished (c : Prop) [Decidable c] (e : Event) :
      ((if c then (s.nextSeq isl).2 else (s.nextSeq isl).2.logRec e).publish e).FlagsAre r φ := .publish (.ite hseq (hseq.logRec e)) e
  unfold State.logOne
  refine .ite (.dblData ?_ ..) ?_ <;> exact hpublished ..

theorem FlagsAre.event (h : s.FlagsAre r φ) (isl cls code : Nat) (detail : List Byte) : (s.event isl cls code detail).FlagsAre r φ := by
  have hgap (d : List Byte) : FlagsAre { s.logOne isl 1 0x0005 d 0 with flt.dropped := drop isl s.flt.dropped } r φ := .record (h.logOne ..)
  unfold State.event
  exact .logOne (.ite h (hgap _)) ..

/-! ### The fault word -/

theorem FlagsAre.fltSync (h : s.FlagsAre r φ) : s.fltSync.FlagsAre r φ := (h.set_aside R.FLT_WORD_HI_CLASS _).set_aside R.FLT_STAT_FAULT_N _

theorem FlagsAre.capture (h : s.FlagsAre r φ) (isl cls code : Nat) (a : Acc) : (s.capture isl cls code a).FlagsAre r φ := by
  have hmerges := (h.set_aside R.FLT_CAP_MERGES (min 255 (s.get R.FLT_CAP_MERGES + 1))).set_aside R.FLT_CAP_MULTIPLE 1
  have hfirst := (((h.set_aside R.FLT_CAP_VALID 1).set_aside R.FLT_CAP_CLASS cls).set_aside R.FLT_CAP_TYPE a.typ).set_aside R.FLT_CAP_MERGES 0
  have hplace := ((hfirst.set_aside R.FLT_CAP_MASTER a.master).set_aside R.FLT_CAP_ISLAND isl).set_aside R.FLT_CAP_CODE code
  unfold State.capture
  refine .ite ((hmerges.set_aside R.FLT_WORD_HI_MULTIPLE 1).set_aside R.FLT_CAP_CLASS _) ?_
  exact (((hplace.set_aside R.FLT_CAP_ADDR_LO _).set_aside R.FLT_CAP_ADDR_HI _).set_aside R.FLT_CAP_STAMP _).set_aside R.FLT_CAP_ISEQ _

/-- 20 R706: the bit of an island below 32 is latched. -/
theorem FlagsAre.latch (h : s.FlagsAre r φ) {isl : Nat} (hisl : isl < 32) (cls code : Nat) (a : Acc) :
    (s.latch isl cls code a).FlagsAre r (Function.update φ (fltBit isl) 1) := by
  have hbit : (1 : Nat) < 2 ^ (fltBit isl).width := by
    rw [fltBit_of_lt hisl, Fld.width, Nat.add_sub_cancel_left]
    decide
  have hlatched := (h.capture isl cls code a).set_watched (fltBit_watched hisl) hbit
  exact (hlatched.set_aside (iclassFld isl) _ (iclassFld_aside (by omega))).fltSync

theorem FlagsAre.islandError (h : s.FlagsAre r φ) (f : Fld) (cls : Nat) : (s.islandError f cls).FlagsAre r φ := by
  have hlogged {rate logged} : FlagsAre { s with flt.rate := rate, flt.logged := logged } r φ := .record h
  unfold State.islandError
  exact .ite (.event hlogged ..) (.record h)

/-- 20 R705: an F2 at a bit of an island below 32 sets the bit and latches the island; an F2 has no reaction. -/
theorem FlagsAre.err (h : s.FlagsAre r φ) (hf : f.watched = true) (hbit : f.width = 1) (hisl : f.isl < 32) (a : Acc) (lasts : Bool) :
    (s.err f 2 a lasts).FlagsAre r (Function.update (Function.update φ f 1) (fltBit f.isl) 1) := by
  have hset := h.set_watched hf (v := 1) (by rw [hbit]; exact Nat.one_lt_two)
  have hheld : ((s.set f 1).hold f.isl (errTag f lasts) 2 2 (errDetail f.off f.lo 0)).FlagsAre r (Function.update φ f 1) := .record hset
  exact (hheld.latch hisl 2 0x0002 a).islandError f 2

/-! ### The operations of a port -/

theorem FlagsAre.sendBe (h : s.FlagsAre r φ) (hp : p < 258) (lens : List Nat) : (s.sendBe p lens).FlagsAre r φ := by
  refine h.foldl lens fun u n hu => ?_
  have hcounted := hu.bump_aside (R.PORT_TX_FRAMES p) 1 (portField_aside hp)
  exact .ite (.emit (.ite hcounted (.record hcounted)) _) (hu.bump_aside (R.PORT_TX_DISCARD p) 1 (portField_aside hp))

theorem FlagsAre.resume (h : s.FlagsAre r φ) (hp : p < 258) (q : Nat) : (s.resume p q).FlagsAre r φ :=
  ((h.set_aside (R.PORT_QPAUSED p) _ (portField_aside hp)).setPort p _).sendBe hp _

theorem FlagsAre.pausesEnd (h : s.FlagsAre r φ) (hp : p < 258) : (s.pausesEnd p).FlagsAre r φ :=
  h.foldl _ fun _ e hu => hu.resume hp e.1

theorem FlagsAre.laneFlags (h : s.FlagsAre r φ) (p sig cdr lock : Nat) : (s.laneFlags p sig cdr lock).FlagsAre r φ :=
  h.foldl _ fun _ l hu => ((hu.set_aside (R.WL_STAT_SIG l) sig laneField_aside).set_aside (R.WL_STAT_CDR l) cdr laneField_aside).set_aside
    (R.WL_STAT_LOCK l) lock laneField_aside

theorem FlagsAre.lanesLost (h : s.FlagsAre r φ) (p : Nat) : (s.lanesLost p).FlagsAre r φ := by
  have hfresh : s.fresh.2.FlagsAre r φ := .record h
  refine hfresh.foldl _ fun u i hu => ?_
  have hlock (l : Nat) := hu.set_aside (R.WL_STAT_LOCK l) 0 laneField_aside
  have hsig (l : Nat) := (hlock l).set_aside (R.WL_STAT_SIG l) 0 laneField_aside
  exact .ite ((hsig _).set_aside (R.WL_STAT_CDR _) 0 laneField_aside) (hlock _)

theorem FlagsAre.cut (h : s.FlagsAre r φ) (hp : p < 258) (cut : Bool) : (s.cut p cut).FlagsAre r φ :=
  h.bump_aside (R.PORT_TX_CUT p) _ (portField_aside hp)

/-- 07 Table 7.3: a port that takes a state has it. -/
theorem FlagsAre.setPortState (h : s.FlagsAre r φ) (hp : p < 258) {x : Nat} (hx : x < 4) :
    (s.setPortState p x).FlagsAre r (Function.update φ (R.PORT_STATE p) x) := by
  have hstate := (h.pausesEnd hp).set_watched (portState_watched hp) (v := x) hx
  have herr := hstate.set_aside (R.PORT_HI_ERR p) 0 (portField_aside hp)
  have hdown := herr.bump_aside (R.PORT_LINK_DOWN p) 1 (portField_aside hp)
  have hfaults := (hdown.set_aside (R.PORT_RF_RX p) 0 (portField_aside hp)).set_aside (R.PORT_LF_RX p) 0 (portField_aside hp)
  exact .ite (.ite (hfaults.event ..) hfaults) (.ite (herr.event ..) herr)

end State
end

/-! ### The commands of Table 7.3 -/

/-- The time of a port in LOCK begins (07 R275). -/
def State.lockFrom (s : State) (p : Nat) : State := s.setPort p { s.port p with lockAt := s.now }

theorem State.FlagsAre.lockFrom {s : State} {r : List Rec} {φ : Fld → Nat} (h : s.FlagsAre r φ) (p : Nat) :
    (s.lockFrom p).FlagsAre r φ := h.setPort p _

section
variable {s u : State} {t : Time} {p : Fin 258}

/-- A command that sets one port's state takes that port there, and no other. -/
theorem portGoes {c : Instr} {x : Nat} (he : exec c s = .next u) (h : u.FlagsAre s.image (Function.update s.get (R.PORT_STATE p) x)) :
    ∃ s', exec c s = .next s' ∧ s'.portState p = x ∧ ∀ m : Fin 258, m ≠ p → s'.portState m = s.portState m := by
  refine ⟨u, he, ?_, fun m hm => ?_⟩
  · exact (h.shows _ (portState_watched p.isLt)).trans (Function.update_self ..)
  · have hother : R.PORT_STATE m ≠ R.PORT_STATE p := mt portState_injective (Fin.val_ne_of_ne hm)
    exact (h.shows _ (portState_watched m.isLt)).trans (Function.update_of_ne hother ..)

variable (hs : s.awake = true)
include hs

/-- 07 R275: signal and clock on every lane take a DOWN port to LOCK. -/
theorem exec_portSignalLock_of_down (hkind : s.portKind p ≠ 0) (h : s.portState p = 1) :
    exec (.portSignalLock t p) s =
      .next ((((s.at_ t).setPortState p 2).laneFlags p 1 1 0).lockFrom p |>.errDone (R.PORT_ERR_PLL p)) := by
  have hguard : (decide ((s.at_ t).portKind p ≠ 0) && decide ((s.at_ t).portState p = 1)) = true := by
    rw [Bool.and_eq_true, decide_eq_true_eq, decide_eq_true_eq]
    exact ⟨hkind, h⟩
  change execPortSignalLock t p s = _
  rw [execPortSignalLock, released_of_awake hs]
  exact congrArg _ (if_pos hguard)

/-- 07 R275: an aligned port in LOCK is UP. -/
theorem exec_portAligned_of_lock (h : s.portState p = 2) :
    exec (.portAligned t p) s = .next (((s.at_ t).setPortState p 3).laneFlags p 1 1 1) := by
  change execPortAligned t p s = _
  rw [execPortAligned, released_of_awake hs]
  exact congrArg _ (if_pos h)

/-- 07 R275: 500 ms in LOCK. -/
theorem exec_portLockTimeout_of_lock (h : s.portState p = 2) (hdue : (s.port p).lockAt + 500 * ms ≤ t) :
    exec (.portLockTimeout t p) s = .next ((s.at_ t).setPortState p 1) := by
  have hguard : (decide ((s.at_ t).portState p = 2) && decide (((s.at_ t).port p).lockAt + 500 * ms ≤ (s.at_ t).now)) = true := by
    rw [Bool.and_eq_true, decide_eq_true_eq, decide_eq_true_eq]
    exact ⟨h, hdue⟩
  change execPortLockTimeout t p s = _
  rw [execPortLockTimeout, released_of_awake hs]
  exact congrArg _ (if_pos hguard)

/-- 07 R275: an UP port loses its lock. -/
theorem exec_portLockLost_of_up {hi cut : Bool} (h : s.portState p = 3) :
    exec (.portLockLost t p hi cut) s =
      .next (((((s.at_ t).cut p cut).setPortState p 2).set (R.PORT_HI_ERR p) (b2n hi)).laneFlags p 1 1 0 |>.lockFrom p) := by
  change execPortLockLost t p hi cut s = _
  rw [execPortLockLost, released_of_awake hs]
  exact congrArg _ (if_pos h)

/-- 07 R275: the signal of a port in LOCK or UP is gone. -/
theorem exec_portSignalLoss_of_signal {cut : Bool} (h : 2 ≤ s.portState p) :
    exec (.portSignalLoss t p cut) s =
      .next (((if s.portState p = 3 then (s.at_ t).cut p cut else s.at_ t).setPortState p 1).lanesLost p) := by
  change execPortSignalLoss t p cut s = _
  rw [execPortSignalLoss, released_of_awake hs]
  exact congrArg _ (if_pos h)

/-- 07 R276: what an UP port receives is shown. -/
theorem exec_remoteFault_of_up {rf lf : Bool} (h : s.portState p = 3) :
    exec (.remoteFault t p rf lf) s = .next (((s.at_ t).set (R.PORT_RF_RX p) (b2n rf)).set (R.PORT_LF_RX p) (b2n lf)) := by
  change execRemoteFault t p rf lf s = _
  rw [execRemoteFault, released_of_awake hs]
  exact congrArg _ (if_pos h)

end

/-! ### A PLL that unlocks -/

/-- The port of a lane whose PLL is unlocked goes to DOWN from LOCK or UP; whether a frame of an UP port is cut is a free value (07 R295). -/
def State.unlockDown (s : State) (p : Nat) : State :=
  let (x, s) := if s.portState p = 3 then s.fresh else (0, s)
  if 2 ≤ s.portState p then ((s.cut p (x % 2 = 1)).setPortState p 1).laneFlags p 0 0 0 else s

/-- What the unlocking of an octet's PLL does to one of its lanes: F2 and DOWN where a port begins there (07 R295). -/
def State.unlockPort (s : State) (p : Nat) : State :=
  if s.portKind p = 0 then s else (s.unlockDown p).err (R.PORT_ERR_PLL p) 2 { typ := 3, master := 0x40 + p / 16 } (lasts := true)

/-- The lanes of an octet (01 Table 1.2; 07 R262). -/
def octetLanes (octet : Nat) : List Nat := (List.range 8).map (fun j => 8 * octet + j)

theorem exec_octetPllUnlock {s : State} {t : Time} {octet : Fin 32} (hs : s.awake = true) :
    exec (.octetPllUnlock t octet) s = .next ((octetLanes octet).foldl State.unlockPort (s.at_ t)) := by
  change execOctetPllUnlock t octet s = _
  rw [execOctetPllUnlock, released_of_awake hs]
  rfl

/-- The going DOWN on the watched fields. -/
def downFlags (φ : Fld → Nat) (p : Nat) : Fld → Nat := if 2 ≤ φ (R.PORT_STATE p) then Function.update φ (R.PORT_STATE p) 1 else φ

/-- The unlocking of a lane on the watched fields: where a port begins, it goes DOWN, and ERR.PLL and the bit of its cluster are set. -/
def unlockFlags (kind : Nat → Nat) (φ : Fld → Nat) (p : Nat) : Fld → Nat :=
  if kind p = 0 then φ else Function.update (Function.update (downFlags φ p) (R.PORT_ERR_PLL p) 1) (fltBit (p / 16)) 1

section
variable {s : State} {r : List Rec} {φ : Fld → Nat} {kind : Nat → Nat} {p q : Nat}

theorem State.FlagsAre.unlockDown (h : s.FlagsAre r φ) (hp : p < 258) : (s.unlockDown p).FlagsAre r (downFlags φ p) := by
  have hfresh : (if s.portState p = 3 then s.fresh else (0, s)).2.FlagsAre r φ := by
    split <;> [exact .record h; exact h]
  have hdown (b : Nat × State) (hb : b.2.FlagsAre r φ) :
      (if 2 ≤ b.2.portState p then ((b.2.cut p (b.1 % 2 = 1)).setPortState p 1).laneFlags p 0 0 0 else b.2).FlagsAre r (downFlags φ p) := by
    have hstate : b.2.portState p = φ (R.PORT_STATE p) := hb.shows _ (portState_watched hp)
    unfold downFlags
    rw [hstate]
    by_cases hlock : 2 ≤ φ (R.PORT_STATE p)
    · rw [if_pos hlock, if_pos hlock]
      exact ((hb.cut hp _).setPortState hp (by decide)).laneFlags ..
    · rw [if_neg hlock, if_neg hlock]
      exact hb
  exact hdown _ hfresh

theorem State.FlagsAre.unlockPort (h : s.FlagsAre r φ) (hkind : s.portKind = kind) (hp : p < 256) :
    (s.unlockPort p).FlagsAre r (unlockFlags kind φ p) := by
  have hisl : (R.PORT_ERR_PLL p).isl = p / 16 := congrArg Prod.fst (if_pos hp : portPlace p = _)
  have hport : p < 258 := by omega
  unfold State.unlockPort unlockFlags
  rw [hkind, ← hisl]
  split
  next => exact h
  next => exact (h.unlockDown hport).err (portPll_watched hport) rfl (by omega) _ _

/-- The kinds of the ports are the image's, so an octet's lanes unlock by the kinds that stand before. -/
theorem State.FlagsAre.foldl_unlockPort (h : s.FlagsAre r φ) {l : List Nat} (hl : ∀ p ∈ l, p < 256) :
    (l.foldl State.unlockPort s).FlagsAre r (l.foldl (unlockFlags s.portKind) φ) := by
  suffices hfold : ∀ u ψ, u.FlagsAre r ψ → (l.foldl State.unlockPort u).FlagsAre r (l.foldl (unlockFlags s.portKind) ψ) from hfold s φ h
  induction l with
  | nil => exact fun _ _ hu => hu
  | cons p l ih =>
    intro u ψ hu
    have hkind : u.portKind = s.portKind := funext (State.portKind_of_image (hu.image.trans h.image.symm))
    exact ih (fun q hq => hl q (List.mem_cons_of_mem _ hq)) _ _ (hu.unlockPort hkind (hl p List.mem_cons_self))

/-! ### What the unlocking of an octet leaves -/

theorem update_one_of_one {f g : Fld} (h : φ g = 1) : Function.update φ f 1 g = 1 := by
  obtain rfl | hne := eq_or_ne g f
  · exact Function.update_self ..
  · exact (Function.update_of_ne hne ..).trans h

theorem unlockFlags_of_one {g : Fld} (h : φ g = 1) : unlockFlags kind φ p g = 1 := by
  have hdown : downFlags φ p g = 1 := by
    unfold downFlags
    split <;> [exact update_one_of_one h; exact h]
  unfold unlockFlags
  split <;> [exact h; exact update_one_of_one (update_one_of_one hdown)]

/-- The unlocking of one lane leaves the state of every other. -/
theorem unlockFlags_state_of_ne (hp : p < 256) (hne : q ≠ p) : unlockFlags kind φ p (R.PORT_STATE q) = φ (R.PORT_STATE q) := by
  have hother : R.PORT_STATE q ≠ R.PORT_STATE p := mt portState_injective hne
  have hflt : R.PORT_STATE q ≠ fltBit (p / 16) := portState_ne_fltBit (by omega)
  unfold unlockFlags downFlags
  split <;> [rfl; skip]
  rw [Function.update_of_ne hflt, Function.update_of_ne portState_ne_pll]
  split <;> [exact Function.update_of_ne hother ..; rfl]

theorem foldl_unlockFlags_state_of_notMem {l : List Nat} (hl : ∀ p ∈ l, p < 256) (hq : q ∉ l) :
    l.foldl (unlockFlags kind) φ (R.PORT_STATE q) = φ (R.PORT_STATE q) := by
  induction l generalizing φ with
  | nil => rfl
  | cons p l ih =>
    obtain ⟨hne, hq⟩ := not_or.mp (mt List.mem_cons.mpr hq)
    exact (ih (fun p hp => hl p (List.mem_cons_of_mem _ hp)) hq).trans (unlockFlags_state_of_ne (hl p List.mem_cons_self) hne)

theorem foldl_unlockFlags_of_one {g : Fld} {l : List Nat} (h : φ g = 1) : l.foldl (unlockFlags kind) φ g = 1 :=
  List.foldlRecOn (motive := fun ψ : Fld → Nat => ψ g = 1) l _ h fun _ hψ _ _ => unlockFlags_of_one hψ

theorem downFlags_state (h : φ (R.PORT_STATE p) ≠ 0) : downFlags φ p (R.PORT_STATE p) = 1 := by
  unfold downFlags
  split
  next => exact Function.update_self ..
  next => omega

/-- A lane where a port begins, once unlocked, is DOWN with its bits set. -/
theorem unlockFlags_self (hkind : kind p ≠ 0) (h : φ (R.PORT_STATE p) ≠ 0) :
    unlockFlags kind φ p (R.PORT_STATE p) = 1 ∧ unlockFlags kind φ p (R.PORT_ERR_PLL p) = 1 ∧ unlockFlags kind φ p (fltBit (p / 16)) = 1 := by
  unfold unlockFlags
  rw [if_neg hkind]
  refine ⟨?_, update_one_of_one (Function.update_self ..), Function.update_self ..⟩
  exact update_one_of_one (update_one_of_one (downFlags_state h))

theorem foldl_unlockFlags_of_mem {l : List Nat} (hl : ∀ p ∈ l, p < 256) (hq : q ∈ l) (hkind : kind q ≠ 0) (h : φ (R.PORT_STATE q) ≠ 0) :
    l.foldl (unlockFlags kind) φ (R.PORT_STATE q) = 1 ∧ l.foldl (unlockFlags kind) φ (R.PORT_ERR_PLL q) = 1 ∧
      l.foldl (unlockFlags kind) φ (fltBit (q / 16)) = 1 := by
  induction l generalizing φ with
  | nil => exact absurd hq List.not_mem_nil
  | cons p l ih =>
    obtain rfl | hne := eq_or_ne q p
    · obtain ⟨hstate, hpll, hflt⟩ := unlockFlags_self (φ := φ) hkind h
      rw [List.foldl_cons]
      exact ⟨foldl_unlockFlags_of_one hstate, foldl_unlockFlags_of_one hpll, foldl_unlockFlags_of_one hflt⟩
    · have hstays := unlockFlags_state_of_ne (kind := kind) (φ := φ) (hl p List.mem_cons_self) hne
      exact ih (fun p hp => hl p (List.mem_cons_of_mem _ hp)) (List.mem_of_ne_of_mem hne hq) (hstays.trans_ne h)

end

theorem mem_octetLanes {octet q : Nat} : q ∈ octetLanes octet ↔ q / 8 = octet := by
  simp only [octetLanes, List.mem_map, List.mem_range]
  exact ⟨by rintro ⟨j, hj, rfl⟩; omega, fun h => ⟨q % 8, by omega, by omega⟩⟩

/-- Settles O32: each command of Table 7.3 sets the watched fields at the STATE of its port alone, and the lanes of an octet unlock one by one. -/
theorem portStates : Obligations.PortStates := by
  unfold Obligations.PortStates
  refine ⟨fun t p s hs hformed => ?table, fun t octet s hs hformed => ?octet⟩
  case table =>
    have hflags := State.FlagsAre.of_formed hformed t
    have hp := p.isLt
    refine ⟨fun hkind h => ?lock, fun h => ?aligned, fun h hdue => ?timeout, fun hi cut h => ?lost, fun cut h => ?gone, fun rf lf h => ?fault⟩
    case lock =>
      have hlock := ((hflags.setPortState hp (x := 2) (by decide)).laneFlags p 1 1 0).lockFrom p
      exact portGoes (exec_portSignalLock_of_down hs hkind h) hlock.record
    case aligned => exact portGoes (exec_portAligned_of_lock hs h) ((hflags.setPortState hp (by decide)).laneFlags ..)
    case timeout => exact portGoes (exec_portLockTimeout_of_lock hs h hdue) (hflags.setPortState hp (by decide))
    case lost =>
      have herr := ((hflags.cut hp cut).setPortState hp (x := 2) (by decide)).set_aside (R.PORT_HI_ERR p) (b2n hi)
        (portField_aside hp)
      exact portGoes (exec_portLockLost_of_up hs h) ((herr.laneFlags ..).lockFrom p)
    case gone =>
      have hcut := State.FlagsAre.ite (c := s.portState p = 3) (hflags.cut hp cut) hflags
      exact portGoes (exec_portSignalLoss_of_signal hs h) ((hcut.setPortState hp (by decide)).lanesLost ..)
    case fault =>
      have hrf := hflags.set_aside (R.PORT_RF_RX p) (b2n rf) (portField_aside hp)
      have hlf := hrf.set_aside (R.PORT_LF_RX p) (b2n lf) (portField_aside hp)
      exact ⟨_, exec_remoteFault_of_up hs h, (hlf.shows _ (portState_watched hp)).trans h, fun m _ => hlf.shows _ (portState_watched m.isLt)⟩
  case octet =>
    have hlanes : ∀ q ∈ octetLanes octet, q < 256 := fun q hq => by have := mem_octetLanes.mp hq; omega
    have hflags := (State.FlagsAre.of_formed hformed t).foldl_unlockPort hlanes
    refine ⟨_, exec_octetPllUnlock hs, fun j hkind hstate => ?inside, fun m hm => ?outside⟩
    case inside =>
      have hmem : 8 * octet.val + j ∈ octetLanes octet := mem_octetLanes.mpr (by omega)
      have hlt := hlanes _ hmem
      obtain ⟨hdown, hpll, hflt⟩ := foldl_unlockFlags_of_mem (φ := s.get) hlanes hmem hkind hstate
      refine ⟨(hflags.shows _ (portState_watched (by omega))).trans hdown, decide_eq_true ?_, decide_eq_true ?_⟩
      · exact (hflags.shows _ (portPll_watched (by omega))).trans hpll
      · exact (hflags.shows _ (fltBit_watched (by omega))).trans hflt
    case outside =>
      have hnotMem : m.val ∉ octetLanes octet := mt mem_octetLanes.mp hm
      exact (hflags.shows _ (portState_watched (by omega))).trans (foldl_unlockFlags_state_of_notMem hlanes hnotMem)

end Sys2Proof.Machine

/-! ## Reads, and the writes of bulk data

The requests that read the chip, or write one word or a run of bytes. Each acts in the state of its acceptance (`State.served_of_takes`), so what is left
of its statement is that the values it asks for exclude every refusal of the body. -/

namespace Sys2Proof.Machine

section
variable {s u : State} {t : Time} {q : Req} {x : Ctx}

/-- 15 R579: a query of a destination of this pair that the image has. -/
theorem exec_routeQuery_of_takes (h : s.takes t ⟨0x03, true, [one 4]⟩ q (firstLack (fun ts => [⟨0, 1, fld ts 4 0 4, 0⟩])) u x)
    (hours : u.ours (fld x.ts 4 0 4) = true) (hrec : (u.dstRec (indexOfId (fld x.ts 4 0 4))).isSome = true) :
    exec (.routeQuery t q) s = .next (u.ok x [u.routeTlv (indexOfId (fld x.ts 4 0 4)),
      ⟨0x0D, beBytes 1 (u.dst (indexOfId (fld x.ts 4 0 4))).frames ++ beBytes 1 0 ++
        beBytes 2 (u.dst (indexOfId (fld x.ts 4 0 4))).lines⟩]) := by
  have hstands : (!u.ours (fld x.ts 4 0 4) || (u.dstRec (indexOfId (fld x.ts 4 0 4))).isNone) = false := by
    rw [hours, ← Option.not_isSome, hrec]
    rfl
  exact (State.served_of_takes h _).trans (congrArg _ (if_neg (Bool.eq_false_iff.mp hstands)))

/-- 15 R582: a read of words that begins at one. -/
theorem exec_regRead_of_takes (h : s.takes t ⟨0x04, false, [one 0x1A]⟩ q (regNeeds 0) u x) (hword : fld x.ts 0x1A 0 5 % 4 = 0) :
    exec (.regRead t q) s = .next ((u.readWords State.sicpRead (fld x.ts 0x1A 0 5) (fld x.ts 0x1A 5 1)).2.ok x
      [⟨0x1B, (u.readWords State.sicpRead (fld x.ts 0x1A 0 5) (fld x.ts 0x1A 5 1)).1.flatMap (beBytes 4)⟩]) :=
  (State.served_of_takes h _).trans (congrArg _ (if_neg (not_not.mpr hword)))

/-- 15 R582: a write of one word of a register that SiCP may write. -/
theorem exec_regWrite_of_takes (h : s.takes t ⟨0x05, false, [one 0x1A, one 0x1B]⟩ q (regNeeds 9) u x) (hone : fld x.ts 0x1A 5 1 = 1)
    (hword : fld x.ts 0x1A 0 5 % 4 = 0) (hmay : sicpWritable (fld x.ts 0x1A 0 5) = true) (hlen : (tlv x.ts 0x1B).length = 4) :
    exec (.regWrite t q) s = .next ((u.writeReg (fld x.ts 0x1A 0 5) (fld x.ts 0x1B 0 4) (2 ^ 32 - 1)).ok x []) := by
  have hplace : (decide (fld x.ts 0x1A 5 1 ≠ 1) || decide (fld x.ts 0x1A 0 5 % 4 ≠ 0) || !sicpWritable (fld x.ts 0x1A 0 5)) = false := by
    rw [hone, hword, hmay]
    rfl
  exact (State.served_of_takes h _).trans
    (congrArg _ ((if_neg (Bool.eq_false_iff.mp hplace)).trans (if_neg (not_not.mpr hlen))))

/-- 15 R582: a read of counters that begins at a word. -/
theorem exec_counters_of_takes (h : s.takes t ⟨0x06, false, [one 0x1A]⟩ q (regNeeds 0) u x) (hword : fld x.ts 0x1A 0 5 % 4 = 0) :
    exec (.counters t q) s = .next ((u.readWords State.countersRead (fld x.ts 0x1A 0 5) (fld x.ts 0x1A 5 1)).2.ok x
      [⟨0x1C, (u.readWords State.countersRead (fld x.ts 0x1A 0 5) (fld x.ts 0x1A 5 1)).1.flatMap (beBytes 8)⟩]) :=
  (State.served_of_takes h _).trans (congrArg _ (if_neg (not_not.mpr hword)))

/-- 11 R433: a plane of a head is written in whole words, and a still byte by byte. -/
theorem not_misaligned {k n : Nat} (h : 256 ≤ k → n % 4 = 0) : (decide (256 ≤ k) && decide (n % 4 ≠ 0)) = false := by
  simpa using h

/-- What BULK_WRITE does with data that fit (15 R581): they stand in the hidden bank and go to the twin while the link is up (14 R532), and in ACTIVE the
reply waits for the twin. -/
def State.bulkTaken (s : State) (x : Ctx) : State :=
  let clear := bit (fld x.ts 0x17 3 1) 0
  let w := s.hiddenWrite (targetKey x.ts) (fld x.ts 0x18 0 4) clear (tlv x.ts 0x19)
  let v := if w.dbl.linkUp then w.dblSend 7 0 ([targetKey x.ts, fld x.ts 0x18 0 4, b2n clear] ++ (tlv x.ts 0x19).map (·.toNat)) else w
  if v.dbl.role = .active then { v with dbl.bulks := v.dbl.bulks ++ [(targetKey x.ts, x.re 0)] } else v.ok x []

/-- 15 R581: data that fit the bank of a target that is not fenced. -/
theorem exec_bulkWrite_of_takes {size : Nat} (h : s.takes t ⟨0x33, true, [one 0x17, one 0x18, one 0x19]⟩ q targetLacks u x)
    (hsize : u.bankSize (targetKey x.ts) = some size) (hfits : fld x.ts 0x18 0 4 + (tlv x.ts 0x19).length ≤ size)
    (haligned : 256 ≤ targetKey x.ts → fld x.ts 0x18 0 4 % 4 = 0 ∧ (tlv x.ts 0x19).length % 4 = 0)
    (hopen : (u.banks (targetKey x.ts)).fence = false) : exec (.bulkWrite t q) s = .next (u.bulkTaken x) := by
  have hplace := not_misaligned fun hplane => (haligned hplane).1
  have hlength := not_misaligned fun hplane => (haligned hplane).2
  change execBulkWrite t q s = _
  rw [execBulkWrite, State.served_of_takes h]
  dsimp only
  rw [hsize, hplace, hlength, hopen]
  exact congrArg _ (if_neg (not_lt.mpr hfits))

end

/-- Settles O11: an accepted request acts in the state of its acceptance, where what the statement asks for excludes each refusal. -/
theorem readsAndBulkWrites : Obligations.ReadsAndBulkWrites := by
  unfold Obligations.ReadsAndBulkWrites
  exact ⟨fun t q s u x => ⟨fun h => State.served_of_takes h _, fun h => State.served_of_takes h _, exec_routeQuery_of_takes,
      exec_regRead_of_takes, exec_regWrite_of_takes, exec_counters_of_takes, fun h => State.served_of_takes h _⟩,
    fun t q s u x size => exec_bulkWrite_of_takes⟩

end Sys2Proof.Machine

/-! ## What events and faults leave

The handling of an event or of a fault of class F1 or F2 writes the registers of the fault collector and two counters, and none of the parts that
carry time, pictures and memory. The relation `Leaves` says so once; what a command of the memory or of the Whorl shows afterwards is then what it
wrote itself. -/

namespace Sys2Proof.Machine

/-- The parts of a chip that no event, and no fault below class F3, changes: the present, the crosspoint, the bobbins, the memory and the Whorl. -/
structure Works where
  now : Time
  xp : Xp
  bob : Bob
  dram : Dram
  whl : Whl

def State.works (s : State) : Works := ⟨s.now, s.xp, s.bob, s.dram, s.whl⟩

/-- A field in the window of an island that no event counts in (15 Table 15.13, 20 Table 20.13), and with `faults` none of the fault collector
either. -/
def Fld.outside (faults : Bool) (f : Fld) : Bool :=
  f.off < 0x100000 && !(f.isl = 34 && (f.off = R.SCP_EV_DROPPED.off || f.off = R.LOG_DROPPED.off)) && !(faults && f.isl = 38)

/-- A state has the works of a state before, and its registers but those of events and, with `faults`, those of the fault collector. -/
structure State.Leaves (faults : Bool) (a s : State) : Prop where
  works : s.works = a.works
  get : ∀ g : Fld, g.outside faults = true → s.get g = a.get g

section
variable {a s u : State} {faults : Bool} {f g : Fld} {n isl cls code tag : Nat}

theorem Fld.outside_iff : g.outside faults = true ↔
    g.off < 0x100000 ∧ ¬(g.isl = 34 ∧ (g.off = R.SCP_EV_DROPPED.off ∨ g.off = R.LOG_DROPPED.off)) ∧ ¬(faults = true ∧ g.isl = 38) := by
  simp only [outside, Bool.and_eq_true, Bool.not_eq_true', Bool.and_eq_false_iff, Bool.or_eq_false_iff, decide_eq_true_eq, decide_eq_false_iff_not,
    not_and_or, not_or, and_assoc, Bool.not_eq_true]

/-- The registers of a DRAM group and of its channels (09 Tables 9.9 to 9.12). -/
theorem groupField_outside {off hi lo : Nat} (_hn : n < 8) (hoff : off < 0x100000 := by omega) :
    Fld.outside faults ⟨24 + n, off, hi, lo⟩ = true := by
  rw [Fld.outside_iff]
  dsimp only
  omega

theorem fltBit_outside : (fltBit n).outside false = true := by
  unfold fltBit
  split <;> simp [Fld.outside]

theorem rstNow_outside : (rstNow n).outside faults = true := by
  unfold rstNow
  split <;> simp [Fld.outside, R.SCP_EV_DROPPED, R.LOG_DROPPED]

namespace State

/-- A counter that fills its word counts modulo 2^32 (log entry 4). -/
theorem get_bump_counter (hc : canonical s.regs = true) (isl off n : Nat) :
    (s.bump ⟨isl, off, 31, 0⟩ n).get ⟨isl, off, 31, 0⟩ = (s.get ⟨isl, off, 31, 0⟩ + n) % 2 ^ 32 :=
  get_bump_same hc (Nat.zero_le 31) (show 31 < 32 by decide) n

/-! ### The operations of events and faults

Stated for any two states, so that no operation is unfolded where a part is read off. -/

theorem now_of_works (h : u.works = s.works) : u.now = s.now := congrArg Works.now h

theorem xp_of_works (h : u.works = s.works) : u.xp = s.xp := congrArg Works.xp h

theorem bob_of_works (h : u.works = s.works) : u.bob = s.bob := congrArg Works.bob h

theorem dram_of_works (h : u.works = s.works) : u.dram = s.dram := congrArg Works.dram h

theorem whl_of_works (h : u.works = s.works) : u.whl = s.whl := congrArg Works.whl h

theorem set_works {v : Nat} : (s.set f v).works = s.works := (rfl)

theorem bump_works : (s.bump f n).works = s.works := by
  unfold bump
  split <;> rfl

theorem Leaves.refl (s : State) : Leaves faults s s := ⟨rfl, fun _ _ => rfl⟩

theorem Leaves.ite {c : Prop} [Decidable c] (hs : Leaves faults a s) (hu : Leaves faults a u) : Leaves faults a (if c then s else u) := by
  split <;> assumption

/-- A record update that leaves the works and the register file. -/
theorem Leaves.record {up free pending wide out boot flt sicp sdi dbl aud mv probe eth ip keys spn skn rtc} (h : Leaves faults a s) :
    Leaves faults a ⟨s.now, up, free, pending, s.regs, wide, out, boot, flt, sicp, s.xp, sdi, dbl, s.bob, s.dram, aud, mv, probe, eth, ip, s.whl,
      keys, spn, skn, rtc⟩ :=
  ⟨h.works, h.get⟩

/-- A write of a field of the events, or of the fault collector. -/
theorem Leaves.set (h : Leaves faults a s) (v : Nat) (hf : f.off < 0x100000 ∧ f.outside faults = false) : Leaves faults a (s.set f v) := by
  refine ⟨h.works, fun g hg => (get_set_word (fun haddr => ?_) v).trans (h.get g hg)⟩
  have hfg : f.outside faults = true := by
    rw [Fld.outside_iff] at hg ⊢
    obtain ⟨hoff, hword⟩ := hg
    simp only [Fld.addr] at haddr
    obtain ⟨hisl, hsame⟩ : g.isl = f.isl ∧ g.off = f.off := by omega
    rw [← hisl, ← hsame]
    exact ⟨hoff, hword⟩
  exact Bool.false_ne_true (hf.2.symm.trans hfg)

theorem Leaves.bump (h : Leaves faults a s) (n : Nat) (hf : f.off < 0x100000 ∧ f.outside faults = false) : Leaves faults a (s.bump f n) := by
  unfold State.bump
  exact h.ite (h.set _ hf)

theorem Leaves.setFlt (h : Leaves true a s) (f : Fld) (v : Nat) (hoff : f.off < 0x100000 := by decide) (hisl : f.isl = 38 := by rfl) :
    Leaves true a (s.set f v) :=
  h.set v ⟨hoff, by simp [Fld.outside, hisl]⟩

theorem Leaves.logRec (h : Leaves faults a s) (e : Event) : Leaves faults a (s.logRec e) := .record (h.bump _ (by cases faults <;> decide))

theorem Leaves.publish (h : Leaves faults a s) (e : Event) : Leaves faults a (s.publish e) := .record (h.bump _ (by cases faults <;> decide))

theorem Leaves.emit (h : Leaves faults a s) (o : Out) : Leaves faults a (s.emit o) := .record h

theorem Leaves.dblData (h : Leaves faults a s) (n : Nat) (m : Out) : Leaves faults a (s.dblData n m) := .emit (.record h) m

theorem Leaves.logOne (h : Leaves faults a s) (isl cls code : Nat) (detail : List Byte) (extra : Nat) :
    Leaves faults a (s.logOne isl cls code detail extra) := by
  have hseq : Leaves faults a (s.nextSeq isl).2 := .record h
  have hpublished (c : Prop) [Decidable c] (e : Event) :
      Leaves faults a ((if c then (s.nextSeq isl).2 else (s.nextSeq isl).2.logRec e).publish e) := .publish (.ite hseq (hseq.logRec e)) e
  unfold State.logOne
  refine .ite (.dblData ?_ ..) ?_ <;> exact hpublished ..

theorem Leaves.event (h : Leaves faults a s) (isl cls code : Nat) (detail : List Byte) : Leaves faults a (s.event isl cls code detail) := by
  have hgap (d : List Byte) : Leaves faults a { s.logOne isl 1 0x0005 d 0 with flt.dropped := drop isl s.flt.dropped } := .record (h.logOne ..)
  unfold State.event
  exact .logOne (.ite h (hgap _)) ..

theorem Leaves.islandError (h : Leaves faults a s) (f : Fld) (cls : Nat) : Leaves faults a (s.islandError f cls) := by
  have hlogged {rate logged} : Leaves faults a { s with flt.rate := rate, flt.logged := logged } := .record h
  unfold State.islandError
  exact .ite (.event hlogged ..) (.record h)

theorem Leaves.fltSync (h : Leaves true a s) : Leaves true a s.fltSync := (h.setFlt R.FLT_WORD_HI_CLASS _).setFlt R.FLT_STAT_FAULT_N _

theorem Leaves.capture (h : Leaves true a s) (isl cls code : Nat) (acc : Acc) : Leaves true a (s.capture isl cls code acc) := by
  have hmerged := (h.setFlt R.FLT_CAP_MERGES (min 255 (s.get R.FLT_CAP_MERGES + 1))).setFlt R.FLT_CAP_MULTIPLE 1
  have hfirst := (((h.setFlt R.FLT_CAP_VALID 1).setFlt R.FLT_CAP_CLASS cls).setFlt R.FLT_CAP_TYPE acc.typ).setFlt R.FLT_CAP_MERGES 0
  have hplace := ((hfirst.setFlt R.FLT_CAP_MASTER acc.master).setFlt R.FLT_CAP_ISLAND isl).setFlt R.FLT_CAP_CODE code
  unfold State.capture
  refine .ite ((hmerged.setFlt R.FLT_WORD_HI_MULTIPLE 1).setFlt R.FLT_CAP_CLASS _) ?_
  exact (((hplace.setFlt R.FLT_CAP_ADDR_LO _).setFlt R.FLT_CAP_ADDR_HI _).setFlt R.FLT_CAP_STAMP _).setFlt R.FLT_CAP_ISEQ _

theorem Leaves.latch (h : Leaves true a s) (hisl : isl < 40) (cls code : Nat) (acc : Acc) : Leaves true a (s.latch isl cls code acc) := by
  have hbit := (h.capture isl cls code acc).setFlt (fltBit isl) 1 (by unfold fltBit; split <;> simp) (by unfold fltBit; split <;> rfl)
  exact (hbit.setFlt (iclassFld isl) _ (by unfold iclassFld; dsimp only; omega) rfl).fltSync

theorem react_of_lt (hcls : cls < 3) (status detail : Nat) : s.react cls status detail = s := by
  unfold react
  rw [if_neg (by omega), if_neg (by omega)]

theorem Leaves.raise (h : Leaves true a s) (hisl : isl < 40) (hcls : cls < 3) (code tag : Nat) (detail : List Byte) (acc : Acc) (stop : Nat × Nat) :
    Leaves true a (s.raise isl cls code tag detail acc stop) := by
  unfold State.raise
  rw [react_of_lt hcls]
  exact .event (.latch (.record h) hisl ..) ..

/-- 20 R705: the bit is set, and of the works nothing changes. -/
theorem err_leaves (hisl : f.isl < 40) (hcls : cls < 3) (acc : Acc) (lasts : Bool) (stop : Nat × Nat) :
    Leaves true (s.set f 1) (s.err f cls acc lasts stop) := by
  unfold State.err
  rw [react_of_lt hcls]
  exact .islandError (.ite (.latch (.record (.refl _)) hisl ..) (.refl _)) ..

theorem errNamed_leaves (hisl : f.isl < 40) (hcls : cls < 3) (code : Nat) (detail : List Byte) (acc : Acc) (lasts : Bool) :
    Leaves true (s.set f 1) (s.errNamed f cls code detail acc lasts) :=
  .ite (.raise (.refl _) hisl hcls ..) (.event (.refl _) ..)

/-! ### The bits that a fault sets -/

/-- 20 Table 20.9: the latched bits stand in the two words of FLT.WORD, the upper eight below its CLASS. -/
theorem fltBit_place (hisl : isl < 40) : ∃ off b, fltBit isl = ⟨38, off, b, b⟩ ∧ b < 32 ∧ (off = 0 ∨ off = 4 ∧ b < 8) := by
  unfold fltBit
  split
  next hlow => exact ⟨0, isl, rfl, hlow, .inl rfl⟩
  next => exact ⟨4, isl - 32, rfl, by omega, .inr ⟨rfl, by omega⟩⟩

theorem latch_fltBit (hc : canonical s.regs = true) (hisl : isl < 40) (cls code : Nat) (acc : Acc) :
    (s.latch isl cls code acc).get (fltBit isl) = 1 := by
  have hcap : canonical (s.capture isl cls code acc).regs = true := (Keeps.refl s).capture.regs_ok hc
  obtain ⟨off, b, hflt, hb, hoff⟩ := fltBit_place hisl
  have hset := get_set_same hcap ⟨38, off, b, b⟩ le_rfl hb 1
  have hiclass : (⟨38, off, b, b⟩ : Fld).addr ≠ (iclassFld isl).addr := by
    simp only [Fld.addr, iclassFld]
    omega
  have hclass : (⟨38, off, b, b⟩ : Fld).Apart R.FLT_WORD_HI_CLASS := by
    simp only [Fld.Apart, Fld.addr, R.FLT_WORD_HI_CLASS]
    omega
  have hstat : (⟨38, off, b, b⟩ : Fld).addr ≠ R.FLT_STAT_FAULT_N.addr := by
    simp only [Fld.addr, R.FLT_STAT_FAULT_N]
    omega
  unfold latch fltSync
  rw [hflt, get_set_word hstat, get_set_apart ((Keeps.refl _).set.set.regs_ok hcap) hclass, get_set_word hiclass, hset, Fld.width,
    Nat.add_sub_cancel_left]
  rfl

/-- 20 R706: a fault of class F2 latches the bit of its island. -/
theorem raise_fltBit (hc : canonical s.regs = true) (hisl : isl < 40) (hcls : cls < 3) (code tag : Nat) (detail : List Byte) (acc : Acc)
    (stop : Nat × Nat) : (s.raise isl cls code tag detail acc stop).has (fltBit isl) = true := by
  unfold raise
  rw [react_of_lt hcls]
  have hlatched := latch_fltBit (s := s.hold isl tag cls code detail) hc hisl cls code acc
  have hevent := (Leaves.refl (faults := false) ((s.hold isl tag cls code detail).latch isl cls code acc)).event isl cls code detail
  exact decide_eq_true ((hevent.get _ fltBit_outside).trans hlatched)

theorem err_fltBit (hc : canonical s.regs = true) (hisl : f.isl < 40) (acc : Acc) (lasts : Bool) (stop : Nat × Nat) :
    (s.err f 2 acc lasts stop).has (fltBit f.isl) = true := by
  have hset : canonical (s.set f 1).regs = true := (Keeps.refl s).set.regs_ok hc
  have hlatched := latch_fltBit (s := (s.set f 1).hold f.isl (errTag f lasts) 2 2 (errDetail f.off f.lo 0)) hset hisl 2 0x0002 acc
  have hevent := (Leaves.refl (faults := false)
    (((s.set f 1).hold f.isl (errTag f lasts) 2 2 (errDetail f.off f.lo 0)).latch f.isl 2 0x0002 acc)).islandError f 2
  exact decide_eq_true ((hevent.get _ fltBit_outside).trans hlatched)

theorem errNamed_fltBit (hc : canonical s.regs = true) (hisl : f.isl < 40) (code : Nat) (detail : List Byte) (acc : Acc) (lasts : Bool) :
    (s.errNamed f 2 code detail acc lasts).has (fltBit f.isl) = true := by
  unfold errNamed
  rw [if_pos le_rfl]
  exact raise_fltBit (s := s.set f 1) ((Keeps.refl s).set.regs_ok hc) hisl (by decide) ..

/-- A bit that is set and then left as it is. -/
theorem Leaves.has_set (h : Leaves true (s.set f 1) u) (hc : canonical s.regs = true) (hf : f.outside true = true) (hbit : f.hi = f.lo)
    (hhi : f.hi < 32) : u.has f = true := by
  have hone : (s.set f 1).get f = 1 := by
    rw [get_set_same hc f hbit.ge hhi, Fld.width, hbit, Nat.add_sub_cancel_left]
    rfl
  exact decide_eq_true ((h.get f hf).trans hone)

/-- A field of another word than the one that is set. -/
theorem Leaves.get_set_word {v : Nat} (h : Leaves true (s.set f v) u) (hg : g.outside true = true) (hne : g.addr ≠ f.addr) : u.get g = s.get g :=
  (h.get g hg).trans (State.get_set_word hne v)

end State

end

/-! ### Runs of writes, peaks and windows of the register file -/

section
variable {s u : State} {α : Type} {f g : Fld}

theorem look_filter {k : Nat} {p : Nat × α → Bool} (hp : ∀ v, p (k, v) = true) (m : List (Nat × α)) : look k (m.filter p) = look k m := by
  induction m with
  | nil => rfl
  | cons a m ih =>
    obtain ⟨j, v⟩ := a
    by_cases hj : k = j
    · subst hj
      rw [List.filter_cons_of_pos (hp v), look, look, if_pos rfl, if_pos rfl]
    · rw [List.filter_cons]
      split <;> simp only [look, if_neg hj, ih]

namespace State

theorem peak_works {v : Nat} : (s.peak f v).works = s.works := by
  unfold peak
  split <;> rfl

theorem le_get_peak (hc : canonical s.regs = true) (hf : f.lo ≤ f.hi) (hh : f.hi < 32) {v : Nat} (hv : v < 2 ^ f.width) :
    v ≤ (s.peak f v).get f := by
  unfold peak
  split
  next => rw [get_set_same hc f hf hh, min_eq_left (by omega), Nat.mod_eq_of_lt hv]
  next h => exact not_lt.mp h

/-- The reset of an island leaves the registers of the others. -/
theorem get_clearWindow {isl : Nat} (hg : g.addr < 0x4000000000 + isl * 0x100000 ∨ 0x4000000000 + isl * 0x100000 + 0x100000 ≤ g.addr) :
    (s.clearWindow isl).get g = s.get g := by
  have hlook : look g.addr (s.clearWindow isl).regs = look g.addr s.regs := look_filter (fun _ => by simpa using hg) _
  simp only [get, word, hlook]

section
variable {F : α → Fld} {v : α → Nat} {l : List α}

theorem foldl_set_canonical (hc : canonical s.regs = true) : canonical (l.foldl (fun s x => s.set (F x) (v x)) s).regs = true :=
  (Keeps.foldl ⟨Keeps.refl s, fun u _ => (Keeps.refl u).set⟩).regs_ok hc

theorem get_foldl_set_word (hg : ∀ x ∈ l, g.addr ≠ (F x).addr) : (l.foldl (fun s x => s.set (F x) (v x)) s).get g = s.get g :=
  List.foldlRecOn (motive := fun u : State => u.get g = s.get g) l _ rfl fun _ hu x hx => (get_set_word (hg x hx) _).trans hu

/-- Of fields in words of their own, each reads what is written to it. -/
theorem get_foldl_set (hc : canonical s.regs = true) (hinj : ∀ x ∈ l, ∀ y ∈ l, (F x).addr = (F y).addr → x = y) {x : α} (hx : x ∈ l)
    (hF : (F x).lo ≤ (F x).hi) (hh : (F x).hi < 32) : (l.foldl (fun s x => s.set (F x) (v x)) s).get (F x) = v x % 2 ^ (F x).width := by
  induction l generalizing s with
  | nil => exact absurd hx List.not_mem_nil
  | cons y l ih =>
    rw [List.foldl_cons]
    by_cases hmem : x ∈ l
    · exact ih ((Keeps.refl s).set.regs_ok hc) (fun a ha b hb => hinj a (List.mem_cons_of_mem y ha) b (List.mem_cons_of_mem y hb)) hmem
    · obtain rfl : x = y := (List.mem_cons.mp hx).resolve_right hmem
      have hlast : ∀ z ∈ l, (F x).addr ≠ (F z).addr := fun z hz haddr =>
        hmem (hinj x List.mem_cons_self z (List.mem_cons_of_mem x hz) haddr ▸ hz)
      rw [get_foldl_set_word hlast, get_set_same hc _ hF hh]

end

/-- A run of steps some of which are left out: where one is not, what every step brings about holds at the end. -/
theorem foldl_ite_of_mem {op : State → α → State} {p : α → Bool} {Q : State → Prop} {l : List α} (hc : canonical s.regs = true)
    (hop : ∀ u x, canonical u.regs = true → canonical (op u x).regs = true ∧ Q (op u x)) (hex : (∃ x ∈ l, p x = true) ∨ Q s) :
    Q (l.foldl (fun u x => if p x then op u x else u) s) := by
  induction l generalizing s with
  | nil => exact hex.resolve_left fun ⟨_, hx, _⟩ => List.not_mem_nil hx
  | cons y l ih =>
    rw [List.foldl_cons]
    by_cases hy : p y = true
    · rw [if_pos hy]
      exact ih (hop s y hc).1 (.inr (hop s y hc).2)
    · rw [if_neg hy]
      refine ih hc (hex.imp_left fun ⟨x, hx, hpx⟩ => ⟨x, (List.mem_cons.mp hx).resolve_left ?_, hpx⟩)
      rintro rfl
      exact hy hpx

end State

end

end Sys2Proof.Machine

/-! ## Errors of external memory

What a read or a scrub of a DRAM word that is in error shows, and a read that misses its deadline at the write pointer. A command of a channel does
nothing while the channel's group is in reset. -/

namespace Sys2Proof.Machine

section
variable {s : State} {t : Time} {lp addr : Nat}

/-! ### Commands of a channel -/

theorem released_of_lpDown (hs : s.awake = true) (hdown : s.lpDown lp = true) (act : State → State) :
    released t s (fun s => if s.lpDown lp then s else act s) = .next (s.at_ t) :=
  (released_of_awake hs t _).trans (congrArg Host.Outcome.next (if_pos hdown))

theorem released_of_lpUp (hs : s.awake = true) (hup : s.lpDown lp = false) (act : State → State) :
    released t s (fun s => if s.lpDown lp then s else act s) = .next (act (s.at_ t)) :=
  (released_of_awake hs t _).trans (congrArg Host.Outcome.next (if_neg (Bool.eq_false_iff.mp hup)))

/-- The registers of a channel (09 Table 9.12). -/
theorem lpField_outside {off hi lo : Nat} {faults : Bool} (hlp : lp < 32) (hoff : off < 0x200 := by decide) :
    Fld.outside faults ⟨24 + lp / 4, off + 0x40 * (lp % 4), hi, lo⟩ = true :=
  groupField_outside (by omega) (by omega)

/-! ### An error of a DRAM word -/

namespace State

/-- An uncorrectable error is counted, and the first since ECC_UNC was cleared keeps its address (09 Table 9.11). -/
def uncCounted (s : State) (lp addr : Nat) : State :=
  let s := s.bump (R.LP_ECC_UNC lp) 1
  if s.has (R.DG_ERR_ECC_UNC (lp / 4)) then s
  else (s.set (R.DG_UNC_ADDR_LO (lp / 4)) addr).set (R.DG_UNC_ADDR_HI (lp / 4)) (addr / 2 ^ 32)

theorem dramError_uncorrectable : s.dramError lp true addr = (s.uncCounted lp addr).err (R.DG_ERR_ECC_UNC (lp / 4)) 2 { typ := 0, addr := addr } := by
  unfold dramError
  exact if_neg Bool.false_ne_true

theorem uncCounted_works : (s.uncCounted lp addr).works = s.works := by
  unfold uncCounted
  dsimp only
  split
  next => exact bump_works
  next => rw [set_works, set_works, bump_works]

theorem uncCounted_canonical (hc : canonical s.regs = true) : canonical (s.uncCounted lp addr).regs = true := by
  have hcount := (Keeps.refl s).bump (f := R.LP_ECC_UNC lp) (n := 1)
  exact (Keeps.ite ⟨hcount, hcount.set.set⟩).regs_ok hc

theorem uncCounted_get (hc : canonical s.regs = true) :
    (s.uncCounted lp addr).get (R.LP_ECC_UNC lp) = (s.get (R.LP_ECC_UNC lp) + 1) % 2 ^ 32 := by
  have hcount : (s.bump (R.LP_ECC_UNC lp) 1).get (R.LP_ECC_UNC lp) = (s.get (R.LP_ECC_UNC lp) + 1) % 2 ^ 32 := get_bump_counter hc ..
  unfold uncCounted
  dsimp only
  split
  next => exact hcount
  next =>
    rw [get_set_word, get_set_word]
    · exact hcount
    all_goals simp only [Fld.addr, R.LP_ECC_UNC, R.DG_UNC_ADDR_LO, R.DG_UNC_ADDR_HI]; omega

theorem dramError_leaves (hlp : lp < 32) :
    Leaves true ((s.uncCounted lp addr).set (R.DG_ERR_ECC_UNC (lp / 4)) 1) (s.dramError lp true addr) := by
  have hisl : 24 + lp / 4 < 40 := by omega
  rw [dramError_uncorrectable]
  exact err_leaves (f := R.DG_ERR_ECC_UNC (lp / 4)) hisl Nat.le.refl ..

theorem dramError_works (hlp : lp < 32) : (s.dramError lp true addr).works = s.works := by
  rw [(dramError_leaves hlp).works, set_works, uncCounted_works]

theorem dramError_canonical {unc : Bool} (hc : canonical s.regs = true) : canonical (s.dramError lp unc addr).regs = true :=
  (Keeps.refl s).dramError.regs_ok hc

/-- 09 R334: an uncorrectable error is counted at its channel. -/
theorem dramError_get_unc (hc : canonical s.regs = true) (hlp : lp < 32) :
    (s.dramError lp true addr).get (R.LP_ECC_UNC lp) = (s.get (R.LP_ECC_UNC lp) + 1) % 2 ^ 32 := by
  have hword : (R.LP_ECC_UNC lp).addr ≠ (R.DG_ERR_ECC_UNC (lp / 4)).addr := by
    simp only [Fld.addr, R.LP_ECC_UNC, R.DG_ERR_ECC_UNC]
    omega
  exact ((dramError_leaves hlp).get_set_word (lpField_outside hlp) hword).trans (uncCounted_get hc)

theorem dramError_has_unc (hc : canonical s.regs = true) (hlp : lp < 32) : (s.dramError lp true addr).has (R.DG_ERR_ECC_UNC (lp / 4)) = true :=
  (dramError_leaves hlp).has_set (uncCounted_canonical hc) (groupField_outside (by omega)) rfl (show 1 < 32 by decide)

theorem dramError_fltBit (hc : canonical s.regs = true) (hlp : lp < 32) : (s.dramError lp true addr).has (fltBit (24 + lp / 4)) = true := by
  have hisl : 24 + lp / 4 < 40 := by omega
  rw [dramError_uncorrectable]
  exact err_fltBit (f := R.DG_ERR_ECC_UNC (lp / 4)) (uncCounted_canonical hc) hisl ..

/-! ### Cells that are lost, and reads that miss their deadline -/

theorem lostCells_leaves {n : Nat} (hn : n ≠ 0) : Leaves true ((s.bump R.BOB_LOST_CELLS n).set R.BOB_ERR_LOST_CELL 1) (s.lostCells n) := by
  unfold lostCells
  rw [if_neg hn]
  exact err_leaves (by decide) (by decide) ..

theorem lostCells_works {n : Nat} : (s.lostCells n).works = s.works := by
  by_cases hn : n = 0
  · rw [hn]
    rfl
  · rw [(lostCells_leaves hn).works, set_works, bump_works]

theorem lostCells_has {n : Nat} (hc : canonical s.regs = true) (hn : n ≠ 0) : (s.lostCells n).has R.BOB_ERR_LOST_CELL = true :=
  (lostCells_leaves hn).has_set (bump_canonical hc) (by decide) rfl (by decide)

/-- A bank of a still or a plane has lost a cell (08 R324). -/
def spoil (s : State) (key k : Nat) : State :=
  s.setBanks key { s.banks key with spoilt := k :: (s.banks key).spoilt.filter (· ≠ k) }

theorem banks_of_bob {u : State} (h : u.bob = s.bob) (key : Nat) : u.banks key = s.banks key := by
  unfold banks
  rw [h]

theorem spoil_spoilt {key k : Nat} : k ∈ ((s.spoil key k).banks key).spoilt := by
  rw [spoil, banks_setBanks_same]
  exact List.mem_cons_self

theorem spoil_shown {key k : Nat} : ((s.spoil key k).banks key).shown = (s.banks key).shown := by
  rw [spoil, banks_setBanks_same]

theorem spoil_canonical {key k : Nat} (hc : canonical s.regs = true) : canonical (s.spoil key k).regs = true := hc

/-- A read held at the write pointer is abandoned and counted (09 R344). -/
def deadlineMissed (s : State) (lp : Nat) : State :=
  let s := (s.bump (R.LP_RAW_WAITS lp) 1).bump (R.LP_DEADLINE lp) 1
  (s.set (R.DG_ERR_DEADLINE (lp / 4)) 1).islandError (R.DG_ERR_DEADLINE (lp / 4)) 0

theorem deadlineMissed_leaves :
    Leaves true (((s.bump (R.LP_RAW_WAITS lp) 1).bump (R.LP_DEADLINE lp) 1).set (R.DG_ERR_DEADLINE (lp / 4)) 1) (s.deadlineMissed lp) :=
  (Leaves.refl _).islandError ..

theorem deadlineMissed_works : (s.deadlineMissed lp).works = s.works := by
  rw [deadlineMissed_leaves.works, set_works, bump_works, bump_works]

theorem deadlineMissed_has (hc : canonical s.regs = true) (hlp : lp < 32) : (s.deadlineMissed lp).has (R.DG_ERR_DEADLINE (lp / 4)) = true :=
  deadlineMissed_leaves.has_set (bump_canonical (bump_canonical hc)) (groupField_outside (by omega)) rfl (show 6 < 32 by decide)

theorem deadlineMissed_get (hc : canonical s.regs = true) (hlp : lp < 32) :
    (s.deadlineMissed lp).get (R.LP_DEADLINE lp) = (s.get (R.LP_DEADLINE lp) + 1) % 2 ^ 32 := by
  have herr : (R.LP_DEADLINE lp).addr ≠ (R.DG_ERR_DEADLINE (lp / 4)).addr := by
    simp only [Fld.addr, R.LP_DEADLINE, R.DG_ERR_DEADLINE]
    omega
  have hwaits : (R.LP_DEADLINE lp).addr ≠ (R.LP_RAW_WAITS lp).addr := by
    simp only [Fld.addr, R.LP_DEADLINE, R.LP_RAW_WAITS]
    omega
  calc (s.deadlineMissed lp).get (R.LP_DEADLINE lp)
    _ = ((s.bump (R.LP_RAW_WAITS lp) 1).bump (R.LP_DEADLINE lp) 1).get (R.LP_DEADLINE lp) :=
      deadlineMissed_leaves.get_set_word (lpField_outside hlp) herr
    _ = ((s.bump (R.LP_RAW_WAITS lp) 1).get (R.LP_DEADLINE lp) + 1) % 2 ^ 32 := get_bump_counter (bump_canonical hc) ..
    _ = (s.get (R.LP_DEADLINE lp) + 1) % 2 ^ 32 := by rw [get_bump_word hwaits]

end State

/-! ### The commands of errors -/

variable {lp : Fin 32}

theorem exec_dramReadEcc_of_down {unc : Bool} {x : Option (Nat × Nat)} (hs : s.awake = true) (hdown : s.lpDown lp = true) :
    exec (.dramReadEcc t lp unc addr x) s = .next (s.at_ t) := by
  change execDramReadEcc t lp unc addr x s = _
  exact released_of_lpDown hs hdown _

/-- 09 R334: a corrected error, whatever was read. -/
theorem exec_dramReadEcc_corrected {x : Option (Nat × Nat)} (hs : s.awake = true) (hup : s.lpDown lp = false) :
    exec (.dramReadEcc t lp false addr x) s = .next (((s.at_ t).dramError lp false addr).rowOpened lp addr) := by
  change execDramReadEcc t lp false addr x s = _
  exact released_of_lpUp hs hup _

/-- 09 R334: an uncorrectable error of a word that no frame synchroniser read. -/
theorem exec_dramReadEcc_uncorrectable (hs : s.awake = true) (hup : s.lpDown lp = false) :
    exec (.dramReadEcc t lp true addr none) s = .next ((s.at_ t).dramError lp true addr) := by
  change execDramReadEcc t lp true addr none s = _
  exact released_of_lpUp hs hup _

/-- 08 R324: an uncorrectable error of a cell of a frame synchroniser or of a bank. -/
theorem exec_dramReadEcc_cell {src k : Nat} (hs : s.awake = true) (hup : s.lpDown lp = false) :
    let u := (s.at_ t).dramError lp true addr
    exec (.dramReadEcc t lp true addr (some (src, k))) s =
      .next ((if 2 ^ 22 ≤ src then u.spoil (src - 2 ^ 22) k else u.ringAmendAt src k (fun x => { x with lost := true })).lostCells 1) := by
  change execDramReadEcc t lp true addr (some (src, k)) s = _
  exact released_of_lpUp hs hup _

theorem exec_dramReadEcc_ring {src k : Nat} (hs : s.awake = true) (hup : s.lpDown lp = false) (hsrc : src < 2 ^ 22) :
    exec (.dramReadEcc t lp true addr (some (src, k))) s =
      .next ((((s.at_ t).dramError lp true addr).ringAmendAt src k (fun x => { x with lost := true })).lostCells 1) := by
  rw [exec_dramReadEcc_cell hs hup, if_neg (not_le.mpr hsrc)]

theorem exec_dramReadEcc_bank {key k : Nat} (hs : s.awake = true) (hup : s.lpDown lp = false) :
    exec (.dramReadEcc t lp true addr (some (2 ^ 22 + key, k))) s = .next ((((s.at_ t).dramError lp true addr).spoil key k).lostCells 1) := by
  rw [exec_dramReadEcc_cell hs hup, if_pos (Nat.le_add_right ..), Nat.add_sub_cancel_left]

theorem exec_dramScrub_of_down {n : Fin 3} (hs : s.awake = true) (hdown : s.lpDown lp = true) :
    exec (.dramScrub t lp n addr) s = .next (s.at_ t) := by
  change execDramScrub t lp n addr s = _
  exact released_of_lpDown hs hdown _

/-- 09 R335: the scrub counts its row and treats what it finds as a read does. -/
theorem exec_dramScrub {n : Fin 3} (hs : s.awake = true) (hup : s.lpDown lp = false) :
    let u := ((s.at_ t).bump (R.LP_SCRUB_ROWS lp) 1).rowOpened lp addr
    exec (.dramScrub t lp n addr) s = .next (if n = 0 then u else u.dramError lp (n = 2) addr) := by
  change execDramScrub t lp n addr s = _
  exact released_of_lpUp hs hup _

/-- 09 R334: the cell that an error spoils is marked in its bank. -/
theorem dramReadEcc_spoils_bank {key k : Nat} (hs : s.awake = true) (hc : canonical s.regs = true) (hup : s.lpDown lp = false) :
    ∃ s', exec (.dramReadEcc t lp true addr (some (2 ^ 22 + key, k))) s = .next s' ∧ k ∈ (s'.banks key).spoilt ∧
      (s'.banks key).shown = (s.banks key).shown ∧ s'.has R.BOB_ERR_LOST_CELL = true := by
  have hc' : canonical (s.at_ t).regs = true := hc
  have hhas := State.lostCells_has (s := ((s.at_ t).dramError lp true addr).spoil key k) (State.spoil_canonical (State.dramError_canonical hc'))
    Nat.one_ne_zero
  have hshown := State.banks_of_bob (State.bob_of_works (State.dramError_works (s := s.at_ t) (addr := addr) lp.isLt)) key
  have hbanks := State.banks_of_bob (State.bob_of_works (State.lostCells_works (s := ((s.at_ t).dramError lp true addr).spoil key k) (n := 1))) key
  refine ⟨_, exec_dramReadEcc_bank hs hup, ?_, ?_, hhas⟩ <;> rw [hbanks]
  · exact State.spoil_spoilt
  · rw [State.spoil_shown, hshown]
    rfl

theorem exec_writePointerDeadline {d : Fin 1024} (hs : s.awake = true) :
    exec (.writePointerDeadline t lp d) s =
      .next (((s.at_ t).deadlineMissed lp).setDst d { ((s.at_ t).deadlineMissed lp).dst d with abandoned := true }) := by
  change execWritePointerDeadline t lp d s = _
  exact released_of_awake hs t _

/-- 09 R344: what a missed deadline shows. -/
theorem writePointerDeadline_abandons {d : Fin 1024} (hs : s.awake = true) (hc : canonical s.regs = true) :
    ∃ s', exec (.writePointerDeadline t lp d) s = .next s' ∧ (s'.dst d).abandoned = true ∧ (∀ m : Fin 1024, m ≠ d → s'.dst m = s.dst m) ∧
      s'.has (R.DG_ERR_DEADLINE (lp / 4)) = true ∧ s'.get (R.LP_DEADLINE lp) = (s.get (R.LP_DEADLINE lp) + 1) % 2 ^ 32 := by
  have hc' : canonical (s.at_ t).regs = true := hc
  have hxp : ((s.at_ t).deadlineMissed lp).xp = (s.at_ t).xp := State.xp_of_works (State.deadlineMissed_works (s := s.at_ t))
  have hbit := State.deadlineMissed_has hc' lp.isLt
  have hcount := State.deadlineMissed_get hc' lp.isLt
  rw [State.at_get] at hcount
  refine ⟨_, exec_writePointerDeadline hs, ?_, fun m hm => ?_, hbit, hcount⟩
  · rw [State.dst_setDst_same]
  · rw [State.dst_setDst_other _ (Fin.val_ne_of_ne hm), State.dst, hxp, State.dst, State.at_xp]

end

/-- Settles O34: an error leaves the works but for what it marks, and its counters and bits stand apart from those of events and faults. -/
theorem dramErrors : Obligations.DramErrors := by
  unfold Obligations.DramErrors
  intro t lp d addr s hs hformed u
  have hc : canonical s.regs = true := (State.formed_iff.mp hformed).1
  have hcu : canonical u.regs = true := hc
  have hcount := State.dramError_get_unc (addr := addr) hcu lp.isLt
  rw [State.at_get] at hcount
  have hworks : (u.dramError lp true addr).works = u.works := State.dramError_works lp.isLt
  exact ⟨fun hdown => ⟨fun unc x => exec_dramReadEcc_of_down hs hdown, fun n => exec_dramScrub_of_down hs hdown⟩,
    fun hup => ⟨fun x => exec_dramReadEcc_corrected hs hup, fun src k => exec_dramReadEcc_ring hs hup,
      fun key k => dramReadEcc_spoils_bank hs hc hup, exec_dramReadEcc_uncorrectable hs hup,
      (exec_dramScrub hs hup).trans (congrArg _ (if_pos rfl)), (exec_dramScrub hs hup).trans (congrArg _ (if_neg (by decide))),
      (exec_dramScrub hs hup).trans (congrArg _ (if_neg (by decide)))⟩,
    writePointerDeadline_abandons hs hc, hcount, State.dramError_has_unc hcu lp.isLt, State.dramError_fltBit hcu lp.isLt,
    State.xp_of_works hworks, State.bob_of_works hworks⟩

end Sys2Proof.Machine

/-! ## Refresh, resets and operating points of the DRAM groups

Each command writes registers in words of their own. What it shows at the end is read off through the events and faults beside it by `State.Leaves`. -/

namespace Sys2Proof.Machine

/-! ### Neighbour refresh -/

/-- Is an entry of the activation tables that of a row? -/
def rowEntry (lp bank row : Nat) (a : Nat × Nat × Nat × Nat) : Bool := a.1 = lp && a.2.1 = bank && a.2.2.1 = row

/-- The count of a row is set to 0 (09 R347). -/
def zeroRow (lp bank row : Nat) (a : Nat × Nat × Nat × Nat) : Nat × Nat × Nat × Nat :=
  if rowEntry lp bank row a then (a.1, a.2.1, a.2.2.1, 0) else a

/-- A row enters the activation table of its bank where it is not in it. -/
def State.rowEntered (s : State) (lp bank row : Nat) : State :=
  if s.dram.act.any (rowEntry lp bank row) then s else { s with dram := s.dram.activate ⟨lp, bank, row⟩ }

/-- A row's neighbours are refreshed, so its count begins anew (09 R347). -/
def State.rowRefreshed (s : State) (lp bank row : Nat) : State :=
  { s.rowEntered lp bank row with dram.act := (s.rowEntered lp bank row).dram.act.map (zeroRow lp bank row) }

section
variable {s : State} {t : Time} {lp bank row : Nat}

theorem rowEntry_iff {a : Nat × Nat × Nat × Nat} : rowEntry lp bank row a = true ↔ a = (lp, bank, row, a.2.2.2) := by
  obtain ⟨x, y, z, n⟩ := a
  simp [rowEntry, and_assoc]

theorem Dram.activate_mem (d : Dram) (p : RowPlace) : ∃ n, (p.lp, p.bank, p.row, n) ∈ (d.activate p).act := by
  unfold Dram.activate
  dsimp only
  split <;> exact ⟨_, List.mem_append_right _ List.mem_cons_self⟩

theorem State.rowEntered_mem : ∃ n, (lp, bank, row, n) ∈ (s.rowEntered lp bank row).dram.act := by
  unfold State.rowEntered
  split
  next h =>
    obtain ⟨a, ha, hrow⟩ := List.any_eq_true.mp h
    exact ⟨a.2.2.2, rowEntry_iff.mp hrow ▸ ha⟩
  next => exact s.dram.activate_mem ⟨lp, bank, row⟩

theorem State.rowRefreshed_mem : (lp, bank, row, 0) ∈ (s.rowRefreshed lp bank row).dram.act := by
  obtain ⟨n, hn⟩ := s.rowEntered_mem (lp := lp) (bank := bank) (row := row)
  exact List.mem_map.mpr ⟨_, hn, if_pos (rowEntry_iff.mpr rfl)⟩

theorem State.rowRefreshed_notMem {n : Nat} (hn : n ≠ 0) : (lp, bank, row, n) ∉ (s.rowRefreshed lp bank row).dram.act := by
  intro hmem
  obtain ⟨a, -, ha⟩ := List.mem_map.mp hmem
  unfold zeroRow at ha
  split at ha
  next => simp only [Prod.mk.injEq] at ha; omega
  next hother => exact hother (rowEntry_iff.mpr (by rw [ha]))

theorem State.rowRefreshed_regs : (s.rowRefreshed lp bank row).regs = s.regs := by
  unfold State.rowRefreshed State.rowEntered
  split <;> rfl

variable {lp : Fin 32} {bank : Fin 16}

/-- 09 R346, R347: a neighbour refresh. -/
theorem exec_neighbourRefresh (hs : s.awake = true) (hup : s.lpDown lp = false) :
    exec (.neighbourRefresh t lp bank row) s =
      .next ((((s.at_ t).rowRefreshed lp bank row).bump (R.LP_NREF lp) 1).peak (R.LP_ACT_PEAK lp) 1024) := by
  change execNeighbourRefresh t lp bank row s = _
  exact released_of_lpUp hs hup _

theorem exec_neighbourRefresh_of_down (hs : s.awake = true) (hdown : s.lpDown lp = true) :
    exec (.neighbourRefresh t lp bank row) s = .next (s.at_ t) := by
  change execNeighbourRefresh t lp bank row s = _
  exact released_of_lpDown hs hdown _

theorem neighbourRefresh_counts (hs : s.awake = true) (hc : canonical s.regs = true) (hup : s.lpDown lp = false) :
    ∃ s', exec (.neighbourRefresh t lp bank row) s = .next s' ∧ (lp.val, bank.val, row, 0) ∈ s'.dram.act ∧
      (∀ n, n ≠ 0 → (lp.val, bank.val, row, n) ∉ s'.dram.act) ∧ s'.get (R.LP_NREF lp) = (s.get (R.LP_NREF lp) + 1) % 2 ^ 32 ∧
      1024 ≤ s'.get (R.LP_ACT_PEAK lp) := by
  have hcv : canonical ((s.at_ t).rowRefreshed lp bank row).regs = true := by
    rw [State.rowRefreshed_regs]
    exact hc
  have hdram := State.dram_of_works ((State.peak_works (f := R.LP_ACT_PEAK lp) (v := 1024)).trans
    (State.bump_works (s := (s.at_ t).rowRefreshed lp bank row) (f := R.LP_NREF lp) (n := 1)))
  have hword : (R.LP_NREF lp).addr ≠ (R.LP_ACT_PEAK lp).addr := by
    simp only [Fld.addr, R.LP_NREF, R.LP_ACT_PEAK]
    omega
  refine ⟨_, exec_neighbourRefresh hs hup, ?_, fun n hn => ?_, ?_, ?_⟩
  · rw [hdram]
    exact State.rowRefreshed_mem
  · rw [hdram]
    exact State.rowRefreshed_notMem hn
  · have hcount := State.get_bump_counter hcv (R.LP_NREF lp).isl (R.LP_NREF lp).off 1
    rw [State.get_of_regs State.rowRefreshed_regs] at hcount
    exact (State.get_peak_word hword _).trans hcount
  · exact State.le_get_peak (State.bump_canonical hcv) (Nat.zero_le 10) (show 10 < 32 by decide) (show 1024 < 2 ^ 11 by decide)

/-- 09 R346: the end of a refresh window. -/
theorem exec_refreshWindowEnd (hs : s.awake = true) :
    exec (.refreshWindowEnd t lp) s = .next { s.at_ t with dram.act := (s.at_ t).dram.act.filter (fun a => a.1 ≠ lp.val) } := by
  change execRefreshWindowEnd t lp s = _
  exact released_of_awake hs t _

end

/-! ### The refresh rates -/

/-- The rate that channel `c` of a group asks for; a device that was not read keeps what its register shows. -/
def State.refreshRate (s : State) (g : Nat) (rates : List (Fin 3)) (c : Nat) : Nat :=
  ((rates[c]?).map (·.val)).getD (s.get (R.LP_REFRATE (4 * g + c)))

/-- HOT of a group (09 R358): the channels that ask for more than twice the rate. -/
def hotMask (rate : Nat → Nat) : Nat := ((List.range 4).map (fun c => if rate c = 2 then 2 ^ c else 0)).foldl (· + ·) 0

/-- REFRATE and HOT take the rates. -/
def State.ratesShown (s : State) (g : Nat) (rate : Nat → Nat) : State :=
  ((List.range 4).foldl (fun s c => s.set (R.LP_REFRATE (4 * g + c)) (rate c)) s).set (R.DG_STAT_HOT g) (hotMask rate)

/-- The condition HOT ends where no channel is hot any more. -/
def State.hotEnds (s : State) (g hot : Nat) : State := if hot = 0 then s.errDone (R.DG_ERR_HOT g) else s

/-- F2 and its event for a channel that is hot (09 R358). -/
def State.hotRaised (s : State) (g c : Nat) : State :=
  s.errNamed (R.DG_ERR_HOT g) 2 0x0201 (beBytes 1 (4 * g + c)) { typ := 3, master := 0x40 + 24 + g } (lasts := true)

/-- The channels that turn hot raise it. -/
def State.turnHot (s : State) (g hot was : Nat) : State :=
  (List.range 4).foldl (fun s c => if bit hot c && !bit was c then s.hotRaised g c else s) s

section
variable {s : State} {t : Time} {rate : Nat → Nat} {hot was : Nat} {f : Fld}

theorem hotMask_eq : hotMask rate =
    b2n (decide (rate 0 = 2)) + 2 * b2n (decide (rate 1 = 2)) + 4 * b2n (decide (rate 2 = 2)) + 8 * b2n (decide (rate 3 = 2)) := by
  simp [hotMask, b2n, List.range_succ]

theorem bit_four : ∀ (b0 b1 b2 b3 : Bool) (c : Fin 4), bit (b2n b0 + 2 * b2n b1 + 4 * b2n b2 + 8 * b2n b3) c = [b0, b1, b2, b3][c.val] := by
  decide

theorem four_bits_lt : ∀ b0 b1 b2 b3 : Bool, b2n b0 + 2 * b2n b1 + 4 * b2n b2 + 8 * b2n b3 < 2 ^ 4 := by
  decide

theorem hotMask_lt : hotMask rate < 2 ^ 4 := by
  rw [hotMask_eq]
  exact four_bits_lt ..

/-- 09 R358: the bit of a channel in HOT. -/
theorem bit_hotMask (c : Fin 4) : bit (hotMask rate) c = decide (rate c = 2) := by
  rw [hotMask_eq, bit_four]
  fin_cases c <;> rfl

namespace State

theorem ratesShown_canonical {g : Nat} (hc : canonical s.regs = true) : canonical (s.ratesShown g rate).regs = true :=
  (Keeps.refl _).set.regs_ok (foldl_set_canonical hc)

theorem refrate_addr {g c : Nat} (hc : c < 4) : (R.LP_REFRATE (4 * g + c)).addr = 0x4000000000 + (24 + g) * 0x100000 + (0x12c + 0x40 * c) := by
  simp only [Fld.addr, R.LP_REFRATE]
  omega

theorem ratesShown_refrate {g c : Nat} (hs : canonical s.regs = true) (hc : c < 4) (hrate : rate c < 3) :
    (s.ratesShown g rate).get (R.LP_REFRATE (4 * g + c)) = rate c := by
  have hword : (R.LP_REFRATE (4 * g + c)).addr ≠ (R.DG_STAT_HOT g).addr := by
    rw [refrate_addr hc]
    simp only [Fld.addr, R.DG_STAT_HOT]
    omega
  have hinj : ∀ x ∈ List.range 4, ∀ y ∈ List.range 4, (R.LP_REFRATE (4 * g + x)).addr = (R.LP_REFRATE (4 * g + y)).addr → x = y := by
    intro x hx y hy haddr
    rw [refrate_addr (List.mem_range.mp hx), refrate_addr (List.mem_range.mp hy)] at haddr
    omega
  have hfield := get_foldl_set (F := fun c => R.LP_REFRATE (4 * g + c)) (v := rate) hs hinj (List.mem_range.mpr hc) (Nat.zero_le 2)
    (show 2 < 32 by decide)
  exact (get_set_word hword _).trans (hfield.trans (Nat.mod_eq_of_lt (show rate c < 8 by omega)))

theorem ratesShown_hot {g : Nat} (hc : canonical s.regs = true) : (s.ratesShown g rate).get (R.DG_STAT_HOT g) = hotMask rate :=
  (get_set_same (foldl_set_canonical hc) (R.DG_STAT_HOT g) (show 20 ≤ 23 by decide) (show 23 < 32 by decide) _).trans
    (Nat.mod_eq_of_lt hotMask_lt)

theorem hotEnds_regs {g : Nat} : (s.hotEnds g hot).regs = s.regs := by
  unfold hotEnds
  split <;> rfl

theorem hotRaised_get {g c : Nat} (hg : g < 8) (hf : f.outside true = true) (hne : f.addr ≠ (R.DG_ERR_HOT g).addr) :
    (s.hotRaised g c).get f = s.get f :=
  have hisl : 24 + g < 40 := by omega
  (errNamed_leaves (f := R.DG_ERR_HOT g) hisl (by decide) ..).get_set_word hf hne

/-- 09 R358: a hot channel sets ERR.HOT and latches its group's bit. -/
theorem hotRaised_bits {g c : Nat} (hc : canonical s.regs = true) (hg : g < 8) :
    canonical (s.hotRaised g c).regs = true ∧ (s.hotRaised g c).has (R.DG_ERR_HOT g) = true ∧ (s.hotRaised g c).has (fltBit (24 + g)) = true := by
  have hisl : 24 + g < 40 := by omega
  have hleaves := errNamed_leaves (s := s) (f := R.DG_ERR_HOT g) (cls := 2) hisl (by decide) 0x0201 (beBytes 1 (4 * g + c))
    { typ := 3, master := 0x40 + 24 + g } true
  exact ⟨(Keeps.refl s).errNamed.regs_ok hc, hleaves.has_set hc (groupField_outside hg) rfl (show 5 < 32 by decide),
    errNamed_fltBit (f := R.DG_ERR_HOT g) hc hisl ..⟩

theorem turnHot_get {g : Nat} (hg : g < 8) (hf : f.outside true = true) (hne : f.addr ≠ (R.DG_ERR_HOT g).addr) :
    (s.turnHot g hot was).get f = s.get f := by
  refine List.foldlRecOn (motive := fun u : State => u.get f = s.get f) _ _ rfl fun u hu c _ => ?_
  split
  next => exact (hotRaised_get hg hf hne).trans hu
  next => exact hu

theorem turnHot_bits {g c : Nat} (hs : canonical s.regs = true) (hg : g < 8) (hc : c < 4) (hturns : (bit hot c && !bit was c) = true) :
    (s.turnHot g hot was).has (R.DG_ERR_HOT g) = true ∧ (s.turnHot g hot was).has (fltBit (24 + g)) = true :=
  foldl_ite_of_mem (op := fun u c => u.hotRaised g c) (Q := fun u => u.has (R.DG_ERR_HOT g) = true ∧ u.has (fltBit (24 + g)) = true) hs
    (fun _ _ hu => hotRaised_bits hu hg) (.inl ⟨c, List.mem_range.mpr hc, hturns⟩)

/-- A group reads the rates of its channels (09 R358). -/
def ratesRead (s : State) (g : Nat) (rate : Nat → Nat) : State :=
  ((s.ratesShown g rate).hotEnds g (hotMask rate)).turnHot g (hotMask rate) (s.get (R.DG_STAT_HOT g))

theorem ratesRead_get {g : Nat} (hg : g < 8) (hf : f.outside true = true) (hne : f.addr ≠ (R.DG_ERR_HOT g).addr) :
    (s.ratesRead g rate).get f = (s.ratesShown g rate).get f :=
  (turnHot_get hg hf hne).trans (get_of_regs hotEnds_regs f)

theorem ratesRead_refrate {g c : Nat} (hs : canonical s.regs = true) (hg : g < 8) (hc : c < 4) (hrate : rate c < 3) :
    (s.ratesRead g rate).get (R.LP_REFRATE (4 * g + c)) = rate c := by
  have hword : (R.LP_REFRATE (4 * g + c)).addr ≠ (R.DG_ERR_HOT g).addr := by
    rw [refrate_addr hc]
    simp only [Fld.addr, R.DG_ERR_HOT]
    omega
  exact (ratesRead_get hg (lpField_outside (by omega)) hword).trans (ratesShown_refrate hs hc hrate)

theorem ratesRead_hot {g : Nat} (hs : canonical s.regs = true) (hg : g < 8) : (s.ratesRead g rate).get (R.DG_STAT_HOT g) = hotMask rate := by
  have hword : (R.DG_STAT_HOT g).addr ≠ (R.DG_ERR_HOT g).addr := by
    simp only [Fld.addr, R.DG_STAT_HOT, R.DG_ERR_HOT]
    omega
  exact (ratesRead_get hg (groupField_outside hg) hword).trans (ratesShown_hot hs)

theorem ratesRead_bits {g : Nat} (hs : canonical s.regs = true) (hg : g < 8) {c : Fin 4} (hrate : rate c = 2)
    (hwas : bit (s.get (R.DG_STAT_HOT g)) c = false) :
    (s.ratesRead g rate).has (R.DG_ERR_HOT g) = true ∧ (s.ratesRead g rate).has (fltBit (24 + g)) = true := by
  have hshown : canonical ((s.ratesShown g rate).hotEnds g (hotMask rate)).regs = true := by
    rw [hotEnds_regs]
    exact ratesShown_canonical hs
  refine turnHot_bits hshown hg c.isLt ?_
  rw [bit_hotMask, hrate, hwas]
  rfl

end State

variable {g : Fin 8}

/-- 09 R358: a group in service reads its rates. -/
theorem exec_refreshRateRead {rates : List (Fin 3)} (hs : s.awake = true) (hstate : s.get (R.DG_STAT_STATE g) = 2) :
    exec (.refreshRateRead t g rates) s = .next ((s.at_ t).ratesRead g ((s.at_ t).refreshRate g rates)) := by
  change execRefreshRateRead t g rates s = _
  exact (released_of_awake hs t _).trans (congrArg Host.Outcome.next (if_neg (not_not.mpr hstate)))

theorem refreshRateRead_shows {r0 r1 r2 r3 : Fin 3} (hs : s.awake = true) (hc : canonical s.regs = true) (hstate : s.get (R.DG_STAT_STATE g) = 2) :
    ∃ s', exec (.refreshRateRead t g [r0, r1, r2, r3]) s = .next s' ∧
      s'.get (R.LP_REFRATE (4 * g)) = r0 ∧ s'.get (R.LP_REFRATE (4 * g + 1)) = r1 ∧ s'.get (R.LP_REFRATE (4 * g + 2)) = r2 ∧
      s'.get (R.LP_REFRATE (4 * g + 3)) = r3 ∧
      (∀ c : Fin 4, bit (s'.get (R.DG_STAT_HOT g)) c = decide ([r0, r1, r2, r3][c.val] = 2)) ∧
      ((∃ c : Fin 4, [r0, r1, r2, r3][c.val] = 2 ∧ bit (s.get (R.DG_STAT_HOT g)) c = false) →
        s'.has (R.DG_ERR_HOT g) = true ∧ s'.has (fltBit (24 + g)) = true) := by
  have hcu : canonical (s.at_ t).regs = true := hc
  have hrate : ∀ c : Fin 4, (s.at_ t).refreshRate g [r0, r1, r2, r3] c = [r0, r1, r2, r3][c.val].val := fun c => by fin_cases c <;> rfl
  have hfield (c : Fin 4) : ((s.at_ t).ratesRead g ((s.at_ t).refreshRate g [r0, r1, r2, r3])).get (R.LP_REFRATE (4 * g + c)) =
      [r0, r1, r2, r3][c.val].val := by
    rw [State.ratesRead_refrate hcu g.isLt c.isLt (hrate c ▸ Fin.isLt _), hrate]
  refine ⟨_, exec_refreshRateRead hs hstate, hfield 0, hfield 1, hfield 2, hfield 3, fun c => ?_, fun ⟨c, htwo, hwas⟩ => ?_⟩
  · rw [State.ratesRead_hot hcu g.isLt, bit_hotMask, hrate, decide_eq_decide, Fin.ext_iff]
    rfl
  · exact State.ratesRead_bits hcu g.isLt ((hrate c).trans (congrArg Fin.val htwo)) hwas

/-! ### The reset of a group -/

/-- 09 R358, R359: ZQ and data timing. -/
theorem exec_zqRecalibrate {good : Bool} (hs : s.awake = true) :
    exec (.zqRecalibrate t g good) s = .next (if good then s.at_ t else (s.at_ t).dgDown g 4) := by
  change execZqRecalibrate t g good s = _
  exact released_of_awake hs t _

theorem exec_dgReset {cause : Fin 5} (hs : s.awake = true) : exec (.dgReset t g cause) s = .next ((s.at_ t).dgDown g cause) := by
  change execDgReset t g cause s = _
  exact released_of_awake hs t _

namespace State

variable {g cause : Nat}

theorem rstNow_of_lt {n : Nat} (hn : n < 32) : rstNow n = ⟨34, 0x20000, n, n⟩ := if_pos hn

/-- 22 Table 22.10: the reset of an island that begins, or has begun. -/
theorem beginReset_has {isl : Nat} (hc : canonical s.regs = true) (hisl : isl < 32) : (s.beginReset isl).has (rstNow isl) = true := by
  unfold beginReset
  split
  next h => exact h
  next =>
    have hword : (⟨34, 0x20000, isl, isl⟩ : Fld).addr ≠ (R.RST_RESETS isl).addr := by
      simp only [Fld.addr, R.RST_RESETS]
      omega
    rw [rstNow_of_lt hisl]
    refine decide_eq_true ((get_bump_word hword 1).trans ((get_set_same ?_ _ le_rfl hisl 1).trans ?_))
    · exact hc
    · rw [Fld.width, Nat.add_sub_cancel_left]
      rfl

theorem beginReset_get {isl : Nat} (hisl : isl < 32) (hnow : f.addr ≠ (⟨34, 0x20000, isl, isl⟩ : Fld).addr)
    (hresets : f.addr ≠ (R.RST_RESETS isl).addr) : (s.beginReset isl).get f = s.get f := by
  unfold beginReset
  rw [rstNow_of_lt hisl]
  split
  next => rfl
  next => exact (get_bump_word hresets 1).trans (get_set_word hnow 1)

/-- The registers of a group that goes to its reset: the island's take their reset values, and STATE shows RESET (09 R359). -/
def groupCleared (s : State) (g : Nat) : State :=
  ((s.beginReset (24 + g)).loseBobbins.clearWindow (24 + g)).set (R.DG_STAT_STATE g) 4

theorem loseBobbins_get : s.loseBobbins.get f = s.get f := (rfl)

theorem groupCleared_canonical (hc : canonical s.regs = true) : canonical (s.groupCleared g).regs = true :=
  ((Keeps.refl s).beginReset.loseBobbins.clearWindow.set).regs_ok hc

theorem groupCleared_state (hc : canonical s.regs = true) : (s.groupCleared g).get (R.DG_STAT_STATE g) = 4 :=
  get_set_same ((Keeps.refl s).beginReset.loseBobbins.clearWindow.regs_ok hc) (R.DG_STAT_STATE g) (Nat.zero_le 2) (show 2 < 32 by decide) 4

/-- A field of another island. -/
theorem groupCleared_get (hf : f.addr < 0x4000000000 + (24 + g) * 0x100000 ∨ 0x4000000000 + (24 + g) * 0x100000 + 0x100000 ≤ f.addr) :
    (s.groupCleared g).get f = (s.beginReset (24 + g)).get f := by
  have hword : f.addr ≠ (R.DG_STAT_STATE g).addr := by
    simp only [Fld.addr, R.DG_STAT_STATE] at hf ⊢
    omega
  exact (get_set_word hword 4).trans ((get_clearWindow hf).trans loseBobbins_get)

theorem groupCleared_has (hc : canonical s.regs = true) (hg : g < 8) : (s.groupCleared g).has (rstNow (24 + g)) = true := by
  have hnow := beginReset_has (isl := 24 + g) hc (by omega)
  rw [rstNow_of_lt (by omega)] at hnow ⊢
  refine decide_eq_true ((groupCleared_get (.inr ?_)).trans (of_decide_eq_true hnow))
  simp only [Fld.addr]
  omega

theorem groupCleared_other (hg : g < 8) {k : Nat} (hk : k < 8) (hne : k ≠ g) :
    (s.groupCleared g).get (R.DG_STAT_STATE k) = s.get (R.DG_STAT_STATE k) := by
  refine (groupCleared_get ?_).trans (beginReset_get (by omega) ?_ ?_) <;> simp only [Fld.addr, R.DG_STAT_STATE, R.RST_RESETS] <;> omega

/-- 09 R359: a group that serves is cleared, and F2 is raised. -/
theorem dgDown_raises (h : s.get (R.DG_STAT_STATE g) ≠ 4) : ∃ (u : State) (detail : List Byte) (acc : Acc),
    s.dgDown g cause = u.raise (24 + g) 2 0x0202 tagGroupReset detail acc ∧ u.regs = (s.groupCleared g).regs := by
  unfold dgDown
  rw [if_neg h]
  exact ⟨_, _, _, rfl, rfl⟩

theorem dgDown_resets (hc : canonical s.regs = true) (hg : g < 8) (h : s.get (R.DG_STAT_STATE g) ≠ 4) :
    (s.dgDown g cause).get (R.DG_STAT_STATE g) = 4 ∧ (s.dgDown g cause).has (rstNow (24 + g)) = true ∧
      (s.dgDown g cause).has (fltBit (24 + g)) = true ∧
      ∀ k : Fin 8, k.val ≠ g → (s.dgDown g cause).get (R.DG_STAT_STATE k) = s.get (R.DG_STAT_STATE k) := by
  obtain ⟨u, detail, acc, hdown, hregs⟩ := dgDown_raises (cause := cause) h
  have hisl : 24 + g < 40 := by omega
  have hcu : canonical u.regs = true := hregs ▸ groupCleared_canonical hc
  have hleaves := (Leaves.refl u).raise hisl (cls := 2) (by decide) 0x0202 tagGroupReset detail acc (15, 4)
  have hget {f : Fld} (hf : f.outside true = true) : (s.dgDown g cause).get f = (s.groupCleared g).get f := by
    rw [hdown]
    exact (hleaves.get f hf).trans (get_of_regs hregs f)
  refine ⟨(hget (groupField_outside hg)).trans (groupCleared_state hc), ?_, ?_, fun k hk => ?_⟩
  · exact decide_eq_true ((hget rstNow_outside).trans (of_decide_eq_true (groupCleared_has hc hg)))
  · rw [hdown]
    exact raise_fltBit hcu hisl (by decide) ..
  · exact (hget (groupField_outside k.isLt)).trans (groupCleared_other hg k.isLt hk)

end State

/-! ### The change of the operating point -/

variable {p : Nat} {at_ : Time} {late : Option Time}

namespace State

/-- A change that is put off is counted once (09 Table 9.7). -/
def changeDeferred (s : State) : State := if s.dram.deferred then s else ({ s with dram.deferred := true } : State).bump R.MEM_DEFERRED 1

theorem bump_now {n : Nat} : (s.bump f n).now = s.now := now_of_works bump_works

theorem bump_dram {n : Nat} : (s.bump f n).dram = s.dram := dram_of_works bump_works

theorem changeDeferred_now : s.changeDeferred.now = s.now := by
  unfold changeDeferred
  split <;> [rfl; exact bump_now]

theorem changeDeferred_change : s.changeDeferred.dram.change = s.dram.change := by
  unfold changeDeferred
  split <;> [rfl; rw [bump_dram]]

theorem changeDeferred_deferred : s.changeDeferred.dram.deferred = true := by
  unfold changeDeferred
  split <;> [assumption; rw [bump_dram]]

theorem changeDeferred_canonical (hc : canonical s.regs = true) : canonical s.changeDeferred.regs = true := by
  unfold changeDeferred
  split <;> [exact hc; exact bump_canonical hc]

theorem changeDeferred_get (hc : canonical s.regs = true) : s.changeDeferred.get R.MEM_DEFERRED =
    if s.dram.deferred then s.get R.MEM_DEFERRED else (s.get R.MEM_DEFERRED + 1) % 2 ^ 32 := by
  unfold changeDeferred
  split
  next => rfl
  next => exact get_bump_counter (s := { s with dram.deferred := true }) hc R.MEM_DEFERRED.isl R.MEM_DEFERRED.off 1

theorem changeDeferred_groupDown : s.changeDeferred.groupDown = s.groupDown := by
  have hstate (g : Nat) : s.changeDeferred.get (R.DG_STAT_STATE g) = s.get (R.DG_STAT_STATE g) := by
    have hword : (R.DG_STAT_STATE g).addr ≠ R.MEM_DEFERRED.addr := by
      simp only [Fld.addr, R.DG_STAT_STATE, R.MEM_DEFERRED]
      omega
    unfold changeDeferred
    split <;> [rfl; exact get_bump_word hword 1]
  simp only [groupDown, hstate]

/-- The move of the operating point in SPN.MEM (09 Table 9.13). -/
def pointShown (s : State) (p : Nat) : State := ((s.set R.MEM_CUR p).bump R.MEM_CHANGES 1).set R.MEM_LAST_NS (s.now % sec)

theorem pointCounted_canonical (hc : canonical s.regs = true) : canonical ((s.set R.MEM_CUR p).bump R.MEM_CHANGES 1).regs = true :=
  (Keeps.refl s).set.bump.regs_ok hc

theorem movePoint_regs : (s.movePoint p).regs = ((List.range 8).foldl (fun u g => u.set (R.DG_STAT_POINT g) p) (s.pointShown p)).regs := by
  unfold movePoint
  rfl

theorem movePoint_get (hf : ∀ g, f.addr ≠ (R.DG_STAT_POINT g).addr) : (s.movePoint p).get f = (s.pointShown p).get f :=
  (get_of_regs movePoint_regs f).trans (get_foldl_set_word fun g _ => hf g)

/-- 09 R353: what the groups show once they have moved. -/
theorem movePoint_shows (hc : canonical s.regs = true) : (s.movePoint p).dram.change = none ∧ (s.movePoint p).get R.MEM_LAST_NS = s.now % sec ∧
    (s.movePoint p).get R.MEM_CHANGES = (s.get R.MEM_CHANGES + 1) % 2 ^ 32 := by
  have hns : s.now % sec < 2 ^ 32 := (Nat.mod_lt _ (by decide)).trans (show sec < 2 ^ 32 by decide)
  refine ⟨rfl, ?_, ?_⟩
  · rw [movePoint_get fun g => by simp only [Fld.addr, R.DG_STAT_POINT, R.MEM_LAST_NS]; omega]
    exact (get_set_same (pointCounted_canonical hc) R.MEM_LAST_NS (Nat.zero_le 31) (show 31 < 32 by decide) _).trans (Nat.mod_eq_of_lt hns)
  · rw [movePoint_get fun g => by simp only [Fld.addr, R.DG_STAT_POINT, R.MEM_CHANGES]; omega]
    have hcount : ((s.set R.MEM_CUR p).bump R.MEM_CHANGES 1).get R.MEM_CHANGES = ((s.set R.MEM_CUR p).get R.MEM_CHANGES + 1) % 2 ^ 32 :=
      get_bump_counter ((Keeps.refl s).set.regs_ok hc) ..
    rw [pointShown, get_set_word (by decide), hcount, get_set_word (by decide)]

end State

theorem State.pointLate_of_early (hchange : s.dram.change = some (p, at_, late)) (hearly : late.any (· ≤ s.now) = false) : s.pointLate = s := by
  unfold State.pointLate
  cases late with
  | none => rw [hchange]
  | some b =>
    have hb : ¬(Decidable.decide (b ≤ s.now) && s.groupDown) = true := by
      rw [Option.any_some] at hearly
      rw [hearly]
      exact Bool.false_ne_true
    rw [hchange]
    exact if_neg hb

/-- The state in which the F2 of a late change is raised, and its raising (09 Table 9.7). -/
theorem State.pointLate_of_late {b : Time} (hchange : s.dram.change = some (p, at_, some b)) (hlate : b ≤ s.now) (hdown : s.groupDown = true) :
    s.pointLate =
      ({ s with dram.change := some (p, at_, none) } : State).raise 34 2 0x0002 (2 ^ 40 + 2 * tagPointLate) [] { typ := 3, master := 0x40 + 34 } := by
  unfold State.pointLate
  rw [hchange]
  exact if_pos (by rw [hdown, decide_eq_true hlate]; rfl)

/-- 09 Table 9.7: a late change raises F2, once. -/
theorem State.pointLate_raises {b : Time} (hc : canonical s.regs = true) (hchange : s.dram.change = some (p, at_, some b)) (hlate : b ≤ s.now)
    (hdown : s.groupDown = true) : s.pointLate.has (fltBit 34) = true ∧ s.pointLate.dram = { s.dram with change := some (p, at_, none) } ∧
      s.pointLate.get R.MEM_DEFERRED = s.get R.MEM_DEFERRED := by
  rw [State.pointLate_of_late hchange hlate hdown]
  have hleaves := (State.Leaves.refl ({ s with dram.change := some (p, at_, none) } : State)).raise (isl := 34) (cls := 2) (by decide) (by decide)
    0x0002 (2 ^ 40 + 2 * tagPointLate) [] { typ := 3, master := 0x40 + 34 } (15, 4)
  have hbit := State.raise_fltBit (s := { s with dram.change := some (p, at_, none) }) hc (isl := 34) (cls := 2) (by decide) (by decide)
    0x0002 (2 ^ 40 + 2 * tagPointLate) [] { typ := 3, master := 0x40 + 34 } (15, 4)
  exact ⟨hbit, State.dram_of_works hleaves.works, hleaves.get R.MEM_DEFERRED (by decide)⟩

theorem State.at_groupDown : (s.at_ t).groupDown = s.groupDown := (rfl)

/-- 09 R353, Table 9.7: the instant of a change, by the state of the groups. -/
theorem exec_pointChangeInstant (hs : s.awake = true) (hchange : s.dram.change = some (p, at_, late)) :
    exec (.pointChangeInstant t) s = .next (if t < at_ then s.at_ t
      else if !(s.at_ t).groupDown then (s.at_ t).movePoint p else (s.at_ t).changeDeferred.pointLate) := by
  have hwaits : (s.at_ t).dram.change = some (p, at_, late) := hchange
  change execPointChangeInstant t s = _
  rw [execPointChangeInstant, released_of_awake hs, State.changeDeferred, apply_ite State.pointLate]
  dsimp only
  rw [hwaits]
  rfl

theorem exec_pointChangeInstant_early (hs : s.awake = true) (hchange : s.dram.change = some (p, at_, late)) (hearly : t < at_) :
    exec (.pointChangeInstant t) s = .next (s.at_ t) := by
  rw [exec_pointChangeInstant hs hchange, if_pos hearly]

theorem exec_pointChangeInstant_of_up (hs : s.awake = true) (hchange : s.dram.change = some (p, at_, late)) (hdue : at_ ≤ t)
    (hup : s.groupDown = false) : exec (.pointChangeInstant t) s = .next ((s.at_ t).movePoint p) := by
  rw [exec_pointChangeInstant hs hchange, if_neg (not_lt.mpr hdue), State.at_groupDown, hup]
  rfl

theorem exec_pointChangeInstant_of_down (hs : s.awake = true) (hchange : s.dram.change = some (p, at_, late)) (hdue : at_ ≤ t)
    (hdown : s.groupDown = true) : exec (.pointChangeInstant t) s = .next (s.at_ t).changeDeferred.pointLate := by
  rw [exec_pointChangeInstant hs hchange, if_neg (not_lt.mpr hdue), State.at_groupDown, hdown]
  rfl

/-- 09 Table 9.7: a change that is put off before the switching points of its cycle are past. -/
theorem exec_pointChangeInstant_of_wait (hs : s.awake = true) (hchange : s.dram.change = some (p, at_, late)) (hdue : at_ ≤ t)
    (hdown : s.groupDown = true) (hearly : late.any (· ≤ t) = false) : exec (.pointChangeInstant t) s = .next (s.at_ t).changeDeferred := by
  have hlate : late.any (· ≤ (s.at_ t).changeDeferred.now) = false := by
    rw [State.changeDeferred_now]
    exact hearly
  rw [exec_pointChangeInstant_of_down hs hchange hdue hdown,
    State.pointLate_of_early ((State.changeDeferred_change (s := s.at_ t)).trans hchange) hlate]

/-- 09 Table 9.7: a change that is put off past the switching points of its cycle. -/
theorem pointChangeInstant_late (hs : s.awake = true) (hc : canonical s.regs = true) (hchange : s.dram.change = some (p, at_, late))
    (hdue : at_ ≤ t) (hdown : s.groupDown = true) (hlate : late.any (· ≤ t) = true) :
    ∃ s', exec (.pointChangeInstant t) s = .next s' ∧ s'.has (fltBit 34) = true ∧ s'.dram.change = some (p, at_, none) ∧
      s'.dram.deferred = true ∧
      s'.get R.MEM_DEFERRED = (if s.dram.deferred then s.get R.MEM_DEFERRED else (s.get R.MEM_DEFERRED + 1) % 2 ^ 32) := by
  obtain ⟨b, rfl, hb⟩ := (Option.any_eq_true _ _).mp hlate
  have hcu : canonical (s.at_ t).changeDeferred.regs = true := State.changeDeferred_canonical (s := s.at_ t) hc
  have hnow : b ≤ (s.at_ t).changeDeferred.now := by
    rw [State.changeDeferred_now]
    exact of_decide_eq_true hb
  have hdown' : (s.at_ t).changeDeferred.groupDown = true := by rw [State.changeDeferred_groupDown, State.at_groupDown, hdown]
  obtain ⟨hbit, hdram, hget⟩ := State.pointLate_raises hcu ((State.changeDeferred_change (s := s.at_ t)).trans hchange) hnow hdown'
  refine ⟨_, exec_pointChangeInstant_of_down hs hchange hdue hdown, hbit, by rw [hdram], ?_, ?_⟩
  · rw [hdram]
    exact State.changeDeferred_deferred
  · rw [hget]
    exact State.changeDeferred_get (s := s.at_ t) hc

end

/-- Settles O35: each command writes registers in words of their own, which the events and faults beside it leave, and acts on its group alone. -/
theorem dramGroups : Obligations.DramGroups := by
  unfold Obligations.DramGroups
  refine ⟨fun t lp bank row g s hs hformed => ?groups, fun t at_ p late s hs hformed hchange => ?point⟩
  case groups =>
    have hc : canonical s.regs = true := (State.formed_iff.mp hformed).1
    refine ⟨exec_neighbourRefresh_of_down hs, neighbourRefresh_counts hs hc, exec_refreshWindowEnd hs,
      fun r0 r1 r2 r3 => refreshRateRead_shows hs hc, exec_zqRecalibrate hs, exec_zqRecalibrate hs, fun cause => exec_dgReset hs,
      fun cause hstate => ?reset⟩
    obtain ⟨hdown, hnow, hbit, hother⟩ := State.dgDown_resets (s := s.at_ t) (cause := cause) hc g.isLt hstate
    exact ⟨hdown, hnow, hbit, fun k hk => hother k (Fin.val_ne_of_ne hk)⟩
  case point =>
    have hc : canonical s.regs = true := (State.formed_iff.mp hformed).1
    exact ⟨fun hdue hup => ⟨exec_pointChangeInstant_of_up hs hchange hdue hup, State.movePoint_shows (s := s.at_ t) hc⟩,
      fun hdue hdown hearly => ⟨fun hnew => (exec_pointChangeInstant_of_wait hs hchange hdue hdown hearly).trans
          (congrArg _ (if_neg (Bool.eq_false_iff.mp hnew))),
        fun hold => (exec_pointChangeInstant_of_wait hs hchange hdue hdown hearly).trans (congrArg _ (if_pos hold))⟩,
      pointChangeInstant_late hs hc hchange, exec_pointChangeInstant_early hs hchange⟩

end Sys2Proof.Machine

/-! ## The start up to service

The two commands that end a start's waits: the training of the memory, after which the journal is replayed, and the Whorl's wait for its references. -/

namespace Sys2Proof.Machine

/-! ### STATUS, and the stop of a chip -/

section
variable {s : State} {t : Time} {f : Fld}

theorem live_of_awake (hs : s.awake = true) (t : Time) (act : State → State) : live t s act = .next (act (s.at_ t)) := by
  simp only [State.awake, Bool.and_eq_true, Bool.not_eq_true'] at hs
  unfold live
  rw [if_neg (Bool.eq_false_iff.mp hs.1)]

namespace State

/-- 18 Table 18.16: STATUS shows the code. -/
theorem status_get (hc : canonical s.regs = true) {code : Nat} (hcode : code < 16) (detail : Nat) :
    (s.status code detail).get R.BOOT_STAT_STATUS = code := by
  have hshown : (s.set R.BOOT_STAT_STATUS code).get R.BOOT_STAT_STATUS = code :=
    (get_set_same hc R.BOOT_STAT_STATUS (by decide) (by decide) code).trans (Nat.mod_eq_of_lt hcode)
  have hdetail := get_set_above (s := s.set R.BOOT_STAT_STATUS code) ((Keeps.refl s).set.regs_ok hc) (f := R.BOOT_STAT_DETAIL)
    (g := R.BOOT_STAT_STATUS) (by decide) (by decide) (by decide) (by decide) detail
  exact ((Leaves.refl _).fltSync.get _ (by decide)).trans (hdetail.trans hshown)

theorem status_flt {code detail : Nat} : (s.status code detail).flt = s.flt := by
  unfold status fltSync
  dsimp only
  rw [set_flt, set_flt, set_flt, set_flt]

theorem lastWrites_regs {before : Option StartReport} : (s.lastWrites before).regs = s.regs := (rfl)

theorem lastWrites_stopped {before : Option StartReport} : (s.lastWrites before).flt.stopped = s.flt.stopped := (rfl)

theorem report_regs {offset : Nat} : (s.report offset).regs = s.regs := (rfl)

theorem report_flt {offset : Nat} : (s.report offset).flt = s.flt := (rfl)

/-- 20 R704: the chip does nothing further. -/
theorem f4_stopped {status detail : Nat} : (s.f4 status detail).flt.stopped = true := by
  unfold f4
  dsimp only
  split
  next => rw [lastWrites_stopped, report_flt, status_flt]
  next => rw [report_flt, status_flt]

/-- 20 Table 20.2: an F4 shows its STATUS. -/
theorem f4_status (hc : canonical s.regs = true) {status : Nat} (hstatus : status < 16) (detail : Nat) :
    (s.f4 status detail).get R.BOOT_STAT_STATUS = status := by
  have hquiet : canonical s.quietAll.regs = true := (Keeps.refl s).quietAll.regs_ok hc
  have hshown := status_get (s := { s.quietAll with dbl.role := .off, dbl.tieOut := .none, flt.stopped := true }) hquiet hstatus detail
  unfold f4
  dsimp only
  split
  next => rw [get_of_regs lastWrites_regs, get_of_regs report_regs, hshown]
  next => rw [get_of_regs report_regs, hshown]

/-- 20 R705: an occurrence of class F4 goes down the error line and is logged before the chip stops. -/
theorem err_f4 (hc : canonical s.regs = true) (acc : Acc) (lasts : Bool) (stop : Nat × Nat) :
    ∃ u : State, s.err f 4 acc lasts stop = u.f4 stop.1 stop.2 ∧ canonical u.regs = true :=
  ⟨_, rfl, (Keeps.refl s).set.hold.latch.islandError.regs_ok hc⟩

end State

/-! ### The end of the training -/

/-- 09 R357: the groups are in service, with every channel trained. -/
def State.groupsServe (s : State) : State :=
  (List.range 8).foldl (fun (s : State) g => (s.set (R.DG_STAT_STATE g) 2).set (R.DG_STAT_TRAINED g) 15) { s.fresh.2 with dram.key := s.fresh.1 }

/-- 18 R666, R674: group G is applied, the journal is replayed and what stands is booked. -/
def State.replayed (s : State) : State := (((s.tierMask.groupG.status 6 0).replay.syncBobbins.syncMeters).syncJoins)

theorem State.replayed_canonical (hc : canonical s.regs = true) : canonical s.groupsServe.replayed.regs = true := by
  have hgroups : canonical s.groupsServe.regs = true :=
    (Keeps.foldl ⟨Keeps.refl { s.fresh.2 with dram.key := s.fresh.1 }, fun u _ => (Keeps.refl u).set.set⟩).regs_ok hc
  exact (Keeps.refl s.groupsServe).tierMask.groupG.status.replay.syncBobbins.syncMeters.syncJoins.regs_ok hgroups

theorem exec_dramTrainingDone_none (hs : s.awake = true) (hstatus : s.get R.BOOT_STAT_STATUS = 5) :
    exec (.dramTrainingDone t none) s = .next ((s.at_ t).groupsServe.replayed.status 7 0) := by
  change execDramTrainingDone t none s = _
  exact (live_of_awake hs t _).trans (congrArg Host.Outcome.next (if_neg (not_not.mpr hstatus)))

theorem exec_dramTrainingDone_some {c : Fin 32} (hs : s.awake = true) (hstatus : s.get R.BOOT_STAT_STATUS = 5) :
    exec (.dramTrainingDone t (some c)) s =
      .next (((s.at_ t).err (R.DG_ERR_TRAIN_FAIL (c / 4)) 4 { typ := 3, master := 0x40 + 24 + c / 4 } (stop := (14, 0))).report c) := by
  change execDramTrainingDone t (some c) s = _
  exact (live_of_awake hs t _).trans (congrArg Host.Outcome.next (if_neg (not_not.mpr hstatus)))

/-- 09 R357: a channel that fails its training stops the start. -/
theorem dramTrainingDone_fails {c : Fin 32} (hs : s.awake = true) (hc : canonical s.regs = true) (hstatus : s.get R.BOOT_STAT_STATUS = 5) :
    ∃ s', exec (.dramTrainingDone t (some c)) s = .next s' ∧ s'.flt.stopped = true ∧ s'.get R.BOOT_STAT_STATUS = 14 := by
  obtain ⟨u, herr, hcu⟩ := State.err_f4 (s := s.at_ t) (f := R.DG_ERR_TRAIN_FAIL (c / 4)) hc { typ := 3, master := 0x40 + 24 + c / 4 } false
    (14, 0)
  refine ⟨_, exec_dramTrainingDone_some hs hstatus, ?_, ?_⟩
  · rw [State.report_flt, herr]
    exact State.f4_stopped
  · rw [State.get_of_regs State.report_regs, herr]
    exact State.f4_status hcu (by decide) 0

end

/-! ### What leaves the time -/

/-- Whorl time, the phase held, and whether the Whorl is ready (12 R457, R469), by a name of their own for the reason that `State.tiles` has one. -/
def State.clock (s : State) : Time × Int × Bool := (s.now, s.whl.held, s.whl.ready)

namespace State

section
variable {s u : State} {α : Type} {f : Fld}

theorem clock_eta : (s.now, s.whl.held, s.whl.ready) = s.clock := (rfl)

theorem clock_mk {now up free pending regs wide out boot flt sicp xp sdi dbl bob dram aud mv probe eth ip whl keys spn skn rtc} :
    State.clock ⟨now, up, free, pending, regs, wide, out, boot, flt, sicp, xp, sdi, dbl, bob, dram, aud, mv, probe, eth, ip, whl, keys, spn, skn,
      rtc⟩ = (now, whl.held, whl.ready) := (rfl)

theorem ite_clock {x y : State} {c : Prop} [Decidable c] : (if c then x else y).clock = if c then x.clock else y.clock := apply_ite State.clock ..

theorem foldl_clock {op : State → α → State} {l : List α} (h : ∀ s x, (op s x).clock = s.clock) : (l.foldl op s).clock = s.clock :=
  List.foldlRecOn (motive := fun u : State => u.clock = s.clock) l op rfl fun u hu x _ => (h u x).trans hu

theorem clock_of_works (h : u.works = s.works) : u.clock = s.clock := by
  rw [clock, clock, now_of_works h, whl_of_works h]

theorem set_clock {v : Nat} : (s.set f v).clock = s.clock := (rfl)

theorem bump_clock {n : Nat} : (s.bump f n).clock = s.clock := clock_of_works bump_works

theorem resolve_clock {isl tag : Nat} : (s.resolve isl tag).clock = s.clock := (rfl)

theorem event_clock {isl cls code : Nat} {detail : List Byte} : (s.event isl cls code detail).clock = s.clock :=
  clock_of_works ((Leaves.refl (faults := true) s).event ..).works

/-- A fault of class F2 of the Whorl. -/
theorem raise_clock {code tag : Nat} {detail : List Byte} {acc : Acc} {stop : Nat × Nat} : (s.raise 33 2 code tag detail acc stop).clock = s.clock :=
  clock_of_works ((Leaves.refl s).raise (by decide) (by decide) ..).works

theorem foldPulse_clock {k : Nat} {t : Time} : (s.foldPulse k t).clock = s.clock := by
  unfold foldPulse
  split
  next => simp only [↓clock_mk, clock_eta, bump_clock]
  next => rfl

theorem pulseShow_clock : s.pulseShow.clock = s.clock := by
  simp only [pulseShow, ↓foldl_clock, ↓ite_clock, ↓clock_mk, clock_eta, ↓foldPulse_clock, ↓set_clock, ite_self, implies_true]

theorem whlShow_clock : s.whlShow.clock = s.clock := by
  simp only [whlShow, ↓foldl_clock, ↓set_clock, implies_true]

theorem utcShow_clock : s.utcShow.clock = s.clock := by
  simp only [utcShow, ↓set_clock]

theorem setWhl_clock {new : Nat} : (s.setWhl new).clock = s.clock := by
  simp only [setWhl, ↓ite_clock, ↓clock_mk, clock_eta, ↓set_clock, ↓event_clock, ↓raise_clock, ↓resolve_clock, ↓whlShow_clock,
    ↓pulseShow_clock, ite_self]

theorem whlNone_clock : s.whlNone.clock = s.clock := by
  simp only [whlNone, ↓ite_clock, ↓setWhl_clock, ite_self]

theorem whlNew_clock : s.whlNew.clock = s.clock := by
  simp only [whlNew, ↓ite_clock, ↓clock_mk, clock_eta, ↓setWhl_clock, ite_self]

theorem utcTake_clock : s.utcTake.clock = s.clock := by
  fun_cases utcTake <;> rfl

/-- 12 R453: a change of the reference leaves the time. -/
theorem switchRef_clock {r : Option Nat} : (s.switchRef r).clock = s.clock := by
  unfold switchRef
  split
  next => rfl
  next =>
    split <;> simp only [↓whlShow_clock, ↓whlNone_clock, ↓whlNew_clock, ↓utcTake_clock, ↓event_clock, ↓bump_clock, ↓clock_mk, clock_eta]

theorem reselect_clock : s.reselect.clock = s.clock := by
  fun_cases reselect <;> simp only [↓switchRef_clock]

end

/-! ### The end of the Whorl's wait -/

section
variable {s : State}

/-- 12 R467, R468: time is stepped, to the twin's where it serves and its time is known. -/
def timeStepped (s : State) : State :=
  match s.whl.twinOffset with
  | some d =>
    if s.twinServes then
      { s.setTime (moved s.now d) with
        whl.held := s.whl.twinHeld, whl.twinOffset := some 0, whl.phi := s.whl.phi.map (fun (p : Nat × Int) => (p.1, p.2 - d)) }
    else s.ptpStep
  | none => s.ptpStep

/-- The selection of a reference once the Whorl is ready (12 R469): the twin's where it serves and that reference is qualified. -/
def refSelected (s : State) : State :=
  match s.whl.twinRef with
  | some r => if s.twinServes && s.qualified r then s.switchRef (some r) else s.reselect
  | none => s.reselect

/-- 12 R469: the Whorl is ready. -/
def madeReady (s : State) : State := { s with whl.ready := true, whl.w := s.freePpt }

theorem refSelected_clock : s.refSelected.clock = s.clock := by
  unfold refSelected
  split
  next => simp only [↓ite_clock, ↓switchRef_clock, ↓reselect_clock, ite_self]
  next => exact reselect_clock

theorem timeStepped_of_twin {d : Int} (hoffset : s.whl.twinOffset = some d) (hserves : s.twinServes = true) :
    s.timeStepped.now = moved s.now d ∧ s.timeStepped.whl.held = s.whl.twinHeld := by
  unfold timeStepped
  rw [hoffset]
  dsimp only
  rw [if_pos hserves]
  exact ⟨rfl, rfl⟩

theorem timeStepped_of_alone (halone : s.whl.twinOffset = none ∨ s.twinServes = false) : s.timeStepped = s.ptpStep := by
  unfold timeStepped
  split
  next d hoffset => exact if_neg (Bool.eq_false_iff.mp (halone.resolve_left (hoffset ▸ Option.some_ne_none d)))
  next => rfl

/-- 12 R467: a qualified PTP reference, the first in PRIO. -/
theorem ptpStep_now {r : Nat} (h : (s.prioList ++ [0, 1]).find? (fun k => Decidable.decide (k < 2) && s.qualified k) = some r) :
    s.ptpStep.now = moved s.now (s.phi r) := by
  unfold ptpStep
  rw [h]
  rfl

theorem ptpStep_of_none (h : (s.prioList ++ [0, 1]).find? (fun k => Decidable.decide (k < 2) && s.qualified k) = none) : s.ptpStep = s.phaseStep := by
  unfold ptpStep
  rw [h]

/-- 12 R468: the first qualified phase reference in PRIO. -/
theorem phaseStep_now {r : Nat} (h : s.prioList.find? (fun k => Decidable.decide (2 ≤ k) && hasPhase k && s.qualified k) = some r) :
    s.phaseStep.now = moved s.now (s.phi r) := by
  unfold phaseStep
  rw [h]
  rfl

theorem phaseStep_of_none (h : s.prioList.find? (fun k => Decidable.decide (2 ≤ k) && hasPhase k && s.qualified k) = none) : s.phaseStep = s := by
  unfold phaseStep
  rw [h]

end

end State

section
variable {s : State} {t : Time}

theorem exec_whlRefWaitEnd_of_ready (hs : s.awake = true) (hready : s.whl.ready = true) : exec (.whlRefWaitEnd t) s = .next (s.at_ t) := by
  change execWhlRefWaitEnd t s = _
  exact (released_of_awake hs t _).trans (congrArg Host.Outcome.next (if_pos hready))

theorem exec_whlRefWaitEnd_of_waiting (hs : s.awake = true) (hwaits : s.whl.ready = false) :
    exec (.whlRefWaitEnd t) s = .next (s.at_ t).timeStepped.madeReady.refSelected.whlShow.utcShow.pulseShow := by
  change execWhlRefWaitEnd t s = _
  exact (released_of_awake hs t _).trans (congrArg Host.Outcome.next (if_neg (Bool.eq_false_iff.mp hwaits)))

/-- 12 R469: after the wait the time is the one stepped to, and the Whorl is ready. -/
theorem whlRefWaitEnd_clock (s : State) : s.timeStepped.madeReady.refSelected.whlShow.utcShow.pulseShow.clock =
    (s.timeStepped.now, s.timeStepped.whl.held, true) := by
  rw [State.pulseShow_clock, State.utcShow_clock, State.whlShow_clock, State.refSelected_clock]
  rfl

end

/-- Settles O21: what the start does before its last STATUS keeps the register file's form, and the selection of a reference leaves the time that was
stepped to. -/
theorem startReachesService : Obligations.StartReachesService := by
  unfold Obligations.StartReachesService
  refine ⟨fun t s hs hformed hstatus => ⟨?trained, fun c => ?failed⟩, fun t s hs => ⟨exec_whlRefWaitEnd_of_ready hs, fun hwaits => ?ready⟩⟩
  case trained =>
    have hc : canonical (s.at_ t).regs = true := (State.formed_iff.mp hformed).1
    exact ⟨_, exec_dramTrainingDone_none hs hstatus, rfl, State.status_get (State.replayed_canonical hc) (by decide) 0⟩
  case failed => exact dramTrainingDone_fails hs (State.formed_iff.mp hformed).1 hstatus
  case ready =>
    have hclock := whlRefWaitEnd_clock (s.at_ t)
    simp only [State.clock, Prod.mk.injEq] at hclock
    obtain ⟨hnow, hheld, hready⟩ := hclock
    refine ⟨_, exec_whlRefWaitEnd_of_waiting hs hwaits, hready, fun d hoffset hserves => ?twin,
      fun halone => ⟨fun r hr => ?ptp, fun hnone => ⟨fun r hr => ?phase, fun hno => ?still⟩⟩⟩
    case twin =>
      obtain ⟨hstep, htwin⟩ := State.timeStepped_of_twin (s := s.at_ t) hoffset hserves
      exact ⟨hnow.trans hstep, hheld.trans htwin⟩
    all_goals have hstep := hnow.trans (congrArg State.now (State.timeStepped_of_alone (s := s.at_ t) halone))
    case ptp => exact hstep.trans (State.ptpStep_now (s := s.at_ t) hr)
    all_goals rw [State.ptpStep_of_none (s := s.at_ t) hnone] at hstep
    case phase => exact hstep.trans (State.phaseStep_now (s := s.at_ t) hr)
    case still => exact hstep.trans (congrArg State.now (State.phaseStep_of_none (s := s.at_ t) hno))

end Sys2Proof.Machine

/-! ## What leaves the audio engine

The audio engine (10) is written by its own operations alone. All others that an audio tick, a TDM port or a fault reaches leave it, which is said
below once for each operation `X`, as `X_engine`. Of the operations of the engine that come after its count in a tick, `X_count` says that they leave
the count. -/

namespace Sys2Proof.Machine

/-- The audio engine, by a name of its own for the reason that `State.tiles` has one. -/
def State.engine (s : State) : Aud := s.aud

theorem State.aud_engine (s : State) : s.aud = s.engine := (rfl)

theorem State.engine_mk {now up free pending regs wide out boot flt sicp xp sdi dbl bob dram aud mv probe eth ip whl keys spn skn rtc} :
    State.engine ⟨now, up, free, pending, regs, wide, out, boot, flt, sicp, xp, sdi, dbl, bob, dram, aud, mv, probe, eth, ip, whl, keys, spn, skn,
      rtc⟩ = aud := (rfl)

namespace State

section
variable {s u : State} {α β : Type}

/-! ### Choices and folds -/

theorem ite_engine {x y : State} {p : Prop} [Decidable p] : (if p then x else y).engine = if p then x.engine else y.engine :=
  apply_ite State.engine ..

theorem foldl_engine {f : State → α → State} {l : List α} (h : ∀ s x, (f s x).engine = s.engine) : (l.foldl f s).engine = s.engine :=
  List.foldlRecOn (motive := (·.engine = s.engine)) l f rfl fun u hu x _ => (h u x).trans hu

/-! ### Registers, numbers and what is sent -/

theorem set_engine {f v} : (s.set f v).engine = s.engine := (rfl)

theorem bump_engine {f n} : (s.bump f n).engine = s.engine := by
  simp only [State.bump, ↓set_engine, ↓ite_engine, ite_self]

theorem peak_engine {f v} : (s.peak f v).engine = s.engine := by
  simp only [State.peak, ↓set_engine, ↓ite_engine, ite_self]

theorem bump64_engine {f n} : (s.bump64 f n).engine = s.engine := by
  simp only [State.bump64, ↓ite_engine, ↓engine_mk, ↓aud_engine, ite_self]

theorem fresh_engine : s.fresh.2.engine = s.engine := (rfl)

theorem emit_engine {o} : (s.emit o).engine = s.engine := (rfl)

/-! ### Events and faults -/

theorem dblData_engine {n m} : (s.dblData n m).engine = s.engine := (rfl)

theorem publish_engine {e} : (s.publish e).engine = s.engine := by
  simp only [State.publish, ↓bump_engine, ↓engine_mk, ↓aud_engine]

theorem nextSeq_engine {isl} : (s.nextSeq isl).2.engine = s.engine := (rfl)

theorem logRec_engine {e} : (s.logRec e).engine = s.engine := by
  simp only [State.logRec, ↓bump_engine, ↓engine_mk, ↓aud_engine]

theorem logOne_engine {isl cls code detail extra} : (s.logOne isl cls code detail extra).engine = s.engine := by
  simp only [State.logOne, ↓dblData_engine, ↓publish_engine, ↓nextSeq_engine, ↓logRec_engine, ↓ite_engine, ite_self]

theorem event_engine {isl cls code detail} : (s.event isl cls code detail).engine = s.engine := by
  simp only [State.event, ↓logOne_engine, ↓ite_engine, ↓engine_mk, ↓aud_engine, ite_self]

theorem fltSync_engine : s.fltSync.engine = s.engine := by
  simp only [State.fltSync, ↓set_engine]

theorem capture_engine {isl cls code a} : (s.capture isl cls code a).engine = s.engine := by
  simp only [State.capture, ↓set_engine, ↓ite_engine, ite_self]

theorem latch_engine {isl cls code a} : (s.latch isl cls code a).engine = s.engine := by
  simp only [State.latch, ↓set_engine, ↓fltSync_engine, ↓capture_engine]

theorem hold_engine {isl tag cls code detail} : (s.hold isl tag cls code detail).engine = s.engine := (rfl)

/-- A fault below class F3 has no reaction. -/
theorem raise_engine {isl cls code tag detail a stop} (hcls : cls < 3) : (s.raise isl cls code tag detail a stop).engine = s.engine := by
  simp only [State.raise, react_of_lt hcls, ↓event_engine, ↓latch_engine, ↓hold_engine]

/-! ### Cells -/

theorem countCells_engine {from_ n} : (s.countCells from_ n).engine = s.engine := by
  simp only [State.countCells, ↓bump64_engine, ↓foldl_engine, implies_true]

theorem beClear_engine {c} : (s.beClear c).engine = s.engine := by
  simp only [State.beClear, ↓bump_engine, ↓ite_engine, ↓engine_mk, ↓aud_engine, ite_self]

theorem overload_engine {q e n} : (s.overload q e n).2.engine = s.engine := by
  unfold State.overload
  (repeat' split) <;> simp only [↓bump_engine, ↓peak_engine, ↓beClear_engine, ↓engine_mk, ↓aud_engine]

theorem markLost_engine {isl k frame n idx} : (s.markLost isl k frame n idx).engine = s.engine := by
  simp only [State.markLost, ↓ite_engine, ↓engine_mk, ↓aud_engine, ite_self]

theorem freePeak_engine {f bound} : (s.freePeak f bound).engine = s.engine := by
  simp only [State.freePeak, ↓fresh_engine, ↓peak_engine]

theorem queuePeaks_engine {k} : (s.queuePeaks k).engine = s.engine := by
  unfold State.queuePeaks
  split <;> simp only [↓freePeak_engine, ↓foldl_engine, implies_true]

theorem sendCells_engine {k frame n} : (s.sendCells k frame n).engine = s.engine := by
  unfold State.sendCells
  dsimp only
  (repeat' split) <;> simp only [↓countCells_engine, ↓overload_engine, ↓markLost_engine, ↓queuePeaks_engine, ↓foldl_engine, ↓ite_engine,
    ↓engine_mk, ↓aud_engine, ite_self, implies_true]

theorem fillCells_engine {k samples} : (s.fillCells k samples).2.engine = s.engine := by
  fun_cases State.fillCells <;> rfl

theorem sendSlots_engine {k samples} : (s.sendSlots k samples).engine = s.engine := by
  simp only [State.sendSlots, ↓fillCells_engine, ↓sendCells_engine]

theorem rowsMoved_engine {write bytes} : (s.rowsMoved write bytes).engine = s.engine := by
  simp only [State.rowsMoved, ↓fresh_engine, ↓engine_mk, ↓aud_engine]

/-! ### Ports and Strands -/

theorem setPort_engine {p x} : (s.setPort p x).engine = s.engine := (rfl)

theorem sendBe_engine {p lens} : (s.sendBe p lens).engine = s.engine := by
  simp only [State.sendBe, ↓bump_engine, ↓bump64_engine, ↓emit_engine, ↓foldl_engine, ↓ite_engine, ite_self, implies_true]

theorem resume_engine {p q} : (s.resume p q).engine = s.engine := by
  simp only [State.resume, ↓set_engine, ↓setPort_engine, ↓sendBe_engine]

theorem pausesEnd_engine {p} : (s.pausesEnd p).engine = s.engine := by
  simp only [State.pausesEnd, ↓resume_engine, ↓foldl_engine, implies_true]

theorem forwardBe_engine {p f} : (s.forwardBe p f).engine = s.engine := by
  simp only [State.forwardBe, ↓bump_engine, ↓setPort_engine, ↓sendBe_engine, ↓pausesEnd_engine, ↓ite_engine, ite_self]

theorem beArrive_engine : s.beArrive.engine = s.engine := by
  simp only [State.beArrive, ↓forwardBe_engine, ↓foldl_engine, ↓ite_engine, ↓engine_mk, ↓aud_engine, ite_self, implies_true]

theorem emitPkts_engine {v b} : (s.emitPkts v b).engine = s.engine := by
  simp only [State.emitPkts, ↓bump_engine, ↓bump64_engine, ↓emit_engine, ↓foldl_engine, ↓ite_engine, ite_self, implies_true]

theorem setStrand_engine {p x} : (s.setStrand p x).engine = s.engine := (rfl)

theorem strandRun_engine {p} : (s.strandRun p).engine = s.engine := by
  simp only [State.strandRun, ↓setStrand_engine]

theorem sendMedia_engine {p f} : (s.sendMedia p f).engine = s.engine := by
  simp only [State.sendMedia, ↓emit_engine, ↓strandRun_engine, ↓setStrand_engine]

theorem strandSend_engine {p k lv rate} : (s.strandSend p k lv rate).engine = s.engine := by
  fun_cases State.strandSend <;> simp +zetaDelta only [↓sendMedia_engine, ↓engine_mk, ↓aud_engine]

theorem strandSends_engine : s.strandSends.engine = s.engine := by
  simp only [State.strandSends, ↓strandSend_engine, ↓foldl_engine, implies_true]

theorem slotsSend_engine {q p k} : (s.slotsSend q p k).engine = s.engine := by
  unfold State.slotsSend
  simp only [↓setStrand_engine, ↓strandRun_engine]
  refine foldl_engine fun s j => ?_
  split <;> simp only [↓emit_engine]

theorem slotSends_engine {q} : (s.slotSends q).engine = s.engine := by
  simp only [State.slotSends, ↓slotsSend_engine, ↓foldl_engine, implies_true]

/-! ### The registers and the outputs of the engine -/

theorem journalAdd_engine {i} : (s.journalAdd i).engine = s.engine := by
  simp only [State.journalAdd, State.journalShow, ↓set_engine, ↓bump_engine, ↓ite_engine, ↓engine_mk, ↓aud_engine, ite_self]

theorem audioProbe_engine {a out silent zero} : (s.audioProbe a out silent zero).engine = s.engine := by
  simp only [State.audioProbe, ↓event_engine, ↓ite_engine, ite_self]

theorem outFlags_engine {o a peak c} : (s.outFlags o a peak c).engine = s.engine := by
  simp only [State.outFlags, ↓set_engine, ↓peak_engine, ↓audioProbe_engine, ↓ite_engine, ite_self]

theorem lineMoved_engine {q bytes reads} : (s.lineMoved q bytes reads).engine = s.engine := by
  simp only [State.lineMoved, ↓rowsMoved_engine, ↓foldl_engine, ↓ite_engine, ite_self, implies_true]

theorem lineRows_engine {q} : (s.lineRows q).engine = s.engine := by
  simp only [State.lineRows, ↓lineMoved_engine, ↓foldl_engine, implies_true]

theorem embedTick_engine {dest slots} : (s.embedTick dest slots).engine = s.engine := by
  simp only [State.embedTick, ↓emit_engine, ↓foldl_engine, ↓ite_engine, ite_self, implies_true]

theorem audioPackets_engine {q} : (s.audioPackets q).engine = s.engine := by
  simp only [State.audioPackets, ↓set_engine, ↓emitPkts_engine, ↓foldl_engine, ↓ite_engine, ite_self, implies_true]

theorem audioOut_engine : s.audioOut.engine = s.engine := by
  unfold State.audioOut
  simp only [↓foldl_engine, ↓embedTick_engine, ↓ite_engine, ite_self, implies_true]
  refine foldl_engine fun s c => ?_
  split <;> simp only [↓sendSlots_engine]

theorem audStat_engine : s.audStat.engine = s.engine := by
  simp only [State.audStat, ↓set_engine]

/-! ### What leaves the count -/

theorem ite_count {x y : State} {p : Prop} [Decidable p] :
    (if p then x else y).engine.count = if p then x.engine.count else y.engine.count := apply_ite (fun s : State => s.engine.count) ..

theorem foldl_count {f : State → α → State} {l : List α} (h : ∀ s x, (f s x).engine.count = s.engine.count) :
    (l.foldl f s).engine.count = s.engine.count :=
  List.foldlRecOn (motive := (·.engine.count = s.engine.count)) l f rfl fun u hu x _ => (h u x).trans hu

theorem foldl_snd_count {f : β × State → α → β × State} {b : β × State} {l : List α} (h : ∀ b x, (f b x).2.engine.count = b.2.engine.count) :
    (l.foldl f b).2.engine.count = b.2.engine.count :=
  List.foldlRecOn (motive := (·.2.engine.count = b.2.engine.count)) l f rfl fun u hu x _ => (h u x).trans hu

theorem setOut_count {o c} : (s.setOut o c).engine.count = s.engine.count := (rfl)

theorem setBus_count {b c} : (s.setBus b c).engine.count = s.engine.count := (rfl)

theorem busTick_count {b x} : (s.busTick b x).engine.count = s.engine.count := by
  simp only [State.busTick, ↓ite_count, ↓bump_engine, ↓setBus_count, ite_self]

theorem fillSlots_count {dest from_ bad} : (s.fillSlots dest from_ bad).engine.count = s.engine.count := by
  simp only [State.fillSlots, ↓foldl_count, ↓ite_count, ↓setOut_count, ite_self, implies_true]

theorem fillDue_count : s.fillDue.engine.count = s.engine.count := by
  unfold State.fillDue
  refine foldl_count fun s x => ?_
  dsimp only
  (repeat' split) <;> simp only [↓fillSlots_count]

theorem matchedTick_count : s.matchedTick.engine.count = s.engine.count := (rfl)

theorem meterTick_count {out} : (s.meterTick out).engine.count = s.engine.count := by
  simp only [State.meterTick, ↓foldl_count, ↓ite_count, ↓engine_mk, ↓aud_engine, ite_self, implies_true]

theorem lineTick_count {q} : (s.lineTick q).2.engine.count = s.engine.count := by
  simp only [State.lineTick, ↓foldl_snd_count, ↓ite_count, ↓journalAdd_engine, ↓bump_engine, ↓engine_mk, ↓aud_engine, ite_self, implies_true]

theorem outTick_count {o a ctls} : (s.outTick o a ctls).engine.count = s.engine.count := by
  fun_cases State.outTick
  case case1 line _ _ _ _ _ _ _ _ _ _ _ u v =>
    have hu : u.engine.count = s.engine.count := (congrArg Aud.count bump_engine).trans setOut_count
    have hv : v.engine.count = u.engine.count := by
      simp only [v]
      clear_value line
      (repeat' split) <;> rfl
    exact (congrArg Aud.count outFlags_engine).trans (hv.trans hu)

end

end State

end Sys2Proof.Machine

/-! ## Audio ticks, samples of flows, gaps, slips and idle buses

What a tick sends leaves the engine, so the count and the outputs after its command are those that the tick itself left. -/

namespace Sys2Proof.Machine

/-! ### The tick -/

/-- An output channel after a tick of the engine that is off: it carries six zeros more (10 R406). -/
def OutCh.silenced (c : OutCh) : OutCh := { c with hist := (List.replicate 6 0 ++ c.hist).take 256 }

/-- The output channels after such a tick. -/
def State.silencedOuts (s : State) : List (Nat × OutCh) := s.outAddrs.zipIdx.map (fun (x : Nat × Nat) => (x.2, (s.outCh x.2).silenced))

section
variable {s u : State} {t : Time} {α β : Type}

/-- What a map by place holds at a place. -/
theorem look_map_zipIdx (f : α × Nat → β) (l : List α) (n : Nat) {i : Nat} (hi : i < l.length) :
    look (n + i) ((l.zipIdx n).map (fun x => (x.2, f x))) = some (f (l[i], n + i)) := by
  induction l generalizing n i with
  | nil => exact absurd hi (Nat.not_lt_zero i)
  | cons a l ih =>
    rw [List.zipIdx_cons, List.map_cons, look]
    cases i with
    | zero => exact if_pos rfl
    | succ i =>
      rw [if_neg (by dsimp only; omega), show n + (i + 1) = n + 1 + i by omega, ih (n + 1) (Nat.lt_of_succ_lt_succ hi)]
      rfl

theorem OutCh.silenced_hist (c : OutCh) : c.silenced.hist.take 6 = [0, 0, 0, 0, 0, 0] := by
  simp [silenced, List.take_take, List.replicate]

namespace State

theorem outCh_of_silenced (h : u.engine.outs = s.silencedOuts) {o : Nat} (ho : o < s.outAddrs.length) : u.outCh o = (s.outCh o).silenced := by
  have hlook := look_map_zipIdx (fun x => (s.outCh x.2).silenced) s.outAddrs 0 ho
  rw [Nat.zero_add] at hlook
  rw [outCh, lookD, aud_engine, h, silencedOuts, hlook, Option.getD_some]

/-- 10 R406: a tick of the engine that is off. -/
theorem deadTick_engine {q : Nat} : (s.deadTick q).engine = { s.aud with count := q, outs := s.silencedOuts } := by
  simp only [State.deadTick, ↓audioOut_engine, ↓audioPackets_engine, ↓engine_mk]
  rfl

section
variable {sdi : List (Nat × Nat × List (List (Option Int)))} {far : List (Nat × List Int)}

theorem audioTick_of_off (hdue : s.aud.count < countAt s.now / 6 * 6) (hoff : s.aud.on = false) :
    s.audioTick sdi far = s.deadTick (countAt s.now / 6 * 6) := by
  unfold State.audioTick
  dsimp only
  rw [if_neg (not_le.mpr hdue), hoff]
  rfl

/-- 10 R363: a tick that is due brings the count to its instant. -/
theorem audioTick_count (hdue : s.aud.count < countAt s.now / 6 * 6) : (s.audioTick sdi far).engine.count = countAt s.now / 6 * 6 := by
  cases hon : s.aud.on with
  | false => rw [audioTick_of_off hdue hon, deadTick_engine]
  | true =>
    unfold State.audioTick
    dsimp only
    rw [if_neg (not_le.mpr hdue), hon, Bool.not_true, if_neg Bool.false_ne_true]
    simp only [↓audStat_engine, ↓audioOut_engine, ↓audioPackets_engine, ↓meterTick_count, ↓foldl_count, ↓outTick_count, ↓lineTick_count,
      ↓lineRows_engine, ↓busTick_count, ↓matchedTick_count, ↓fillDue_count, ↓engine_mk, ↓aud_engine, implies_true]

end

/-- What follows a tick in its command: samples and frames that leave by Strands, and best-effort frames (13 R510, R511). -/
def tickSends (s : State) (q : Nat) : State := ((s.slotSends q).strandSends).beArrive

theorem tickSends_engine {q : Nat} : (s.tickSends q).engine = s.engine := by
  rw [tickSends, beArrive_engine, strandSends_engine, slotSends_engine]

end State

section
variable {sdi : List (Nat × Nat × List (List (Option Int)))} {far : List (Nat × List Int)}

theorem exec_audioTick_of_due (hs : s.awake = true) (hdue : s.aud.count < countAt t / 6 * 6) :
    exec (.audioTick t sdi far) s = .next (((s.at_ t).audioTick sdi far).tickSends (countAt t / 6 * 6)) := by
  change execAudioTick t sdi far s = _
  exact (released_of_awake hs t _).trans (congrArg Host.Outcome.next (if_neg (not_le.mpr hdue)))

theorem exec_audioTick_of_past (hs : s.awake = true) (hpast : countAt t / 6 * 6 ≤ s.aud.count) :
    exec (.audioTick t sdi far) s = .next (s.at_ t) := by
  change execAudioTick t sdi far s = _
  exact (released_of_awake hs t _).trans (congrArg Host.Outcome.next (if_pos hpast))

theorem State.at_outAddrs : (s.at_ t).outAddrs = s.outAddrs := (rfl)

/-- 10 R363, R406: what a tick that is due shows. -/
theorem audioTick_shows (hs : s.awake = true) (hdue : s.aud.count < countAt t / 6 * 6) :
    ∃ s', exec (.audioTick t sdi far) s = .next s' ∧ s'.aud.count = countAt t / 6 * 6 ∧
      (s.aud.on = false → ∀ o : Fin s.outAddrs.length, (s'.outCh o).hist.take 6 = [0, 0, 0, 0, 0, 0] ∧ (s'.outCh o).sel = (s.outCh o).sel) := by
  have hdue' : (s.at_ t).aud.count < countAt (s.at_ t).now / 6 * 6 := hdue
  refine ⟨_, exec_audioTick_of_due hs hdue, ?_, fun hoff o => ?_⟩
  · rw [State.aud_engine, State.tickSends_engine, State.audioTick_count hdue']
    rfl
  · have hoff' : (s.at_ t).aud.on = false := hoff
    have houts : (((s.at_ t).audioTick sdi far).tickSends (countAt t / 6 * 6)).engine.outs = (s.at_ t).silencedOuts := by
      rw [State.tickSends_engine, State.audioTick_of_off hdue' hoff', State.deadTick_engine]
    have ho : o.val < (s.at_ t).outAddrs.length := o.isLt.trans_eq (congrArg List.length State.at_outAddrs.symm)
    rw [State.outCh_of_silenced houts ho]
    exact ⟨OutCh.silenced_hist _, rfl⟩

end

/-! ### Samples of flows, and gaps -/

theorem State.at_flowSlot {l : List Nat} {j : Nat} : (s.at_ t).flowSlot l j = s.flowSlot l j := by
  induction l generalizing j with
  | nil => rfl
  | cons f l ih => simp only [State.flowSlot, ih]; rfl

theorem State.at_feed {a : Nat} : (s.at_ t).feed a = s.feed a := by
  simp only [State.feed, at_flowSlot]
  rfl

section
variable {f : Fin 8192} {slot count i : Nat} {v : Int} {non : Bool}

/-- 10 R370: a sample of a flow, by the channel that it is for. -/
theorem exec_audioSampleArrival (hs : s.awake = true) (hfind : s.inAddrs.findIdx? (fun a => s.feed a = .flow f slot) = some i) :
    exec (.audioSampleArrival t f slot count v non) s = .next (
      if count + s.inDelay f < s.aud.count then (s.at_ t).bump R.AUD_LATE_SMP 1
      else if s.aud.count + 1919 < count + s.inDelay f then (s.at_ t).bump R.AUD_EARLY_SMP 1
      else (s.at_ t).setIn i { s.inCh i with placed := put (count + s.inDelay f) (v, non) (s.inCh i).placed }) := by
  have hfind' : (s.at_ t).inAddrs.findIdx? (fun a => (s.at_ t).feed a = .flow f slot) = some i := by
    simp only [State.at_feed]
    exact hfind
  change execAudioSampleArrival t f slot count v non s = _
  rw [execAudioSampleArrival, released_of_awake hs, hfind']
  rfl

end

theorem exec_inputGap {ic : Fin 32768} (hs : s.awake = true) :
    exec (.inputGap t ic) s =
      .next (if !(s.inCh ic).gap then s.at_ t else ((s.at_ t).setIn ic { s.inCh ic with gap := false }).bump R.AUD_GAPS 1) := by
  change execInputGap t ic s = _
  exact released_of_awake hs t _

section
variable {c : InCh} {up down k : Nat}

/-- 10 R371: the 48th missing sample in a row is a gap to be counted, whatever ramp the channel is in. -/
theorem InCh.next_gap (h : look k c.placed = none) : (c.next up down k).1.gap = true ↔ c.gap = true ∨ c.miss = 47 := by
  have hgap : (c.next up down k).1.gap = (c.gap || decide (c.miss + 1 = 48)) := by
    simp only [InCh.next, h]
    split <;> rfl
  rw [hgap, Bool.or_eq_true, decide_eq_true_eq, Nat.add_right_cancel_iff (m := c.miss) (k := 47) (n := 1)]

/-- 10 R371: from the 49th missing sample on a channel ramps to zero. -/
theorem InCh.next_ramp (h : look k c.placed = none) (hmiss : c.miss = 48) (hup : c.down = false) (hstill : c.ramp = none) (hlong : 1 < down) :
    (c.next up down k).1.ramp = some (false, 1) := by
  simp [InCh.next, h, hmiss, hup, hstill, hlong]

end

/-! ### Slips, and buses that are still -/

section
variable {src : Fin 1024} {margin d : Int}

theorem exec_sdiAudioSlip_of_within (hs : s.awake = true) (hlow : 8 ≤ margin) (hhigh : margin ≤ 40) :
    exec (.sdiAudioSlip t src margin) s = .next (s.at_ t) := by
  change execSdiAudioSlip t src margin s = _
  rw [execSdiAudioSlip, released_of_awake hs]
  dsimp only
  split
  next => rfl
  next => rw [if_pos (by rw [decide_eq_true hlow, decide_eq_true hhigh]; rfl)]

/-- 10 R372: a slip is counted, and its source's offset is moved to a margin of 24 samples. -/
theorem exec_sdiAudioSlip_of_beyond (hs : s.awake = true) (hdelta : look src.val s.aud.delta = some d) (hout : margin < 8 ∨ 40 < margin) :
    ∃ aud, exec (.sdiAudioSlip t src margin) s = .next { (s.at_ t).bump R.AUD_SLIPS 1 with aud := aud } ∧
      look src.val aud.delta = some (d + (24 - margin)) := by
  have hdelta' : look src.val (s.at_ t).aud.delta = some d := hdelta
  have hguard : ¬(decide (8 ≤ margin) && decide (margin ≤ 40)) = true := by
    rw [Bool.and_eq_true, decide_eq_true_eq, decide_eq_true_eq]
    omega
  change ∃ aud, execSdiAudioSlip t src margin s = _ ∧ _
  rw [execSdiAudioSlip, released_of_awake hs, hdelta']
  dsimp only
  rw [if_neg hguard]
  exact ⟨_, rfl, look_put_same ..⟩

theorem State.get_withAud (s : State) (aud : Aud) (f : Fld) : ({ s with aud := aud } : State).get f = s.get f := rfl

theorem sdiAudioSlip_moves (hs : s.awake = true) (hc : canonical s.regs = true) (hdelta : look src.val s.aud.delta = some d)
    (hout : margin < 8 ∨ 40 < margin) :
    ∃ s', exec (.sdiAudioSlip t src margin) s = .next s' ∧ look src.val s'.aud.delta = some (d + (24 - margin)) ∧
      s'.get R.AUD_SLIPS = (s.get R.AUD_SLIPS + 1) % 2 ^ 32 := by
  obtain ⟨aud, hexec, hmoved⟩ := exec_sdiAudioSlip_of_beyond (t := t) hs hdelta hout
  have hcu : canonical (s.at_ t).regs = true := hc
  have hcount : ((s.at_ t).bump R.AUD_SLIPS 1).get R.AUD_SLIPS = ((s.at_ t).get R.AUD_SLIPS + 1) % 2 ^ 32 := State.get_bump_counter hcu ..
  rw [State.at_get] at hcount
  exact ⟨_, hexec, hmoved, (State.get_withAud ..).trans hcount⟩

end

/-- 10 R379: every member of a bus has been still for 4800 samples. -/
theorem exec_busIdleEntry_of_still {bus : Fin 1024} (hs : s.awake = true) (hidles : s.busIdleOff = false)
    (hstill : ∀ m, m < (s.abus bus).members.length → 4800 ≤ (s.abus bus).run m) :
    exec (.busIdleEntry t bus) s = .next ((s.at_ t).setBus bus { s.abus bus with idle := true }) := by
  have hall : (s.abus bus).still = true := List.all_eq_true.mpr fun m hm => decide_eq_true (hstill m (List.mem_range.mp hm))
  have hguard : ¬((s.at_ t).busIdleOff || !((s.at_ t).abus bus).still) = true := by
    change ¬(s.busIdleOff || !(s.abus bus).still) = true
    rw [hidles, hall]
    exact Bool.false_ne_true
  change execBusIdleEntry t bus s = _
  exact (released_of_awake hs t _).trans (congrArg Host.Outcome.next (if_neg hguard))

end

/-- Settles O36: what a tick sends leaves the count that it reached, and every other command acts on one channel, source or bus. -/
theorem audioTicksAndSamples : Obligations.AudioTicksAndSamples := by
  unfold Obligations.AudioTicksAndSamples
  intro t s hs hformed u
  have hc : canonical s.regs = true := (State.formed_iff.mp hformed).1
  refine ⟨fun sdi far => audioTick_shows hs, fun sdi far => exec_audioTick_of_past hs, fun f slot count v non i hfind => ?sample,
    fun ic hgap => (exec_inputGap hs).trans ?gap, fun ic hgap => (exec_inputGap hs).trans ?nogap,
    fun c up down k h => ⟨InCh.next_gap h, InCh.next_ramp h⟩, fun src margin d => sdiAudioSlip_moves hs hc,
    fun src margin => exec_sdiAudioSlip_of_within hs, fun bus => exec_busIdleEntry_of_still hs⟩
  case sample =>
    have harrives := exec_audioSampleArrival (t := t) (count := count) (v := v) (non := non) hs hfind
    refine ⟨fun hlate hearly => ?_, fun hlate => ?_, fun hearly => ?_⟩
    · rw [harrives, if_neg (not_lt.mpr hlate), if_neg (not_lt.mpr hearly)]
    · rw [harrives, if_pos hlate]
    · rw [harrives, if_neg (by omega), if_pos hearly]
  case gap => rw [hgap]; rfl
  case nogap => rw [hgap]; rfl

end Sys2Proof.Machine

/-! ## The states of the TDM ports, and the reset of the audio engine

A command of Table 10.6 ends in a write of its own port's entry, which TDM.STAT shows; what comes before it leaves the entries of the other ports. -/

namespace Sys2Proof.Machine

/-! ### The entry of a port -/

/-- A register file of the one form, with a port in a state and the other ports as in a state before. -/
structure State.PortIn (a : State) (p x : Nat) (s : State) : Prop where
  canonical : canonical s.regs = true
  state : (s.tdmSt p).state = x
  others : ∀ m, m ≠ p → s.tdmSt m = a.tdmSt m

/-- A port notes the frame sync that begins its running frame (10 R373). -/
def State.edgeNoted (s : State) (p : Nat) : State := s.setTdm p { s.tdmSt p with edge := s.now }

/-- A port takes a state (10 Table 10.6). -/
def State.portTakes (s : State) (p x : Nat) : State := s.setTdm p { state := x, since := s.up, up := 0 }

section
variable {a s : State} {p x : Nat} {α : Type}

namespace State

theorem tdmSt_of_engine {u : State} (h : u.engine = s.engine) (m : Nat) : u.tdmSt m = s.tdmSt m := by
  rw [tdmSt, tdmSt, aud_engine, aud_engine, h]

theorem tdmSt_of_put {u : State} {y : Tdm} (h : u.engine.tdm = put p y s.engine.tdm) :
    u.tdmSt p = y ∧ ∀ m, m ≠ p → u.tdmSt m = s.tdmSt m := by
  refine ⟨?_, fun m hm => ?_⟩ <;> rw [tdmSt, lookD, aud_engine, h]
  · rw [look_put_same, Option.getD_some]
  · rw [look_put_other hm]
    rfl

/-- The entry of a port, before its registers show it. -/
def withTdm (s : State) (p : Nat) (y : Tdm) : State := { s with aud.tdm := put p y s.aud.tdm }

theorem setTdm_engine {y : Tdm} : (s.setTdm p y).engine = (s.withTdm p y).engine := by
  simp only [setTdm, ↓set_engine, withTdm]

theorem tdmSt_setTdm (s : State) (p : Nat) (y : Tdm) : (s.setTdm p y).tdmSt p = y ∧ ∀ m, m ≠ p → (s.setTdm p y).tdmSt m = s.tdmSt m :=
  tdmSt_of_put (congrArg Aud.tdm setTdm_engine)

/-- A field of TDM.STAT above STATE. -/
theorem get_tdmState_set (hc : canonical s.regs = true) {hi lo : Nat} (v : Nat) (hlo : 2 < lo := by decide) (hle : lo ≤ hi := by decide)
    (hhi : hi < 32 := by decide) : (s.set ⟨32, 0x100 + 0x20 * p, hi, lo⟩ v).get (R.TDM_STATE p) = s.get (R.TDM_STATE p) :=
  get_set_below (f := ⟨32, 0x100 + 0x20 * p, hi, lo⟩) (g := R.TDM_STATE p) hc rfl (Nat.zero_le 2) hlo hle hhi v

/-- TDM.STAT shows the state that a port takes. -/
theorem setTdm_shows (hc : canonical s.regs = true) {y : Tdm} (hy : y.state < 8) : (s.setTdm p y).get (R.TDM_STATE p) = y.state := by
  have hcw : canonical (s.withTdm p y).regs = true := hc
  have hstate : ((s.withTdm p y).set (R.TDM_STATE p) y.state).get (R.TDM_STATE p) = y.state :=
    (get_set_same hcw (R.TDM_STATE p) (Nat.zero_le 2) (show 2 < 32 by decide) _).trans (Nat.mod_eq_of_lt hy)
  have hk := (Keeps.refl (s.withTdm p y)).set (f := R.TDM_STATE p) (v := y.state)
  have hslots := get_tdmState_set (p := p) (hi := 21) (lo := 16) (hk.regs_ok hcw)
  exact (get_tdmState_set (hk.set.set.regs_ok hcw) _).trans ((get_tdmState_set (hk.set.regs_ok hcw) _).trans ((hslots _).trans hstate))

theorem portTakes_shows (hc : canonical s.regs = true) (hx : x < 8) : (s.portTakes p x).get (R.TDM_STATE p) = x := setTdm_shows hc hx

theorem tdmState_outside {faults : Bool} (p : Fin 8) : (R.TDM_STATE p).outside faults = true := by
  rw [Fld.outside_iff, R.TDM_STATE]
  dsimp only
  omega

/-! ### What keeps a port in its state, and what takes it to another -/

theorem PortIn.of_formed (h : s.formed = true) (t : Time) (p : Nat) : PortIn s p (s.tdmSt p).state (s.at_ t) :=
  ⟨(formed_iff.mp h).1, rfl, fun _ _ => rfl⟩

theorem PortIn.of_engine {u : State} (h : PortIn a p x s) (hc : Machine.canonical u.regs = true) (he : u.engine = s.engine) : PortIn a p x u :=
  ⟨hc, (congrArg Tdm.state (tdmSt_of_engine he p)).trans h.state, fun m hm => (tdmSt_of_engine he m).trans (h.others m hm)⟩

theorem PortIn.bump (h : PortIn a p x s) (f : Fld) (n : Nat) : PortIn a p x (s.bump f n) := h.of_engine (bump_canonical h.canonical) bump_engine

theorem PortIn.emit (h : PortIn a p x s) (o : Out) : PortIn a p x (s.emit o) := h.of_engine h.canonical emit_engine

theorem PortIn.event (h : PortIn a p x s) (isl cls code : Nat) (detail : List Byte) : PortIn a p x (s.event isl cls code detail) :=
  h.of_engine ((Keeps.refl s).event.regs_ok h.canonical) event_engine

theorem PortIn.setIn (h : PortIn a p x s) (i : Nat) (c : InCh) : PortIn a p x (s.setIn i c) := ⟨h.canonical, h.state, h.others⟩

theorem PortIn.foldl {op : State → α → State} (h : PortIn a p x s) (l : List α) (hop : ∀ u y, PortIn a p x u → PortIn a p x (op u y)) :
    PortIn a p x (l.foldl op s) :=
  List.foldlRecOn (motive := (PortIn a p x ·)) l op h fun u hu y _ => hop u y hu

theorem PortIn.setTdm (h : PortIn a p x s) (y : Tdm) : PortIn a p y.state (s.setTdm p y) := by
  obtain ⟨hself, hother⟩ := tdmSt_setTdm s p y
  exact ⟨(Keeps.refl s).setTdm.regs_ok h.canonical, congrArg Tdm.state hself, fun m hm => (hother m hm).trans (h.others m hm)⟩

theorem PortIn.portTakes (h : PortIn a p x s) (y : Nat) : PortIn a p y (s.portTakes p y) :=
  h.setTdm { state := y, since := s.up, up := 0 }

/-- 10 R399: a port that sends a frame stays in its state. -/
theorem PortIn.tdmSend (h : PortIn a p x s) : PortIn a p x (s.tdmSend p) :=
  have hsent := h.setTdm { s.tdmSt p with up := (s.tdmSt p).up + 1 }
  .emit (h.state ▸ hsent) _

/-- The channels of a port that enters MUTING ramp to zero (10 R400). -/
def portSilenced (s : State) (p : Nat) : State :=
  (s.tdmIns p).foldl (fun s i => s.setIn i { s.inCh i with placed := [], ramp := if (s.inCh i).down then none else some (false, 0) }) s

theorem PortIn.portSilenced (h : PortIn a p x s) : PortIn a p x (s.portSilenced p) := h.foldl _ fun _ _ hu => hu.setIn ..

theorem PortIn.tdmMute (h : PortIn a p x s) : PortIn a p 3 (s.tdmMute p) := h.portSilenced.portTakes 3

theorem tdmMute_shows (h : PortIn a p x s) : (s.tdmMute p).get (R.TDM_STATE p) = 3 := portTakes_shows h.portSilenced.canonical (by decide)

/-- The samples of a frame are placed at their count (10 R373). -/
def framePlaced (s : State) (p count : Nat) (ins : List Int) : State :=
  (s.tdmIns p).zipIdx.foldl (fun s y => s.setIn y.1 { s.inCh y.1 with placed := put count (ins.getD y.2 0, false) (s.inCh y.1).placed }) s

theorem PortIn.framePlaced (h : PortIn a p x s) (count : Nat) (ins : List Int) : PortIn a p x (s.framePlaced p count ins) :=
  h.foldl _ fun _ _ hu => hu.setIn ..

/-- What the end of a frame does to a port that is not OFF (10 R373, R399), before the sync that ended it is noted. -/
def frameEnded (s : State) (p periods : Nat) (ins : List Int) : State :=
  let good := periods = byteAt (s.tdmRec p) 1 * 32
  if (s.tdmSt p).state = 1 then
    if good then (s.portTakes p 2).tdmSend p else s.emit (.tdm p (List.replicate (byteAt (s.tdmRec p) 1) 0))
  else if (s.tdmSt p).state = 3 then s.tdmSend p
  else if !good then ((s.bump (R.TDM_FRAME_ERR p) 1).tdmMute p).tdmSend p
  else ((s.framePlaced p (countNear (s.tdmSt p).edge + 4) ins).bump (R.TDM_FRAMES p) 1).tdmSend p

variable {periods : Nat} {ins : List Int}

/-- 10 R399: a frame of the right length takes a waiting port to RUNNING. -/
theorem PortIn.frameEnded_of_wait (h : PortIn a p 1 s) (hgood : periods = byteAt (s.tdmRec p) 1 * 32) :
    PortIn a p 2 (s.frameEnded p periods ins) := by
  unfold frameEnded
  rw [if_pos h.state, if_pos hgood]
  exact (h.portTakes 2).tdmSend

/-- 10 R399: a frame of another length takes a RUNNING port to MUTING. -/
theorem PortIn.frameEnded_of_bad (h : PortIn a p 2 s) (hbad : periods ≠ byteAt (s.tdmRec p) 1 * 32) :
    PortIn a p 3 (s.frameEnded p periods ins) := by
  unfold frameEnded
  rw [h.state, if_neg (by decide), if_neg (by decide), if_pos (by rw [decide_eq_false hbad]; rfl)]
  exact (h.bump ..).tdmMute.tdmSend

/-- 10 R373: a whole frame of a RUNNING port. -/
theorem PortIn.frameEnded_of_good (h : PortIn a p 2 s) (hgood : periods = byteAt (s.tdmRec p) 1 * 32) :
    PortIn a p 2 (s.frameEnded p periods ins) := by
  unfold frameEnded
  rw [h.state, if_neg (by decide), if_neg (by decide), if_neg (by rw [decide_eq_true hgood]; decide)]
  exact ((h.framePlaced ..).bump ..).tdmSend

end State

end

/-! ### The commands of Table 10.6 -/

/-- A command takes a port to a state, which its register shows, and leaves the entries of the other ports. -/
def TdmGoes (s : State) (p : Fin 8) (c : Instr) (x : Nat) : Prop :=
  ∃ s', exec c s = .next s' ∧ (s'.tdmSt p).state = x ∧ s'.get (R.TDM_STATE p) = x ∧ ∀ m : Fin 8, m ≠ p → s'.tdmSt m = s.tdmSt m

section
variable {s u : State} {t : Time} {p : Fin 8} {c : Instr} {x periods : Nat} {ins : List Int}

theorem State.PortIn.goes (h : s.PortIn p x u) (hshows : u.get (R.TDM_STATE p) = x) (he : exec c s = .next u) : TdmGoes s p c x :=
  ⟨u, he, h.state, hshows, fun m hm => h.others m (Fin.val_ne_of_ne hm)⟩

variable (hs : s.awake = true)
include hs

/-- 10 R399: a frame sync on a port that is not OFF. -/
theorem exec_tdmFsEdge_of_on (hon : (s.tdmSt p).state ≠ 0) :
    exec (.tdmFsEdge t p periods ins) s = .next (((s.at_ t).frameEnded p periods ins).edgeNoted p) := by
  change execTdmFsEdge t p periods ins s = _
  exact (released_of_awake hs t _).trans (congrArg Host.Outcome.next (if_neg hon))

/-- A frame sync leaves its port in the state that the frame's end took it to. -/
theorem State.PortIn.goes_edge (h : s.PortIn p x ((s.at_ t).frameEnded p periods ins)) (hx : x < 8) (hon : (s.tdmSt p).state ≠ 0) :
    TdmGoes s p (.tdmFsEdge t p periods ins) x := by
  have hstate := h.state
  subst hstate
  have hnoted := h.setTdm { ((s.at_ t).frameEnded p periods ins).tdmSt p with edge := ((s.at_ t).frameEnded p periods ins).now }
  exact hnoted.goes (State.setTdm_shows h.canonical hx) (exec_tdmFsEdge_of_on hs hon)

/-- 10 R399: a RUNNING port loses its frames. -/
theorem exec_tdmSyncLoss_of_run {cause : Fin 3} (h : (s.tdmSt p).state = 2) :
    exec (.tdmSyncLoss t p cause) s =
      .next (((s.at_ t).bump (if cause.val = 2 then R.TDM_SLIPS p else R.TDM_FRAME_ERR p) 1).tdmMute p) := by
  change execTdmSyncLoss t p cause s = _
  exact (released_of_awake hs t _).trans (congrArg Host.Outcome.next (if_neg (not_not.mpr h)))

theorem exec_tdmSyncLoss_of_still {cause : Fin 3} (h : (s.tdmSt p).state ≠ 2) : exec (.tdmSyncLoss t p cause) s = .next (s.at_ t) := by
  change execTdmSyncLoss t p cause s = _
  exact (released_of_awake hs t _).trans (congrArg Host.Outcome.next (if_pos h))

/-- 10 R399: the ramp of a MUTING port has ended. -/
theorem exec_tdmMutingEnd_of_due (h : (s.tdmSt p).state = 3) (hdue : (s.tdmSt p).since + min s.ramp 48 * sec / 48000 ≤ (s.at_ t).up) :
    exec (.tdmMutingEnd t p) s =
      .next (((s.at_ t).portTakes p 1).event 32 1 0x0301 (beBytes 1 p)) := by
  have hguard : (decide (((s.at_ t).tdmSt p).state = 3) &&
      decide (((s.at_ t).tdmSt p).since + min (s.at_ t).ramp 48 * sec / 48000 ≤ (s.at_ t).up)) = true := by
    rw [Bool.and_eq_true, decide_eq_true_eq, decide_eq_true_eq]
    exact ⟨h, hdue⟩
  change execTdmMutingEnd t p s = _
  exact (released_of_awake hs t _).trans (congrArg Host.Outcome.next (if_pos hguard))

/-- 10 Table 10.6: RUNNING to MUTING. -/
theorem tdmSyncLoss_goes (h : s.PortIn p 2 (s.at_ t)) {cause : Fin 3} : TdmGoes s p (.tdmSyncLoss t p cause) 3 :=
  have hlost := h.bump (if cause.val = 2 then R.TDM_SLIPS p else R.TDM_FRAME_ERR p) 1
  hlost.tdmMute.goes (State.tdmMute_shows hlost) (exec_tdmSyncLoss_of_run hs h.state)

/-- 10 Table 10.6: MUTING to WAIT_SYNC. -/
theorem tdmMutingEnd_goes (h : s.PortIn p 3 (s.at_ t)) (hdue : (s.tdmSt p).since + min s.ramp 48 * sec / 48000 ≤ (s.at_ t).up) :
    TdmGoes s p (.tdmMutingEnd t p) 1 := by
  have hlogged := (State.Leaves.refl (faults := false) ((s.at_ t).portTakes p 1)).event 32 1 0x0301 (beBytes 1 p)
  have hshows := (hlogged.get _ (State.tdmState_outside p)).trans (State.portTakes_shows h.canonical (by decide))
  exact ((h.portTakes 1).event ..).goes hshows (exec_tdmMutingEnd_of_due hs h.state hdue)

end

/-! ### The reset of the engine -/

section
variable {s : State} {t : Time}

theorem exec_audReset (hs : s.inService = true) : exec (.audReset t) s = .next (s.at_ t).audDown := by
  change execAudReset t s = _
  exact served_of_inService hs t _

theorem exec_audReload (hs : s.inService = true) : exec (.audReload t) s = .next (s.at_ t).audUp := by
  change execAudReload t s = _
  exact served_of_inService hs t _

theorem State.inService_of_awake (hs : s.awake = true) (hserves : s.serving = true) : s.inService = true := by
  simp only [State.awake, Bool.and_eq_true] at hs
  rw [State.inService, hs.1, hserves, Bool.and_self]

namespace State

/-- The engine goes to its reset: its registers take their reset values, its ports are OFF and it stops (10 R406). -/
def audCleared (s : State) : State :=
  { (List.range 8).foldl (fun s p => { s with aud.tdm := drop p s.aud.tdm }) ((s.beginReset 32).clearWindow 32) with aud.on := false }

/-- 10 R406: an engine that is not in its reset yet is cleared, and F2 is raised. -/
theorem audDown_of_up (h : s.has (rstNow 32) = false) :
    s.audDown = s.audCleared.raise 32 2 0x0300 tagAudReset [] { typ := 3, master := 0x40 + 32 } := by
  unfold audDown
  rw [if_neg (Bool.eq_false_iff.mp h)]
  rfl

theorem audCleared_regs : s.audCleared.regs = ((s.beginReset 32).clearWindow 32).regs :=
  List.foldlRecOn (motive := fun u : State => u.regs = ((s.beginReset 32).clearWindow 32).regs) (List.range 8)
    (fun s p => { s with aud.tdm := drop p s.aud.tdm }) rfl fun _ hu _ _ => hu

theorem audCleared_has (hc : canonical s.regs = true) (h : s.has (rstNow 32) = false) : s.audCleared.has (rstNow 32) = true := by
  have hbegun : (s.beginReset 32).get (rstNow 32) = 1 := by
    unfold beginReset
    rw [if_neg (Bool.eq_false_iff.mp h)]
    refine (get_bump_word (by decide) 1).trans (get_set_same ?_ (rstNow 32) (by decide) (by decide) 1)
    exact hc
  exact decide_eq_true ((get_of_regs audCleared_regs _).trans ((get_clearWindow (by decide)).trans hbegun))

/-- 10 R406: the reset stops the engine, and shows in RST.NOW and in the fault word. -/
theorem audDown_stops (hc : canonical s.regs = true) (h : s.has (rstNow 32) = false) :
    s.audDown.aud.on = false ∧ s.audDown.has (rstNow 32) = true ∧ s.audDown.has (fltBit 32) = true := by
  have hcleared : canonical s.audCleared.regs = true := by
    rw [audCleared_regs]
    exact (Keeps.refl s).beginReset.clearWindow.regs_ok hc
  have hleaves := (Leaves.refl s.audCleared).raise (isl := 32) (cls := 2) (by decide) (by decide) 0x0300 tagAudReset []
    { typ := 3, master := 0x40 + 32 } (15, 4)
  rw [audDown_of_up h]
  refine ⟨?_, ?_, raise_fltBit hcleared (by decide) (by decide) ..⟩
  · rw [aud_engine, raise_engine (by decide)]
    rfl
  · exact decide_eq_true ((hleaves.get _ rstNow_outside).trans (of_decide_eq_true (audCleared_has hc h)))

end State

end

/-- Settles O37: each command of Table 10.6 writes the entry of its own port alone, last of what it does to the ports. -/
theorem tdmStateTable : Obligations.TdmStateTable := by
  unfold Obligations.TdmStateTable
  intro t p s hs hformed u goes
  have hport {x : Nat} (h : (s.tdmSt p).state = x) : s.PortIn p x (s.at_ t) := h ▸ .of_formed hformed t p
  refine ⟨fun ins h => ?wait, fun ins n h hn => ?bad, fun ins h => ?good, fun cause h => tdmSyncLoss_goes hs (hport h),
    fun cause => exec_tdmSyncLoss_of_still hs, fun h => tdmMutingEnd_goes hs (hport h), fun hserves => ?served,
    State.audDown_stops (s := s.at_ t) (State.formed_iff.mp hformed).1⟩
  case wait => exact ((hport h).frameEnded_of_wait rfl).goes_edge hs (by decide) (by omega)
  case bad => exact ((hport h).frameEnded_of_bad hn).goes_edge hs (by decide) (by omega)
  case good => exact ((hport h).frameEnded_of_good rfl).goes_edge hs (by decide) (by omega)
  case served =>
    have hin := State.inService_of_awake hs hserves
    exact ⟨exec_audReset hin, exec_audReload hin⟩

end Sys2Proof.Machine

/-! ## Frames of heads, and the frames that windows take

The windows and the heads (11) are written by the multiviewer's own operations alone, and HEAD FRAMES by the composition of a frame. One relation says
so for each operation that a frame's way reaches; what a command shows afterwards is then what it wrote itself. -/

namespace Sys2Proof.Machine

/-! ### What leaves the multiviewer -/

/-- A field of another word than every HEAD FRAMES (11 Table 11.11): at another offset in an island's window, or beyond the port clusters. -/
def Fld.offFrames (f : Fld) : Bool := (f.off < 0x100000 && f.off ≠ 0x38008) || 16 ≤ f.isl

/-- The windows and heads of a state, and the HEAD FRAMES of its clusters. -/
structure State.ViewerIs (s : State) (m : Mv) (φ : Fin 16 → Nat) : Prop where
  viewer : s.mv = m
  frames : ∀ k : Fin 16, s.get (R.HD_FRAMES k) = φ k

section
variable {s : State} {m : Mv} {φ : Fin 16 → Nat} {f : Fld} {α : Type}

theorem Fld.offFrames_iff : f.offFrames = true ↔ f.off < 0x100000 ∧ f.off ≠ 0x38008 ∨ 16 ≤ f.isl := by
  simp [offFrames]

theorem Fld.framesWord_ne (hf : f.offFrames = true) (k : Fin 16) : (R.HD_FRAMES k).addr ≠ f.addr := by
  rw [offFrames_iff] at hf
  simp only [addr, R.HD_FRAMES]
  omega

/-- The block of a window (11 Table 11.13). -/
theorem winField_offFrames {h k base hi lo : Nat} (hk : k < 64) (hbase : 0x39000 ≤ base ∧ base < 0x39010 := by decide) :
    Fld.offFrames ⟨h, base + 0x10 * k, hi, lo⟩ = true := by
  rw [Fld.offFrames_iff]
  dsimp only
  omega

/-- The registers of an island beyond the port clusters. -/
theorem offFrames_of_isl {isl off hi lo : Nat} (h : 16 ≤ isl := by decide) : Fld.offFrames ⟨isl, off, hi, lo⟩ = true :=
  Fld.offFrames_iff.mpr (.inr h)

namespace State

theorem ViewerIs.refl (s : State) : s.ViewerIs s.mv fun k => s.get (R.HD_FRAMES k) := ⟨rfl, fun _ => rfl⟩

/-- A record update that leaves the register file and the multiviewer. -/
theorem ViewerIs.record {now up free pending wide out boot flt sicp xp sdi dbl bob dram aud probe eth ip whl keys spn skn rtc}
    (h : s.ViewerIs m φ) :
    ViewerIs ⟨now, up, free, pending, s.regs, wide, out, boot, flt, sicp, xp, sdi, dbl, bob, dram, aud, s.mv, probe, eth, ip, whl, keys, spn, skn,
      rtc⟩ m φ :=
  ⟨h.viewer, h.frames⟩

theorem ViewerIs.setWins (h : s.ViewerIs m φ) (l : List (Nat × Win)) : ViewerIs { s with mv.wins := l } { m with wins := l } φ :=
  ⟨by rw [← h.viewer], h.frames⟩

theorem ViewerIs.setHead (h : s.ViewerIs m φ) (n : Nat) (x : Head) : (s.setHead n x).ViewerIs { m with heads := put n x m.heads } φ :=
  ⟨by rw [← h.viewer]; rfl, h.frames⟩

theorem ViewerIs.ite {u : State} {c : Prop} [Decidable c] (hs : s.ViewerIs m φ) (hu : u.ViewerIs m φ) : (if c then s else u).ViewerIs m φ := by
  split <;> assumption

theorem ViewerIs.foldl {op : State → α → State} (h : s.ViewerIs m φ) (l : List α)
    (hop : ∀ (u : State) x, x ∈ l → u.ViewerIs m φ → (op u x).ViewerIs m φ) : (l.foldl op s).ViewerIs m φ :=
  List.foldlRecOn (motive := (·.ViewerIs m φ)) l op h fun u hu x hx => hop u x hx hu

/-! ### Registers, and what is sent -/

theorem ViewerIs.set {v : Nat} (h : s.ViewerIs m φ) (hf : f.offFrames = true := by rfl) : (s.set f v).ViewerIs m φ :=
  ⟨h.viewer, fun k => (get_set_word (Fld.framesWord_ne hf k) v).trans (h.frames k)⟩

theorem ViewerIs.bump {n : Nat} (h : s.ViewerIs m φ) (hf : f.offFrames = true := by rfl) : (s.bump f n).ViewerIs m φ := h.ite (h.set hf)

theorem ViewerIs.peak {v : Nat} (h : s.ViewerIs m φ) (hf : f.offFrames = true := by rfl) : (s.peak f v).ViewerIs m φ := .ite (h.set hf) h

theorem ViewerIs.bump64 {n : Nat} (h : s.ViewerIs m φ) : (s.bump64 f n).ViewerIs m φ := h.ite (.record h)

theorem ViewerIs.emit {o : Out} (h : s.ViewerIs m φ) : (s.emit o).ViewerIs m φ := .record h

/-! ### Events and errors -/

theorem ViewerIs.logRec {e : Event} (h : s.ViewerIs m φ) : (s.logRec e).ViewerIs m φ := .record (h.bump (f := R.LOG_DROPPED))

theorem ViewerIs.publish {e : Event} (h : s.ViewerIs m φ) : (s.publish e).ViewerIs m φ := .record (h.bump (f := R.SCP_EV_DROPPED))

theorem ViewerIs.dblData {n : Nat} {o : Out} (h : s.ViewerIs m φ) : (s.dblData n o).ViewerIs m φ := .emit (.record h)

theorem ViewerIs.logOne {isl cls code : Nat} {detail : List Byte} {extra : Nat} (h : s.ViewerIs m φ) :
    (s.logOne isl cls code detail extra).ViewerIs m φ := by
  have hseq : (s.nextSeq isl).2.ViewerIs m φ := .record h
  have hpublished (c : Prop) [Decidable c] (e : Event) :
      ((if c then (s.nextSeq isl).2 else (s.nextSeq isl).2.logRec e).publish e).ViewerIs m φ := .publish (.ite hseq hseq.logRec)
  unfold State.logOne
  refine .ite (.dblData ?_) ?_ <;> exact hpublished ..

theorem ViewerIs.event {isl cls code : Nat} {detail : List Byte} (h : s.ViewerIs m φ) : (s.event isl cls code detail).ViewerIs m φ := by
  have hgap (d : List Byte) : ViewerIs { s.logOne isl 1 0x0005 d 0 with flt.dropped := drop isl s.flt.dropped } m φ := .record h.logOne
  unfold State.event
  exact .logOne (.ite h (hgap _))

theorem ViewerIs.islandError {cls : Nat} (h : s.ViewerIs m φ) : (s.islandError f cls).ViewerIs m φ := by
  have hlogged {rate logged} : ViewerIs { s with flt.rate := rate, flt.logged := logged } m φ := .record h
  unfold State.islandError
  exact .ite hlogged.event (.record h)

/-- An error of class F1 sets its bit and is logged (20 R705). -/
theorem ViewerIs.err {a : Acc} {lasts : Bool} {stop : Nat × Nat} (h : s.ViewerIs m φ) (hf : f.offFrames = true := by rfl) :
    (s.err f 1 a lasts stop).ViewerIs m φ := by
  unfold State.err
  rw [react_of_lt (by decide)]
  exact (h.set hf).islandError

/-! ### Cells -/

section
variable {k : ConnKey} {frame n : Nat}

theorem ViewerIs.countCells {from_ : Nat} (h : s.ViewerIs m φ) : (s.countCells from_ n).ViewerIs m φ := h.foldl _ fun _ _ _ hu => hu.bump64

theorem ViewerIs.beClear {c : Nat} (h : s.ViewerIs m φ) : (s.beClear c).ViewerIs m φ :=
  have hgone {beFly be} : ViewerIs { s with xp.beFly := beFly, xp.be := be } m φ := .record h
  h.ite hgone.bump

theorem ViewerIs.overload {q : Nat} {e : Option Nat} (h : s.ViewerIs m φ) : (s.overload q e n).2.ViewerIs m φ := by
  have hqueue {voq} : ViewerIs { s with xp.voq := voq } m φ := .record h
  unfold State.overload
  cases e with
  | none => exact hqueue
  | some c => exact .bump (.ite hqueue.peak.beClear hqueue.peak)

theorem ViewerIs.markLost {isl : Nat} {idx : List Nat} (h : s.ViewerIs m φ) : (s.markLost isl k frame n idx).ViewerIs m φ :=
  .ite (.record h) (.record h)

theorem ViewerIs.freePeak {bound : Nat} (h : s.ViewerIs m φ) (hf : f.offFrames = true := by rfl) : (s.freePeak f bound).ViewerIs m φ :=
  have hfresh : s.fresh.2.ViewerIs m φ := .record h
  hfresh.peak hf

theorem ViewerIs.queuePeaks (h : s.ViewerIs m φ) : (s.queuePeaks k).ViewerIs m φ := by
  have htiles (l : List Nat) : (l.foldl (fun (s : State) n => s.freePeak (R.XT_QPEAK n) 251) s).ViewerIs m φ :=
    h.foldl _ fun _ _ _ hu => hu.freePeak
  unfold State.queuePeaks
  refine .foldl ?_ _ fun _ _ _ hu => hu.freePeak
  split
  · exact (htiles _).freePeak
  · exact htiles _

theorem ViewerIs.sendCells (h : s.ViewerIs m φ) : (s.sendCells k frame n).ViewerIs m φ := by
  unfold State.sendCells
  split
  next => exact h
  next num c _ =>
    have hentry : (match k.entry with
        | some e => if s.pressed e then s.overload e k.entry n else (0, s)
        | none => (0, s)).2.ViewerIs m φ := by
      split
      · split
        · exact h.overload
        · exact h
      · exact h
    refine .ite h (.countCells (.queuePeaks (.record (.foldl (.ite hentry ?entry) _ fun _ _ _ hu => ?target))))
    case entry => exact hentry.foldl _ fun _ _ _ hu => hu.markLost
    case target => exact .ite (.ite hu.overload hu.overload.markLost) hu

theorem ViewerIs.meter {cells spread : Nat} (h : s.ViewerIs m φ) : (s.meter k cells spread).2.ViewerIs m φ := by
  unfold State.meter
  split
  · exact h
  · exact .record h

theorem ViewerIs.enterCells {c cells spread : Nat} (h : s.ViewerIs m φ) : (s.enterCells k c frame cells spread).ViewerIs m φ :=
  .sendCells (.ite h.meter (h.meter.bump.foldl _ fun _ _ _ hu => hu.markLost))

theorem ViewerIs.lostCells (h : s.ViewerIs m φ) : (s.lostCells n).ViewerIs m φ := .ite h h.bump.err

theorem ViewerIs.rowsMoved {write : Bool} {bytes : Nat} (h : s.ViewerIs m φ) : (s.rowsMoved write bytes).ViewerIs m φ :=
  have hfresh : s.fresh.2.ViewerIs m φ := .record h
  .record hfresh

end

/-! ### Frames of sources -/

section
variable {src : Nat}

theorem ViewerIs.probeOne {v : List Byte} {ys : List Nat} (h : s.ViewerIs m φ) : (s.probeOne v ys).ViewerIs m φ := by
  have hprobe {vp} : ViewerIs { s with probe.vp := vp } m φ := .record h
  have hshown {vp k black freeze motion} : ViewerIs ((({ s with probe.vp := vp } : State).set (R.VPROBE_BLACK k) black
      |>.set (R.VPROBE_FREEZE k) freeze).set (R.VPROBE_MOTION k) motion) m φ :=
    ((hprobe.set offFrames_of_isl).set offFrames_of_isl).set offFrames_of_isl
  exact .ite hshown hshown.event

theorem ViewerIs.measure {dest : Bool} {ys : List Nat} (h : s.ViewerIs m φ) : (s.measure dest src ys).ViewerIs m φ :=
  h.ite (h.foldl _ fun _ _ _ hu => .ite hu.probeOne hu)

theorem ViewerIs.countFrame {x : SrcFrame} (h : s.ViewerIs m φ) : (s.countFrame src x).ViewerIs m φ :=
  .foldl (.record h) _ fun _ _ _ hu => .record hu

theorem ViewerIs.joinFrame {n a same x first pic anc} (h : s.ViewerIs m φ) : (s.joinFrame src n a same x first pic anc).ViewerIs m φ := by
  unfold State.joinFrame
  extract_lets xp u
  have hu : u.ViewerIs m φ := by
    simp only [u]
    split <;> exact .record h
  split
  · exact hu.countFrame
  · exact hu

theorem ViewerIs.ringStore {r : Ring} {sl : Slot} (h : s.ViewerIs m φ) : (s.ringStore src r sl).ViewerIs m φ :=
  have hring {r} : (s.setRing src r).ViewerIs m φ := .record h
  h.ite hring.rowsMoved

theorem ViewerIs.ringWrite {measured : Nat} {sl : Nat → Slot} (h : s.ViewerIs m φ) : (s.ringWrite src measured sl).ViewerIs m φ := by
  fun_cases State.ringWrite
  case case1 => exact h
  case case2 => exact (h.bump offFrames_of_isl).err
  case case3 => exact h.ringStore
  case case4 => exact h

theorem ViewerIs.freePic {format : Nat} (h : s.ViewerIs m φ) : (s.freePic format).2.ViewerIs m φ := .record h

/-! ### Frames that leave by Strands -/

theorem ViewerIs.sendMedia {p : Nat} {x : FarFrame} (h : s.ViewerIs m φ) : (s.sendMedia p x).ViewerIs m φ :=
  have hsent {y z} : ((s.setStrand p y).setStrand p z).ViewerIs m φ := .record (.record h)
  hsent.emit

theorem ViewerIs.strandSend {p : Nat} {lv : Level} {rate : Nat} (h : s.ViewerIs m φ) : (s.strandSend p src lv rate).ViewerIs m φ := by
  have hsent {sent} : ViewerIs { s with skn.sent := sent } m φ := .record h
  fun_cases State.strandSend
  case case1 => exact h
  case case2 => exact h
  case case3 => exact hsent.sendMedia

theorem ViewerIs.strandSends (h : s.ViewerIs m φ) : s.strandSends.ViewerIs m φ := h.foldl _ fun _ _ _ hu => hu.strandSend

end

/-! ### Windows and heads -/

section
variable {h win : Nat} {w : Win}

/-- 11 R423: NO_SIGNAL is written at its window alone. -/
theorem ViewerIs.winSignal {no : Bool} (hs : s.ViewerIs m φ) :
    (s.winSignal win w no).ViewerIs { m with wins := put win { w with noSignal := no } m.wins } φ := by
  obtain rfl := hs.viewer
  have hput := hs.setWins (put win { w with noSignal := no } s.mv.wins)
  exact .ite hput hput.event

/-- 11 R422: a selection writes the windows alone. -/
theorem ViewerIs.winSelect {a : Time} (hs : s.ViewerIs m φ) : ∃ l, (s.winSelect win w a).ViewerIs { m with wins := l } φ := by
  have hk : win % 64 < 64 := Nat.mod_lt _ (by decide)
  cases hpick : s.winPick w.buf a with
  | none =>
    simp only [State.winSelect, hpick]
    exact ⟨_, hs.winSignal⟩
  | some f =>
    cases hshown : w.shown with
    | none =>
      simp only [State.winSelect, hpick, hshown]
      exact ⟨_, hs.winSignal⟩
    | some p =>
      simp only [State.winSelect, hpick, hshown]
      split
      · exact ⟨_, (hs.bump (winField_offFrames hk)).winSignal⟩
      · exact ⟨_, (hs.bump (winField_offFrames hk)).winSignal⟩

theorem ViewerIs.winFrame {a : Time} (hs : s.ViewerIs m φ) : ∃ l, (s.winFrame win w a).ViewerIs { m with wins := l } φ := by
  fun_cases State.winFrame
  case case1 => exact ⟨_, hs.setWins _⟩
  case case2 => exact ⟨_, hs⟩
  all_goals exact hs.winSelect

theorem ViewerIs.winRead {n : Nat} (hs : s.ViewerIs m φ) : (s.winRead win n w).ViewerIs m φ := hs.rowsMoved.sendCells.lostCells

theorem ViewerIs.headReads {n : Nat} (hs : s.ViewerIs m φ) : (s.headReads h n).ViewerIs m φ :=
  .foldl (hs.foldl _ fun _ _ _ hu => hu.winRead) _ fun _ _ _ hu => hu.rowsMoved

theorem ViewerIs.winShow (hs : s.ViewerIs m φ) : (s.winShow h).ViewerIs m φ := by
  refine hs.foldl _ fun u k hk hu => ?_
  have hfld {base hi lo : Nat} (hbase : 0x39000 ≤ base ∧ base < 0x39010 := by decide) :
      Fld.offFrames ⟨h, base + 0x10 * k, hi, lo⟩ = true := winField_offFrames (List.mem_range.mp hk) hbase
  split <;> exact ((((((hu.set hfld).set hfld).set hfld).set hfld).set hfld).set hfld).set hfld

theorem ViewerIs.headShow (hs : s.ViewerIs m φ) : (s.headShow h).ViewerIs m φ := hs.set.set.set.set.set.set.set.set.set.set.set

theorem ViewerIs.enginesShow (hs : s.ViewerIs m φ) : s.enginesShow.ViewerIs m φ := hs.set

theorem ViewerIs.headEmit {a : Time} (hs : s.ViewerIs m φ) : (s.headEmit h a).ViewerIs m φ := by
  unfold State.headEmit
  split
  · exact hs
  · exact hs.enterCells.joinFrame.ringWrite.measure

end

/-! ### A frame of a head -/

theorem head_setHead_same (s : State) (h : Nat) (x : Head) : (s.setHead h x).head h = x := by
  simp [head, State.setHead, lookD]

theorem head_of_mv {u : State} (h : u.mv = s.mv) (n : Nat) : u.head n = s.head n := by
  rw [head, head, h]

/-- What frame `n` of a head shows is fixed: its windows' selections, its order and its safety layer (11 Table 11.2). -/
def headFixed (s : State) (h n : Nat) : State :=
  let a := alignPoint (s.headRate h) n
  let x := s.head h
  let s := s.mv.wins.foldl (fun s w => if w.1 / 64 = h then s.winFrame w.1 w.2 a else s) s
  let s := match x.orderPend with
    | some (o, at_) => if at_ ≤ a then s.setHead h { x with order := o, orderPend := none } else s
    | none => s
  s.setHead h { s.head h with safety := s.evacHead h && s.hasSafety h && s.evacAt a, lastFrame := some n }

/-- The picture of a frame that is fixed is composed (11 R426). -/
def headPictured (s : State) (h n : Nat) : State :=
  let s := (s.meterFrame h).headReads h n
  let lost := s.mv.wins.any (fun w => w.1 / 64 = h && s.winMarked w.1 w.2 ≠ 0)
  let spoilt := (List.range (s.planes h)).any (fun p => let b := s.banks (256 + 2 * h + p); b.spoilt.contains b.shown)
  let (pic, s) := if lost || spoilt || (look (64 + h) s.flt.hurt).isSome then { s with flt.hurt := drop (64 + h) s.flt.hurt }.freePic (s.headFormat h)
    else (s.composed h, s)
  s.setHead h { s.head h with pic := pic }

/-- A frame that is composed is counted, shown and sent (11 R411). -/
def headSent (s : State) (h : Nat) (a : Time) : State :=
  ((((s.bump (R.HD_FRAMES h) 1).winShow h).headShow h).enginesShow.headEmit h a).strandSends

/-- Frame `n` of a head is composed. -/
def headComposes (s : State) (h n : Nat) : State := ((s.headFixed h n).headPictured h n).headSent h (alignPoint (s.headRate h) n)

/-- A head does not compose frame `n`: it is OFF or IDLE, begins later, has composed the frame, or its cluster is in reset (11 R409, R411). -/
def headRests (s : State) (h n : Nat) : Bool :=
  (s.headSrc h).isNone || !(s.head h).on || alignPoint (s.headRate h) n < (s.head h).from_ || (s.head h).lastFrame.any (n ≤ ·) || s.has (rstNow h)

section
variable {h n : Nat}

theorem ViewerIs.headFixed (hs : s.ViewerIs m φ) : ∃ m', (s.headFixed h n).ViewerIs m' φ := by
  have hwins (a : Time) : ∃ l, (s.mv.wins.foldl (fun (u : State) w => if w.1 / 64 = h then u.winFrame w.1 w.2 a else u) s).ViewerIs
      { m with wins := l } φ := by
    refine List.foldlRecOn (motive := fun u : State => ∃ l, u.ViewerIs { m with wins := l } φ) _ _ ⟨_, hs⟩ fun u ⟨l, hu⟩ w _ => ?_
    split
    · exact hu.winFrame
    · exact ⟨l, hu⟩
  obtain ⟨l, hl⟩ := hwins (alignPoint (s.headRate h) n)
  unfold State.headFixed
  extract_lets a x u v
  have hv : ∃ m', v.ViewerIs m' φ := by
    simp only [v]
    split
    · split
      · exact ⟨_, hl.setHead ..⟩
      · exact ⟨_, hl⟩
    · exact ⟨_, hl⟩
  obtain ⟨_, hv⟩ := hv
  exact ⟨_, hv.setHead ..⟩

theorem headFixed_last : ((s.headFixed h n).head h).lastFrame = some n := by
  unfold headFixed
  rw [head_setHead_same]

/-- 11 R430: the meters of a head take their samples, and leave the frame that it shows. -/
theorem ViewerIs.meterFrame (hs : s.ViewerIs m φ) :
    ∃ m', (s.meterFrame h).ViewerIs m' φ ∧ (lookD h m'.heads {}).lastFrame = (s.head h).lastFrame := by
  unfold State.meterFrame
  extract_lets rate fall x bars
  refine ⟨_, .record (hs.setHead h { s.head h with bars := bars }), ?_⟩
  rw [lookD, look_put_same, Option.getD_some]

/-- 11 R426: the composition of a frame leaves which frame it is. -/
theorem ViewerIs.headPictured (hs : s.ViewerIs m φ) :
    (∃ m', (s.headPictured h n).ViewerIs m' φ) ∧ ((s.headPictured h n).head h).lastFrame = (s.head h).lastFrame := by
  obtain ⟨m', hmeter, hlast⟩ := hs.meterFrame (h := h)
  unfold State.headPictured
  extract_lets u lost spoilt
  have hu : u.ViewerIs m' φ := hmeter.headReads
  split
  next pic v hv =>
    have hview : v.ViewerIs m' φ := by
      split at hv
      · obtain ⟨-, rfl⟩ := Prod.mk.inj hv
        exact .freePic (.record hu)
      · obtain ⟨-, rfl⟩ := Prod.mk.inj hv
        exact hu
    refine ⟨⟨_, hview.setHead ..⟩, ?_⟩
    rw [head_setHead_same, head, hview.viewer]
    exact hlast

/-- 11 R411: what counts, shows and sends a frame leaves the multiviewer but for the count. -/
theorem ViewerIs.headSent {a : Time} (hs : (s.bump (R.HD_FRAMES h) 1).ViewerIs m φ) : (s.headSent h a).ViewerIs m φ :=
  hs.winShow.headShow.enginesShow.headEmit.strandSends

theorem headFixed_keeps (s : State) (h n : Nat) : Keeps s (s.headFixed h n) := by
  unfold State.headFixed
  dsimp only
  (repeat' split) <;> simp only [↓via Keeps.setHead, ↓via Keeps.winFrame, ↓via Keeps.ite, ↓via Keeps.foldl, Keeps.refl, true_or, and_true,
    implies_true]

theorem headPictured_keeps (s : State) (h n : Nat) : Keeps s (s.headPictured h n) := by
  unfold State.headPictured
  dsimp only
  (repeat' split) <;> simp only [↓via Keeps.setHead, ↓via Keeps.freePic, ↓via Keeps.meterFrame, ↓via Keeps.headReads, ↓keeps_record,
    Keeps.refl, true_or, and_true]

end

theorem bump_mv {n : Nat} : (s.bump f n).mv = s.mv := by
  unfold bump
  split <;> rfl

/-- HEAD FRAMES of the other heads stand in words of their own. -/
theorem framesWord_injective {k h : Fin 16} (hne : k ≠ h) : (R.HD_FRAMES k).addr ≠ (R.HD_FRAMES h).addr := by
  have := Fin.val_ne_of_ne hne
  simp only [Fld.addr, R.HD_FRAMES]
  omega

/-- 11 R409, R411: a frame of a head is composed and counted once. -/
theorem headComposes_counts (hc : canonical s.regs = true) (h : Fin 16) (n : Nat) :
    ((s.headComposes h n).head h).lastFrame = some n ∧
      (s.headComposes h n).get (R.HD_FRAMES h) = (s.get (R.HD_FRAMES h) + 1) % 2 ^ 32 ∧
      ∀ k : Fin 16, k ≠ h → (s.headComposes h n).get (R.HD_FRAMES k) = s.get (R.HD_FRAMES k) := by
  unfold headComposes
  obtain ⟨_, hfixed⟩ := (ViewerIs.refl s).headFixed (h := h) (n := n)
  obtain ⟨⟨_, hpic⟩, hlast⟩ := hfixed.headPictured (h := h) (n := n)
  have hcanon := (headPictured_keeps (s.headFixed h n) h n).regs_ok ((headFixed_keeps s h n).regs_ok hc)
  have hsent := (ViewerIs.refl (((s.headFixed h n).headPictured h n).bump (R.HD_FRAMES h) 1)).headSent (a := alignPoint (s.headRate h) n)
  refine ⟨?_, ?_, fun k hk => ?_⟩
  · rw [head_of_mv (hsent.viewer.trans bump_mv), hlast, headFixed_last]
  · rw [hsent.frames, ← hpic.frames h]
    exact get_bump_counter hcanon ..
  · rw [hsent.frames, ← hpic.frames k]
    exact get_bump_word (framesWord_injective hk) 1

end State

end

/-! ### The commands -/

section
variable {s : State} {t m : Time} {h : Fin 16} {win : Fin 1024} {w : Win} {crc : Nat} (hs : s.awake = true)
include hs

theorem exec_headFrameSelect :
    exec (.headFrameSelect t h) s = .next (if s.headRests h (frameAt (s.headRate h) (t + 100000)) then s.at_ t
      else (s.at_ t).headComposes h (frameAt (s.headRate h) (t + 100000))) := by
  change execHeadFrameSelect t h s = _
  exact released_of_awake hs t _

/-- 11 R411, R422: a frame of a head that is on, composed for the first time. -/
theorem exec_headFrameSelect_of_due {n : Nat} (hn : frameAt (s.headRate h) (t + 100000) = n) (hsrc : (s.headSrc h).isSome = true)
    (hon : (s.head h).on = true) (hfrom : (s.head h).from_ ≤ alignPoint (s.headRate h) n) (hnew : (s.head h).lastFrame.any (n ≤ ·) = false)
    (hup : s.has (rstNow h) = false) : exec (.headFrameSelect t h) s = .next ((s.at_ t).headComposes h n) := by
  subst hn
  refine (exec_headFrameSelect hs).trans (congrArg Host.Outcome.next (if_neg ?_))
  rw [State.headRests, hon, hnew, hup, decide_eq_false (not_lt.mpr hfrom), Option.isNone_eq_false_iff.mpr hsrc]
  exact Bool.false_ne_true

/-- 11 R411: a frame is not composed again. -/
theorem exec_headFrameSelect_of_done (hold : (s.head h).lastFrame.any (frameAt (s.headRate h) (t + 100000) ≤ ·) = true) :
    exec (.headFrameSelect t h) s = .next (s.at_ t) := by
  refine (exec_headFrameSelect hs).trans (congrArg Host.Outcome.next (if_pos ?_))
  rw [State.headRests, hold, Bool.or_true, Bool.true_or]

/-- 11 R420: an engine writes into the buffer of its window from the first frame on. -/
theorem exec_windowEngineWrite_of_shown (hw : look win.val s.mv.wins = some w) (hchange : w.change = none) (hfrom : w.from_ ≤ t)
    (hwrites : s.winWrites w.buf = true) :
    exec (.windowEngineWrite t win m crc) s =
      .next (({ s.at_ t with mv.wins := put win.val { w with buf := w.buf.write w.shown m crc } (s.at_ t).mv.wins } : State).winWritten win
        w.buf) := by
  change execWindowEngineWrite t win m crc s = _
  refine (released_of_awake hs t _).trans (congrArg Host.Outcome.next ?_)
  have hguard : (decide (w.from_ ≤ (s.at_ t).now) && (s.at_ t).winWrites w.buf) = true := by
    rw [Bool.and_eq_true, decide_eq_true_eq]
    exact ⟨hfrom, hwrites⟩
  rw [show look win.val (s.at_ t).mv.wins = some w from hw]
  dsimp only
  rw [hchange]
  exact if_pos hguard

/-- 11 R419: the engine of a change writes into the new buffer from its instant on. -/
theorem exec_windowEngineWrite_of_change {b : WinBuf} {g : Nat × Nat × Nat} {at_ : Time} {k : Nat} (hw : look win.val s.mv.wins = some w)
    (hchange : w.change = some (b, g, at_, k)) (hat : at_ ≤ t) (hwrites : s.winWrites b = true) :
    exec (.windowEngineWrite t win m crc) s =
      .next (({ s.at_ t with mv.wins := put win.val { w with change := some (b.write none m crc, g, at_, k) } (s.at_ t).mv.wins } :
        State).winWritten win b) := by
  change execWindowEngineWrite t win m crc s = _
  refine (released_of_awake hs t _).trans (congrArg Host.Outcome.next ?_)
  rw [show look win.val (s.at_ t).mv.wins = some w from hw]
  dsimp only
  rw [hchange]
  exact (if_pos hat).trans (if_pos hwrites)

theorem exec_windowEngineWrite_of_none (hw : look win.val s.mv.wins = none) : exec (.windowEngineWrite t win m crc) s = .next (s.at_ t) := by
  change execWindowEngineWrite t win m crc s = _
  refine (released_of_awake hs t _).trans (congrArg Host.Outcome.next ?_)
  rw [show look win.val (s.at_ t).mv.wins = none from hw]

/-- 11 R423: what the end of HOLD does to a window. -/
theorem exec_winHoldExpiry_of_some (hw : look win.val s.mv.wins = some w) :
    exec (.winHoldExpiry t win) s =
      .next (if s.winHold (win.val / 64) ≤ w.gap && !w.noSignal then (s.at_ t).winSignal win w true else s.at_ t) := by
  change execWinHoldExpiry t win s = _
  refine (released_of_awake hs t _).trans (congrArg Host.Outcome.next ?_)
  rw [show look win.val (s.at_ t).mv.wins = some w from hw]
  rfl

/-- 11 R423: NO_SIGNAL after HOLD frames without a new one. -/
theorem winHoldExpiry_signals (hw : look win.val s.mv.wins = some w) (hdue : s.winHold (win.val / 64) ≤ w.gap) (hoff : w.noSignal = false) :
    ∃ s', exec (.winHoldExpiry t win) s = .next s' ∧ look win.val s'.mv.wins = some { w with noSignal := true } ∧
      ∀ k : Fin 1024, k ≠ win → look k.val s'.mv.wins = look k.val s.mv.wins := by
  have hview := (State.ViewerIs.refl (s.at_ t)).winSignal (win := win) (w := w) (no := true)
  refine ⟨_, (exec_winHoldExpiry_of_some hs hw).trans (congrArg Host.Outcome.next (if_pos ?_)), ?_, fun k hk => ?_⟩
  · rw [hoff, decide_eq_true hdue]
    rfl
  · rw [hview.viewer]
    exact look_put_same ..
  · rw [hview.viewer]
    exact look_put_other (Fin.val_ne_of_ne hk) ..

/-- 11 R423: a window below HOLD stays as it is. -/
theorem exec_winHoldExpiry_of_early (hw : look win.val s.mv.wins = some w) (hearly : w.gap < s.winHold (win.val / 64)) :
    exec (.winHoldExpiry t win) s = .next (s.at_ t) := by
  refine (exec_winHoldExpiry_of_some hs hw).trans (congrArg Host.Outcome.next (if_neg ?_))
  rw [decide_eq_false (not_le.mpr hearly)]
  exact Bool.false_ne_true

end

/-- Settles O38: each command acts by its guard alone, and beside what it writes itself nothing on a frame's way reaches the multiviewer. -/
theorem headsComposeFrames : Obligations.HeadsComposeFrames := by
  unfold Obligations.HeadsComposeFrames
  intro t h win s hs hformed u n
  refine ⟨fun hsrc hon hfrom hnew hup => ?composed, exec_headFrameSelect_of_done hs, fun m crc w => exec_windowEngineWrite_of_shown hs,
    fun m crc w b g at_ k => exec_windowEngineWrite_of_change hs, fun m crc => exec_windowEngineWrite_of_none hs, fun w => winHoldExpiry_signals hs,
    fun w => exec_winHoldExpiry_of_early hs⟩
  case composed =>
    have hc : canonical (s.at_ t).regs = true := (State.formed_iff.mp hformed).1
    exact ⟨_, exec_headFrameSelect_of_due hs rfl hsrc hon hfrom hnew hup, State.headComposes_counts hc ..⟩

end Sys2Proof.Machine

/-! ## The fuses

The life cycle, its changes left and the rollback counter stand in fuses. `Keeps` speaks of all three; what is said here is that the commands which
write the memory leave them too, and what the start of service and LIFECYCLE_SET make of them. -/

namespace Sys2Proof.Machine

/-- What stands in the fuses: the life cycle, the changes left, and the rollback counter. -/
def State.fuses (s : State) : Nat × Nat × Nat := (s.keys.life, s.keys.left, s.keys.rbSteps)

section
variable {a s u s' : State} {t : Time}

theorem Keeps.fuses (h : Keeps a s) : s.fuses = a.fuses := by
  rw [State.fuses, h.life_eq, h.left_eq, h.rb_eq, State.fuses]

theorem KeepsNext.fuses {o : Host.Outcome State Fault Refusal} (h : KeepsNext u o) (hu : u.fuses = a.fuses) (e : o = .next s') : s'.fuses = a.fuses :=
  (h s' e).fuses.trans hu

theorem State.fuses_life (h : s'.fuses = s.fuses) : s'.keys.life = s.keys.life ∧ s'.keys.left = s.keys.left := by
  rw [State.fuses, State.fuses, Prod.mk.injEq, Prod.mk.injEq] at h
  exact ⟨h.1, h.2.1⟩

theorem State.fuses_memory {m : List Host.Cell} : ({ s with boot.xspi := m } : State).fuses = s.fuses := (rfl)

theorem State.fuses_served {m : Option Nat} : ({ s with boot.served := m } : State).fuses = s.fuses := (rfl)

theorem State.fuses_rbSteps (h : s'.fuses = s.fuses) : s'.keys.rbSteps = s.keys.rbSteps := congrArg (·.2.2) h

/-! ### The commands that write the memory -/

theorem execResetFall_fuses {torn report : Bool} {copy : Nat} (h : execResetFall t torn report copy s = .next s') : s'.fuses = s.fuses := by
  unfold execResetFall at h
  extract_lets u v w boot x at h
  split at h
  · exact Host.Outcome.next.inj h ▸ rfl
  · have hv : v.fuses = s.fuses := by
      unfold v
      split <;> rfl
    have hw : Keeps v w := .ite ⟨(Keeps.refl v).tornRecord, .refl v⟩
    have hx : Keeps w x := .ite ⟨.record ⟨.refl w, rfl, rfl, rfl, rfl⟩, .refl w⟩
    exact Host.Outcome.next.inj h ▸ ((hw.trans hx).fallen.fuses.trans hv)

theorem execImageCopyDone_fuses {good : Bool} {w : ImgFacts} (h : execImageCopyDone t good w s = .next s') : s'.fuses = s.fuses := by
  unfold execImageCopyDone at h
  extract_lets u old n v new boot x at h
  split at h
  · exact Host.Outcome.next.inj h ▸ rfl
  · have hx : Keeps v x := (Keeps.refl v).showImage
    refine KeepsNext.fuses (u := v) (.ite (.next hx.halt) ?_) rfl h
    split
    · exact .next hx.halt
    · exact .verify hx.zeroStage.countCopy

theorem execPowerStart_fuses {w : StartFacts} (h : execPowerStart t w s = .next s') : s'.fuses = s.fuses := by
  unfold execPowerStart at h
  extract_lets u v at h
  split at h
  · exact Host.Outcome.next.inj h ▸ rfl
  · have hv : Keeps (u.sampled w) v := (Keeps.refl _).opened
    refine KeepsNext.fuses (u := u.sampled w) (.ite (.next (Keeps.refl _).halt) ?_) rfl h
    exact .ite (.next hv.halt) (.ite (.next hv.set.halt) (.ite (.next hv.set.halt) (.decideCopy hv)))

theorem execStageWrite_fuses {q : Req} {good : Bool} {plain : List Byte} (h : execStageWrite t q good plain s = .next s') : s'.fuses = s.fuses := by
  refine served_next (R := fun a s => s.fuses = a.fuses) (fun s => rfl) (fun s => State.request_of (fun u hu => hu.fuses) fun u x hu => ?_) h
  split
  case h_1 => exact hu.badState.fuses
  case h_2 g _ =>
    extract_lets d n past boot v
    have hv : v.fuses = s.fuses := (State.fuses_memory (s := u)).trans hu.fuses
    split
    · exact hu.badState.fuses
    split
    · exact hu.badValue.fuses
    split
    · exact (Keeps.refl v).badImage.fuses.trans hv
    split
    · exact (Keeps.refl v).badImage.fuses.trans hv
    · have hw : Keeps v { v with boot.staging := some { g with bytes := g.bytes ++ d, lastWrite := v.up } } :=
        .record ⟨.refl v, rfl, rfl, rfl, rfl⟩
      exact hw.stageShow.ok.fuses.trans hv

/-! ### The start of service and the change of the life cycle -/

theorem State.rollback_fuses : s.rollback.fuses =
    (s.keys.life, s.keys.left, if bit s.boot.flags 1 && s.keys.rbSteps < s.boot.secver then s.boot.secver else s.keys.rbSteps) := by
  unfold State.rollback
  split
  · exact (Keeps.refl { s with keys.rbSteps := s.boot.secver }).event.fuses
  · rfl

/-- What the start of service does (18 R679). -/
def State.entersService (s : State) : State :=
  ((({ s with boot.served := some s.up } : State).rollback.status 8 0).report 0).copyEvents.pulseShow.roleFromOff

theorem State.entersService_fuses : s.entersService.fuses =
    (s.keys.life, s.keys.left, if bit s.boot.flags 1 && s.keys.rbSteps < s.boot.secver then s.boot.secver else s.keys.rbSteps) := by
  have hk := Keeps.roleFromOff (Keeps.pulseShow (Keeps.copyEvents (Keeps.report (Keeps.status
    (Keeps.refl ({ s with boot.served := some s.up } : State).rollback) (code := 8) (detail := 0)) (offset := 0))))
  exact hk.fuses.trans State.rollback_fuses

theorem execChipServes_cases (h : execChipServes t s = .next s') : s' = s.at_ t ∨ s' = (s.at_ t).entersService := by
  refine live_next (R := fun a s => s = a ∨ s = a.entersService) (fun s => .inl rfl) (fun s => ?_) h
  split
  · exact .inl rfl
  · exact .inr rfl

theorem execChipServes_fuses (h : execChipServes t s = .next s') :
    s'.keys.life = s.keys.life ∧ s'.keys.left = s.keys.left ∧ s.keys.rbSteps ≤ s'.keys.rbSteps := by
  obtain hsame | hserves := execChipServes_cases h
  · rw [hsame]
    exact ⟨rfl, rfl, le_rfl⟩
  · have hfuses := State.entersService_fuses (s := s.at_ t)
    rw [State.fuses, Prod.mk.injEq, Prod.mk.injEq] at hfuses
    obtain ⟨hlife, hleft, hrb⟩ := hfuses
    rw [hserves]
    refine ⟨hlife, hleft, le_of_le_of_eq ?_ hrb.symm⟩
    split
    next hhigher => exact (of_decide_eq_true (Bool.and_eq_true_iff.mp hhigher).2).le
    next => exact le_rfl

/-- The life cycle stands as it did, or a change of Table 17.6 was made and a record spent for it; the rollback counter stands as it did. -/
def LifeMoves (a s : State) : Prop :=
  s.keys.rbSteps = a.keys.rbSteps ∧ ((s.keys.life = a.keys.life ∧ s.keys.left = a.keys.left) ∨
    (lifeChange a.keys.life s.keys.life = true ∧ s.keys.left + 1 = a.keys.left))

theorem Keeps.lifeMoves (h : Keeps a s) : LifeMoves a s := ⟨h.rb_eq, .inl ⟨h.life_eq, h.left_eq⟩⟩

/-- The body of LIFECYCLE_SET on an accepted request (17 R633). -/
theorem lifecycleSet_moves {n : Nat} (hu : Keeps s u) (hrow : lifeChange u.keys.life n = true) (hleft : u.keys.left ≠ 0)
    (h : Keeps { u.lifeEffects n with keys.life := n, keys.left := (u.lifeEffects n).keys.left - 1 } s') : LifeMoves s s' := by
  have hv : Keeps s (u.lifeEffects n) := hu.lifeEffects
  have hspent : s'.keys.left = (u.lifeEffects n).keys.left - 1 := h.left_eq
  refine ⟨h.rb_eq.trans hv.rb_eq, .inr ⟨?_, ?_⟩⟩
  · rw [h.life_eq, ← hu.life_eq]
    exact hrow
  · rw [hspent, hv.left_eq, ← hu.left_eq]
    omega

theorem execLifecycleSet_moves {q : Req} (h : execLifecycleSet t q s = .next s') : LifeMoves s s' := by
  refine served_next (R := LifeMoves) (fun s => (Keeps.refl s).lifeMoves)
    (fun s => State.request_of (P := LifeMoves s) (fun u hu => hu.lifeMoves) fun u x hu => ?_) h
  extract_lets n v keys w y
  split
  · exact hu.busy.lifeMoves
  split
  · exact hu.badState.lifeMoves
  next hchange =>
  split
  · exact hu.badState.lifeMoves
  simp only [Bool.or_eq_true, Bool.not_eq_true', decide_eq_true_eq, not_or, Bool.not_eq_false] at hchange
  obtain ⟨⟨hrow, hleft⟩, -⟩ := hchange
  have hy : Keeps w y := (Keeps.refl w).ok
  split
  · exact lifecycleSet_moves hu hrow hleft hy.raise
  · exact lifecycleSet_moves hu hrow hleft hy.consumers

/-- Every command but LIFECYCLE_SET and the start of service keeps the three fuses. -/
theorem exec_fuses {c : Instr} (h : exec c s = .next s') (hlife : ∀ q, c ≠ .lifecycleSet c.time q) (hserves : c ≠ .chipServes c.time) :
    s'.fuses = s.fuses := by
  cases c
  case powerStart => exact execPowerStart_fuses h
  case resetFall => exact execResetFall_fuses h
  case imageCopyDone t good w => exact execImageCopyDone_fuses (t := t) (good := good) (w := w) h
  case stageWrite => exact execStageWrite_fuses h
  case lifecycleSet => exact (hlife _ rfl).elim
  case chipServes => exact (hserves rfl).elim
  all_goals exact KeepsNext.fuses (exec_keeps rfl) rfl h

end

/-- Settles O5: of the two commands that write fuses, LIFECYCLE_SET moves along Table 17.6 and the start of service only raises the counter. -/
theorem fusesMoveForward : Obligations.FusesMoveForward := by
  unfold Obligations.FusesMoveForward
  refine ⟨fun c s s' h => ?life, fun c s s' h => ?rollback⟩
  case life =>
    by_cases hlife : ∃ q, c = .lifecycleSet c.time q
    · obtain ⟨q, hq⟩ := hlife
      rw [hq] at h
      obtain ⟨-, hsame | ⟨hrow, hspent⟩⟩ := execLifecycleSet_moves h
      · exact .inl hsame
      · exact .inr ⟨hrow, hspent, q, hq⟩
    · by_cases hserves : c = .chipServes c.time
      · rw [hserves] at h
        obtain ⟨hkept, hleft, -⟩ := execChipServes_fuses h
        exact .inl ⟨hkept, hleft⟩
      · exact .inl (State.fuses_life (exec_fuses h (not_exists.mp hlife) hserves))
  case rollback =>
    by_cases hserves : c = .chipServes c.time
    · rw [hserves] at h
      obtain ⟨-, -, hrises⟩ := execChipServes_fuses h
      exact ⟨hrises, .inr hserves⟩
    · have hkept : s'.keys.rbSteps = s.keys.rbSteps := by
        by_cases hlife : ∃ q, c = .lifecycleSet c.time q
        · obtain ⟨q, hq⟩ := hlife
          rw [hq] at h
          exact (execLifecycleSet_moves h).1
        · exact State.fuses_rbSteps (exec_fuses h (not_exists.mp hlife) hserves)
      exact ⟨hkept.ge, .inl hkept⟩

end Sys2Proof.Machine

/-! ## Fields that stay, and fields that are set

A command writes many fields, and of these a statement speaks of a few. For a set `W` of fields, `s.Reads W φ` says that the register file of `s` has
its one form and that `φ` gives the values of the fields of `W`. A write beside `W` keeps `φ`; a write of a field of `W` updates it there. -/

namespace Sys2Proof.Machine

/-- A register file of the one form, with the values of the fields of `W`. -/
structure State.Reads (s : State) (W : Fld → Prop) (φ : Fld → Nat) : Prop where
  canonical : canonical s.regs = true
  shows : ∀ g, W g → s.get g = φ g

section
variable {a s u : State} {α : Type} {W V : Fld → Prop} {φ : Fld → Nat} {f g : Fld} {v n : Nat}

/-- Fields of different words, or of different bits of one. -/
theorem Fld.Apart.of_bits (hg : g.lo ≤ g.hi) (hf : f.lo ≤ f.hi) (hhi : f.hi < 32) (h : g.addr = f.addr → f.hi < g.lo ∨ g.hi < f.lo) : g.Apart f :=
  fun haddr => ⟨hg, hf, hhi, h haddr⟩

namespace State

theorem Reads.of_canonical (hc : Machine.canonical s.regs = true) (W : Fld → Prop) : s.Reads W s.get := ⟨hc, fun _ _ => rfl⟩

theorem Reads.of_formed (h : s.formed = true) (t : Time) (W : Fld → Prop) : (s.at_ t).Reads W s.get := ⟨(formed_iff.mp h).1, fun _ _ => rfl⟩

theorem Reads.of_regs (h : s.Reads W φ) (hu : u.regs = s.regs) : u.Reads W φ :=
  ⟨hu ▸ h.canonical, fun g hg => (get_of_regs hu g).trans (h.shows g hg)⟩

/-- A record update that leaves the register file. -/
theorem Reads.record {now up free pending wide out boot flt sicp xp sdi dbl bob dram aud mv probe eth ip whl keys spn skn rtc} (h : s.Reads W φ) :
    Reads ⟨now, up, free, pending, s.regs, wide, out, boot, flt, sicp, xp, sdi, dbl, bob, dram, aud, mv, probe, eth, ip, whl, keys, spn, skn,
      rtc⟩ W φ :=
  ⟨h.canonical, h.shows⟩

theorem Reads.mono (h : s.Reads W φ) (hV : ∀ g, V g → W g) : s.Reads V φ := ⟨h.canonical, fun g hg => h.shows g (hV g hg)⟩

theorem Reads.congr {ψ : Fld → Nat} (h : s.Reads W φ) (hψ : ∀ g, W g → φ g = ψ g) : s.Reads W ψ :=
  ⟨h.canonical, fun g hg => (h.shows g hg).trans (hψ g hg)⟩

theorem Reads.ite {c : Prop} [Decidable c] (hs : s.Reads W φ) (hu : u.Reads W φ) : (if c then s else u).Reads W φ := by
  split <;> assumption

theorem Reads.foldl {op : State → α → State} (h : s.Reads W φ) {l : List α} (hop : ∀ (u : State), ∀ x ∈ l, u.Reads W φ → (op u x).Reads W φ) :
    (l.foldl op s).Reads W φ :=
  List.foldlRecOn (motive := (·.Reads W φ)) l op h fun u hu x hx => hop u x hx hu

theorem Reads.set_beside (h : s.Reads W φ) (hf : ∀ g, W g → g.Apart f) : (s.set f v).Reads W φ :=
  ⟨(Keeps.refl s).set.regs_ok h.canonical, fun g hg => (get_set_apart h.canonical (hf g hg) v).trans (h.shows g hg)⟩

theorem Reads.bump_beside (h : s.Reads W φ) (hf : ∀ g, W g → g.Apart f) : (s.bump f n).Reads W φ := h.ite (h.set_beside hf)

theorem Reads.peak_beside (h : s.Reads W φ) (hf : ∀ g, W g → g.Apart f) : (s.peak f v).Reads W φ := .ite (h.set_beside hf) h

/-- A field of `W` that is set reads what it was set to; the others, which share no bit with it, stay. -/
theorem Reads.set_here (h : s.Reads W φ) (hlo : f.lo ≤ f.hi) (hhi : f.hi < 32) (hW : ∀ g, W g → g ≠ f → g.Apart f) (hv : v < 2 ^ f.width) :
    (s.set f v).Reads W (Function.update φ f v) := by
  refine ⟨(Keeps.refl s).set.regs_ok h.canonical, fun g hg => ?_⟩
  obtain rfl | hne := eq_or_ne g f
  · rw [Function.update_self, get_set_same h.canonical g hlo hhi, Nat.mod_eq_of_lt hv]
  · rw [Function.update_of_ne hne, get_set_apart h.canonical (hW g hg hne), h.shows g hg]

theorem Reads.bump_here (h : s.Reads W φ) (hlo : f.lo ≤ f.hi) (hhi : f.hi < 32) (hW : ∀ g, W g → g ≠ f → g.Apart f) (hf : W f) :
    (s.bump f n).Reads W (Function.update φ f ((φ f + n) % 2 ^ f.width)) := by
  refine ⟨bump_canonical h.canonical, fun g hg => ?_⟩
  obtain rfl | hne := eq_or_ne g f
  · rw [Function.update_self, get_bump_same h.canonical hlo hhi, h.shows g hg]
  · have hstays : (s.bump f n).get g = s.get g := by
      unfold State.bump
      split
      · rfl
      · exact get_set_apart h.canonical (hW g hg hne) _
    rw [Function.update_of_ne hne, hstays, h.shows g hg]

/-- Events and faults below class F3 keep what stands outside the fault collector. -/
theorem Reads.of_leaves {faults : Bool} (h : s.Reads W φ) (hk : Keeps s u) (hl : Leaves faults s u) (hW : ∀ g, W g → g.outside faults = true) :
    u.Reads W φ :=
  ⟨hk.regs_ok h.canonical, fun g hg => (hl.get g (hW g hg)).trans (h.shows g hg)⟩

theorem Reads.event {isl cls code : Nat} {detail : List Byte} (h : s.Reads W φ) (hW : ∀ g, W g → g.outside false = true) :
    (s.event isl cls code detail).Reads W φ :=
  h.of_leaves (Keeps.refl s).event ((Leaves.refl s).event ..) hW

/-- A fault below class F3, which has no reaction. -/
theorem Reads.raise {isl cls code tag : Nat} {detail : List Byte} {acc : Acc} {stop : Nat × Nat} (h : s.Reads W φ) (hisl : isl < 40) (hcls : cls < 3)
    (hW : ∀ g, W g → g.outside true = true) : (s.raise isl cls code tag detail acc stop).Reads W φ :=
  h.of_leaves (Keeps.refl s).raise ((Leaves.refl s).raise hisl hcls ..) hW

end State

end

end Sys2Proof.Machine

/-! ## The states of the Whorl, and its references

The states of Table 12.2, the qualification of the references, and which reference is selected. -/

namespace Sys2Proof.Machine

/-! ### Fields of the Whorl -/

/-- CUR and PREV of WHL.STATE, STEPS, and QUALIFIED and DISQUAL of the references (12 Tables 12.16, 12.17). -/
def Fld.ofWhorl (f : Fld) : Prop :=
  f.isl = 33 ∧ (f.off = 0 ∧ f.hi = 2 ∧ f.lo = 0 ∨ f.off = 0 ∧ f.hi = 10 ∧ f.lo = 8 ∨ f.off = 0x28 ∧ f.hi = 31 ∧ f.lo = 16 ∨
    (0x100 ≤ f.off ∧ f.off < 0x1C0 ∧ (f.off % 0x20 = 0 ∧ f.hi = 2 ∧ f.lo = 2 ∨ f.off % 0x20 = 0xC ∧ f.hi = 31 ∧ f.lo = 0)))

/-- A field of the Whorl's window that shares no bit with those of `ofWhorl`. -/
def Fld.besideWhorl (f : Fld) : Bool :=
  f.isl = 33 && f.lo ≤ f.hi && f.hi < 32 && f.off < 0x100000 && ((f.off = 0 && 17 ≤ f.lo) || (0 < f.off && f.off < 0x28) || (f.off = 0x28 && f.hi < 16) ||
    (0x28 < f.off && f.off < 0x100) || 0x1C0 ≤ f.off ||
    (0x100 ≤ f.off && f.off < 0x1C0 && ((f.off % 0x20 = 0 && (f.hi < 2 || 2 < f.lo)) || f.off % 0x20 = 4 || f.off % 0x20 = 8 || f.off % 0x20 = 0x10)))

/-- A field of a pulse output (12 Table 12.19). -/
def Fld.ofOutputs (f : Fld) : Prop := f.isl = 33 ∧ f.lo ≤ f.hi ∧ f.hi < 32 ∧ 0x300 ≤ f.off ∧ f.off < 0x400

section
variable {s u : State} {φ : Fld → Nat} {f g : Fld} {r k n v : Nat}

theorem Fld.besideWhorl_iff : f.besideWhorl = true ↔ f.isl = 33 ∧ f.lo ≤ f.hi ∧ f.hi < 32 ∧ f.off < 0x100000 ∧
    (f.off = 0 ∧ 17 ≤ f.lo ∨ 0 < f.off ∧ f.off < 0x28 ∨ f.off = 0x28 ∧ f.hi < 16 ∨ 0x28 < f.off ∧ f.off < 0x100 ∨ 0x1C0 ≤ f.off ∨
      0x100 ≤ f.off ∧ f.off < 0x1C0 ∧
        (f.off % 0x20 = 0 ∧ (f.hi < 2 ∨ 2 < f.lo) ∨ f.off % 0x20 = 4 ∨ f.off % 0x20 = 8 ∨ f.off % 0x20 = 0x10)) := by
  simp only [besideWhorl, Bool.and_eq_true, Bool.or_eq_true, decide_eq_true_eq, and_assoc, or_assoc]

theorem Fld.ofWhorl_apart (hg : g.ofWhorl) (hf : f.besideWhorl = true) : g.Apart f := by
  rw [besideWhorl_iff] at hf
  unfold ofWhorl at hg
  unfold Apart addr
  omega

theorem Fld.ofWhorl_apart_of_ne (hg : g.ofWhorl) (hf : f.ofWhorl) (hne : g ≠ f) : g.Apart f := by
  have hdiffers : ¬(g.isl = f.isl ∧ g.off = f.off ∧ g.hi = f.hi ∧ g.lo = f.lo) := by
    cases g
    cases f
    simpa only [ne_eq, Fld.mk.injEq] using hne
  unfold ofWhorl at hg hf
  unfold Apart addr
  omega

theorem Fld.ofWhorl_outside (hg : g.ofWhorl) {faults : Bool} : g.outside faults = true := by
  rw [outside_iff]
  unfold ofWhorl at hg
  omega

/-- A field of a reference beside its QUALIFIED and DISQUAL. -/
theorem refField_beside {off hi lo : Nat} (hr : r < 6) (hlo : lo ≤ hi := by decide) (hhi : hi < 32 := by decide)
    (hoff : off = 0 ∧ (hi < 2 ∨ 2 < lo) ∨ off = 4 ∨ off = 8 ∨ off = 0x10 := by decide) :
    Fld.besideWhorl ⟨33, 0x100 + off + 0x20 * r, hi, lo⟩ = true := by
  rw [Fld.besideWhorl_iff]
  dsimp only
  omega

theorem outField_ofOutputs {off hi lo : Nat} (hk : k < 9) (hlo : lo ≤ hi := by decide) (hhi : hi < 32 := by decide)
    (hoff : off < 0x10 := by decide) : Fld.ofOutputs ⟨33, 0x300 + off + 0x10 * k, hi, lo⟩ := by
  unfold Fld.ofOutputs
  dsimp only
  omega

theorem refQualified_ofWhorl (hr : r < 6) : (R.REF_QUALIFIED r).ofWhorl := by
  unfold Fld.ofWhorl R.REF_QUALIFIED
  dsimp only
  omega

theorem refDisqual_ofWhorl (hr : r < 6) : (R.REF_DISQUAL r).ofWhorl := by
  unfold Fld.ofWhorl R.REF_DISQUAL
  dsimp only
  omega

theorem whlCur_ofWhorl : R.WHL_STATE_CUR.ofWhorl := ⟨rfl, .inl ⟨rfl, rfl, rfl⟩⟩

theorem whlPrev_ofWhorl : R.WHL_STATE_PREV.ofWhorl := ⟨rfl, .inr (.inl ⟨rfl, rfl, rfl⟩)⟩

theorem whlSteps_ofWhorl : R.WHL_STEPS.ofWhorl := ⟨rfl, .inr (.inr (.inl ⟨rfl, rfl, rfl⟩))⟩

theorem whlCur_ne_prev : R.WHL_STATE_CUR ≠ R.WHL_STATE_PREV := by decide

theorem whlCur_ne_qualified : R.WHL_STATE_CUR ≠ R.REF_QUALIFIED r := by
  simp only [R.WHL_STATE_CUR, R.REF_QUALIFIED, ne_eq, Fld.mk.injEq]
  omega

theorem whlPrev_ne_qualified : R.WHL_STATE_PREV ≠ R.REF_QUALIFIED r := by
  simp only [R.WHL_STATE_PREV, R.REF_QUALIFIED, ne_eq, Fld.mk.injEq]
  omega

theorem whlCur_ne_disqual : R.WHL_STATE_CUR ≠ R.REF_DISQUAL r := by
  simp only [R.WHL_STATE_CUR, R.REF_DISQUAL, ne_eq, Fld.mk.injEq]
  omega

theorem whlPrev_ne_disqual : R.WHL_STATE_PREV ≠ R.REF_DISQUAL r := by
  simp only [R.WHL_STATE_PREV, R.REF_DISQUAL, ne_eq, Fld.mk.injEq]
  omega

theorem refQualified_ne_disqual : R.REF_QUALIFIED k ≠ R.REF_DISQUAL r := by
  simp only [R.REF_QUALIFIED, R.REF_DISQUAL, ne_eq, Fld.mk.injEq]
  omega

theorem refQualified_injective {i j : Nat} (h : R.REF_QUALIFIED i = R.REF_QUALIFIED j) : i = j := by
  simp only [R.REF_QUALIFIED, Fld.mk.injEq] at h
  omega

namespace State

theorem Reads.bumpWhl_beside (h : s.Reads Fld.ofWhorl φ) (f : Fld) (n : Nat) (hf : f.besideWhorl = true := by decide) :
    (s.bump f n).Reads Fld.ofWhorl φ :=
  h.bump_beside fun _ hg => Fld.ofWhorl_apart hg hf

theorem Reads.eventWhl {isl cls code : Nat} {detail : List Byte} (h : s.Reads Fld.ofWhorl φ) : (s.event isl cls code detail).Reads Fld.ofWhorl φ :=
  h.event fun _ hg => Fld.ofWhorl_outside hg

theorem Reads.raiseWhl {code tag : Nat} {detail : List Byte} {acc : Acc} (h : s.Reads Fld.ofWhorl φ) :
    (s.raise 33 2 code tag detail acc).Reads Fld.ofWhorl φ :=
  h.raise (by decide) (by decide) fun _ hg => Fld.ofWhorl_outside hg

/-! ### What the registers of the Whorl show -/

/-- What the registers of the Whorl show writes beside the fields of `W`. -/
def SparesWhorl (W : Fld → Prop) : Prop := ∀ g f : Fld, W g → f.besideWhorl = true → g.Apart f

/-- The pulse outputs show their fields beside those of `W`. -/
def SparesOutputs (W : Fld → Prop) : Prop := ∀ (g : Fld) {f : Fld}, W g → f.ofOutputs → g.Apart f

theorem SparesWhorl.outputs {W : Fld → Prop} (hW : SparesWhorl W) : SparesOutputs W := by
  refine fun g f hg hf => hW g f hg ?_
  rw [Fld.besideWhorl_iff]
  unfold Fld.ofOutputs at hf
  omega

theorem sparesWhorl_ofWhorl : SparesWhorl Fld.ofWhorl := fun _ _ hg hf => Fld.ofWhorl_apart hg hf

/-- A field of another island's window is beside everything that the Whorl shows. -/
theorem sparesWhorl_of_island {W : Fld → Prop} (hW : ∀ g, W g → g.isl ≠ 33 ∧ g.off < 0x100000) : SparesWhorl W := by
  intro g f hg hf
  obtain ⟨hisl, hoff⟩ := hW g hg
  rw [Fld.besideWhorl_iff] at hf
  unfold Fld.Apart Fld.addr
  omega

section
variable {W : Fld → Prop} (hW : SparesWhorl W)
include hW

theorem Reads.set_spared (h : s.Reads W φ) (f : Fld) (v : Nat) (hf : f.besideWhorl = true := by decide) : (s.set f v).Reads W φ :=
  h.set_beside fun g hg => hW g f hg hf

theorem Reads.bump_spared (h : s.Reads W φ) (f : Fld) (n : Nat) (hf : f.besideWhorl = true := by decide) : (s.bump f n).Reads W φ :=
  h.bump_beside fun g hg => hW g f hg hf

theorem Reads.whlShow_of (h : s.Reads W φ) : s.whlShow.Reads W φ := by
  unfold State.whlShow
  refine Reads.foldl ?_ fun u r hr hu => ?_
  · exact ((((((h.set_spared hW R.WHL_STATE_REF _).set_spared hW R.WHL_STATE_HELD _).set_spared hW R.WHL_STATE_FORCED _).set_spared hW
      R.WHL_STATE_REALIGN_PEND _).set_spared hW R.WHL_NCO_W _).set_spared hW R.WHL_PHASE _).set_spared hW R.WHL_HELD_LO _
  · have hr : r < 6 := List.mem_range.mp hr
    exact (((hu.set_spared hW (R.REF_SELECTED r) _ (refField_beside (off := 0) hr)).set_spared hW (R.REF_ENABLED r) _
      (refField_beside (off := 0) hr)).set_spared hW (R.REF_PHASE r) _ (refField_beside (off := 4) hr)).set_spared hW (R.REF_FREQ r) _
        (refField_beside (off := 8) hr)

theorem Reads.utcShow_of (h : s.Reads W φ) : s.utcShow.Reads W φ :=
  (((h.set_spared hW R.WHL_UTC_VALID _).set_spared hW R.WHL_UTC_OFFSET _).set_spared hW R.WHL_UTC_LEAP59 _).set_spared hW R.WHL_UTC_LEAP61 _

end

section
variable {W : Fld → Prop} (hW : SparesOutputs W)
include hW

theorem Reads.foldPulse_of {t : Time} (h : s.Reads W φ) (hk : k < 9) : (s.foldPulse k t).Reads W φ := by
  unfold State.foldPulse
  split
  · exact .record (h.bump_beside fun g hg => hW g hg (outField_ofOutputs (off := 4) hk))
  · exact h

theorem Reads.pulseShow_of (h : s.Reads W φ) : s.pulseShow.Reads W φ := by
  unfold State.pulseShow
  refine Reads.foldl h fun u k hk hu => ?_
  have hk : k < 9 := List.mem_range.mp hk
  extract_lets q v from_
  have hv : v.Reads W φ := (hu.set_beside fun g hg => hW g hg (outField_ofOutputs (off := 0) hk)).set_beside fun g hg =>
    hW g hg (outField_ofOutputs (off := 0) hk)
  exact .ite (.record (hv.foldPulse_of hW hk)) (.ite hv (.record hv))

theorem Reads.pulseStop_of (h : s.Reads W φ) : s.pulseStop.Reads W φ :=
  .record (Reads.foldl h fun _ _ hk hu => hu.foldPulse_of hW (List.mem_range.mp hk))

end

theorem Reads.whlShow (h : s.Reads Fld.ofWhorl φ) : s.whlShow.Reads Fld.ofWhorl φ := h.whlShow_of sparesWhorl_ofWhorl

theorem Reads.utcShow (h : s.Reads Fld.ofWhorl φ) : s.utcShow.Reads Fld.ofWhorl φ := h.utcShow_of sparesWhorl_ofWhorl

theorem Reads.pulseShow (h : s.Reads Fld.ofWhorl φ) : s.pulseShow.Reads Fld.ofWhorl φ := h.pulseShow_of sparesWhorl_ofWhorl.outputs

/-! ### A change of the state -/

theorem Reads.set_whl (h : s.Reads Fld.ofWhorl φ) (hf : f.ofWhorl) (hv : v < 2 ^ f.width) :
    (s.set f v).Reads Fld.ofWhorl (Function.update φ f v) := by
  have hbits : f.lo ≤ f.hi ∧ f.hi < 32 := by
    unfold Fld.ofWhorl at hf
    omega
  exact h.set_here hbits.1 hbits.2 (fun _ hg hne => Fld.ofWhorl_apart_of_ne hg hf hne) hv

theorem whlCur_lt : s.whlCur < 8 := Nat.mod_lt _ (by decide)

/-- The NCO word and the spans of a Whorl that leaves the state `old` for `new` (12 R459, R460). -/
def whlLeaves (s : State) (old new : Nat) (mean : Int) : State :=
  let s := if old = 2 then { s with whl.holdSince := s.up, whl.w := if new = 3 then mean else s.whl.w } else s
  let s := { s with whl.lockFrom := none, whl.outFrom := none }
  let s := if old = 1 && (new = 3 || new = 4) then { s with whl.w := mean } else s
  if new = 0 then { s with whl.w := s.freePpt } else s

/-- The lock that a Whorl enters LOCKED with (12 R459). -/
def whlLocked (s : State) : State := { s with whl.everLocked := true, whl.lockedAt := s.up, whl.hist := [(s.up, s.whl.w)] }

/-- The events of the states, and the fault of LOST (12 Table 12.3). -/
def whlEnters (s : State) (new : Nat) : State :=
  if new = 2 then s.whlLocked.event 33 1 0x0401 (beBytes 1 (s.whlLocked.whl.selected.getD 15))
  else if new = 3 then s.event 33 1 0x0402 []
  else if new = 4 then s.raise 33 2 0x0403 1 []
  else s

/-- The conditions of LOST and of a Whorl without reference end. -/
def whlResolves (s : State) (old : Nat) : State := if old = 4 then s.resolve 33 1 else if old = 0 then s.resolve 33 2 else s

theorem setWhl_of_ne {new : Nat} (hother : s.whlCur ≠ new) : s.setWhl new =
    (((((s.set R.WHL_STATE_PREV s.whlCur).set R.WHL_STATE_CUR new).whlLeaves s.whlCur new s.holdMean).whlEnters new).whlResolves
      s.whlCur).whlShow.pulseShow :=
  if_neg hother

theorem setWhl_of_eq {new : Nat} (hsame : s.whlCur = new) : s.setWhl new = s := if_pos hsame

theorem whlLeaves_regs {old new : Nat} {mean : Int} : (s.whlLeaves old new mean).regs = s.regs := by
  unfold whlLeaves
  split_ifs <;> rfl

theorem Reads.whlEnters {new : Nat} (h : s.Reads Fld.ofWhorl φ) : (s.whlEnters new).Reads Fld.ofWhorl φ :=
  .ite (eventWhl (.record h)) (.ite h.eventWhl (.ite h.raiseWhl h))

theorem Reads.whlResolves {W : Fld → Prop} {old : Nat} (h : s.Reads W φ) : (s.whlResolves old).Reads W φ :=
  .ite (.record h) (.ite (.record h) h)

/-- 12 R460: a Whorl that takes another state shows it in CUR and the one it left in PREV. -/
theorem Reads.setWhl {new : Nat} (h : s.Reads Fld.ofWhorl φ) (hother : s.whlCur ≠ new) (hnew : new < 8) :
    (s.setWhl new).Reads Fld.ofWhorl (Function.update (Function.update φ R.WHL_STATE_PREV s.whlCur) R.WHL_STATE_CUR new) := by
  have hshown := (h.set_whl whlPrev_ofWhorl (whlCur_lt (s := s))).set_whl whlCur_ofWhorl hnew
  rw [setWhl_of_ne hother]
  exact (hshown.of_regs whlLeaves_regs).whlEnters.whlResolves.whlShow.pulseShow

/-! ### A change of the selected reference -/

/-- The reference that steers the Whorl, the step of time that is pending, and since when the Whorl has been within its limits and outside them (12
R453, R460, R477), by a name of their own for the reason that `State.tiles` has one. -/
def steering (s : State) : Option Nat × Option (Time × Int × Bool) × Option Nat × Option Nat :=
  (s.whl.selected, s.whl.step, s.whl.lockFrom, s.whl.outFrom)

theorem steering_eta : (s.whl.selected, s.whl.step, s.whl.lockFrom, s.whl.outFrom) = s.steering := (rfl)

theorem steering_mk {now up free pending regs wide out boot flt sicp xp sdi dbl bob dram aud mv probe eth ip whl keys spn skn rtc} :
    State.steering ⟨now, up, free, pending, regs, wide, out, boot, flt, sicp, xp, sdi, dbl, bob, dram, aud, mv, probe, eth, ip, whl, keys, spn, skn,
      rtc⟩ = (whl.selected, whl.step, whl.lockFrom, whl.outFrom) := (rfl)

theorem ite_steering {x y : State} {c : Prop} [Decidable c] : (if c then x else y).steering = if c then x.steering else y.steering :=
  apply_ite State.steering ..

theorem ite_steering_same {x y : State} {c : Prop} [Decidable c] (h : x.steering = y.steering) : (if c then x else y).steering = y.steering := by
  split <;> [exact h; rfl]

theorem foldl_steering {α : Type} {op : State → α → State} {l : List α} (h : ∀ s x, (op s x).steering = s.steering) :
    (l.foldl op s).steering = s.steering :=
  List.foldlRecOn (motive := fun u : State => u.steering = s.steering) l op rfl fun u hu x _ => (h u x).trans hu

theorem steering_of_works (h : u.works = s.works) : u.steering = s.steering := by
  rw [steering, steering, whl_of_works h]

theorem set_steering : (s.set f v).steering = s.steering := (rfl)

theorem bump_steering : (s.bump f n).steering = s.steering := steering_of_works bump_works

theorem resolve_steering {isl tag : Nat} : (s.resolve isl tag).steering = s.steering := (rfl)

theorem event_steering {isl cls code : Nat} {detail : List Byte} : (s.event isl cls code detail).steering = s.steering :=
  steering_of_works ((Leaves.refl (faults := true) s).event ..).works

theorem raise_steering {code tag : Nat} {detail : List Byte} {acc : Acc} {stop : Nat × Nat} :
    (s.raise 33 2 code tag detail acc stop).steering = s.steering :=
  steering_of_works ((Leaves.refl s).raise (by decide) (by decide) ..).works

theorem foldPulse_steering {t : Time} : (s.foldPulse k t).steering = s.steering := by
  unfold foldPulse
  split
  next => simp only [↓steering_mk, steering_eta, bump_steering]
  next => rfl

theorem pulseShow_steering : s.pulseShow.steering = s.steering := by
  simp only [pulseShow, ↓foldl_steering, ↓ite_steering, ↓steering_mk, steering_eta, ↓foldPulse_steering, ↓set_steering, ite_self, implies_true]

theorem whlShow_steering : s.whlShow.steering = s.steering := by
  simp only [whlShow, ↓foldl_steering, ↓set_steering, implies_true]

theorem utcShow_steering : s.utcShow.steering = s.steering := by
  simp only [utcShow, ↓set_steering]

theorem utcTake_steering : s.utcTake.steering = s.steering := by
  fun_cases utcTake <;> rfl

theorem whlLeaves_steering {old new : Nat} {mean : Int} : (s.whlLeaves old new mean).steering = (s.whl.selected, s.whl.step, none, none) := by
  unfold whlLeaves
  split_ifs <;> rfl

theorem whlEnters_steering {new : Nat} : (s.whlEnters new).steering = s.steering := by
  simp only [whlEnters, ↓ite_steering, ↓event_steering, ↓raise_steering, whlLocked, ↓steering_mk, steering_eta, ite_self]

theorem whlResolves_steering {old : Nat} : (s.whlResolves old).steering = s.steering := by
  simp only [whlResolves, ↓ite_steering, ↓resolve_steering, ite_self]

/-- 12 R460: another state begins its spans in lock and out of lock anew. -/
theorem setWhl_steering {new : Nat} (hother : s.whlCur ≠ new) : (s.setWhl new).steering = (s.whl.selected, s.whl.step, none, none) := by
  rw [setWhl_of_ne hother, pulseShow_steering, whlShow_steering, whlResolves_steering, whlEnters_steering, whlLeaves_steering]
  rfl

theorem setWhl_selected {new : Nat} : (s.setWhl new).whl.selected = s.whl.selected := by
  by_cases hsame : s.whlCur = new
  · rw [setWhl_of_eq hsame]
  · exact congrArg (·.1) (setWhl_steering hsame)

/-- 12 R453: the selected reference changes, is counted and logged, and brings its UTC facts. -/
def toRef (s : State) (r : Option Nat) : State :=
  ((({ s with whl.selected := r } : State).bump R.WHL_SWITCHES 1).event 33 1 0x0400
    (beBytes 1 (s.whl.selected.getD 15) ++ beBytes 1 (r.getD 15))).utcTake

theorem utcTake_regs : s.utcTake.regs = s.regs := by
  fun_cases utcTake <;> rfl

theorem Reads.toRef {r : Option Nat} (h : s.Reads Fld.ofWhorl φ) : (s.toRef r).Reads Fld.ofWhorl φ :=
  .of_regs (eventWhl (bumpWhl_beside (.record h) R.WHL_SWITCHES 1)) utcTake_regs

theorem toRef_selected {r : Option Nat} : (s.toRef r).whl.selected = r := by
  have h : (s.toRef r).steering = (r, s.whl.step, s.whl.lockFrom, s.whl.outFrom) := by
    simp only [toRef, ↓utcTake_steering, ↓event_steering, ↓bump_steering, ↓steering_mk]
  exact congrArg (·.1) h

theorem switchRef_of_same {r : Option Nat} (hsame : s.whl.selected = r) : s.switchRef r = s := if_pos hsame

theorem switchRef_none (hne : s.whl.selected ≠ none) : s.switchRef none = (s.toRef none).whlNone.whlShow := if_neg hne

theorem switchRef_some {r : Nat} (hne : s.whl.selected ≠ some r) : s.switchRef (some r) = (s.toRef (some r)).whlNew.whlShow := if_neg hne

theorem whlShow_selected : s.whlShow.whl.selected = s.whl.selected := congrArg (·.1) whlShow_steering

theorem whlNone_selected : s.whlNone.whl.selected = s.whl.selected := by
  unfold whlNone
  split_ifs
  · exact setWhl_selected
  · exact setWhl_selected
  · exact setWhl_selected
  · exact setWhl_selected
  · rfl

theorem whlNew_selected : s.whlNew.whl.selected = s.whl.selected := by
  unfold whlNew
  extract_lets e after
  split_ifs
  · rfl
  · exact setWhl_selected
  · exact setWhl_selected

theorem switchRef_selected {r : Option Nat} : (s.switchRef r).whl.selected = r := by
  by_cases hsame : s.whl.selected = r
  · rw [switchRef_of_same hsame, hsame]
  · cases r with
    | none => rw [switchRef_none hsame, whlShow_selected, whlNone_selected, toRef_selected]
    | some r => rw [switchRef_some hsame, whlShow_selected, whlNew_selected, toRef_selected]

/-! ### What a change of the state or of the reference keeps -/

/-- The values of `ofWhorl` but for CUR and PREV. -/
def RefsAre (s : State) (φ : Fld → Nat) : Prop := ∃ ψ, s.Reads Fld.ofWhorl ψ ∧ ∀ g : Fld, g.off ≠ 0 → ψ g = φ g

theorem Reads.refs (h : s.Reads Fld.ofWhorl φ) : s.RefsAre φ := ⟨φ, h, fun _ _ => rfl⟩

theorem RefsAre.setWhl {new : Nat} (h : s.RefsAre φ) (hnew : new < 8) : (s.setWhl new).RefsAre φ := by
  obtain ⟨ψ, hψ, hsame⟩ := h
  by_cases hother : s.whlCur = new
  · rw [setWhl_of_eq hother]
    exact ⟨ψ, hψ, hsame⟩
  · refine ⟨_, hψ.setWhl hother hnew, fun g hg => ?_⟩
    have hbeside {f : Fld} (hf : f.off = 0) : g ≠ f := fun heq => hg (heq ▸ hf)
    rw [Function.update_of_ne (hbeside rfl), Function.update_of_ne (hbeside rfl), hsame g hg]

theorem RefsAre.ite {c : Prop} [Decidable c] (hs : s.RefsAre φ) (hu : u.RefsAre φ) : (if c then s else u).RefsAre φ := by
  split <;> assumption

theorem RefsAre.of_reads (h : s.RefsAre φ) (hk : ∀ ψ, s.Reads Fld.ofWhorl ψ → u.Reads Fld.ofWhorl ψ) : u.RefsAre φ := by
  obtain ⟨ψ, hψ, hsame⟩ := h
  exact ⟨ψ, hk ψ hψ, hsame⟩

theorem RefsAre.whlNone (h : s.RefsAre φ) : s.whlNone.RefsAre φ :=
  .ite (h.setWhl (by decide)) (.ite (.ite (h.setWhl (by decide)) (.ite (h.setWhl (by decide)) (h.setWhl (by decide)))) h)

theorem RefsAre.whlNew (h : s.RefsAre φ) : s.whlNew.RefsAre φ :=
  .ite (.ite (h.of_reads fun _ hψ => .record hψ) (h.setWhl (by decide))) (h.setWhl (by decide))

theorem RefsAre.switchRef {r : Option Nat} (h : s.RefsAre φ) : (s.switchRef r).RefsAre φ := by
  by_cases hsame : s.whl.selected = r
  · rw [switchRef_of_same hsame]
    exact h
  · have hto : (s.toRef r).RefsAre φ := h.of_reads fun _ hψ => hψ.toRef
    cases r with
    | none =>
      rw [switchRef_none hsame]
      exact hto.whlNone.of_reads fun _ hψ => hψ.whlShow
    | some r =>
      rw [switchRef_some hsame]
      exact hto.whlNew.of_reads fun _ hψ => hψ.whlShow

theorem RefsAre.reselect (h : s.RefsAre φ) : s.reselect.RefsAre φ := by
  unfold State.reselect
  split
  · exact h.switchRef
  · split
    · exact .ite h h.switchRef
    · exact h.switchRef

/-! ### Qualification -/

/-- 12 R451: QUALIFIED is set, and since when. -/
def qualifyMark (s : State) (r : Nat) : State :=
  { (s.set (R.REF_QUALIFIED r) 1).seeRef r with
    whl.qualSince := put r ((s.set (R.REF_QUALIFIED r) 1).seeRef r).up ((s.set (R.REF_QUALIFIED r) 1).seeRef r).whl.qualSince }

/-- 12 R451: QUALIFIED is clear, and the loss is counted. -/
def disqualifyMark (s : State) (r : Nat) : State :=
  { (s.set (R.REF_QUALIFIED r) 0).bump (R.REF_DISQUAL r) 1 with
    whl.qualSince := drop r ((s.set (R.REF_QUALIFIED r) 0).bump (R.REF_DISQUAL r) 1).whl.qualSince }

theorem qualify_eq : s.qualify r = (s.qualifyMark r).reselect.whlShow := (rfl)

theorem disqualify_of_qualified (h : s.qualified r = true) : s.disqualify r = (s.disqualifyMark r).reselect.whlShow := if_pos h

theorem Reads.qualifyMark (h : s.Reads Fld.ofWhorl φ) (hr : r < 6) :
    (s.qualifyMark r).Reads Fld.ofWhorl (Function.update φ (R.REF_QUALIFIED r) 1) :=
  .record (s := (s.set (R.REF_QUALIFIED r) 1).seeRef r) (.record (h.set_whl (refQualified_ofWhorl hr) (show 1 < 2 ^ 1 by decide)))

theorem Reads.disqualifyMark (h : s.Reads Fld.ofWhorl φ) (hr : r < 6) : (s.disqualifyMark r).Reads Fld.ofWhorl
    (Function.update (Function.update φ (R.REF_QUALIFIED r) 0) (R.REF_DISQUAL r) ((φ (R.REF_DISQUAL r) + 1) % 2 ^ 32)) := by
  have hset := h.set_whl (refQualified_ofWhorl hr) (show 0 < 2 ^ 1 by decide)
  have hcount := hset.bump_here (n := 1) (Nat.zero_le 31) (show 31 < 32 by decide)
    (fun _ hg hne => Fld.ofWhorl_apart_of_ne hg (refDisqual_ofWhorl hr) hne) (refDisqual_ofWhorl hr)
  rw [Function.update_of_ne refQualified_ne_disqual.symm] at hcount
  exact .record hcount

/-- The reference that is first among those qualified. -/
theorem firstRef_of_only (hmem : r ∈ s.prioList) (hq : s.qualified r = true) (hothers : ∀ k ∈ s.prioList, k ≠ r → s.qualified k = false) :
    s.firstRef = some r := by
  unfold firstRef
  cases hfind : s.prioList.find? (fun k => s.qualified k) with
  | none => exact absurd hq (List.find?_eq_none.mp hfind r hmem)
  | some k =>
    have hk := List.find?_some hfind
    by_contra hne
    have hother := hothers k (List.mem_of_find?_eq_some hfind) fun h => hne (congrArg some h)
    exact Bool.false_ne_true (hother.symm.trans hk)

theorem firstRef_of_none (h : ∀ k ∈ s.prioList, s.qualified k = false) : s.firstRef = none :=
  List.find?_eq_none.mpr fun k hk => Bool.eq_false_iff.mp (h k hk)

theorem prioList_lt (h : k ∈ s.prioList) : k < 6 := of_decide_eq_true (List.mem_filter.mp h).2

theorem disqualifyMark_prioList : (s.disqualifyMark r).prioList = s.prioList := by
  have himage : ((s.set (R.REF_QUALIFIED r) 0).bump (R.REF_DISQUAL r) 1).boot.recs = s.boot.recs := bump_image
  simp only [prioList, timing, rec1, recs, disqualifyMark, himage]

theorem reselect_of_none (hforced : s.whl.forced = none) (hnone : s.whl.selected = none) : s.reselect = s.switchRef s.firstRef := by
  unfold reselect
  rw [hforced, hnone]

theorem reselect_of_lost (hforced : s.whl.forced = none) (hsel : s.whl.selected = some r) (hq : s.qualified r = false) :
    s.reselect = s.switchRef s.firstRef := by
  unfold reselect
  rw [hforced, hsel]
  exact if_neg (Bool.eq_false_iff.mp hq)

theorem Reads.qualified (h : s.Reads Fld.ofWhorl φ) (hr : r < 6) : s.qualified r = Decidable.decide (φ (R.REF_QUALIFIED r) = 1) := by
  rw [State.qualified, has, h.shows _ (refQualified_ofWhorl hr)]

/-- 12 R451: a reference that qualifies is qualified, whatever is selected then. -/
theorem qualify_qualified (hc : canonical s.regs = true) (hr : r < 6) : (s.qualify r).qualified r = true := by
  have hmark := (Reads.of_canonical hc _).qualifyMark hr
  obtain ⟨ψ, hψ, hsame⟩ := hmark.refs.reselect.of_reads fun _ hψ => hψ.whlShow
  rw [qualify_eq, hψ.qualified hr, hsame _ (show 0x100 + 0x20 * r ≠ 0 by omega), Function.update_self]
  rfl

/-- 12 R453: where nothing is selected, the one qualified reference of PRIO is selected, and the Whorl acquires. -/
theorem qualify_selects (hc : canonical s.regs = true) (hr : r < 6) (hfree : s.whlCur = 0) (hnone : s.whl.selected = none)
    (hforced : s.whl.forced = none) (hmem : r ∈ s.prioList) (hothers : ∀ k ∈ s.prioList, k ≠ r → s.qualified k = false) :
    (s.qualify r).whl.selected = some r ∧ (s.qualify r).whlCur = 1 := by
  have hbase := Reads.of_canonical hc Fld.ofWhorl
  have hmark := hbase.qualifyMark hr
  have hfirst : (s.qualifyMark r).firstRef = some r := by
    refine firstRef_of_only (s := s.qualifyMark r) hmem ?_ fun k hk hne => ?_
    · rw [hmark.qualified hr, Function.update_self]
      rfl
    · rw [hmark.qualified (prioList_lt hk), Function.update_of_ne fun h => hne (refQualified_injective h), ← hbase.qualified (prioList_lt hk)]
      exact hothers k hk hne
  have hsel : (s.qualifyMark r).whl.selected ≠ some r := by
    rw [show (s.qualifyMark r).whl.selected = none from hnone]
    exact (Option.some_ne_none r).symm
  have hto := hmark.toRef (r := some r)
  have hcur : ((s.qualifyMark r).toRef (some r)).whlCur = 0 := by
    refine (hto.shows _ whlCur_ofWhorl).trans ?_
    rw [Function.update_of_ne whlCur_ne_qualified]
    exact hfree
  have hnew : ((s.qualifyMark r).toRef (some r)).whlNew = ((s.qualifyMark r).toRef (some r)).setWhl 1 := if_neg (by rw [hcur]; decide)
  rw [qualify_eq, reselect_of_none (s := s.qualifyMark r) hforced hnone, hfirst]
  refine ⟨whlShow_selected.trans switchRef_selected, ?_⟩
  rw [switchRef_some hsel, hnew]
  refine ((hto.setWhl (by rw [hcur]; decide) (show 1 < 8 by decide)).whlShow.whlShow.shows _ whlCur_ofWhorl).trans ?_
  rw [Function.update_self]

/-- 12 R453: where the selected reference was the last one qualified, nothing is selected any more and LOCKED becomes HOLDOVER. -/
theorem disqualify_last (hc : canonical s.regs = true) (hr : r < 6) (hq : s.qualified r = true) (hsel : s.whl.selected = some r)
    (hforced : s.whl.forced = none) (hlocked : s.whlCur = 2) (hothers : ∀ k ∈ s.prioList, k ≠ r → s.qualified k = false) :
    (s.disqualify r).whl.selected = none ∧ ∃ ψ, (s.disqualify r).Reads Fld.ofWhorl ψ ∧ ψ (R.REF_QUALIFIED r) = 0 ∧ ψ R.WHL_STATE_CUR = 3 ∧
      ψ R.WHL_STATE_PREV = 2 ∧ ψ (R.REF_DISQUAL r) = (s.get (R.REF_DISQUAL r) + 1) % 2 ^ 32 := by
  have hbase := Reads.of_canonical hc Fld.ofWhorl
  have hmark := hbase.disqualifyMark hr
  have hlost : (s.disqualifyMark r).qualified r = false := by
    rw [hmark.qualified hr, Function.update_of_ne refQualified_ne_disqual, Function.update_self]
    rfl
  have hfirst : (s.disqualifyMark r).firstRef = none := by
    refine firstRef_of_none fun k hk => ?_
    rw [disqualifyMark_prioList] at hk
    obtain rfl | hne := eq_or_ne k r
    · exact hlost
    · rw [hmark.qualified (prioList_lt hk), Function.update_of_ne refQualified_ne_disqual,
        Function.update_of_ne fun h => hne (refQualified_injective h), ← hbase.qualified (prioList_lt hk)]
      exact hothers k hk hne
  have hto := hmark.toRef (r := none)
  have hcur : ((s.disqualifyMark r).toRef none).whlCur = 2 := by
    refine (hto.shows _ whlCur_ofWhorl).trans ?_
    rw [Function.update_of_ne whlCur_ne_disqual, Function.update_of_ne whlCur_ne_qualified]
    exact hlocked
  have hnew : ((s.disqualifyMark r).toRef none).whlNone = ((s.disqualifyMark r).toRef none).setWhl 3 := if_pos hcur
  have hstate := hto.setWhl (new := 3) (by rw [hcur]; decide) (by decide)
  have hsel' : (s.disqualifyMark r).whl.selected = some r := (congrArg (·.1) (bump_steering (s := s.set (R.REF_QUALIFIED r) 0))).trans hsel
  have hforced' : (s.disqualifyMark r).whl.forced = none :=
    (congrArg Whl.forced (whl_of_works (bump_works (s := s.set (R.REF_QUALIFIED r) 0)))).trans hforced
  rw [disqualify_of_qualified hq, reselect_of_lost hforced' hsel' hlost, hfirst]
  refine ⟨whlShow_selected.trans switchRef_selected, ?_⟩
  rw [switchRef_none (hsel' ▸ Option.some_ne_none r), hnew]
  refine ⟨_, hstate.whlShow.whlShow, ?_⟩
  rw [hcur]
  refine ⟨?_, Function.update_self .., ?_, ?_⟩
  · rw [Function.update_of_ne whlCur_ne_qualified.symm, Function.update_of_ne whlPrev_ne_qualified.symm,
      Function.update_of_ne refQualified_ne_disqual, Function.update_self]
  · rw [Function.update_of_ne whlCur_ne_prev.symm, Function.update_self]
  · rw [Function.update_of_ne whlCur_ne_disqual.symm, Function.update_of_ne whlPrev_ne_disqual.symm, Function.update_self]

end State
end

/-! ### The commands of the references -/

section
variable {s : State} {t : Time} {r : Fin 6} (hs : s.awake = true)
include hs

theorem exec_refQualify :
    exec (.refQualify t r) s = .next (if (s.at_ t).mayQualify r then (s.at_ t).qualify r else s.at_ t) := by
  change execRefQualify t r s = _
  exact released_of_awake hs t _

theorem exec_refQualify_of_may (h : s.mayQualify r = true) : exec (.refQualify t r) s = .next ((s.at_ t).qualify r) :=
  (exec_refQualify hs).trans (congrArg Host.Outcome.next (if_pos h))

theorem exec_refQualify_of_not (h : s.refEnabled r = false ∨ s.qualified r = true) : exec (.refQualify t r) s = .next (s.at_ t) := by
  refine (exec_refQualify hs).trans (congrArg Host.Outcome.next (if_neg ?_))
  have hnot : s.mayQualify r = false := by
    unfold State.mayQualify
    obtain hdisabled | hqualified := h
    · rw [hdisabled, Bool.false_and, Bool.false_and]
    · rw [hqualified, Bool.not_true, Bool.and_false, Bool.false_and]
  exact Bool.eq_false_iff.mp hnot

/-- 12 R451: a reference other than the two of PTP has no records of its own to be checked. -/
theorem exec_refDisqualify_of_pulse {cause : Nat} (hpulse : 2 ≤ r.val) :
    exec (.refDisqualify t r cause) s = .next ((s.at_ t).disqualify r).utcShow := by
  change execRefDisqualify t r cause s = _
  refine (released_of_awake hs t _).trans (congrArg Host.Outcome.next ?_)
  have hptp : ¬r.val < 2 := by omega
  simp only [decide_eq_false hptp, Bool.false_and, Bool.false_eq_true, ↓reduceIte, if_neg hptp]

theorem exec_wtrExpiry_of_due {f : Nat} (hrevert : s.revert = true) (hforced : s.whl.forced = none) (hq : s.qualified r = true)
    (hsel : s.whl.selected.isSome = true) (hearlier : (s.prioList.takeWhile (fun y => s.whl.selected ≠ some y)).contains r.val = true)
    (hsince : look r.val s.whl.qualSince = some f) (hdue : f + s.wtr * sec ≤ (s.at_ t).up) :
    exec (.wtrExpiry t r) s = .next ((s.at_ t).switchRef (some r.val)) := by
  change execWtrExpiry t r s = _
  refine (released_of_awake hs t _).trans (congrArg Host.Outcome.next ?_)
  have hall : (s.revert && s.whl.forced.isNone && s.qualified r && s.whl.selected.isSome &&
      (s.prioList.takeWhile (fun y => s.whl.selected ≠ some y)).contains r.val && Decidable.decide (f + s.wtr * sec ≤ (s.at_ t).up)) = true := by
    rw [hrevert, hforced, hq, hsel, hearlier, decide_eq_true hdue]
    rfl
  rw [show look r.val (s.at_ t).whl.qualSince = some f from hsince]
  exact if_pos hall

end

/-- Settles O39: a change of qualification writes QUALIFIED before a reference is selected, and the selection writes CUR and PREV alone of the fields
read here. -/
theorem referencesAreSelected : Obligations.ReferencesAreSelected := by
  unfold Obligations.ReferencesAreSelected
  intro t r s hs hformed u
  have hc : canonical u.regs = true := (State.formed_iff.mp hformed).1
  refine ⟨fun henabled hnot hptp => ⟨exec_refQualify_of_may hs ?may, State.qualify_qualified (s := u) hc r.isLt, State.qualify_selects (s := u) hc r.isLt⟩,
    exec_refQualify_of_not hs, fun cause hpulse hq hsel hforced hlocked hothers => ?lost,
    fun k f hrevert hforced hq hsel hne hearlier hsince hdue =>
      ⟨exec_wtrExpiry_of_due hs hrevert hforced hq (Option.isSome_iff_exists.mpr ⟨k, hsel⟩) hearlier hsince hdue, State.switchRef_selected⟩⟩
  case may =>
    have hfit : (Decidable.decide (2 ≤ r.val) || s.ptpFit r) = true := by
      by_cases hpulse : 2 ≤ r.val
      · rw [decide_eq_true hpulse, Bool.true_or]
      · rw [hptp (by omega), Bool.or_true]
    rw [State.mayQualify, henabled, hnot, hfit]
    rfl
  case lost =>
    obtain ⟨hnone, ψ, hψ, hqualified, hcur, hprev, hcount⟩ := State.disqualify_last (s := u) hc r.isLt hq hsel hforced hlocked hothers
    have hshown := hψ.utcShow
    refine ⟨_, exec_refDisqualify_of_pulse hs hpulse, ?_, (congrArg (·.1) State.utcShow_steering).trans hnone,
      (hshown.shows _ whlCur_ofWhorl).trans hcur, (hshown.shows _ whlPrev_ofWhorl).trans hprev,
      (hshown.shows _ (refDisqual_ofWhorl r.isLt)).trans hcount⟩
    rw [hshown.qualified r.isLt, hqualified]
    rfl

end Sys2Proof.Machine

/-! ## The state table of the Whorl -/

namespace Sys2Proof.Machine

section
variable {s : State} {t : Time}

/-- 12 R460: what a change of the state shows. -/
theorem State.setWhl_shows {new : Nat} (hc : canonical s.regs = true) (hother : s.whlCur ≠ new) (hnew : new < 8) :
    (s.setWhl new).whlCur = new ∧ (s.setWhl new).get R.WHL_STATE_PREV = s.whlCur ∧ (s.setWhl new).whl.selected = s.whl.selected ∧
      (s.setWhl new).whl.lockFrom = none ∧ (s.setWhl new).whl.outFrom = none := by
  have hstate := (Reads.of_canonical hc Fld.ofWhorl).setWhl hother hnew
  have hsteering := State.setWhl_steering hother
  refine ⟨(hstate.shows _ whlCur_ofWhorl).trans (Function.update_self ..), (hstate.shows _ whlPrev_ofWhorl).trans ?_, congrArg (·.1) hsteering,
    congrArg (·.2.2.1) hsteering, congrArg (·.2.2.2) hsteering⟩
  rw [Function.update_of_ne whlCur_ne_prev.symm, Function.update_self]

theorem State.whlEnters_lost : s.whlEnters 4 = s.raise 33 2 0x0403 1 [] :=
  (if_neg (by decide)).trans ((if_neg (by decide)).trans (if_pos rfl))

theorem State.whlEnters_lost_fltBit {old : Nat} (hc : canonical s.regs = true) :
    (((s.whlEnters 4).whlResolves old).whlShow.pulseShow).has (fltBit 33) = true := by
  have hraised : (s.raise 33 2 0x0403 1 []).get (fltBit 33) = 1 := of_decide_eq_true (State.raise_fltBit hc (by decide) (by decide) ..)
  have hreads : (s.raise 33 2 0x0403 1 []).Reads (· = fltBit 33) fun _ => 1 := ⟨(Keeps.refl s).raise.regs_ok hc, fun g hg => hg ▸ hraised⟩
  have hspares : State.SparesWhorl (· = fltBit 33) := State.sparesWhorl_of_island fun g hg => by
    subst hg
    decide
  rw [State.whlEnters_lost]
  exact decide_eq_true (((hreads.whlResolves.whlShow_of hspares).pulseShow_of hspares.outputs).shows _ rfl)

/-- 12 Table 12.3: LOST is an F2 of the Whorl. -/
theorem State.setWhl_lost (hc : canonical s.regs = true) (hother : s.whlCur ≠ 4) : (s.setWhl 4).has (fltBit 33) = true := by
  rw [State.setWhl_of_ne hother]
  refine State.whlEnters_lost_fltBit ?_
  rw [State.whlLeaves_regs]
  exact (Keeps.refl s).set.set.regs_ok hc

/-! ### The commands of Table 12.2 -/

section
variable (hs : s.awake = true)
include hs

theorem exec_whlLockReached_of_due {v : Nat} (hfrom : s.whl.lockFrom = some v) (hcur : s.whlCur = 1) (hdue : v + 4 * sec ≤ (s.at_ t).up) :
    exec (.whlLockReached t) s = .next ((s.at_ t).setWhl 2) := by
  change execWhlLockReached t s = _
  refine (released_of_awake hs t _).trans (congrArg Host.Outcome.next ?_)
  rw [show (s.at_ t).whl.lockFrom = some v from hfrom]
  exact if_pos (Bool.and_eq_true_iff.mpr ⟨decide_eq_true hcur, decide_eq_true hdue⟩)

theorem exec_whlLockReached_of_other (hcur : s.whlCur ≠ 1) : exec (.whlLockReached t) s = .next (s.at_ t) := by
  change execWhlLockReached t s = _
  refine (released_of_awake hs t _).trans (congrArg Host.Outcome.next ?_)
  split
  · exact if_neg fun h => hcur (of_decide_eq_true (Bool.and_eq_true_iff.mp h).1)
  · rfl

theorem exec_whlOutOfLock_of_due {v : Nat} (hfrom : s.whl.outFrom = some v) (hcur : s.whlCur = 2) (hdue : v + 2 * sec ≤ (s.at_ t).up) :
    exec (.whlOutOfLock t) s = .next ((s.at_ t).setWhl 1) := by
  change execWhlOutOfLock t s = _
  refine (released_of_awake hs t _).trans (congrArg Host.Outcome.next ?_)
  rw [show (s.at_ t).whl.outFrom = some v from hfrom]
  exact if_pos (Bool.and_eq_true_iff.mpr ⟨decide_eq_true hcur, decide_eq_true hdue⟩)

theorem exec_whlOutOfLock_of_other (hcur : s.whlCur ≠ 2) : exec (.whlOutOfLock t) s = .next (s.at_ t) := by
  change execWhlOutOfLock t s = _
  refine (released_of_awake hs t _).trans (congrArg Host.Outcome.next ?_)
  split
  · exact if_neg fun h => hcur (of_decide_eq_true (Bool.and_eq_true_iff.mp h).1)
  · rfl

theorem exec_holdoverExpiry_of_due (hcur : s.whlCur = 3) (hdue : s.whl.holdSince + s.holdover * sec ≤ (s.at_ t).up)
    (hnone : (s.at_ t).qualifiesNow t = false) : exec (.holdoverExpiry t) s = .next ((s.at_ t).setWhl 4) := by
  change execHoldoverExpiry t s = _
  refine (released_of_awake hs t _).trans (congrArg Host.Outcome.next (if_pos ?_))
  rw [hnone, Bool.not_false, Bool.and_true]
  exact Bool.and_eq_true_iff.mpr ⟨decide_eq_true hcur, decide_eq_true hdue⟩

theorem exec_holdoverExpiry_of_other (h : s.whlCur ≠ 3 ∨ (s.at_ t).qualifiesNow t = true) : exec (.holdoverExpiry t) s = .next (s.at_ t) := by
  change execHoldoverExpiry t s = _
  refine (released_of_awake hs t _).trans (congrArg Host.Outcome.next (if_neg fun hall => ?_))
  obtain ⟨hstate, hnone⟩ := Bool.and_eq_true_iff.mp hall
  obtain hcur | hnow := h
  · exact hcur (of_decide_eq_true (Bool.and_eq_true_iff.mp hstate).1)
  · rw [hnow] at hnone
    exact Bool.false_ne_true hnone

theorem exec_whlNoref_of_due (hrequired : s.refRequired = true) (hcur : s.whlCur = 0)
    (hdue : s.whl.startAt + s.refWait + 60 * sec ≤ (s.at_ t).up) : exec (.whlNoref t) s = .next ((s.at_ t).raise 33 2 0x0404 2 []) := by
  change execWhlNoref t s = _
  refine (released_of_awake hs t _).trans (congrArg Host.Outcome.next (if_pos ?_))
  exact Bool.and_eq_true_iff.mpr ⟨Bool.and_eq_true_iff.mpr ⟨hrequired, decide_eq_true hcur⟩, decide_eq_true hdue⟩

end

/-! ### The samples of the servo -/

/-- 12 R455: the phase and the frequency of a reference that a sample measures. -/
def State.phased (s : State) (r : Nat) (edge freq : Int) : State :=
  { s with
    whl.phi := if hasPhase r then put r (s.edgePhi r edge) s.whl.phi else s.whl.phi
    whl.freq := put r freq s.whl.freq }

/-- 12 R452, R455: a sample is counted, its reference is seen, and what it measures is kept. -/
def State.measured (s : State) (r : Nat) (edge freq : Int) : State := ((s.bump (R.REF_SAMPLES r) 1).seeRef r).phased r edge freq

theorem State.phased_regs {r : Nat} {edge freq : Int} : (s.phased r edge freq).regs = s.regs := (rfl)

theorem State.phased_steering {r : Nat} {edge freq : Int} : (s.phased r edge freq).steering = s.steering := (rfl)

theorem State.seeRef_regs {r : Nat} : (s.seeRef r).regs = s.regs := (rfl)

theorem State.seeRef_steering {r : Nat} : (s.seeRef r).steering = s.steering := (rfl)

/-- 12 R455: a sample drives the NCO word while ACQUIRING or LOCKED. -/
def State.driven (s : State) : State :=
  match s.whl.selected with
  | some r => if s.whlCur = 1 || s.whlCur = 2 then s.writeNco (s.servoWord r) else s
  | none => s

theorem State.measured_whlCur {r : Nat} {edge freq : Int} : (s.measured r edge freq).whlCur = s.whlCur :=
  (State.get_of_regs (State.phased_regs.trans State.seeRef_regs) R.WHL_STATE_CUR).trans
    (State.get_bump_word (by simp only [Fld.addr, R.REF_SAMPLES, R.WHL_STATE_CUR]; omega) 1)

theorem State.measured_selected {r : Nat} {edge freq : Int} : (s.measured r edge freq).whl.selected = s.whl.selected := by
  have h : (s.measured r edge freq).steering = s.steering := by
    rw [State.measured, State.phased_steering, State.seeRef_steering, State.bump_steering]
  exact congrArg (·.1) h

theorem exec_servoSample_one {r : Fin 6} {edge freq : Int} (hs : s.awake = true) (hready : s.whl.ready = true) (hpulse : 2 ≤ r.val)
    (henabled : s.refEnabled r = true) :
    exec (.servoSample t [(r, edge, freq)]) s = .next (((s.at_ t).measured r edge freq).driven.lockSpans.whlShow) := by
  change execServoSample t [(r, edge, freq)] s = _
  refine (released_of_awake hs t _).trans (congrArg Host.Outcome.next ?_)
  have hready' : (!(s.at_ t).whl.ready) = false := by
    rw [show (s.at_ t).whl.ready = true from hready]
    rfl
  have henabled' : (!(s.at_ t).refEnabled r.val) = false := by
    rw [show (s.at_ t).refEnabled r.val = true from henabled]
    rfl
  simp only [hready', henabled', List.foldl_cons, List.foldl_nil, Bool.false_eq_true, ↓reduceIte, show ¬r.val < 2 by omega, decide_eq_true hpulse,
    Bool.true_and]
  rfl

theorem State.driven_of_selected {r : Nat} (hsel : s.whl.selected = some r) (hcur : s.whlCur = 1 ∨ s.whlCur = 2) :
    s.driven = s.writeNco (s.servoWord r) := by
  unfold State.driven
  rw [hsel]
  exact if_pos (by simpa only [Bool.or_eq_true, decide_eq_true_eq] using hcur)

theorem State.driven_of_other (hone : s.whlCur ≠ 1) (htwo : s.whlCur ≠ 2) : s.driven = s := by
  unfold State.driven
  split
  · exact if_neg (by simpa only [Bool.or_eq_true, decide_eq_true_eq, not_or] using ⟨hone, htwo⟩)
  · rfl

end

/-- Settles O40: a timer of Table 12.2 that is due changes the state, and a sample drives the word by the state alone. -/
theorem whorlStateTable : Obligations.WhorlStateTable := by
  unfold Obligations.WhorlStateTable
  intro t s hs hformed u goes
  have hc : canonical u.regs = true := (State.formed_iff.mp hformed).1
  refine ⟨fun v hfrom hcur hdue => ⟨_, exec_whlLockReached_of_due hs hfrom hcur hdue, State.setWhl_shows (s := u) hc ?_ (by decide)⟩,
    fun v hfrom hcur hdue => ⟨_, exec_whlOutOfLock_of_due hs hfrom hcur hdue, State.setWhl_shows (s := u) hc ?_ (by decide)⟩,
    fun hcur hdue hnone => ⟨⟨_, exec_holdoverExpiry_of_due hs hcur hdue hnone, State.setWhl_shows (s := u) hc ?_ (by decide)⟩,
      _, exec_holdoverExpiry_of_due hs hcur hdue hnone, State.setWhl_lost (s := u) hc ?_⟩,
    exec_whlLockReached_of_other hs, exec_whlOutOfLock_of_other hs, exec_holdoverExpiry_of_other hs, exec_whlNoref_of_due hs,
    fun r edge freq hready hpulse henabled => ⟨fun hsel hcur => ?driven, fun hcur => ?free⟩⟩
  case driven =>
    exact (exec_servoSample_one hs hready hpulse henabled).trans (congrArg (fun v : State => Host.Outcome.next v.lockSpans.whlShow)
      (State.driven_of_selected (State.measured_selected.trans hsel) (State.measured_whlCur.symm ▸ hcur)))
  case free =>
    have hone : u.whlCur ≠ 1 := by
      change s.whlCur ≠ 1
      omega
    have htwo : u.whlCur ≠ 2 := by
      change s.whlCur ≠ 2
      omega
    exact (exec_servoSample_one hs hready hpulse henabled).trans (congrArg (fun v : State => Host.Outcome.next v.lockSpans.whlShow)
      (State.driven_of_other (State.measured_whlCur.trans_ne hone) (State.measured_whlCur.trans_ne htwo)))
  all_goals
    change s.whlCur ≠ _
    omega

end Sys2Proof.Machine

/-! ## The step of Whorl time -/

namespace Sys2Proof.Machine

/-! ### House boundaries -/

section
variable {rate t n : Nat}

theorem rateNum_pos (h : rate ≤ 12) : 0 < rateNum rate := by
  interval_cases rate <;> decide

theorem le_ceilDiv {a b : Nat} (hb : 0 < b) (h : (t - 1) * b < a) : t ≤ ceilDiv a b := by
  unfold ceilDiv
  rw [Nat.le_div_iff_mul_le hb]
  obtain _ | t := t
  · omega
  · rw [Nat.add_sub_cancel] at h
    rw [Nat.succ_mul]
    omega

/-- 02 R79: a frame boundary from an instant on is not before it. -/
theorem le_boundaryFrom (h : rate ≤ 12) : t ≤ boundaryFrom rate t := by
  obtain rfl | hpos := Nat.eq_zero_or_pos t
  · exact Nat.zero_le _
  · have hden : 0 < rateDen rate * sec := Nat.mul_pos (by unfold rateDen; split <;> decide) (by decide)
    unfold boundaryFrom alignPoint frameFrom
    rw [if_neg hpos.ne']
    refine le_ceilDiv (rateNum_pos h) ?_
    rw [Nat.mul_assoc, Nat.mul_comm (_ + 1)]
    exact Nat.lt_mul_div_succ _ hden

end

section
variable {s u : State} {α : Type} {f : Fld} {k n x : Nat} {t : Time} {d : Int} {φ : Fld → Nat}

/-! ### The schedule -/

/-- The crosspoint and the image's records, which time the salvos (02 R79, 04 R157), by a name of their own for the reason that `State.tiles` has
one. -/
def State.schedule (s : State) : Xp × List Rec := (s.xp, s.boot.recs)

namespace State

theorem schedule_eta : (s.xp, s.boot.recs) = s.schedule := (rfl)

theorem schedule_mk {now up free pending regs wide out boot flt sicp xp sdi dbl bob dram aud mv probe eth ip whl keys spn skn rtc} :
    State.schedule ⟨now, up, free, pending, regs, wide, out, boot, flt, sicp, xp, sdi, dbl, bob, dram, aud, mv, probe, eth, ip, whl, keys, spn, skn,
      rtc⟩ = (xp, boot.recs) := (rfl)

theorem xp_of_schedule (h : u.schedule = s.schedule) : u.xp = s.xp := congrArg (·.1) h

theorem recs_of_schedule (h : u.schedule = s.schedule) : u.boot.recs = s.boot.recs := congrArg (·.2) h

theorem ready_of_clock (h : u.clock = s.clock) : u.whl.ready = s.whl.ready := congrArg (·.2.2) h

theorem ite_schedule {x y : State} {c : Prop} [Decidable c] : (if c then x else y).schedule = if c then x.schedule else y.schedule :=
  apply_ite State.schedule ..

theorem foldl_schedule {op : State → α → State} {l : List α} (h : ∀ s x, (op s x).schedule = s.schedule) :
    (l.foldl op s).schedule = s.schedule :=
  List.foldlRecOn (motive := fun u : State => u.schedule = s.schedule) l op rfl fun u hu x _ => (h u x).trans hu

theorem set_schedule {v : Nat} : (s.set f v).schedule = s.schedule := (rfl)

theorem bump_schedule : (s.bump f n).schedule = s.schedule := by
  unfold bump
  split <;> rfl

theorem foldPulse_schedule : (s.foldPulse k t).schedule = s.schedule := by
  unfold foldPulse
  split
  next => simp only [↓schedule_mk, schedule_eta, bump_schedule]
  next => rfl

theorem pulseStop_schedule : s.pulseStop.schedule = s.schedule := by
  simp only [pulseStop, ↓schedule_mk, schedule_eta, ↓foldl_schedule, ↓foldPulse_schedule, implies_true]

theorem pulseShow_schedule : s.pulseShow.schedule = s.schedule := by
  simp only [pulseShow, ↓foldl_schedule, ↓ite_schedule, ↓schedule_mk, schedule_eta, ↓foldPulse_schedule, ↓set_schedule, ite_self, implies_true]

theorem whlShow_schedule : s.whlShow.schedule = s.schedule := by
  simp only [whlShow, ↓foldl_schedule, ↓set_schedule, implies_true]

/-! ### The parts of the step -/

/-- 12 R477: Whorl time moves, and with it the quiet of the outputs, the references' phases and the delays' pictures. -/
def timeMoved (s : State) (new x : Time) (d : Int) : State :=
  { s.recount d with
    now := new
    whl := { s.whl with
      held := 0, step := none, floor := moved x d + ms + s.lead * ms, quietUntil := moved x d + ms
      phi := s.whl.phi.map (fun p => (p.1, p.2 - d)) }
    xp.dst := s.xp.dst.map (fun y => (y.1, { y.2 with live := false, wasLive := false, prevPic := none }))
    rtc := some ⟨new, s.up⟩ }

/-- 12 R477: a step leaps over an instant. -/
def leapsOver (x : Time) (d : Int) (tc : Time) : Bool := x ≤ tc && (tc : Int) < x + d

/-- The salvos and the shares of another plane's, clear of the instants leapt over (12 R477). -/
def salvosMoved (s : State) (x : Time) (d : Int) : State :=
  { s with
    xp.salvos := s.xp.salvos.map (fun v => if leapsOver x d v.tc then { v with tc := s.houseFrom s.whl.floor } else v)
    xp.shares := s.xp.shares.map (fun v => if leapsOver x d v.tc then { v with tc := s.houseFrom s.whl.floor } else v) }

theorem salvosMoved_clear (h : ∀ v ∈ s.xp.salvos, (x : Int) + d ≤ (s.houseFrom s.whl.floor : Int)) :
    ∀ v ∈ (s.salvosMoved x d).xp.salvos, v.tc < x ∨ (x : Int) + d ≤ v.tc := by
  intro v hv
  obtain ⟨w, hw, rfl⟩ := List.mem_map.mp hv
  by_cases hlate : leapsOver x d w.tc = true
  · rw [if_pos hlate]
    exact .inr (h w hw)
  · rw [if_neg hlate]
    have hnot : ¬(x ≤ w.tc ∧ (w.tc : Int) < x + d) := by
      simpa only [leapsOver, Bool.and_eq_true, decide_eq_true_eq] using hlate
    obtain hbefore | hafter := Nat.lt_or_ge w.tc x
    · exact .inl hbefore
    · exact .inr (Int.not_lt.mp fun h => hnot ⟨hafter, h⟩)

/-- The step of time, before it is shown (12 R477). -/
def leaps (s : State) (x : Time) (d : Int) : State := (s.pulseStop.timeMoved (moved s.now d) x d).salvosMoved x d

end State

theorem exec_timeStep_of_due {aon : Bool} (hs : s.inService = true) (hstep : s.whl.step = some (x, d, aon)) (hdue : x ≤ t) :
    exec (.timeStep t) s =
      .next ((((s.at_ t).leaps x d).bump R.WHL_STEPS 1).event 33 1 0x0406 (beBytes 8 (unsigned 64 d))).whlShow.pulseShow := by
  change execTimeStep t s = _
  refine (served_of_inService hs t _).trans (congrArg Host.Outcome.next ?_)
  rw [show (s.at_ t).whl.step = some (x, d, aon) from hstep]
  exact if_neg (show ¬(s.at_ t).now < x from Nat.not_lt.mpr hdue)

theorem exec_timeStep_of_early {aon : Bool} (hs : s.inService = true) (hstep : s.whl.step = some (x, d, aon)) (hearly : t < x) :
    exec (.timeStep t) s = .next (s.at_ t) := by
  change execTimeStep t s = _
  refine (served_of_inService hs t _).trans (congrArg Host.Outcome.next ?_)
  rw [show (s.at_ t).whl.step = some (x, d, aon) from hstep]
  exact if_pos hearly

namespace State

theorem timeMoved_clock {new : Time} : (s.timeMoved new x d).clock = (new, 0, s.whl.ready) := (rfl)

theorem timeMoved_whl {new : Time} : (s.timeMoved new x d).whl.step = none ∧ moved x d ≤ (s.timeMoved new x d).whl.floor :=
  ⟨rfl, (Nat.le_add_right ..).trans (Nat.le_add_right ..)⟩

theorem timeMoved_regs {new : Time} : (s.timeMoved new x d).regs = s.regs := (rfl)

theorem timeMoved_recs {new : Time} : (s.timeMoved new x d).boot.recs = s.boot.recs := (rfl)

theorem timeMoved_salvos {new : Time} : (s.timeMoved new x d).xp.salvos = s.xp.salvos := (rfl)

theorem timeMoved_dst {new : Time} : ∀ y ∈ (s.timeMoved new x d).xp.dst, y.2.live = false := by
  intro y hy
  obtain ⟨z, -, rfl⟩ := List.mem_map.mp hy
  rfl

theorem salvosMoved_clock : (s.salvosMoved x d).clock = s.clock := (rfl)

theorem salvosMoved_whl : (s.salvosMoved x d).whl = s.whl := (rfl)

theorem salvosMoved_regs : (s.salvosMoved x d).regs = s.regs := (rfl)

theorem salvosMoved_dst : (s.salvosMoved x d).xp.dst = s.xp.dst := (rfl)

theorem salvosMoved_length : (s.salvosMoved x d).xp.salvos.length = s.xp.salvos.length := List.length_map ..

theorem pulseStop_clock : s.pulseStop.clock = s.clock := by
  simp only [pulseStop, ↓clock_mk, clock_eta, ↓foldl_clock, ↓foldPulse_clock, implies_true]

/-- 12 R477: the step leaves the time moved, nothing held or pending, and the register file but for the pulses counted. -/
theorem leaps_clock : (s.leaps x d).clock = (moved s.now d, 0, s.whl.ready) := by
  rw [leaps, salvosMoved_clock, timeMoved_clock, ready_of_clock pulseStop_clock]

theorem leaps_regs : (s.leaps x d).regs = s.pulseStop.regs := salvosMoved_regs.trans timeMoved_regs

theorem leaps_step : (s.leaps x d).whl.step = none := (congrArg Whl.step salvosMoved_whl).trans timeMoved_whl.1

/-- 12 R477, 04 R157: no salvo is left at an instant leapt over, and no output shows a picture from before the step. -/
theorem leaps_salvos (hrate : s.houseRate ≤ 12) : (∀ v ∈ (s.leaps x d).xp.salvos, v.tc < x ∨ (x : Int) + d ≤ v.tc) ∧
    (s.leaps x d).xp.salvos.length = s.xp.salvos.length ∧ ∀ y ∈ (s.leaps x d).xp.dst, y.2.live = false := by
  have hschedule := pulseStop_schedule (s := s)
  have hrecs : (s.pulseStop.timeMoved (moved s.now d) x d).boot.recs = s.boot.recs := timeMoved_recs.trans (recs_of_schedule hschedule)
  have hrate' : (s.pulseStop.timeMoved (moved s.now d) x d).houseRate ≤ 12 := by
    rw [houseRate, recs, hrecs]
    exact hrate
  rw [leaps]
  refine ⟨salvosMoved_clear fun v _ => ?_, ?_, ?_⟩
  · have hfirst := (timeMoved_whl (s := s.pulseStop) (x := x) (d := d) (new := moved s.now d)).2.trans (le_boundaryFrom hrate')
    have hreach : (x : Int) + d ≤ moved x d := Int.self_le_toNat _
    exact hreach.trans (Int.ofNat_le.mpr hfirst)
  · rw [salvosMoved_length, timeMoved_salvos, xp_of_schedule hschedule]
  · rw [salvosMoved_dst]
    exact timeMoved_dst

end State

/-! ### The step, shown -/

namespace State

theorem step_of_steering (h : u.steering = s.steering) : u.whl.step = s.whl.step := congrArg (·.2.1) h

theorem now_of_clock {c : Time × Int × Bool} (h : u.clock = c) : u.now = c.1 ∧ u.whl.held = c.2.1 :=
  ⟨congrArg (·.1) h, congrArg (·.2.1) h⟩

theorem realign_apart (g : Fld) (hg : g = R.WHL_STATE_REALIGN_PEND) (hisl : f.isl = 33) (hoff : 0 < f.off) (hin : f.off < 0x100000) : g.Apart f := by
  subst hg
  unfold Fld.Apart Fld.addr R.WHL_STATE_REALIGN_PEND
  dsimp only
  omega

/-- The registers of the Whorl that are shown after REALIGN_PEND. -/
theorem Reads.shown_after (h : s.Reads (· = R.WHL_STATE_REALIGN_PEND) φ) (f : Fld) (v : Nat) (hisl : f.isl = 33 := by rfl)
    (hoff : 0 < f.off := by decide) (hin : f.off < 0x100000 := by decide) : (s.set f v).Reads (· = R.WHL_STATE_REALIGN_PEND) φ :=
  h.set_beside fun g hg => realign_apart g hg hisl hoff hin

/-- The other fields of WHL.STATE that are shown. -/
theorem Reads.shown_beside (h : s.Reads (· = R.WHL_STATE_REALIGN_PEND) φ) (f : Fld) (v : Nat)
    (hf : f.lo ≤ f.hi ∧ f.hi < 32 ∧ (17 < f.lo ∨ f.hi < 17) := by decide) : (s.set f v).Reads (· = R.WHL_STATE_REALIGN_PEND) φ :=
  h.set_beside fun g hg _ => hg ▸ ⟨by decide, hf.1, hf.2.1, hf.2.2.symm⟩

theorem set_step {v : Nat} : (s.set f v).whl.step = s.whl.step := (rfl)

theorem Reads.set_realign {v : Nat} {b : Bool} (h : s.Reads (· = R.WHL_STATE_REALIGN_PEND) φ) (hv : v = b2n b) :
    (s.set R.WHL_STATE_REALIGN_PEND v).Reads (· = R.WHL_STATE_REALIGN_PEND) fun _ => b2n b := by
  have hbit : v < 2 ^ R.WHL_STATE_REALIGN_PEND.width := by
    rw [hv]
    cases b <;> decide
  refine (h.set_here (by decide) (by decide) (fun _ hg hne => absurd hg hne) hbit).congr fun g hg => ?_
  rw [hg, Function.update_self, hv]

/-- 12 Table 12.15: REALIGN_PEND shows whether a step is pending. -/
theorem whlShow_realign (hc : Machine.canonical s.regs = true) : s.whlShow.Reads (· = R.WHL_STATE_REALIGN_PEND) fun _ => b2n s.whl.step.isSome := by
  unfold State.whlShow
  refine Reads.foldl ?_ fun u r hr hu => ?_
  · exact ((((((Reads.of_canonical hc _).shown_beside R.WHL_STATE_REF _).shown_beside R.WHL_STATE_HELD _).shown_beside R.WHL_STATE_FORCED
      _).set_realign (congrArg (fun p => b2n (Option.isSome p)) (set_step.trans set_step))).shown_after R.WHL_NCO_W _).shown_after R.WHL_PHASE _ |>.shown_after R.WHL_HELD_LO _
  · have hr : r < 6 := List.mem_range.mp hr
    have hoff (off : Nat) (hlow : 0 < off := by decide) : 0 < off + 0x20 * r := by omega
    have hin (off : Nat) (hlow : off < 0x10000 := by decide) : off + 0x20 * r < 0x100000 := by omega
    exact (((hu.shown_after (R.REF_SELECTED r) _ rfl (hoff 0x100) (hin 0x100)).shown_after (R.REF_ENABLED r) _ rfl (hoff 0x100)
      (hin 0x100)).shown_after (R.REF_PHASE r) _ rfl (hoff 0x104) (hin 0x104)).shown_after (R.REF_FREQ r) _ rfl (hoff 0x108) (hin 0x108)

end State

/-- What follows the step: it is counted, logged and shown. -/
def State.stepShown (s : State) (d : Int) : State :=
  ((s.bump R.WHL_STEPS 1).event 33 1 0x0406 (beBytes 8 (unsigned 64 d))).whlShow.pulseShow

namespace State

theorem stepShown_clock : (s.stepShown d).clock = s.clock := by
  rw [stepShown, pulseShow_clock, whlShow_clock, event_clock, bump_clock]

theorem stepShown_steering : (s.stepShown d).steering = s.steering := by
  rw [stepShown, pulseShow_steering, whlShow_steering, event_steering, bump_steering]

theorem stepShown_xp : (s.stepShown d).xp = s.xp := by
  rw [stepShown, xp_of_schedule (pulseShow_schedule.trans whlShow_schedule), xp_of_works ((Leaves.refl (faults := true) _).event ..).works,
    xp_of_schedule bump_schedule]

theorem stepShown_steps (h : s.Reads Fld.ofWhorl φ) : (s.stepShown d).get R.WHL_STEPS = (φ R.WHL_STEPS + 1) % 2 ^ 16 := by
  have hcount := h.bump_here (n := 1) (show R.WHL_STEPS.lo ≤ R.WHL_STEPS.hi by decide) (show R.WHL_STEPS.hi < 32 by decide)
    (fun _ hg hne => Fld.ofWhorl_apart_of_ne hg whlSteps_ofWhorl hne) whlSteps_ofWhorl
  exact (hcount.eventWhl.whlShow.pulseShow.shows _ whlSteps_ofWhorl).trans (Function.update_self ..)

theorem stepShown_realign (hc : Machine.canonical s.regs = true) (hstep : s.whl.step = none) : (s.stepShown d).get R.WHL_STATE_REALIGN_PEND = 0 := by
  set v : State := (s.bump R.WHL_STEPS 1).event 33 1 0x0406 (beBytes 8 (unsigned 64 d)) with hv
  have hnone : v.whl.step = none := (step_of_steering (event_steering.trans bump_steering)).trans hstep
  have hcv : Machine.canonical v.regs = true := (Keeps.refl s).bump.event.regs_ok hc
  have houtputs : SparesOutputs (· = R.WHL_STATE_REALIGN_PEND) := fun g f hg hf => by
    obtain ⟨hisl, -, -, hlow, hhigh⟩ := hf
    exact realign_apart g hg hisl (by omega) (by omega)
  have hshown := ((whlShow_realign hcv).pulseShow_of houtputs).shows _ rfl
  rw [hnone] at hshown
  exact hshown

end State

/-- Settles O41: the step moves the present before it is counted, logged and shown, and what is shown afterwards moves nothing. -/
theorem timeStepMovesTime : Obligations.TimeStepMovesTime := by
  unfold Obligations.TimeStepMovesTime
  intro t x d aon s hs hformed hstep
  refine ⟨fun hdue hrate => ⟨((s.at_ t).leaps x d).stepShown d, exec_timeStep_of_due hs hstep hdue, ?_⟩, exec_timeStep_of_early hs hstep⟩
  obtain ⟨hnow, hheld⟩ := State.now_of_clock (State.stepShown_clock.trans State.leaps_clock)
  have hbase := ((State.Reads.of_formed hformed t Fld.ofWhorl).pulseStop_of State.sparesWhorl_ofWhorl.outputs).of_regs
    (State.leaps_regs (x := x) (d := d))
  obtain ⟨hclear, hlength, hlive⟩ := State.leaps_salvos (s := s.at_ t) (x := x) (d := d) hrate
  refine ⟨hnow, (State.step_of_steering State.stepShown_steering).trans State.leaps_step, hheld, State.stepShown_steps hbase,
    State.stepShown_realign hbase.canonical State.leaps_step, ?_⟩
  rw [State.stepShown_xp]
  exact ⟨hclear, hlength, hlive⟩

end

end Sys2Proof.Machine

/-! ## What a stop keeps, and what it shows -/

namespace Sys2Proof.Machine

section
variable {s u : State} {φ : Fld → Nat} {W : Fld → Prop} {f g : Fld} {t : Time}

/-- A field that no output shows itself quiet in (05 Table 5.16, 06 Table 6.18, 12 Table 12.19). -/
def Fld.NotQuiet (g : Fld) : Prop := ∀ w, quietWord g.addr w = w

namespace State

theorem get_setWord_own (hc : Machine.canonical s.regs = true) : (s.setWord g.addr (s.word g.addr)).get g = s.get g := by
  rw [State.get, State.get, word_setWord_same hc, Nat.mod_eq_of_lt (s.word_lt _)]

/-- 20 Table 20.2: the quiet of the outputs is shown in their own words alone. -/
theorem quietAll_get (hc : Machine.canonical s.regs = true) (hg : g.NotQuiet) : s.quietAll.get g = s.get g := by
  have hfold : canonical ((s.regs.map (·.1)).foldl (fun (s : State) a => s.setWord a (quietWord a (s.word a))) s).regs = true ∧
      ((s.regs.map (·.1)).foldl (fun (s : State) a => s.setWord a (quietWord a (s.word a))) s).get g = s.get g := by
    refine List.foldlRecOn (motive := fun u : State => Machine.canonical u.regs = true ∧ u.get g = s.get g) _ _ ⟨hc, rfl⟩ fun u hu a _ => ?_
    obtain ⟨hcu, hget⟩ := hu
    refine ⟨(Keeps.refl u).setWord.regs_ok hcu, ?_⟩
    obtain rfl | hne := eq_or_ne a g.addr
    · rw [hg, get_setWord_own hcu, hget]
    · rw [State.get, word_setWord_other hne.symm, ← State.get, hget]
  exact (get_of_regs rfl g).trans hfold.2

theorem Reads.quietAll (h : s.Reads W φ) (hW : ∀ g, W g → g.NotQuiet) : s.quietAll.Reads W φ :=
  ⟨(Keeps.refl s).quietAll.regs_ok h.canonical, fun g hg => (quietAll_get h.canonical (hW g hg)).trans (h.shows g hg)⟩

theorem status_detail (hc : Machine.canonical s.regs = true) (code : Nat) {detail : Nat} (hdetail : detail < 16) :
    (s.status code detail).get R.BOOT_STAT_DETAIL = detail := by
  have hcode : Machine.canonical (s.set R.BOOT_STAT_STATUS code).regs = true := (Keeps.refl s).set.regs_ok hc
  have hshown := (get_set_same hcode R.BOOT_STAT_DETAIL (by decide) (by decide) detail).trans (Nat.mod_eq_of_lt hdetail)
  exact ((Leaves.refl _).fltSync.get _ (by decide)).trans hshown

/-- 18 Table 18.16: STATUS and its detail stand in one word. -/
theorem Reads.status {code detail : Nat} (h : s.Reads W φ) (hW : ∀ g, W g → g.outside true = true ∧ g.addr ≠ R.BOOT_STAT_STATUS.addr) :
    (s.status code detail).Reads W φ := by
  have hleaves : Leaves true ((s.set R.BOOT_STAT_STATUS code).set R.BOOT_STAT_DETAIL detail) (s.status code detail) := (Leaves.refl _).fltSync
  refine ⟨(Keeps.refl s).status.regs_ok h.canonical, fun g hg => ?_⟩
  obtain ⟨houtside, hword⟩ := hW g hg
  rw [hleaves.get g houtside, get_set_word (f := R.BOOT_STAT_DETAIL) hword, get_set_word hword, h.shows g hg]

theorem lastWrites_dbl {before : Option StartReport} : (s.lastWrites before).dbl = s.dbl := (rfl)

theorem report_dbl {offset : Nat} : (s.report offset).dbl = s.dbl := (rfl)

theorem status_dbl {code detail : Nat} : (s.status code detail).dbl = s.dbl := by
  unfold status fltSync
  dsimp only
  rw [set_dbl, set_dbl, set_dbl, set_dbl]

/-- The chip of an F4, before its STATUS (20 Table 20.2). -/
def halted (s : State) : State := { s.quietAll with dbl.role := .off, dbl.tieOut := .none, flt.stopped := true }

theorem f4_cases {status detail : Nat} : s.f4 status detail = ((s.halted.status status detail).report 0).lastWrites s.boot.startReport ∨
    s.f4 status detail = (s.halted.status status detail).report 0 := by
  unfold f4
  dsimp only
  split
  · exact .inl rfl
  · exact .inr rfl

theorem f4_regs {status detail : Nat} : (s.f4 status detail).regs = (s.halted.status status detail).regs := by
  obtain h | h := f4_cases (s := s) (status := status) (detail := detail)
  · rw [h, lastWrites_regs, report_regs]
  · rw [h, report_regs]

theorem f4_dbl {status detail : Nat} : (s.f4 status detail).dbl = s.halted.dbl := by
  obtain h | h := f4_cases (s := s) (status := status) (detail := detail)
  · rw [h, lastWrites_dbl, report_dbl, status_dbl]
  · rw [h, report_dbl, status_dbl]

theorem f4_off {status detail : Nat} : (s.f4 status detail).dbl.role = .off := by
  rw [f4_dbl]
  rfl

theorem f4_detail (hc : Machine.canonical s.regs = true) (status : Nat) {detail : Nat} (hdetail : detail < 16) :
    (s.f4 status detail).get R.BOOT_STAT_DETAIL = detail :=
  (get_of_regs f4_regs _).trans (status_detail (s := s.halted) ((Keeps.refl s).quietAll.regs_ok hc) status hdetail)

theorem Reads.f4 {status detail : Nat} (h : s.Reads W φ)
    (hW : ∀ g, W g → g.NotQuiet ∧ g.outside true = true ∧ g.addr ≠ R.BOOT_STAT_STATUS.addr) : (s.f4 status detail).Reads W φ :=
  .of_regs (.status (.record (h.quietAll fun g hg => (hW g hg).1)) fun g hg => (hW g hg).2) f4_regs

/-- 20 R705: an occurrence of class F4 goes down the error line and is logged before the chip stops; the bit that set stays. -/
theorem err_f4_stops (hc : Machine.canonical s.regs = true) (hlo : f.lo = f.hi) (hhi : f.hi < 32) (hisl : f.isl < 40)
    (hf : f.NotQuiet ∧ f.outside true = true ∧ f.addr ≠ R.BOOT_STAT_STATUS.addr) (acc : Acc) (lasts : Bool) {status detail : Nat}
    (hstatus : status < 16) (hdetail : detail < 16) :
    let s' := s.err f 4 acc lasts (status, detail)
    s'.flt.stopped = true ∧ s'.get R.BOOT_STAT_STATUS = status ∧ s'.get R.BOOT_STAT_DETAIL = detail ∧ s'.has f = true ∧ s'.dbl.role = .off := by
  have hset : (s.set f 1).get f = 1 := by
    rw [get_set_same hc f hlo.le hhi, Fld.width, hlo, Nat.add_sub_cancel_left]
    rfl
  set v : State := (((s.set f 1).hold f.isl (errTag f lasts) 4 2 (errDetail f.off f.lo 0)).latch f.isl 4 0x0002 acc).islandError f 4 with hv
  have hcv : Machine.canonical v.regs = true := (Keeps.refl s).set.hold.latch.islandError.regs_ok hc
  have hleaves : Leaves true (s.set f 1) v := .islandError (.latch (.record (.refl _)) hisl ..) ..
  have hbit : v.Reads (· = f) fun _ => 1 := ⟨hcv, fun g hg => hg ▸ (hleaves.get f hf.2.1).trans hset⟩
  have herr : s.err f 4 acc lasts (status, detail) = v.f4 status detail := (rfl)
  dsimp only
  rw [herr]
  exact ⟨f4_stopped, f4_status hcv hstatus _, f4_detail hcv _ hdetail, decide_eq_true ((hbit.f4 fun g hg => hg ▸ hf).shows f rfl), f4_off⟩

end State

theorem notQuiet_of_low (hoff : g.off < 0x300) (hisl : g.isl = 33) : g.NotQuiet := by
  intro w
  unfold quietWord Fld.addr
  rw [hisl]
  dsimp only
  rw [if_neg, if_neg, if_neg]
  all_goals
    simp only [Bool.and_eq_true, decide_eq_true_eq]
    omega

end

end Sys2Proof.Machine

/-! ## Messages of PTP that leave -/

namespace Sys2Proof.Machine

/-- A chip whose second PTP reference is the grandmaster of its domain, one-step, on port 255 with an ASYM of 1 ns. -/
def asymChip : State :=
  { (atS 5).set (R.PORT_STATE 255) 3 with
    boot.recs := [octR 31 0, ⟨0x01A1, [1, 0, 3, 0, 0, 0, 0, 0, 0, 1, 0, 0, 0, 0, 0, 0, 255, 0, 1, 0, 0, 0, 0, 0]⟩] }

/-- The origin of the Sync that left last. -/
def syncOrigin (sent : List Out) : Option Int :=
  match sent.getLast? with
  | some (.eth _ _ _ (.ptp _ (.sync _ origin))) => some origin
  | _ => none

theorem syncOrigin_append {sent : List Out} {p mac : Nat} {tag : Option Nat} {head : PtpHead} {one : Bool} {origin : Int} :
    syncOrigin (sent ++ [.eth p mac tag (.ptp head (.sync one origin))]) = some origin := by
  unfold syncOrigin
  rw [List.getLast?_append, List.getLast?_singleton]
  rfl

section
variable {s u : State} {φ : Fld → Nat} {t : Time} {d : Fin 2} {p : Fin 256} {c : Nat × Int × Nat} {one : Bool} {origin : Int}

/-- A field outside the Whorl's window. -/
def Fld.offWhorl (g : Fld) : Prop := g.isl ≠ 33 ∧ g.off < 0x100000

namespace State

theorem sparesWhorl_offWhorl : SparesWhorl Fld.offWhorl := sparesWhorl_of_island fun _ hg => hg

theorem ptpField_beside {off hi lo : Nat} (hlo : lo ≤ hi := by decide) (hhi : hi < 32 := by decide)
    (hoff : 0x200 ≤ off ∧ off < 0x240 := by decide) : Fld.besideWhorl ⟨33, off + 0x40 * d, hi, lo⟩ = true := by
  have hd := d.isLt
  rw [Fld.besideWhorl_iff]
  dsimp only
  omega

theorem Reads.ptpShow (h : s.Reads Fld.offWhorl φ) : (s.ptpShow d).Reads Fld.offWhorl φ := by
  have hW := sparesWhorl_offWhorl
  have hshown {a b e f g j k l m : Nat} := ((((((((h.set_spared hW (R.PTP_STEPS_REMOVED d) a ptpField_beside).set_spared hW (R.PTP_GM_CLASS d) b
    ptpField_beside).set_spared hW (R.PTP_SLAVE d) e ptpField_beside).set_spared hW (R.PTP_GM_SELF d) f ptpField_beside).set_spared hW
      (R.PTP_SLAVE_PORT d) g ptpField_beside).set_spared hW (R.PTP_GM_ID_LO d) j ptpField_beside).set_spared hW (R.PTP_GM_ID_HI d) k
        ptpField_beside).set_spared hW (R.PTP_OFFSET d) l ptpField_beside).set_spared hW (R.PTP_PATH_DELAY d) m ptpField_beside
  unfold State.ptpShow
  exact .ite (.of_regs hshown utcTake_regs) hshown

theorem portPlace_offWhorl (p : Fin 256) {hi lo : Nat} : Fld.offWhorl ⟨(portPlace p).1, (portPlace p).2 + 0, hi, lo⟩ := by
  have hp := p.isLt
  rw [portPlace, if_pos hp, Fld.offWhorl]
  dsimp only
  omega

/-- 07 R276: what a port sends is told by three fields of its own. -/
theorem Reads.canSend (hs : s.Reads Fld.offWhorl φ) (hu : u.Reads Fld.offWhorl φ) : u.canSend p = s.canSend p := by
  have hsame (g : Fld) (hg : g.offWhorl) : u.get g = s.get g := (hu.shows g hg).trans (hs.shows g hg).symm
  have hline : u.lineTx p = s.lineTx p := by
    unfold lineTx portState has
    rw [hsame (R.PORT_STATE p) (portPlace_offWhorl p), hsame (R.PORT_RF_RX p) (portPlace_offWhorl p),
      hsame (R.PORT_LF_RX p) (portPlace_offWhorl p)]
  rw [State.canSend, State.canSend, hline]

theorem sendEth_out {f : EthOut} (h : s.canSend p = true) : ∃ mac tag sent, (s.sendEth p f).out = sent ++ [.eth p mac tag f] := by
  unfold sendEth
  rw [if_pos h]
  exact ⟨_, _, _, emit_out ..⟩

/-- 12 R464: the decision on the states of the ports before a message leaves. -/
def elected (s : State) (d : Fin 2) (p : Fin 256) : State :=
  (if (s.inst d).ports.any (fun y => y.port = p) then s else s.setInst d ((s.inst d).setPort { port := p })).bmca d

/-- The Sync that leaves with an origin. -/
def syncSent (s : State) (d : Fin 2) (p : Fin 256) (one : Bool) (origin : Int) : State :=
  let y := (s.inst d).port p
  let w := (s.setInst d ((s.inst d).setPort { y with syncSeq := (y.syncSeq + 1) % 65536 })).bump (R.PTP_SYNC_TX d) 1
  w.sendEth p (.ptp (w.ptpHead d p true y.syncSeq none) (.sync one origin))

theorem setInst_regs {x : PtpInst} : (s.setInst d x).regs = s.regs := by
  unfold setInst
  split <;> rfl

theorem syncSent_origin (hs : s.Reads Fld.offWhorl φ) (h : s.canSend p = true) : syncOrigin (s.syncSent d p one origin).out = some origin := by
  have hw (x : PtpInst) : ((s.setInst d x).bump (R.PTP_SYNC_TX d) 1).Reads Fld.offWhorl φ :=
    (hs.of_regs setInst_regs).bump_spared sparesWhorl_offWhorl _ _ ptpField_beside
  unfold syncSent
  extract_lets y w
  obtain ⟨mac, tag, sent, hout⟩ := sendEth_out (f := .ptp (w.ptpHead d p true y.syncSeq none) (.sync one origin)) ((hs.canSend (hw _)).trans h)
  rw [hout]
  exact syncOrigin_append

end State

/-- The origin that leaves is the present less the ASYM of the port (12 R465). -/
theorem exec_ptpMessageTx_sync (hs : s.awake = true) (hc : (s.ptpPorts d).find? (fun r => r.1 = p.val) = some c)
    (hmaster : (((((s.at_ t).elected d p).ptpShow d).inst d).port p).state = .master)
    (hone : bit (byteAt (((((s.at_ t).elected d p).ptpShow d).ptpRec d).getD []) 2) 1 = true) :
    exec (.ptpMessageTx t d p 0) s = .next ((((s.at_ t).elected d p).ptpShow d).syncSent d p true (((((s.at_ t).elected d p).ptpShow d).now : Int) - c.2.1 -
      (if ((((s.at_ t).elected d p).ptpShow d).inst d).slave.isSome then ((((s.at_ t).elected d p).ptpShow d).inst d).offset else 0))) := by
  change execPtpMessageTx t d p 0 s = _
  refine (released_of_awake hs t _).trans (congrArg Host.Outcome.next ?_)
  rw [show ((s.at_ t).ptpPorts d).find? (fun r => r.1 = p.val) = some c from hc]
  refine (if_pos (Bool.and_eq_true_iff.mpr ⟨rfl, decide_eq_true hmaster⟩)).trans ((if_pos hone).trans ?_)
  exact congrArg (fun b => (((s.at_ t).elected d p).ptpShow d).syncSent d p b (((((s.at_ t).elected d p).ptpShow d).now : Int) - c.2.1 -
    (if ((((s.at_ t).elected d p).ptpShow d).inst d).slave.isSome then ((((s.at_ t).elected d p).ptpShow d).inst d).offset else 0))) hone

theorem stated_sync (h : Obligations.TimeAndCalendar) (hs : s.awake = true) (hc : (s.ptpPorts d).find? (fun r => r.1 = p.val) = some c)
    (hmaster : (((((s.at_ t).elected d p).ptpShow d).inst d).port p).state = .master)
    (hone : bit (byteAt (((((s.at_ t).elected d p).ptpShow d).ptpRec d).getD []) 2) 1 = true) :
    exec (.ptpMessageTx t d p 0) s = .next ((((s.at_ t).elected d p).ptpShow d).syncSent d p true (((((s.at_ t).elected d p).ptpShow d).now : Int) -
      (if ((((s.at_ t).elected d p).ptpShow d).inst d).slave.isSome then ((((s.at_ t).elected d p).ptpShow d).inst d).offset else 0))) :=
  ((h.2 t s hs).2.2.2.2.2 d p c hc).1 hmaster hone

/-- Where a port that can send has an ASYM, the statement gives another origin than the one that leaves. -/
theorem stated_sync_asym (h : Obligations.TimeAndCalendar) (hs : s.awake = true) (hc : (s.ptpPorts d).find? (fun r => r.1 = p.val) = some c)
    (hmaster : (((((s.at_ t).elected d p).ptpShow d).inst d).port p).state = .master)
    (hone : bit (byteAt (((((s.at_ t).elected d p).ptpShow d).ptpRec d).getD []) 2) 1 = true)
    (hreads : (((s.at_ t).elected d p).ptpShow d).Reads Fld.offWhorl φ) (hsend : (((s.at_ t).elected d p).ptpShow d).canSend p = true) : c.2.1 = 0 := by
  have hboth := (exec_ptpMessageTx_sync hs hc hmaster hone).symm.trans (stated_sync h hs hc hmaster hone)
  have horigin := congrArg (fun u : State => syncOrigin u.out) (Host.Outcome.next.inj hboth)
  rw [State.syncSent_origin hreads hsend, State.syncSent_origin hreads hsend, Option.some_inj] at horigin
  omega

end

/-- Refutes O42: the origin of a Sync is the present less the ASYM of its port (12 R465), and the statement gives it without the ASYM. The chip above sends
a Sync on a port with an ASYM of 1 ns. -/
theorem not_timeAndCalendar : ¬ Obligations.TimeAndCalendar := by
  intro h
  have hregs : ((asymChip.at_ 9).elected 1 255).regs = asymChip.regs := by decide +kernel
  have hbase : asymChip.Reads Fld.offWhorl asymChip.get := .of_canonical (by decide +kernel) _
  have hshown := (hbase.of_regs hregs).ptpShow (d := 1)
  have hsend : (((asymChip.at_ 9).elected 1 255).ptpShow (1 : Fin 2)).canSend (255 : Fin 256) = true :=
    (hbase.canSend hshown).trans (by decide +kernel)
  exact absurd (stated_sync_asym (c := (255, 1, 0)) h (by decide +kernel) (by decide +kernel) (by decide +kernel) (by decide +kernel) hshown hsend)
    (by decide)

end Sys2Proof.Machine

/-! ## What logging and sending leave

An event, a fault below class F3 and a message that leaves write registers, the log, the queues of the subscriptions and the record of what was sent.
The core of a state is the rest of it, and each of these operations keeps it; a command's own writes are then found again after them. What was sent
before stays at the head of the record of what was sent. -/

namespace Sys2Proof.Machine

/-- A state without its registers and counters, the log and the fault word, the queues of the subscriptions and what has left. -/
structure Core where
  now : Time
  up : Nat
  pending : List Instr
  stopped : Bool
  boot : Boot
  sicp : Sicp
  xp : Xp
  sdi : Sdi
  dbl : Dbl
  bob : Bob
  dram : Dram
  aud : Aud
  mv : Mv
  probe : Probe
  eth : List (Nat × EthPort)
  ip : Ip
  whl : Whl
  keys : Keys
  spn : Spn
  skn : Skn
  rtc : Option Rtc

/-- The sessions without the queues of their subscriptions. -/
def Sicp.quiet (c : Sicp) : Sicp := { c with sessions := c.sessions.map (fun x => { x with subs := [] }) }

def State.core (s : State) : Core :=
  ⟨s.now, s.up, s.pending, s.flt.stopped, s.boot, s.sicp.quiet, s.xp, s.sdi, { s.dbl with seq := 0 }, s.bob, s.dram, s.aud, s.mv, s.probe, s.eth, s.ip,
    s.whl, s.keys, s.spn, s.skn, s.rtc⟩

section
variable {s u : State} {α : Type} {f : Fld} {v n isl cls code tag : Nat} {detail : List Byte} {m : Out}

namespace State

theorem now_of_core (h : u.core = s.core) : u.now = s.now := congrArg Core.now h

theorem up_of_core (h : u.core = s.core) : u.up = s.up := congrArg Core.up h

theorem boot_of_core (h : u.core = s.core) : u.boot = s.boot := congrArg Core.boot h

theorem keys_of_core (h : u.core = s.core) : u.keys = s.keys := congrArg Core.keys h

theorem xp_of_core (h : u.core = s.core) : u.xp = s.xp := congrArg Core.xp h

theorem skn_of_core (h : u.core = s.core) : u.skn = s.skn := congrArg Core.skn h

theorem role_of_core (h : u.core = s.core) : u.dbl.role = s.dbl.role := congrArg (fun x : Core => x.dbl.role) h

theorem linkUp_of_core (h : u.core = s.core) : u.dbl.linkUp = s.dbl.linkUp := congrArg (fun x : Core => x.dbl.linkUp) h

theorem stopped_of_core (h : u.core = s.core) : u.flt.stopped = s.flt.stopped := congrArg Core.stopped h

theorem staged_of_core (h : u.core = s.core) : u.sicp.staged = s.sicp.staged := congrArg (fun x : Core => x.sicp.staged) h

theorem core_ite {c : Prop} [Decidable c] {x y : State} (hx : x.core = s.core) (hy : y.core = s.core) : (if c then x else y).core = s.core := by
  split <;> assumption

theorem core_foldl {op : State → α → State} {l : List α} (h : ∀ s x, (op s x).core = s.core) : (l.foldl op s).core = s.core :=
  List.foldlRecOn (motive := fun u : State => u.core = s.core) l op rfl fun u hu x _ => (h u x).trans hu

theorem set_core : (s.set f v).core = s.core := (rfl)

theorem bump_core : (s.bump f n).core = s.core := core_ite rfl rfl

theorem bump64_core : (s.bump64 f n).core = s.core := core_ite rfl rfl

theorem emit_core : (s.emit m).core = s.core := (rfl)

theorem dblData_core : (s.dblData n m).core = s.core := (rfl)

theorem dblSend_core {close : Nat} {body : List Nat} : (s.dblSend n close body).core = s.core := (rfl)

theorem resolve_core : (s.resolve isl tag).core = s.core := (rfl)

theorem hold_core : (s.hold isl tag cls code detail).core = s.core := (rfl)

theorem flt_core {flt : Flt} (h : flt.stopped = s.flt.stopped) : State.core { s with flt := flt } = s.core := by
  unfold core
  dsimp only
  rw [h]

theorem publish_core {e : Event} : (s.publish e).core = s.core := by
  have hbump : (s.bump R.SCP_EV_DROPPED (dropsOf s.sicp.sessions e)).core = s.core := bump_core
  refine Eq.trans ?_ hbump
  unfold publish core Sicp.quiet
  dsimp only
  rw [List.map_map]
  rfl

theorem logRec_core {e : Event} : (s.logRec e).core = s.core :=
  (flt_core (s := s.bump R.LOG_DROPPED _) rfl).trans bump_core

theorem logOne_core {extra : Nat} : (s.logOne isl cls code detail extra).core = s.core := by
  have hpublished (c : Prop) [Decidable c] (e : Event) :
      ((if c then (s.nextSeq isl).2 else (s.nextSeq isl).2.logRec e).publish e).core = s.core :=
    publish_core.trans (core_ite rfl (logRec_core.trans rfl))
  unfold logOne
  exact core_ite (dblData_core.trans (hpublished ..)) (hpublished ..)

theorem event_core : (s.event isl cls code detail).core = s.core := by
  have hgap (d : List Byte) : State.core { s.logOne isl 1 0x0005 d 0 with flt.dropped := drop isl s.flt.dropped } = s.core :=
    (flt_core (s := s.logOne isl 1 0x0005 d 0) rfl).trans logOne_core
  unfold event
  exact logOne_core.trans (core_ite rfl (hgap _))

theorem fltSync_core : s.fltSync.core = s.core := by
  unfold fltSync
  exact set_core.trans set_core

theorem status_core {detail : Nat} : (s.status code detail).core = s.core := by
  unfold status
  exact fltSync_core.trans (set_core.trans set_core)

theorem capture_core {acc : Acc} : (s.capture isl cls code acc).core = s.core := by
  unfold capture
  simp only [↓apply_ite State.core, ↓set_core, ite_self]

theorem latch_core {acc : Acc} : (s.latch isl cls code acc).core = s.core := by
  unfold latch
  rw [fltSync_core, set_core, set_core, capture_core]

/-- A fault below class F3. -/
theorem raise_core {acc : Acc} {stop : Nat × Nat} (hcls : cls < 3) : (s.raise isl cls code tag detail acc stop).core = s.core := by
  unfold raise
  rw [react_of_lt hcls, event_core, latch_core, hold_core]

theorem islandError_core : (s.islandError f cls).core = s.core := by
  unfold islandError
  exact core_ite (event_core.trans rfl) rfl

theorem err_core {acc : Acc} {lasts : Bool} {stop : Nat × Nat} (hcls : cls < 3) : (s.err f cls acc lasts stop).core = s.core := by
  unfold err
  rw [react_of_lt hcls]
  exact islandError_core.trans (core_ite (latch_core.trans rfl) rfl)

theorem errDone_core : (s.errDone f).core = s.core := (rfl)

theorem sendVia_core {p : Nat} : (s.sendVia p m).core = s.core := by
  unfold sendVia
  refine core_ite ?_ bump_core
  exact emit_core.trans (bump64_core.trans (bump_core.trans rfl))

end State

end

end Sys2Proof.Machine

/-! ## Strands -/

namespace Sys2Proof.Machine

/-! ### The fields of a Strand's state -/

/-- STR.STATE and STR.LAMBDA of the ports (13 Table 13.12). -/
def Fld.ofStrand (g : Fld) : Prop :=
  g.isl < 16 ∧ 0x31000 ≤ g.off ∧ g.off < 0x32000 ∧ (g.off % 0x100 = 0x80 ∧ g.hi = 2 ∧ g.lo = 0 ∨ g.off % 0x100 = 0x84 ∧ g.hi = 14 ∧ g.lo = 0)

section
variable {s u : State} {φ : Fld → Nat} {f g : Fld} {t : Time} {n : Nat} {p m : Fin 256}

theorem Fld.ofStrand_apart_of_ne (hg : g.ofStrand) (hf : f.ofStrand) (hne : g ≠ f) : g.Apart f := by
  have hdiffers : ¬(g.isl = f.isl ∧ g.off = f.off ∧ g.hi = f.hi ∧ g.lo = f.lo) := by
    cases g
    cases f
    simpa only [ne_eq, Fld.mk.injEq] using hne
  unfold ofStrand at hg hf
  unfold Apart addr
  omega

theorem Fld.ofStrand_outside (hg : g.ofStrand) {faults : Bool} : g.outside faults = true := by
  rw [outside_iff]
  unfold ofStrand at hg
  omega

/-- The words of a port above STR.LAMBDA, and PEER beside STR.STATE. -/
theorem Fld.ofStrand_apart {k off hi lo : Nat} (hg : g.ofStrand) (hlo : lo ≤ hi := by decide) (hhi : hi < 32 := by decide)
    (hoff : 0x88 ≤ off ∧ off < 0x100 ∨ off = 0x80 ∧ 3 ≤ lo := by decide) : g.Apart ⟨(portPlace k).1, (portPlace k).2 + off, hi, lo⟩ := by
  unfold ofStrand at hg
  unfold portPlace Apart addr
  dsimp only
  split <;> dsimp only <;> omega

theorem strandState_ofStrand (p : Fin 256) : (R.PORT_STR_STATE p).ofStrand := by
  have hp := p.isLt
  unfold Fld.ofStrand R.PORT_STR_STATE portPlace
  rw [if_pos hp]
  dsimp only
  omega

theorem strandLambda_ofStrand (p : Fin 256) : (R.PORT_STR_LAMBDA p).ofStrand := by
  have hp := p.isLt
  unfold Fld.ofStrand R.PORT_STR_LAMBDA portPlace
  rw [if_pos hp]
  dsimp only
  omega

theorem strandState_ne (hne : m ≠ p) : R.PORT_STR_STATE m ≠ R.PORT_STR_STATE p := by
  have hm := m.isLt
  have hp := p.isLt
  have hval : m.val ≠ p.val := Fin.val_ne_of_ne hne
  simp only [R.PORT_STR_STATE, portPlace, if_pos hm, if_pos hp, ne_eq, Fld.mk.injEq]
  omega

theorem strandState_ne_lambda : R.PORT_STR_STATE m ≠ R.PORT_STR_LAMBDA p := by
  simp only [R.PORT_STR_STATE, R.PORT_STR_LAMBDA, ne_eq, Fld.mk.injEq]
  omega

theorem portIsland_lt {k : Nat} : portIsland k < 40 := by
  unfold portIsland
  split <;> omega

namespace State

theorem Reads.set_strand (h : s.Reads Fld.ofStrand φ) {v : Nat} (hf : f.ofStrand) (hv : v < 2 ^ f.width) :
    (s.set f v).Reads Fld.ofStrand (Function.update φ f v) := by
  have hbits : f.lo ≤ f.hi ∧ f.hi < 32 := by
    unfold Fld.ofStrand at hf
    omega
  exact h.set_here hbits.1 hbits.2 (fun _ hg hne => Fld.ofStrand_apart_of_ne hg hf hne) hv

theorem Reads.raiseStrand {isl code tag : Nat} {detail : List Byte} (h : s.Reads Fld.ofStrand φ) (hisl : isl < 40) :
    (s.raise isl 2 code tag detail).Reads Fld.ofStrand φ :=
  h.raise hisl (by decide) fun _ hg => Fld.ofStrand_outside hg

theorem Reads.eventStrand {isl cls code : Nat} {detail : List Byte} (h : s.Reads Fld.ofStrand φ) :
    (s.event isl cls code detail).Reads Fld.ofStrand φ :=
  h.event fun _ hg => Fld.ofStrand_outside hg

/-! ### The messages of the map -/

theorem Reads.sendUnits {k : Nat} (h : s.Reads Fld.ofStrand φ) : (s.sendUnits k n).Reads Fld.ofStrand φ := by
  have hrun : (s.strandRun k).Reads Fld.ofStrand φ := .record h
  have hcount : ((s.strandRun k).bump (R.PORT_STR_CTRL_TX k) n).Reads Fld.ofStrand φ := hrun.bump_beside fun _ hg => Fld.ofStrand_apart hg
  exact .record hcount

theorem Reads.skeinBudget (h : s.Reads Fld.ofStrand φ) : s.skeinBudget.Reads Fld.ofStrand φ := by
  unfold State.skeinBudget
  exact .ite (.record (.record h)) (.ite h (.raiseStrand (.record h) (by decide)))

theorem Reads.emit {o : Out} (h : s.Reads Fld.ofStrand φ) : (s.emit o).Reads Fld.ofStrand φ := .record h

theorem Reads.dblData {o : Out} (h : s.Reads Fld.ofStrand φ) : (s.dblData n o).Reads Fld.ofStrand φ := .emit (.record h)

theorem Reads.linksTold {op : State → Link → State} {told : List Link} (h : s.Reads Fld.ofStrand φ)
    (hop : ∀ u l, ∃ n o, op u l = (u.sendUnits l.lane n).emit o) : (told.foldl op s).Reads Fld.ofStrand φ := by
  refine Reads.foldl h fun u l _ hu => ?_
  obtain ⟨n, o, heq⟩ := hop u l
  rw [heq]
  exact hu.sendUnits.emit

theorem Reads.sendLinks (h : s.Reads Fld.ofStrand φ) : s.sendLinks.Reads Fld.ofStrand φ := by
  unfold State.sendLinks
  refine .record (Reads.skeinBudget (.ite (.dblData ?_) ?_))
  all_goals exact .linksTold (.of_regs h rfl) fun _ _ => ⟨_, _, rfl⟩

theorem Reads.strandTo {x : Nat} (h : s.Reads Fld.ofStrand φ) (hx : x < 8) :
    (s.strandTo p x).Reads Fld.ofStrand (Function.update φ (R.PORT_STR_STATE p) x) :=
  (h.set_strand (strandState_ofStrand p) hx).sendLinks

theorem Reads.strandMismatch {why : Nat} (h : s.Reads Fld.ofStrand φ) :
    (s.strandMismatch p why).Reads Fld.ofStrand (Function.update φ (R.PORT_STR_STATE p) 5) :=
  ((h.strandTo (by decide)).set_beside fun _ hg => Fld.ofStrand_apart hg).raiseStrand portIsland_lt

theorem Reads.strandDown {x : Nat} (h : s.Reads Fld.ofStrand φ) (hx : x < 8) :
    (s.strandDown p x).Reads Fld.ofStrand (Function.update φ (R.PORT_STR_STATE p) x) := by
  unfold State.strandDown
  have hset : ((s.set (R.PORT_STR_STATE p) x).setStrand p { (s.set (R.PORT_STR_STATE p) x).strand p with
      downAt := some (s.set (R.PORT_STR_STATE p) x).up, bad := [] }).Reads Fld.ofStrand (Function.update φ (R.PORT_STR_STATE p) x) :=
    .record (h.set_strand (strandState_ofStrand p) hx)
  exact (Reads.ite (hset.raiseStrand portIsland_lt) hset.eventStrand).sendLinks

theorem Reads.clearStrandDown (h : s.Reads Fld.ofStrand φ) : s.clearStrandDown.Reads Fld.ofStrand φ :=
  .ite (.foldl h fun _ _ _ hu => .record hu) h

/-- 13 Table 13.2: the Strand that changes, and every other. -/
theorem Reads.strandStates_of {x : Nat} (h : u.Reads Fld.ofStrand φ) (hp : φ (R.PORT_STR_STATE p) = x)
    (hothers : ∀ m : Fin 256, m ≠ p → φ (R.PORT_STR_STATE m) = s.strandState m) :
    u.strandState p = x ∧ ∀ m : Fin 256, m ≠ p → u.strandState m = s.strandState m :=
  ⟨(h.shows _ (strandState_ofStrand p)).trans hp, fun m hne => (h.shows _ (strandState_ofStrand m)).trans (hothers m hne)⟩

theorem Reads.strandStates {x : Nat} (h : u.Reads Fld.ofStrand (Function.update s.get (R.PORT_STR_STATE p) x)) :
    u.strandState p = x ∧ ∀ m : Fin 256, m ≠ p → u.strandState m = s.strandState m :=
  h.strandStates_of (Function.update_self ..) fun _ hne => Function.update_of_ne (strandState_ne hne) ..

/-- 13 R492: a Strand that has measured its latency serves. -/
def strandServes (s : State) (p l : Nat) : State :=
  let v := (s.set (R.PORT_STR_STATE p) 4).set (R.PORT_STR_LAMBDA p) l
  let w := v.setStrand p { lastRx := v.up, mirrorDownAt := (v.strand p).mirrorDownAt, runAt := v.up }
  (w.event (portIsland p) 1 0x0305 (beBytes 2 p ++ beBytes 2 (w.get (R.PORT_STR_PEER p)) ++ beBytes 4 l)).sendLinks.clearStrandDown

theorem Reads.strandServes {l : Nat} (h : s.Reads Fld.ofStrand φ) (hl : l ≤ 20000) : (s.strandServes p l).Reads Fld.ofStrand
    (Function.update (Function.update φ (R.PORT_STR_STATE p) 4) (R.PORT_STR_LAMBDA p) l) := by
  have hset := (h.set_strand (strandState_ofStrand p) (show 4 < 2 ^ 3 by decide)).set_strand (strandLambda_ofStrand p) (show l < 2 ^ 15 by omega)
  unfold State.strandServes
  extract_lets v w
  have hw : w.Reads Fld.ofStrand _ := .record hset
  exact hw.eventStrand.sendLinks.clearStrandDown

end State

/-! ### The commands of a Strand's states -/

section
variable (hs : s.awake = true)
include hs

theorem exec_strandPortUp_of_up (hstrand : s.isStrand p = true) (hlinking : s.strandState p = 1) (hup : s.portState p = 3) :
    exec (.strandPortUp t p) s = .next ((s.at_ t).strandTo p 2) := by
  change execStrandPortUp t p s = _
  refine (released_of_awake hs t _).trans (congrArg Host.Outcome.next (if_pos ?_))
  rw [Bool.and_eq_true_iff, Bool.and_eq_true_iff]
  exact ⟨⟨hstrand, decide_eq_true hlinking⟩, decide_eq_true hup⟩

theorem exec_strandHello_of_fit {h : SkHello} (hhello : s.strandState p = 2)
    (hfit : ((s.at_ t).set (R.PORT_STR_PEER p) h.chip).helloBad p h = 0) :
    exec (.strandHello t p h) s = .next (((s.at_ t).set (R.PORT_STR_PEER p) h.chip).strandTo p 3) := by
  change execStrandHello t p h s = _
  exact (released_of_awake hs t _).trans (congrArg Host.Outcome.next ((if_neg (not_not.mpr hhello)).trans (if_pos hfit)))

theorem exec_strandHello_of_unfit {h : SkHello} (hhello : s.strandState p = 2)
    (hbad : ((s.at_ t).set (R.PORT_STR_PEER p) h.chip).helloBad p h ≠ 0) :
    exec (.strandHello t p h) s = .next (((s.at_ t).set (R.PORT_STR_PEER p) h.chip).strandMismatch p
      (((s.at_ t).set (R.PORT_STR_PEER p) h.chip).helloBad p h)) := by
  change execStrandHello t p h s = _
  exact (released_of_awake hs t _).trans (congrArg Host.Outcome.next ((if_neg (not_not.mpr hhello)).trans (if_neg hbad)))

theorem exec_strandMeasureDone_of_some {trips : List (Nat × Nat)} {l : Nat} (hmeasure : s.strandState p = 3) (hl : lambdaOf trips = some l)
    (hbound : l ≤ 20000) : exec (.strandMeasureDone t p trips) s = .next ((s.at_ t).strandServes p l) := by
  change execStrandMeasureDone t p trips s = _
  refine (released_of_awake hs t _).trans (congrArg Host.Outcome.next ((if_neg (not_not.mpr hmeasure)).trans ?_))
  rw [hl]
  exact if_neg (Nat.not_lt.mpr hbound)

theorem exec_strandMeasureDone_of_not {trips : List (Nat × Nat)} (hmeasure : s.strandState p = 3)
    (hall : (lambdaOf trips).all (20000 < ·) = true) : exec (.strandMeasureDone t p trips) s = .next ((s.at_ t).strandMismatch p 32) := by
  change execStrandMeasureDone t p trips s = _
  refine (released_of_awake hs t _).trans (congrArg Host.Outcome.next ((if_neg (not_not.mpr hmeasure)).trans ?_))
  cases hl : lambdaOf trips with
  | none => rfl
  | some l =>
    rw [hl] at hall
    exact if_pos (of_decide_eq_true hall)

theorem exec_strandDown_of_serving (hserving : s.strandState p = 4) (hlost : s.portState p ≠ 3 ∨ (s.strand p).lastRx + 10000 ≤ (s.at_ t).up) :
    exec (.strandDown t p) s = .next ((s.at_ t).strandDown p 1) := by
  change execStrandDown t p s = _
  refine (released_of_awake hs t _).trans (congrArg Host.Outcome.next ((if_neg fun h => ?_).trans (if_pos ?_)))
  · have hfive : s.strandState p = 5 := of_decide_eq_true (Bool.and_eq_true_iff.mp h).1
    omega
  · rw [Bool.and_eq_true_iff, Bool.or_eq_true_iff, Bool.not_eq_true']
    exact ⟨decide_eq_true hserving, hlost.imp decide_eq_false decide_eq_true⟩

theorem exec_strandDown_of_mismatch (hmismatch : s.strandState p = 5) (hdown : s.portState p ≠ 3) :
    exec (.strandDown t p) s = .next (((s.at_ t).strandTo p 1).resolve (portIsland p) (0x400 + p)) := by
  change execStrandDown t p s = _
  refine (released_of_awake hs t _).trans (congrArg Host.Outcome.next (if_pos ?_))
  rw [Bool.and_eq_true_iff, Bool.not_eq_true']
  exact ⟨decide_eq_true hmismatch, decide_eq_false hdown⟩

theorem exec_strandDown_of_alive (hserving : s.strandState p = 4) (hup : s.portState p = 3) (halive : (s.at_ t).up < (s.strand p).lastRx + 10000) :
    exec (.strandDown t p) s = .next (s.at_ t) := by
  change execStrandDown t p s = _
  refine (released_of_awake hs t _).trans (congrArg Host.Outcome.next ((if_neg fun h => ?_).trans (if_neg fun h => ?_)))
  · have hfive : s.strandState p = 5 := of_decide_eq_true (Bool.and_eq_true_iff.mp h).1
    omega
  · rw [Bool.and_eq_true_iff, Bool.or_eq_true_iff, Bool.not_eq_true'] at h
    obtain ⟨-, hdown | hsilent⟩ := h
    · exact of_decide_eq_false hdown hup
    · exact absurd (of_decide_eq_true hsilent) (Nat.not_le.mpr halive)

end

/-! ### The map of a plane -/

namespace State

/-- What a LINK_STATE message leaves: the links of the plane, the messages seen, and whether the twin is there (13 R496, R515), by a name of their own
for the reason that `State.tiles` has one. -/
def atlas (s : State) : List (Nat × List Link) × List (Nat × Nat) × Nat × Bool := (s.skn.map, s.skn.seen, s.up, s.dbl.linkUp)

theorem atlas_of_core (h : u.core = s.core) : u.atlas = s.atlas := by
  rw [atlas, atlas, skn_of_core h, up_of_core h, linkUp_of_core h]

theorem atlas_ite {c : Prop} [Decidable c] {x y : State} (hx : x.atlas = s.atlas) (hy : y.atlas = s.atlas) :
    (if c then x else y).atlas = s.atlas := by
  split <;> assumption

theorem atlas_foldl {α : Type} {op : State → α → State} {l : List α} (h : ∀ s x, (op s x).atlas = s.atlas) : (l.foldl op s).atlas = s.atlas :=
  List.foldlRecOn (motive := fun u : State => u.atlas = s.atlas) l op rfl fun u hu x _ => (h u x).trans hu

theorem setStrand_atlas {k : Nat} {x : Strand} : (s.setStrand k x).atlas = s.atlas := (rfl)

theorem emit_atlas {o : Out} : (s.emit o).atlas = s.atlas := (rfl)

theorem sendUnits_atlas {k : Nat} : (s.sendUnits k n).atlas = s.atlas := by
  have hcount : ((s.strandRun k).bump (R.PORT_STR_CTRL_TX k) n).atlas = s.atlas := (atlas_of_core bump_core).trans setStrand_atlas
  exact setStrand_atlas.trans hcount

theorem skeinBudget_atlas : s.skeinBudget.atlas = s.atlas := by
  have hfar {b : Bool} : State.atlas { s with skn.farCond := b } = s.atlas := (rfl)
  unfold State.skeinBudget
  exact atlas_ite hfar (atlas_ite rfl ((atlas_of_core (raise_core (by decide))).trans hfar))

theorem noteSteps_atlas : s.noteSteps.atlas = s.atlas := (rfl)

/-- 13 R496: a message of another chip is noted, and the map takes its links. -/
def linksNoted (s : State) (id chip : Nat) (links : List Link) : State := { s.note id with skn.map := put chip links s.skn.map }

/-- It goes on by the other Strands. -/
def linksForwarded (s : State) (port id chip : Nat) (links : List Link) : State :=
  (s.ownLinks.filter (fun l => l.lane ≠ port)).foldl (fun (s : State) (l : Link) =>
    ((s.bump R.SKN_MSG_FWD 1).sendUnits l.lane (fragments (8 * links.length))).emit (.linkState l.lane id chip links)) s

theorem linksForwarded_atlas {port id chip : Nat} {links : List Link} : (s.linksForwarded port id chip links).atlas = s.atlas :=
  atlas_foldl fun _ _ => emit_atlas.trans (sendUnits_atlas.trans (atlas_of_core bump_core))

theorem linksNoted_atlas {id chip : Nat} {links : List Link} :
    (s.linksNoted id chip links).atlas = (put chip links s.skn.map, (s.note id).skn.seen, s.up, s.dbl.linkUp) := (rfl)

/-- The twin hears of it, and the budget and the paths follow (13 R496, R502). -/
def linksTold (s : State) (chip : Nat) (links : List Link) : State :=
  (if s.dbl.linkUp then s.dblData (8 * links.length) (.planeMap chip links) else s).skeinBudget.noteSteps

theorem linksTold_atlas {chip : Nat} {links : List Link} : (s.linksTold chip links).atlas = s.atlas :=
  noteSteps_atlas.trans (skeinBudget_atlas.trans (atlas_ite (atlas_of_core dblData_core) rfl))

theorem linksTold_sent {chip : Nat} {links : List Link} (hup : s.dbl.linkUp = true) : .planeMap chip links ∈ (s.linksTold chip links).out := by
  unfold linksTold
  rw [if_pos hup]
  refine (Keeps.refl _).skeinBudget.noteSteps.out_ok.subset ?_
  exact List.mem_append_right _ (List.mem_singleton_self _)

theorem note_seen {id : Nat} {v : State} (hseen : v.skn.seen = (s.note id).skn.seen) (hup : v.up = s.up) : v.seen id = true := by
  unfold seen
  rw [hseen, hup]
  refine List.any_eq_true.mpr ⟨(id, s.up), List.mem_append_right _ (List.mem_singleton_self _), ?_⟩
  rw [Bool.and_eq_true_iff]
  exact ⟨decide_eq_true rfl, decide_eq_true (Nat.lt_add_of_pos_right (by decide))⟩

theorem map_of_atlas {a : List (Nat × List Link) × List (Nat × Nat) × Nat × Bool} (h : s.atlas = a) :
    s.skn.map = a.1 ∧ s.skn.seen = a.2.1 ∧ s.up = a.2.2.1 ∧ s.dbl.linkUp = a.2.2.2 := by
  subst h
  exact ⟨rfl, rfl, rfl, rfl⟩

end State

section
variable (hs : s.awake = true)
include hs

theorem exec_linkState_of_new {port id chip : Nat} {links : List Link} (hnew : (s.at_ t).seen id = false) :
    exec (.linkState t (.rx port id chip links)) s =
      .next ((((s.at_ t).linksNoted id chip links).linksForwarded port id chip links).linksTold chip links) := by
  change execLinkState t (.rx port id chip links) s = _
  exact (released_of_awake hs t _).trans (congrArg Host.Outcome.next (if_neg (Bool.eq_false_iff.mp hnew)))

/-- 13 R496: a new LINK_STATE message is noted, its links enter the map, and the twin hears of them. -/
theorem linkState_enters {port id chip : Nat} {links : List Link} (hnew : (s.at_ t).seen id = false) :
    ∃ s', exec (.linkState t (.rx port id chip links)) s = .next s' ∧ look chip s'.skn.map = some links ∧ s'.seen id = true ∧
      (s.dbl.linkUp = true → .planeMap chip links ∈ s'.out) := by
  have hforwarded := (State.linksForwarded_atlas (s := (s.at_ t).linksNoted id chip links) (port := port) (id := id) (chip := chip)
    (links := links)).trans State.linksNoted_atlas
  obtain ⟨hmap, hseen, hup, -⟩ := State.map_of_atlas ((State.linksTold_atlas (chip := chip) (links := links)).trans hforwarded)
  obtain ⟨-, -, -, hlink⟩ := State.map_of_atlas hforwarded
  refine ⟨_, exec_linkState_of_new hs hnew, ?_, State.note_seen (s := s.at_ t) hseen hup, fun hdbl => State.linksTold_sent (hlink.trans hdbl)⟩
  rw [hmap, look_put_same]

end

/-! ### What a Strand receives and answers -/

section
variable (hs : s.awake = true)
include hs

theorem exec_strandUnitRx_of_serving {x : SkUnit} (hserving : s.strandState p = 4) :
    exec (.strandUnitRx t p x) s = .next (((s.at_ t).phyCounts p x.fecCor x.fecUnc x.blockErr).strandUnit p x) := by
  change execStrandUnitRx t p x s = _
  exact (released_of_awake hs t _).trans (congrArg Host.Outcome.next (if_pos hserving))

theorem exec_strandUnitRx_of_other {x : SkUnit} (hother : s.strandState p ≠ 4) : exec (.strandUnitRx t p x) s = .next (s.at_ t) := by
  change execStrandUnitRx t p x s = _
  exact (released_of_awake hs t _).trans (congrArg Host.Outcome.next (if_neg hother))

theorem exec_strandCreditSend_of_serving {heldM heldC : Nat} (hserving : s.strandState p = 4) :
    exec (.strandCreditSend t p heldM heldC) s = .next ((s.at_ t).emit (.credit p (unitHeader 0 2 false 0
      (((s.strand p).nextM + 65536 - heldM % 65536) % 65536) (((s.strand p).nextC + 65536 - heldC % 65536) % 65536)))) := by
  change execStrandCreditSend t p heldM heldC s = _
  exact (released_of_awake hs t _).trans (congrArg Host.Outcome.next (if_neg (not_not.mpr hserving)))

theorem exec_strandHelloSend_of_hello (hhello : s.strandState p = 2) :
    exec (.strandHelloSend t p) s = .next ((s.at_ t).emit (.hello p (s.ownHello.body 0 0))) := by
  change execStrandHelloSend t p s = _
  exact (released_of_awake hs t _).trans (congrArg Host.Outcome.next (if_pos hhello))

theorem exec_strandHelloSend_of_measure (hmeasure : s.strandState p = 3) :
    exec (.strandHelloSend t p) s = .next ((s.at_ t).emit (.echo p (s.ownHello.body t 0))) := by
  change execStrandHelloSend t p s = _
  refine (released_of_awake hs t _).trans (congrArg Host.Outcome.next ((if_neg fun h => ?_).trans (if_pos hmeasure)))
  exact absurd (hmeasure.symm.trans h) (by decide)

theorem exec_strandEcho_of_ask (hlow : 2 ≤ s.strandState p) (hhigh : s.strandState p ≤ 4) :
    exec (.strandEcho t p false) s = .next ((s.at_ t).emit (.echo p (s.ownHello.body t t))) := by
  change execStrandEcho t p false s = _
  refine (released_of_awake hs t _).trans (congrArg Host.Outcome.next (if_pos ?_))
  rw [Bool.and_eq_true_iff, Bool.and_eq_true_iff]
  exact ⟨⟨rfl, decide_eq_true hlow⟩, decide_eq_true hhigh⟩

theorem exec_strandEcho_of_reply : exec (.strandEcho t p true) s = .next (s.at_ t) := by
  change execStrandEcho t p true s = _
  exact (released_of_awake hs t _).trans (congrArg Host.Outcome.next (if_neg Bool.false_ne_true))

theorem exec_mirrorHoldExpiry_of_past (hstrand : s.isStrand p = true) (hout : s.strandState p ≠ 4)
    (hpast : (s.strand p).downAt.any (fun v => v + s.mirrorHold ≤ (s.at_ t).up) = true) :
    exec (.mirrorHoldExpiry t p) s = .next { s.at_ t with skn.expired := s.skn.expired.filter (· ≠ p.val) ++ [p.val] } := by
  change execMirrorHoldExpiry t p s = _
  refine (released_of_awake hs t _).trans (congrArg Host.Outcome.next (if_pos ?_))
  rw [Bool.and_eq_true_iff, Bool.or_eq_true_iff, Bool.and_eq_true_iff]
  exact ⟨hstrand, .inl ⟨decide_eq_true hout, hpast⟩⟩

theorem exec_linkState_send (hskein : s.recs 0x01B0 ≠ []) : exec (.linkState t .send) s = .next (s.at_ t).sendLinks := by
  change execLinkState t .send s = _
  refine (released_of_awake hs t _).trans (congrArg Host.Outcome.next (if_neg fun h => hskein ?_))
  exact List.isEmpty_iff.mp h

theorem exec_linkState_of_seen {port id chip : Nat} {links : List Link} (hseen : (s.at_ t).seen id = true) :
    exec (.linkState t (.rx port id chip links)) s = .next ((s.at_ t).bump R.SKN_MSG_DUP 1) := by
  change execLinkState t (.rx port id chip links) s = _
  exact (released_of_awake hs t _).trans (congrArg Host.Outcome.next (if_pos hseen))

theorem exec_linkState_twin {chip : Nat} {links : List Link} : exec (.linkState t (.twin chip links)) s = .next
    (if s.dbl.linkUp then ({ s.at_ t with skn.twinMap := put chip links s.skn.twinMap } : State).noteMirrors.noteSteps.clearStrandDown
      else s.at_ t) := by
  change execLinkState t (.twin chip links) s = _
  exact released_of_awake hs t _

end

end

/-- Settles O43: a change of a Strand writes STR.STATE of its port, and the messages that it sends write no port's. -/
theorem strands : Obligations.Strands := by
  unfold Obligations.Strands
  constructor
  · intro t p s hs hformed u goes
    have hreads : u.Reads Fld.ofStrand s.get := State.Reads.of_formed hformed t _
    have hpeer {chip : Nat} : (u.set (R.PORT_STR_PEER p) chip).Reads Fld.ofStrand s.get := hreads.set_beside fun _ hg => Fld.ofStrand_apart hg
    refine ⟨fun hstrand hlinking hup => ⟨_, exec_strandPortUp_of_up hs hstrand hlinking hup, (hreads.strandTo (by decide)).strandStates⟩,
      fun h hhello hfit => ⟨_, exec_strandHello_of_fit hs hhello hfit, (hpeer.strandTo (by decide)).strandStates⟩,
      fun h hhello hbad => ⟨_, exec_strandHello_of_unfit hs hhello hbad, hpeer.strandMismatch.strandStates⟩,
      fun trips l hmeasure hl hbound => ?serving,
      fun trips hmeasure hall => ⟨_, exec_strandMeasureDone_of_not hs hmeasure hall, hreads.strandMismatch.strandStates⟩,
      fun hserving hlost => ⟨_, exec_strandDown_of_serving hs hserving hlost, (hreads.strandDown (by decide)).strandStates⟩,
      fun hmismatch hdown => ⟨_, exec_strandDown_of_mismatch hs hmismatch hdown, State.Reads.strandStates (.record (hreads.strandTo (by decide)))⟩,
      exec_strandDown_of_alive hs⟩
    have hserves := hreads.strandServes (p := p) hbound
    refine ⟨⟨_, exec_strandMeasureDone_of_some hs hmeasure hl hbound, hserves.strandStates_of ?_ fun m hne => ?_⟩,
      _, exec_strandMeasureDone_of_some hs hmeasure hl hbound, (hserves.shows _ (strandLambda_ofStrand p)).trans (Function.update_self ..)⟩
    · rw [Function.update_of_ne strandState_ne_lambda, Function.update_self]
    · rw [Function.update_of_ne strandState_ne_lambda, Function.update_of_ne (strandState_ne hne)]
      rfl
  · intro t p s hs u
    exact ⟨fun x => exec_strandUnitRx_of_serving hs, fun x => exec_strandUnitRx_of_other hs, fun m c => exec_strandCreditSend_of_serving hs,
      exec_strandHelloSend_of_hello hs, exec_strandHelloSend_of_measure hs, exec_strandEcho_of_ask hs, exec_strandEcho_of_reply hs,
      exec_mirrorHoldExpiry_of_past hs, exec_linkState_send hs, fun port id chip links => exec_linkState_of_seen hs,
      fun port id chip links => linkState_enters hs, fun chip links hup => (exec_linkState_twin hs).trans (congrArg Host.Outcome.next (if_pos hup)),
      fun chip links hdown => (exec_linkState_twin hs).trans (congrArg Host.Outcome.next (if_neg (Bool.eq_false_iff.mp hdown)))⟩

end Sys2Proof.Machine

/-! ## The roles of a pair -/

namespace Sys2Proof.Machine

section
variable {s u : State} {α : Type} {f : Fld} {t : Time} {n v isl cls code tag : Nat} {detail : List Byte} {r : Role}

/-- What the chip keeps of the pair, but for the number of its next frame and the bulk data that waits: what a role is taken by (14 Table 14.3), by a
name of its own for the reason that `State.tiles` has one. -/
def State.duo (s : State) : Dbl := { s.dbl with seq := 0, bulks := [] }

namespace State

theorem role_of_duo {x : Dbl} (h : s.duo = x) : s.dbl.role = x.role := by
  rw [← h]
  rfl

theorem tieOut_of_duo {x : Dbl} (h : s.duo = x) : s.dbl.tieOut = x.tieOut := by
  rw [← h]
  rfl

theorem tieIn_of_duo {x : Dbl} (h : s.duo = x) : s.dbl.tieIn = x.tieIn := by
  rw [← h]
  rfl

theorem side_of_duo {x : Dbl} (h : s.duo = x) : s.dbl.side = x.side := by
  rw [← h]
  rfl

theorem startWait_of_duo {x : Dbl} (h : s.duo = x) : s.dbl.startWait = x.startWait := by
  rw [← h]
  rfl

theorem duo_of_core (h : u.core = s.core) : u.duo = s.duo := congrArg (fun x : Core => { x.dbl with bulks := [] }) h

theorem duo_ite {c : Prop} [Decidable c] {x y : State} {d : Dbl} (hx : x.duo = d) (hy : y.duo = d) : (if c then x else y).duo = d := by
  split <;> assumption

theorem duo_foldl {op : State → α → State} {l : List α} (h : ∀ s x, (op s x).duo = s.duo) : (l.foldl op s).duo = s.duo :=
  List.foldlRecOn (motive := fun u : State => u.duo = s.duo) l op rfl fun u hu x _ => (h u x).trans hu

theorem duo_foldl_mem {op : State → α → State} {l : List α} {d : Dbl} (hs : s.duo = d) (h : ∀ s x, (op s x).duo = s.duo) :
    (l.foldl op s).duo = d :=
  (duo_foldl h).trans hs

theorem sicp_duo {sicp : Sicp} : State.duo { s with sicp := sicp } = s.duo := (rfl)

theorem boot_duo {boot : Boot} : State.duo { s with boot := boot } = s.duo := (rfl)

theorem whl_duo {whl : Whl} : State.duo { s with whl := whl } = s.duo := (rfl)

theorem set_duo : (s.set f v).duo = s.duo := (rfl)

theorem bump_duo : (s.bump f n).duo = s.duo := duo_of_core bump_core

theorem peak_duo : (s.peak f v).duo = s.duo := duo_ite rfl rfl

theorem event_duo : (s.event isl cls code detail).duo = s.duo := duo_of_core event_core

theorem sendVia_duo {p : Nat} {m : Out} : (s.sendVia p m).duo = s.duo := duo_of_core sendVia_core

theorem sessShow_duo {tenant : Nat} : (s.sessShow tenant).duo = s.duo := by
  unfold sessShow
  exact set_duo.trans (set_duo.trans set_duo)

theorem stageShow_duo : s.stageShow.duo = s.duo := by
  unfold stageShow
  dsimp only
  rw [set_duo, set_duo, set_duo, set_duo]

theorem stageDiscard_duo {cause : Nat} : (s.stageDiscard cause).duo = s.duo := by
  unfold stageDiscard
  split
  · rfl
  · exact event_duo.trans (stageShow_duo.trans ((boot_duo (s := s.zeroStage)).trans boot_duo))

theorem ownSessionsEnd_duo : s.ownSessionsEnd.duo = s.duo := by
  unfold ownSessionsEnd
  extract_lets gone v sicp
  have hv : v.duo = s.duo := duo_ite stageDiscard_duo rfl
  exact duo_ite rfl (duo_foldl_mem ((sicp_duo (s := v)).trans hv) fun _ _ => sendVia_duo.trans sessShow_duo)

/-- 14 Table 14.3: a chip that takes a role drives its tie code, and keeps the rest of the pair. -/
theorem setRole_duo (hne : s.dbl.role ≠ r) : (s.setRole r).duo = { s.duo with role := r, tieOut := r.tie } := by
  unfold setRole
  rw [if_neg hne]
  refine event_duo.trans (duo_ite (set_duo.trans ?_) ?_)
  all_goals exact duo_foldl_mem (duo_ite (ownSessionsEnd_duo.trans rfl) rfl) fun _ _ => sessShow_duo

theorem setRole_same (h : s.dbl.role = r) : s.setRole r = s := if_pos h

theorem pulseShow_duo : s.pulseShow.duo = s.duo := by
  have hfold {s : State} {k : Nat} {t : Time} : (s.foldPulse k t).duo = s.duo := by
    unfold foldPulse
    split
    · exact whl_duo.trans bump_duo
    · rfl
  unfold pulseShow
  refine duo_foldl fun u k => ?_
  have hset {a b : Nat} : ((u.set (R.OUT_QUIET k) a).set (R.OUT_MODE k) b).duo = u.duo := (rfl)
  exact duo_ite (whl_duo.trans (hfold.trans hset)) (duo_ite hset (whl_duo.trans hset))

theorem sessShow_core {tenant : Nat} : (s.sessShow tenant).core = s.core := by
  unfold sessShow
  exact set_core.trans (set_core.trans set_core)

theorem boot_ite {c : Prop} [Decidable c] {x y : State} {b : Boot} (hx : x.boot = b) (hy : y.boot = b) : (if c then x else y).boot = b := by
  split <;> assumption

/-- A role in which sessions at own addresses go on. -/
theorem setRole_boot (hr : r ≠ .off ∧ r ≠ .yielded ∧ r ≠ .detached) : (s.setRole r).boot = s.boot := by
  obtain ⟨hoff, hyielded, hdetached⟩ := hr
  have hstay : ¬(Decidable.decide (r = .off) || Decidable.decide (r = .yielded) || Decidable.decide (r = .detached)) = true := by
    rw [decide_eq_false hoff, decide_eq_false hyielded, decide_eq_false hdetached]
    decide
  by_cases hsame : s.dbl.role = r
  · rw [setRole_same hsame]
  · unfold setRole
    rw [if_neg hsame]
    dsimp only
    rw [if_neg hstay]
    refine (boot_of_core event_core).trans (boot_ite ((boot_of_core set_core).trans ?_) ?_)
    all_goals exact (boot_of_core (core_foldl fun _ _ => sessShow_core)).trans rfl

/-! ### The start of service -/

/-- Since when the chip serves, and the report of its start (18 R679, R680), by a name of their own for the reason that `State.tiles` has one. -/
def began (s : State) : Option Nat × Option StartReport := (s.boot.served, s.boot.startReport)

theorem began_of_boot (h : u.boot = s.boot) : u.began = s.began := by
  rw [began, began, h]

theorem began_ite {c : Prop} [Decidable c] {x y : State} {b : Option Nat × Option StartReport} (hx : x.began = b) (hy : y.began = b) :
    (if c then x else y).began = b := by
  split <;> assumption

theorem rollback_keeps : s.rollback.boot = s.boot ∧ s.rollback.duo = s.duo ∧ s.rollback.up = s.up := by
  unfold rollback
  split
  · exact ⟨(boot_of_core event_core).trans rfl, event_duo.trans rfl, (up_of_core event_core).trans rfl⟩
  · exact ⟨rfl, rfl, rfl⟩

/-- What of a skipped copy, and of a copy made, the start of service logs (19 R693, R694). -/
def skippedEvents (s : State) : State :=
  match s.boot.copySkipped with
  | some d => { s with boot.copySkipped := none }.raise 39 2 0x0708 tagCopySkipped (beBytes 1 d)
  | none => s

theorem skippedEvents_keeps : s.skippedEvents.began = s.began ∧ s.skippedEvents.duo = s.duo := by
  unfold skippedEvents
  split
  · have hcore {u : State} {d : Nat} : (u.raise 39 2 0x0708 tagCopySkipped (beBytes 1 d)).core = u.core := raise_core (by decide)
    exact ⟨(began_of_boot (boot_of_core hcore)).trans rfl, (duo_of_core hcore).trans boot_duo⟩
  · exact ⟨rfl, rfl⟩

def doneEvents (s : State) : State :=
  match s.boot.copyDone with
  | some (fo, fn, so, sn) =>
    { s with boot.copyDone := none }.event 39 1 0x0709 (beBytes 4 fo ++ beBytes 4 fn ++ beBytes 2 so ++ beBytes 2 sn)
  | none => s

theorem doneEvents_keeps : s.doneEvents.began = s.began ∧ s.doneEvents.duo = s.duo := by
  unfold doneEvents
  split
  · exact ⟨(began_of_boot (boot_of_core event_core)).trans rfl, event_duo.trans boot_duo⟩
  · exact ⟨rfl, rfl⟩

theorem copyEvents_eq : s.copyEvents = s.skippedEvents.doneEvents := by
  unfold copyEvents skippedEvents doneEvents
  rfl

theorem copyEvents_keeps : s.copyEvents.began = s.began ∧ s.copyEvents.duo = s.duo := by
  obtain ⟨hbegan, hduo⟩ := skippedEvents_keeps (s := s)
  obtain ⟨hbegan', hduo'⟩ := doneEvents_keeps (s := s.skippedEvents)
  rw [copyEvents_eq]
  exact ⟨hbegan'.trans hbegan, hduo'.trans hduo⟩

theorem whl_boot {whl : Whl} : State.boot { s with whl := whl } = s.boot := (rfl)

theorem pulseShow_boot : s.pulseShow.boot = s.boot := by
  have hfold {s : State} {k : Nat} {t : Time} : (s.foldPulse k t).boot = s.boot := by
    unfold foldPulse
    split
    · exact whl_boot.trans (boot_of_core bump_core)
    · rfl
  unfold pulseShow
  refine List.foldlRecOn (motive := fun u : State => u.boot = s.boot) _ _ rfl fun u hu k _ => ?_
  have hset {a b : Nat} : ((u.set (R.OUT_QUIET k) a).set (R.OUT_MODE k) b).boot = s.boot := hu
  exact boot_ite (whl_boot.trans (hfold.trans hset)) (boot_ite hset (whl_boot.trans hset))

/-- The chip that serves, before it takes its role: since when, and with a report (18 R679, R680). -/
def servesFrom (s : State) : State := ((({ s with boot.served := some s.up } : State).rollback.status 8 0).report 0).copyEvents.pulseShow

theorem report_served {offset : Nat} : (s.report offset).boot.served = s.boot.served := (rfl)

theorem report_isSome {offset : Nat} : (s.report offset).boot.startReport.isSome = true := (rfl)

theorem report_duo {offset : Nat} : (s.report offset).duo = s.duo := boot_duo

theorem served_of_began (h : u.began = s.began) : u.boot.served = s.boot.served ∧ u.boot.startReport = s.boot.startReport :=
  Prod.mk.inj h

theorem servesFrom_keeps : s.servesFrom.boot.served = some s.up ∧ s.servesFrom.boot.startReport.isSome = true ∧ s.servesFrom.duo = s.duo := by
  obtain ⟨hboot, hduo, -⟩ := rollback_keeps (s := { s with boot.served := some s.up })
  rw [servesFrom]
  generalize ({ s with boot.served := some s.up } : State).rollback = v at *
  have hserved : v.boot.served = some s.up := congrArg Boot.served hboot
  obtain ⟨hbegan, hcopy⟩ := copyEvents_keeps (s := (v.status 8 0).report 0)
  obtain ⟨hsince, hreport⟩ := served_of_began ((began_of_boot pulseShow_boot).trans hbegan)
  refine ⟨?_, ?_, ?_⟩
  · rw [hsince, report_served, boot_of_core status_core, hserved]
  · rw [hreport, report_isSome]
  · rw [pulseShow_duo, hcopy, report_duo, duo_of_core status_core, hduo, boot_duo]

theorem servesFrom_up : s.servesFrom.up = s.up := by
  have hafter : Keeps ({ s with boot.served := some s.up } : State).rollback s.servesFrom :=
    (Keeps.refl ({ s with boot.served := some s.up } : State).rollback).status.report.copyEvents.pulseShow
  exact hafter.up_eq.trans rollback_keeps.2.2

theorem rbSteps_of_fuses {x : Nat × Nat × Nat} (h : s.fuses = x) : s.keys.rbSteps = x.2.2 := by
  rw [← h]
  rfl

theorem dbl_boot {dbl : Dbl} : State.boot { s with dbl := dbl } = s.boot := (rfl)

theorem roleFromOff_boot : s.roleFromOff.boot = s.boot := by
  have hset {r : Role} {dbl : Dbl} (hr : r ≠ .off ∧ r ≠ .yielded ∧ r ≠ .detached) : State.boot { s.setRole r with dbl := dbl } = s.boot :=
    (dbl_boot (s := s.setRole r)).trans (setRole_boot hr)
  unfold roleFromOff
  exact boot_ite (hset (by decide)) (boot_ite (hset (by decide)) rfl)

/-- 14 Table 14.3: a chip that reads HOLD joins. -/
theorem roleFromOff_joins (hoff : s.dbl.role = .off) (htie : s.dbl.tieIn = .hold) : s.roleFromOff.dbl.role = .joining := by
  unfold roleFromOff
  rw [if_pos htie]
  exact role_of_duo (setRole_duo (s := s) (r := .joining) (by rw [hoff]; decide))

/-- 14 Table 14.3: side A that does not takes control alone. -/
theorem roleFromOff_solo (hoff : s.dbl.role = .off) (htie : s.dbl.tieIn ≠ .hold) (hside : s.dbl.side = false) :
    s.roleFromOff.dbl.role = .solo ∧ s.roleFromOff.dbl.tieOut = .hold := by
  have hduo := setRole_duo (s := s) (r := .solo) (by rw [hoff]; decide)
  unfold roleFromOff
  rw [if_neg htie, if_pos (by rw [hside]; rfl)]
  exact ⟨role_of_duo hduo, tieOut_of_duo hduo⟩

/-- 14 R531: side B waits. -/
theorem roleFromOff_waits (hoff : s.dbl.role = .off) (htie : s.dbl.tieIn ≠ .hold) (hside : s.dbl.side = true) :
    s.roleFromOff.dbl.role = .off ∧ s.roleFromOff.dbl.startWait = some s.up := by
  unfold roleFromOff
  rw [if_neg htie, if_neg (by rw [hside]; decide)]
  exact ⟨hoff, rfl⟩

end State

/-! ### The commands -/

theorem live_of_running (hs : s.flt.stopped = false) (t : Time) (act : State → State) : live t s act = .next (act (s.at_ t)) :=
  if_neg (Bool.eq_false_iff.mp hs)

theorem exec_chipServes_of_ready (hs : s.flt.stopped = false) (hstatus : s.get R.BOOT_STAT_STATUS = 7) (hready : s.whl.ready = true) :
    exec (.chipServes t) s = .next (s.at_ t).servesFrom.roleFromOff := by
  change execChipServes t s = _
  refine (live_of_running hs t _).trans (congrArg Host.Outcome.next (if_neg fun h => ?_))
  rw [Bool.or_eq_true_iff, Bool.not_eq_true'] at h
  obtain hother | hnot := h
  · exact of_decide_eq_true hother hstatus
  · exact Bool.false_ne_true (hnot.symm.trans hready)

section
variable (hs : s.inService = true)
include hs

theorem exec_startWaitExpiry_of_due (hwait : s.dbl.startWait = some v) (hrole : s.dbl.role = .off) (htie : s.dbl.tieIn ≠ .hold)
    (hdue : v + s.startWait ≤ (s.at_ t).up) : exec (.startWaitExpiry t) s =
      .next { (s.at_ t).setRole .solo with dbl.startWait := none, dbl.dualFrom := (if (s.at_ t).dbl.linkUp then none else some (s.at_ t).up) } := by
  change execStartWaitExpiry t s = _
  refine (served_of_inService hs t _).trans (congrArg Host.Outcome.next ?_)
  rw [show (s.at_ t).dbl.startWait = some v from hwait]
  refine if_pos ?_
  rw [Bool.and_eq_true_iff, Bool.and_eq_true_iff]
  exact ⟨⟨decide_eq_true hrole, decide_eq_true htie⟩, decide_eq_true hdue⟩

theorem exec_rejoin_of_may (hrole : s.dbl.role = .detached ∨ s.dbl.role = .yielded) (hmay : (s.at_ t).mayRejoin = true) :
    exec (.rejoin t) s = .next { ((s.at_ t).setRole .joining).dblSend 1 0 (s.at_ t).helloBody with
      dbl.rejoinAsked := false, dbl.snapped := false, dbl.queued := [], dbl.caughtUp := false, dbl.catchup := 0, dbl.copyFails := 0
      dbl.quietAfter := none } := by
  change execRejoin t s = _
  refine (served_of_inService hs t _).trans (congrArg Host.Outcome.next (if_pos ?_))
  rw [Bool.and_eq_true_iff, Bool.or_eq_true_iff]
  exact ⟨hrole.imp decide_eq_true decide_eq_true, hmay⟩

end

end

/-- Settles O22: the start of service keeps the pair until its last step, which takes the role. -/
theorem chipTakesItsRole : Obligations.ChipTakesItsRole := by
  unfold Obligations.ChipTakesItsRole
  constructor
  · intro t s hs hstatus hready hoff
    obtain ⟨hserved, hreport, hduo⟩ := State.servesFrom_keeps (s := s.at_ t)
    have hrole : (s.at_ t).servesFrom.dbl.role = .off := (State.role_of_duo hduo).trans hoff
    have htie : (s.at_ t).servesFrom.dbl.tieIn = s.dbl.tieIn := (State.tieIn_of_duo hduo).trans rfl
    have hside : (s.at_ t).servesFrom.dbl.side = s.dbl.side := (State.side_of_duo hduo).trans rfl
    have hfuses : (s.at_ t).servesFrom.roleFromOff.fuses = _ := State.entersService_fuses (s := s.at_ t)
    refine ⟨_, exec_chipServes_of_ready hs hstatus hready, ?_, ?_, State.rbSteps_of_fuses hfuses, fun hhold => ?_, fun hnot ha => ?_, fun hnot hb => ?_⟩
    · rw [State.roleFromOff_boot, hserved]
    · rw [State.roleFromOff_boot, hreport]
    · exact State.roleFromOff_joins hrole (htie.trans hhold)
    · exact State.roleFromOff_solo hrole (htie.trans_ne hnot) (hside.trans ha)
    · obtain ⟨hstays, hwaits⟩ := State.roleFromOff_waits hrole (htie.trans_ne hnot) (hside.trans hb)
      exact ⟨hstays, hwaits.trans (congrArg some State.servesFrom_up)⟩
  · intro t s hs
    refine ⟨fun v hwait hrole htie hdue => ?_, fun hrole hmay => ?_⟩
    · have hduo := State.setRole_duo (s := s.at_ t) (r := .solo) (show s.dbl.role ≠ .solo by rw [hrole]; decide)
      exact ⟨_, exec_startWaitExpiry_of_due hs hwait hrole htie hdue, State.role_of_duo hduo, State.tieOut_of_duo hduo, rfl⟩
    · have hduo := State.setRole_duo (s := s.at_ t) (r := .joining)
        (show s.dbl.role ≠ .joining by obtain h | h := hrole <;> rw [h] <;> decide)
      exact ⟨_, exec_rejoin_of_may hs hrole hmay, State.role_of_duo hduo, rfl, rfl,
        List.mem_append_right _ (List.mem_singleton_self _)⟩

end Sys2Proof.Machine

/-! ## The frames of the doubling link -/

namespace Sys2Proof.Machine

section
variable {s : State} {t : Time} {h : DblHead} {port pair : Nat}

/-- What a good frame of the doubling link does on a chip that is released. -/
theorem dblFrame_of_good (hs : s.awake = true) (hgood : h.good = true) (act : State → State) : dblFrame t h s act = .next (act (s.at_ t)) :=
  (released_of_awake hs t _).trans (congrArg Host.Outcome.next (if_pos hgood))

/-- 13 R514: a CLAIM that the twin hands over leaves in a CONTROL unit of its Strand. -/
theorem exec_dblHandoff_claim (hs : s.awake = true) (hgood : h.good = true) (hup : s.dbl.linkUp = true) (hserving : s.serving = true)
    (hstrand : s.strandState port = 4) :
    exec (.dblHandoff t h (.claim port pair)) s = .next (((s.at_ t).sendUnits port 1).emit (.claim port pair)) := by
  change execDblHandoff t h (.claim port pair) s = _
  refine (dblFrame_of_good hs hgood _).trans (congrArg Host.Outcome.next ((if_neg fun hnot => ?_).trans (if_pos hstrand)))
  rw [Bool.or_eq_true_iff, Bool.not_eq_true', Bool.not_eq_true'] at hnot
  obtain hdown | hnot := hnot
  · exact Bool.false_ne_true (hdown.symm.trans hup)
  · exact Bool.false_ne_true (hnot.symm.trans hserving)

/-- 13 R490: a unit that leaves is counted in what the chip keeps of its Strand. -/
theorem State.sendUnits_strand {n : Nat} : (look port (s.sendUnits port n).skn.strands).isSome = true := by
  have hput : ∃ x m, (s.sendUnits port n).skn.strands = put port x m := ⟨_, _, rfl⟩
  obtain ⟨x, m, heq⟩ := hput
  rw [heq, look_put_same]
  rfl

end

/-- A serving chip with its doubling link up and a Strand that serves on its first port. -/
def strandChip : State := { (atS 8).set (R.PORT_STR_STATE 0) 4 with dbl.linkUp := true }

/-- Refutes O45: a CLAIM that the twin hands over leaves in a unit of the Strand, which counts it in CTRL_TX and against its credit, and the statement
gives the state without that unit. The chip above sends such a CLAIM. -/
theorem not_doublingFrames : ¬ Obligations.DoublingFrames := by
  intro h
  have hs : strandChip.awake = true := by decide +kernel
  have hserving : strandChip.serving = true := by decide +kernel
  have hstrand : strandChip.strandState 0 = 4 := by decide +kernel
  obtain ⟨-, hgood⟩ := h
  obtain ⟨-, -, -, -, -, -, -, -, -, -, hclaim, -⟩ := hgood 9 ⟨true, 3, false⟩ strandChip hs rfl
  have hboth := (exec_dblHandoff_claim (t := 9) (h := ⟨true, 3, false⟩) (pair := 0) hs rfl rfl hserving hstrand).symm.trans
    (hclaim 0 0 rfl hserving hstrand)
  have hstrands := congrArg (fun u : State => (look 0 u.skn.strands).isSome) (Host.Outcome.next.inj hboth)
  have hnone : (look 0 ((strandChip.at_ 9).emit (.claim 0 0)).skn.strands).isSome = false := by decide +kernel
  have hsome := State.sendUnits_strand (s := strandChip.at_ 9) (port := 0) (n := 1)
  exact Bool.false_ne_true (hnone.symm.trans (hstrands.symm.trans hsome))

end Sys2Proof.Machine

/-! ## Counters beside the table of tenants -/

namespace Sys2Proof.Machine

/-- A standby that is to swap, with a session whose tenant number lies beyond those of the table of tenants (16 Table 16.10). -/
def farTenantChip : State :=
  { atS 8 with dbl.role := .standby, dbl.linkUp := true, dbl.swapPend := some 5, sicp.sessions := [{ cli true with tenant := 0x23F02 }] }

theorem farTenantChip_swaps : ends (.dblSwap 9 ⟨true, 4, false⟩ [] []) farTenantChip (fun s' => s'.get R.DBL_SWAPS ≠ 1) = true := by
  decide +kernel

/-- Refutes O47: the statement bounds no tenant number, and the count of the sessions of tenant 0x23F02 would stand where SWAPS of DBL stands. The chip
above has one session of that tenant; when it becomes ACTIVE by a swap the count is shown, and SWAPS goes from 0 to 2. -/
theorem not_controlIsHandedOver : ¬ Obligations.ControlIsHandedOver := by
  intro h
  obtain ⟨-, hhanded⟩ := h
  obtain ⟨-, hswap⟩ := hhanded 9 ⟨true, 4, false⟩ farTenantChip (by decide +kernel) (by decide +kernel) rfl rfl
  obtain ⟨s', hnext, -, -, -, hcount⟩ := hswap 5 rfl rfl
  obtain ⟨u, hnext', hother⟩ := ends_next farTenantChip_swaps
  have hsame : s' = u := Host.Outcome.next.inj (hnext.symm.trans hnext')
  have hzero : farTenantChip.get R.DBL_SWAPS = 0 := by decide +kernel
  rw [hsame, hzero] at hcount
  exact of_decide_eq_true hother hcount

end Sys2Proof.Machine

/-! ## The loss of the doubling link -/

namespace Sys2Proof.Machine

/-! ### What the change of a role leaves

ERR.DOWN of DBL and the latched bit of DBL stand at offset 4 of their windows, and no count or state that a change of the role writes stands at that
place in 256 bytes, whatever tenant, port or Strand it is of. -/

/-- ERR.DOWN of DBL and its latched bit (14 Table 14.13, 20 Table 20.9). -/
def Fld.ofLoss (g : Fld) : Prop := g = R.DBL_ERR_DOWN ∨ g = fltBit 37

/-- The place of a chip in its pair: its role, what it drives and reads at the tie lines, and whether the doubling link is up (14 Tables 14.1, 14.3). -/
structure Seat where
  role : Role
  tieOut : Tie
  tieIn : Tie
  linkUp : Bool

def Dbl.seat (x : Dbl) : Seat := ⟨x.role, x.tieOut, x.tieIn, x.linkUp⟩

/-- The two bits read as `φ` gives, and the chip has the place `d` in its pair. -/
structure State.Stands (s : State) (φ : Fld → Nat) (d : Seat) : Prop where
  reads : s.Reads Fld.ofLoss φ
  seat : s.dbl.seat = d

section
variable {s u : State} {α : Type} {φ : Fld → Nat} {d : Seat} {f : Fld} {t : Time} {n v p isl code : Nat} {detail : List Byte} {r : Role} {m : Out}

namespace State

theorem seat_of_duo {x : Dbl} (h : s.duo = x) : s.dbl.seat = x.seat := by
  rw [← h]
  rfl

theorem Stands.record {now up free pending wide out boot flt sicp xp sdi bob dram aud mv probe eth ip whl keys spn skn rtc} (h : s.Stands φ d) :
    Stands ⟨now, up, free, pending, s.regs, wide, out, boot, flt, sicp, xp, sdi, s.dbl, bob, dram, aud, mv, probe, eth, ip, whl, keys, spn, skn,
      rtc⟩ φ d :=
  ⟨.record h.reads, h.seat⟩

/-- A change of the pair that leaves the place. -/
theorem Stands.pair {x : Dbl} (h : s.Stands φ d) (hx : x.seat = s.dbl.seat) : Stands { s with dbl := x } φ d :=
  ⟨.record h.reads, hx.trans h.seat⟩

theorem Stands.congr (h : s.Stands φ d) (hregs : u.regs = s.regs) (hseat : u.dbl.seat = s.dbl.seat) : u.Stands φ d :=
  ⟨h.reads.of_regs hregs, hseat.trans h.seat⟩

theorem Stands.of_core (h : s.Stands φ d) (hreads : u.Reads Fld.ofLoss φ) (hcore : u.core = s.core) : u.Stands φ d :=
  ⟨hreads, (seat_of_duo (duo_of_core hcore)).trans h.seat⟩

theorem Stands.ite {c : Prop} [Decidable c] (hs : s.Stands φ d) (hu : u.Stands φ d) : (if c then s else u).Stands φ d := by
  split <;> assumption

theorem Stands.foldl {op : State → α → State} (h : s.Stands φ d) {l : List α} (hop : ∀ u x, u.Stands φ d → (op u x).Stands φ d) :
    (l.foldl op s).Stands φ d :=
  List.foldlRecOn (motive := (·.Stands φ d)) l op h fun u hu x _ => hop u x hu

theorem ofLoss_apart {g : Fld} (hg : g.ofLoss) (hf : f.addr % 0x100 ≠ 4) : g.Apart f := by
  intro haddr
  rw [← haddr] at hf
  obtain rfl | rfl := hg <;> exact absurd rfl hf

theorem ofLoss_outside {g : Fld} (hg : g.ofLoss) : g.outside false = true := by
  obtain rfl | rfl := hg <;> decide

theorem Stands.set (h : s.Stands φ d) (hf : f.addr % 0x100 ≠ 4) : (s.set f v).Stands φ d :=
  ⟨h.reads.set_beside fun _ hg => ofLoss_apart hg hf, h.seat⟩

theorem Stands.bump (h : s.Stands φ d) (hf : f.addr % 0x100 ≠ 4) : (s.bump f n).Stands φ d := .ite h (h.set hf)

theorem Stands.peak (h : s.Stands φ d) (hf : f.addr % 0x100 ≠ 4) : (s.peak f v).Stands φ d := .ite (h.set hf) h

theorem Stands.event {cls : Nat} (h : s.Stands φ d) : (s.event isl cls code detail).Stands φ d :=
  h.of_core (h.reads.event fun _ hg => ofLoss_outside hg) event_core

theorem Stands.emit (h : s.Stands φ d) : (s.emit m).Stands φ d := h.record

theorem portField_place {off hi lo : Nat} (hoff : off < 0x100 ∧ off ≠ 4) : Fld.addr ⟨(portPlace p).1, (portPlace p).2 + off, hi, lo⟩ % 0x100 ≠ 4 := by
  unfold Fld.addr portPlace
  split <;> dsimp only <;> omega

theorem Stands.sent {x : Nat} (h : s.Stands φ d) :
    (((s.fresh.2.bump (R.PORT_TX_FRAMES p) 1).bump64 (R.PORT_TX_OCTETS_LO p) x).emit m).Stands φ d := by
  have hcount : (s.fresh.2.bump (R.PORT_TX_FRAMES p) 1).Stands φ d := .bump (.record h) (portField_place (by decide))
  unfold State.bump64
  exact .record (.ite hcount (.record hcount))

theorem Stands.sendVia (h : s.Stands φ d) : (s.sendVia p m).Stands φ d :=
  .ite h.sent (h.bump (portField_place (by decide)))

theorem Stands.sendEth {o : EthOut} (h : s.Stands φ d) : (s.sendEth p o).Stands φ d :=
  .ite h.sent (h.bump (portField_place (by decide)))

theorem Stands.sendUnits (h : s.Stands φ d) : (s.sendUnits p n).Stands φ d := by
  have hrun : (s.strandRun p).Stands φ d := .record h
  have hcount : ((s.strandRun p).bump (R.PORT_STR_CTRL_TX p) n).Stands φ d := hrun.bump (portField_place (by decide))
  exact .record hcount

theorem Stands.sessShow {tenant : Nat} (h : s.Stands φ d) : (s.sessShow tenant).Stands φ d := by
  have htenant : (R.TEN_SESSIONS tenant).addr % 0x100 ≠ 4 := by
    unfold Fld.addr R.TEN_SESSIONS
    dsimp only
    omega
  unfold State.sessShow
  exact ((h.set (by decide)).set (by decide)).set htenant

theorem Stands.stageShow (h : s.Stands φ d) : s.stageShow.Stands φ d := by
  unfold State.stageShow
  exact (((h.set (by decide)).set (by decide)).set (by decide)).set (by decide)

theorem Stands.stageDiscard {cause : Nat} (h : s.Stands φ d) : (s.stageDiscard cause).Stands φ d := by
  have hzero : s.zeroStage.Stands φ d := .record h
  unfold State.stageDiscard
  split
  · exact h
  · exact (Stands.stageShow (.record hzero)).event

theorem Stands.ownSessionsEnd (h : s.Stands φ d) : s.ownSessionsEnd.Stands φ d := by
  unfold State.ownSessionsEnd
  extract_lets gone v sicp
  have hv : v.Stands φ d := .ite h.stageDiscard h
  exact .ite h (.foldl (.record hv) fun _ _ hu => hu.sessShow.sendVia)

/-- 14 Table 14.3: a chip that takes a role drives its tie code. -/
theorem Stands.setRole (h : s.Stands φ d) (hne : s.dbl.role ≠ r) : (s.setRole r).Stands φ { d with role := r, tieOut := r.tie } := by
  have hseat := seat_of_duo (setRole_duo hne)
  have hv {dbl : Dbl} {x : Seat} (hx : dbl.seat = x) : State.Stands { s with dbl := dbl } φ x := ⟨.record h.reads, hx⟩
  refine ⟨?_, hseat.trans ?_⟩
  · unfold State.setRole
    rw [if_neg hne]
    have hshown {l : List Nat} {u : State} {x : Seat} (hu : u.Stands φ x) : (l.foldl (fun (s : State) (t : Nat) => s.sessShow t) u).Stands φ x :=
      hu.foldl fun _ _ hu => hu.sessShow
    refine Stands.reads (d := ⟨r, r.tie, s.dbl.tieIn, s.dbl.linkUp⟩) (.event (.ite (.set (hshown (.ite (hv rfl).ownSessionsEnd (hv rfl))) (by decide))
      (hshown (.ite (hv rfl).ownSessionsEnd (hv rfl)))))
  · rw [← h.seat]
    rfl

theorem Stands.endSession {id : Nat} (h : s.Stands φ d) : (s.endSession id).Stands φ d := by
  unfold State.endSession
  split
  · exact h
  · exact (Stands.ite (Stands.stageDiscard (.record (.record (.record h)))) (.record (.record (.record h)))).sessShow

theorem Stands.setSess {id : Nat} {op : Session → Session} (h : s.Stands φ d) : (s.setSess id op).Stands φ d := .record h

theorem Stands.recheck (h : s.Stands φ d) : s.recheck.Stands φ d := by
  unfold State.recheck
  refine h.foldl fun u c hu => ?_
  split
  · exact hu.endSession.sendVia
  · split
    · exact hu.endSession.sendVia
    · exact hu.setSess

theorem Stands.reply {r : Reply} (h : s.Stands φ d) : (s.reply r).Stands φ d := by
  unfold State.reply
  split
  · exact h
  · exact Stands.sendVia h.setSess

theorem Stands.bulkDone (h : s.Stands φ d) : s.bulkDone.Stands φ d := by
  unfold State.bulkDone
  refine Stands.foldl ?_ fun _ _ hu => hu.reply
  exact h.congr rfl rfl

theorem Stands.announce (h : s.Stands φ d) : s.announce.Stands φ d := h.sendEth.sendEth

/-- 14 R541, R544: a standby that takes control. -/
theorem Stands.takeControl {advance : Bool} (h : s.Stands φ d) (hne : s.dbl.role ≠ r) :
    (s.takeControl r advance).Stands φ { d with role := r, tieOut := r.tie } := by
  have htaken : ((s.setRole r).bump R.DBL_TAKEOVERS 1).Stands φ _ := (h.setRole hne).bump (by decide)
  unfold State.takeControl
  extract_lets v dbl w sicp x
  have hw : w.Stands φ _ := htaken.pair rfl
  exact (Stands.recheck (.ite (.record hw) hw)).announce

/-- 14 R544, R548: a chip that becomes DETACHED. -/
theorem Stands.detach (h : s.Stands φ d) (hne : s.dbl.role ≠ .detached) : s.detach.Stands φ { d with role := .detached, tieOut := .none } := by
  have hcounted : (s.setRole .detached).countYield.Stands φ _ := ((h.setRole hne).bump (f := R.DBL_YIELDS) (n := 1) (by decide)).pair rfl
  have hdropped : (s.setRole .detached).countYield.quietLater.dropUnarmed.Stands φ _ := hcounted.congr rfl rfl
  unfold State.detach
  exact hdropped.congr rfl rfl

theorem Stands.sendClaim (h : s.Stands φ d) : s.sendClaim.Stands φ d :=
  h.foldl fun _ _ hu => hu.sendUnits.emit

theorem Stands.defer {at_ : Time} (h : s.Stands φ d) : (s.defer at_).Stands φ d := by
  unfold State.defer
  split
  · exact h
  · exact h.congr rfl rfl

theorem Stands.roleFromOff (h : s.Stands φ d) (hoff : s.dbl.role = .off) : ∃ x, s.roleFromOff.Stands φ x ∧ x.linkUp = d.linkUp := by
  have hjoins : State.Stands { s.setRole .joining with dbl.startWait := none } φ { d with role := .joining, tieOut := .follow } :=
    (h.setRole (by rw [hoff]; decide)).congr rfl rfl
  have hsolo {since : Option Nat} : State.Stands { s.setRole .solo with dbl.startWait := none, dbl.dualFrom := since } φ
      { d with role := .solo, tieOut := .hold } := (h.setRole (by rw [hoff]; decide)).congr rfl rfl
  unfold State.roleFromOff
  split
  · exact ⟨_, hjoins, rfl⟩
  · split
    · exact ⟨_, hsolo, rfl⟩
    · exact ⟨d, h.congr rfl rfl, rfl⟩

theorem noteMirrors_dbl : s.noteMirrors.dbl = s.dbl := by
  unfold noteMirrors
  exact foldl_dbl fun _ _ => rfl

/-! ### The loss -/

/-- 14 R544: the link is down, `tie` is read, and the loss is an F2 of DBL; a serving chip settles. -/
def linkLost (s : State) (tie : Tie) (end_ : Time) : State :=
  let v := ({ s.linkDown with dbl.tieIn := tie } : State).errNamed R.DBL_ERR_DOWN 2 0x0501 [] { typ := 3, master := 0x40 + 37 } true
  if v.serving then { v with dbl.settleEnd := some end_ } else v

theorem linkDown_seat : s.linkDown.dbl.seat = ⟨s.dbl.role, s.dbl.tieOut, s.dbl.tieIn, false⟩ := by
  unfold linkDown
  dsimp only
  rw [noteMirrors_dbl, set_dbl]
  rfl

theorem errNamed_core {cls : Nat} {acc : Acc} {lasts : Bool} (hcls : cls < 3) : (s.errNamed f cls code detail acc lasts).core = s.core := by
  unfold errNamed
  exact core_ite ((raise_core hcls).trans rfl) (event_core.trans rfl)

theorem linkLost_stands {tie : Tie} {end_ : Time} (hc : Machine.canonical s.regs = true) :
    (s.linkLost tie end_).Stands (fun _ => 1) ⟨s.dbl.role, s.dbl.tieOut, tie, false⟩ := by
  have hcv : Machine.canonical (State.regs { s.linkDown with dbl.tieIn := tie }) = true := (Keeps.refl s).linkDown.regs_ok hc
  have hseat : (State.dbl { s.linkDown with dbl.tieIn := tie }).seat = ⟨s.dbl.role, s.dbl.tieOut, tie, false⟩ :=
    congrArg (fun x : Seat => { x with tieIn := tie }) (linkDown_seat (s := s))
  unfold linkLost
  generalize ({ s.linkDown with dbl.tieIn := tie } : State) = v at *
  have hdown : (v.set R.DBL_ERR_DOWN 1).get R.DBL_ERR_DOWN = 1 := get_set_same hcv R.DBL_ERR_DOWN (by decide) (by decide) 1
  have hlatched : (v.errNamed R.DBL_ERR_DOWN 2 0x0501 [] { typ := 3, master := 0x40 + 37 } true).has (fltBit 37) = true :=
    errNamed_fltBit (f := R.DBL_ERR_DOWN) hcv (by decide) ..
  have hleaves := errNamed_leaves (f := R.DBL_ERR_DOWN) (s := v) (cls := 2) (by decide) (by decide) 0x0501 [] { typ := 3, master := 0x40 + 37 } true
  have hcore : (v.errNamed R.DBL_ERR_DOWN 2 0x0501 [] { typ := 3, master := 0x40 + 37 } true).core = v.core := errNamed_core (by decide)
  have hcw : Machine.canonical (v.errNamed R.DBL_ERR_DOWN 2 0x0501 [] { typ := 3, master := 0x40 + 37 } true).regs = true :=
    (Keeps.refl v).errNamed.regs_ok hcv
  generalize v.errNamed R.DBL_ERR_DOWN 2 0x0501 [] { typ := 3, master := 0x40 + 37 } true = w at *
  have hraised : w.Stands (fun _ => 1) ⟨s.dbl.role, s.dbl.tieOut, tie, false⟩ := by
    refine ⟨⟨hcw, fun g hg => ?_⟩, (seat_of_duo (duo_of_core hcore)).trans hseat⟩
    obtain rfl | rfl := hg
    · exact (hleaves.get _ (by decide)).trans hdown
    · exact of_decide_eq_true hlatched
  exact .ite (hraised.pair rfl) hraised

/-- 14 Table 14.3: what a chip does of its role at the loss. -/
def lossActs (s : State) (tie : Tie) (end_ : Time) : State :=
  match s.dbl.role with
  | .standby => if tie = .hold then s.detach else (s.takeControl .solo true).sendClaim
  | .joining => ({ s.setRole .off with dbl.caughtUp := false } : State).roleFromOff
  | .active => if tie = .hold then (s.peak R.DBL_DUAL s.dualSpan).detach else ((s.setRole .solo).defer end_).bulkDone
  | .solo => if tie = .hold then (s.peak R.DBL_DUAL s.dualSpan).detach else (s.defer end_).bulkDone
  | _ => s

section
variable {tie : Tie} {end_ : Time} (h : s.Stands φ d)
include h

/-- 14 R544, R548: HOLD on TIE_IN detaches a standby and a holder. -/
theorem Stands.lossActs_hold (hrole : s.dbl.role = .standby ∨ s.dbl.role = .active ∨ s.dbl.role = .solo) :
    (s.lossActs .hold end_).Stands φ { d with role := .detached, tieOut := .none } := by
  unfold lossActs
  obtain hr | hr | hr := hrole <;> rw [hr]
  · exact h.detach (by rw [hr]; decide)
  all_goals
    have hpeak := h.peak (f := R.DBL_DUAL) (v := s.dualSpan) (by decide)
    have hne : (s.peak R.DBL_DUAL s.dualSpan).dbl.role ≠ .detached := by
      rw [role_of_duo peak_duo]
      exact (congrArg (· ≠ Role.detached) hr).mpr (by decide)
    exact hpeak.detach hne

/-- 14 R544: a standby that does not read HOLD takes control alone. -/
theorem Stands.lossActs_standby (hrole : s.dbl.role = .standby) (htie : tie ≠ .hold) :
    (s.lossActs tie end_).Stands φ { d with role := .solo, tieOut := .hold } := by
  unfold lossActs
  rw [hrole]
  dsimp only
  rw [if_neg htie]
  exact (h.takeControl (by rw [hrole]; decide)).sendClaim

/-- 14 R546: a holder that does not read HOLD stays in control alone. -/
theorem Stands.lossActs_active (hrole : s.dbl.role = .active) (htie : tie ≠ .hold) :
    (s.lossActs tie end_).Stands φ { d with role := .solo, tieOut := .hold } := by
  unfold lossActs
  rw [hrole]
  dsimp only
  rw [if_neg htie]
  exact (h.setRole (by rw [hrole]; decide)).defer.bulkDone

/-- In every role the loss and its bits stay. -/
theorem Stands.lossActs : ∃ x, (s.lossActs tie end_).Stands φ x ∧ x.linkUp = d.linkUp := by
  by_cases hhold : tie = .hold ∧ (s.dbl.role = .standby ∨ s.dbl.role = .active ∨ s.dbl.role = .solo)
  · rw [hhold.1]
    exact ⟨_, h.lossActs_hold hhold.2, rfl⟩
  cases hrole : s.dbl.role with
  | standby => exact ⟨_, h.lossActs_standby hrole fun htie => hhold ⟨htie, .inl hrole⟩, rfl⟩
  | active => exact ⟨_, h.lossActs_active hrole fun htie => hhold ⟨htie, .inr (.inl hrole)⟩, rfl⟩
  | solo =>
    unfold State.lossActs
    rw [hrole]
    dsimp only
    rw [if_neg fun htie => hhold ⟨htie, .inr (.inr hrole)⟩]
    exact ⟨_, h.defer.bulkDone, rfl⟩
  | joining =>
    have hset : State.Stands { s.setRole .off with dbl.caughtUp := false } φ { d with role := .off, tieOut := .none } :=
      (h.setRole (by rw [hrole]; decide)).congr rfl rfl
    unfold State.lossActs
    rw [hrole]
    exact hset.roleFromOff (congrArg Seat.role hset.seat)
  | _ =>
    unfold State.lossActs
    rw [hrole]
    exact ⟨d, h, rfl⟩

end

/-- The place in the pair of a chip that stands so. -/
theorem Stands.place (h : s.Stands φ d) : s.dbl.role = d.role ∧ s.dbl.tieOut = d.tieOut ∧ s.dbl.tieIn = d.tieIn ∧ s.dbl.linkUp = d.linkUp := by
  rw [← h.seat]
  exact ⟨rfl, rfl, rfl, rfl⟩

end State

/-! ### The commands -/

section
variable {tie : Tie} {since : Nat}

theorem exec_dblLinkLoss_of_up (hs : s.awake = true) (hup : s.dbl.linkUp = true) :
    exec (.dblLinkLoss t tie since) s =
      .next (((s.at_ t).linkLost tie (t - min since 24000 + 2 * ms)).lossActs tie (t - min since 24000 + 2 * ms)) := by
  change execDblLinkLoss t tie since s = _
  refine (released_of_awake hs t _).trans (congrArg Host.Outcome.next (if_neg ?_))
  rw [Bool.not_eq_true', show (s.at_ t).dbl.linkUp = true from hup]
  decide

theorem exec_dblLinkLoss_of_down (hs : s.awake = true) (hdown : s.dbl.linkUp = false) : exec (.dblLinkLoss t tie since) s = .next (s.at_ t) := by
  change execDblLinkLoss t tie since s = _
  refine (released_of_awake hs t _).trans (congrArg Host.Outcome.next (if_pos ?_))
  rw [show (s.at_ t).dbl.linkUp = false from hdown]
  rfl

/-- 14 R527: the code that is read, and the end of a fault of the tie lines. -/
def State.tieIs (s : State) (tie : Tie) : State :=
  let v : State := { s with dbl.tieIn := tie }
  if v.tieWrong then v else v.errDone R.DBL_ERR_TIE_FAULT

/-- 14 R531, R544, R548: what a serving chip does of its role at a change of TIE_IN. -/
def State.tieActs (s : State) (tie : Tie) : State :=
  if !s.serving then s
  else match s.dbl.role with
    | .off => if tie = .hold && s.dbl.startWait.isSome then s.roleFromOff else s
    | .standby => if s.dbl.linkUp && (tie = .none || tie = .invalid) then s.takeControl .solo true else s
    | .active => s
    | .solo =>
      if s.dbl.linkUp || tie ≠ .hold then s
      else if s.dbl.settleEnd.isSome then (s.peak R.DBL_DUAL s.dualSpan).detach
      else s.dualControl
    | _ => s

theorem exec_tieInChange_of_read {w : Nat × Nat} (hs : s.awake = true) (hread : tieRead w = some tie) :
    exec (.tieInChange t w) s = .next (((s.at_ t).tieIs tie).tieActs tie) := by
  change execTieInChange t w s = _
  refine (released_of_awake hs t _).trans (congrArg Host.Outcome.next ?_)
  rw [hread]
  rfl

theorem State.tieIs_keeps : (s.tieIs tie).dbl = { s.dbl with tieIn := tie } ∧ (s.tieIs tie).regs = s.regs := by
  unfold tieIs
  extract_lets v
  split
  · exact ⟨rfl, rfl⟩
  · exact ⟨rfl, rfl⟩

theorem State.tieIs_stands (hc : canonical s.regs = true) : (s.tieIs tie).Stands s.get ⟨s.dbl.role, s.dbl.tieOut, tie, s.dbl.linkUp⟩ := by
  obtain ⟨hdbl, hregs⟩ := State.tieIs_keeps (s := s) (tie := tie)
  refine ⟨(State.Reads.of_canonical hc _).of_regs hregs, ?_⟩
  rw [hdbl]
  rfl

theorem State.tieActs_standby (hserving : s.serving = true) (hrole : s.dbl.role = .standby) (hup : s.dbl.linkUp = true)
    (htie : tie = .none ∨ tie = .invalid) : s.tieActs tie = s.takeControl .solo true := by
  unfold State.tieActs
  rw [hserving, hrole]
  refine (if_neg (by decide)).trans (if_pos ?_)
  rw [hup, Bool.true_and, Bool.or_eq_true_iff]
  exact htie.imp decide_eq_true decide_eq_true

theorem State.tieActs_active (hserving : s.serving = true) (hrole : s.dbl.role = .active) : s.tieActs tie = s := by
  unfold State.tieActs
  rw [hserving, hrole]
  rfl

theorem State.tieActs_solo (hserving : s.serving = true) (hrole : s.dbl.role = .solo) (hdown : s.dbl.linkUp = false)
    (hsettle : s.dbl.settleEnd.isSome = true) : s.tieActs .hold = (s.peak R.DBL_DUAL s.dualSpan).detach := by
  unfold State.tieActs
  rw [hserving, hrole]
  refine (if_neg (by decide)).trans ((if_neg ?_).trans (if_pos hsettle))
  rw [hdown]
  decide

end

end

/-- Settles O48: what the loss and a change of TIE_IN bring is the place in the pair, and the bits of the loss stand where nothing that follows writes. -/
theorem rolesAtLinkLoss : Obligations.RolesAtLinkLoss := by
  unfold Obligations.RolesAtLinkLoss
  intro t tie since s hs hformed u goes
  have hc : canonical u.regs = true := (State.formed_iff.mp hformed).1
  have hawake := State.awake_of_inService hs
  refine ⟨fun hup => ?_, exec_dblLinkLoss_of_down hawake, fun w hread => ?_⟩
  · have hlost := State.linkLost_stands (s := u) (tie := tie) (end_ := t - min since 24000 + 2 * ms) hc
    have hrole := hlost.place.1
    have hexec := exec_dblLinkLoss_of_up (t := t) (tie := tie) (since := since) hawake hup
    refine ⟨fun hr htie => ?_, fun hr htie => ?_, fun hr htie => ?_, ?_⟩
    · subst htie
      obtain ⟨ha, hb, hd, -⟩ := (hlost.lossActs_hold (end_ := t - min since 24000 + 2 * ms) (by rw [hrole]; exact hr)).place
      exact ⟨_, hexec, ha, hb, hd⟩
    · obtain ⟨ha, hb, hd, -⟩ := (hlost.lossActs_standby (end_ := t - min since 24000 + 2 * ms) (hrole.trans hr) htie).place
      exact ⟨_, hexec, ha, hb, hd⟩
    · obtain ⟨ha, hb, hd, -⟩ := (hlost.lossActs_active (end_ := t - min since 24000 + 2 * ms) (hrole.trans hr) htie).place
      exact ⟨_, hexec, ha, hb, hd⟩
    · obtain ⟨x, hacts, hlink⟩ := hlost.lossActs (tie := tie) (end_ := t - min since 24000 + 2 * ms)
      exact ⟨_, hexec, hacts.place.2.2.2.trans hlink, decide_eq_true (hacts.reads.shows _ (.inl rfl)), decide_eq_true (hacts.reads.shows _ (.inr rfl))⟩
  · have htie := State.tieIs_stands (s := u) (tie := tie) hc
    obtain ⟨hdbl, hregs⟩ := State.tieIs_keeps (s := u) (tie := tie)
    have hserving : (u.tieIs tie).serving = true := by
      rw [State.serving, State.get_of_regs hregs]
      exact (Bool.and_eq_true_iff.mp hs).2
    have hexec := exec_tieInChange_of_read (t := t) hawake hread
    have hplace := htie.place
    refine ⟨fun hr hup hnone => ?_, fun hr hdown hhold hsettle => ?_, fun hr => ?_⟩
    · have hrole : (u.tieIs tie).dbl.role = .standby := hplace.1.trans hr
      rw [State.tieActs_standby hserving hrole (hplace.2.2.2.trans hup) hnone] at hexec
      obtain ⟨ha, hb, hd, -⟩ := (htie.takeControl (r := .solo) (advance := true) (by rw [hrole]; decide)).place
      exact ⟨_, hexec, ha, hb, hd⟩
    · have hrole : (u.tieIs tie).dbl.role = .solo := hplace.1.trans hr
      have hwaits : (u.tieIs tie).dbl.settleEnd.isSome = true := (congrArg (fun x : Dbl => x.settleEnd.isSome) hdbl).trans hsettle
      have hpeak := htie.peak (f := R.DBL_DUAL) (v := (u.tieIs tie).dualSpan) (by decide)
      have hne : ((u.tieIs tie).peak R.DBL_DUAL (u.tieIs tie).dualSpan).dbl.role ≠ .detached := by
        rw [hpeak.place.1]
        exact fun h => absurd (hr.symm.trans h) (by decide)
      subst hhold
      rw [State.tieActs_solo hserving hrole (hplace.2.2.2.trans hdown) hwaits] at hexec
      obtain ⟨ha, hb, hd, -⟩ := (hpeak.detach hne).place
      exact ⟨_, hexec, ha, hb, hd⟩
    · have hrole : (u.tieIs tie).dbl.role = .active := hplace.1.trans hr
      rw [State.tieActs_active hserving hrole] at hexec
      exact ⟨_, hexec, hrole, hplace.2.1, hplace.2.2.1⟩

end Sys2Proof.Machine

/-! ## A copy that names a past instant -/

namespace Sys2Proof.Machine

/-- A joining chip that has applied its snapshot and whose doubling link is up. -/
def joiningChip : State := { atS 8 with dbl.role := .joining, dbl.linkUp := true, dbl.snapped := true }

/-- At 9 ns it applies a whole copy that changes a mix bus at an instant already past. -/
theorem joiningChip_yields :
    ends (.dblCopy 9 ⟨true, 3, false⟩ 8 [.abus 0 0 [] 0] true true) joiningChip (fun s' => s'.dbl.role ≠ .standby) = true := by
  decide +kernel

/-- Refutes O46: the statement bounds no instant of a copy's items, and a change of the audio engine that is past when the copy is applied is FLIP_LATE,
an F3 of AUD. The chip above has become STANDBY when it applies such a copy, and an F3 makes a STANDBY YIELDED. -/
theorem not_copiesAreConfirmed : ¬ Obligations.CopiesAreConfirmed := by
  intro h
  obtain ⟨-, -, hjoins, -⟩ := h 9 8 ⟨true, 3, false⟩ joiningChip (by decide +kernel) rfl rfl
  obtain ⟨s', hnext, hrole, -⟩ := hjoins [.abus 0 0 [] 0] rfl rfl
  obtain ⟨u, hnext', hother⟩ := ends_next joiningChip_yields
  have hsame : s' = u := Host.Outcome.next.inj (hnext.symm.trans hnext')
  rw [hsame] at hrole
  exact of_decide_eq_true hother hrole

end Sys2Proof.Machine

/-! ## Lanes and timers of the doubling link -/

namespace Sys2Proof.Machine

section
variable {s v : State} {t : Time} {act : State → State}

/-- A command that needs a released chip ends in what its effect gives on one that is awake. -/
theorem released_to (hs : s.awake = true) (heff : act (s.at_ t) = v) : released t s act = .next v :=
  (released_of_awake hs t act).trans (congrArg Host.Outcome.next heff)

/-- A command that needs a serving chip ends in what its effect gives on one in service. -/
theorem served_to (hs : s.inService = true) (heff : act (s.at_ t) = v) : served t s act = .next v :=
  (served_of_inService hs t act).trans (congrArg Host.Outcome.next heff)

end

section
variable {s : State} {t : Time} {lane : Fin 2}

section
variable (hs : s.awake = true)
include hs

theorem exec_dblLaneDown_of_up (hup : bit s.dbl.lanes lane = true) : exec (.dblLaneDown t lane) s = .next
    (({ s.at_ t with dbl.lanes := s.dbl.lanes - 2 ^ lane.val } : State).err R.DBL_ERR_LANE 2 { typ := 3, master := 0x40 + 37 } (lasts := true)) := by
  change execDblLaneDown t lane s = _
  refine released_to hs (if_neg fun hnot => ?_)
  rw [Bool.not_eq_true'] at hnot
  exact Bool.false_ne_true (hnot.symm.trans hup)

theorem exec_dblLaneDown_of_down (hdown : bit s.dbl.lanes lane = false) : exec (.dblLaneDown t lane) s = .next (s.at_ t) := by
  change execDblLaneDown t lane s = _
  refine released_to hs (if_pos ?_)
  rw [Bool.not_eq_true']
  exact hdown

theorem exec_dblLaneUp_of_last (hboth : s.dbl.lanes + 2 ^ lane.val = 3) (hdown : bit s.dbl.lanes lane = false) :
    exec (.dblLaneUp t lane) s = .next (({ s.at_ t with dbl.lanes := 3 } : State).errDone R.DBL_ERR_LANE) := by
  change execDblLaneUp t lane s = _
  refine released_to hs ?_
  rw [show (s.at_ t).dbl = s.dbl from rfl, hdown, hboth]
  rfl

theorem exec_tieFault_of_wrong (hwrong : s.tieWrong = true) : exec (.tieFault t) s = .next
    ((s.at_ t).err R.DBL_ERR_TIE_FAULT 2 { typ := 3, master := 0x40 + 37 } (lasts := true)) := by
  change execTieFault t s = _
  exact released_to hs (if_pos hwrong)

theorem exec_tieFault_of_right (hright : s.tieWrong = false) : exec (.tieFault t) s = .next (s.at_ t) := by
  change execTieFault t s = _
  exact released_to hs (if_neg (Bool.eq_false_iff.mp hright))

end

section
variable (hs : s.inService = true)
include hs

theorem exec_settleEnd_of_early {e : Time} (hend : s.dbl.settleEnd = some e) (hearly : t < e) : exec (.settleEnd t) s = .next (s.at_ t) := by
  change execSettleEnd t s = _
  refine served_to hs ?_
  rw [show (s.at_ t).dbl.settleEnd = some e from hend]
  exact if_pos hearly

theorem exec_settleEnd_of_bare {e : Time} (hend : s.dbl.settleEnd = some e) (hdue : e ≤ t) (hbare : s.dbl.deferred = none) :
    exec (.settleEnd t) s = .next { s.at_ t with dbl.settleEnd := none } := by
  change execSettleEnd t s = _
  refine served_to hs ?_
  rw [show (s.at_ t).dbl.settleEnd = some e from hend]
  refine (if_neg (Nat.not_lt.mpr hdue)).trans ?_
  dsimp only
  rw [show (s.at_ t).dbl.deferred = none from hbare]

theorem exec_settleEnd_of_holder {e : Time} {c : HeldCopy} (hend : s.dbl.settleEnd = some e) (hdue : e ≤ t) (hheld : s.dbl.deferred = some c)
    (hholds : s.dbl.role.holds = true) : exec (.settleEnd t) s =
      .next (({ s.at_ t with dbl.settleEnd := none, dbl.deferred := none } : State).confirm c.effs c.replies) := by
  change execSettleEnd t s = _
  refine served_to hs ?_
  rw [show (s.at_ t).dbl.settleEnd = some e from hend]
  refine (if_neg (Nat.not_lt.mpr hdue)).trans ?_
  dsimp only
  rw [show (s.at_ t).dbl.deferred = some c from hheld]
  exact if_pos hholds

theorem exec_handoffPeriodEnd_of_due {v : Nat} (hopen : s.dbl.handoffUntil = some v) (hdue : v ≤ (s.at_ t).up) :
    exec (.handoffPeriodEnd t) s = .next { s.at_ t with dbl.handoffUntil := none } := by
  change execHandoffPeriodEnd t s = _
  refine served_to hs (if_pos ?_)
  rw [show (s.at_ t).dbl = s.dbl from rfl, hopen]
  exact decide_eq_true hdue

theorem exec_gratuitousArpRepeat_of_due (hholds : s.dbl.role.holds = true) (hsent : s.dbl.arpsSent = 1 ∨ s.dbl.arpsSent = 2)
    (hdue : s.dbl.claimAt + (if s.dbl.arpsSent = 1 then ms else 10 * ms) ≤ (s.at_ t).up) : exec (.gratuitousArpRepeat t) s =
      .next ({ s.at_ t with dbl.arpsSent := s.dbl.arpsSent + 1 } : State).announce := by
  change execGratuitousArpRepeat t s = _
  refine served_to hs (if_pos ?_)
  rw [Bool.and_eq_true_iff, Bool.and_eq_true_iff, Bool.or_eq_true_iff]
  exact ⟨⟨hholds, hsent.imp decide_eq_true decide_eq_true⟩, decide_eq_true hdue⟩

theorem exec_gratuitousArpRepeat_of_over (hover : 3 ≤ s.dbl.arpsSent) : exec (.gratuitousArpRepeat t) s = .next (s.at_ t) := by
  change execGratuitousArpRepeat t s = _
  refine served_to hs (if_neg fun hnot => ?_)
  rw [Bool.and_eq_true_iff, Bool.and_eq_true_iff, Bool.or_eq_true_iff] at hnot
  obtain ⟨⟨-, hone | htwo⟩, -⟩ := hnot
  · have hsent : s.dbl.arpsSent = 1 := of_decide_eq_true hone
    omega
  · have hsent : s.dbl.arpsSent = 2 := of_decide_eq_true htwo
    omega

end
end

/-- Settles O49: each lane, pin and timer in the branch of its meaning that the condition names. -/
theorem doublingLanesAndTimers : Obligations.DoublingLanesAndTimers := by
  intro t lane s hin u
  have hs := State.awake_of_inService hin
  refine ⟨exec_dblLaneDown_of_up hs, exec_dblLaneDown_of_down hs, exec_dblLaneUp_of_last hs, exec_tieFault_of_wrong hs,
    exec_tieFault_of_right hs, fun e => exec_settleEnd_of_early hin, fun e => exec_settleEnd_of_bare hin, fun e c => exec_settleEnd_of_holder hin,
    fun v => exec_handoffPeriodEnd_of_due hin, fun hholds hone hdue => ?_, fun hholds htwo hdue => ?_, exec_gratuitousArpRepeat_of_over hin⟩
  · have hafter := exec_gratuitousArpRepeat_of_due (t := t) hin hholds (.inl hone) (by rw [if_pos hone]; exact hdue)
    rwa [hone] at hafter
  · have hafter := exec_gratuitousArpRepeat_of_due (t := t) hin hholds (.inr htwo) (by rw [htwo]; exact hdue)
    rwa [htwo] at hafter

end Sys2Proof.Machine

/-! ## Requests that are not carried out -/

namespace Sys2Proof.Machine

/-- Every request is received by `State.request`, once the chip serves (15 R566, R573). -/
theorem exec_of_req {c : Instr} {q : Req} (h : c.req = some q) :
    ∃ m lacks body, ∀ s, exec c s = served c.time s (fun s => s.request m q lacks body) := by
  cases c <;> cases h <;> exact ⟨_, _, _, fun _ => rfl⟩

namespace State
section
variable {s : State} {m : Msg} {q : Req} {lacks : State → Session → List Tlv → Option Need} {body : State → Ctx → State} {c : Session}

/-- The state in which a record of a session has been authenticated and its peer noted. -/
def heard (s : State) (q : Req) (c : Session) : State := s.setSess c.id (fun c => { c with lastRx := s.up, peer := q.peer })

theorem heard_tokens {p : Nat} {pair : Bool} : ((s.heard q c).bucket p pair).tokens = (s.bucket p pair).tokens := rfl

theorem spend_of_empty {p : Nat} {pair : Bool} (hempty : (s.bucket p pair).tokens = 0) : s.spend p pair = (false, s.setBucket (s.bucket p pair)) :=
  if_pos hempty

theorem one_le_retryOf {p : Nat} {pair : Bool} : 1 ≤ s.retryOf p pair := Nat.le_max_left _ _

/-- A session at an own address, or on a chip that holds control, is served here (15 R566). -/
theorem stays_of_mine (hmine : c.own = true ∨ s.dbl.role.holds = true) : (!c.own && !s.dbl.role.holds) = false := by
  obtain hown | hholds := hmine
  · rw [hown]; rfl
  · rw [hholds, Bool.not_true, Bool.and_false]

theorem request_of_stray (hnone : s.sess q.sess = none) : s.request m q lacks body = s.bump R.SCP_RX_DISCARD 1 := by
  unfold request
  rw [hnone]

variable (hsess : s.sess q.sess = some c)
include hsess

theorem request_of_waiting (hpair : c.own = false) (hnot : s.dbl.role.holds = false) : s.request m q lacks body = s.handOff := by
  unfold request
  rw [hsess]
  exact if_pos (by rw [hpair, hnot]; rfl)

variable (hmine : c.own = true ∨ s.dbl.role.holds = true) (hlen : 16 + q.body.length ≤ 1400)
include hmine hlen

theorem request_of_known (hknown : c.known q.id = true) : s.request m q lacks body = (s.heard q c).duplicate c q.id := by
  have hhere := stays_of_mine hmine
  unfold request
  rw [hsess]
  refine (if_neg (Bool.eq_false_iff.mp hhere)).trans ((if_neg (Nat.not_lt.mpr hlen)).trans (if_pos hknown))

theorem request_of_unpaid (hnew : c.known q.id = false) (hempty : (s.bucket c.princ (!c.own)).tokens = 0) :
    s.request m q lacks body = ((((s.heard q c).setBucket ((s.heard q c).bucket c.princ (!c.own))).rateBusy c.tenant).refuse
      { sess := c.id, typ := m.typ, req := q.id, code := 0x14
        retry := ((s.heard q c).setBucket ((s.heard q c).bucket c.princ (!c.own))).retryOf c.princ (!c.own) }) := by
  have hhere := stays_of_mine hmine
  have hspend : (s.setSess c.id (fun c => { c with lastRx := s.up, peer := q.peer })).spend c.princ (!c.own) =
      (false, (s.heard q c).setBucket ((s.heard q c).bucket c.princ (!c.own))) := spend_of_empty (s := s.heard q c) (heard_tokens.trans hempty)
  unfold request
  rw [hsess]
  dsimp only
  rw [hspend]
  exact (if_neg (Bool.eq_false_iff.mp hhere)).trans ((if_neg (Nat.not_lt.mpr hlen)).trans ((if_neg (Bool.eq_false_iff.mp hnew)).trans rfl))

end
end State

/-- Settles O9: a request is received in four ways that end before its meaning, and each of them is a branch of the reception. -/
theorem requestsTurnedAway : Obligations.RequestsTurnedAway := by
  refine ⟨fun c q s hreq hs hsess => ?_, fun c q x s hreq hs hsess hown hholds => ?_, fun c q x s hreq hs hsess hmine hlen hknown => ?_,
    fun c q x s hreq hs hsess hmine hlen hnew hempty => ?_⟩ <;> obtain ⟨m, lacks, body, heq⟩ := exec_of_req hreq <;> rw [heq]
  · exact served_to hs (State.request_of_stray hsess)
  · exact served_to hs (State.request_of_waiting hsess hown hholds)
  · exact served_to hs (State.request_of_known hsess hmine hlen hknown)
  · exact ⟨_, _, served_to hs (State.request_of_unpaid hsess hmine hlen hnew hempty), State.one_le_retryOf, rfl, rfl, rfl⟩

end Sys2Proof.Machine

/-! ## Requests about staged salvos -/

namespace Sys2Proof.Machine

section
variable {s u v : State} {t : Time} {q : Req} {x : Ctx}

/-- An accepted request ends in what its meaning gives in the state and the context of its acceptance. -/
theorem takes_to {m : Msg} {lacks : State → Session → List Tlv → Option Need} {body : State → Ctx → State} (h : s.takes t m q lacks u x)
    (heff : body u x = v) : served t s (fun s => s.request m q lacks body) = .next v :=
  (State.served_of_takes h body).trans (congrArg Host.Outcome.next heff)

theorem exec_salvoOpen_of_room
    (h : s.takes t ⟨0x11, true, []⟩ q (fun s c _ => if s.holdsAny c.princ 1 then none else some ⟨1, 0, 0, 0⟩) u x)
    (hall : u.sicp.staged.length < 64) (hown : (u.sicp.staged.filter (fun y => y.sess = x.sess.id)).length < 8) :
    exec (.salvoOpen t q) s = .next ({ u.newHandle.2 with
        sicp.staged := u.newHandle.2.sicp.staged ++
          [({ handle := u.newHandle.1, sess := x.sess.id, princ := x.sess.princ, lastAdd := u.newHandle.2.up } : Staged)] }.ok x
        [⟨0x08, beBytes 8 u.newHandle.1⟩]) := by
  change execSalvoOpen t q s = _
  refine takes_to h (if_neg fun hfull => ?_)
  rw [Bool.or_eq_true_iff, decide_eq_true_iff, decide_eq_true_iff] at hfull
  omega

theorem exec_salvoAdd_of_room {g : Staged}
    (h : s.takes t ⟨0x12, true, [one 0x08, one 0x0B]⟩ q (firstLack (fun ts =>
      (entriesOf (tlv ts 0x0B) ((tlv ts 0x0B).length / 12)).flatMap (fun e => routeNeeds e.dest e.src e.levels))) u x)
    (hfound : u.sicp.staged.find? (fun y => y.handle = fld x.ts 0x08 0 8 && y.princ = x.sess.princ && !y.armed) = some g)
    (hone : g.entries.length + (tlv x.ts 0x0B).length / 12 ≤ 65536)
    (hall : (u.sicp.staged.map (·.entries.length)).foldl (· + ·) 0 + (tlv x.ts 0x0B).length / 12 ≤ 131072) :
    exec (.salvoAdd t q) s = .next ({ u with
      sicp.staged := updFirst (fun y => y.handle = fld x.ts 0x08 0 8) (fun y =>
        { y with entries := y.entries ++ entriesOf (tlv x.ts 0x0B) ((tlv x.ts 0x0B).length / 12), lastAdd := u.up }) u.sicp.staged }.ok x []) := by
  change execSalvoAdd t q s = _
  refine takes_to h ?_
  dsimp only
  rw [hfound]
  refine if_neg fun hfull => ?_
  rw [Bool.or_eq_true_iff, decide_eq_true_iff, decide_eq_true_iff] at hfull
  omega

section
variable (h : s.takes t ⟨0x13, true, [⟨[8, 9], 1, 1⟩, one 0x0A, opt 2]⟩ q armLacks u x)
include h

theorem exec_salvoArm_of_staged {g : Staged} (hform : hasTlv x.ts 9 = false)
    (hfound : u.sicp.staged.find? (fun y => y.handle = fld x.ts 8 0 8) = some g) :
    exec (.salvoArm t q) s = .next (u.salvoArm x g.entries none (some g.handle)) := by
  change execSalvoArm t q s = _
  refine takes_to h ((if_neg (Bool.eq_false_iff.mp hform)).trans ?_)
  rw [hfound]

theorem exec_salvoArm_of_stored {e : List SEntry × Nat} (hform : hasTlv x.ts 9 = true) (hfound : u.stored (fld x.ts 9 0 2) = some e) :
    exec (.salvoArm t q) s = .next (u.salvoArm x e.1 (some (fld x.ts 9 0 2)) none) := by
  change execSalvoArm t q s = _
  refine takes_to h ((if_pos hform).trans ?_)
  rw [hfound]

end

theorem exec_salvoCommit_of_early {w : Salvo} (h : s.takes t ⟨0x14, true, [one 8]⟩ q commitLacks u x) (hfound : u.namedSalvo x.ts = some w)
    (hearly : u.now < u.decisionClose w) :
    exec (.salvoCommit t q) s = .next (u.onSalvo w.num (fun v => { v with commits := v.commits ++ [(x.sess.id, x.id)] })) := by
  change execSalvoCommit t q s = _
  refine takes_to h ?_
  rw [hfound]
  exact if_neg (Nat.not_le.mpr hearly)

theorem exec_salvoAbort_of_early {w : Salvo} (h : s.takes t ⟨0x15, true, [one 8]⟩ q commitLacks u x) (hfound : u.namedSalvo x.ts = some w)
    (hearly : u.now < u.decisionClose w) :
    exec (.salvoAbort t q) s = .next ((u.onSalvo w.num (fun v => { v with aborted := true })).enqueue x (.salvoAbort t q)) := by
  change execSalvoAbort t q s = _
  refine takes_to h ?_
  rw [hfound]
  exact if_neg (Nat.not_le.mpr hearly)

end

/-- Does a staged salvo stay at an instant (15 R580)? -/
def Staged.stays (up : Nat) (g : Staged) : Bool := g.armed || up < g.lastAdd + 10 * sec

theorem Staged.stays_iff {up : Nat} {g : Staged} : g.stays up = true ↔ g.armed = true ∨ up < g.lastAdd + 10 * sec := by
  rw [Staged.stays, Bool.or_eq_true_iff, decide_eq_true_iff]

theorem exec_salvoHandleExpiry {s : State} {t : Time} (hs : s.inService = true) :
    exec (.salvoHandleExpiry t) s = .next { s.at_ t with sicp.staged := s.sicp.staged.filter (Staged.stays (s.at_ t).up) } := by
  change execSalvoHandleExpiry t s = _
  exact served_to hs rfl

/-- Settles O13: each request in the branch of its meaning that its conditions name, and the filter that ends idle handles. -/
theorem salvoRequests : Obligations.SalvoRequests := by
  refine ⟨fun t q s u x => ⟨exec_salvoOpen_of_room, fun h g hfound => exec_salvoAdd_of_room h hfound⟩, fun t q s u x =>
    ⟨fun h => ⟨fun g => exec_salvoArm_of_staged h, fun e => exec_salvoArm_of_stored h⟩, fun v => exec_salvoCommit_of_early,
      fun v => exec_salvoAbort_of_early⟩, fun t s hs => ⟨_, exec_salvoHandleExpiry hs, fun g hg => ?_, fun g hg => (List.mem_filter.mp hg).1, rfl⟩⟩
  rw [← Staged.stays_iff]
  exact List.mem_filter.trans (and_iff_right hg)

end Sys2Proof.Machine

/-! ## The beginning and the end of sessions -/

namespace Sys2Proof.Machine

/-! ### Handshakes and records -/

section
variable {s : State} {t : Time} {h : Hello} {id sub : Nat} {c : Session} (hs : s.inService = true)
include hs

section
variable (hlistens : (s.at_ t).listens h = true) (hmine : (s.at_ t).toPair h = false ∨ s.dbl.role.holds = true)
include hlistens hmine

/-- A hello to where this chip accepts SiCP passes the first two checks. -/
theorem exec_dtlsClientHello {v : State}
    (heff : (if !h.offers then (s.at_ t).hsFail h 40
      else if !(s.at_ t).keys.rngOk then (s.at_ t).hsFail h 80
      else
        let s := { s.at_ t with sicp.cookies := (s.at_ t).sicp.cookies.filter (fun k => (s.at_ t).up ≤ k.2.2 + 2 * sec) }
        if s.sicp.cookies.any (fun k => k.1 = h.peer && h.cookie = some k.2.1) then s.handshake h
        else
          let (v, s) := s.fresh
          { s with sicp.cookies := s.sicp.cookies ++ [(h.peer, v, s.up)] }.sendVia h.port (.dtlsRetry h.peer v)) = v) :
    exec (.dtlsClientHello t h) s = .next v := by
  change execDtlsClientHello t h s = _
  refine served_to hs ((if_neg fun hnot => ?_).trans ((if_neg fun hnot => ?_).trans heff))
  · rw [hlistens] at hnot
    exact Bool.false_ne_true hnot
  · rw [Bool.and_eq_true_iff, Bool.not_eq_true'] at hnot
    obtain ⟨hpair, hholds⟩ := hnot
    obtain hown | hrole := hmine
    · exact Bool.false_ne_true (hown.symm.trans hpair)
    · exact Bool.false_ne_true (hholds.symm.trans hrole)

theorem exec_dtlsClientHello_of_none (hoffers : h.offers = false) :
    exec (.dtlsClientHello t h) s = .next (((s.at_ t).bump R.SCP_HS_FAIL 1).sendVia h.port (.dtlsAlert h.peer 40)) :=
  exec_dtlsClientHello hs hlistens hmine (if_pos (by rw [hoffers]; rfl))

section
variable (hoffers : h.offers = true) (hrng : s.keys.rngOk = true)
include hoffers hrng

theorem exec_dtlsClientHello_of_new
    (hnew : ((s.at_ t).sicp.cookies.filter (fun k => (s.at_ t).up ≤ k.2.2 + 2 * sec)).any (fun k => k.1 = h.peer && h.cookie = some k.2.1) = false) :
    exec (.dtlsClientHello t h) s = .next
      (({ s.at_ t with
          free := (s.at_ t).free + 1
          sicp.cookies := (s.at_ t).sicp.cookies.filter (fun k => (s.at_ t).up ≤ k.2.2 + 2 * sec) ++
            [(h.peer, Config.freeNat (s.at_ t).free, (s.at_ t).up)] } : State).sendVia h.port
        (.dtlsRetry h.peer (Config.freeNat (s.at_ t).free))) :=
  exec_dtlsClientHello hs hlistens hmine ((if_neg (by rw [hoffers]; exact Bool.false_ne_true)).trans
    ((if_neg (by rw [show (s.at_ t).keys.rngOk = true from hrng]; exact Bool.false_ne_true)).trans (if_neg (Bool.eq_false_iff.mp hnew))))

theorem exec_dtlsClientHello_of_known
    (hknown : ((s.at_ t).sicp.cookies.filter (fun k => (s.at_ t).up ≤ k.2.2 + 2 * sec)).any (fun k => k.1 = h.peer && h.cookie = some k.2.1) = true) :
    exec (.dtlsClientHello t h) s = .next
      (({ s.at_ t with sicp.cookies := (s.at_ t).sicp.cookies.filter (fun k => (s.at_ t).up ≤ k.2.2 + 2 * sec) } : State).handshake h) :=
  exec_dtlsClientHello hs hlistens hmine ((if_neg (by rw [hoffers]; exact Bool.false_ne_true)).trans
    ((if_neg (by rw [show (s.at_ t).keys.rngOk = true from hrng]; exact Bool.false_ne_true)).trans (if_pos hknown)))

end
end

theorem exec_sicpRecordUnparsable_stray : exec (.sicpRecordUnparsable t .stray) s = .next ((s.at_ t).bump R.SCP_RX_DISCARD 1) := by
  change execSicpRecordUnparsable t .stray s = _
  exact served_to hs rfl

theorem exec_pairDatagramHandoff_of_up (hnot : s.dbl.role.holds = false) (hup : s.dbl.linkUp = true) (hdet : s.dbl.role ≠ .detached)
    (hyield : s.dbl.role ≠ .yielded) :
    exec (.pairDatagramHandoff t) s = .next (((s.at_ t).bump R.DBL_HANDOFFS 1).dblSend 8 0 []) := by
  change execPairDatagramHandoff t s = _
  refine served_to hs ((if_neg (Bool.eq_false_iff.mp hnot)).trans (if_pos ?_))
  rw [Bool.and_eq_true_iff, Bool.and_eq_true_iff, Bool.or_eq_true_iff]
  exact ⟨⟨hup, decide_eq_true hdet⟩, .inl (decide_eq_true hyield)⟩

section
variable (hsess : s.sess id = some c)
include hsess

theorem exec_keyUpdate_of_sess :
    exec (.keyUpdate t id) s = .next (((s.at_ t).authenticated c).setSess id (fun c => { c with rxKeys := c.rxKeys + 1 })) := by
  change execKeyUpdate t id s = _
  refine served_to hs ?_
  rw [show (s.at_ t).sess id = some c from hsess]

theorem exec_closeNotify_of_sess : exec (.closeNotify t id) s = .next (((s.at_ t).authenticated c).endSession id) := by
  change execCloseNotify t id s = _
  refine served_to hs ?_
  rw [show (s.at_ t).sess id = some c from hsess]

theorem exec_sessionIdleExpiry_of_due (hdue : c.lastRx + s.idle * sec ≤ (s.at_ t).up) :
    exec (.sessionIdleExpiry t id) s = .next (((s.at_ t).endSession id).sendVia c.port (.dtlsClose id)) := by
  change execSessionIdleExpiry t id s = _
  refine served_to hs ?_
  rw [show (s.at_ t).sess id = some c from hsess]
  exact if_pos hdue

theorem exec_sessionIdleExpiry_of_early (hearly : s.idle * sec + c.lastRx > (s.at_ t).up) : exec (.sessionIdleExpiry t id) s = .next (s.at_ t) := by
  change execSessionIdleExpiry t id s = _
  refine served_to hs ?_
  rw [show (s.at_ t).sess id = some c from hsess]
  refine if_neg fun hdue => ?_
  have hle : c.lastRx + s.idle * sec ≤ (s.at_ t).up := hdue
  omega

theorem exec_sicpRecordUnparsable_size :
    exec (.sicpRecordUnparsable t (.size id)) s = .next (((s.at_ t).bump R.SCP_RX_DISCARD 1).authenticated c) := by
  change execSicpRecordUnparsable t (.size id) s = _
  refine served_to hs ?_
  have hkept : ((s.at_ t).bump R.SCP_RX_DISCARD 1).sess id = some c := hsess
  dsimp only
  rw [hkept]

end
end

end Sys2Proof.Machine

/-! ### Ends of sessions -/

namespace Sys2Proof.Machine

section
variable {s u : State} {α : Type} {f : Fld} {id j n v p isl cls code : Nat} {detail : List Byte} {m : Out} {c : Session} {t : Time}

/-- What a chip holds of its sessions: their IDs, the staged salvos and the waiting takes. -/
def State.holding (s : State) : List Nat × List Staged × List Waiting := (s.sicp.sessions.map (·.id), s.sicp.staged, s.xp.waiting)

/-- Nothing is left of a session (15 R564). -/
def Gone (id : Nat) (h : List Nat × List Staged × List Waiting) : Prop :=
  id ∉ h.1 ∧ (∀ g ∈ h.2.1, g.sess ≠ id) ∧ ∀ w ∈ h.2.2, w.sess ≠ id

namespace State

theorem holding_of_core (h : u.core = s.core) : u.holding = s.holding := by
  have hids (x : State) : x.sicp.sessions.map (·.id) = x.core.sicp.sessions.map (·.id) := by
    unfold core Sicp.quiet
    dsimp only
    rw [List.map_map]
    rfl
  have hcore (x : State) : x.holding = (x.core.sicp.sessions.map (·.id), x.core.sicp.staged, x.core.xp.waiting) := by
    rw [← hids]
    rfl
  rw [hcore, hcore, h]

theorem sess_eq_none_iff : s.sess id = none ↔ id ∉ s.holding.1 := by
  unfold sess holding
  rw [List.find?_eq_none]
  simp only [decide_eq_true_eq, List.mem_map, not_exists, not_and]

theorem gone_iff : Gone id s.holding ↔ s.sess id = none ∧ (∀ g ∈ s.sicp.staged, g.sess ≠ id) ∧ ∀ w ∈ s.xp.waiting, w.sess ≠ id :=
  and_congr_left fun _ => sess_eq_none_iff.symm

theorem setSess_holding {g : Session → Session} (hg : ∀ c, (g c).id = c.id) : (s.setSess id g).holding = s.holding := by
  have hids : ∀ l : List Session, (updFirst (fun c => c.id = id) g l).map (·.id) = l.map (·.id) := by
    intro l
    induction l with
    | nil => rfl
    | cons a l ih =>
      unfold updFirst
      split
      · rw [List.map_cons, List.map_cons, hg]
      · rw [List.map_cons, List.map_cons, ih]
  exact Prod.ext (hids _) rfl

theorem authenticated_holding : (s.authenticated c).holding = s.holding := by
  have hspend (u : State) (p : Nat) (pair : Bool) : (u.spend p pair).2.holding = u.holding := by
    unfold spend
    dsimp only
    split <;> rfl
  unfold authenticated
  exact (hspend ..).trans (setSess_holding fun _ => rfl)

theorem sendVia_holding : (s.sendVia p m).holding = s.holding := holding_of_core sendVia_core

theorem stageShow_core : s.stageShow.core = s.core := by
  unfold stageShow
  exact set_core.trans (set_core.trans (set_core.trans set_core))

theorem stageDiscard_holding {cause : Nat} : (s.stageDiscard cause).holding = s.holding := by
  have hzero : State.holding { s.zeroStage with boot.staging := none } = s.holding := by
    unfold holding
    rfl
  unfold stageDiscard
  split
  · rfl
  · exact (holding_of_core event_core).trans ((holding_of_core stageShow_core).trans hzero)

/-- 15 R564: the end of a session takes with it what is staged and what waits. -/
theorem endSession_holding (hsess : s.sess id ≠ none) : (s.endSession id).holding =
    (s.holding.1.filter (· ≠ id), s.holding.2.1.filter (fun g => g.sess ≠ id), s.holding.2.2.filter (fun w => w.sess ≠ id)) := by
  obtain ⟨c, hc⟩ := Option.ne_none_iff_exists'.mp hsess
  unfold endSession
  rw [hc]
  refine (holding_of_core sessShow_core).trans ?_
  refine Eq.trans (b := State.holding _) ((apply_ite holding ..).trans ((if_congr Iff.rfl stageDiscard_holding rfl).trans (ite_self _))) ?_
  refine Prod.ext ?_ rfl
  exact (List.filter_map (f := Session.id) (p := fun n => Decidable.decide (n ≠ id)) (l := s.sicp.sessions)).symm

theorem endSession_gone (h : Gone id s.holding ∨ id ∈ s.holding.1) : Gone id (s.endSession id).holding := by
  by_cases hnone : s.sess id = none
  · have hsame : s.endSession id = s := by
      unfold endSession
      rw [hnone]
    rw [hsame]
    exact h.resolve_right (sess_eq_none_iff.mp hnone)
  · rw [endSession_holding hnone]
    exact ⟨fun hmem => absurd rfl (of_decide_eq_true (List.mem_filter.mp hmem).2),
      fun g hg => of_decide_eq_true (List.mem_filter.mp hg).2, fun w hw => of_decide_eq_true (List.mem_filter.mp hw).2⟩

theorem endSession_keeps_gone (h : Gone id s.holding) : Gone id (s.endSession j).holding := by
  obtain ⟨hids, hstaged, hwaiting⟩ := h
  by_cases hnone : s.sess j = none
  · have hsame : s.endSession j = s := by
      unfold endSession
      rw [hnone]
    rw [hsame]
    exact ⟨hids, hstaged, hwaiting⟩
  · rw [endSession_holding hnone]
    exact ⟨fun hmem => hids (List.mem_filter.mp hmem).1, fun g hg => hstaged g (List.mem_filter.mp hg).1,
      fun w hw => hwaiting w (List.mem_filter.mp hw).1⟩

/-- A session either ends with another or stays. -/
theorem endSession_gone_or (h : Gone id s.holding ∨ id ∈ s.holding.1) : Gone id (s.endSession j).holding ∨ id ∈ (s.endSession j).holding.1 := by
  by_cases hj : j = id
  · exact .inl (hj ▸ endSession_gone (hj ▸ h))
  · obtain hgone | hmem := h
    · exact .inl (endSession_keeps_gone hgone)
    · refine .inr ?_
      by_cases hnone : s.sess j = none
      · have hsame : s.endSession j = s := by
          unfold endSession
          rw [hnone]
        rwa [hsame]
      · rw [endSession_holding hnone]
        exact List.mem_filter.mpr ⟨hmem, decide_eq_true (Ne.symm hj)⟩

end State
end

end Sys2Proof.Machine

/-! ### The port of a session -/

namespace Sys2Proof.Machine

section
variable {s u : State} {α : Type} {φ : Fld → Nat} {f : Fld} {id n v p k isl cls code : Nat} {detail : List Byte} {m : Out} {c : Session} {t : Time}

/-- The fields that say what a port sends (07 R276). -/
def Fld.ofLine (p : Nat) (g : Fld) : Prop := g = R.PORT_STATE p ∨ g = R.PORT_RF_RX p ∨ g = R.PORT_LF_RX p

/-- What a port sends is told by fields that read as `φ` gives. -/
def State.Faces (s : State) (p : Nat) (φ : Fld → Nat) : Prop := ∀ g, g.ofLine p → s.get g = φ g

/-- A field elsewhere than the line state of any port that there is: at another place in 256 bytes, or above every port. -/
def Fld.offLine (f : Fld) : Prop := f.addr % 0x100 ≠ 0 ∨ 0x4000000000 + 0x22C0000 ≤ f.addr

theorem Fld.ofLine_addr {g : Fld} (hg : g.ofLine p) : g.addr = 0x4000000000 + (portPlace p).1 * 0x100000 + (portPlace p).2 := by
  obtain rfl | rfl | rfl := hg <;> rfl

theorem Fld.offLine_ne {g : Fld} (hp : p < 258) (hf : f.offLine) (hg : g.ofLine p) : g.addr ≠ f.addr := by
  have hplace : (portPlace p).1 * 0x100000 + (portPlace p).2 ≤ 0x2270100 ∧ (portPlace p).2 % 0x100 = 0 := by
    unfold portPlace
    split <;> dsimp only <;> omega
  have haddr := ofLine_addr hg
  unfold offLine at hf
  omega

theorem Fld.ofLine_outside {g : Fld} (hg : g.ofLine p) (hp : p < 258) : g.outside false = true := by
  have hplace : (portPlace p).2 ≤ 0x70100 ∧ ((portPlace p).1 = 34 → 0x70000 ≤ (portPlace p).2) := by
    unfold portPlace
    split <;> dsimp only <;> omega
  rw [Fld.outside_iff]
  obtain rfl | rfl | rfl := hg
  all_goals
    dsimp only [R.PORT_STATE, R.PORT_RF_RX, R.PORT_LF_RX, R.SCP_EV_DROPPED, R.LOG_DROPPED]
    exact ⟨by omega, by omega, fun hfaults => Bool.false_ne_true hfaults.1⟩

theorem portCount_offLine {off hi lo : Nat} (hoff : off % 0x100 ≠ 0) : Fld.offLine ⟨(portPlace k).1, (portPlace k).2 + off, hi, lo⟩ := by
  refine .inl ?_
  unfold Fld.addr portPlace
  split <;> dsimp only <;> omega

theorem tenSessions_offLine : (R.TEN_SESSIONS n).offLine := by
  refine .inr ?_
  unfold Fld.addr R.TEN_SESSIONS
  dsimp only
  omega

namespace State

theorem Faces.canSend (h : u.Faces p s.get) : u.canSend p = s.canSend p := by
  unfold State.canSend lineTx portState has
  rw [h _ (.inl rfl), h _ (.inr (.inl rfl)), h _ (.inr (.inr rfl))]

theorem Faces.of_regs (h : s.Faces p φ) (hregs : u.regs = s.regs) : u.Faces p φ := fun g hg => (get_of_regs hregs g).trans (h g hg)

theorem Faces.ite {q : Prop} [Decidable q] (hs : s.Faces p φ) (hu : u.Faces p φ) : (if q then s else u).Faces p φ := by
  split <;> assumption

theorem Faces.bump64 (h : s.Faces p φ) : (s.bump64 f n).Faces p φ := by
  unfold State.bump64
  exact .ite h (h.of_regs rfl)

theorem zeroStage_regs : State.regs { s.zeroStage with boot.staging := none } = s.regs := by
  unfold zeroStage
  rfl

section
variable (hp : p < 258)
include hp

theorem Faces.set (h : s.Faces p φ) (hf : f.offLine) : (s.set f v).Faces p φ :=
  fun g hg => (get_set_word (Fld.offLine_ne hp hf hg) v).trans (h g hg)

theorem Faces.bump (h : s.Faces p φ) (hf : f.offLine) : (s.bump f n).Faces p φ := .ite h (h.set hp hf)

theorem Faces.event (h : s.Faces p φ) : (s.event isl cls code detail).Faces p φ :=
  fun g hg => (((Leaves.refl (faults := false) s).event isl cls code detail).get g (Fld.ofLine_outside hg hp)).trans (h g hg)

theorem Faces.sendVia (h : s.Faces p φ) : (s.sendVia k m).Faces p φ := by
  have hfresh : s.fresh.2.Faces p φ := h.of_regs rfl
  have hcount : (s.fresh.2.bump (R.PORT_TX_FRAMES k) 1).Faces p φ := hfresh.bump hp (portCount_offLine (by decide))
  have hsent : ((s.fresh.2.bump (R.PORT_TX_FRAMES k) 1).bump64 (R.PORT_TX_OCTETS_LO k) (64 + s.fresh.1 % 1459)).Faces p φ := hcount.bump64
  exact .ite (hsent.of_regs (emit_regs ..)) (h.bump hp (portCount_offLine (by decide)))

theorem Faces.sessShow {tenant : Nat} (h : s.Faces p φ) : (s.sessShow tenant).Faces p φ := by
  unfold State.sessShow
  exact ((h.set hp (.inr (by decide))).set hp (.inr (by decide))).set hp tenSessions_offLine

theorem Faces.stageShow (h : s.Faces p φ) : s.stageShow.Faces p φ := by
  unfold State.stageShow
  exact (((h.set hp (.inr (by decide))).set hp (.inr (by decide))).set hp (.inr (by decide))).set hp (.inr (by decide))

theorem Faces.stageDiscard {cause : Nat} (h : s.Faces p φ) : (s.stageDiscard cause).Faces p φ := by
  have hzero : State.Faces { s.zeroStage with boot.staging := none } p φ := h.of_regs zeroStage_regs
  unfold State.stageDiscard
  split
  · exact h
  · exact (hzero.stageShow hp).event hp

theorem Faces.endSession (h : s.Faces p φ) : (s.endSession id).Faces p φ := by
  unfold State.endSession
  split
  · exact h
  · next c _ =>
    exact Faces.sessShow hp (Faces.ite (Faces.stageDiscard hp (h.of_regs rfl)) (h.of_regs rfl))

end

theorem sendVia_out (h : s.canSend p = true) : (s.sendVia p m).out = s.out ++ [.msg p m] := by
  have hwide {w : State} {g : Fld} {k : Nat} : (w.bump64 g k).out = w.out := (apply_ite State.out ..).trans (ite_self _)
  unfold sendVia
  rw [if_pos h]
  exact congrArg (· ++ [Out.msg p m]) hwide

end State
end
end Sys2Proof.Machine

/-! ### Certificates that run out, and events -/

namespace Sys2Proof.Machine

section
variable {s u : State} {φ : Fld → Nat} {id sub n p : Nat} {m : Out} {c x : Session} {v : Sub} {t : Time} {l : List Session}

namespace State

/-- 16 R593: a session with an expired certificate ends, with its alert and AUTH_FAIL. -/
def expire (s : State) (c : Session) : State := ((s.endSession c.id).sendVia c.port (.dtlsClose c.id)).authFail 2 c.peer

theorem authFail_core {reason : Nat} {peer : Nat × Nat} : (s.authFail reason peer).core = s.core := by
  unfold authFail
  exact event_core

theorem Faces.authFail {reason : Nat} {peer : Nat × Nat} (h : s.Faces p φ) (hp : p < 258) : (s.authFail reason peer).Faces p φ := by
  unfold State.authFail
  exact h.event hp

theorem expire_holding : (s.expire x).holding = (s.endSession x.id).holding := by
  unfold expire
  rw [holding_of_core authFail_core, sendVia_holding]

theorem Faces.expire (h : s.Faces p φ) (hp : p < 258) : (s.expire x).Faces p φ := by
  unfold State.expire
  exact ((h.endSession hp).sendVia hp).authFail hp

theorem expire_out (hsend : (s.endSession c.id).canSend c.port = true) : .msg c.port (.dtlsClose c.id) ∈ (s.expire c).out := by
  have hsent : .msg c.port (.dtlsClose c.id) ∈ ((s.endSession c.id).sendVia c.port (.dtlsClose c.id)).out := by
    rw [sendVia_out hsend]
    exact List.mem_append_right _ (List.mem_singleton_self _)
  unfold expire
  exact (Keeps.authFail (.refl _)).out_ok.subset hsent

theorem expire_keeps : Keeps s (s.expire x) := by
  unfold expire
  exact (Keeps.refl s).endSession.sendVia.authFail

theorem foldl_expire_gone (hc : c ∈ l) (h : c.id ∈ s.holding.1) : Gone c.id (l.foldl expire s).holding := by
  obtain ⟨before, after, rfl⟩ := List.append_of_mem hc
  rw [List.foldl_append, List.foldl_cons]
  have hbefore : Gone c.id (before.foldl expire s).holding ∨ c.id ∈ (before.foldl expire s).holding.1 :=
    List.foldlRecOn (motive := fun u : State => Gone c.id u.holding ∨ c.id ∈ u.holding.1) before expire (.inr h)
      fun u hu x _ => by rw [expire_holding]; exact endSession_gone_or hu
  have hthere : Gone c.id ((before.foldl expire s).expire c).holding := by
    rw [expire_holding]
    exact endSession_gone hbefore
  exact List.foldlRecOn (motive := fun u : State => Gone c.id u.holding) after expire hthere
    fun u hu x _ => by rw [expire_holding]; exact endSession_keeps_gone hu

theorem foldl_expire_out (hc : c ∈ l) (hport : c.port < 258) (hsend : s.canSend c.port = true) :
    .msg c.port (.dtlsClose c.id) ∈ (l.foldl expire s).out := by
  obtain ⟨before, after, rfl⟩ := List.append_of_mem hc
  rw [List.foldl_append, List.foldl_cons]
  have hbefore : (before.foldl expire s).Faces c.port s.get :=
    List.foldlRecOn (motive := fun u : State => u.Faces c.port s.get) before expire (fun _ _ => rfl) fun u hu x _ => hu.expire hport
  have hthere := expire_out (c := c) ((hbefore.endSession (id := c.id) hport).canSend.trans hsend)
  have hafter : Keeps ((before.foldl expire s).expire c) (after.foldl expire ((before.foldl expire s).expire c)) :=
    .foldl ⟨.refl _, fun u x => expire_keeps⟩
  exact hafter.out_ok.subset hthere

end State

/-- The session found by an ID has it. -/
theorem State.id_of_sess (h : s.sess id = some c) : c.id = id := by
  unfold sess at h
  exact of_decide_eq_true (List.find?_some (p := fun c : Session => Decidable.decide (c.id = id)) h)

theorem State.mem_of_sess (h : s.sess id = some c) : c ∈ s.sicp.sessions := List.mem_of_find?_eq_some h

theorem State.id_mem_holding (h : s.sess id = some c) : id ∈ s.holding.1 :=
  State.id_of_sess h ▸ List.mem_map_of_mem (State.mem_of_sess h)

theorem exec_certValidityCheck (hs : s.inService = true) : exec (.certValidityCheck t) s = .next
    (((s.at_ t).sicp.sessions.filter (fun c => c.certs.any (fun x => x.notAfter < (s.at_ t).utcSeconds))).foldl State.expire (s.at_ t)) := by
  change execCertValidityCheck t s = _
  exact served_to hs rfl

/-! ### Events -/

theorem find?_updFirst {α : Type} {q : α → Bool} {f : α → α} {a : α} {l : List α} (hf : ∀ a, q (f a) = q a) (h : l.find? q = some a) :
    (updFirst q f l).find? q = some (f a) := by
  induction l with
  | nil => cases h
  | cons b l ih =>
    unfold updFirst
    by_cases hb : q b = true
    · rw [if_pos hb, List.find?_cons_of_pos ((hf b).trans hb)]
      rw [List.find?_cons_of_pos hb] at h
      rw [Option.some.inj h]
    · rw [if_neg hb, List.find?_cons_of_neg hb]
      rw [List.find?_cons_of_neg hb] at h
      exact ih h

/-- A session after what an EVENT message takes from the queue of its subscription (15 R584). -/
def Session.told (c : Session) (sub : Nat) : Session :=
  Session.sent { c with subs := c.subs.map (fun x => if x.num = sub then { x with queue := x.queue.drop 14, gap := 0 } else x) }

/-- The events of a message have left their queue and are counted. -/
def State.telling (s : State) (id sub n : Nat) : State := (s.setSess id (fun c => c.told sub)).bump R.SCP_EV_SENT n

theorem exec_event_of_queue (hs : s.inService = true) (hsess : s.sess id = some c) (hsub : c.subs.find? (fun y => y.num = sub) = some v)
    (hqueue : v.queue ≠ []) : ∃ bytes : List Byte, exec (.event t id sub) s = .next
      (((s.at_ t).telling id sub (v.queue.take 14).length).sendVia c.port (.event id sub v.gap (v.queue.take 14) bytes)) := by
  refine ⟨msgBytes 0x80 2 ((c.txSeq + 1) % 2 ^ 32) sub
    ((if v.gap = 0 then [] else [⟨0x1F, beBytes 4 v.gap⟩]) ++ (v.queue.take 14).map (fun e => ⟨0x1E, e.bytes⟩)), ?_⟩
  change execEvent t id sub s = _
  refine served_to hs ?_
  rw [show (s.at_ t).sess id = some c from hsess]
  dsimp only
  rw [hsub]
  exact if_neg (by rw [List.isEmpty_iff]; exact hqueue)

namespace State

theorem bump_out {f : Fld} : (s.bump f n).out = s.out := by
  unfold bump
  split <;> rfl

theorem telling_sess (hsess : s.sess id = some c) : (s.telling id sub n).sess id = some (c.told sub) := by
  have hset : (s.setSess id (fun c => c.told sub)).sess id = some (c.told sub) := by
    unfold sess setSess
    exact find?_updFirst (f := fun c : Session => c.told sub) (fun _ => rfl) hsess
  have hsicp : (s.telling id sub n).sicp = (s.setSess id (fun c => c.told sub)).sicp := by
    unfold telling bump
    split <;> rfl
  unfold sess at hset ⊢
  rwa [hsicp]

theorem Faces.telling (h : s.Faces p φ) (hp : p < 258) : (s.telling id sub n).Faces p φ :=
  Faces.bump hp (h.of_regs (setSess_regs ..)) (.inr (by decide))

theorem telling_regs : (s.telling id sub n).regs = (s.bump R.SCP_EV_SENT n).regs := by
  unfold telling bump
  split <;> rfl

theorem telling_out : (s.telling id sub n).out = s.out := (apply_ite State.out ..).trans (ite_self _)

/-- 07 R276: a message that cannot leave is counted. -/
theorem sendVia_of_quiet (h : s.canSend p = false) : s.sendVia p m = s.bump (R.PORT_TX_DISCARD p) 1 := if_neg (Bool.eq_false_iff.mp h)

/-- 07 R276: what cannot leave counts in its port and goes nowhere. -/
theorem telling_quiet (hc : canonical s.regs = true) (hquiet : (s.telling id sub n).canSend p = false) :
    ((s.telling id sub n).sendVia p m).out = s.out ∧
      ((s.telling id sub n).sendVia p m).get (R.PORT_TX_DISCARD p) = (s.get (R.PORT_TX_DISCARD p) + 1) % 2 ^ 32 := by
  have hcounted : canonical (s.telling id sub n).regs = true := telling_regs (s := s) (id := id) (sub := sub) (n := n) ▸ bump_canonical hc
  have hsame : (s.telling id sub n).get (R.PORT_TX_DISCARD p) = s.get (R.PORT_TX_DISCARD p) := by
    refine (get_of_regs telling_regs _).trans (get_bump_word ?_ n)
    unfold Fld.addr R.PORT_TX_DISCARD portPlace R.SCP_EV_SENT
    split <;> dsimp only <;> omega
  have hcount := get_bump_same (f := R.PORT_TX_DISCARD p) hcounted (Nat.zero_le 31) (Nat.lt_succ_self 31) 1
  rw [hsame] at hcount
  rw [sendVia_of_quiet hquiet]
  exact ⟨bump_out.trans telling_out, hcount⟩

theorem sendVia_evSent : (s.sendVia p m).get R.SCP_EV_SENT = s.get R.SCP_EV_SENT := by
  have hcount {off : Nat} (hoff : off % 0x100 ≠ 0x30) : R.SCP_EV_SENT.addr ≠ Fld.addr ⟨(portPlace p).1, (portPlace p).2 + off, 31, 0⟩ := by
    unfold Fld.addr portPlace R.SCP_EV_SENT
    split <;> dsimp only <;> omega
  have hwide {w : State} {k : Nat} : (w.bump64 (R.PORT_TX_OCTETS_LO p) k).regs = w.regs := (apply_ite State.regs ..).trans (ite_self _)
  have hsent : (s.fresh.2.bump (R.PORT_TX_FRAMES p) 1).get R.SCP_EV_SENT = s.get R.SCP_EV_SENT := get_bump_word (hcount (by decide)) 1
  by_cases h : s.canSend p = true
  · unfold sendVia
    rw [if_pos h]
    exact (get_of_regs hwide _).trans hsent
  · rw [sendVia_of_quiet (Bool.eq_false_iff.mpr h)]
    exact get_bump_word (hcount (by decide)) 1

end State
end

/-- Settles O23: each handshake, record and hand-off in the branch of its meaning that its conditions name; the end of a session takes all that the chip
holds of it; what a session sends leaves by its port, which no count along the way touches. -/
theorem sessionsBeginAndEnd : Obligations.SessionsBeginAndEnd := by
  refine ⟨fun t h id c s hs hlistens hmine => ⟨exec_dtlsClientHello_of_none hs hlistens hmine, exec_dtlsClientHello_of_new hs hlistens hmine,
    exec_dtlsClientHello_of_known hs hlistens hmine, exec_keyUpdate_of_sess hs⟩, fun t id c s hs hsess => ?_, fun t s hs hform => ?_⟩
  · have hmem : id ∈ (s.at_ t).holding.1 := State.id_mem_holding (s := s.at_ t) hsess
    have hid := State.id_of_sess hsess
    refine ⟨⟨_, exec_closeNotify_of_sess hs hsess, State.gone_iff.mp (State.endSession_gone (.inr ?_))⟩, fun hdue =>
      ⟨_, exec_sessionIdleExpiry_of_due hs hsess hdue, State.gone_iff.mp ?_, fun hport hsend => ?_⟩, fun hold =>
      ⟨_, exec_certValidityCheck hs, State.gone_iff.mp ?_, fun hport hsend => ?_⟩, exec_sessionIdleExpiry_of_early hs hsess⟩
    · rwa [State.authenticated_holding]
    · rw [State.sendVia_holding]
      exact State.endSession_gone (.inr hmem)
    · have hfaces : ((s.at_ t).endSession id).Faces c.port (s.at_ t).get := State.Faces.endSession hport fun _ _ => rfl
      rw [State.sendVia_out (hfaces.canSend.trans hsend)]
      exact List.mem_append_right _ (List.mem_singleton_self _)
    all_goals
      obtain ⟨x, hx, hpast⟩ := hold
      have hc : c ∈ (s.at_ t).sicp.sessions.filter (fun c => c.certs.any (fun x => x.notAfter < (s.at_ t).utcSeconds)) :=
        List.mem_filter.mpr ⟨State.mem_of_sess hsess, List.any_eq_true.mpr ⟨x, hx, decide_eq_true hpast⟩⟩
    · exact hid ▸ State.foldl_expire_gone hc (hid ▸ hmem)
    · exact hid ▸ State.foldl_expire_out hc hport hsend
  · refine ⟨exec_sicpRecordUnparsable_stray hs, fun id c => exec_sicpRecordUnparsable_size hs, exec_pairDatagramHandoff_of_up hs,
      fun id c sub v hsess hsub hqueue => ?_⟩
    obtain ⟨bytes, hnext⟩ := exec_event_of_queue (t := t) hs hsess hsub hqueue
    obtain ⟨hregs, -, -⟩ := State.formed_iff.mp hform
    have hcount := State.get_bump_same (f := R.SCP_EV_SENT) (s := s.at_ t) hregs (by decide) (by decide) (v.queue.take 14).length
    have hfaces (hport : c.port < 258) : ((s.at_ t).telling id sub (v.queue.take 14).length).Faces c.port (s.at_ t).get :=
      State.Faces.telling (fun _ _ => rfl) hport
    refine ⟨_, hnext, fun hport hsend => ⟨bytes, ?_⟩, fun hport hquiet => ?_, ?_, ?_⟩
    · rw [State.sendVia_out ((hfaces hport).canSend.trans hsend), State.telling_out]
      rfl
    · exact State.telling_quiet hregs ((hfaces hport).canSend.trans hquiet)
    · rw [State.sendVia_evSent, State.get_of_regs State.telling_regs]
      exact hcount
    · refine ⟨c.told sub, ?_, rfl⟩
      unfold State.sess
      rw [State.sendVia_sicp]
      exact State.telling_sess (s := s.at_ t) hsess

end Sys2Proof.Machine

/-! ## Requests of keys and of the life cycle -/

namespace Sys2Proof.Machine

section
variable {s u : State} {t : Time} {q : Req} {x : Ctx} {w : ImportFacts}

/-- 17 R626: KEY serves, the life cycle allows key requests, and there is a key-encryption key. -/
theorem State.keyReady_of_works {body : State → State} (h : keyWorks u) : u.keyReady x body = body u := by
  obtain ⟨hresetting, hlife, hkek⟩ := h
  refine (if_neg (Bool.eq_false_iff.mp hresetting)).trans ((if_neg fun hnot => ?_).trans (if_neg fun hnone => ?_))
  · rw [Bool.and_eq_true_iff, decide_eq_true_iff, decide_eq_true_iff] at hnot
    omega
  · rw [Option.isNone_iff_eq_none] at hnone
    rw [hnone] at hkek
    exact Bool.false_ne_true hkek

theorem exec_keyGenerate_of_works (h : s.takes t ⟨0x70, false, [one 0x2A]⟩ q (slotNeed 11) u x) (hworks : keyWorks u) (huse : fld x.ts 0x2A 1 1 = 2)
    (hmay : u.mayFill (fld x.ts 0x2A 0 1) = true) (hrng : u.keys.rngOk = true) : exec (.keyGenerate t q) s =
      .next (((u.fillSlot (fld x.ts 0x2A 0 1) 2 0 1).bump R.KEY_GENERATES 1).ok x [keyTlv (fld x.ts 0x2A 0 1) 2 0]) := by
  change execKeyGenerate t q s = _
  refine takes_to h ((State.keyReady_of_works hworks).trans ?_)
  dsimp only
  rw [huse, hmay, hrng]
  rfl

/-- 17 R628: the checks of an import in their order. -/
theorem exec_keyImport_of_good (h : s.takes t ⟨0x71, false, [one 0x2A, one 0x19]⟩ q (slotNeed 11) u x) (hworks : keyWorks u)
    (hmay : u.mayFill (fld x.ts 0x2A 0 1) = true) (hshape : importShape (tlv x.ts 0x19) = true)
    (hkind : (u.kslot (beAt (tlv x.ts 0x19) 0 1)).kind ≠ 0 ∨ beAt (tlv x.ts 0x19) 4 65 = 0)
    (hother : beAt (tlv x.ts 0x19) 0 1 ≠ fld x.ts 0x2A 0 1) (hloaded : (u.kslot (beAt (tlv x.ts 0x19) 0 1)).state = 1)
    (hwrap : (u.kslot (beAt (tlv x.ts 0x19) 0 1)).use = 2) (hopen : (u.kslot (beAt (tlv x.ts 0x19) 0 1)).until_ ≤ u.up)
    (hsigned : if bit (beAt (tlv x.ts 0x19) 1 1) 0 then w.badDate = false ∧ w.signerGood = true else bit (byteAt (u.rec1 0x01F0) 3) 0 = false) :
    exec (.keyImport t q w) s =
      .next (u.unwrap x (fld x.ts 0x2A 0 1) (fld x.ts 0x2A 1 1) (beAt (tlv x.ts 0x19) 0 1) w.tagGood) := by
  change execKeyImport t q w s = _
  refine takes_to h ((State.keyReady_of_works hworks).trans ?_)
  dsimp only
  generalize tlv x.ts 0x19 = d at *
  have hform : ¬(!importShape d || Decidable.decide (beAt d 0 1 = fld x.ts 0x2A 0 1)) = true := by
    rw [hshape, decide_eq_false hother]
    exact Bool.false_ne_true
  have hwrapper : ¬(Decidable.decide ((u.kslot (beAt d 0 1)).state ≠ 1) || Decidable.decide ((u.kslot (beAt d 0 1)).use ≠ 2)) = true := by
    rw [hloaded, hwrap]
    exact Bool.false_ne_true
  have hephemeral : ¬(Decidable.decide ((u.kslot (beAt d 0 1)).kind = 0) && Decidable.decide (beAt d 4 65 ≠ 0)) = true := by
    rw [Bool.and_eq_true_iff, decide_eq_true_iff, decide_eq_true_iff]
    exact fun hboth => hkind.elim (· hboth.1) hboth.2
  rw [if_neg (by rw [hmay]; exact Bool.false_ne_true), if_neg hform, if_neg hwrapper, if_neg hephemeral, if_neg (Nat.not_lt.mpr hopen)]
  cases hbit : bit (beAt d 1 1) 0
  · rw [hbit, if_neg Bool.false_ne_true] at hsigned
    rw [hsigned]
    rfl
  · rw [hbit, if_pos rfl] at hsigned
    rw [hsigned.1, hsigned.2]
    rfl

theorem exec_keyDestroy_of_works (h : s.takes t ⟨0x72, false, [one 0x2A]⟩ q (slotNeed 11) u x) (hworks : keyWorks u) :
    exec (.keyDestroy t q) s = .next ((u.emptySlot (fld x.ts 0x2A 0 1)).consumers.ok x []) := by
  change execKeyDestroy t q s = _
  exact takes_to h (State.keyReady_of_works hworks)

theorem exec_keyAttest_of_loaded (h : s.takes t ⟨0x73, false, [one 0x2A]⟩ q (slotNeed 0) u x) (hresetting : u.keys.resetting = false)
    (hloaded : (u.kslot (fld x.ts 0x2A 0 1)).state = 1) : exec (.keyAttest t q) s = .next (u.ok x
      [⟨0x19, u.statement (fld x.ts 0x2A 0 1) ++ beBytes 64 (Config.identitySign (u.statement (fld x.ts 0x2A 0 1)))⟩]) := by
  change execKeyAttest t q s = _
  exact takes_to h ((if_neg (Bool.eq_false_iff.mp hresetting)).trans (if_neg (not_not.mpr hloaded)))

end

/-- Settles O17: each request passes its checks and acts. -/
theorem keyRequests : Obligations.KeyRequests := by
  intro t q w s u x
  exact ⟨exec_keyGenerate_of_works, exec_keyImport_of_good, exec_keyDestroy_of_works, exec_keyAttest_of_loaded⟩

section
variable {s u : State} {t : Time} {q : Req} {x : Ctx}

/-- The rows of Table 17.6. -/
theorem lifeChange_iff {a b : Nat} :
    lifeChange a b = true ↔ (a, b) ∈ [(1, 2), (2, 3), (3, 2), (2, 1), (3, 1), (1, 4), (2, 4), (3, 4)] := by
  simp only [lifeChange, Bool.or_eq_true, Bool.and_eq_true, decide_eq_true_eq, List.mem_cons, Prod.mk.injEq, List.not_mem_nil, or_false]
  omega

section
variable (h : s.takes t ⟨0x74, false, [one 0x2B]⟩ q (chipNeed 11) u x) (hresetting : u.keys.resetting = false)
include h hresetting

theorem exec_lifecycleSet_of_row (hrow : lifeChange u.keys.life (fld x.ts 0x2B 0 1) = true)
    (hleft : 2 ≤ u.keys.left ∨ (u.keys.left = 1 ∧ fld x.ts 0x2B 0 1 = 4))
    (hrng : u.keys.life = 1 → fld x.ts 0x2B 0 1 = 2 → u.keys.rngOk = true) {v : State}
    (hv : v = State.ok { u.lifeEffects (fld x.ts 0x2B 0 1) with
      keys.life := fld x.ts 0x2B 0 1, keys.left := (u.lifeEffects (fld x.ts 0x2B 0 1)).keys.left - 1 } x []) :
    exec (.lifecycleSet t q) s = .next (if fld x.ts 0x2B 0 1 = 4 then v.raise 35 4 0x000A 13 [] {} (13, 3) else v.consumers) := by
  change execLifecycleSet t q s = _
  subst hv
  refine takes_to h ((if_neg (Bool.eq_false_iff.mp hresetting)).trans ((if_neg fun hnot => ?_).trans (if_neg fun hnot => ?_)))
  · rw [hrow] at hnot
    simp only [Bool.not_true, Bool.false_or, Bool.or_eq_true, Bool.and_eq_true, decide_eq_true_eq] at hnot
    omega
  · simp only [Bool.and_eq_true, decide_eq_true_eq, Bool.not_eq_true'] at hnot
    obtain ⟨⟨hlife, hto⟩, hbroken⟩ := hnot
    exact Bool.false_ne_true (hbroken.symm.trans (hrng hlife hto))

theorem exec_lifecycleSet_of_other
    (hother : lifeChange u.keys.life (fld x.ts 0x2B 0 1) = false ∨ u.keys.left = 0 ∨ (u.keys.left = 1 ∧ fld x.ts 0x2B 0 1 ≠ 4) ∨
      (u.keys.life = 1 ∧ fld x.ts 0x2B 0 1 = 2 ∧ u.keys.rngOk = false)) :
    exec (.lifecycleSet t q) s = .next (u.badState x) := by
  change execLifecycleSet t q s = _
  refine takes_to h ((if_neg (Bool.eq_false_iff.mp hresetting)).trans ?_)
  by_cases hfirst : (!lifeChange u.keys.life (fld x.ts 0x2B 0 1) || Decidable.decide (u.keys.left = 0) ||
      (Decidable.decide (u.keys.left = 1) && Decidable.decide (fld x.ts 0x2B 0 1 ≠ 4))) = true
  · exact if_pos hfirst
  · refine (if_neg hfirst).trans (if_pos ?_)
    simp only [Bool.or_eq_true, Bool.and_eq_true, Bool.not_eq_true', decide_eq_true_eq, not_or, not_and, Bool.not_eq_false] at hfirst
    obtain ⟨⟨hrow, hsome⟩, hspare⟩ := hfirst
    obtain hno | hzero | hone | ⟨hlife, hto, hbroken⟩ := hother
    · exact absurd (hno.symm.trans hrow) Bool.false_ne_true
    · exact absurd hzero hsome
    · exact absurd hone.2 (hspare hone.1)
    · simp only [Bool.and_eq_true, decide_eq_true_eq, Bool.not_eq_true']
      exact ⟨⟨hlife, hto⟩, hbroken⟩

end
end

/-- Settles O18: a row of Table 17.6 with a change left passes the checks of the request, and everything else fails one of them. -/
theorem lifeCycleSet : Obligations.LifeCycleSet := by
  refine ⟨rfl, fun a b => lifeChange_iff, fun t q s u x h hresetting => ?_⟩
  exact ⟨fun hrow hleft hrng => exec_lifecycleSet_of_row h hresetting hrow hleft hrng rfl, exec_lifecycleSet_of_other h hresetting⟩

end Sys2Proof.Machine

/-! ## Tamper and the resets of KEY -/

namespace Sys2Proof.Machine

/-! ### The registers of a tamper -/

/-- The fields that a tamper changes and reads: those of AON, and the fault word's own bit for it (17 Table 17.8). -/
def tamperFields : List Fld :=
  [R.AON_STAT_ARMED, R.AON_STAT_ZEROED, R.AON_STAT_LATCH, R.AON_STAT_TAMPER_EN, R.AON_STAT_PIN, R.FLT_WORD_HI_AON_LOST]

section
variable {s u : State} {φ : Fld → Nat} {f : Fld} {v isl cls code tag k : Nat} {detail : List Byte} {acc : Acc} {t : Time} {input : Fin 2}

namespace State

theorem Reads.set_untampered (h : s.Reads (· ∈ tamperFields) φ) (f : Fld) (v : Nat)
    (hf : ∀ g ∈ tamperFields, g.Apart f := by unfold Fld.Apart; decide) : (s.set f v).Reads (· ∈ tamperFields) φ :=
  h.set_beside hf

theorem Reads.set_tampered (h : s.Reads (· ∈ tamperFields) φ) (f : Fld) (v : Nat) (hv : v < 2 ^ f.width)
    (hf : ∀ g ∈ tamperFields, g ≠ f → g.Apart f := by unfold Fld.Apart; decide) (hlo : f.lo ≤ f.hi := by decide) (hhi : f.hi < 32 := by decide) :
    (s.set f v).Reads (· ∈ tamperFields) (Function.update φ f v) :=
  h.set_here hlo hhi hf hv

theorem Reads.fltSync_tamper (h : s.Reads (· ∈ tamperFields) φ) : s.fltSync.Reads (· ∈ tamperFields) φ := by
  unfold State.fltSync
  exact (h.set_untampered R.FLT_WORD_HI_CLASS _).set_untampered R.FLT_STAT_FAULT_N _

theorem Reads.capture_tamper (h : s.Reads (· ∈ tamperFields) φ) : (s.capture isl cls code acc).Reads (· ∈ tamperFields) φ := by
  unfold State.capture
  refine .ite ?_ ?_
  · exact (((h.set_untampered R.FLT_CAP_MERGES _).set_untampered R.FLT_CAP_MULTIPLE _).set_untampered R.FLT_WORD_HI_MULTIPLE _).set_untampered
      R.FLT_CAP_CLASS _
  · have hfirst := (((h.set_untampered R.FLT_CAP_VALID 1).set_untampered R.FLT_CAP_CLASS cls).set_untampered R.FLT_CAP_TYPE acc.typ).set_untampered
      R.FLT_CAP_MERGES 0
    have hplace := ((hfirst.set_untampered R.FLT_CAP_MASTER acc.master).set_untampered R.FLT_CAP_ISLAND isl).set_untampered R.FLT_CAP_CODE code
    exact (((hplace.set_untampered R.FLT_CAP_ADDR_LO _).set_untampered R.FLT_CAP_ADDR_HI _).set_untampered R.FLT_CAP_STAMP _).set_untampered
      R.FLT_CAP_ISEQ _

theorem tamperFields_addr {g : Fld} (hg : g ∈ tamperFields) : g.addr = 0x4002400000 ∨ g = R.FLT_WORD_HI_AON_LOST := by
  fin_cases hg <;> decide

theorem tamperFields_outside {g : Fld} (hg : g ∈ tamperFields) : g.outside false = true := by
  fin_cases hg <;> decide

theorem Reads.latch_tamper (h : s.Reads (· ∈ tamperFields) φ) (hisl : isl < 40) : (s.latch isl cls code acc).Reads (· ∈ tamperFields) φ := by
  obtain ⟨off, b, hflt, hb, hoff⟩ := fltBit_place hisl
  have hbit : ∀ g ∈ tamperFields, g.Apart (fltBit isl) := by
    intro g hg
    rw [hflt]
    refine Fld.Apart.of_bits (by fin_cases hg <;> decide) le_rfl hb fun haddr => ?_
    obtain haon | rfl := tamperFields_addr hg
    · rw [haon] at haddr
      simp only [Fld.addr] at haddr
      omega
    · simp only [Fld.addr, R.FLT_WORD_HI_AON_LOST] at haddr ⊢
      omega
  have hclass : ∀ g ∈ tamperFields, g.Apart (iclassFld isl) := by
    intro g hg haddr
    refine absurd haddr ?_
    obtain haon | rfl := tamperFields_addr hg
    · rw [haon]
      simp only [Fld.addr, iclassFld]
      omega
    · simp only [Fld.addr, R.FLT_WORD_HI_AON_LOST, iclassFld]
      omega
  unfold State.latch
  exact (((h.capture_tamper).set_beside hbit).set_beside hclass).fltSync_tamper

theorem Reads.event_tamper (h : s.Reads (· ∈ tamperFields) φ) : (s.event isl cls code detail).Reads (· ∈ tamperFields) φ :=
  h.event fun _ hg => tamperFields_outside hg

theorem Reads.raise_tamper (h : s.Reads (· ∈ tamperFields) φ) (hisl : isl < 40) (hcls : cls < 3) :
    (s.raise isl cls code tag detail).Reads (· ∈ tamperFields) φ := by
  have hheld : (s.hold isl tag cls code detail).Reads (· ∈ tamperFields) φ := h.of_regs rfl
  unfold State.raise
  rw [react_of_lt hcls]
  exact (hheld.latch_tamper hisl).event_tamper

/-! ### The consumers of keys -/

/-- 17 R624, R625: one of the conditions of the consumers follows its slot. -/
def keyConsumer (s : State) (k : Option Nat) (code tag : Nat) : State :=
  if s.mayWrite k then (if s.flt.conds.any (fun c => c.isl = 34 && c.tag = tag) then s.resolve 34 tag else s)
  else if s.flt.conds.any (fun c => c.isl = 34 && c.tag = tag) then s else s.raise 34 2 code tag (beBytes 1 (k.getD 0))

theorem consumers_eq : s.consumers =
    let u := s.keyConsumer s.journalSlot 0x0702 tagJournalKey
    let w := u.keyConsumer u.logSlot 0x0703 tagLogKey
    if !s.mayWrite s.journalSlot && w.mayWrite w.journalSlot then { w with boot.ckptDue := true } else w := (rfl)

theorem keyConsumer_core {o : Option Nat} : (s.keyConsumer o code tag).core = s.core :=
  core_ite (core_ite resolve_core rfl) (core_ite rfl (raise_core (by decide)))

theorem Reads.keyConsumer {o : Option Nat} (h : s.Reads (· ∈ tamperFields) φ) : (s.keyConsumer o code tag).Reads (· ∈ tamperFields) φ :=
  .ite (.ite (h.of_regs rfl) h) (.ite h (h.raise_tamper (by decide) (by decide)))

theorem consumers_keys : s.consumers.keys = s.keys := by
  have hkeys {w : State} {o : Option Nat} {c g : Nat} : (w.keyConsumer o c g).keys = w.keys := keys_of_core keyConsumer_core
  rw [consumers_eq]
  dsimp only
  split
  · exact hkeys.trans hkeys
  · exact hkeys.trans hkeys

theorem Reads.consumers (h : s.Reads (· ∈ tamperFields) φ) : s.consumers.Reads (· ∈ tamperFields) φ := by
  rw [consumers_eq]
  exact .ite (.record h.keyConsumer.keyConsumer) h.keyConsumer.keyConsumer

end State
end
end Sys2Proof.Machine

/-! ### Tamper -/

namespace Sys2Proof.Machine

section
variable {s u : State} {φ : Fld → Nat} {t : Time} {input : Fin 2} {k : Nat}

/-- A bit of a pair of inputs that is set. -/
theorem pair_or_bit : ∀ w : Fin 4, ∀ i : Fin 2, bit (w.val ||| 2 ^ i.val) i = true ∧ (w.val ||| 2 ^ i.val) < 4 := by decide

theorem look_map {α β : Type} {f : α → β} (m : List (Nat × α)) : look k (m.map fun x => (x.1, f x.2)) = (look k m).map f := by
  induction m with
  | nil => rfl
  | cons a m ih =>
    rw [List.map_cons, look, look]
    split
    · rfl
    · exact ih

namespace State

/-- 17 R640: a tamper input that is low is shown. -/
def pinLow (s : State) (input : Fin 2) : State := s.set R.AON_STAT_PIN (s.get R.AON_STAT_PIN ||| 2 ^ input.val)

/-- The time of a tamper, where it is the first (17 R644). -/
def tamperTimed (s : State) : State :=
  if s.get R.AON_STAT_LATCH = 0 then { s.rtcSeconds.2 with keys.ttime := s.rtcSeconds.1 % 2 ^ 48 } else s.rtcSeconds.2

/-- 17 R640: the latch of the input and ZEROED are set, and the battery half is gone. -/
def halfZeroed (s : State) (input : Fin 2) : State :=
  { (s.set R.AON_STAT_LATCH (s.get R.AON_STAT_LATCH ||| 2 ^ input.val)).set R.AON_STAT_ZEROED 1 with keys.battery := none }

/-- 17 R641: with main power present every key is cleared, and the loss is raised. -/
def keysZeroed (s : State) : State :=
  let u := { s.unusableAll with keys.kek := none }
  (u.aonLost 0x0009 (beBytes 1 (u.get R.AON_STAT_LATCH + 4 * u.get R.AON_STAT_ZEROED) ++ beBytes 6 u.keys.ttime)).consumers

theorem tamperTimed_regs : s.tamperTimed.regs = s.regs := by
  have hrtc : s.rtcSeconds.2.regs = s.regs := by
    unfold rtcSeconds
    split <;> rfl
  unfold tamperTimed
  split <;> exact hrtc

theorem tamperTimed_boot : s.tamperTimed.boot = s.boot := by
  have hrtc : s.rtcSeconds.2.boot = s.boot := by
    unfold rtcSeconds
    split <;> rfl
  unfold tamperTimed
  split <;> exact hrtc

theorem halfZeroed_boot : (s.halfZeroed input).boot = s.boot := by
  have hset {w : State} {f : Fld} {v : Nat} : (w.set f v).boot = w.boot := set_boot ..
  have hkeys {w : State} {x : Keys} : State.boot { w with keys := x } = w.boot := rfl
  unfold halfZeroed
  rw [hkeys, hset, hset]

theorem pinLow_boot : (s.pinLow input).boot = s.boot := by
  have hset {w : State} {f : Fld} {v : Nat} : (w.set f v).boot = w.boot := set_boot ..
  unfold pinLow
  rw [hset]

theorem tampered_pins : ((((s.at_ t).pinLow input).tamperTimed).halfZeroed input).boot.pins = s.boot.pins := by
  rw [halfZeroed_boot, tamperTimed_boot, pinLow_boot]
  rfl

theorem get_pair_lt {f : Fld} (hwidth : f.hi + 1 - f.lo = 2) : s.get f < 4 := by
  unfold get bits
  rw [hwidth]
  exact Nat.mod_lt _ (by decide)

theorem pinLow_bit : bit (s.get R.AON_STAT_PIN ||| 2 ^ input.val) input = true ∧ (s.get R.AON_STAT_PIN ||| 2 ^ input.val) < 4 :=
  pair_or_bit ⟨_, get_pair_lt rfl⟩ input

theorem latch_bit : bit (s.get R.AON_STAT_LATCH ||| 2 ^ input.val) input = true ∧ (s.get R.AON_STAT_LATCH ||| 2 ^ input.val) < 4 :=
  pair_or_bit ⟨_, get_pair_lt rfl⟩ input

theorem Reads.pinLow (h : s.Reads (· ∈ tamperFields) φ) : (s.pinLow input).Reads (· ∈ tamperFields)
    (Function.update φ R.AON_STAT_PIN (s.get R.AON_STAT_PIN ||| 2 ^ input.val)) :=
  h.set_tampered R.AON_STAT_PIN _ pinLow_bit.2

theorem Reads.halfZeroed (h : s.Reads (· ∈ tamperFields) φ) : (s.halfZeroed input).Reads (· ∈ tamperFields)
    (Function.update (Function.update φ R.AON_STAT_LATCH (s.get R.AON_STAT_LATCH ||| 2 ^ input.val)) R.AON_STAT_ZEROED 1) :=
  .record ((h.set_tampered R.AON_STAT_LATCH _ latch_bit.2).set_tampered R.AON_STAT_ZEROED 1 (by decide))

/-- What stands after a tamper: the battery half is gone, and ZEROED, the latch of the input and its pin are set. -/
def TamperShown (u : State) (input : Fin 2) : Prop :=
  u.keys.battery = none ∧ u.has R.AON_STAT_ZEROED = true ∧ bit (u.get R.AON_STAT_LATCH) input = true ∧ bit (u.get R.AON_STAT_PIN) input = true

theorem halfZeroed_shows {w : Nat} (h : s.Reads (· ∈ tamperFields) (Function.update φ R.AON_STAT_PIN w)) (hw : bit w input = true) :
    TamperShown (s.halfZeroed input) input := by
  have hzero := h.halfZeroed (input := input)
  refine ⟨rfl, ?_, ?_, ?_⟩
  · exact decide_eq_true (hzero.shows R.AON_STAT_ZEROED (by decide))
  · rw [hzero.shows R.AON_STAT_LATCH (by decide)]
    exact latch_bit.1
  · rw [hzero.shows R.AON_STAT_PIN (by decide)]
    exact hw

theorem Reads.keysZeroed (h : s.Reads (· ∈ tamperFields) φ) :
    s.keysZeroed.Reads (· ∈ tamperFields) (Function.update φ R.FLT_WORD_HI_AON_LOST 1) := by
  have hgone : State.Reads { s.unusableAll with keys.kek := none } (· ∈ tamperFields) φ := .record (h.of_regs rfl)
  unfold State.keysZeroed aonLost
  exact ((hgone.capture_tamper.set_tampered R.FLT_WORD_HI_AON_LOST 1 (by decide)).fltSync_tamper.event_tamper).consumers

theorem keysZeroed_keys : s.keysZeroed.keys = { s.unusableAll.keys with kek := none } := by
  have hlost {w : State} {code : Nat} {detail : List Byte} : (w.aonLost code detail).keys = w.keys := by
    unfold aonLost
    exact keys_of_core (event_core.trans (fltSync_core.trans (set_core.trans capture_core)))
  unfold keysZeroed
  exact consumers_keys.trans hlost

/-- 17 R641: no slot stays loaded. -/
theorem unusableAll_kslot : (s.unusableAll.kslot k).state ≠ 1 := by
  have hslot : (s.unusableAll.kslot k) = ((look k s.keys.slots).map (fun x : KSlot => if x.state = 0 then x else { x with state := 2, key := 0 })).getD {} := by
    unfold kslot unusableAll lookD
    rw [look_map (f := fun x : KSlot => if x.state = 0 then x else { x with state := 2, key := 0 })]
  rw [hslot]
  cases look k s.keys.slots with
  | none => exact Nat.zero_ne_one
  | some x =>
    change (if x.state = 0 then x else { x with state := 2, key := 0 }).state ≠ 1
    split
    next h => exact h.trans_ne Nat.zero_ne_one
    next => exact (by decide : (2 : Nat) ≠ 1)

/-- 17 R641: what a tamper shows stays, and no key is left. -/
theorem keysZeroed_shows (h : s.Reads (· ∈ tamperFields) φ) (hshown : TamperShown s input) :
    s.keysZeroed.keys.battery = none ∧ s.keysZeroed.has R.AON_STAT_ZEROED = true ∧ bit (s.keysZeroed.get R.AON_STAT_LATCH) input = true ∧
      bit (s.keysZeroed.get R.AON_STAT_PIN) input = true ∧ s.keysZeroed.keys.kek = none ∧ (∀ k, (s.keysZeroed.kslot k).state ≠ 1) ∧
      s.keysZeroed.has R.FLT_WORD_HI_AON_LOST = true := by
  obtain ⟨hbattery, hzeroed, hlatch, hpin⟩ := hshown
  have hgone := h.keysZeroed
  have hsame (f : Fld) (hf : f ∈ tamperFields) (hother : f ≠ R.FLT_WORD_HI_AON_LOST) : s.keysZeroed.get f = s.get f :=
    (hgone.shows f hf).trans ((Function.update_of_ne hother ..).trans (h.shows f hf).symm)
  refine ⟨?_, ?_, ?_, ?_, ?_, fun k => ?_, ?_⟩
  · rw [keysZeroed_keys]
    exact hbattery
  · unfold has at hzeroed ⊢
    rwa [hsame R.AON_STAT_ZEROED (by decide) (by decide)]
  · rwa [hsame R.AON_STAT_LATCH (by decide) (by decide)]
  · rwa [hsame R.AON_STAT_PIN (by decide) (by decide)]
  · rw [keysZeroed_keys]
  · unfold kslot
    rw [keysZeroed_keys]
    exact unusableAll_kslot
  · exact decide_eq_true ((hgone.shows R.FLT_WORD_HI_AON_LOST (by decide)).trans (Function.update_self ..))

end State

section
variable (hs : s.inService = true)
include hs

theorem exec_tamper_of_armed (harmed : ((s.at_ t).pinLow input).has R.AON_STAT_ARMED = true)
    (hen : bit (((s.at_ t).pinLow input).get R.AON_STAT_TAMPER_EN) input = true) : exec (.tamper t input) s = .next
      (if !s.boot.pins then (((s.at_ t).pinLow input).tamperTimed).halfZeroed input
      else ((((s.at_ t).pinLow input).tamperTimed).halfZeroed input).keysZeroed) := by
  change execTamper t input s = _
  refine (live_of_awake (State.awake_of_inService hs) t _).trans (congrArg Host.Outcome.next ?_)
  refine (if_neg fun hnot => ?_).trans ?_
  · rw [Bool.or_eq_true_iff, Bool.not_eq_true', Bool.not_eq_true'] at hnot
    obtain hnot | hnot := hnot
    · exact Bool.false_ne_true (hnot.symm.trans harmed)
    · exact Bool.false_ne_true (hnot.symm.trans hen)
  · rw [← State.tampered_pins (t := t) (input := input)]
    rfl

theorem exec_tamper_of_idle (hidle : ((s.at_ t).pinLow input).has R.AON_STAT_ARMED = false ∨
    bit (((s.at_ t).pinLow input).get R.AON_STAT_TAMPER_EN) input = false) : exec (.tamper t input) s = .next ((s.at_ t).pinLow input) := by
  change execTamper t input s = _
  refine (live_of_awake (State.awake_of_inService hs) t _).trans (congrArg Host.Outcome.next (if_pos ?_))
  rw [Bool.or_eq_true_iff, Bool.not_eq_true', Bool.not_eq_true']
  exact hidle

theorem exec_keyReset_of_resetting (hresetting : s.keys.resetting = true) : exec (.keyReset t) s = .next (s.at_ t) := by
  change execKeyReset t s = _
  exact served_to hs (if_pos hresetting)

theorem exec_keyReset_of_serving (hresetting : s.keys.resetting = false) : exec (.keyReset t) s = .next ((s.at_ t).beginReset 35).keyDown := by
  change execKeyReset t s = _
  exact served_to hs (if_neg (Bool.eq_false_iff.mp hresetting))

theorem exec_tamperRelease_of_due (hpins : s.boot.pins = true) (hdue : ((s.at_ t).set R.AON_STAT_PIN 0).halfDue = true)
    (hrng : s.keys.rngOk = true) (hresetting : s.keys.resetting = false) :
    exec (.tamperRelease t) s = .next ((s.at_ t).set R.AON_STAT_PIN 0).drawHalf := by
  change execTamperRelease t s = _
  refine (live_of_awake (State.awake_of_inService hs) t _).trans (congrArg Host.Outcome.next (if_pos ?_))
  rw [Bool.and_eq_true_iff, Bool.and_eq_true_iff, Bool.and_eq_true_iff, Bool.not_eq_true']
  exact ⟨⟨⟨hpins, hdue⟩, hrng⟩, hresetting⟩

theorem exec_tamperRelease_of_held (hheld : s.keys.battery ≠ none ∨ s.keys.rngOk = false ∨ s.keys.resetting = true) :
    exec (.tamperRelease t) s = .next ((s.at_ t).set R.AON_STAT_PIN 0) := by
  change execTamperRelease t s = _
  refine (live_of_awake (State.awake_of_inService hs) t _).trans (congrArg Host.Outcome.next (if_neg fun hdue => ?_))
  rw [Bool.and_eq_true_iff, Bool.and_eq_true_iff, Bool.and_eq_true_iff, Bool.not_eq_true'] at hdue
  obtain ⟨⟨⟨-, hhalf⟩, hrng⟩, hresetting⟩ := hdue
  obtain hhas | hbroken | hreset := hheld
  · unfold State.halfDue at hhalf
    rw [Bool.and_eq_true_iff, Bool.and_eq_true_iff, Option.isNone_iff_eq_none] at hhalf
    exact hhas hhalf.1.1
  · exact Bool.false_ne_true (hbroken.symm.trans hrng)
  · exact Bool.false_ne_true (hresetting.symm.trans hreset)

theorem exec_rngFail_of_serving : exec (.rngFail t) s = .next
    (({ s.at_ t with keys.rngOk := false } : State).err R.KEY_ERR_RNG_FAIL 3 {} (lasts := true)) := by
  change execRngFail t s = _
  refine (live_of_awake (State.awake_of_inService hs) t _).trans (congrArg Host.Outcome.next (if_pos ?_))
  unfold State.inService at hs
  rw [Bool.and_eq_true_iff] at hs
  exact hs.2

end

namespace State

/-- 17 R642: with no input low, a half that a tamper took is due. -/
theorem halfDue_of_high (hc : canonical s.regs = true) (hnone : s.keys.battery = none) (hlife : s.keys.life = 2 ∨ s.keys.life = 3) :
    (s.set R.AON_STAT_PIN 0).halfDue = true := by
  have hpin : (s.set R.AON_STAT_PIN 0).get R.AON_STAT_PIN = 0 := get_set_same hc R.AON_STAT_PIN (by decide) (by decide) 0
  unfold halfDue
  rw [hpin, Nat.zero_and]
  rw [Bool.and_eq_true_iff, Bool.and_eq_true_iff, Bool.or_eq_true_iff, Option.isNone_iff_eq_none]
  exact ⟨⟨hnone, hlife.imp decide_eq_true decide_eq_true⟩, rfl⟩

/-- 22 Table 22.10: the reset of KEY shows. -/
theorem keyDown_has (hc : canonical s.regs = true) : (s.beginReset 35).keyDown.has (rstNow 35) = true := by
  have hnow : rstNow 35 = ⟨34, 0x20004, 3, 3⟩ := rfl
  have hword : (⟨34, 0x20004, 3, 3⟩ : Fld).addr ≠ (R.RST_RESETS 35).addr := by
    simp only [Fld.addr, R.RST_RESETS]
    omega
  have hbegun : (s.beginReset 35).get (rstNow 35) = 1 := by
    unfold beginReset
    split
    next h => exact of_decide_eq_true h
    next =>
      rw [hnow]
      exact (get_bump_word hword 1).trans (get_set_same hc ⟨34, 0x20004, 3, 3⟩ le_rfl (by decide) 1)
  have hcleared : ((s.beginReset 35).clearWindow 35).get (rstNow 35) = (s.beginReset 35).get (rstNow 35) := by
    rw [hnow]
    refine get_clearWindow (.inl ?_)
    simp only [Fld.addr]
    omega
  have hdown : (s.beginReset 35).keyDown.get (rstNow 35) = ((s.beginReset 35).clearWindow 35).get (rstNow 35) := get_of_regs rfl _
  exact decide_eq_true (hdown.trans (hcleared.trans hbegun))

theorem beginReset_keys {isl : Nat} : (s.beginReset isl).keys = s.keys := by
  unfold beginReset
  split
  · rfl
  · exact (keys_of_core (bump_core.trans set_core)).trans rfl

theorem keyDown_keys : ((s.at_ t).beginReset 35).keyDown.keys = { s.keys with kek := none, resetting := true } := by
  have hdown {u : State} : u.keyDown.keys = { u.keys with kek := none, resetting := true } := rfl
  rw [hdown, beginReset_keys]
  rfl

end State
end

/-- Settles O55: the registers of AON and the fault word hold what a tamper set through the faults that it raises, and the slots follow from the map that
empties them. -/
theorem tamperZeroes : Obligations.TamperZeroes := by
  intro t input s hs hform u
  obtain ⟨hregs, -, -⟩ := State.formed_iff.mp hform
  have hread : (s.at_ t).Reads (· ∈ tamperFields) s.get := .of_formed hform t _
  have hlow := hread.pinLow (input := input)
  have harm : ((s.at_ t).pinLow input).has R.AON_STAT_ARMED = s.has R.AON_STAT_ARMED := by
    unfold State.has
    rw [hlow.shows R.AON_STAT_ARMED (by decide)]
    rfl
  have hen : ((s.at_ t).pinLow input).get R.AON_STAT_TAMPER_EN = s.get R.AON_STAT_TAMPER_EN := hlow.shows R.AON_STAT_TAMPER_EN (by decide)
  refine ⟨fun hresetting => ⟨_, exec_keyReset_of_serving hs hresetting, by rw [State.keyDown_keys], by rw [State.keyDown_keys],
    by rw [State.keyDown_keys], by rw [State.keyDown_keys], by rw [State.keyDown_keys], State.keyDown_has (s := s.at_ t) hregs⟩,
    exec_keyReset_of_resetting hs, fun harmed hbit => ⟨_, exec_tamper_of_armed hs (harm.trans harmed) (by rw [hen]; exact hbit), ?_⟩,
    fun hidle => exec_tamper_of_idle hs (by rw [harm, hen]; exact hidle), fun hpins hnone hlife hrng hresetting =>
      exec_tamperRelease_of_due hs hpins (State.halfDue_of_high (s := s.at_ t) hregs hnone hlife) hrng hresetting, exec_tamperRelease_of_held hs,
    exec_rngFail_of_serving hs⟩
  · have hset : bit (s.get R.AON_STAT_PIN ||| 2 ^ input.val) input = true := State.pinLow_bit.1
    have hzero := (hlow.of_regs State.tamperTimed_regs).halfZeroed (input := input)
    have hshown := State.halfZeroed_shows (hlow.of_regs State.tamperTimed_regs) hset
    have hcleared := State.keysZeroed_shows hzero hshown
    obtain ⟨hbattery, hzeroed, hlatch, hpin, hkek, hslots, hlost⟩ := hcleared
    cases hpins : s.boot.pins
    · rw [if_pos (by rw [Bool.not_false])]
      obtain ⟨hbattery, hzeroed, hlatch, hpin⟩ := hshown
      exact ⟨hbattery, hzeroed, hlatch, hpin, fun h => absurd h Bool.false_ne_true⟩
    · rw [if_neg (by rw [Bool.not_true]; exact Bool.false_ne_true)]
      exact ⟨hbattery, hzeroed, hlatch, hpin, fun _ => ⟨hkek, hslots, hlost⟩⟩

end Sys2Proof.Machine

/-! ## What a stage of the start keeps from acting -/

namespace Sys2Proof

/-- What a command looks for before it acts: a chip that serves, released islands, a frame of the doubling link on released islands, or a condition of its
own (18 Table 18.12, R679). -/
inductive Stage
  | service
  | islands
  | frame
  | own

/-- The commands of each. -/
def Instr.stage : Instr → Stage
  | .startWaitExpiry .. | .rejoin .. | .dtlsClientHello .. | .keyUpdate .. | .closeNotify .. | .sessionIdleExpiry .. | .certValidityCheck .. |
    .sicpRecordUnparsable .. | .pairDatagramHandoff .. | .ping .. | .identity .. | .routeQuery .. | .regRead .. | .regWrite .. | .counters .. | .logRead
    .. | .subscribe .. | .unsubscribe .. | .faultClear .. | .take .. | .salvoOpen .. | .salvoAdd .. | .salvoArm .. | .salvoCommit .. | .salvoAbort .. |
    .delaySet .. | .flowSet .. | .flowRelease .. | .audRoute .. | .busSet .. | .audDelaySet .. | .windowSet .. | .windowClear .. | .layerOrder .. |
    .bulkWrite .. | .fence .. | .timeRef .. | .timeRealign .. | .timeSet .. | .tileDrain .. | .tileRestore .. | .islandReset .. | .pairSwap .. |
    .pairRestart .. | .pairRejoin .. | .evacClear .. | .stageOpen .. | .stageWrite .. | .stageClose .. | .keyGenerate .. | .keyImport .. | .keyDestroy ..
    | .keyAttest .. | .lifecycleSet .. | .event .. | .cycleClose .. | .houseFrameBoundary .. | .switchingPoint .. | .audReset .. | .audReload .. |
    .timeStep .. | .whlReset .. | .skeinArm .. | .skeinReport .. | .skeinDecision .. | .skeinRelease .. | .claim .. | .skeinMessageRepeat .. | .settleEnd
    .. | .handoffPeriodEnd .. | .islandFence .. | .islandRearmed .. | .spnReset .. | .keyReset .. | .bootReset .. | .stageIdleExpiry .. |
    .salvoHandleExpiry .. | .gpiSample .. | .gratuitousArpRepeat .. | .targetSetChange .. => .service
  | .dblHello .. | .dblBeat .. | .dblCopy .. | .dblConfirm .. | .dblNack .. | .dblSnap .. | .dblBulk .. | .dblHandoff .. | .dblEvent .. | .dblYield .. |
    .dblSwap .. => .frame
  | .powerStart .. | .resetFall .. | .imageCopyDone .. | .dramTrainingDone .. | .chipServes .. | .rngFail .. | .tamper .. | .tamperRelease .. |
    .rtcMinuteWrite .. | .tempSample .. => .own
  | _ => .islands

end Sys2Proof

namespace Sys2Proof.Machine

section
variable {c : Instr} {s : State} {t : Time} {act : State → State}

theorem exec_of_service (h : c.stage = .service) : ∃ act, ∀ s, exec c s = served c.time s act := by
  cases c <;> cases h
  all_goals
    apply Exists.intro
    intro s
    dsimp only [exec, Instr.time]
    exact rfl

theorem exec_of_islands (h : c.stage = .islands) : ∃ act, ∀ s, exec c s = released c.time s act := by
  cases c <;> cases h
  all_goals
    apply Exists.intro
    intro s
    dsimp only [exec, Instr.time]
    exact rfl

theorem exec_of_frame (h : c.stage = .frame) : ∃ head act, ∀ s, exec c s = dblFrame c.time head s act := by
  cases c <;> cases h
  all_goals
    apply Exists.intro
    apply Exists.intro
    intro s
    dsimp only [exec, Instr.time]
    exact rfl

theorem live_of_idle (hidle : act (s.at_ t) = s.at_ t) : live t s act = .next (s.at_ t) := by
  unfold live
  split
  · rfl
  · rw [hidle]

theorem released_of_low (hlow : s.get R.BOOT_STAT_STATUS < 5) : released t s act = .next (s.at_ t) :=
  live_of_idle (if_neg (Nat.not_le.mpr hlow))

theorem served_of_not (hnot : s.serving = false) : served t s act = .next (s.at_ t) :=
  live_of_idle (if_neg (Bool.eq_false_iff.mp hnot))

theorem State.serving_of_low (hlow : s.get R.BOOT_STAT_STATUS < 5) : s.serving = false := by
  refine Bool.eq_false_iff.mpr fun h => ?_
  simp only [serving, Bool.and_eq_true, decide_eq_true_eq] at h
  omega

theorem exec_chipServes_of_low (hlow : s.get R.BOOT_STAT_STATUS < 5) : exec (.chipServes t) s = .next (s.at_ t) := by
  change execChipServes t s = _
  refine live_of_idle (if_pos ?_)
  rw [Bool.or_eq_true_iff, decide_eq_true_iff]
  exact .inl (Nat.ne_of_lt (Nat.lt_of_lt_of_le hlow (by decide)))

theorem exec_dramTrainingDone_of_low {failed : Option (Fin 32)} (hlow : s.get R.BOOT_STAT_STATUS < 5) :
    exec (.dramTrainingDone t failed) s = .next (s.at_ t) := by
  change execDramTrainingDone t failed s = _
  exact live_of_idle (if_pos (Nat.ne_of_lt hlow))

/-- 18 Table 18.12: before the islands are released a command that waits for them only moves time. -/
theorem exec_of_low (hlow : s.get R.BOOT_STAT_STATUS < 5) (hown : c.stage ≠ .own) : exec c s = .next (s.at_ c.time) := by
  cases hstage : c.stage with
  | service =>
    obtain ⟨act, heq⟩ := exec_of_service hstage
    rw [heq]
    exact served_of_not (State.serving_of_low hlow)
  | islands =>
    obtain ⟨act, heq⟩ := exec_of_islands hstage
    rw [heq]
    exact released_of_low hlow
  | frame =>
    obtain ⟨head, act, heq⟩ := exec_of_frame hstage
    rw [heq]
    exact released_of_low hlow
  | own => exact absurd hstage hown

theorem exec_of_notServing (hnot : s.serving = false) (h : c.stage = .service) : exec c s = .next (s.at_ c.time) := by
  obtain ⟨act, heq⟩ := exec_of_service h
  rw [heq]
  exact served_of_not hnot

theorem stage_of_req (h : c.req.isSome = true) : c.stage = .service := by
  cases c <;> cases h <;> rfl

end

/-- Settles O8: every command looks first whether the chip serves, or whether its islands are released. -/
theorem commandsNeedTheirStage : Obligations.CommandsNeedTheirStage := by
  refine ⟨fun c s hlow hother => ?_, fun c s hnot hrequest => exec_of_notServing hnot ?_⟩
  · by_cases hown : c.stage = .own
    · cases c with
      | dramTrainingDone => exact exec_dramTrainingDone_of_low hlow
      | chipServes => exact exec_chipServes_of_low hlow
      | powerStart | resetFall | imageCopyDone | rngFail | tamper | tamperRelease | rtcMinuteWrite | tempSample => exact hother.elim
      | _ => cases hown
    · exact exec_of_low hlow hown
  · obtain hreq | hsession := hrequest
    · exact stage_of_req hreq
    · cases c <;> cases hsession <;> rfl

end Sys2Proof.Machine

/-! ## The start and the copy -/

namespace Sys2Proof.Machine

section
variable {s u v : State} {a n code detail offset : Nat} {t : Time} {w : StartFacts} {f : ImgFacts}

/-! ### STATUS of a start that stops

A start can find any register file, so that the laws of a file in its one form do not hold of it. A word that is not its reset value reads as written
all the same, and STATUS is not 0 in a start that stops. -/

theorem word_setWord_of_ne (h : n % 2 ^ 32 ≠ resetWord a) : (s.setWord a n).word a = n % 2 ^ 32 := by
  rw [State.word, setWord_regs, if_neg h, look_put_same]
  exact BitVec.toNat_ofNat ..

/-- A word above the reset value of STATUS's own. -/
theorem word_set_statusWord {g : Fld} (hg : g.addr = R.BOOT_STAT_STATUS.addr)
    (hplaced : 2 ^ 28 ≤ placeBits (s.word R.BOOT_STAT_STATUS.addr) g.lo g.width n ∧ placeBits (s.word R.BOOT_STAT_STATUS.addr) g.lo g.width n < 2 ^ 32) :
    (s.set g n).word R.BOOT_STAT_STATUS.addr = placeBits (s.word R.BOOT_STAT_STATUS.addr) g.lo g.width n := by
  have hreset : resetWord R.BOOT_STAT_STATUS.addr < 2 ^ 28 := by decide +kernel
  have hmod := Nat.mod_eq_of_lt hplaced.2
  unfold State.set
  rw [hg, word_setWord_of_ne (by rw [hmod]; omega), hmod]

theorem placeBits_code {x : Nat} (hx : x < 2 ^ 32) (hcode : 0 < code ∧ code < 16) :
    2 ^ 28 ≤ placeBits x 28 4 code ∧ placeBits x 28 4 code < 2 ^ 32 ∧ bits (placeBits x 28 4 code) 31 28 = code := by
  simp only [placeBits, bits]
  omega

theorem placeBits_detail {x : Nat} (hx : 2 ^ 28 ≤ x ∧ x < 2 ^ 32) :
    2 ^ 28 ≤ placeBits x 24 4 detail ∧ placeBits x 24 4 detail < 2 ^ 32 ∧ bits (placeBits x 24 4 detail) 31 28 = bits x 31 28 ∧
      bits (placeBits x 24 4 detail) 27 24 = detail % 16 := by
  simp only [placeBits, bits]
  omega

namespace State

/-- 18 Table 18.11: what a start that stops shows. -/
theorem status_shows (hcode : 0 < code ∧ code < 16) :
    (s.status code detail).get R.BOOT_STAT_STATUS = code ∧ (s.status code detail).get R.BOOT_STAT_DETAIL = detail % 16 := by
  have hleaves := (Leaves.refl ((s.set R.BOOT_STAT_STATUS code).set R.BOOT_STAT_DETAIL detail)).fltSync
  obtain ⟨hlow, hlt, hshown⟩ := placeBits_code (s.word_lt R.BOOT_STAT_STATUS.addr) hcode
  have hfirst : (s.set R.BOOT_STAT_STATUS code).word R.BOOT_STAT_STATUS.addr = placeBits (s.word R.BOOT_STAT_STATUS.addr) 28 4 code :=
    word_set_statusWord rfl ⟨hlow, hlt⟩
  obtain ⟨hlow', hlt', hkept, hdetail⟩ := placeBits_detail (detail := detail) ⟨hlow, hlt⟩
  rw [← hfirst] at hlow' hlt' hkept hdetail
  have hsecond : ((s.set R.BOOT_STAT_STATUS code).set R.BOOT_STAT_DETAIL detail).word R.BOOT_STAT_STATUS.addr = _ :=
    word_set_statusWord (g := R.BOOT_STAT_DETAIL) rfl ⟨hlow', hlt'⟩
  have hstatus := (congrArg (fun x => bits x 31 28) hsecond).trans (hkept.trans ((congrArg (fun x => bits x 31 28) hfirst).trans hshown))
  have hshows := (congrArg (fun x => bits x 27 24) hsecond).trans hdetail
  unfold status
  exact ⟨(hleaves.get R.BOOT_STAT_STATUS (by decide)).trans hstatus, (hleaves.get R.BOOT_STAT_DETAIL (by decide)).trans hshows⟩

/-- What stands where a start has stopped. -/
def Stopped (s : State) (code detail : Nat) : Prop :=
  s.flt.stopped = true ∧ s.get R.BOOT_STAT_STATUS = code ∧ s.get R.BOOT_STAT_DETAIL = detail % 16

theorem Stopped.report (h : s.Stopped code detail) : (s.report offset).Stopped code detail := h

theorem halt_stopped (hcode : 0 < code ∧ code < 16) : (s.halt code detail offset).Stopped code detail := by
  have hshows := status_shows (s := { s with flt.stopped := true }) (detail := detail) hcode
  have hflt : (State.status { s with flt.stopped := true } code detail).flt.stopped = true := congrArg Flt.stopped status_flt
  have hkept : (State.status { s with flt.stopped := true } code detail).Stopped code detail := ⟨hflt, hshows⟩
  unfold halt
  dsimp only
  split
  · exact hkept
  · exact hkept.report

/-- 18 R666: an image that passes its checks is configured. -/
theorem verify_of_good {l : List (Nat × Rec)} (hcheck : s.imageCheck (s.imageAt 0) f = .inr l)
    (hsound : ({ s with boot.recs := (l.filter (fun x => knownRecord x.2.typ)).map (·.2) } : State).imageSound = true) :
    s.verify f = .next (s.configure l) := by
  unfold verify
  rw [hcheck]
  exact if_pos hsound

theorem verify_of_bad {e : Nat × Nat} (hcheck : s.imageCheck (s.imageAt 0) f = .inl e) : s.verify f = .next (s.halt 12 e.1 e.2) := by
  unfold verify
  rw [hcheck]

theorem decideCopy_of_none (hnone : headerValid (memRead s.boot.xspi s.stageBase 64) = false) : s.decideCopy w = s.verify w.active :=
  if_pos (by rw [hnone]; rfl)

/-- 19 R693: a staged image that passes its checks is to be copied. -/
theorem decideCopy_of_good {l : List (Nat × Rec)} (hstaged : headerValid (memRead s.boot.xspi s.stageBase 64) = true)
    (hactive : headerValid (memRead s.boot.xspi 0 64) = true) (hother : memRead s.boot.xspi s.stageBase 64 ≠ memRead s.boot.xspi 0 64)
    (hcheck : s.imageCheck (s.imageAt s.stageBase) w.staged = .inr l) : s.decideCopy w = .next (s.status 4 0) := by
  unfold decideCopy
  dsimp only
  rw [hstaged, hactive, hcheck]
  exact (if_neg Bool.false_ne_true).trans ((if_neg Bool.false_ne_true).trans (if_neg hother))

end State

theorem exec_powerStart_of_high (hpins : s.boot.pins = true) : exec (.powerStart t w) s = .next (s.at_ t) := by
  change execPowerStart t w s = _
  exact if_pos hpins

section
variable (hpins : s.boot.pins = false)
include hpins

theorem pins_low : ¬(s.at_ t).boot.pins = true := fun h => Bool.false_ne_true (hpins.symm.trans h)

theorem exec_powerStart_of_small (hsmall : w.density < 512) : exec (.powerStart t w) s = .next (((s.at_ t).sampled w).halt 11 0 0) := by
  change execPowerStart t w s = _
  exact (if_neg (pins_low hpins)).trans (if_pos hsmall)

variable (hsize : 512 ≤ w.density)
include hsize

theorem exec_powerStart_of_retired (hlife : (((s.at_ t).sampled w).opened w).keys.life = 4) :
    exec (.powerStart t w) s = .next ((((s.at_ t).sampled w).opened w).halt 13 3 0) := by
  change execPowerStart t w s = _
  exact (if_neg (pins_low hpins)).trans ((if_neg (Nat.not_lt.mpr hsize)).trans (if_pos hlife))

variable (hlife : (((s.at_ t).sampled w).opened w).keys.life ≠ 4)
include hlife

theorem exec_powerStart_of_strange (hid : w.idOk = false) :
    exec (.powerStart t w) s = .next (((((s.at_ t).sampled w).opened w).set R.KEY_ERR_ID_MISMATCH 1).halt 13 1 0) := by
  change execPowerStart t w s = _
  exact (if_neg (pins_low hpins)).trans ((if_neg (Nat.not_lt.mpr hsize)).trans ((if_neg hlife).trans (if_pos (by rw [hid]; rfl))))

variable (hid : w.idOk = true)
include hid

theorem exec_powerStart_of_broken (hrng : w.rngOk = false) :
    exec (.powerStart t w) s = .next (((((s.at_ t).sampled w).opened w).set R.KEY_ERR_RNG_FAIL 1).halt 13 2 0) := by
  change execPowerStart t w s = _
  exact (if_neg (pins_low hpins)).trans ((if_neg (Nat.not_lt.mpr hsize)).trans ((if_neg hlife).trans
    ((if_neg (by rw [hid]; exact Bool.false_ne_true)).trans (if_pos (by rw [hrng]; rfl)))))

theorem exec_powerStart_of_keys (hrng : w.rngOk = true) : exec (.powerStart t w) s = (((s.at_ t).sampled w).opened w).decideCopy w := by
  change execPowerStart t w s = _
  exact (if_neg (pins_low hpins)).trans ((if_neg (Nat.not_lt.mpr hsize)).trans ((if_neg hlife).trans
    ((if_neg (by rw [hid]; exact Bool.false_ne_true)).trans (if_neg (by rw [hrng]; exact Bool.false_ne_true)))))

end

/-- 19 R692: the active image is the staged one, and its header is read. -/
def State.copiedOver (s : State) : State :=
  let u := s.copied (s.copyWrites.length - 64)
  { u with boot.fw := imageFw (u.imageAt 0), boot.secver := hdrSecver (u.imageAt 0) }

section
variable (hrun : s.flt.stopped = false) (hstatus : s.get R.BOOT_STAT_STATUS = 4)
include hrun hstatus

theorem copy_runs : ¬((s.at_ t).flt.stopped || Decidable.decide ((s.at_ t).get R.BOOT_STAT_STATUS ≠ 4)) = true := by
  rw [Bool.or_eq_true_iff, decide_eq_true_iff]
  exact fun h => h.elim (fun hstop => Bool.false_ne_true (hrun.symm.trans hstop)) (absurd hstatus)

theorem exec_imageCopyDone_of_bad : exec (.imageCopyDone t false f) s = .next ((s.at_ t).copiedOver.halt 12 12 0) := by
  change execImageCopyDone t false f s = _
  exact (if_neg (copy_runs hrun hstatus)).trans (if_pos rfl)

theorem exec_imageCopyDone_of_good {l : List (Nat × Rec)}
    (hcheck : (s.at_ t).copiedOver.imageCheck (((s.at_ t).copied ((s.at_ t).copyWrites.length - 64)).imageAt 0) f = .inr l) :
    exec (.imageCopyDone t true f) s = State.verify { (s.at_ t).copiedOver.zeroStage with
      boot.copyDone := some (imageFw ((s.at_ t).imageAt 0), imageFw (((s.at_ t).copied ((s.at_ t).copyWrites.length - 64)).imageAt 0),
        hdrSecver ((s.at_ t).imageAt 0), hdrSecver (((s.at_ t).copied ((s.at_ t).copyWrites.length - 64)).imageAt 0)) } f := by
  change execImageCopyDone t true f s = _
  refine (if_neg (copy_runs hrun hstatus)).trans ((if_neg Bool.false_ne_true).trans ?_)
  dsimp only [State.copiedOver] at hcheck ⊢
  rw [hcheck]

end
end

/-- Settles O19: a start and a copy stop at the first check that fails, and end in the image's records where none does. -/
theorem startVerifies : Obligations.StartVerifies := by
  refine ⟨fun t w s => ⟨exec_powerStart_of_high, fun hpins hsize hlife hid hrng => ⟨fun l hnone hcheck hsound => ?_,
    fun l hstaged hactive hother hcheck => ?_⟩⟩, fun t w s hpins => ⟨fun hsmall => ?_, fun hsize hlife => ?_, fun hsize hlife hid => ?_,
    fun hsize hlife hid hrng => ?_, fun e hsize hlife hid hrng hnone hcheck => ?_⟩, fun t w s hrun hstatus => ⟨fun l l' hcheck hagain hsound => ?_, ?_⟩⟩
  · rw [exec_powerStart_of_keys hpins hsize hlife hid hrng, State.decideCopy_of_none hnone]
    exact State.verify_of_good hcheck hsound
  · rw [exec_powerStart_of_keys hpins hsize hlife hid hrng]
    exact State.decideCopy_of_good hstaged hactive hother hcheck
  · exact ⟨_, exec_powerStart_of_small hpins hsmall, State.halt_stopped (by decide)⟩
  · exact ⟨_, exec_powerStart_of_retired hpins hsize hlife, State.halt_stopped (by decide)⟩
  · exact ⟨_, exec_powerStart_of_strange hpins hsize hlife hid, State.halt_stopped (by decide)⟩
  · exact ⟨_, exec_powerStart_of_broken hpins hsize hlife hid hrng, State.halt_stopped (by decide)⟩
  · have hdecided := (exec_powerStart_of_keys (t := t) hpins hsize hlife hid hrng).trans (State.decideCopy_of_none hnone)
    exact ⟨_, hdecided.trans (State.verify_of_bad hcheck), State.halt_stopped (by decide)⟩
  · rw [exec_imageCopyDone_of_good hrun hstatus hcheck]
    exact State.verify_of_good hagain hsound
  · exact ⟨_, exec_imageCopyDone_of_bad hrun hstatus, State.halt_stopped (by decide)⟩

end Sys2Proof.Machine

/-! ## Staging of an image -/

namespace Sys2Proof.Machine

section
variable {s u : State} {t : Time} {q : Req} {x : Ctx} {g : Staging} {good : Bool} {plain : List Byte} {w : ImgFacts}

theorem exec_stageOpen_of_free (h : s.takes t ⟨0x60, false, [one 0x29]⟩ q (chipNeed 10) u x) (hlow : 234 ≤ fld x.ts 0x29 0 4)
    (hhigh : fld x.ts 0x29 0 4 ≤ u.imageLimit) (hfree : u.boot.staging.all (fun g => g.sess = x.sess.id) = true) :
    exec (.stageOpen t q) s = .next (({ u.zeroStage with
      boot.staging := some { sess := x.sess.id, total := fld x.ts 0x29 0 4, bytes := [], lastWrite := u.up } } : State).stageShow.ok x []) := by
  change execStageOpen t q s = _
  refine takes_to h ((if_neg fun hsize => ?_).trans (if_neg fun hother => ?_))
  · rw [Bool.or_eq_true_iff, decide_eq_true_iff, decide_eq_true_iff] at hsize
    omega
  · cases hstaging : u.boot.staging with
    | none =>
      rw [hstaging] at hother
      exact Bool.false_ne_true hother
    | some g =>
      rw [hstaging] at hother hfree
      exact of_decide_eq_true hother (of_decide_eq_true hfree)

section
variable (h : s.takes t ⟨0x61, false, [one 0x18, one 0x19]⟩ q (chipNeed 10) u x) (hopen : u.boot.staging = some g) (hmine : g.sess = x.sess.id)
include h hopen hmine

theorem exec_stageWrite_of_next (hat : fld x.ts 0x18 0 4 = g.bytes.length) (hroom : g.bytes.length + (tlv x.ts 0x19).length ≤ g.total)
    (hgood : good = true)
    (hfine : ({ u with boot.xspi := memWrite u.boot.xspi (u.stageBase + max g.bytes.length 64) ((tlv x.ts 0x19).drop (64 - g.bytes.length)) } : State).stagedBad
      (g.bytes ++ tlv x.ts 0x19) plain = none) :
    exec (.stageWrite t q good plain) s = .next (({ u with
      boot.xspi := memWrite u.boot.xspi (u.stageBase + max g.bytes.length 64) ((tlv x.ts 0x19).drop (64 - g.bytes.length))
      boot.staging := some { g with bytes := g.bytes ++ tlv x.ts 0x19, lastWrite := u.up } } : State).stageShow.ok x []) := by
  change execStageWrite t q good plain s = _
  refine takes_to h ?_
  rw [hopen]
  refine (if_neg (not_not.mpr hmine)).trans ((if_neg fun hwrong => ?_).trans ((if_neg fun hbroken => ?_).trans ?_))
  · rw [Bool.or_eq_true_iff, decide_eq_true_iff, decide_eq_true_iff] at hwrong
    omega
  · rw [hgood] at hbroken
    exact Bool.false_ne_true hbroken
  · rw [hfine]

theorem exec_stageWrite_of_other (hat : fld x.ts 0x18 0 4 ≠ g.bytes.length) : exec (.stageWrite t q good plain) s = .next (u.badValue x 0x18) := by
  change execStageWrite t q good plain s = _
  refine takes_to h ?_
  rw [hopen]
  refine (if_neg (not_not.mpr hmine)).trans (if_pos ?_)
  rw [Bool.or_eq_true_iff, decide_eq_true_iff]
  exact .inl hat

end

theorem exec_stageClose_of_good (h : s.takes t ⟨0x62, false, []⟩ q (chipNeed 10) u x) (hopen : u.boot.staging = some g) (hmine : g.sess = x.sess.id)
    (hwhole : g.bytes.length = g.total) (hfine : u.closeBad g.bytes w = none) (hgood : good = true) :
    exec (.stageClose t q good w) s = .next
      (({ u with boot.xspi := memWrite u.boot.xspi u.stageBase (g.bytes.take 64), boot.staging := none } : State).stageShow.ok x []) := by
  change execStageClose t q good w s = _
  refine takes_to h ?_
  rw [hopen]
  refine (if_neg fun hwrong => ?_).trans ?_
  · rw [Bool.or_eq_true_iff, decide_eq_true_iff, decide_eq_true_iff] at hwrong
    exact hwrong.elim (absurd hmine) (absurd hwhole)
  · rw [hfine]
    exact if_neg (by rw [hgood]; exact Bool.false_ne_true)

section
variable (hs : s.inService = true) (hopen : s.boot.staging = some g)
include hs hopen

theorem exec_stageIdleExpiry_of_due (hdue : g.lastWrite + 60 * sec ≤ (s.at_ t).up) :
    exec (.stageIdleExpiry t) s = .next ((s.at_ t).stageDiscard 3) := by
  change execStageIdleExpiry t s = _
  refine served_to hs (if_pos ?_)
  rw [show (s.at_ t).boot.staging = some g from hopen, Option.any_some, decide_eq_true_iff]
  exact hdue

theorem exec_stageIdleExpiry_of_early (hearly : (s.at_ t).up < g.lastWrite + 60 * sec) : exec (.stageIdleExpiry t) s = .next (s.at_ t) := by
  change execStageIdleExpiry t s = _
  refine served_to hs (if_neg ?_)
  rw [show (s.at_ t).boot.staging = some g from hopen, Option.any_some, decide_eq_true_iff, Nat.not_le]
  exact hearly

end

theorem memByte_memWrite_replicate {m : List Host.Cell} (hwf : Memory.wf m = true) {a n i : Nat} {b : Byte} (hi : i < n) :
    memByte (memWrite m a (List.replicate n b)) (a + i) = b := by
  rw [memByte_memWrite hwf (by rwa [List.length_replicate]), List.getElem_replicate]

theorem State.zeroStage_memByte (hwf : Memory.wf s.boot.xspi = true) {i : Nat} (hi : i < 64) :
    memByte s.zeroStage.boot.xspi (s.stageBase + i) = 0 := by
  unfold zeroStage
  dsimp only
  exact memByte_memWrite_replicate hwf hi

/-- 19 R690: staging that is discarded leaves none, and its header is erased. -/
theorem State.stageDiscard_boot {cause : Nat} (hopen : s.boot.staging = some g) :
    (s.stageDiscard cause).boot = { s.zeroStage.boot with staging := none } := by
  have hshown {v : State} : (v.stageShow.event 39 1 0x0707 (beBytes 1 cause)).boot = v.boot :=
    boot_of_core (event_core.trans stageShow_core)
  unfold stageDiscard
  rw [hopen]
  dsimp only
  rw [hshown]

end

/-- Settles O16: each request passes the checks before its effect, and the expiry writes 64 zero bytes over the header. -/
theorem stagingFollowsItsRules : Obligations.StagingFollowsItsRules := by
  refine ⟨fun t q good plain w s u x => ⟨exec_stageOpen_of_free, fun g h hopen hmine => ⟨exec_stageWrite_of_next h hopen hmine,
    exec_stageWrite_of_other h hopen hmine⟩, fun g => exec_stageClose_of_good⟩, fun t g s hs hopen => ⟨fun hdue =>
      ⟨exec_stageIdleExpiry_of_due hs hopen hdue, ?_, fun hwf i hi => ?_⟩, exec_stageIdleExpiry_of_early hs hopen⟩⟩
  · rw [State.stageDiscard_boot (s := s.at_ t) hopen]
  · rw [State.stageDiscard_boot (s := s.at_ t) hopen]
    have hbase : (s.at_ t).stageBase = s.stageBase := rfl
    have hzero := State.zeroStage_memByte (s := s.at_ t) hwf hi
    rw [hbase] at hzero
    dsimp only
    exact hzero

end Sys2Proof.Machine

/-! ## Captures and events of faults -/

namespace Sys2Proof.Machine

/-! ### The capture register -/

/-- The capture and MULTIPLE of the fault word (20 Table 20.10). -/
def captureFields : List Fld :=
  [R.FLT_CAP_VALID, R.FLT_CAP_MULTIPLE, R.FLT_CAP_CLASS, R.FLT_CAP_TYPE, R.FLT_CAP_MERGES, R.FLT_CAP_MASTER, R.FLT_CAP_ISLAND, R.FLT_CAP_CODE,
    R.FLT_CAP_ADDR_LO, R.FLT_CAP_ADDR_HI, R.FLT_CAP_STAMP, R.FLT_CAP_ISEQ]

section
variable {s u : State} {φ : Fld → Nat} {f : Fld} {v isl cls code m : Nat} {acc : Acc}

theorem captureFields_place {g : Fld} (hg : g ∈ captureFields) : 0x4002600020 ≤ g.addr ∧ g.addr ≤ 0x4002600030 ∧ g.lo ≤ g.hi ∧ g.hi < 32 := by
  fin_cases hg <;> decide

/-- The fields of the capture lie apart. -/
theorem captureFields_apart : ∀ {g f : Fld}, g ∈ captureFields → f ∈ captureFields → g ≠ f → g.Apart f := by
  have hall : ∀ g ∈ captureFields, ∀ f ∈ captureFields, g ≠ f → g.Apart f := by
    unfold Fld.Apart
    decide
  intro g f hg hf
  exact hall g hg f hf

/-- What the fields read once one is written, modulo its width. -/
def Fld.write (φ : Fld → Nat) (f : Fld) (v : Nat) : Fld → Nat := Function.update φ f (v % 2 ^ f.width)

theorem Fld.write_same : Fld.write φ f v f = v % 2 ^ f.width := Function.update_self ..

theorem Fld.write_other {g : Fld} (h : g ≠ f) : Fld.write φ f v g = φ g := Function.update_of_ne h ..

theorem Fld.foldl_write_of_unwritten {l : List (Fld × Nat)} (h : f ∉ l.map Prod.fst) : l.foldl (fun φ w => Fld.write φ w.1 w.2) φ f = φ f := by
  induction l generalizing φ with
  | nil => rfl
  | cons w l ih =>
    obtain ⟨hne, hrest⟩ := not_or.mp (List.mem_cons.not.mp h)
    rw [List.foldl_cons, ih hrest, Fld.write_other hne]

/-- Where no field is written twice, each holds what was written. -/
theorem Fld.foldl_write_of_mem {l : List (Fld × Nat)} (hnd : (l.map Prod.fst).Nodup) (h : (f, v) ∈ l) :
    l.foldl (fun φ w => Fld.write φ w.1 w.2) φ f = v % 2 ^ f.width := by
  induction l generalizing φ with
  | nil => cases h
  | cons w l ih =>
    obtain ⟨hfresh, hrest⟩ := List.nodup_cons.mp hnd
    rw [List.foldl_cons]
    obtain rfl | hmem := List.mem_cons.mp h
    · rw [Fld.foldl_write_of_unwritten hfresh, Fld.write_same]
    · exact ih hrest hmem

namespace State

/-- A field of the capture that is written holds what was written, modulo its width. -/
theorem Reads.set_captured (h : s.Reads (· ∈ captureFields) φ) (f : Fld) (v : Nat) (hmem : f ∈ captureFields := by decide) :
    (s.set f v).Reads (· ∈ captureFields) (Fld.write φ f v) := by
  obtain ⟨-, -, hlo, hhi⟩ := captureFields_place hmem
  refine ⟨(Keeps.refl s).set.regs_ok h.canonical, fun g hg => ?_⟩
  obtain rfl | hne := eq_or_ne g f
  · rw [Fld.write_same, get_set_same h.canonical g hlo hhi]
  · rw [Fld.write_other hne, get_set_apart h.canonical (captureFields_apart hg hmem hne), h.shows g hg]

theorem Reads.set_uncaptured (h : s.Reads (· ∈ captureFields) φ) (hf : f.addr < 0x4002600020 ∨ 0x4002600030 < f.addr) :
    (s.set f v).Reads (· ∈ captureFields) φ := by
  refine h.set_beside fun g hg haddr => absurd haddr ?_
  obtain ⟨hlow, hhigh, -, -⟩ := captureFields_place hg
  omega

/-- The writes of the first occurrence, in their order (20 R710). -/
def captureWrites (s : State) (isl cls code : Nat) (acc : Acc) : List (Fld × Nat) :=
  let addr := if 3 ≤ acc.typ then acc.addr % 2 ^ 15 else acc.addr
  [(R.FLT_CAP_VALID, 1), (R.FLT_CAP_CLASS, cls), (R.FLT_CAP_TYPE, acc.typ), (R.FLT_CAP_MERGES, 0), (R.FLT_CAP_MASTER, acc.master),
    (R.FLT_CAP_ISLAND, isl), (R.FLT_CAP_CODE, code), (R.FLT_CAP_ADDR_LO, addr), (R.FLT_CAP_ADDR_HI, addr / 2 ^ 32), (R.FLT_CAP_STAMP, s.now),
    (R.FLT_CAP_ISEQ, lookD isl s.flt.iseq 0)]

/-- The fields that the first occurrence writes. -/
theorem captureWrites_fields : (s.captureWrites isl cls code acc).map Prod.fst = captureFields.filter (· ≠ R.FLT_CAP_MULTIPLE) := by
  rw [show captureFields.filter (· ≠ R.FLT_CAP_MULTIPLE) = [R.FLT_CAP_VALID, R.FLT_CAP_CLASS, R.FLT_CAP_TYPE, R.FLT_CAP_MERGES,
    R.FLT_CAP_MASTER, R.FLT_CAP_ISLAND, R.FLT_CAP_CODE, R.FLT_CAP_ADDR_LO, R.FLT_CAP_ADDR_HI, R.FLT_CAP_STAMP, R.FLT_CAP_ISEQ] by decide]
  unfold captureWrites
  rfl

theorem capture_of_free (hfree : s.has R.FLT_CAP_VALID = false) :
    s.capture isl cls code acc = (s.captureWrites isl cls code acc).foldl (fun s w => s.set w.1 w.2) s := by
  unfold State.capture captureWrites
  rw [if_neg (Bool.eq_false_iff.mp hfree)]
  extract_lets addr a b c
  have hnow : c.now = s.now := by
    rw [set_now, set_now, set_now, set_now, set_now, set_now, set_now, set_now, set_now]
  have hflt : c.flt = s.flt := by
    rw [set_flt, set_flt, set_flt, set_flt, set_flt, set_flt, set_flt, set_flt, set_flt]
  rw [hflt, hnow, List.foldl_cons, List.foldl_cons, List.foldl_cons, List.foldl_cons, List.foldl_cons, List.foldl_cons,
    List.foldl_cons, List.foldl_cons, List.foldl_cons, List.foldl_cons, List.foldl_cons, List.foldl_nil]

theorem Reads.foldl_captured {l : List (Fld × Nat)} (h : s.Reads (· ∈ captureFields) φ) (hl : ∀ w ∈ l, w.1 ∈ captureFields) :
    (l.foldl (fun s w => s.set w.1 w.2) s).Reads (· ∈ captureFields) (l.foldl (fun φ w => Fld.write φ w.1 w.2) φ) := by
  induction l generalizing s φ with
  | nil => exact h
  | cons w l ih =>
    have hw := hl w List.mem_cons_self
    exact ih (h.set_captured w.1 w.2 hw) fun x hx => hl x (List.mem_cons_of_mem w hx)

theorem Reads.capture_first (h : s.Reads (· ∈ captureFields) φ) (hfree : s.has R.FLT_CAP_VALID = false) :
    (s.capture isl cls code acc).Reads (· ∈ captureFields) ((s.captureWrites isl cls code acc).foldl (fun φ w => Fld.write φ w.1 w.2) φ) := by
  rw [capture_of_free hfree]
  refine h.foldl_captured fun w hw => ?_
  have hfld := List.mem_map_of_mem (f := Prod.fst) hw
  rw [captureWrites_fields] at hfld
  exact List.mem_of_mem_filter hfld

/-- 20 R711: a later occurrence counts, and raises the class. -/
theorem Reads.capture_merged (h : s.Reads (· ∈ captureFields) s.get) (hheld : s.has R.FLT_CAP_VALID = true) :
    (s.capture isl cls code acc).Reads (· ∈ captureFields) (Fld.write (Fld.write (Fld.write s.get R.FLT_CAP_MERGES
      (min 255 (s.get R.FLT_CAP_MERGES + 1))) R.FLT_CAP_MULTIPLE 1) R.FLT_CAP_CLASS (max cls (s.get R.FLT_CAP_CLASS))) := by
  have hmarked := ((h.set_captured R.FLT_CAP_MERGES (min 255 (s.get R.FLT_CAP_MERGES + 1))).set_captured R.FLT_CAP_MULTIPLE 1).set_uncaptured
    (f := R.FLT_WORD_HI_MULTIPLE) (v := 1) (by decide)
  have hclass : (((s.set R.FLT_CAP_MERGES (min 255 (s.get R.FLT_CAP_MERGES + 1))).set R.FLT_CAP_MULTIPLE 1).set R.FLT_WORD_HI_MULTIPLE 1).get
      R.FLT_CAP_CLASS = s.get R.FLT_CAP_CLASS := hmarked.shows R.FLT_CAP_CLASS (by decide)
  have hall := hmarked.set_captured R.FLT_CAP_CLASS (max cls (s.get R.FLT_CAP_CLASS))
  unfold State.capture
  rw [if_pos hheld]
  dsimp only
  rw [hclass]
  exact hall

theorem Reads.fltSync_captured (h : s.Reads (· ∈ captureFields) φ) : s.fltSync.Reads (· ∈ captureFields) φ := by
  unfold State.fltSync
  exact (h.set_uncaptured (.inl (by decide))).set_uncaptured (by decide)

/-- What follows the capture in a latch leaves it. -/
theorem Reads.latch_captured (h : (s.capture isl cls code acc).Reads (· ∈ captureFields) φ) (hisl : isl < 40) :
    (s.latch isl cls code acc).Reads (· ∈ captureFields) φ := by
  obtain ⟨off, b, hflt, -, hoff⟩ := fltBit_place hisl
  have hbit : (fltBit isl).addr < 0x4002600020 := by
    rw [hflt, Fld.addr]
    dsimp only
    omega
  have hclass : (iclassFld isl).addr < 0x4002600020 := by
    unfold Fld.addr iclassFld
    dsimp only
    omega
  unfold State.latch
  exact ((h.set_uncaptured (.inl hbit)).set_uncaptured (.inl hclass)).fltSync_captured

theorem latch_first (hcan : canonical s.regs = true) (hisl : isl < 40) (hfree : s.has R.FLT_CAP_VALID = false)
    (hw : (f, v) ∈ s.captureWrites isl cls code acc) : (s.latch isl cls code acc).get f = v % 2 ^ f.width := by
  have hfld := List.mem_map_of_mem (f := Prod.fst) hw
  have hnd : ((s.captureWrites isl cls code acc).map Prod.fst).Nodup := by
    rw [captureWrites_fields]
    decide
  rw [captureWrites_fields] at hfld
  rw [(((Reads.of_canonical hcan _).capture_first hfree).latch_captured hisl).shows f (List.mem_of_mem_filter hfld), Fld.foldl_write_of_mem hnd hw]

/-! ### Clearing the capture -/

/-- The fields of a word that reads zero read zero. -/
theorem get_of_whole (h : s.get ⟨f.isl, f.off, 31, 0⟩ = 0) : s.get f = 0 := by
  have hword : s.word f.addr = 0 := (Nat.mod_eq_of_lt (s.word_lt _)).symm.trans ((congrArg (· % 2 ^ 32) (Nat.div_one _).symm).trans h)
  rw [State.get, hword, bits, Nat.zero_div, Nat.zero_mod]

theorem clearCapture_canonical (hcan : canonical s.regs = true) : canonical s.clearCapture.regs = true := (Keeps.refl s).clearCapture.regs_ok hcan

theorem fltSync_canonical (hcan : canonical s.regs = true) : canonical s.fltSync.regs = true := (Keeps.refl s).fltSync.regs_ok hcan

theorem clearCapture_capture (hcan : canonical s.regs = true) : s.clearCapture.fltSync.get ⟨38, 0x20, 31, 0⟩ = 0 := by
  unfold fltSync clearCapture
  rw [get_set_word (by decide), get_set_word (by decide), List.foldl_cons, List.foldl_cons, List.foldl_cons, List.foldl_cons, List.foldl_cons,
    List.foldl_cons, List.foldl_nil, get_set_word (by decide), get_set_word (by decide), get_set_word (by decide), get_set_word (by decide),
    get_set_word (by decide), get_set_same hcan _ (by decide) (by decide), Nat.zero_mod]

/-- CLASS and FAULT_N are none of the bits latched. -/
theorem fltSync_anyLatched (hcan : canonical s.regs = true) : s.fltSync.anyLatched = s.anyLatched := by
  have hkeep : ∀ f : Fld, f.Apart R.FLT_WORD_HI_CLASS → f.addr ≠ R.FLT_STAT_FAULT_N.addr → s.fltSync.has f = s.has f := by
    intro f hclass hpin
    unfold fltSync State.has
    rw [get_set_word hpin, get_set_apart hcan hclass]
  have hbits : ∀ n ∈ List.range 40, s.fltSync.has (fltBit n) = s.has (fltBit n) := by
    intro n hn
    obtain ⟨off, b, hflt, hb, hoff⟩ := fltBit_place (List.mem_range.mp hn)
    rw [hflt]
    refine hkeep _ ?_ ?_
    · unfold Fld.Apart
      dsimp only [Fld.addr, R.FLT_WORD_HI_CLASS]
      omega
    · dsimp only [Fld.addr, R.FLT_STAT_FAULT_N]
      omega
  unfold anyLatched
  rw [hkeep R.FLT_WORD_HI_LOG_LOST (by unfold Fld.Apart; decide) (by decide), hkeep R.FLT_WORD_HI_AON_LOST (by unfold Fld.Apart; decide) (by decide),
    List.any_eq, List.any_eq,
    decide_eq_decide.mpr (exists_congr fun n => and_congr_right fun hn => by rw [hbits n hn])]

/-- A clear ends on the state it has cleared, and on the capture where no bit is left. -/
theorem faultClear_ends (s : State) (m : Nat) :
    ∃ u : State, Keeps s u ∧ s.faultClear m = (if u.anyLatched then u else u.clearCapture).fltSync := by
  unfold State.faultClear
  refine ⟨_, ?_, rfl⟩
  simp only [↓via Keeps.set, ↓via Keeps.event, ↓via Keeps.capture, ↓via Keeps.clearIsland, ↓via Keeps.ite, ↓via Keeps.foldl, ↓keeps_record,
    Keeps.refl, true_or, and_true, implies_true]

/-- 20 R714. -/
theorem faultClear_capture (hcan : canonical s.regs = true) (hnone : (s.faultClear m).anyLatched = false) :
    (s.faultClear m).get ⟨38, 0x20, 31, 0⟩ = 0 := by
  obtain ⟨u, hkeeps, hends⟩ := faultClear_ends s m
  have hu := hkeeps.regs_ok hcan
  rw [hends] at hnone ⊢
  by_cases hany : u.anyLatched = true
  · rw [if_pos hany, fltSync_anyLatched hu, hany] at hnone
    cases hnone
  · rw [if_neg hany]
    exact clearCapture_capture hu

theorem get_lt (s : State) (f : Fld) : s.get f < 2 ^ f.width := Nat.mod_lt _ (Nat.two_pow_pos _)

/-- 20 R710: what a capture shows of its first occurrence. -/
theorem latch_shows_first (hcan : canonical s.regs = true) (hisl : isl < 40) (hcls : cls < 5) (hfree : s.has R.FLT_CAP_VALID = false) :
    let v := s.latch isl cls code acc
    let addr := if 3 ≤ acc.typ then acc.addr % 2 ^ 15 else acc.addr
    v.has R.FLT_CAP_VALID = true ∧ v.get R.FLT_CAP_ISLAND = isl ∧ v.get R.FLT_CAP_CLASS = cls ∧
      v.get R.FLT_CAP_CODE = code % 2 ^ 16 ∧ v.get R.FLT_CAP_TYPE = acc.typ % 8 ∧ v.get R.FLT_CAP_MASTER = acc.master % 2 ^ 8 ∧
      v.get R.FLT_CAP_ADDR_LO = addr % 2 ^ 32 ∧ v.get R.FLT_CAP_ADDR_HI = addr / 2 ^ 32 % 2 ^ 8 ∧ v.get R.FLT_CAP_STAMP = s.now % 2 ^ 32 ∧
      v.get R.FLT_CAP_ISEQ = lookD isl s.flt.iseq 0 % 2 ^ 32 := by
  have hshows : ∀ {f v}, (f, v) ∈ s.captureWrites isl cls code acc → (s.latch isl cls code acc).get f = v % 2 ^ f.width :=
    latch_first hcan hisl hfree
  unfold captureWrites at hshows
  have hwidth : 2 ^ R.FLT_CAP_ISLAND.width = 64 ∧ 2 ^ R.FLT_CAP_CLASS.width = 8 := by decide
  refine ⟨decide_eq_true (hshows (v := 1) ?_), (hshows (v := isl) ?_).trans (Nat.mod_eq_of_lt (by omega)),
    (hshows (v := cls) ?_).trans (Nat.mod_eq_of_lt (by omega)), hshows ?_, hshows ?_, hshows ?_, hshows ?_, hshows ?_, hshows ?_, hshows ?_⟩
  all_goals simp only [List.mem_cons, true_or, or_true]

/-- 20 R711: what a capture held shows of a later occurrence. -/
theorem latch_shows_merged (hcan : canonical s.regs = true) (hisl : isl < 40) (hcls : cls < 5) (hheld : s.has R.FLT_CAP_VALID = true) :
    let v := s.latch isl cls code acc
    v.has R.FLT_CAP_VALID = true ∧
      (∀ f ∈ [R.FLT_CAP_ISLAND, R.FLT_CAP_CODE, R.FLT_CAP_TYPE, R.FLT_CAP_MASTER, R.FLT_CAP_ADDR_LO, R.FLT_CAP_ADDR_HI, R.FLT_CAP_STAMP, R.FLT_CAP_ISEQ],
        v.get f = s.get f) ∧
      v.get R.FLT_CAP_MERGES = min 255 (s.get R.FLT_CAP_MERGES + 1) ∧ v.has R.FLT_CAP_MULTIPLE = true ∧
      v.get R.FLT_CAP_CLASS = max cls (s.get R.FLT_CAP_CLASS) := by
  have hreads := ((Reads.of_canonical hcan (· ∈ captureFields)).capture_merged (cls := cls) (code := code) (acc := acc) (isl := isl) hheld).latch_captured hisl
  have hkept : ∀ f ∈ captureFields.filter (· ∉ [R.FLT_CAP_MERGES, R.FLT_CAP_MULTIPLE, R.FLT_CAP_CLASS]), (s.latch isl cls code acc).get f = s.get f := by
    intro f hf
    obtain ⟨hmem, hout⟩ := List.mem_filter.mp hf
    simp only [List.mem_cons, List.not_mem_nil, or_false, not_or, decide_eq_true_eq] at hout
    obtain ⟨hmerges, hmultiple, hclass⟩ := hout
    rw [hreads.shows f hmem, Fld.write_other hclass, Fld.write_other hmultiple, Fld.write_other hmerges]
  have hlt : s.get R.FLT_CAP_CLASS < 2 ^ R.FLT_CAP_CLASS.width := get_lt ..
  have hwidth : 2 ^ R.FLT_CAP_MERGES.width = 256 ∧ 2 ^ R.FLT_CAP_CLASS.width = 8 := by decide
  refine ⟨?_, fun f hf => hkept f ?_, ?_, ?_, ?_⟩
  · exact (congrArg (fun n => Decidable.decide (n = 1)) (hkept R.FLT_CAP_VALID (by decide))).trans hheld
  · revert f
    decide
  · rw [hreads.shows R.FLT_CAP_MERGES (by decide), Fld.write_other (by decide), Fld.write_other (by decide), Fld.write_same,
      Nat.mod_eq_of_lt (by omega)]
  · refine decide_eq_true ?_
    rw [hreads.shows R.FLT_CAP_MULTIPLE (by decide), Fld.write_other (by decide), Fld.write_same]
    decide
  · rw [hreads.shows R.FLT_CAP_CLASS (by decide), Fld.write_same, Nat.mod_eq_of_lt (by omega)]

end State
end

/-- Settles O51, on what the fields of the capture read once it is written and on the state that a clear ends on. -/
theorem occurrencesAreCaptured : Obligations.OccurrencesAreCaptured := by
  intro s isl cls code m acc hf _
  have hcan := (State.formed_iff.mp hf).1
  refine ⟨State.latch_shows_first hcan isl.isLt cls.isLt, State.latch_shows_merged hcan isl.isLt cls.isLt, fun hnone => ?_⟩
  have hzero := State.faultClear_capture (m := m) hcan hnone
  have hfree : (s.faultClear m).has R.FLT_CAP_VALID = false :=
    decide_eq_false (by rw [State.get_of_whole (f := R.FLT_CAP_VALID) hzero]; exact Nat.zero_ne_one)
  obtain ⟨hvalid, hisl, -⟩ := State.latch_shows_first (code := code) (acc := acc) ((Keeps.refl s).faultClear.regs_ok hcan) isl.isLt cls.isLt hfree
  refine ⟨hfree, State.get_of_whole (f := R.FLT_CAP_MERGES) hzero, ?_, hvalid, hisl⟩
  exact decide_eq_false (by rw [State.get_of_whole (f := R.FLT_CAP_MULTIPLE) hzero]; exact Nat.zero_ne_one)

end Sys2Proof.Machine

/-! ## Events of the twin -/

namespace Sys2Proof.Machine

section
variable {s : State} {t : Time} {h : DblHead} {e : Event} {isl cls code extra : Nat} {detail : List Byte}

namespace State

theorem out_ite {c : Prop} [Decidable c] {x y : State} (hx : x.out = s.out) (hy : y.out = s.out) : (if c then x else y).out = s.out := by
  split <;> assumption

theorem flt_out {u : State} {flt : Flt} : State.out { u with flt := flt } = u.out := rfl

theorem publish_out : (s.publish e).out = s.out := bump_out

theorem logRec_out : (s.logRec e).out = s.out := bump_out

/-- The entry of the log that an event makes, before it goes to the twin. -/
theorem logOne_told_out (c : Prop) [Decidable c] :
    ((if c then (s.nextSeq isl).2 else (s.nextSeq isl).2.logRec e).publish e).out = s.out := by
  rw [publish_out]
  exact out_ite rfl logRec_out

theorem logOne_told_linkUp (c : Prop) [Decidable c] :
    ((if c then (s.nextSeq isl).2 else (s.nextSeq isl).2.logRec e).publish e).dbl.linkUp = s.dbl.linkUp :=
  linkUp_of_core (publish_core.trans (core_ite rfl logRec_core))

theorem logOne_out_of_low (hcls : cls < 2) : (s.logOne isl cls code detail extra).out = s.out := by
  have hlow (b : Bool) : ¬(Decidable.decide (2 ≤ cls) && b) = true := by
    rw [decide_eq_false (by omega), Bool.false_and]
    exact Bool.false_ne_true
  unfold logOne
  dsimp only
  rw [if_neg (hlow _)]
  exact logOne_told_out _

/-- 20 R719: an event of class F2 or above leaves by the doubling link. -/
theorem logOne_out_of_high (hcls : 2 ≤ cls) (hlink : s.dbl.linkUp = true) :
    ∃ e : Event, .dblEvent e ∈ (s.logOne isl cls code detail extra).out ∧ e.isl = isl ∧ e.cls = cls ∧ e.code = code ∧ e.detail = detail ∧ e.time = s.now := by
  unfold logOne
  dsimp only
  rw [logOne_told_linkUp, hlink, Bool.and_true, if_pos (decide_eq_true hcls)]
  exact ⟨_, List.mem_append_right _ (List.mem_singleton_self _), rfl, rfl, rfl, rfl, rfl⟩

/-- An event is an entry of the log, after the entry of the gap before it, which is of class F1. -/
theorem event_logs (s : State) (isl cls code : Nat) (detail : List Byte) :
    ∃ u : State, s.event isl cls code detail = u.logOne isl cls code detail 0 ∧ u.core = s.core ∧ u.out = s.out := by
  have hgap (d : List Byte) : State.core { s.logOne isl 1 0x0005 d 0 with flt.dropped := drop isl s.flt.dropped } = s.core :=
    (flt_core (s := s.logOne isl 1 0x0005 d 0) rfl).trans logOne_core
  have hquiet (d : List Byte) : State.out { s.logOne isl 1 0x0005 d 0 with flt.dropped := drop isl s.flt.dropped } = s.out :=
    (flt_out (u := s.logOne isl 1 0x0005 d 0)).trans (logOne_out_of_low Nat.one_lt_two)
  unfold event
  exact ⟨_, rfl, core_ite rfl (hgap _), out_ite rfl (hquiet _)⟩

end State

/-- 20 R719: the twin logs an event that it receives as TWIN_EVENT. -/
theorem exec_dblEvent_of_up (hs : s.awake = true) (hgood : h.good = true) (hlink : s.dbl.linkUp = true) :
    exec (.dblEvent t h e) s = .next ((if s.dbl.role.holds then (s.at_ t).publish { e with eflags := e.eflags ||| 2 } else s.at_ t).event 37 1 0x0502
        (beBytes 2 e.code ++ beBytes 1 e.isl ++ beBytes 1 0 ++ e.detail.take 60)) := by
  change execDblEvent t h e s = _
  exact (dblFrame_of_good hs hgood _).trans (congrArg Host.Outcome.next (if_pos hlink))

end

/-- Settles O52: what an event emits, and the fault word that it leaves. -/
theorem eventsGoToTheTwin : Obligations.EventsGoToTheTwin := by
  refine ⟨fun s isl cls code detail hlink => ?_, fun t h e s hs hgood hlink => ⟨_, exec_dblEvent_of_up hs hgood hlink, rfl, fun n => ?_⟩⟩
  · obtain ⟨u, hevent, hcore, hout⟩ := s.event_logs isl cls code detail
    rw [hevent]
    constructor
    · intro hcls
      rw [← State.now_of_core hcore]
      exact State.logOne_out_of_high hcls ((State.linkUp_of_core hcore).trans hlink)
    · exact fun hcls => (State.logOne_out_of_low hcls).trans hout
  · have htold : State.Leaves false (s.at_ t) (if s.dbl.role.holds then (s.at_ t).publish { e with eflags := e.eflags ||| 2 } else s.at_ t) :=
      .ite ((State.Leaves.refl _).publish _) (State.Leaves.refl _)
    exact (htold.event ..).get _ fltBit_outside

end Sys2Proof.Machine

/-! ## Maintenance requests -/

namespace Sys2Proof.Machine

section
variable {s u : State} {t : Time} {q : Req} {x : Ctx}

theorem exec_faultClear_of_mask (h : s.takes t ⟨0x0A, false, [one 0x28]⟩ q (chipNeed 9) u x) (hmask : faultMaskOk (fld x.ts 0x28 0 8) = true) :
    exec (.faultClear t q) s = .next
      (((u.faultClear (fld x.ts 0x28 0 8)).event 34 0 0x0003 (beBytes 8 (fld x.ts 0x28 0 8) ++ beBytes 2 x.sess.princ)).ok x []) := by
  change execFaultClear t q s = _
  refine takes_to h (if_neg ?_)
  rw [hmask]
  exact Bool.false_ne_true

/-- The islands that a request may reset while they serve, and a tile that is out. -/
theorem exec_islandReset_of_island {n : Nat} (h : s.takes t ⟨0x52, false, [one 0x23]⟩ q (chipNeed 9) u x) (hn : fld x.ts 0x23 0 1 = n)
    (hisl : n < 16 ∨ n = 32 ∨ (24 ≤ n ∧ n < 32) ∨ (16 ≤ n ∧ n < 24 ∧ u.tile (n - 16) = .out)) :
    exec (.islandReset t q) s = .next ((u.fence n).ok x []) := by
  change execIslandReset t q s = _
  refine takes_to h ?_
  dsimp only
  rw [hn]
  by_cases htile : 16 ≤ n ∧ n < 24
  · obtain ⟨hlow, hhigh⟩ := htile
    have hout : u.tile (n - 16) = .out := by
      obtain h | h | h | ⟨-, -, h⟩ := hisl
      · omega
      · omega
      · omega
      · exact h
    rw [if_neg (by simp only [Bool.or_eq_true, Bool.and_eq_true, decide_eq_true_iff]; omega),
      if_pos (by simp only [Bool.and_eq_true, decide_eq_true_iff]; omega), if_pos hout]
  · exact if_pos (by simp only [Bool.or_eq_true, Bool.and_eq_true, decide_eq_true_iff]; omega)

theorem exec_tileDrain_of_others (h : s.takes t ⟨0x50, false, [one 0x22]⟩ q (chipNeed 9) u x) (hothers : u.othersServe (fld x.ts 0x22 0 1) = true)
    (hserves : u.tile (fld x.ts 0x22 0 1) = .inService) (hfree : u.xp.drainAt = none) :
    exec (.tileDrain t q) s = .next
      ({ u with xp.drainAt := some (fld x.ts 0x22 0 1, u.tileInstant) }.ok x [effective u.tileInstant]) := by
  change execTileDrain t q s = _
  refine takes_to h (if_neg ?_)
  rw [hothers, hserves, hfree]
  decide

theorem exec_tileDrain_of_short (h : s.takes t ⟨0x50, false, [one 0x22]⟩ q (chipNeed 9) u x)
    (hshort : u.othersServe (fld x.ts 0x22 0 1) = false ∨ u.tile (fld x.ts 0x22 0 1) ≠ .inService) :
    exec (.tileDrain t q) s = .next ((u.bump (R.ADM_REFUSED 0x0B) 1).reply { x.re 0x10 with resource := 0x0B, chip := u.chip }) := by
  change execTileDrain t q s = _
  refine takes_to h (if_pos ?_)
  rw [Bool.or_eq_true, Bool.or_eq_true, decide_eq_true_iff]
  refine .inl ?_
  obtain hothers | hout := hshort
  · rw [hothers]
    exact .inr rfl
  · exact .inl hout

theorem exec_tileRestore_of_out (h : s.takes t ⟨0x51, false, [one 0x22]⟩ q (chipNeed 9) u x) (hout : u.tile (fld x.ts 0x22 0 1) = .out) :
    exec (.tileRestore t q) s = .next
      ({ u with xp.restoreAt := put (fld x.ts 0x22 0 1) u.tileInstant u.xp.restoreAt }.ok x [effective u.tileInstant]) := by
  change execTileRestore t q s = _
  exact takes_to h (if_neg fun hnot => hnot hout)

/-- The first multiple of 10 µs at least 50 µs on. -/
theorem grid_bounds (n : Nat) : ceilDiv (n + 50000) 10000 * 10000 % 10000 = 0 ∧ n + 50000 ≤ ceilDiv (n + 50000) 10000 * 10000 ∧
    ceilDiv (n + 50000) 10000 * 10000 < n + 60000 := by
  unfold ceilDiv
  omega

/-- 03 R125: the instant of a drain or restore. -/
theorem tileInstant_bounds (u : State) : u.tileInstant % 10000 = 0 ∧ u.now + 50000 ≤ u.tileInstant ∧ u.tileInstant < u.now + 60000 :=
  grid_bounds u.now

end

/-- Settles O12, by the accepted request and the conditions of each. -/
theorem maintenanceRequests : Obligations.MaintenanceRequests := by
  refine ⟨fun t q s u x => ⟨exec_faultClear_of_mask, fun h hisl => exec_islandReset_of_island h rfl hisl⟩, fun t q s u x => ⟨fun h => ⟨?_, ?_⟩, exec_tileRestore_of_out,
    tileInstant_bounds u⟩⟩
  · rintro ⟨hothers, hserves, hfree⟩
    exact exec_tileDrain_of_others h hothers hserves hfree
  · exact exec_tileDrain_of_short h

end Sys2Proof.Machine

/-! ## The evacuation override and the input pins -/

namespace Sys2Proof.Machine

/-! ### The machine of Table 21.4 -/

/-- Where idle levels lead; `due`: TD samples in a row have shown them. -/
def EvacSt.onIdle (x : EvacSt) (due : Bool) : EvacSt := match x with
  | .normal => .normal | .discrepant => .normal | .asserted => .holding | .holding => if due then .clearable else .holding | .clearable => .clearable

/-- Where levels that agree lead; `due`: TD samples in a row have shown the discrepancy. -/
def EvacSt.onDiscrepancy (x : EvacSt) (due : Bool) : EvacSt := match x with
  | .normal => .discrepant | .discrepant => if due then .asserted else .discrepant
  | .asserted => .asserted | .holding => .asserted | .clearable => .asserted

section
variable {s u : State} {t : Time} {a b due : Bool} {x : EvacSt} {n isl cls code : Nat} {detail : List Byte} {φ : Fld → Nat} {f : Fld} {p : Nat}

namespace State

/-- TD samples in a row have shown what this one shows. -/
def evacDue (s : State) : Bool := Decidable.decide (s.evacTd ≤ s.probe.count + 1)

theorem probe_of_core (h : u.core = s.core) : u.probe = s.probe := congrArg Core.probe h

theorem event_probe : (s.event isl cls code detail).probe = s.probe := probe_of_core event_core

theorem event_evac (h : s.probe.evac = x) : (s.event isl cls code detail).probe.evac = x := (congrArg Probe.evac event_probe).trans h

theorem latchDisc_probe : (s.latchDisc a b).probe = { s.probe with disc := true } := by
  unfold latchDisc
  exact probe_of_core ((raise_core (by decide)).trans (bump_core (s := { s with probe.disc := true })))

theorem latchDisc_evac (h : s.probe.evac = x) : (s.latchDisc a b).probe.evac = x := (congrArg Probe.evac latchDisc_probe).trans h

theorem latchDisc_fltBit (hc : canonical s.regs = true) : (s.latchDisc a b).has (fltBit 38) = true := by
  have hcounted : canonical (State.bump { s with probe.disc := true } R.EVAC_DISCS 1).regs = true :=
    bump_canonical (s := { s with probe.disc := true }) hc
  unfold latchDisc
  exact raise_fltBit hcounted (by decide) (by decide) ..

theorem lt_td_of_not_due (h : s.evacDue = false) : s.probe.count + 1 < s.evacTd := Nat.lt_of_not_le (of_decide_eq_false h)

theorem not_lt_td_of_due (h : s.evacDue = true) : ¬s.probe.count + 1 < s.evacTd := Nat.not_lt.mpr (of_decide_eq_true h)

theorem evacStep_of_agree (s : State) : (s.evacStep true false).probe.evac = .asserted := by
  have hidle : (!true && false) = false := rfl
  have hagree : (true && !false) = true := rfl
  unfold evacStep
  rw [hidle, hagree]
  cases hevac : s.probe.evac with
  | normal =>
    dsimp only
    rw [if_neg Bool.false_ne_true, if_pos rfl]
    exact event_evac rfl
  | discrepant =>
    dsimp only
    rw [if_pos rfl]
    exact event_evac rfl
  | asserted => exact hevac
  | holding => rfl
  | clearable => rfl

theorem evacStep_of_idle (s : State) : (s.evacStep false true).probe.evac = s.probe.evac.onIdle s.evacDue := by
  have hagree : (false && !true) = false := rfl
  have hidle : (!false && true) = true := rfl
  unfold evacStep
  rw [hagree, hidle]
  cases hevac : s.probe.evac with
  | normal => exact hevac
  | discrepant => rfl
  | asserted => rfl
  | holding =>
    dsimp only
    cases hdue : s.evacDue with
    | false =>
      rw [if_neg Bool.false_ne_true, if_neg (Bool.not_true ▸ Bool.false_ne_true), if_pos (lt_td_of_not_due hdue)]
      exact hevac
    | true =>
      rw [if_neg Bool.false_ne_true, if_neg (Bool.not_true ▸ Bool.false_ne_true), if_neg (not_lt_td_of_due hdue)]
      exact event_evac rfl
  | clearable => exact hevac

theorem evacStep_of_discrepancy (s : State) (a : Bool) : (s.evacStep a a).probe.evac = s.probe.evac.onDiscrepancy s.evacDue := by
  have hagree : (a && !a) = false := Bool.and_not_self a
  have hidle : (!a && a) = false := Bool.not_and_self a
  unfold evacStep
  rw [hagree, hidle]
  cases hevac : s.probe.evac with
  | normal => rfl
  | discrepant =>
    dsimp only
    cases hdue : s.evacDue with
    | false =>
      rw [if_neg Bool.false_ne_true, if_neg Bool.false_ne_true, if_pos (lt_td_of_not_due hdue)]
      exact hevac
    | true =>
      rw [if_neg Bool.false_ne_true, if_neg Bool.false_ne_true, if_neg (not_lt_td_of_due hdue)]
      exact event_evac (latchDisc_evac rfl)
  | asserted =>
    dsimp only
    rw [if_neg Bool.false_ne_true, if_neg Bool.false_ne_true]
    split
    · exact latchDisc_evac hevac
    · exact hevac
  | holding => rfl
  | clearable => rfl

/-- 21 R745: a discrepancy of TD samples latches DISC. -/
theorem evacStep_disc (hc : canonical s.regs = true) (hevac : s.probe.evac = .discrepant) (hdue : s.evacDue = true) :
    (s.evacStep a a).probe.disc = true ∧ (s.evacStep a a).has (fltBit 38) = true := by
  have hagree : (a && !a) = false := Bool.and_not_self a
  have hidle : (!a && a) = false := Bool.not_and_self a
  unfold evacStep
  rw [hagree, hidle, hevac]
  dsimp only
  rw [if_neg Bool.false_ne_true, if_neg Bool.false_ne_true, if_neg (not_lt_td_of_due hdue)]
  have hassert : canonical (s.evacAssert (s.probe.count + 1)).regs = true := (Keeps.refl s).evacAssert.regs_ok hc
  have hbit := latchDisc_fltBit (a := a) (b := a) hassert
  refine ⟨(congrArg Probe.disc event_probe).trans (congrArg Probe.disc latchDisc_probe), ?_⟩
  exact (congrArg (fun n => Decidable.decide (n = 1)) (((Leaves.refl _).event ..).get _ fltBit_outside)).trans hbit

/-! ### What a sample shows -/

theorem evacReport_core : s.evacReport.core = s.core := core_ite dblSend_core rfl

theorem evacReport_regs : s.evacReport.regs = s.regs := by
  unfold evacReport
  split <;> rfl

theorem evacShow_core : s.evacShow.core = s.core := by
  unfold evacShow
  simp only [↓apply_ite State.core, ↓set_core, ite_self]

/-- What is shown beside the state leaves it. -/
theorem Reads.set_evac (h : s.Reads (· = R.EVAC_STATE) φ) (hf : Fld.Apart R.EVAC_STATE f := by unfold Fld.Apart; decide) :
    (s.set f n).Reads (· = R.EVAC_STATE) φ :=
  h.set_beside fun _ hg => hg ▸ hf

theorem evacShow_state (hc : canonical s.regs = true) : s.evacShow.get R.EVAC_STATE = s.probe.evac.code := by
  have hcode : s.probe.evac.code < 2 ^ R.EVAC_STATE.width := by cases s.probe.evac <;> decide
  have hset := (Reads.of_canonical hc (· = R.EVAC_STATE)).set_here (v := s.probe.evac.code) (f := R.EVAC_STATE) (by decide) (by decide)
    (fun g hg hne => absurd hg hne) hcode
  have hshown : s.evacShow.Reads (· = R.EVAC_STATE) (Function.update s.get R.EVAC_STATE s.probe.evac.code) := by
    unfold evacShow
    dsimp only
    refine Reads.ite (.set_evac ?_) ?_
    all_goals exact hset.set_evac.set_evac.set_evac.set_evac.set_evac
  exact (hshown.shows _ rfl).trans (Function.update_self ..)

theorem evacShow_fltBit : s.evacShow.get (fltBit 38) = s.get (fltBit 38) := by
  unfold evacShow
  dsimp only
  split
  · rw [get_set_word (by decide), get_set_word (by decide), get_set_word (by decide), get_set_word (by decide), get_set_word (by decide),
      get_set_word (by decide), get_set_word (by decide)]
  · rw [get_set_word (by decide), get_set_word (by decide), get_set_word (by decide), get_set_word (by decide), get_set_word (by decide),
      get_set_word (by decide)]

/-- The levels of a sample as they are shown (21 R742). -/
def evacRead (s : State) (a b : Bool) : State := (s.set R.EVAC_A_ACT (b2n a)).set R.EVAC_B_ACT (b2n (!b))

theorem evacRead_boot : (s.evacRead a b).boot = s.boot := by
  unfold evacRead
  rw [set_boot, set_boot]

theorem evacRead_probe : (s.evacRead a b).probe = s.probe := by
  unfold evacRead
  rw [set_probe, set_probe]

theorem evacRead_canonical (hc : canonical s.regs = true) : canonical (s.evacRead a b).regs = true := (Keeps.refl s).set.set.regs_ok hc

/-- The machine moved by a sample. -/
def evacMoved (s : State) (a b : Bool) : State :=
  if s.evacDisabled then { s with probe.evac := .normal, probe.count := 0 } else s.evacStep a b

/-- A machine or a latch that changed is reported. -/
def evacTold (s : State) (was : EvacSt × Bool) : State := if was = (s.probe.evac, s.probe.disc) then s else s.evacReport

theorem evacTold_core {was : EvacSt × Bool} : (s.evacTold was).core = s.core := core_ite rfl evacReport_core

theorem evacTold_regs {was : EvacSt × Bool} : (s.evacTold was).regs = s.regs := by
  unfold evacTold
  split
  · rfl
  · exact evacReport_regs

theorem evacMoved_canonical (hc : canonical s.regs = true) : canonical (s.evacMoved a b).regs = true := by
  unfold evacMoved
  split
  · exact hc
  · exact (Keeps.refl s).evacStep.regs_ok hc

theorem evacDisabled_of_boot (h : u.boot = s.boot) : u.evacDisabled = s.evacDisabled := by
  unfold evacDisabled rec1 recs
  rw [h]

theorem evacDue_of (hboot : u.boot = s.boot) (hprobe : u.probe = s.probe) : u.evacDue = s.evacDue := by
  unfold evacDue evacTd rec1 recs
  rw [hboot, hprobe]

theorem evacMoved_of_disabled (h : s.evacDisabled = true) : ((s.evacRead a b).evacMoved a b).probe.evac = .normal := by
  unfold evacMoved
  rw [if_pos ((evacDisabled_of_boot evacRead_boot).trans h)]

theorem evacMoved_of_enabled (h : s.evacDisabled = false) : (s.evacRead a b).evacMoved a b = (s.evacRead a b).evacStep a b :=
  if_neg (Bool.eq_false_iff.mp ((evacDisabled_of_boot evacRead_boot).trans h))

theorem evacMoved_of_agree (h : s.evacDisabled = false) : ((s.evacRead true false).evacMoved true false).probe.evac = .asserted := by
  rw [evacMoved_of_enabled h, evacStep_of_agree]

theorem evacMoved_of_idle (h : s.evacDisabled = false) : ((s.evacRead false true).evacMoved false true).probe.evac = s.probe.evac.onIdle s.evacDue := by
  rw [evacMoved_of_enabled h, evacStep_of_idle, evacDue_of evacRead_boot evacRead_probe, evacRead_probe]

theorem evacMoved_of_discrepancy (h : s.evacDisabled = false) :
    ((s.evacRead a a).evacMoved a a).probe.evac = s.probe.evac.onDiscrepancy s.evacDue := by
  rw [evacMoved_of_enabled h, evacStep_of_discrepancy, evacDue_of evacRead_boot evacRead_probe, evacRead_probe]

theorem evacMoved_disc (hc : canonical s.regs = true) (h : s.evacDisabled = false) (hevac : s.probe.evac = .discrepant) (hdue : s.evacDue = true) :
    ((s.evacRead a a).evacMoved a a).probe.disc = true ∧ ((s.evacRead a a).evacMoved a a).has (fltBit 38) = true := by
  rw [evacMoved_of_enabled h]
  exact evacStep_disc (evacRead_canonical hc) ((congrArg Probe.evac evacRead_probe).trans hevac)
    ((evacDue_of evacRead_boot evacRead_probe).trans hdue)

end State

/-- A sample ends in the machine's state, which EVAC.STATE shows. -/
theorem exec_evacSample_of_awake (hs : s.awake = true) (hc : canonical s.regs = true) :
    ∃ s', exec (.evacSample t a b) s = .next s' ∧ s'.probe = (((s.at_ t).evacRead a b).evacMoved a b).probe ∧
      s'.get R.EVAC_STATE = s'.probe.evac.code ∧ s'.get (fltBit 38) = (((s.at_ t).evacRead a b).evacMoved a b).get (fltBit 38) := by
  have hexec : exec (.evacSample t a b) s = .next ((((s.at_ t).evacRead a b).evacMoved a b).evacTold
      (((s.at_ t).evacRead a b).probe.evac, ((s.at_ t).evacRead a b).probe.disc)).evacShow := by
    change execEvacSample t a b s = _
    exact released_of_awake hs t _
  have hmoved : canonical (((s.at_ t).evacRead a b).evacMoved a b).regs = true := State.evacMoved_canonical (State.evacRead_canonical hc)
  refine ⟨_, hexec, ?_⟩
  generalize (((s.at_ t).evacRead a b).evacMoved a b) = v at hmoved
  generalize (((s.at_ t).evacRead a b).probe.evac, ((s.at_ t).evacRead a b).probe.disc) = was
  have hshow : (v.evacTold was).evacShow.probe = (v.evacTold was).probe := State.probe_of_core State.evacShow_core
  refine ⟨hshow.trans (State.probe_of_core State.evacTold_core), ?_, State.evacShow_fltBit.trans (State.get_of_regs State.evacTold_regs _)⟩
  rw [hshow]
  exact State.evacShow_state (by rw [State.evacTold_regs]; exact hmoved)

theorem exec_evacSample_goes (hs : s.awake = true) (hf : s.formed = true) (h : (((s.at_ t).evacRead a b).evacMoved a b).probe.evac = x) :
    ∃ s', exec (.evacSample t a b) s = .next s' ∧ s'.probe.evac = x ∧ s'.get R.EVAC_STATE = x.code := by
  obtain ⟨s', hexec, hprobe, hshown, -⟩ := exec_evacSample_of_awake (t := t) (a := a) (b := b) hs (State.formed_iff.mp hf).1
  have hevac : s'.probe.evac = x := (congrArg Probe.evac hprobe).trans h
  exact ⟨s', hexec, hevac, hshown.trans (congrArg EvacSt.code hevac)⟩

end

end Sys2Proof.Machine

/-! ### The level of an input pin -/

namespace Sys2Proof.Machine

section
variable {s u : State} {t : Time} {φ : Fld → Nat} {f : Fld} {n v : Nat} {p : Fin 64} {level : Bool}

/-- The word of a pin lies apart from those of the other islands and from a port's. -/
theorem gpioLevel_apart (h : f.isl = 34 ∨ f.isl = p.val / 4 ∧ 0x3b004 + 0x10 * (p.val % 4) ≤ f.off ∧ f.off < 0x3b010 + 0x10 * (p.val % 4)) :
    Fld.Apart (R.GPIO_LEVEL p) f := by
  have hp := p.isLt
  unfold Fld.Apart Fld.addr R.GPIO_LEVEL
  dsimp only
  omega

theorem gpioLevel_apart_port {k off hi lo : Nat} (hoff : off < 0x100) : Fld.Apart (R.GPIO_LEVEL p) ⟨(portPlace k).1, (portPlace k).2 + off, hi, lo⟩ := by
  have hp := p.isLt
  unfold Fld.Apart Fld.addr R.GPIO_LEVEL portPlace
  dsimp only
  split <;> dsimp only <;> omega

theorem gpioLevel_apart_accepted : Fld.Apart (R.GPIO_ACCEPTED p) (R.GPIO_LEVEL p) ∧ Fld.Apart (R.GPIO_LEVEL p) (R.GPIO_ACCEPTED p) := by
  unfold Fld.Apart R.GPIO_LEVEL R.GPIO_ACCEPTED
  dsimp only
  omega

theorem gpioLevel_outside : (R.GPIO_LEVEL p).outside false = true := by
  have hp := p.isLt
  rw [Fld.outside_iff]
  unfold R.GPIO_LEVEL
  dsimp only
  omega

namespace State

theorem Reads.set_pin (h : s.Reads (· = R.GPIO_LEVEL p) φ) (hf : Fld.Apart (R.GPIO_LEVEL p) f) : (s.set f v).Reads (· = R.GPIO_LEVEL p) φ :=
  h.set_beside fun _ hg => hg ▸ hf

theorem Reads.bump_pin (h : s.Reads (· = R.GPIO_LEVEL p) φ) (hf : Fld.Apart (R.GPIO_LEVEL p) f) : (s.bump f n).Reads (· = R.GPIO_LEVEL p) φ :=
  h.ite (h.set_pin hf)

theorem Reads.event_pin {isl cls code : Nat} {detail : List Byte} (h : s.Reads (· = R.GPIO_LEVEL p) φ) :
    (s.event isl cls code detail).Reads (· = R.GPIO_LEVEL p) φ :=
  h.event fun _ hg => hg ▸ gpioLevel_outside

theorem Reads.sendUnits_pin {k : Nat} (h : s.Reads (· = R.GPIO_LEVEL p) φ) : (s.sendUnits k n).Reads (· = R.GPIO_LEVEL p) φ := by
  have hrun : (s.strandRun k).Reads (· = R.GPIO_LEVEL p) φ := .record h
  have hcount : ((s.strandRun k).bump (R.PORT_STR_CTRL_TX k) n).Reads (· = R.GPIO_LEVEL p) φ := hrun.bump_pin (gpioLevel_apart_port (by decide))
  exact .record hcount

theorem Reads.sendMsg_pin {m : SkMsg} (h : s.Reads (· = R.GPIO_LEVEL p) φ) : (s.sendMsg m).Reads (· = R.GPIO_LEVEL p) φ := by
  unfold State.sendMsg
  dsimp only
  split
  · exact .ite (.record h) h
  · exact .record (.ite (.record h.sendUnits_pin) h.sendUnits_pin)

theorem Reads.armSalvo_pin {x : Salvo} (h : s.Reads (· = R.GPIO_LEVEL p) φ) : (s.armSalvo x).Reads (· = R.GPIO_LEVEL p) φ := by
  unfold State.armSalvo
  exact .record (.foldl h fun u _ _ hu => .sendMsg_pin (.record (.record hu)))

theorem Reads.fireRefused_pin {res chip : Nat} (h : s.Reads (· = R.GPIO_LEVEL p) φ) : (s.fireRefused n res chip).2.Reads (· = R.GPIO_LEVEL p) φ := by
  unfold State.fireRefused
  dsimp only
  exact h.event_pin

/-- A salvo that a pin fires leaves the pin's level. -/
theorem Reads.fire_pin (h : s.Reads (· = R.GPIO_LEVEL p) φ) : (s.fire n).2.Reads (· = R.GPIO_LEVEL p) φ := by
  fun_cases State.fire
  case case2 =>
    dsimp only
    exact h.bump_pin (gpioLevel_apart (f := R.SALVO_GPI_IGNORED) (.inl rfl))
  case case4 => exact (h.bump_pin (gpioLevel_apart (f := R.ADM_REFUSED 4) (.inl rfl))).fireRefused_pin
  case case7 hn =>
    cases hn
    exact Reads.armSalvo_pin (.record (.record h))
  all_goals exact h.fireRefused_pin

theorem Reads.gpiEdge_pin (h : s.Reads (· = R.GPIO_LEVEL p) φ) : (s.gpiEdge p level).Reads (· = R.GPIO_LEVEL p) φ := by
  have hedge : ((s.set (R.GPIO_ACCEPTED p) (b2n level)).bump (R.GPIO_EDGES p) 1).Reads (· = R.GPIO_LEVEL p) φ :=
    (h.set_pin gpioLevel_apart_accepted.2).bump_pin (gpioLevel_apart (.inr ⟨Nat.zero_add _, by unfold R.GPIO_EDGES; dsimp only; omega⟩))
  have hfired {u : State} {k : Nat} (hu : u.Reads (· = R.GPIO_LEVEL p) φ) : (u.bump (R.GPIO_FIRED p) k).Reads (· = R.GPIO_LEVEL p) φ :=
    hu.bump_pin (gpioLevel_apart (.inr ⟨Nat.zero_add _, by unfold R.GPIO_FIRED; dsimp only; omega⟩))
  unfold State.gpiEdge
  refine Reads.event_pin (hfired ?_)
  dsimp only
  split
  · split
    · exact hedge
    · split
      · exact hedge
      · exact hedge.fire_pin
  · exact hedge

/-- A sample of an input pin shows its level, whatever its filter makes of it. -/
theorem pinSample_level (hc : canonical s.regs = true) (hserves : s.has (rstNow (p / 4)) = false) (hmode : byteAt (s.pinRec p) 1 = 1) :
    (s.pinSample p level).get (R.GPIO_LEVEL p) = b2n level := by
  have hlevel : b2n level < 2 ^ (R.GPIO_LEVEL p).width := by
    change b2n level < 2
    cases level <;> decide
  have hset : (s.set (R.GPIO_LEVEL p) (b2n level)).Reads (· = R.GPIO_LEVEL p) (Function.update s.get (R.GPIO_LEVEL p) (b2n level)) :=
    (Reads.of_canonical hc _).set_here le_rfl (by change 29 < 32; decide) (fun g hg hne => absurd hg hne) hlevel
  have hshown : (s.pinSample p level).Reads (· = R.GPIO_LEVEL p) (Function.update s.get (R.GPIO_LEVEL p) (b2n level)) := by
    unfold State.pinSample
    dsimp only
    rw [hserves, hmode, if_neg (by decide), if_neg (by decide)]
    exact .ite (.record hset) (.ite (.record hset) (Reads.gpiEdge_pin (.record hset)))
  exact (hshown.shows _ rfl).trans (Function.update_self ..)

/-- A sample that shows the accepted level counts no edge. -/
theorem pinSample_edges (hc : canonical s.regs = true) (hserves : s.has (rstNow (p / 4)) = false) (hmode : byteAt (s.pinRec p) 1 = 1)
    (hsame : s.has (R.GPIO_ACCEPTED p) = level) : (s.pinSample p level).get (R.GPIO_EDGES p) = s.get (R.GPIO_EDGES p) := by
  have haccepted : (s.set (R.GPIO_LEVEL p) (b2n level)).has (R.GPIO_ACCEPTED p) = level :=
    (congrArg (fun n => Decidable.decide (n = 1)) (get_set_apart hc gpioLevel_apart_accepted.1 _)).trans hsame
  have hedges : (R.GPIO_EDGES p).addr ≠ (R.GPIO_LEVEL p).addr := by
    unfold Fld.addr R.GPIO_EDGES R.GPIO_LEVEL
    dsimp only
    omega
  unfold State.pinSample
  dsimp only
  rw [hserves, hmode, if_neg (by decide), if_neg (by decide), if_pos haccepted]
  refine (get_of_regs ?_ _).trans (get_set_word (v := b2n level) hedges)
  rfl

end State

end

/-- Settles O59, by the table of the override's machine and the filter of a pin. -/
theorem pinsAndOverride : Obligations.PinsAndOverride := by
  refine ⟨fun t a b s hs hf => ⟨fun hoff => ?_, fun hon => ⟨?_, ?_, ?_⟩⟩, fun t levels s hs => ⟨?_, fun u p level hserves hmode => ⟨?_, ?_⟩⟩⟩
  · exact exec_evacSample_goes hs hf (State.evacMoved_of_disabled hoff)
  · rintro rfl rfl
    exact exec_evacSample_goes hs hf (State.evacMoved_of_agree hon)
  · rintro rfl rfl
    have hgoes {x : EvacSt} (h : s.probe.evac.onIdle s.evacDue = x) := exec_evacSample_goes hs hf ((State.evacMoved_of_idle (s := s.at_ t) hon).trans h)
    refine ⟨?_, fun hevac => hgoes ?_, fun hevac hn => hgoes ?_, fun hevac hn => hgoes ?_, fun hevac => hgoes ?_⟩
    · rintro (hevac | hevac) <;> exact hgoes (by rw [hevac]; rfl)
    · rw [hevac]
      rfl
    · rw [hevac, State.evacDue, decide_eq_false (Nat.not_le.mpr hn)]
      rfl
    · rw [hevac, State.evacDue, decide_eq_true hn]
      rfl
    · rw [hevac]
      rfl
  · rintro rfl
    have hgoes {x : EvacSt} (h : s.probe.evac.onDiscrepancy s.evacDue = x) :=
      exec_evacSample_goes hs hf ((State.evacMoved_of_discrepancy (s := s.at_ t) (a := a) hon).trans h)
    refine ⟨fun hevac => hgoes ?_, fun hevac hn => hgoes ?_, fun hevac hn => ⟨hgoes ?_, ?_⟩, ?_⟩
    · rw [hevac]
      rfl
    · rw [hevac, State.evacDue, decide_eq_false (Nat.not_le.mpr hn)]
      rfl
    · rw [hevac, State.evacDue, decide_eq_true hn]
      rfl
    · have hcan := (State.formed_iff.mp hf).1
      obtain ⟨hdisc, hbit⟩ := State.evacMoved_disc (s := s.at_ t) (a := a) hcan hon hevac (decide_eq_true hn)
      obtain ⟨s', hexec, hprobe, -, hflt⟩ := exec_evacSample_of_awake (t := t) (a := a) (b := a) hs hcan
      exact ⟨s', hexec, (congrArg Probe.disc hprobe).trans hdisc, (congrArg (fun n => decide (n = 1)) hflt).trans hbit⟩
    · rintro (hevac | hevac | hevac) <;> exact hgoes (by rw [hevac]; rfl)
  · change execGpiSample t levels s = _
    exact served_of_inService hs t _
  · exact fun hsame hform => State.pinSample_edges (State.formed_iff.mp hform).1 hserves hmode hsame
  · exact fun hform => State.pinSample_level (State.formed_iff.mp hform).1 hserves hmode

end Sys2Proof.Machine

/-! ## DMA channels -/

namespace Sys2Proof.Machine

/-! ### The registers of a channel -/

/-- The places in a channel's 64 bytes, the highest bit and the lowest of the registers of a channel (22 Table 22.9). -/
def dmaPlaces : List (Nat × Nat × Nat) :=
  [(0x0, 21, 0), (0x4, 1, 0), (0x8, 31, 30), (0x8, 29, 29), (0x8, 28, 28), (0x8, 21, 0), (0xc, 31, 0), (0x10, 31, 0), (0x14, 11, 9), (0x14, 8, 8),
    (0x14, 7, 0), (0x18, 21, 0), (0x1c, 31, 0), (0x20, 31, 0), (0x24, 31, 0)]

def Fld.place (g : Fld) : Nat × Nat × Nat := (g.off % 0x40, g.hi, g.lo)

/-- The registers of the channels. -/
def Fld.ofDma (g : Fld) : Prop := g.isl = 34 ∧ 0x10000 ≤ g.off ∧ g.off < 0x10400 ∧ g.place ∈ dmaPlaces

section
variable {s u : State} {φ : Fld → Nat} {f g : Fld} {v n resp typ addr : Nat} {c k : Fin 16} {t : Time} {w : Bool} {fail : Option DmaFail}

theorem Fld.ofDma_bits (hg : g.ofDma) : g.lo ≤ g.hi ∧ g.hi < 32 := by
  have hall : ∀ x ∈ dmaPlaces, x.2.2 ≤ x.2.1 ∧ x.2.1 < 32 := by decide
  obtain ⟨-, -, -, hplace⟩ := hg
  exact hall _ hplace

theorem Fld.ofDma_apart (hg : g.ofDma) (hf : f.ofDma) (hne : g ≠ f) : g.Apart f := by
  have hall : ∀ x ∈ dmaPlaces, ∀ y ∈ dmaPlaces, x ≠ y → x.1 = y.1 → y.2.1 < x.2.2 ∨ x.2.1 < y.2.2 := by decide
  have hgbits := Fld.ofDma_bits hg
  have hfbits := Fld.ofDma_bits hf
  obtain ⟨hgisl, -, hgoff, hgplace⟩ := hg
  obtain ⟨hfisl, -, hfoff, hfplace⟩ := hf
  refine Fld.Apart.of_bits hgbits.1 hfbits.1 hfbits.2 fun haddr => ?_
  have hoff : g.off = f.off := by
    unfold Fld.addr at haddr
    omega
  refine hall _ hgplace _ hfplace (fun hplace => hne ?_) (congrArg (· % 0x40) hoff)
  obtain ⟨-, hhi, hlo⟩ : g.off % 0x40 = f.off % 0x40 ∧ g.hi = f.hi ∧ g.lo = f.lo := by simpa only [Fld.place, Prod.mk.injEq] using hplace
  cases g
  cases f
  simp_all only

theorem Fld.ofDma_outside (hg : g.ofDma) : g.outside true = true := by
  obtain ⟨hisl, hlow, hhigh, -⟩ := hg
  rw [outside_iff]
  unfold R.SCP_EV_DROPPED R.LOG_DROPPED
  dsimp only
  omega

namespace State

theorem Reads.set_dma (h : s.Reads Fld.ofDma φ) (hf : f.ofDma) : (s.set f v).Reads Fld.ofDma (Fld.write φ f v) := by
  obtain ⟨hlo, hhi⟩ := Fld.ofDma_bits hf
  refine ⟨(Keeps.refl s).set.regs_ok h.canonical, fun g hg => ?_⟩
  obtain rfl | hne := eq_or_ne g f
  · rw [Fld.write_same, get_set_same h.canonical g hlo hhi]
  · rw [Fld.write_other hne, get_set_apart h.canonical (Fld.ofDma_apart hg hf hne), h.shows g hg]

/-- The matrix has its registers below those of the channels. -/
theorem Reads.set_matrix (h : s.Reads Fld.ofDma φ) (hf : f.isl = 34 ∧ f.off < 0x10000 := by decide) : (s.set f v).Reads Fld.ofDma φ :=
  h.set_beside fun g hg => by
    obtain ⟨hisl, hlow, -, -⟩ := hg
    unfold Fld.Apart Fld.addr
    omega

theorem Reads.err_matrix {cls : Nat} {acc : Acc} {lasts : Bool} {stop : Nat × Nat} (h : s.Reads Fld.ofDma φ) (hcls : cls < 3)
    (hf : f.isl = 34 ∧ f.off < 0x10000 := by decide) : (s.err f cls acc lasts stop).Reads Fld.ofDma φ := by
  have hleaves := err_leaves (s := s) (f := f) (show f.isl < 40 by omega) hcls acc lasts stop
  exact ⟨(Keeps.refl s).err.regs_ok h.canonical, fun g hg => (hleaves.get g (Fld.ofDma_outside hg)).trans ((h.set_matrix hf).shows g hg)⟩

/-- What the matrix records of a channel's response, whose master code is above the Spindle's own (01 Table 1.7). -/
theorem matrixResponse_class : (if 1 ≤ 0x10 + n && 0x10 + n ≤ 4 then 3 else 2) = 2 := by
  refine if_neg ?_
  rw [Bool.and_eq_true, decide_eq_true_iff, decide_eq_true_iff]
  omega

theorem Reads.matrixResponse (h : s.Reads Fld.ofDma φ) : (s.matrixResponse resp typ (0x10 + n) addr).Reads Fld.ofDma φ := by
  have hfirst : (if s.has R.MX_CAP_VALID then s
      else ((((((s.set R.MX_CAP_VALID 1).set R.MX_CAP_RESP resp).set R.MX_CAP_TYPE typ).set R.MX_CAP_MASTER (0x10 + n)).set R.MX_CAP_ADDR_LO addr).set
        R.MX_CAP_ADDR_HI (addr / 2 ^ 32))).Reads Fld.ofDma φ :=
    .ite h h.set_matrix.set_matrix.set_matrix.set_matrix.set_matrix.set_matrix
  have habort : ∀ {u : State}, u.Reads Fld.ofDma φ → (u.bump R.MX_ABORTS 1).Reads Fld.ofDma φ := fun hu => .ite hu hu.set_matrix
  unfold State.matrixResponse
  dsimp only
  rw [matrixResponse_class]
  exact .ite (hfirst.err_matrix (by decide)) (.ite (hfirst.err_matrix (by decide)) (.ite ((habort hfirst).err_matrix (by decide))
    (.ite (hfirst.err_matrix (by decide)) hfirst)))

theorem matrixResponse_core : (s.matrixResponse resp typ (0x10 + n) addr).core = s.core := by
  have hfirst : (if s.has R.MX_CAP_VALID then s
      else ((((((s.set R.MX_CAP_VALID 1).set R.MX_CAP_RESP resp).set R.MX_CAP_TYPE typ).set R.MX_CAP_MASTER (0x10 + n)).set R.MX_CAP_ADDR_LO addr).set
        R.MX_CAP_ADDR_HI (addr / 2 ^ 32))).core = s.core :=
    core_ite rfl (set_core.trans (set_core.trans (set_core.trans (set_core.trans (set_core.trans set_core)))))
  unfold State.matrixResponse
  dsimp only
  rw [matrixResponse_class]
  exact core_ite ((err_core (by decide)).trans hfirst) (core_ite ((err_core (by decide)).trans hfirst)
    (core_ite ((err_core (by decide)).trans (bump_core.trans hfirst)) (core_ite ((err_core (by decide)).trans hfirst) hfirst)))

theorem dma_of_core (h : u.core = s.core) (i : Nat) : u.dma i = s.dma i := congrArg (fun x : Core => lookD i x.spn.dma {}) h

/-! ### The fields of a channel -/

/-- The registers of a channel (22 Table 22.9). -/
def channelFields (c : Nat) : List Fld :=
  [R.DMA_DESC c, R.DMA_CMD c, R.DMA_STATE c, R.DMA_PENDING c, R.DMA_BARRIER c, R.DMA_CUR c, R.DMA_DONE c, R.DMA_ERR_ADDR_LO c, R.DMA_ERR_RESP c,
    R.DMA_ERR_DIR c, R.DMA_ERR_ADDR_HI c, R.DMA_ERR_DESC c, R.DMA_DESCS c, R.DMA_MISSED c, R.DMA_HALTS c]

theorem channelFields_ofDma (c : Fin 16) (hf : f ∈ channelFields c) : f.ofDma := by
  have hall : ∀ c : Fin 16, ∀ f ∈ channelFields c, f.isl = 34 ∧ 0x10000 ≤ f.off ∧ f.off < 0x10400 ∧ f.place ∈ dmaPlaces := by decide
  exact hall c f hf

theorem Reads.set_channel (h : s.Reads Fld.ofDma φ) (c : Fin 16)
    (hf : f ∈ channelFields c := by simp only [channelFields, List.mem_cons, true_or, or_true]) :
    (s.set f v).Reads Fld.ofDma (Fld.write φ f v) :=
  h.set_dma (channelFields_ofDma c hf)

theorem Reads.channel (h : s.Reads Fld.ofDma φ) (c : Fin 16)
    (hf : f ∈ channelFields c := by simp only [channelFields, List.mem_cons, true_or, or_true]) : s.get f = φ f :=
  h.shows f (channelFields_ofDma c hf)

theorem Reads.bump_channel (h : s.Reads Fld.ofDma φ) (c : Fin 16) (hn : φ f = n)
    (hf : f ∈ channelFields c := by simp only [channelFields, List.mem_cons, true_or, or_true]) :
    (s.bump f 1).Reads Fld.ofDma (Fld.write φ f (n + 1)) := by
  rw [bump, if_neg Nat.one_ne_zero, h.channel c hf, hn]
  exact h.set_channel c hf

/-- The writes of a halt in their order, up to what failed (22 R773). -/
def failWrites (c resp addr : Nat) : List (Fld × Nat) :=
  [(R.DMA_STATE c, 3), (R.DMA_PENDING c, 0), (R.DMA_BARRIER c, 0), (R.DMA_ERR_ADDR_LO c, addr), (R.DMA_ERR_ADDR_HI c, addr / 2 ^ 32),
    (R.DMA_ERR_RESP c, resp)]

/-- All writes of a halt. -/
def haltWrites (φ : Fld → Nat) (c resp addr : Nat) (w : Bool) : List (Fld × Nat) :=
  failWrites c resp addr ++ [(R.DMA_ERR_DIR c, b2n w), (R.DMA_ERR_DESC c, φ (R.DMA_CUR c)), (R.DMA_HALTS c, φ (R.DMA_HALTS c) + 1)]

/-- What a halt latches of the channel is none of what it has written. -/
theorem failWrites_unwritten (c : Fin 16) (hf : f ∈ [R.DMA_CUR c, R.DMA_HALTS c]) : f ∉ (failWrites c resp addr).map Prod.fst := by
  have hall : ∀ c : Fin 16, ∀ f ∈ [R.DMA_CUR c, R.DMA_HALTS c], f ∉ [R.DMA_STATE c, R.DMA_PENDING c, R.DMA_BARRIER c, R.DMA_ERR_ADDR_LO c,
    R.DMA_ERR_ADDR_HI c, R.DMA_ERR_RESP c] := by decide
  exact hall c f hf

theorem halts_ne_err (c : Fin 16) : R.DMA_HALTS c ≠ R.DMA_ERR_DESC c ∧ R.DMA_HALTS c ≠ R.DMA_ERR_DIR c := by
  revert c
  decide

theorem haltWrites_nodup (c : Fin 16) : ((haltWrites φ c resp addr w).map Prod.fst).Nodup := by
  have hall : ∀ c : Fin 16, [R.DMA_STATE c, R.DMA_PENDING c, R.DMA_BARRIER c, R.DMA_ERR_ADDR_LO c, R.DMA_ERR_ADDR_HI c, R.DMA_ERR_RESP c,
    R.DMA_ERR_DIR c, R.DMA_ERR_DESC c, R.DMA_HALTS c].Nodup := by decide
  exact hall c

theorem haltWrites_state (hne : k ≠ c) : R.DMA_STATE k ∉ (haltWrites φ c resp addr w).map Prod.fst := by
  have hall : ∀ c k : Fin 16, k ≠ c → R.DMA_STATE k ∉ [R.DMA_STATE c, R.DMA_PENDING c, R.DMA_BARRIER c, R.DMA_ERR_ADDR_LO c,
    R.DMA_ERR_ADDR_HI c, R.DMA_ERR_RESP c, R.DMA_ERR_DIR c, R.DMA_ERR_DESC c, R.DMA_HALTS c] := by decide
  exact hall c k hne

theorem Reads.dmaRest {st : Nat} (h : s.Reads Fld.ofDma φ) (c : Fin 16) :
    (s.dmaRest c st).Reads Fld.ofDma (Fld.write (Fld.write (Fld.write φ (R.DMA_STATE c) st) (R.DMA_PENDING c) 0) (R.DMA_BARRIER c) 0) := by
  have hset := ((h.set_channel c (f := R.DMA_STATE c) (v := st)).set_channel c (f := R.DMA_PENDING c) (v := 0)).set_channel c
    (f := R.DMA_BARRIER c) (v := 0)
  unfold State.dmaRest
  exact .record (.record hset)

theorem Reads.dmaHalt (h : s.Reads Fld.ofDma φ) (c : Fin 16) :
    (s.dmaHalt c resp addr w typ).Reads Fld.ofDma ((haltWrites φ c resp addr w).foldl (fun φ x => Fld.write φ x.1 x.2) φ) := by
  have hshown := (((h.dmaRest c (st := 3)).set_channel c (f := R.DMA_ERR_ADDR_LO c) (v := addr)).set_channel c (f := R.DMA_ERR_ADDR_HI c)
    (v := addr / 2 ^ 32)).set_channel c (f := R.DMA_ERR_RESP c) (v := resp)
  have hcur := (hshown.channel c (f := R.DMA_CUR c)).trans
    (Fld.foldl_write_of_unwritten (l := failWrites c resp addr) (failWrites_unwritten c (.head _)))
  have hdesc := (hshown.set_channel c (f := R.DMA_ERR_DIR c) (v := b2n w)).set_channel c (f := R.DMA_ERR_DESC c) (v := φ (R.DMA_CUR c))
  obtain ⟨hndesc, hndir⟩ := halts_ne_err c
  have hcount : Fld.write (Fld.write ((failWrites c resp addr).foldl (fun φ x => Fld.write φ x.1 x.2) φ) (R.DMA_ERR_DIR c) (b2n w)) (R.DMA_ERR_DESC c)
      (φ (R.DMA_CUR c)) (R.DMA_HALTS c) = φ (R.DMA_HALTS c) :=
    (Fld.write_other hndesc).trans ((Fld.write_other hndir).trans (Fld.foldl_write_of_unwritten (failWrites_unwritten c (.tail _ (.head _)))))
  have hhalts := hdesc.bump_channel (n := φ (R.DMA_HALTS c)) c hcount
  unfold State.dmaHalt
  dsimp only
  rw [hcur]
  exact .ite (.record hhalts) (Reads.matrixResponse (.record hhalts))

/-! ### The channels beside their registers -/

/-- A channel at rest holds nothing, and what it gathered is written. -/
def restChannel (s : State) (c : Nat) : State :=
  let s := { s with dram := s.dram.flush s.up c }
  s.setDma c { s.dma c with hold := [], chainDue := 0 }

theorem restChannel_dma_same {c : Nat} : (s.restChannel c).dma c = { s.dma c with hold := [], chainDue := 0 } := dma_setDma_same ..

theorem restChannel_dma_other {c j : Nat} (hne : j ≠ c) : (s.restChannel c).dma j = s.dma j := dma_setDma_other _ hne _

theorem dmaRest_eq {st c : Nat} :
    s.dmaRest c st = (((s.set (R.DMA_STATE c) st).set (R.DMA_PENDING c) 0).set (R.DMA_BARRIER c) 0).restChannel c := by
  unfold State.dmaRest restChannel
  rfl

theorem restWritten_dma {st c : Nat} (j : Nat) : (((s.set (R.DMA_STATE c) st).set (R.DMA_PENDING c) 0).set (R.DMA_BARRIER c) 0).dma j = s.dma j :=
  dma_of_core (set_core.trans (set_core.trans set_core)) j

theorem dmaRest_dma_same {st c : Nat} : (s.dmaRest c st).dma c = { s.dma c with hold := [], chainDue := 0 } := by
  rw [dmaRest_eq, restChannel_dma_same, restWritten_dma]

theorem dmaRest_dma_other {st c j : Nat} (hne : j ≠ c) : (s.dmaRest c st).dma j = s.dma j := by
  rw [dmaRest_eq, restChannel_dma_other hne, restWritten_dma]

/-- A halt ends in a state whose channels are those of the channel at rest, with its interrupt. -/
theorem dmaHalt_dma {c : Nat} (j : Nat) : ∃ v : State, (∀ i, v.dma i = (s.dmaRest c 3).dma i) ∧
    (s.dmaHalt c resp addr w typ).dma j = (v.setDma c { v.dma c with irq := (v.dma c).irq + 1 }).dma j := by
  unfold State.dmaHalt
  extract_lets a b d e
  refine ⟨d, fun i => dma_of_core ?_ i, ?_⟩
  · exact bump_core.trans (set_core.trans (set_core.trans (set_core.trans (set_core.trans set_core))))
  · split
    · rfl
    · exact dma_of_core matrixResponse_core j

theorem dmaHalt_dma_same {c : Nat} : ((s.dmaHalt c resp addr w typ).dma c).hold = [] ∧ ((s.dmaHalt c resp addr w typ).dma c).irq = (s.dma c).irq + 1 := by
  obtain ⟨v, hv, hdma⟩ := s.dmaHalt_dma (c := c) (resp := resp) (addr := addr) (w := w) (typ := typ) c
  rw [hdma, dma_setDma_same, hv, dmaRest_dma_same]
  exact ⟨rfl, rfl⟩

theorem dmaHalt_dma_other {c j : Nat} (hne : j ≠ c) : (s.dmaHalt c resp addr w typ).dma j = s.dma j := by
  obtain ⟨v, hv, hdma⟩ := s.dmaHalt_dma (c := c) (resp := resp) (addr := addr) (w := w) (typ := typ) j
  rw [hdma, dma_setDma_other _ hne, hv, dmaRest_dma_other hne]

end State

theorem exec_dmaHalt_of_running (hs : s.awake = true) (hrun : s.get (R.DMA_STATE c) = 1) {resp : Fin 6} (hresp : resp.val ≠ 0) :
    exec (.dmaHalt t c resp addr w) s = .next ((s.at_ t).dmaHalt c resp addr w (b2n w)) := by
  change execDmaHalt t c resp addr w s = _
  refine released_to hs (if_pos ?_)
  rw [Bool.and_eq_true, decide_eq_true_iff, decide_eq_true_iff]
  exact ⟨hrun, hresp⟩

end

/-- Settles O58, by the writes of a halt. -/
theorem failedTransactionHaltsChannel : Obligations.FailedTransactionHaltsChannel := by
  intro t c resp addr w s hs hf hrun hresp
  have hreads := (State.Reads.of_formed hf t Fld.ofDma).dmaHalt c (resp := resp) (addr := addr) (w := w) (typ := b2n w)
  have hshows {f : Fld} {v : Nat} (hw : (f, v) ∈ State.haltWrites s.get c resp addr w)
      (hf : f ∈ State.channelFields c := by simp only [State.channelFields, List.mem_cons, true_or, or_true]) :=
    (hreads.channel c hf).trans (Fld.foldl_write_of_mem (State.haltWrites_nodup c) hw)
  have hwidth : 2 ^ (R.DMA_ERR_DIR c).width = 2 ∧ 2 ^ (R.DMA_ERR_RESP c).width = 8 ∧ 2 ^ (R.DMA_ERR_DESC c).width = 2 ^ (R.DMA_CUR c).width :=
    ⟨rfl, rfl, rfl⟩
  obtain ⟨hdir, hrespWidth, hdesc⟩ := hwidth
  obtain ⟨hhold, hirq⟩ := (s.at_ t).dmaHalt_dma_same (c := c) (resp := resp) (addr := addr) (w := w) (typ := b2n w)
  refine ⟨_, exec_dmaHalt_of_running hs hrun hresp, hshows (v := 3) ?_, hhold, hshows (v := addr) ?_, hshows (v := addr / 2 ^ 32) ?_, ?_, ?_, ?_, hirq,
    fun k hk => ⟨?_, State.dmaHalt_dma_other (Fin.val_ne_of_ne hk)⟩⟩
  · exact .head _
  · exact .tail _ (.tail _ (.tail _ (.head _)))
  · exact .tail _ (.tail _ (.tail _ (.tail _ (.head _))))
  · refine (hshows (v := b2n w) (.tail _ (.tail _ (.tail _ (.tail _ (.tail _ (.tail _ (.head _)))))))).trans (Nat.mod_eq_of_lt ?_)
    rw [hdir]
    cases w <;> decide
  · refine (hshows (v := resp) (.tail _ (.tail _ (.tail _ (.tail _ (.tail _ (.head _))))))).trans (Nat.mod_eq_of_lt ?_)
    rw [hrespWidth]
    omega
  · refine (hshows (v := s.get (R.DMA_CUR c)) (.tail _ (.tail _ (.tail _ (.tail _ (.tail _ (.tail _ (.tail _ (.head _))))))))).trans
      (Nat.mod_eq_of_lt ?_)
    rw [hdesc]
    exact State.get_lt ..
  · exact (hreads.channel k (by simp only [State.channelFields, List.mem_cons, true_or, or_true])).trans (Fld.foldl_write_of_unwritten (State.haltWrites_state hk))

section
variable {s u : State} {φ : Fld → Nat} {v : Nat} {c k : Fin 16} {t : Time} {fail : Option DmaFail}

/-! ### Commands and events of a channel -/

theorem dmaState_ne : ∀ c k : Fin 16, ∀ f ∈ [R.DMA_CMD c, R.DMA_PENDING c, R.DMA_BARRIER c, R.DMA_DESCS c], R.DMA_STATE k ≠ f := by decide

theorem dmaState_ne_state (hne : k ≠ c) : R.DMA_STATE k ≠ R.DMA_STATE c := by
  revert c k
  decide

theorem dmaFields_ne (c : Fin 16) : R.DMA_DESC c ≠ R.DMA_CMD c ∧ R.DMA_PENDING c ≠ R.DMA_BARRIER c ∧
    ∀ f ∈ [R.DMA_STATE c, R.DMA_PENDING c, R.DMA_BARRIER c], R.DMA_DESCS c ≠ f := by
  revert c
  decide

namespace State

theorem commanded_reads (hf : s.formed = true) (t : Time) (c : Fin 16) (v : Nat) :
    ((s.at_ t).set (R.DMA_CMD c) v).Reads Fld.ofDma (Fld.write s.get (R.DMA_CMD c) v) :=
  (Reads.of_formed hf t Fld.ofDma).set_channel c

theorem commanded_state (hf : s.formed = true) (t : Time) (c k : Fin 16) (v : Nat) :
    ((s.at_ t).set (R.DMA_CMD c) v).get (R.DMA_STATE k) = s.get (R.DMA_STATE k) :=
  ((commanded_reads hf t c v).channel k).trans (Fld.write_other (dmaState_ne c k _ (.head _)))

/-- What the channels show of one at rest. -/
theorem Reads.rest_shows {st : Nat} (h : s.Reads Fld.ofDma φ) (c : Fin 16) :
    (s.dmaRest c st).get (R.DMA_STATE c) = st % 2 ^ 2 ∧ (s.dmaRest c st).get (R.DMA_PENDING c) = 0 ∧
      (s.dmaRest c st).get (R.DMA_DESCS c) = φ (R.DMA_DESCS c) ∧ ∀ k : Fin 16, k ≠ c → (s.dmaRest c st).get (R.DMA_STATE k) = φ (R.DMA_STATE k) := by
  have hrest := h.dmaRest c (st := st)
  obtain ⟨-, hpending, hdescs⟩ := dmaFields_ne c
  have hbarrier (k : Fin 16) : R.DMA_STATE k ≠ R.DMA_BARRIER c := dmaState_ne c k _ (.tail _ (.tail _ (.head _)))
  have hpend (k : Fin 16) : R.DMA_STATE k ≠ R.DMA_PENDING c := dmaState_ne c k _ (.tail _ (.head _))
  refine ⟨?_, ?_, ?_, fun k hk => ?_⟩
  · rw [hrest.channel c, Fld.write_other (hbarrier c), Fld.write_other (hpend c), Fld.write_same]
    rfl
  · rw [hrest.channel c, Fld.write_other hpending, Fld.write_same, Nat.zero_mod]
  · rw [hrest.channel c, Fld.write_other (hdescs _ (.tail _ (.tail _ (.head _)))), Fld.write_other (hdescs _ (.tail _ (.head _))),
      Fld.write_other (hdescs _ (.head _))]
  · rw [hrest.channel k, Fld.write_other (hbarrier k), Fld.write_other (hpend k), Fld.write_other (dmaState_ne_state hk)]

theorem notify_regs : (s.notify c).regs = s.regs := by
  unfold State.notify
  refine List.foldlRecOn (motive := fun u : State => u.regs = s.regs) _ _ rfl fun u hu x _ => ?_
  dsimp only
  split
  · exact hu
  · exact hu

/-- 22 R771: the last descriptor of a chain is counted, and its channel comes to rest. -/
theorem dmaDone_of_last (hrun : u.get (R.DMA_STATE c) = 1) (hdone : u.get (R.DMA_DONE c) = (u.desc c).len) (hcur : (u.dma c).cur ≠ [])
    (hlast : (u.desc c).last = true) :
    ∃ v : State, v.regs = ((u.set (R.DMA_BARRIER c) 0).bump (R.DMA_DESCS c) 1).regs ∧ u.dmaDone c fail = v.dmaRest c 0 := by
  have hgo : ¬(Decidable.decide (u.get (R.DMA_STATE c) ≠ 1) || Decidable.decide (u.get (R.DMA_DONE c) ≠ (u.desc c).len) ||
      Decidable.decide ((u.dma c).cur = [])) = true := by
    rw [Bool.or_eq_true, Bool.or_eq_true, decide_eq_true_iff, decide_eq_true_iff, decide_eq_true_iff]
    exact fun hnot => hnot.elim (Or.rec (fun hstate => hstate hrun) fun hlen => hlen hdone) hcur
  have hnotify {x : Bool} {e : State} : (if x then e.notify c else e).regs = e.regs := by
    split
    · exact notify_regs
    · rfl
  have hirq {x : Bool} {e : State} {y : Dma} : (if x then e.setDma c y else e).regs = e.regs := by
    split <;> rfl
  exact ⟨_, hnotify.trans hirq, (if_neg hgo).trans (if_pos hlast)⟩

theorem dmaDone_last (hf : s.formed = true) (hrun : s.get (R.DMA_STATE c) = 1) (hdone : s.get (R.DMA_DONE c) = (s.desc c).len)
    (hcur : (s.dma c).cur ≠ []) (hlast : (s.desc c).last = true) :
    ((s.at_ t).dmaDone c fail).get (R.DMA_STATE c) = 0 ∧
      ((s.at_ t).dmaDone c fail).get (R.DMA_DESCS c) = (s.get (R.DMA_DESCS c) + 1) % 2 ^ (R.DMA_DESCS c).width := by
  obtain ⟨-, -, hdescs⟩ := dmaFields_ne c
  have hcounted := ((Reads.of_formed hf t Fld.ofDma).set_channel c (f := R.DMA_BARRIER c) (v := 0)).bump_channel (f := R.DMA_DESCS c)
    (n := s.get (R.DMA_DESCS c)) c (Fld.write_other (hdescs _ (.tail _ (.tail _ (.head _)))))
  obtain ⟨v, hregs, hdone⟩ := dmaDone_of_last (u := s.at_ t) (fail := fail) hrun hdone hcur hlast
  obtain ⟨hstate, -, hcount, -⟩ := (hcounted.of_regs hregs).rest_shows c (st := 0)
  rw [hdone]
  exact ⟨hstate, hcount.trans Fld.write_same⟩

end State

theorem exec_dmaCmdGo_of_rest (hs : s.awake = true) (hf : s.formed = true) (hrest : s.get (R.DMA_STATE c) = 0 ∨ s.get (R.DMA_STATE c) = 3) :
    exec (.dmaCmdGo t c fail) s =
      .next ((((s.at_ t).set (R.DMA_CMD c) 1).dmaRest c 1).dmaFetch c (s.get (R.DMA_DESC c)) fail) := by
  have hdesc : ((s.at_ t).set (R.DMA_CMD c) 1).get (R.DMA_DESC c) = s.get (R.DMA_DESC c) :=
    ((State.commanded_reads hf t c 1).channel c (.head _)).trans (Fld.write_other (dmaFields_ne c).1)
  change execDmaCmdGo t c fail s = _
  refine released_to hs ?_
  unfold State.dmaGo
  dsimp only
  rw [State.commanded_state hf, hdesc]
  refine if_pos ?_
  rw [Bool.or_eq_true, decide_eq_true_iff, decide_eq_true_iff]
  exact hrest

theorem exec_dmaCmdGo_of_work (hs : s.awake = true) (hf : s.formed = true) (hwork : s.get (R.DMA_STATE c) = 1 ∨ s.get (R.DMA_STATE c) = 2) :
    exec (.dmaCmdGo t c fail) s = .next ((s.at_ t).set (R.DMA_CMD c) 1) := by
  change execDmaCmdGo t c fail s = _
  refine released_to hs ?_
  unfold State.dmaGo
  dsimp only
  rw [State.commanded_state hf]
  refine if_neg ?_
  rw [Bool.or_eq_true, decide_eq_true_iff, decide_eq_true_iff]
  omega

theorem exec_dmaCmdStop_of_work (hs : s.awake = true) (hf : s.formed = true) (hwork : s.get (R.DMA_STATE c) = 1 ∨ s.get (R.DMA_STATE c) = 2) :
    exec (.dmaCmdStop t c) s = .next (((s.at_ t).set (R.DMA_CMD c) 2).dmaRest c 0) := by
  change execDmaCmdStop t c s = _
  refine released_to hs ?_
  unfold State.dmaStop
  dsimp only
  rw [State.commanded_state hf]
  refine if_pos ?_
  rw [Bool.or_eq_true, decide_eq_true_iff, decide_eq_true_iff]
  exact hwork

theorem exec_dmaCmdStop_of_rest (hs : s.awake = true) (hf : s.formed = true) (hrest : s.get (R.DMA_STATE c) = 0 ∨ s.get (R.DMA_STATE c) = 3) :
    exec (.dmaCmdStop t c) s = .next ((s.at_ t).set (R.DMA_CMD c) 2) := by
  change execDmaCmdStop t c s = _
  refine released_to hs ?_
  unfold State.dmaStop
  dsimp only
  rw [State.commanded_state hf]
  refine if_neg ?_
  rw [Bool.or_eq_true, decide_eq_true_iff, decide_eq_true_iff]
  omega

theorem exec_dmaDescriptorDone_of_awake (hs : s.awake = true) : exec (.dmaDescriptorDone t c fail) s = .next ((s.at_ t).dmaDone c fail) := by
  change execDmaDescriptorDone t c fail s = _
  exact released_of_awake hs t _

theorem exec_dmaTimerEvent_of_due (hs : s.awake = true) (htrig : (s.desc c).trig = 1) (hdue : t % ((s.desc c).period * 1000) = 0) :
    exec (.dmaTimerEvent t c fail) s = .next ((s.at_ t).dmaEvent c fail) := by
  change execDmaTimerEvent t c fail s = _
  refine released_to hs (if_pos ?_)
  rw [Bool.and_eq_true, decide_eq_true_iff, decide_eq_true_iff]
  exact ⟨htrig, hdue⟩

theorem exec_dmaTimerEvent_of_other (hs : s.awake = true) (htrig : (s.desc c).trig ≠ 1) : exec (.dmaTimerEvent t c fail) s = .next (s.at_ t) := by
  change execDmaTimerEvent t c fail s = _
  refine released_to hs (if_neg ?_)
  rw [Bool.and_eq_true, decide_eq_true_iff]
  exact fun hnot => htrig hnot.1

theorem exec_dmaChainEvent_of_due (hs : s.awake = true) (hdue : (s.dma c).chainDue ≠ 0) : exec (.dmaChainEvent t c fail) s =
    .next (((s.at_ t).setDma c { s.dma c with chainDue := (s.dma c).chainDue - 1 }).dmaEvent c fail) := by
  change execDmaChainEvent t c fail s = _
  exact released_to hs (if_neg hdue)

theorem exec_dmaChainEvent_of_none (hs : s.awake = true) (hnone : (s.dma c).chainDue = 0) : exec (.dmaChainEvent t c fail) s = .next (s.at_ t) := by
  change execDmaChainEvent t c fail s = _
  exact released_to hs (if_pos hnone)

/-- 22 R770: the event of a channel that still moves a block waits its turn. -/
theorem dmaEvent_of_busy (hrun : u.get (R.DMA_STATE c) = 1) (hfree : u.has (R.DMA_PENDING c) = false) :
    u.dmaEvent c fail = u.set (R.DMA_PENDING c) 1 := by
  have hwait : u.get (R.DMA_STATE c) ≠ 2 := by omega
  unfold State.dmaEvent
  exact (if_neg hwait).trans ((if_neg (not_not_intro hrun)).trans (if_neg (Bool.eq_false_iff.mp hfree)))

end

/-- Settles O57, by the state of the channel at each command and event. -/
theorem dmaChannelStates : Obligations.DmaChannelStates := by
  intro t c fail s hs hf
  refine ⟨exec_dmaCmdGo_of_rest hs hf, exec_dmaCmdGo_of_work hs hf, fun hwork => ⟨_, exec_dmaCmdStop_of_work hs hf hwork, ?_⟩,
    exec_dmaCmdStop_of_rest hs hf, fun hrun hdone hcur => ⟨exec_dmaDescriptorDone_of_awake hs, fun hlast => State.dmaDone_last hf hrun hdone hcur hlast⟩,
    exec_dmaTimerEvent_of_due hs, exec_dmaTimerEvent_of_other hs, exec_dmaChainEvent_of_due hs, exec_dmaChainEvent_of_none hs, dmaEvent_of_busy (u := s.at_ t)⟩
  obtain ⟨hstate, hpending, -, hothers⟩ := (State.commanded_reads hf t c 2).rest_shows c (st := 0)
  refine ⟨hstate, hpending, fun k hk => (hothers k hk).trans (Fld.write_other (dmaState_ne c k _ (.head _)))⟩

end Sys2Proof.Machine

/-! ## The commands that complete

Each event below changes what its guard lets it change; the guard is the first thing that its meaning asks. -/

namespace Sys2Proof.Machine

section
variable {s : State} {t : Time} (hs : s.awake = true)
include hs

/-! ### Timers of flows and ports -/

theorem exec_mergeHoleTimeout_of_live {flow : Fin 8192} (hlive : s.has (rstNow (s.flow flow).cluster) = false) :
    exec (.mergeHoleTimeout t flow) s = .next ((s.at_ t).expireHoles flow).payAll := by
  change execMergeHoleTimeout t flow s = _
  exact released_to hs (if_neg (Bool.eq_false_iff.mp hlive))

/-- 06 R233: a leg without a packet for 10 ms is down, and a flow without a leg ends. -/
theorem exec_legDown_of_due {flow : Fin 8192} {leg : Fin 2} {l : InLeg} (hleg : (s.flow flow).legs[leg.val]? = some l) (hjoined : (s.flow flow).joined = true)
    (hlive : s.has (rstNow (s.flow flow).cluster) = false) (hup : l.down = false) (hdue : l.lastRx + 10 * ms ≤ (s.at_ t).up) :
    let v := (s.at_ t).setFlow flow (((s.at_ t).flow flow).setLeg leg (fun l => { l with down := true }))
    exec (.legDown t flow leg) s = .next
      ((if (v.flow flow).legs.all (·.down) then (v.flowAbandon flow).flowStops flow else v).flowChecks flow ((s.at_ t).curChecks flow)).payAll := by
  intro v
  have hguard : ((s.flow flow).joined && !s.has (rstNow (s.flow flow).cluster) && !l.down && Decidable.decide (l.lastRx + 10 * ms ≤ (s.at_ t).up)) = true := by
    rw [hjoined, hlive, hup, decide_eq_true hdue]
    rfl
  change execLegDown t flow leg s = _
  refine released_to hs ?_
  dsimp only
  rw [show ((s.at_ t).flow flow).legs[leg.val]? = some l from hleg]
  exact if_pos hguard

theorem exec_idleReleaseExpiry_of_due {flow : Fin 8192} {leg : Fin 2} {l : InLeg} {v : List Byte} (hleg : (s.flow flow).legs[leg.val]? = some l)
    (hrec : s.flowIn flow = some v) (hidle : leAt v 8 2 ≠ 0) (howner : l.owner.isSome = true) (hdue : l.ownerAt + leAt v 8 2 * ms ≤ (s.at_ t).up) :
    exec (.idleReleaseExpiry t flow leg) s = .next ((s.at_ t).ownLeg flow leg none) := by
  have hguard : (Decidable.decide (leAt v 8 2 ≠ 0) && l.owner.isSome && Decidable.decide (l.ownerAt + leAt v 8 2 * ms ≤ (s.at_ t).up)) = true := by
    rw [decide_eq_true hidle, howner, decide_eq_true hdue]
    rfl
  change execIdleReleaseExpiry t flow leg s = _
  refine released_to hs ?_
  rw [show ((s.at_ t).flow flow).legs[leg.val]? = some l from hleg, show (s.at_ t).flowIn flow = some v from hrec]
  exact if_pos hguard

/-- 07 R285: a queue that stays paused for the watchdog's time goes on, and its pauses are ignored. -/
theorem exec_pauseWatchdog_of_due {p : Fin 256} {q : Fin 8} {f : Time} (hpaused : look q.val (((s.at_ t).pausesEnd p).port p).pauseFrom = some f)
    (hbit : bit (((s.at_ t).pausesEnd p).get (R.PORT_QPAUSED p)) q = true)
    (hdue : f + ((s.at_ t).pausesEnd p).watchdog p ≤ ((s.at_ t).pausesEnd p).now) :
    let x := (((s.at_ t).pausesEnd p).resume p q).bump (R.PORT_PAUSE_WD p) 1
    let w := x.setPort p { x.port p with lastPause := put q.val x.now (x.port p).lastPause }
    exec (.pauseWatchdog t p q) s =
      .next ((w.set (R.PORT_QIGNORE p) (w.get (R.PORT_QIGNORE p) ||| 2 ^ q.val)).event (portIsland p) 1 0x0304 (beBytes 2 p ++ beBytes 1 q)) := by
  intro x w
  change execPauseWatchdog t p q s = _
  refine released_to hs ?_
  dsimp only
  rw [hpaused]
  exact if_pos (by rw [hbit, decide_eq_true hdue]; rfl)

theorem exec_qignoreEnd_of_due {p : Fin 256} {q : Fin 8} (hignored : bit (s.get (R.PORT_QIGNORE p)) q = true)
    (hdue : lookD q.val (s.port p).lastPause 0 + s.watchdog p ≤ t) :
    exec (.qignoreEnd t p q) s = .next ((s.at_ t).set (R.PORT_QIGNORE p) ((s.at_ t).get (R.PORT_QIGNORE p) &&& (255 - 2 ^ q.val))) := by
  change execQignoreEnd t p q s = _
  refine released_to hs (if_pos ?_)
  rw [Bool.and_eq_true, decide_eq_true_iff]
  exact ⟨hignored, hdue⟩

theorem exec_counterHalf_of_half {k : Fin 258} {i : Fin 16} (hhalf : 2 ^ 31 ≤ s.get (portCounter k i)) :
    exec (.counterHalf t k i) s = .next ((s.at_ t).readCounter k i) := by
  change execCounterHalf t k i s = _
  exact released_to hs (if_pos hhalf)

/-! ### Errors of islands, and the temperature -/

section
variable {isl : Fin 40}

theorem exec_currentBitExpiry_of_live (hlive : s.has (rstNow isl) = false) : exec (.currentBitExpiry t isl) s = .next
    { s.at_ t with flt.conds := s.flt.conds.filter (fun c => !(c.isl = isl && oneShot c.tag && c.at_ + ms ≤ (s.at_ t).up)) } := by
  change execCurrentBitExpiry t isl s = _
  exact released_to hs (if_neg (Bool.eq_false_iff.mp hlive))

theorem exec_islandError_of_bit {off : Nat} {k : Fin 32} {cls : Fin 4} (haccess : accessOf ⟨isl, off, k, k⟩ = some .w1c) :
    exec (.islandError t isl off k cls 0) s = .next
      (((((s.at_ t).bump (R.FLT_EVQ_DROP isl) 0).errorEffect ⟨isl, off, k, k⟩).set ⟨isl, off, k, k⟩ 1).islandError ⟨isl, off, k, k⟩ cls) := by
  change execIslandError t isl off k cls 0 s = _
  refine released_to hs ((if_neg (not_not_intro haccess)).trans ?_)
  dsimp only
  rw [if_pos rfl]

theorem exec_tempSample_of_awake {readings : List (Option Int)} : exec (.tempSample t readings) s = .next ((s.at_ t).temperature readings) := by
  have hstatus : 5 ≤ s.get R.BOOT_STAT_STATUS := by
    unfold State.awake at hs
    rw [Bool.and_eq_true, decide_eq_true_iff] at hs
    exact hs.2
  change execTempSample t readings s = _
  rw [execTempSample, live_of_awake hs, State.at_get, if_pos hstatus]

theorem exec_transactionTimeout_of_handshake {off master typ : Nat} {f : Fld} (hlive : s.has (rstNow isl) = false) (hf : hsTimeout isl off = some f) :
    exec (.transactionTimeout t isl off master typ) s = .next
      (((s.at_ t).matrixResponse 5 typ master (0x4000000000 + isl.val * 0x100000 + off)).handshakeLost f { typ := 3, master := master, addr := 0 }) := by
  change execTransactionTimeout t isl off master typ s = _
  refine released_to hs ((if_neg (Bool.eq_false_iff.mp hlive)).trans ?_)
  rw [hf]

end

end

/-! ### The frames of the doubling link -/

section
variable {s : State} {k n off : Nat} {clear : Bool} {data : List Byte}

theorem bankClear_dbl : (s.bankClear k n).dbl = s.dbl := rfl

theorem bankWrite_dbl : (s.bankWrite k n off data).dbl = s.dbl := by
  unfold State.bankWrite
  split <;> rfl

/-- 15 R581: a write of a hidden bank leaves the pair. -/
theorem hiddenWrite_dbl : (s.hiddenWrite k off clear data).dbl = s.dbl := by
  unfold State.hiddenWrite
  dsimp only
  rw [State.setBanks_dbl, bankWrite_dbl]
  split
  · exact bankClear_dbl
  · rfl

end

section
variable {s : State} {t close : Time} {h : DblHead} (hs : s.inService = true) (hgood : h.good = true) (hup : s.dbl.linkUp = true)

theorem serving_of_inService (hs : s.inService = true) : s.serving = true := by
  unfold State.inService at hs
  exact (Bool.and_eq_true_iff.mp hs).2

/-- A chip whose doubling link is up, and that serves, is not turned away. -/
theorem link_guard (hs : s.inService = true) (hup : s.dbl.linkUp = true) : ¬(!(s.at_ t).dbl.linkUp || !(s.at_ t).serving) = true := by
  rw [show (s.at_ t).dbl.linkUp = true from hup, show (s.at_ t).serving = true from serving_of_inService hs]
  exact Bool.false_ne_true

include hs hgood hup

theorem exec_dblCopy_of_standby {effs : List Eff} (hrole : s.dbl.role = .standby) :
    exec (.dblCopy t h close effs true true) s = .next ((s.at_ t).confirmCopy effs close) := by
  change execDblCopy t h close effs true true s = _
  refine (dblFrame_of_good (State.awake_of_inService hs) hgood _).trans (congrArg Host.Outcome.next ((if_neg (link_guard hs hup)).trans ?_))
  rw [show (s.at_ t).dbl.role = .standby from hrole]
  rfl

theorem exec_dblConfirm_of_bulk {k : Nat} {r : Reply} {l : List (Nat × Reply)} (hbulks : s.dbl.bulks = (k, r) :: l) :
    exec (.dblConfirm t h 0) s = .next (State.reply { s.at_ t with dbl.bulks := l } r) := by
  have hlink : ¬(!(s.at_ t).dbl.linkUp) = true := by
    rw [show (s.at_ t).dbl.linkUp = true from hup]
    exact Bool.false_ne_true
  change execDblConfirm t h 0 s = _
  refine (dblFrame_of_good (State.awake_of_inService hs) hgood _).trans (congrArg Host.Outcome.next ((if_neg hlink).trans ((if_pos rfl).trans ?_)))
  rw [show (s.at_ t).dbl.bulks = (k, r) :: l from hbulks]

theorem exec_dblNack_of_first {c : HeldCopy} (hheld : s.dbl.held = some c) (hfirst : c.tries = 1) : exec (.dblNack t h c.close) s = .next
    (State.dblData { (s.at_ t).bump R.DBL_COPY_RETRY 1 with dbl.held := some { c with tries := 2 } } (32 + total (c.effs.map Eff.size))
      (.dblCopy c.close c.effs)) := by
  change execDblNack t h c.close s = _
  refine (dblFrame_of_good (State.awake_of_inService hs) hgood _).trans (congrArg Host.Outcome.next ?_)
  rw [show (s.at_ t).dbl.held = some c from hheld]
  refine if_pos ?_
  rw [show (s.at_ t).dbl.linkUp = true from hup, hfirst, decide_eq_true rfl]
  rfl

theorem exec_dblBeat_of_none : exec (.dblBeat t h none) s = .next ((s.at_ t).twinSays h) := by
  have hlink : ¬(!(s.at_ t).dbl.linkUp) = true := by
    rw [show (s.at_ t).dbl.linkUp = true from hup]
    exact Bool.false_ne_true
  change execDblBeat t h none s = _
  exact (dblFrame_of_good (State.awake_of_inService hs) hgood _).trans (congrArg Host.Outcome.next (if_neg hlink))

theorem exec_dblBulk_of_joining {key off n : Nat} {clear : Bool} {data : List Byte} (hrole : s.dbl.role = .joining) (hsize : s.bankSize key = some n)
    (hfits : off + data.length ≤ n) : exec (.dblBulk t h key off clear data) s = .next ((s.at_ t).hiddenWrite key off clear data) := by
  have hguard : (s.dbl.linkUp && (Decidable.decide (s.dbl.role = .standby) || Decidable.decide (s.dbl.role = .joining)) &&
      (s.bankSize key).any (fun n => off + data.length ≤ n)) = true := by
    rw [hup, hrole, hsize, Option.any_some, decide_eq_true hfits]
    rfl
  have hkept : ((s.at_ t).hiddenWrite key off clear data).dbl.role = s.dbl.role := congrArg Dbl.role hiddenWrite_dbl
  change execDblBulk t h key off clear data s = _
  refine (dblFrame_of_good (State.awake_of_inService hs) hgood _).trans (congrArg Host.Outcome.next ((if_pos hguard).trans (if_neg ?_)))
  rw [hkept, hrole]
  decide

theorem exec_dblHandoff_datagram : exec (.dblHandoff t h .datagram) s = .next ((s.at_ t).bump R.DBL_HANDOFFS 1) := by
  change execDblHandoff t h .datagram s = _
  exact (dblFrame_of_good (State.awake_of_inService hs) hgood _).trans (congrArg Host.Outcome.next (if_neg (link_guard hs hup)))

omit hup in
/-- 14 R541: a standby takes control from a twin that yields, in the role that the twin's own allows. -/
theorem exec_dblYield_of_standby (hrole : s.dbl.role = .standby) : exec (.dblYield t h) s = .next
    (State.takeControl { s.at_ t with dbl.twinRole := h.role % 8, dbl.twinF3 := h.f3 } (if h.role = 1 ∨ h.role = 2 then .active else .solo) true) := by
  have hnext : (if (Decidable.decide (h.role = 1) || Decidable.decide (h.role = 2)) = true then Role.active else .solo) =
      if h.role = 1 ∨ h.role = 2 then .active else .solo := by
    simp only [Bool.or_eq_true, decide_eq_true_iff]
  rw [← hnext]
  change execDblYield t h s = _
  exact (dblFrame_of_good (State.awake_of_inService hs) hgood _).trans (congrArg Host.Outcome.next (if_pos hrole))

end

section
variable {s : State} {t : Time}

theorem exec_dblBeatSend_of_up (hs : s.awake = true) (hup : s.dbl.linkUp = true) : exec (.dblBeatSend t) s = .next ((s.at_ t).dblSend 2 0 []) := by
  change execDblBeatSend t s = _
  exact released_to hs (if_pos hup)

theorem exec_claim_of_other {port pair : Nat} (hs : s.inService = true) (hup : s.dbl.linkUp = true) (hpair : pair ≠ s.pairNo) :
    exec (.claim t port pair) s = .next ((s.at_ t).emit (.handClaim port pair)) := by
  change execClaim t port pair s = _
  exact served_to hs ((if_neg hpair).trans (if_pos hup))

/-! ### The resets of SPN and BOOT -/

theorem exec_spnReset_of_reset {good : Bool} (hs : s.inService = true) (hreset : s.has (rstNow 34) = true) :
    exec (.spnReset t good) s = .next ((s.at_ t).spnUp good) := by
  change execSpnReset t good s = _
  exact served_to hs (if_pos hreset)

theorem exec_spnReset_of_live {good : Bool} (hs : s.inService = true) (hlive : s.has (rstNow 34) = false) :
    exec (.spnReset t good) s = .next ((s.at_ t).spnDown.spnUp good) := by
  change execSpnReset t good s = _
  exact served_to hs (if_neg (Bool.eq_false_iff.mp hlive))

theorem exec_bootReset_of_live (hs : s.inService = true) (hlive : s.has (rstNow 39) = false) : exec (.bootReset t) s = .next
    (((s.at_ t).beginReset 39).bootDown.raise 39 2 0x0704 tagBootReset [] { typ := 3, master := 0x40 + 39 }) := by
  change execBootReset t s = _
  exact served_to hs (if_neg (Bool.eq_false_iff.mp hlive))

end

end Sys2Proof.Machine

/-! ## The doubling link, the pins and the cores -/

namespace Sys2Proof.Machine

section
variable {s u : State} {f : Fld} {n v p isl code id : Nat} {detail : List Byte} {r : Role} {m : Out} {d : Dbl}

namespace State

/-! ### What leaves the doubling link up

`duo` is the state of the pair but for the sequence number and the requests that wait; what only sends leaves it. -/

theorem duo_linkUp : s.duo.linkUp = s.dbl.linkUp := rfl

theorem linkUp_of_duo (h : u.duo = s.duo) : u.dbl.linkUp = s.dbl.linkUp := duo_linkUp.symm.trans ((congrArg Dbl.linkUp h).trans duo_linkUp)

theorem setSess_duo {op : Session → Session} : (s.setSess id op).duo = s.duo := sicp_duo

theorem sendEth_duo {o : EthOut} : (s.sendEth p o).duo = s.duo := by
  unfold sendEth
  refine duo_ite ?_ bump_duo
  exact duo_of_core (emit_core.trans (bump64_core.trans (bump_core.trans rfl)))

theorem announce_duo : s.announce.duo = s.duo := sendEth_duo.trans sendEth_duo

theorem endSession_duo : (s.endSession id).duo = s.duo := by
  unfold endSession
  split
  · rfl
  · exact sessShow_duo.trans (duo_ite (stageDiscard_duo.trans rfl) rfl)

theorem recheck_duo : s.recheck.duo = s.duo := by
  unfold recheck
  refine duo_foldl fun u c => ?_
  split
  · exact sendVia_duo.trans endSession_duo
  · split
    · exact sendVia_duo.trans endSession_duo
    · exact setSess_duo

theorem reply_duo {x : Reply} : (s.reply x).duo = s.duo := by
  unfold reply
  split
  · rfl
  · exact sendVia_duo.trans setSess_duo

theorem bulkDone_duo : s.bulkDone.duo = s.duo := by
  unfold bulkDone
  exact duo_foldl_mem rfl fun _ _ => reply_duo

theorem sendUnits_duo : (s.sendUnits p n).duo = s.duo := by
  have hcount : ((s.strandRun p).bump (R.PORT_STR_CTRL_TX p) n).duo = s.duo := bump_duo.trans rfl
  exact hcount

theorem sendMsg_duo {x : SkMsg} : (s.sendMsg x).duo = s.duo := by
  unfold sendMsg
  dsimp only
  split
  · exact duo_ite rfl rfl
  · exact duo_ite (sendUnits_duo) sendUnits_duo

theorem confirm_duo {effs : List Eff} {replies : List Reply} : (s.confirm effs replies).duo = s.duo := by
  have hreplied : (replies.foldl (fun (s : State) r => s.reply r) s.armAll).duo = s.duo := duo_foldl_mem rfl fun _ _ => reply_duo
  unfold confirm
  refine duo_foldl_mem hreplied fun u e => ?_
  split
  · exact sendMsg_duo.trans rfl
  · rfl

/-! ### The link itself -/

/-- A change of the pair that leaves the link. -/
theorem linkUp_pair {x : Dbl} (h : x.linkUp = s.dbl.linkUp) : (State.dbl { s with dbl := x }).linkUp = s.dbl.linkUp := h

theorem setRole_linkUp : (s.setRole r).dbl.linkUp = s.dbl.linkUp := by
  by_cases hsame : s.dbl.role = r
  · rw [setRole_same hsame]
  · exact duo_linkUp.symm.trans ((congrArg Dbl.linkUp (setRole_duo hsame)).trans rfl)

theorem countYield_linkUp : s.countYield.dbl.linkUp = s.dbl.linkUp := by
  unfold countYield
  exact (linkUp_pair (s := s.bump R.DBL_YIELDS 1) (congrArg Dbl.linkUp rfl)).trans (linkUp_of_core bump_core)

theorem takeControl_linkUp {advance : Bool} : (s.takeControl r advance).dbl.linkUp = s.dbl.linkUp := by
  unfold takeControl
  extract_lets v dbl w sicp x
  have hv : v.dbl.linkUp = s.dbl.linkUp := (linkUp_of_core bump_core).trans setRole_linkUp
  have hx : x.dbl.linkUp = v.dbl.linkUp := by
    clear_value v
    unfold x
    split <;> rfl
  exact (linkUp_of_duo (announce_duo.trans recheck_duo)).trans (hx.trans hv)

theorem roleFromOff_linkUp : s.roleFromOff.dbl.linkUp = s.dbl.linkUp := by
  unfold roleFromOff
  split
  · exact setRole_linkUp
  · split
    · exact setRole_linkUp
    · rfl

theorem quietLater_linkUp : s.quietLater.dbl.linkUp = s.dbl.linkUp := rfl

theorem dropUnarmed_linkUp : s.dropUnarmed.dbl.linkUp = s.dbl.linkUp := rfl

theorem detach_linkUp : s.detach.dbl.linkUp = s.dbl.linkUp := by
  unfold detach
  extract_lets v x y
  have hv : v.dbl.linkUp = s.dbl.linkUp := dropUnarmed_linkUp.trans (quietLater_linkUp.trans (countYield_linkUp.trans setRole_linkUp))
  unfold x y
  clear_value v
  exact hv

theorem alone_linkUp : s.alone.dbl.linkUp = s.dbl.linkUp := by
  unfold alone
  split
  · exact (linkUp_of_duo confirm_duo).trans rfl
  · rfl

theorem dualControl_linkUp : s.dualControl.dbl.linkUp = s.dbl.linkUp := by
  have hpeak : (s.peak R.DBL_DUAL s.dualSpan).dbl.linkUp = s.dbl.linkUp := linkUp_of_duo peak_duo
  unfold dualControl
  dsimp only
  split
  · exact hpeak
  · exact (linkUp_of_core (errNamed_core (by decide))).trans (detach_linkUp.trans hpeak)

/-- 14 R532: what a frame says of the twin's role changes the chip's own, and not the link. -/
theorem twinSays_linkUp {h : DblHead} : (s.twinSays h).dbl.linkUp = s.dbl.linkUp := by
  unfold twinSays
  extract_lets was x u holds y v a b
  have hv : v.dbl.linkUp = s.dbl.linkUp := by
    unfold v
    split <;> rfl
  refine Eq.trans ?_ hv
  unfold b a
  clear_value v
  split
  · split
    · rfl
    · exact takeControl_linkUp
  · split
    · rfl
    · exact roleFromOff_linkUp.trans setRole_linkUp
  · split
    · rfl
    · exact (linkUp_of_duo bulkDone_duo).trans (alone_linkUp.trans setRole_linkUp)
  · split
    · rfl
    · exact linkUp_of_duo bulkDone_duo
  · rfl

/-- The link is up, and a new key is drawn for one that was down (14 R529, 17 R656). -/
def twinMet (s : State) (b : DblHello) : State :=
  let was := s.dbl.linkUp
  let (key, s) := s.fresh
  { s with dbl.linkUp := true, dbl.twinImage := digestDiff s.digest b.digest, dbl.twinRole := 7
           dbl.linkKey := (if was then s.dbl.linkKey else (if s.keys.rngOk then some (key % 2 ^ 256) else none)) }

theorem twinMet_linkUp {b : DblHello} : (s.twinMet b).dbl.linkUp = true := rfl

/-- What a HELLO of a twin that fits brings (14 R529, R532). -/
def twinFits (s : State) (h : DblHead) (b : DblHello) : State :=
  let s := ((s.twinMet b).set R.DBL_TWIN_FW b.fw).errDone R.DBL_ERR_DOWN
  let s := if s.dbl.role.holds && (h.role = 3 || h.role = 4) then s.dualControl else s
  State.twinSays { s with dbl.dualFrom := none } h

theorem twinFits_linkUp {h : DblHead} {b : DblHello} : (s.twinFits h b).dbl.linkUp = true := by
  unfold twinFits
  extract_lets v w x
  have hv : v.dbl.linkUp = true := (linkUp_of_core (errDone_core.trans set_core)).trans twinMet_linkUp
  have hw : w.dbl.linkUp = true := by
    unfold w
    split
    · exact dualControl_linkUp.trans hv
    · exact hv
  refine twinSays_linkUp.trans ?_
  clear_value w
  exact hw

end State

section
variable {t : Time} {h : DblHead}

/-- 14 R529: a HELLO of a twin that fits, while the link is up. -/
theorem exec_dblHello_of_fit {b : DblHello} (hs : s.awake = true) (hgood : h.good = true) (hup : s.dbl.linkUp = true)
    (hfits : s.twinUnfit b = false) : exec (.dblHello t h b) s = .next ((s.at_ t).twinFits h b) := by
  change execDblHello t h b s = _
  exact (dblFrame_of_good hs hgood _).trans (congrArg Host.Outcome.next ((if_neg (Bool.eq_false_iff.mp hfits)).trans (if_pos hup)))

/-! ### The loss of the link, and a change of TIE_IN -/

theorem State.linkLost_role {tie : Tie} {end_ : Time} : (s.linkLost tie end_).dbl.role = s.dbl.role := by
  have hdown : (State.dbl { s.linkDown with dbl.tieIn := tie }).role = s.dbl.role := congrArg Seat.role State.linkDown_seat
  unfold State.linkLost
  generalize ({ s.linkDown with dbl.tieIn := tie } : State) = v at *
  have hraised : (v.errNamed R.DBL_ERR_DOWN 2 0x0501 [] { typ := 3, master := 0x40 + 37 } true).dbl.role = s.dbl.role :=
    (State.role_of_core (State.errNamed_core (cls := 2) (by decide))).trans hdown
  generalize v.errNamed R.DBL_ERR_DOWN 2 0x0501 [] { typ := 3, master := 0x40 + 37 } true = w at *
  dsimp only
  split
  · exact hraised
  · exact hraised

theorem exec_dblLinkLoss_of_standby {tie : Tie} {since : Nat} (hs : s.awake = true) (hup : s.dbl.linkUp = true) (hrole : s.dbl.role = .standby) :
    let x := (s.at_ t).linkLost tie (t - min since 24000 + 2 * ms)
    exec (.dblLinkLoss t tie since) s = .next (if tie = .hold then x.detach else (x.takeControl .solo true).sendClaim) := by
  intro x
  have hx : x.dbl.role = .standby := State.linkLost_role.trans hrole
  refine (exec_dblLinkLoss_of_up hs hup).trans (congrArg Host.Outcome.next ?_)
  unfold State.lossActs
  rw [show ((s.at_ t).linkLost tie (t - min since 24000 + 2 * ms)).dbl.role = .standby from hx]

theorem exec_dblLinkLoss_of_active {tie : Tie} {since : Nat} (hs : s.awake = true) (hup : s.dbl.linkUp = true) (hrole : s.dbl.role = .active) :
    let x := (s.at_ t).linkLost tie (t - min since 24000 + 2 * ms)
    exec (.dblLinkLoss t tie since) s =
      .next (if tie = .hold then (x.peak R.DBL_DUAL x.dualSpan).detach else ((x.setRole .solo).defer (t - min since 24000 + 2 * ms)).bulkDone) := by
  intro x
  have hx : x.dbl.role = .active := State.linkLost_role.trans hrole
  refine (exec_dblLinkLoss_of_up hs hup).trans (congrArg Host.Outcome.next ?_)
  unfold State.lossActs
  rw [show ((s.at_ t).linkLost tie (t - min since 24000 + 2 * ms)).dbl.role = .active from hx]

theorem exec_dblLinkLoss_of_solo {tie : Tie} {since : Nat} (hs : s.awake = true) (hup : s.dbl.linkUp = true) (hrole : s.dbl.role = .solo) :
    let x := (s.at_ t).linkLost tie (t - min since 24000 + 2 * ms)
    exec (.dblLinkLoss t tie since) s =
      .next (if tie = .hold then (x.peak R.DBL_DUAL x.dualSpan).detach else (x.defer (t - min since 24000 + 2 * ms)).bulkDone) := by
  intro x
  have hx : x.dbl.role = .solo := State.linkLost_role.trans hrole
  refine (exec_dblLinkLoss_of_up hs hup).trans (congrArg Host.Outcome.next ?_)
  unfold State.lossActs
  rw [show ((s.at_ t).linkLost tie (t - min since 24000 + 2 * ms)).dbl.role = .solo from hx]

theorem State.tieIs_serving {tie : Tie} (hs : s.serving = true) : (s.tieIs tie).serving = true := by
  rw [State.serving, State.get_of_regs State.tieIs_keeps.2]
  exact hs

theorem exec_tieInChange_of_active {tie : Tie} {w : Nat × Nat} (hs : s.inService = true) (hread : tieRead w = some tie) (hrole : s.dbl.role = .active) :
    exec (.tieInChange t w) s = .next ((s.at_ t).tieIs tie) := by
  have hdbl := (State.tieIs_keeps (s := s.at_ t) (tie := tie)).1
  rw [exec_tieInChange_of_read (State.awake_of_inService hs) hread,
    State.tieActs_active (State.tieIs_serving (s := s.at_ t) (serving_of_inService hs)) ((congrArg Dbl.role hdbl).trans hrole)]

theorem exec_tieInChange_of_standby {tie : Tie} {w : Nat × Nat} (hs : s.inService = true) (hread : tieRead w = some tie) (hrole : s.dbl.role = .standby)
    (hup : s.dbl.linkUp = true) (hnone : tie = .none ∨ tie = .invalid) :
    exec (.tieInChange t w) s = .next (((s.at_ t).tieIs tie).takeControl .solo true) := by
  have hdbl := (State.tieIs_keeps (s := s.at_ t) (tie := tie)).1
  rw [exec_tieInChange_of_read (State.awake_of_inService hs) hread,
    State.tieActs_standby (State.tieIs_serving (s := s.at_ t) (serving_of_inService hs)) ((congrArg Dbl.role hdbl).trans hrole)
      ((congrArg Dbl.linkUp hdbl).trans hup) hnone]

end

end

/-! ### The fall of the pins -/

section
variable {s : State} {t : Time}

theorem State.tornRecord_keeps : s.tornRecord.now = s.now ∧ s.tornRecord.pending = s.pending ∧ s.tornRecord.out = s.out := by
  unfold State.tornRecord
  split
  · split
    · exact ⟨rfl, rfl, rfl⟩
    · exact ⟨rfl, rfl, rfl⟩
  · exact ⟨rfl, rfl, rfl⟩

/-- What the fall of the pins cuts short before it resets the chip (18 R676, R680). -/
def State.pinsCut (s : State) (torn report : Bool) (copy : Nat) : State :=
  let s := if s.get R.BOOT_STAT_STATUS = 4 then s.copied copy else s
  let s := if torn && s.serving then s.tornRecord else s
  if report then { s with boot.startReport := s.boot.startReport.map (fun r => { r with whole := false }) } else s

theorem State.pinsCut_keeps {torn report : Bool} {copy : Nat} :
    (s.pinsCut torn report copy).now = s.now ∧ (s.pinsCut torn report copy).pending = s.pending ∧ (s.pinsCut torn report copy).out = s.out := by
  unfold State.pinsCut
  extract_lets v w
  have hv : v.now = s.now ∧ v.pending = s.pending ∧ v.out = s.out := by
    unfold v
    split <;> exact ⟨rfl, rfl, rfl⟩
  have hw : w.now = s.now ∧ w.pending = s.pending ∧ w.out = s.out := by
    unfold w
    split
    · obtain ⟨hnow, hpending, hout⟩ := v.tornRecord_keeps
      exact ⟨hnow.trans hv.1, hpending.trans hv.2.1, hout.trans hv.2.2⟩
    · exact hv
  clear_value w
  split
  · exact hw
  · exact hw

/-- 18 R676: the fall of the pins. -/
theorem exec_resetFall_of_high {torn report : Bool} {copy : Nat} (hpins : s.boot.pins = true) :
    exec (.resetFall t torn report copy) s = .next ((s.at_ t).pinsCut torn report copy).fallen := by
  change execResetFall t torn report copy s = _
  refine if_neg ?_
  rw [show (s.at_ t).boot.pins = true from hpins]
  exact Bool.false_ne_true

end

end Sys2Proof.Machine

/-! ## A lockstep error -/

namespace Sys2Proof.Machine

section
variable {s u : State} {α : Type} {f : Fld} {v n p isl code id : Nat} {detail : List Byte} {r : Role} {m : Out}

namespace State

/-- The ERR bit of a lockstep mismatch (20 R705), in a register file. -/
@[irreducible] def lockstepErrIn (regs : List (Nat × Word)) : Nat :=
  bits (((look R.CORE_ERR_LOCKSTEP.addr regs).map BitVec.toNat).getD (resetWord R.CORE_ERR_LOCKSTEP.addr)) 2 2

def lockstepErr (s : State) : Nat := lockstepErrIn s.regs

theorem lockstepErr_get : s.lockstepErr = s.get R.CORE_ERR_LOCKSTEP := by
  unfold lockstepErr lockstepErrIn State.get State.word
  cases look R.CORE_ERR_LOCKSTEP.addr s.regs <;> rfl

/-! ### The bit is set

The register file need not be in its one form: the word with the bit set is not its reset value, and so reads as written. -/

theorem lockstepErr_set_self : (s.set R.CORE_ERR_LOCKSTEP 1).lockstepErr = 1 := by
  have hword := s.word_lt R.CORE_ERR_LOCKSTEP.addr
  have hlt : placeBits (s.word R.CORE_ERR_LOCKSTEP.addr) 2 1 1 < 2 ^ 32 := placeBits_lt 1 hword (by decide)
  have hbit : placeBits (s.word R.CORE_ERR_LOCKSTEP.addr) 2 1 1 / 2 ^ 2 % 2 ^ 1 = 1 := placeBits_get ..
  have hreset : resetWord R.CORE_ERR_LOCKSTEP.addr / 2 ^ 2 % 2 ^ 1 = 0 := by decide +kernel
  have hmod := Nat.mod_eq_of_lt hlt
  have hne : placeBits (s.word R.CORE_ERR_LOCKSTEP.addr) 2 1 1 % 2 ^ 32 ≠ resetWord R.CORE_ERR_LOCKSTEP.addr := by
    intro heq
    rw [hmod] at heq
    rw [heq, hreset] at hbit
    exact absurd hbit (by decide)
  have hset : (s.set R.CORE_ERR_LOCKSTEP 1).word R.CORE_ERR_LOCKSTEP.addr = placeBits (s.word R.CORE_ERR_LOCKSTEP.addr) 2 1 1 :=
    (word_setWord_of_ne hne).trans hmod
  exact lockstepErr_get.trans ((congrArg (fun x => bits x 2 2) hset).trans hbit)

/-! ### What leaves it -/

theorem lockstepErr_set (hf : f.addr % 0x100 ≠ 4) : (s.set f v).lockstepErr = s.lockstepErr := by
  rw [lockstepErr_get, lockstepErr_get]
  refine get_set_word (fun haddr => hf ?_) v
  rw [← haddr]
  decide

/-- A record update that leaves the register file. -/
theorem lockstepErr_record {now up free pending wide out boot flt sicp xp sdi dbl bob dram aud mv probe eth ip whl keys spn skn rtc} {x : Nat}
    (h : s.lockstepErr = x) :
    lockstepErr ⟨now, up, free, pending, s.regs, wide, out, boot, flt, sicp, xp, sdi, dbl, bob, dram, aud, mv, probe, eth, ip, whl, keys, spn, skn,
      rtc⟩ = x := h

theorem lockstepErr_ite {c : Prop} [Decidable c] {x : Nat} (hs : s.lockstepErr = x) (hu : u.lockstepErr = x) :
    (if c then s else u).lockstepErr = x := by
  split <;> assumption

theorem lockstepErr_foldl {op : State → α → State} {l : List α} (hop : ∀ u x, (op u x).lockstepErr = u.lockstepErr) :
    (l.foldl op s).lockstepErr = s.lockstepErr :=
  List.foldlRecOn (motive := (·.lockstepErr = s.lockstepErr)) l op rfl fun u hu x _ => (hop u x).trans hu

theorem bump_lockstepErr (hf : f.addr % 0x100 ≠ 4) : (s.bump f n).lockstepErr = s.lockstepErr := lockstepErr_ite rfl (lockstepErr_set hf)

theorem lockstepErr_of_leaves (h : Leaves true s u) : u.lockstepErr = s.lockstepErr := by
  rw [lockstepErr_get, lockstepErr_get]
  exact h.get R.CORE_ERR_LOCKSTEP (by decide)

theorem event_lockstepErr {cls : Nat} : (s.event isl cls code detail).lockstepErr = s.lockstepErr :=
  lockstepErr_of_leaves ((Leaves.refl s).event ..)

theorem emit_lockstepErr : (s.emit m).lockstepErr = s.lockstepErr := lockstepErr_record rfl

theorem sent_lockstepErr {x : Nat} :
    (((s.fresh.2.bump (R.PORT_TX_FRAMES p) 1).bump64 (R.PORT_TX_OCTETS_LO p) x).emit m).lockstepErr = s.lockstepErr := by
  have hfresh : s.fresh.2.lockstepErr = s.lockstepErr := lockstepErr_record rfl
  have hcount : (s.fresh.2.bump (R.PORT_TX_FRAMES p) 1).lockstepErr = s.lockstepErr := (bump_lockstepErr (portField_place (by decide))).trans hfresh
  refine emit_lockstepErr.trans ?_
  unfold bump64
  exact lockstepErr_ite hcount (lockstepErr_record hcount)

theorem sendVia_lockstepErr : (s.sendVia p m).lockstepErr = s.lockstepErr :=
  lockstepErr_ite sent_lockstepErr (bump_lockstepErr (portField_place (by decide)))

theorem sessShow_lockstepErr {tenant : Nat} : (s.sessShow tenant).lockstepErr = s.lockstepErr := by
  have htenant : (R.TEN_SESSIONS tenant).addr % 0x100 ≠ 4 := by
    unfold Fld.addr R.TEN_SESSIONS
    dsimp only
    omega
  unfold sessShow
  exact (lockstepErr_set htenant).trans ((lockstepErr_set (by decide)).trans (lockstepErr_set (by decide)))

theorem stageShow_lockstepErr : s.stageShow.lockstepErr = s.lockstepErr := by
  unfold stageShow
  exact (lockstepErr_set (by decide)).trans ((lockstepErr_set (by decide)).trans ((lockstepErr_set (by decide)).trans (lockstepErr_set (by decide))))

theorem stageDiscard_lockstepErr {cause : Nat} : (s.stageDiscard cause).lockstepErr = s.lockstepErr := by
  have hzero : s.zeroStage.lockstepErr = s.lockstepErr := lockstepErr_record rfl
  unfold stageDiscard
  split
  · rfl
  · generalize s.zeroStage = z at *
    have hclosed : lockstepErr { z with boot.staging := none } = s.lockstepErr := lockstepErr_record hzero
    exact event_lockstepErr.trans (stageShow_lockstepErr.trans hclosed)

theorem ownSessionsEnd_lockstepErr : s.ownSessionsEnd.lockstepErr = s.lockstepErr := by
  unfold ownSessionsEnd
  extract_lets gone v sicp
  have hv : v.lockstepErr = s.lockstepErr := lockstepErr_ite stageDiscard_lockstepErr rfl
  clear_value v
  exact lockstepErr_ite rfl ((lockstepErr_foldl fun _ _ => sendVia_lockstepErr.trans sessShow_lockstepErr).trans (hv))

theorem setRole_lockstepErr : (s.setRole r).lockstepErr = s.lockstepErr := by
  have hshown {l : List Nat} {w : State} : (l.foldl (fun (s : State) (t : Nat) => s.sessShow t) w).lockstepErr = w.lockstepErr :=
    lockstepErr_foldl fun _ _ => sessShow_lockstepErr
  unfold setRole
  split
  · rfl
  · extract_lets old dbl v w x
    have hw : w.lockstepErr = s.lockstepErr := lockstepErr_ite (ownSessionsEnd_lockstepErr.trans (lockstepErr_record rfl)) (lockstepErr_record rfl)
    clear_value w
    have hx : x.lockstepErr = s.lockstepErr := hshown.trans hw
    clear_value x
    exact event_lockstepErr.trans (lockstepErr_ite ((lockstepErr_set (by decide)).trans hx) hx)

theorem countYield_lockstepErr : s.countYield.lockstepErr = s.lockstepErr := lockstepErr_record (bump_lockstepErr (by decide))

theorem yielded_lockstepErr : (s.setRole r).countYield.quietLater.lockstepErr = s.lockstepErr :=
  lockstepErr_record (countYield_lockstepErr.trans setRole_lockstepErr)

theorem yield_lockstepErr : s.yield.lockstepErr = s.lockstepErr := by
  unfold yield dblSend emit
  exact lockstepErr_record (lockstepErr_record (lockstepErr_record yielded_lockstepErr))

theorem f3_lockstepErr : s.f3.lockstepErr = s.lockstepErr := by
  unfold f3
  split
  · exact lockstepErr_ite yield_lockstepErr (lockstepErr_record setRole_lockstepErr)
  · exact lockstepErr_ite yield_lockstepErr (lockstepErr_record setRole_lockstepErr)
  · exact lockstepErr_record yielded_lockstepErr
  · exact lockstepErr_record rfl

/-- An F3 leaves the ERR bit, whatever the chip's role (20 Table 20.1). -/
theorem raise_f3_lockstepErr {tag : Nat} {acc : Acc} {stop : Nat × Nat} (hisl : isl < 40) :
    (s.raise isl 3 code tag detail acc stop).lockstepErr = s.lockstepErr := by
  have hlatched : Leaves true s (((s.hold isl tag 3 code detail).latch isl 3 code acc).event isl 3 code detail) :=
    Leaves.event (.latch (.record (.refl s)) hisl ..) ..
  unfold raise react
  exact (congrArg lockstepErr (if_pos rfl)).trans (f3_lockstepErr.trans (lockstepErr_of_leaves hlatched))

theorem errNamed_lockstepErr {acc : Acc} {lasts : Bool} : (s.errNamed R.CORE_ERR_LOCKSTEP 3 code detail acc lasts).lockstepErr = 1 := by
  unfold errNamed
  exact (congrArg lockstepErr (if_pos (by decide))).trans ((raise_f3_lockstepErr (by decide)).trans lockstepErr_set_self)

theorem has_of_lockstepErr (h : s.lockstepErr = 1) : s.has R.CORE_ERR_LOCKSTEP = true := decide_eq_true (lockstepErr_get.symm.trans h)

/-- A lockstep pair has stopped, and its registers show where. -/
def pairStopped (s : State) (pair addr : Nat) : State :=
  let u := s.set R.CORE_STOPPED (s.get R.CORE_STOPPED ||| 2 ^ pair)
  let u := u.set R.CORE_RUN (u.get R.CORE_RUN &&& (15 - 2 ^ pair))
  ((u.set R.CORE_LS_ADDR_LO addr).set R.CORE_LS_ADDR_HI (addr / 2 ^ 32)).set R.CORE_LS_PAIR pair

end State

section
variable {t : Time} {pair : Fin 4} {addr : Nat}

theorem exec_lockstep_of_awake (hs : s.awake = true) :
    exec (.lockstep t pair addr) s = .next (((s.at_ t).pairStopped pair addr).errNamed R.CORE_ERR_LOCKSTEP 3 0x0006 (beBytes 1 pair ++ beBytes 5 addr)
      { typ := 1, master := 1 + pair, addr := addr } (lasts := true)) := by
  change execLockstep t pair addr s = _
  exact released_of_awake hs t _

/-- 20 R705: a mismatch of a lockstep pair sets its ERR bit. -/
theorem exec_lockstep_sets (hs : s.awake = true) : ∃ s', exec (.lockstep t pair addr) s = .next s' ∧ s'.has R.CORE_ERR_LOCKSTEP = true :=
  ⟨_, exec_lockstep_of_awake hs, State.has_of_lockstepErr State.errNamed_lockstepErr⟩

end

end

end Sys2Proof.Machine

/-! ## What leaves the row key

The key that spreads the rows is drawn at the end of the training (09 R340). The replay of the journal, the effects that it shares with the cycle and
the reactions to a fault leave it. -/

namespace Sys2Proof.Machine

/-- The key that spreads the rows over the channels (09 R340). -/
def State.rowKey (s : State) : Nat := s.dram.key

theorem State.dram_rowKey (s : State) : s.dram.key = s.rowKey := (rfl)

theorem State.rowKey_mk {now up free pending regs wide out boot flt sicp xp sdi dbl bob dram aud mv probe eth ip whl keys spn skn rtc} :
    State.rowKey ⟨now, up, free, pending, regs, wide, out, boot, flt, sicp, xp, sdi, dbl, bob, dram, aud, mv, probe, eth, ip, whl, keys, spn, skn,
      rtc⟩ = dram.key := (rfl)

/-! ### The rows themselves

A row that is read, written or kept waiting is found with the key, and leaves it. -/

section
variable {d : Dram} {α : Type} {lp up n r : Nat} {p : RowPlace} {g : Gather}

theorem Dram.key_foldl {op : Dram → α → Dram} {l : List α} (h : ∀ d x, (op d x).key = d.key) : (l.foldl op d).key = d.key :=
  List.foldlRecOn (motive := (·.key = d.key)) l op rfl fun u hu x _ => (h u x).trans hu

theorem Dram.request_key : (d.request up p n).2.key = d.key := by
  unfold Dram.request
  extract_lets b idle same open_ first ctr v
  have hv : v.key = d.key := by
    unfold v
    split
    · rfl
    · split <;> rfl
  exact hv

theorem Dram.opened_key : (d.opened up p n).key = d.key := by
  unfold Dram.opened
  dsimp only
  split
  · exact Dram.request_key (n := n)
  · exact Dram.request_key (n := n)

theorem Dram.rowRun_key {write : Bool} : (d.rowRun up r write n).key = d.key := Dram.opened_key

theorem Dram.commit_key : (d.commit up g).key = d.key := Dram.rowRun_key

theorem Dram.drain_key : (d.drain up).key = d.key := by
  unfold Dram.drain
  split
  · rfl
  · exact Dram.key_foldl fun _ _ => Dram.commit_key

end

/-! ### Operations of the chip -/

section
variable {s : State} {α β : Type}

theorem State.rowKey_of_core {u : State} (h : u.core = s.core) : u.rowKey = s.rowKey := congrArg (fun x : Core => x.dram.key) h

theorem State.rowKey_of_snd {x : α × State} {a : α} {u : State} (h : x = (a, u)) : u.rowKey = x.2.rowKey :=
  congrArg (fun x : α × State => x.2.rowKey) h.symm

/-! ### Choices and folds -/

theorem State.ite_rowKey {x y : State} {p : Prop} [Decidable p] : (if p then x else y).rowKey = if p then x.rowKey else y.rowKey :=
  apply_ite State.rowKey ..

theorem State.ite_snd_rowKey {x y : α × State} {p : Prop} [Decidable p] :
    (if p then x else y).2.rowKey = if p then x.2.rowKey else y.2.rowKey := apply_ite (fun x : α × State => x.2.rowKey) ..

theorem State.foldl_rowKey {f : State → α → State} {l : List α} (h : ∀ s x, (f s x).rowKey = s.rowKey) : (l.foldl f s).rowKey = s.rowKey :=
  List.foldlRecOn (motive := (·.rowKey = s.rowKey)) l f rfl fun u hu x _ => (h u x).trans hu

theorem State.foldl_snd_rowKey {f : β × State → α → β × State} {b : β × State} {l : List α} (h : ∀ b x, (f b x).2.rowKey = b.2.rowKey) :
    (l.foldl f b).2.rowKey = b.2.rowKey :=
  List.foldlRecOn (motive := (·.2.rowKey = b.2.rowKey)) l f rfl fun u hu x _ => (h u x).trans hu

/-! ### Registers, events and faults -/

theorem State.setWord_rowKey {k v} : (s.setWord k v).rowKey = s.rowKey := by
  simp only [State.setWord, ↓rowKey_mk, ↓dram_rowKey]

theorem State.set_rowKey {f v} : (s.set f v).rowKey = s.rowKey := rowKey_of_core set_core

theorem State.bump_rowKey {f n} : (s.bump f n).rowKey = s.rowKey := rowKey_of_core bump_core

theorem State.peak_rowKey {f v} : (s.peak f v).rowKey = s.rowKey := by
  simp only [State.peak, ↓set_rowKey, ↓ite_rowKey, ite_self]

theorem State.bump64_rowKey {f n} : (s.bump64 f n).rowKey = s.rowKey := rowKey_of_core bump64_core

theorem State.fresh_rowKey : (s.fresh).2.rowKey = s.rowKey := by
  simp only [State.fresh, ↓rowKey_mk, ↓dram_rowKey]

theorem State.emit_rowKey {o} : (s.emit o).rowKey = s.rowKey := rowKey_of_core emit_core

theorem State.putBlocks_rowKey {n} : (s.putBlocks n).rowKey = s.rowKey := by
  simp only [State.putBlocks, ↓rowKey_mk, ↓dram_rowKey]

theorem State.stageShow_rowKey : s.stageShow.rowKey = s.rowKey := rowKey_of_core stageShow_core

theorem State.zeroStage_rowKey : s.zeroStage.rowKey = s.rowKey := by
  simp only [State.zeroStage, ↓rowKey_mk, ↓dram_rowKey]

theorem State.sendVia_rowKey {p m} : (s.sendVia p m).rowKey = s.rowKey := rowKey_of_core sendVia_core

theorem State.event_rowKey {isl cls code detail} : (s.event isl cls code detail).rowKey = s.rowKey := rowKey_of_core event_core

theorem State.latch_rowKey {isl cls code a} : (s.latch isl cls code a).rowKey = s.rowKey := rowKey_of_core latch_core

theorem State.hold_rowKey {isl tag cls code detail} : (s.hold isl tag cls code detail).rowKey = s.rowKey := rowKey_of_core hold_core

theorem State.resolve_rowKey {isl tag} : (s.resolve isl tag).rowKey = s.rowKey := rowKey_of_core resolve_core

/-! ### Roles, and the reactions to F3 and F4 -/

theorem State.quietAll_rowKey : s.quietAll.rowKey = s.rowKey := by
  simp only [State.quietAll, ↓setWord_rowKey, ↓foldl_rowKey, ↓rowKey_mk, ↓dram_rowKey, implies_true]

theorem State.stageDiscard_rowKey {cause} : (s.stageDiscard cause).rowKey = s.rowKey := by
  fun_cases State.stageDiscard <;> simp only [↓stageShow_rowKey, ↓zeroStage_rowKey, ↓event_rowKey, ↓rowKey_mk, ↓dram_rowKey]

theorem State.sessShow_rowKey {tenant} : (s.sessShow tenant).rowKey = s.rowKey := by
  simp only [State.sessShow, ↓set_rowKey]

theorem State.ownSessionsEnd_rowKey : s.ownSessionsEnd.rowKey = s.rowKey := by
  simp only [State.ownSessionsEnd, ↓sendVia_rowKey, ↓stageDiscard_rowKey, ↓sessShow_rowKey, ↓foldl_rowKey, ↓ite_rowKey, ↓rowKey_mk, ↓dram_rowKey,
    ite_self, implies_true]

theorem State.setRole_rowKey {r} : (s.setRole r).rowKey = s.rowKey := by
  simp only [State.setRole, ↓set_rowKey, ↓event_rowKey, ↓sessShow_rowKey, ↓ownSessionsEnd_rowKey, ↓foldl_rowKey, ↓ite_rowKey, ↓rowKey_mk,
    ↓dram_rowKey, ite_self, implies_true]

theorem State.countYield_rowKey : s.countYield.rowKey = s.rowKey := by
  simp only [State.countYield, ↓bump_rowKey, ↓rowKey_mk, ↓dram_rowKey]

theorem State.quietLater_rowKey : s.quietLater.rowKey = s.rowKey := by
  simp only [State.quietLater, ↓rowKey_mk, ↓dram_rowKey]

theorem State.dblSend_rowKey {typ close body} : (s.dblSend typ close body).rowKey = s.rowKey := rowKey_of_core dblSend_core

theorem State.yield_rowKey : s.yield.rowKey = s.rowKey := by
  simp only [State.yield, ↓setRole_rowKey, ↓countYield_rowKey, ↓quietLater_rowKey, ↓dblSend_rowKey, ↓rowKey_mk, ↓dram_rowKey]

theorem State.f3_rowKey : s.f3.rowKey = s.rowKey := by
  unfold State.f3
  split <;> simp only [↓setRole_rowKey, ↓countYield_rowKey, ↓quietLater_rowKey, ↓yield_rowKey, ↓ite_rowKey, ↓rowKey_mk, ↓dram_rowKey, ite_self]

theorem State.status_rowKey {code detail} : (s.status code detail).rowKey = s.rowKey := rowKey_of_core status_core

theorem State.report_rowKey {offset} : (s.report offset).rowKey = s.rowKey := by
  simp only [State.report, ↓rowKey_mk, ↓dram_rowKey]

theorem State.lastWrites_rowKey {before} : (s.lastWrites before).rowKey = s.rowKey := by
  simp only [State.lastWrites, ↓fresh_rowKey, ↓putBlocks_rowKey, ↓rowKey_mk, ↓dram_rowKey]

theorem State.f4_rowKey {status detail} : (s.f4 status detail).rowKey = s.rowKey := by
  simp only [State.f4, ↓quietAll_rowKey, ↓status_rowKey, ↓report_rowKey, ↓lastWrites_rowKey, ↓ite_rowKey, ↓rowKey_mk, ↓dram_rowKey, ite_self]

theorem State.react_rowKey {cls status detail} : (s.react cls status detail).rowKey = s.rowKey := by
  simp only [State.react, ↓f3_rowKey, ↓f4_rowKey, ↓ite_rowKey, ite_self]

theorem State.islandError_rowKey {f cls} : (s.islandError f cls).rowKey = s.rowKey := rowKey_of_core islandError_core

theorem State.err_rowKey {f cls a lasts stop} : (s.err f cls a lasts stop).rowKey = s.rowKey := by
  simp only [State.err, ↓set_rowKey, ↓latch_rowKey, ↓hold_rowKey, ↓react_rowKey, ↓islandError_rowKey, ↓ite_rowKey, ite_self]

/-! ### Destinations, rings and banks -/

theorem State.syncConns_rowKey {keys} : (s.syncConns keys).rowKey = s.rowKey := by
  simp only [State.syncConns, ↓foldl_rowKey, ↓rowKey_mk, ↓dram_rowKey, implies_true]

theorem State.setDst_rowKey {i d} : (s.setDst i d).rowKey = s.rowKey := by
  simp only [State.setDst, ↓rowKey_mk, ↓dram_rowKey]

theorem State.rowsMoved_rowKey {write bytes} : (s.rowsMoved write bytes).rowKey = s.rowKey := by
  unfold State.rowsMoved
  refine rowKey_mk.trans ((Dram.key_foldl fun d i => ?_).trans (Dram.drain_key.trans fresh_rowKey))
  dsimp only
  split
  · rfl
  · exact Dram.rowRun_key

theorem State.amendFrame_rowKey {src f} : (s.amendFrame src f).rowKey = s.rowKey := by
  fun_cases State.amendFrame <;> simp only [↓rowKey_mk, ↓dram_rowKey]

theorem State.setRing_rowKey {src r} : (s.setRing src r).rowKey = s.rowKey := by
  simp only [State.setRing, ↓rowKey_mk, ↓dram_rowKey]

theorem State.setBanks_rowKey {k b} : (s.setBanks k b).rowKey = s.rowKey := by
  simp only [State.setBanks, ↓rowKey_mk, ↓dram_rowKey]

theorem State.bankWrite_rowKey {k n o v} : (s.bankWrite k n o v).rowKey = s.rowKey := by
  simp only [State.bankWrite, ↓rowsMoved_rowKey, ↓setBanks_rowKey, ↓ite_rowKey, ↓rowKey_mk, ↓dram_rowKey, ite_self]

theorem State.bankClear_rowKey {k n} : (s.bankClear k n).rowKey = s.rowKey := by
  simp only [State.bankClear, ↓setBanks_rowKey, ↓rowKey_mk, ↓dram_rowKey]

theorem State.setMask_rowKey {m} : (s.setMask m).rowKey = s.rowKey := by
  simp only [State.setMask, ↓set_rowKey, ↓foldl_rowKey, ↓ite_rowKey, ↓rowKey_mk, ↓dram_rowKey, ite_self, implies_true]

theorem State.tierMask_rowKey : s.tierMask.rowKey = s.rowKey := by
  simp only [State.tierMask, ↓setMask_rowKey]

theorem State.tierOpen_rowKey : s.tierOpen.rowKey = s.rowKey := by
  simp only [State.tierOpen, ↓setMask_rowKey]

theorem State.loadStill_rowKey {i} : (s.loadStill i).rowKey = s.rowKey := by
  simp only [State.loadStill, ↓setBanks_rowKey, ↓bankWrite_rowKey, ↓bankClear_rowKey, ↓foldl_rowKey, ↓ite_rowKey, ite_self, implies_true]

theorem State.loadSafety_rowKey {h} : (s.loadSafety h).rowKey = s.rowKey := by
  simp only [State.loadSafety, ↓rowKey_mk, ↓dram_rowKey]

/-! ### Flows and their tables -/

theorem State.sendEth_rowKey {p f} : (s.sendEth p f).rowKey = s.rowKey := by
  simp only [State.sendEth, ↓bump_rowKey, ↓bump64_rowKey, ↓fresh_rowKey, ↓emit_rowKey, ↓ite_rowKey, ite_self]

theorem State.whlShow_rowKey : s.whlShow.rowKey = s.rowKey := by
  simp only [State.whlShow, ↓set_rowKey, ↓foldl_rowKey, implies_true]

theorem State.journalShow_rowKey : s.journalShow.rowKey = s.rowKey := by
  simp only [State.journalShow, ↓set_rowKey]

theorem State.journalAdd_rowKey {i} : (s.journalAdd i).rowKey = s.rowKey := by
  simp only [State.journalAdd, ↓bump_rowKey, ↓journalShow_rowKey, ↓ite_rowKey, ↓rowKey_mk, ↓dram_rowKey, ite_self]

theorem State.flowShow_rowKey {i} : (s.flowShow i).rowKey = s.rowKey := by
  simp only [State.flowShow, ↓set_rowKey]

theorem State.setFlow_rowKey {i x} : (s.setFlow i x).rowKey = s.rowKey := by
  simp only [State.setFlow, ↓flowShow_rowKey, ↓rowKey_mk, ↓dram_rowKey]

theorem State.setTable_rowKey {c t} : (s.setTable c t).rowKey = s.rowKey := by
  simp only [State.setTable, ↓set_rowKey, ↓rowKey_mk, ↓dram_rowKey]

theorem State.placeEntry_rowKey {k w on} : (s.placeEntry k w on).2.rowKey = s.rowKey := by
  unfold State.placeEntry
  dsimp only
  split <;> simp only [↓bump_rowKey, ↓setTable_rowKey, ↓rowKey_mk, ↓dram_rowKey]

theorem State.removeLeg_rowKey {c flow leg on} : (s.removeLeg c flow leg on).rowKey = s.rowKey := by
  simp only [State.removeLeg, ↓setTable_rowKey]

theorem State.enableLeg_rowKey {c flow leg} : (s.enableLeg c flow leg).rowKey = s.rowKey := by
  simp only [State.enableLeg, ↓setTable_rowKey]

theorem State.sendReport_rowKey {p r} : (s.sendReport p r).rowKey = s.rowKey := by
  simp only [State.sendReport, ↓bump_rowKey, ↓sendEth_rowKey]

theorem State.changeReport_rowKey {k saddr ssm leave} : (s.changeReport k saddr ssm leave).rowKey = s.rowKey := by
  simp only [State.changeReport, ↓sendReport_rowKey, ↓ite_rowKey, ↓rowKey_mk, ↓dram_rowKey, ite_self]

theorem State.joinLeg_rowKey {k saddr ssm} : (s.joinLeg k saddr ssm).rowKey = s.rowKey := by
  simp only [State.joinLeg, ↓changeReport_rowKey, ↓ite_rowKey, ite_self]

theorem State.leaveLeg_rowKey {k saddr ssm} : (s.leaveLeg k saddr ssm).rowKey = s.rowKey := by
  simp only [State.leaveLeg, ↓changeReport_rowKey, ↓ite_rowKey, ite_self]

theorem State.joinFlow_rowKey {i} : (s.joinFlow i).rowKey = s.rowKey := by
  simp only [State.joinFlow, ↓setFlow_rowKey, ↓joinLeg_rowKey, ↓foldl_rowKey, ↓ite_rowKey, ite_self, implies_true]

theorem State.flowStops_rowKey {i} : (s.flowStops i).rowKey = s.rowKey := by
  simp only [State.flowStops, ↓set_rowKey, ↓ite_rowKey, ite_self]

theorem State.leaveFlow_rowKey {i} : (s.leaveFlow i).rowKey = s.rowKey := by
  simp only [State.leaveFlow, ↓setFlow_rowKey, ↓leaveLeg_rowKey, ↓flowStops_rowKey, ↓foldl_rowKey, ↓ite_rowKey, ite_self, implies_true]

theorem State.joinPlaced_rowKey {i} : (s.joinPlaced i).rowKey = s.rowKey := by
  simp only [State.joinPlaced, ↓joinFlow_rowKey, ↓ite_rowKey, ite_self]

theorem State.buildTable_rowKey {c l} : (s.buildTable c l).rowKey = s.rowKey := by
  unfold State.buildTable
  refine (foldl_rowKey fun s e => ?_).trans setTable_rowKey
  split <;> rename_i h
  · exact (rowKey_of_snd h).trans placeEntry_rowKey
  · split <;> simp only [↓event_rowKey, ↓setFlow_rowKey, ↓rowKey_of_snd h, ↓placeEntry_rowKey]

theorem State.bindPlaced_rowKey : s.bindPlaced.rowKey = s.rowKey := by
  simp only [State.bindPlaced, ↓setFlow_rowKey, ↓joinPlaced_rowKey, ↓foldl_rowKey, implies_true]

theorem State.takeTable_rowKey {key entries legs} : (s.takeTable key entries legs).rowKey = s.rowKey := by
  simp only [State.takeTable, ↓setFlow_rowKey, ↓joinFlow_rowKey, ↓leaveFlow_rowKey, ↓buildTable_rowKey, ↓bindPlaced_rowKey, ↓foldl_rowKey,
    ↓ite_rowKey, ↓rowKey_mk, ↓dram_rowKey, ite_self, implies_true]

theorem State.flowInsert_rowKey {i ch} : (s.flowInsert i ch).2.rowKey = s.rowKey := by
  simp only [State.flowInsert, ↓bump_rowKey, ↓placeEntry_rowKey, ↓removeLeg_rowKey, ↓ite_snd_rowKey, ↓foldl_rowKey, ↓foldl_snd_rowKey, ite_self,
    implies_true]

theorem State.flowSetApply_rowKey {i legs at_} : (s.flowSetApply i legs at_).rowKey = s.rowKey := by
  simp only [State.flowSetApply, ↓setFlow_rowKey, ↓joinLeg_rowKey, ↓flowInsert_rowKey, ↓foldl_rowKey, ↓ite_rowKey, ite_self, implies_true]

theorem State.flowBad_rowKey {i} : (s.flowBad i).rowKey = s.rowKey := by
  simp only [State.flowBad, ↓amendFrame_rowKey, ↓foldl_rowKey, implies_true]

theorem State.flowSwitch_rowKey {i} : (s.flowSwitch i).rowKey = s.rowKey := by
  unfold State.flowSwitch
  simp only [↓joinPlaced_rowKey, ↓foldl_rowKey, ↓leaveLeg_rowKey, ↓setFlow_rowKey, ↓ite_rowKey, ite_self, implies_true]
  refine (foldl_rowKey fun s k => ?_).trans ?_
  · split <;> simp only [↓enableLeg_rowKey, ↓removeLeg_rowKey]
  · simp only [↓ite_rowKey, ↓flowBad_rowKey, ite_self]

/-! ### Audio -/

theorem State.setOut_rowKey {o c} : (s.setOut o c).rowKey = s.rowKey := by
  simp only [State.setOut, ↓rowKey_mk, ↓dram_rowKey]

theorem State.setBus_rowKey {b c} : (s.setBus b c).rowKey = s.rowKey := by
  simp only [State.setBus, ↓rowKey_mk, ↓dram_rowKey]

theorem State.flipLate_rowKey {due} : (s.flipLate due).rowKey = s.rowKey := by
  simp only [State.flipLate, ↓err_rowKey, ↓ite_rowKey, ite_self]

theorem State.writeOut_rowKey {a sel gain due order} : (s.writeOut a sel gain due order).rowKey = s.rowKey := by
  unfold State.writeOut
  split <;> simp only [↓bump_rowKey, ↓setOut_rowKey, ↓flipLate_rowKey]

theorem State.writeBus_rowKey {b gain members due} : (s.writeBus b gain members due).rowKey = s.rowKey := by
  simp only [State.writeBus, ↓bump_rowKey, ↓setBus_rowKey, ↓flipLate_rowKey]

theorem State.writeLine_rowKey {l n due} : (s.writeLine l n due).rowKey = s.rowKey := by
  unfold State.writeLine
  split <;> simp only [↓bump_rowKey, ↓flipLate_rowKey, ↓rowKey_mk, ↓dram_rowKey]

theorem State.audStart_rowKey : s.audStart.rowKey = s.rowKey := by
  unfold State.audStart
  simp only [↓foldl_rowKey, ↓setBus_rowKey, ↓rowKey_mk, ↓dram_rowKey, implies_true]
  refine (foldl_rowKey fun s r => foldl_rowKey fun s i => ?_).trans State.rowKey_mk
  split <;> simp only [↓setOut_rowKey]

/-! ### Heads and windows -/

theorem State.setHead_rowKey {h x} : (s.setHead h x).rowKey = s.rowKey := by
  simp only [State.setHead, ↓rowKey_mk, ↓dram_rowKey]

theorem State.applyWindow_rowKey {v engine due} : (s.applyWindow v engine due).rowKey = s.rowKey := by
  simp only [State.applyWindow, ↓journalAdd_rowKey, ↓rowKey_mk, ↓dram_rowKey]

theorem State.applyClear_rowKey {win due} : (s.applyClear win due).rowKey = s.rowKey := by
  fun_cases State.applyClear <;> simp only [↓journalAdd_rowKey, ↓rowKey_mk, ↓dram_rowKey]

theorem State.applyOrder_rowKey {h o due} : (s.applyOrder h o due).rowKey = s.rowKey := by
  simp only [State.applyOrder, ↓setHead_rowKey, ↓journalAdd_rowKey]

theorem State.headShow_rowKey {h} : (s.headShow h).rowKey = s.rowKey := by
  simp only [State.headShow, ↓set_rowKey]

theorem State.headStart_rowKey : s.headStart.rowKey = s.rowKey := by
  simp only [State.headStart, ↓setHead_rowKey, ↓headShow_rowKey, ↓foldl_rowKey, ↓ite_rowKey, ite_self, implies_true]

/-! ### What is booked -/

theorem State.syncBobbins_rowKey : s.syncBobbins.rowKey = s.rowKey := by
  unfold State.syncBobbins
  simp only [↓tierOpen_rowKey, ↓peak_rowKey, ↓rowKey_mk, ↓dram_rowKey]
  refine (foldl_rowKey fun s n => ?_).trans ?_
  · split <;> exact setRing_rowKey
  · refine State.rowKey_mk.trans ((foldl_rowKey fun s n => ?_).trans State.rowKey_mk)
    split <;> simp only [↓rowKey_mk, ↓dram_rowKey]

theorem State.syncMeters_rowKey : s.syncMeters.rowKey = s.rowKey := by
  simp only [State.syncMeters, ↓syncConns_rowKey, ↓rowKey_mk, ↓dram_rowKey]

theorem State.syncJoins_rowKey : s.syncJoins.rowKey = s.rowKey := by
  simp only [State.syncJoins, ↓joinFlow_rowKey, ↓leaveFlow_rowKey, ↓foldl_rowKey, ↓ite_rowKey, ite_self, implies_true]

/-! ### The effects of a close -/

theorem State.clearStrandDown_rowKey : s.clearStrandDown.rowKey = s.rowKey := by
  simp only [State.clearStrandDown, ↓resolve_rowKey, ↓foldl_rowKey, ↓ite_rowKey, ite_self, implies_true]

theorem State.onLevel_rowKey {dest lv f} : (s.onLevel dest lv f).rowKey = s.rowKey := by
  simp only [State.onLevel, ↓setDst_rowKey]

theorem State.superseded_rowKey {dest} : (s.superseded dest).rowKey = s.rowKey := by
  simp only [State.superseded, ↓bump_rowKey, ↓ite_rowKey, ite_self]

theorem State.addTake_rowKey {dest lv p} : (s.addTake dest lv p).rowKey = s.rowKey := by
  fun_cases State.addTake <;> simp only [↓onLevel_rowKey, ↓superseded_rowKey]

theorem State.applyDecision_rowKey {coord num commit} : (s.applyDecision coord num commit).rowKey = s.rowKey := by
  simp only [State.applyDecision, ↓bump_rowKey, ↓ite_rowKey, ↓rowKey_mk, ↓dram_rowKey, ite_self]

theorem State.applyEff_rowKey {e} : (s.applyEff e).rowKey = s.rowKey := by
  unfold State.applyEff
  (repeat' split) <;> simp only [↓bump_rowKey, ↓setDst_rowKey, ↓setRing_rowKey, ↓setBanks_rowKey, ↓whlShow_rowKey, ↓journalAdd_rowKey,
    ↓setFlow_rowKey, ↓takeTable_rowKey, ↓flowSetApply_rowKey, ↓writeOut_rowKey, ↓writeBus_rowKey, ↓writeLine_rowKey, ↓applyWindow_rowKey,
    ↓applyClear_rowKey, ↓applyOrder_rowKey, ↓clearStrandDown_rowKey, ↓onLevel_rowKey, ↓addTake_rowKey, ↓applyDecision_rowKey, ↓foldl_rowKey,
    ↓ite_rowKey, ↓rowKey_mk, ↓dram_rowKey, ite_self, implies_true]

/-! ### Group G -/

theorem State.startWindow_rowKey {v} : (s.startWindow v).rowKey = s.rowKey := by
  simp only [State.startWindow, ↓fresh_rowKey, ↓ite_snd_rowKey, ↓rowKey_mk, ↓dram_rowKey, ite_self]

theorem State.delayStart_rowKey : s.delayStart.rowKey = s.rowKey := by
  simp only [State.delayStart, ↓setDst_rowKey, ↓foldl_rowKey, implies_true]

theorem State.storeStart_rowKey : s.storeStart.rowKey = s.rowKey := by
  simp only [State.storeStart, ↓bankClear_rowKey, ↓loadStill_rowKey, ↓loadSafety_rowKey, ↓foldl_rowKey, ↓ite_rowKey, ite_self, implies_true]

theorem State.groupG_rowKey : s.groupG.rowKey = s.rowKey := by
  simp only [State.groupG, ↓audStart_rowKey, ↓headStart_rowKey, ↓syncBobbins_rowKey, ↓startWindow_rowKey, ↓delayStart_rowKey, ↓storeStart_rowKey,
    ↓foldl_rowKey, implies_true]

/-! ### The replay of the journal -/

theorem State.dropFar_rowKey {dest lv} : (s.dropFar dest lv).rowKey = s.rowKey := by
  simp only [State.dropFar, ↓rowKey_mk, ↓dram_rowKey]

theorem State.levelFill_rowKey {dest lv mode prio} : (s.levelFill dest lv mode prio).rowKey = s.rowKey := by
  simp only [State.levelFill, ↓dropFar_rowKey, ↓applyEff_rowKey]

theorem State.replayLevel_rowKey {dest lv mode src prio u} (h : s.replayLevel dest lv mode src prio = .inl u) : u.rowKey = s.rowKey := by
  revert h
  fun_cases State.replayLevel
  case case2 => exact fun h => Sum.inl.inj h ▸ levelFill_rowKey
  case case3 => exact fun h => Sum.inl.inj h ▸ State.rowKey_mk.trans levelFill_rowKey
  case case5 v _ => exact fun h => Sum.inl.inj h ▸ applyEff_rowKey.trans dropFar_rowKey
  all_goals rintro ⟨⟩

theorem State.replayWindow_rowKey {v u} (h : s.replayWindow v = .inl u) : u.rowKey = s.rowKey := by
  revert h
  fun_cases State.replayWindow
  case case4 v _ _ => exact fun h => Sum.inl.inj h ▸ startWindow_rowKey.trans State.rowKey_mk
  all_goals rintro ⟨⟩

theorem State.replayFlow_rowKey {i legs u} (h : s.replayFlow i legs = .inl u) : u.rowKey = s.rowKey := by
  revert h
  fun_cases State.replayFlow
  case case1 => rintro ⟨⟩
  case case2 hi _ => exact fun h => Sum.inl.inj h ▸ event_rowKey.trans ((rowKey_of_snd hi).trans flowInsert_rowKey)
  case case3 v hi _ w x =>
    rintro ⟨⟩
    have hv : v.rowKey = s.rowKey := (rowKey_of_snd hi).trans flowInsert_rowKey
    simp only [↓flowSwitch_rowKey, ↓setFlow_rowKey, w, ↓foldl_rowKey, ↓joinLeg_rowKey, ↓ite_rowKey, hv, ite_self, implies_true]

theorem State.replayItem_rowKey {i u} (h : s.replayItem i = .inl u) : u.rowKey = s.rowKey := by
  revert h
  fun_cases State.replayItem
  case case1 => exact replayLevel_rowKey
  case case3 fits _ _ _ _ =>
    simp only [fits]
    split
    · exact fun h => Sum.inl.inj h ▸ setDst_rowKey
    · rintro ⟨⟩
  case case5 => exact fun h => Sum.inl.inj h ▸ setOut_rowKey
  case case8 => exact fun h => Sum.inl.inj h ▸ setBus_rowKey
  case case10 fits _ _ _ _ _ =>
    simp only [fits]
    split
    · exact fun h => Sum.inl.inj h ▸ State.rowKey_mk
    · rintro ⟨⟩
  case case12 => exact replayWindow_rowKey
  case case14 => exact fun h => Sum.inl.inj h ▸ State.rowKey_mk
  case case16 => exact fun h => Sum.inl.inj h ▸ setHead_rowKey
  case case17 => exact replayFlow_rowKey
  all_goals rintro ⟨⟩

theorem State.itemDropped_rowKey {i} : (s.itemDropped i).rowKey = s.rowKey := by
  fun_cases State.itemDropped <;> simp only [↓levelFill_rowKey]

theorem State.notRestored_rowKey {i res chip} : (s.notRestored i res chip).rowKey = s.rowKey := by
  simp only [State.notRestored, ↓bump_rowKey, ↓fresh_rowKey, ↓event_rowKey]

theorem State.replay_rowKey : s.replay.rowKey = s.rowKey := by
  unfold State.replay
  split
  · rfl
  · split
    · rfl
    · split
      · exact event_rowKey
      · refine foldl_rowKey fun s i => ?_
        split <;> rename_i h
        · exact bump_rowKey.trans (replayItem_rowKey h)
        · exact notRestored_rowKey.trans itemDropped_rowKey

/-! ### The end of the training -/

/-- 09 R340, 18 R666: the key that the chip draws at the end of the training is the one it serves with. -/
theorem State.groupsServe_rowKey : s.groupsServe.rowKey = Config.freeNat s.free := by
  unfold State.groupsServe
  exact (State.foldl_rowKey fun _ _ => State.set_rowKey.trans State.set_rowKey).trans State.rowKey_mk

theorem State.replayed_rowKey : s.replayed.rowKey = s.rowKey := by
  unfold State.replayed
  refine State.syncJoins_rowKey.trans (State.syncMeters_rowKey.trans (State.syncBobbins_rowKey.trans (State.replay_rowKey.trans ?_)))
  exact State.status_rowKey.trans (State.groupG_rowKey.trans State.tierMask_rowKey)

/-- 18 R666: a start whose channels are trained shows READY and has its key. -/
theorem State.replayed_shows {u : State} (h : u = s.replayed) : (u.status 7 0).get R.BOOT_STAT_STATUS = 7 ∧ (u.status 7 0).dram.key = s.rowKey :=
  ⟨(State.status_shows (by decide)).1, (State.dram_rowKey _).trans (State.status_rowKey.trans ((congrArg State.rowKey h).trans State.replayed_rowKey))⟩

theorem exec_dramTrainingDone_shows {t : Time} (hs : s.awake = true) (hstatus : s.get R.BOOT_STAT_STATUS = 5) :
    ∃ s', exec (.dramTrainingDone t none) s = .next s' ∧ s'.get R.BOOT_STAT_STATUS = 7 ∧ s'.dram.key = Config.freeNat s.free := by
  obtain ⟨hshown, hkey⟩ := State.replayed_shows (s := (s.at_ t).groupsServe) rfl
  exact ⟨_, exec_dramTrainingDone_none hs hstatus, hshown, hkey.trans State.groupsServe_rowKey⟩

end

end Sys2Proof.Machine

/-! ## The events complete -/

namespace Sys2Proof.Machine

section
variable {s : State} {t : Time}

/-! ### The fall of the pins -/

theorem resetFall_completes {torn report : Bool} {copy : Nat} (hpins : s.boot.pins = true) :
    ∃ s', exec (.resetFall t torn report copy) s = .next s' ∧ s'.boot.pins = false ∧ s'.dbl.role = .off ∧ s'.now = t ∧ s'.pending = s.pending ∧
      s'.out = s.out := by
  obtain ⟨hnow, hpending, hout⟩ := State.pinsCut_keeps (s := s.at_ t) (torn := torn) (report := report) (copy := copy)
  exact ⟨_, exec_resetFall_of_high hpins, rfl, rfl, hnow, hpending, hout⟩

/-! ### Commands whose guard is only that of a released chip -/

section
variable (hs : s.awake = true)
include hs

theorem exec_reportRepeat_of_awake : exec (.reportRepeat t) s =
    .next (((s.at_ t).ip.repeats.filter (fun r => r.2.1 ≤ (s.at_ t).up)).foldl (fun s r => s.sendReport r.1 r.2.2)
      { s.at_ t with ip.repeats := (s.at_ t).ip.repeats.filter (fun r => (s.at_ t).up < r.2.1) }) := by
  change execReportRepeat t s = _
  exact released_of_awake hs t _

theorem exec_beFrameAged_of_awake {p : Fin 256} {q : Fin 8} : let v := (s.at_ t).pausesEnd p
    let old := lookD q.val (v.port p).queues []
    let young := old.filter (fun f => v.now < f.1 + ms)
    exec (.beFrameAged t p q) s =
      .next ((v.setPort p { v.port p with queues := put q.val young (v.port p).queues }).bump (R.PORT_BE_TX_DROP p) (old.length - young.length)) := by
  change execBeFrameAged t p q s = _
  exact released_of_awake hs t _

theorem exec_counterSweep_of_awake : exec (.counterSweep t) s =
    .next (((s.at_ t).regs.filterMap (fun r => counterAt r.1)).foldl (fun s c => s.readCounter c.1 c.2) (s.at_ t)) := by
  change execCounterSweep t s = _
  exact released_of_awake hs t _

theorem exec_errorLineOccurrence_of_awake {isl : Fin 40} {cls : Fin 3} {cond code typ master addr : Nat} :
    exec (.errorLineOccurrence t isl cls cond code typ master addr) s =
      .next (((((s.at_ t).hold isl (2 ^ 40 + 2 * cond) (cls + 2)).latch isl (cls + 2) code { typ := typ, master := master, addr := addr }).react
        (cls + 2) 15 4)) := by
  change execErrorLineOccurrence t isl cls cond code typ master addr s = _
  exact released_of_awake hs t _

theorem exec_fltCheck_of_awake : exec (.fltCheck t) s =
    .next (((s.at_ t).set R.FLT_STAT_COPY_OK 0).raise 38 4 0x0007 3 [] { typ := 3, master := 0x40 + 38 }) := by
  change execFltCheck t s = _
  exact released_of_awake hs t _

theorem exec_sramEcc_corrected {addr : Nat} : exec (.sramEcc t false addr) s = .next (((s.at_ t).bump R.CORE_SRAM_COR 1).err R.CORE_ERR_SRAM_COR 1) := by
  change execSramEcc t false addr s = _
  exact released_to hs (if_neg Bool.false_ne_true)

theorem exec_sramEcc_uncorrected {addr : Nat} :
    exec (.sramEcc t true addr) s = .next (((s.at_ t).ringHit addr).err R.CORE_ERR_SRAM_UNC 3 { typ := 0, addr := addr }) := by
  change execSramEcc t true addr s = _
  exact released_to hs (if_pos rfl)

/-! ### Audio and windows -/

/-- 10 R375: a slip moves the input by so many samples that its margin is 24 again. -/
theorem sdiAudioSlip_sets_delta {src : Fin 1024} {margin d : Int} (hdelta : look src.val s.aud.delta = some d) (hout : margin < 8 ∨ 40 < margin) :
    ∃ s', exec (.sdiAudioSlip t src margin) s = .next s' ∧ s'.aud.delta = put src.val (d + (24 - margin)) s.aud.delta := by
  have hdelta' : look src.val (s.at_ t).aud.delta = some d := hdelta
  have hguard : ¬(decide (8 ≤ margin) && decide (margin ≤ 40)) = true := by
    rw [Bool.and_eq_true, decide_eq_true_eq, decide_eq_true_eq]
    omega
  change ∃ s', execSdiAudioSlip t src margin s = _ ∧ _
  rw [execSdiAudioSlip, released_of_awake hs, hdelta']
  dsimp only
  rw [if_neg hguard]
  exact ⟨_, rfl, rfl⟩

theorem exec_inputGap_of_gap {ic : Fin 32768} (hgap : (s.inCh ic).gap = true) :
    exec (.inputGap t ic) s = .next (((s.at_ t).setIn ic { s.inCh ic with gap := false }).bump R.AUD_GAPS 1) := by
  rw [exec_inputGap hs, hgap]
  rfl

theorem exec_winHoldExpiry_of_held {win : Fin 1024} {w : Win} (hw : look win.val s.mv.wins = some w) (hdue : s.winHold (win.val / 64) ≤ w.gap)
    (hshown : w.noSignal = false) : exec (.winHoldExpiry t win) s = .next ((s.at_ t).winSignal win w true) := by
  refine (exec_winHoldExpiry_of_some hs hw).trans (congrArg Host.Outcome.next (if_pos ?_))
  rw [decide_eq_true hdue, hshown]
  rfl

theorem exec_audioSampleArrival_of_window {f : Fin 8192} {slot count i : Nat} {v : Int} {non : Bool}
    (hfind : s.inAddrs.findIdx? (fun a => s.feed a = .flow f slot) = some i) (hlow : s.aud.count ≤ count + s.inDelay f)
    (hhigh : count + s.inDelay f ≤ s.aud.count + 1919) : exec (.audioSampleArrival t f slot count v non) s =
      .next ((s.at_ t).setIn i { s.inCh i with placed := put (count + s.inDelay f) (v, non) (s.inCh i).placed }) :=
  (exec_audioSampleArrival hs hfind).trans (congrArg Host.Outcome.next ((if_neg (not_lt.mpr hlow)).trans (if_neg (not_lt.mpr hhigh))))

/-! ### The Whorl -/

theorem whlRefWaitEnd_ready (hwaits : s.whl.ready = false) : ∃ s', exec (.whlRefWaitEnd t) s = .next s' ∧ s'.whl.ready = true := by
  have hclock := whlRefWaitEnd_clock (s.at_ t)
  simp only [State.clock, Prod.mk.injEq] at hclock
  obtain ⟨_, _, hready⟩ := hclock
  exact ⟨_, exec_whlRefWaitEnd_of_waiting hs hwaits, hready⟩

end

/-! ### The doubling link and the islands -/

theorem exec_dblEvent_of_other {h : DblHead} {e : Event} (hs : s.awake = true) (hgood : h.good = true) (hup : s.dbl.linkUp = true)
    (hrole : s.dbl.role.holds = false) : exec (.dblEvent t h e) s =
      .next ((s.at_ t).event 37 1 0x0502 (beBytes 2 e.code ++ beBytes 1 e.isl ++ beBytes 1 0 ++ e.detail.take 60)) := by
  rw [exec_dblEvent_of_up hs hgood hup, hrole]
  rfl

theorem dblHello_linkUp {h : DblHead} {b : DblHello} (hs : s.awake = true) (hgood : h.good = true) (hup : s.dbl.linkUp = true)
    (hfits : s.twinUnfit b = false) : ∃ s', exec (.dblHello t h b) s = .next s' ∧ s'.dbl.linkUp = true :=
  ⟨_, exec_dblHello_of_fit hs hgood hup hfits, State.twinFits_linkUp⟩

theorem dblConfirm_completes {h : DblHead} {close : Time} (hs : s.awake = true) (hgood : h.good = true) :
    ∃ s', exec (.dblConfirm t h close) s = .next s' := by
  change ∃ s', execDblConfirm t h close s = .next s'
  exact ⟨_, dblFrame_of_good hs hgood _⟩

theorem exec_islandFence_of_inService {isl : Fin 40} (hs : s.inService = true) : exec (.islandFence t isl) s = .next ((s.at_ t).fence isl) := by
  change execIslandFence t isl s = _
  exact served_of_inService hs t _

theorem exec_islandRearmed_of_inService {isl : Fin 40} {good : Bool} (hs : s.inService = true) :
    exec (.islandRearmed t isl good) s = .next ((s.at_ t).rearm isl good) := by
  change execIslandRearmed t isl good s = _
  exact served_of_inService hs t _

end

/-- Settles O60: each of the commands, in the order of the statement, by the lemma of its meaning. -/
theorem eventsComplete : Obligations.EventsComplete := by
  unfold Obligations.EventsComplete
  refine ⟨fun t torn report copy s hpins => resetFall_completes hpins, fun t s hs => ?starts, fun t p q k i s hs => ?ports,
    fun t s hs => ?audio, fun t isl s hs => ?errors, fun t close h s hs hgood hup => ?doubling, fun t tie since w s hs => ?loss,
    fun t isl good s hs => ?islands⟩
  case starts =>
    exact ⟨exec_dramTrainingDone_shows hs, whlRefWaitEnd_ready hs, fun _ => exec_mergeHoleTimeout_of_live hs,
      fun _ _ _ hleg hjoined hlive hdown hdue => exec_legDown_of_due hs hleg hjoined hlive hdown hdue,
      fun _ _ _ _ hleg hrec hidle howner hdue => exec_idleReleaseExpiry_of_due hs hleg hrec hidle howner hdue, exec_reportRepeat_of_awake hs⟩
  case ports =>
    exact ⟨fun _ hpaused hbit hdue => exec_pauseWatchdog_of_due hs hpaused hbit hdue, exec_qignoreEnd_of_due hs, exec_beFrameAged_of_awake hs,
      exec_counterHalf_of_half hs, exec_counterSweep_of_awake hs⟩
  case audio =>
    refine ⟨fun _ _ => exec_audioTick_of_due hs, fun _ _ _ _ _ _ => exec_audioSampleArrival_of_window hs, fun _ => exec_inputGap_of_gap hs,
      fun _ _ _ => sdiAudioSlip_sets_delta hs, fun _ => exec_busIdleEntry_of_still hs, fun _ _ _ _ => exec_windowEngineWrite_of_shown hs,
      fun _ _ => exec_winHoldExpiry_of_held hs, fun _ => exec_refQualify_of_may hs, fun _ _ => exec_refDisqualify_of_pulse hs,
      fun _ _ => exec_wtrExpiry_of_due hs⟩
  case errors =>
    exact ⟨fun _ _ _ _ _ _ => exec_errorLineOccurrence_of_awake hs, exec_currentBitExpiry_of_live hs, exec_fltCheck_of_awake hs,
      fun _ _ _ haccess => ⟨_, exec_islandError_of_bit hs haccess, rfl⟩, fun _ => exec_tempSample_of_awake hs, fun _ _ => exec_lockstep_sets hs,
      fun _ => ⟨exec_sramEcc_corrected hs, exec_sramEcc_uncorrected hs⟩, fun _ _ _ _ => exec_transactionTimeout_of_handshake hs,
      fun _ => ⟨exec_zqRecalibrate hs, fun _ => exec_dgReset hs⟩, fun _ _ _ => exec_pointChangeInstant_of_up hs⟩
  case doubling =>
    have hawake := State.awake_of_inService hs
    exact ⟨fun _ => exec_dblCopy_of_standby hs hgood hup, fun _ _ _ => exec_dblConfirm_of_bulk hs hgood hup,
      fun _ _ _ _ _ => dblConfirm_completes hawake hgood, fun _ => exec_dblNack_of_first hs hgood hup, fun _ => dblHello_linkUp hawake hgood hup,
      exec_dblBeat_of_none hs hgood hup, exec_dblBeatSend_of_up hawake hup, fun _ _ _ _ _ => exec_dblBulk_of_joining hs hgood hup,
      exec_dblHandoff_datagram hs hgood hup, fun _ => exec_dblEvent_of_other hawake hgood hup, exec_dblYield_of_standby hs hgood,
      fun _ _ => exec_claim_of_other hs hup⟩
  case loss =>
    have hawake := State.awake_of_inService hs
    exact ⟨fun hup => ⟨exec_dblLinkLoss_of_standby hawake hup, exec_dblLinkLoss_of_active hawake hup, exec_dblLinkLoss_of_solo hawake hup⟩,
      fun hread => ⟨exec_tieInChange_of_active hs hread, exec_tieInChange_of_standby hs hread⟩⟩
  case islands =>
    exact ⟨fun _ _ _ => exec_islandFence_of_inService hs, fun _ => exec_islandRearmed_of_inService hs, exec_spnReset_of_reset hs,
      exec_spnReset_of_live hs, exec_bootReset_of_live hs⟩

end Sys2Proof.Machine
